-- ==== Sys2Proof/Word.lean ====
section
/-! DEFINITION. The word types of the GV9400: device registers are 32-bit words (R31), bytes are 8 bits (R8),
pairs are 64 bits (the register-pair rules R40-R42). -/
namespace Sys2Proof

/-- One device register (R31: registers are 32 bits wide). -/
abbrev Word := BitVec 32
/-- One byte of memory, frame or flit (R8). -/
abbrev Byte := BitVec 8
/-- One 64-bit value: a register pair, a FAIL record cell, an accumulator (R35, R68). -/
abbrev DWord := BitVec 64

end Sys2Proof
end

