-- ==== Sys2Proof/Syntax.lean ====
section
/-! DEFINITION. The commands the GV9400 takes: one constructor of Instr per row of spec/opcode_table.json, with the
row's operands, and the types of those operands. -/
namespace Sys2Proof

/-- Response codes of register, ring and host accesses, R10. -/
inductive Rsp where
  | ok | fault | noTarget | denied | inReset | poisoned
  deriving DecidableEq, Repr

/-- Who asks: the master ID and the site code that every access carries (R17, R32). -/
structure Req where
  mid : BitVec 12
  sid : BitVec 7
  deriving DecidableEq, Repr

/-- Operating modes, R25. -/
inductive Mode where
  | fallow | market | harvest
  deriving DecidableEq, Repr

/-- A hardware update of a register field in the same cycle as a software access (R43). -/
inductive HwUpd where
  /-- hardware sets status bits -/
  | setBits (mask : Word)
  /-- hardware clears bits: a flag, a control bit on an error, a start bit on completion -/
  | clrBits (mask : Word)
  /-- hardware counts events in a counter -/
  | count (n : Nat)
  /-- hardware writes a field or advances a pointer -/
  | write (hi lo v : Nat)
  deriving DecidableEq, Repr

/-- One input signal of a crossbar destination: a source of R60. -/
inductive XSrc where
  | o (i : Fin 16) | q (i : Fin 16) | block (l : Fin 32) | field (f : Fin 16)
  deriving DecidableEq, Repr

/-- A clock line: one of the field's four clocks, inverted or not (R52). -/
structure ClkSel where
  ck : Fin 4
  inv : Bool
  deriving DecidableEq, Repr

/-- Flip-flop data source, R51. -/
inductive DSrc where
  | lut | bx | comb
  deriving DecidableEq, Repr

/-- Clock-enable source, R51. -/
inductive CeSel where
  | always | ce0 | ce1
  deriving DecidableEq, Repr

/-- Set/reset source, R51. -/
inductive SrSel where
  | none | sr0 | sr1
  deriving DecidableEq, Repr

/-- Carry-in select of a cluster, R59. -/
inductive CinSel where
  | zero | one | cin | prev
  deriving DecidableEq, Repr

/-- Configuration of one cell (R51), with the crossbar selects of its five inputs (R60) and the largest combine stage
it presents at O (0 none, R63). -/
structure CellCfg where
  mask : BitVec 16
  arith : Bool
  dsrc : DSrc
  ckb : Bool
  cesel : CeSel
  srsel : SrSel
  async : Bool
  srval : Bool
  init : Bool
  a : XSrc
  b : XSrc
  c : XSrc
  d : XSrc
  bx : XSrc
  stage : Fin 7
  deriving DecidableEq, Repr

/-- Configuration of one cluster: clock lines (R52), control lines and combine selects (R53, R60, R62), carry-in select
(R59), and what its 32 block lines (cluster, Q or O) and 16 field lines (tap f + 16m) select (R65). -/
structure ClusterCfg where
  cka : ClkSel
  ckb : ClkSel
  ce0 : XSrc
  ce1 : XSrc
  sr0 : XSrc
  sr1 : XSrc
  cin : XSrc
  cinSel : CinSel
  sel : List XSrc
  blockLine : List (Fin 16 × Bool)
  fieldLine : List (Fin 6)
  deriving DecidableEq, Repr

/-- A routing track of a field (R87): a segment by direction, index and start (row, column), or a field-long
track of a row or column. A segment that starts at a stile band has its start beyond the edge (R97). Column 32 + `i` of a vertical track is
the `i`-th special column (R86, R91). -/
inductive Track where
  | l4 (dir : Fin 4) (idx : Fin 8) (row col : Int)
  | l16 (dir : Fin 4) (idx : Fin 2) (row col : Int)
  | longH (row : Int) (idx : Fin 16)
  | longV (col : Int) (idx : Fin 16)
  deriving DecidableEq, Repr

/-- Which of its three targets a field-route driver drives, R89. -/
inductive DrvTarget where
  | len4 | len16 | long
  deriving DecidableEq, Repr

/-- Configuration of a field-route driver (R66): the cluster row and output (Q or O) it selects, and its target. -/
structure DrvCfg where
  row : Fin 4
  isQ : Bool
  target : DrvTarget
  deriving DecidableEq, Repr

/-- MAC operation, R69. -/
inductive MacMode where
  | mul | add | acc | casc
  deriving DecidableEq, Repr

/-- Configuration of a MAC block: clock, mode, registers used (R69, R70), and the track each input bit is tapped from
(A, B 27 bits each, C 64 bits, least significant first). -/
structure MacCfg where
  clk : ClkSel
  mode : MacMode
  inReg : Bool
  prodReg : Bool
  a : List Track
  b : List Track
  c : List Track
  ce : Option Track
  rst : Option Track
  load : Option Track
  sub : Option Track
  deriving DecidableEq, Repr

/-- A signal of a stile channel that enters the fabric (R93): at its sending side, or at its receiving side. -/
inductive StileIn where
  | txReady | txPeerRst | txPeerHalt | rxData (bit : Fin 64) | rxValid | rxPeerRst | rxPeerHalt
  deriving DecidableEq, Repr

/-- A signal of a stile channel that leaves the fabric (R93): at its sending side, or at its receiving side. -/
inductive StileOut where
  | txData (bit : Fin 64) | txValid | rxReady
  deriving DecidableEq, Repr

/-- What drives a track other than a block's driver: a continuation of another track (R90); a signal entering from outside at the edge or from
a hardened port (R97); an output bit of a MAC block (bits 0-63 P, 64 OVF); driver `d` of the port A row or (`portB`) the port B row of a block
memory (R109); a signal of a stile channel, or a level stile, at an edge (R97). -/
inductive TrackSrc where
  | cont (t : Track) | ext (n : Nat) | mac (m : Fin 64) (bit : Nat) | bm (b : Fin 96) (portB : Bool) (d : Fin 64)
  | stile (e : Fin 4) (c : Fin 256) (pin : StileIn) | level (e : Fin 4) (l : Fin 64)
  deriving DecidableEq, Repr

/-- Mode, ports and protection of a block memory, R105-R110, R125. -/
structure BmPort where
  /-- log2 of the port width in bits: 0-6 -/
  width : Fin 7
  /-- 0 read-write, 1 read-only, 2 write-only -/
  dir : Fin 3
  ck : ClkSel
  oreg : Bool
  /-- 0 WRITE_FIRST, 1 READ_FIRST, 2 NO_CHANGE -/
  writeMode : Fin 3
  deriving DecidableEq, Repr

/-- Configuration of a block memory (R106, R112, R114). -/
structure BmCfg where
  ecc : Bool
  queue : Bool
  pa : BmPort
  pb : BmPort
  af : Nat
  ae : Nat
  deriving DecidableEq, Repr

/-- The design a field's configuration holds: the meaning of its configuration frames, whose layout is not published.
Keys: cells 8192y + 256x + 16q + c (R477); clusters and blocks are those numbers div 16 and div 256; drivers block*64 + d;
stile channels edge*256 + channel; level stiles edge*64 + index (values 0, 1, 2 = last held). -/
structure FieldDesign where
  cells : List (Nat × CellCfg) := []
  clusters : List (Nat × ClusterCfg) := []
  drivers : List (Nat × DrvCfg) := []
  tracks : List (Track × TrackSrc) := []
  macs : List (Nat × MacCfg) := []
  bms : List (Nat × BmCfg) := []
  stileW : List (Nat × Nat) := []
  /-- field clock of a channel's sending side and of its receiving side at an edge, R93 -/
  stileTxCk : List (Nat × Fin 4) := []
  stileRxCk : List (Nat × Fin 4) := []
  /-- the track from which the band takes a signal of a channel, or a level stile, R97 -/
  stileOut : List ((Nat × StileOut) × Track) := []
  levelOut : List (Nat × Track) := []
  levelRst : List (Nat × Nat) := []
  ringPort : Bool := false
  granPort : Bool := false
  /-- the field clock of the granary port (R121) -/
  granCk : Fin 4 := 0
  /-- trigger taps (R469) -/
  taps : Bool := false
  /-- direct link ports the image enables (link numbers), R249-R251 -/
  dlp : List Nat := []
  deriving DecidableEq, Repr, Inhabited

/-- How an access relates in time to the other port's last access of the same block memory word (R108). Of two accesses
at one edge of a common clock, port A's command comes first. -/
inductive Coll where
  /-- more than t_COLL apart, or no access to the same word -/
  | apart
  /-- the other port's access was at this same edge of a common clock -/
  | same
  /-- port clocks differ and the edges lie within t_COLL -/
  | within
  deriving DecidableEq, Repr

/-- A patrol engine (R131): a field's, for its BMs, or a granary's. -/
inductive PatrolEng where
  | field (f : Fin 128) | granary (g : Fin 32)
  deriving DecidableEq, Repr

/-- What a Kelk-W group did to a stile word it carried (R552, R557). -/
inductive KelkRes where
  | clean | ce (w : Fin 1792) | ue (w : Fin 1792)
  deriving DecidableEq, Repr

/-- A request offered to a stop (R146, R161): requester, operation code, class code, length in bytes - 1, tag, address and the
data lines of a write. -/
structure RingReq where
  r : Req
  op : BitVec 4
  cls : BitVec 2
  len : BitVec 6
  tag : BitVec 8
  addr : BitVec 48
  data : List (BitVec 512)
  deriving DecidableEq, Repr

/-- A write to LANE_CMD, or the same commands given through the direct link port in raw modes (R255, R618): who gives it, and
the command bits beside the row's own, numbered as in LANE_CMD. -/
inductive LaneSrc where
  | reg (r : Req) (others : BitVec 4)
  | port (others : BitVec 4)
  deriving DecidableEq, Repr

/-- A normal frame as received from SOF to EOF (R205): its data symbols, and whether it is bad under R196 or an SOF arrived
while it was open (R206). -/
structure RxFrame where
  bytes : List Byte
  bad : Bool
  deriving DecidableEq, Repr

/-- The structures of R196 that are open as a received symbol or set arrives: a normal frame; inside or outside it, a Bell copy or an ordered set. -/
structure RxOpen where
  frame : Bool
  inner : Bool
  deriving DecidableEq, Repr

/-- What the error correction of R329 finds in a stored DRAM line as it is read: nothing, a corrected error, an uncorrectable
one, or an error spread so that it goes undetected (the bits it changes). -/
inductive DramEcc where
  | clean | ce | ue | silent (x : BitVec 512)
  deriving DecidableEq, Repr

/-- A request at a DRAM controller (R316-R323): requester, class, WRITE_P, tag, address, bytes of its first line - 1, a burst of
four lines, and the data lines of a write. -/
structure DramReq where
  r : Req
  cls : BitVec 2
  posted : Bool
  addr : BitVec 48
  len : BitVec 6
  burst : Bool
  data : List (BitVec 512)
  deriving DecidableEq, Repr

/-- How the devices served an access: the bank activated for it (R327), the refresh-management commands it led to (R328), the
findings on the lines it read in order (lines of the walk from the top, then MAC and data lines, R352), and the nanoseconds from
reaching the controller to its return. -/
structure DramServe where
  act : Option (Fin 32)
  rfm : Nat
  ecc : List DramEcc
  lat : Nat
  deriving DecidableEq, Repr

/-- What a FIELD section and its BMINIT sections hold, decrypted (R488): the design of the frames, field clock settings, the mode
of each BM (0 UNUSED, 1 ZERO, 2 INIT, 3 RETAIN), the data of INIT BMs; and of the image: the startup steps with their delays in 10 ns, the
key selection and IMAGE_ID (R486). -/
structure FieldImg where
  design : FieldDesign
  mult : Nat
  div : List Nat
  ckEn : Nat
  bmMode : List (Fin 4)
  bmInit : List (Nat × List (BitVec 64))
  startup : List (Fin 4 × BitVec 16)
  keySel : Fin 3
  id : BitVec 32
  deriving DecidableEq, Repr

/-- A section of an image as pass 1 finds it (R487, R491): type and target, GANG, whether offset and length are within the image, whether
digest and tag pass, whether its frames keep R64, R89 and R112, and the field image of a FIELD section. -/
structure ImgSect where
  typ : BitVec 8
  target : BitVec 16
  gang : BitVec 16
  lenOk : Bool
  digestOk : Bool
  tagOk : Bool
  img : Option FieldImg
  deriving DecidableEq, Repr

/-- An image as pass 1 reads it (R486, R491): header words right, STARTUP, STEPPINGS, GRADE, SIG_KIND, whether the signature passes
R489, KEY_SEL, IMAGE_ID and its sections. -/
structure CfgImage where
  hdrOk : Bool
  startup : List (Fin 4 × BitVec 16)
  steppings : BitVec 2
  grade : BitVec 8
  sigKind : BitVec 8
  sigOk : Bool
  keySel : BitVec 8
  id : BitVec 32
  sects : List ImgSect
  deriving DecidableEq, Repr

/-- The provisioning block of VENDOR to OWNED (R435): hashes of the owner's image and debug keys, of the forerunner key (0 none), the
forerunner password (0 none), the flags, the configuration key as decrypted, whether its tag passes, and whether each row blown senses
correctly (R433). -/
structure LcProv where
  img : BitVec 384
  dbg : BitVec 384
  fr : BitVec 256
  pwd : BitVec 128
  flags : Word
  fkey : BitVec 256
  tagOk : Bool
  rowsOk : Bool
  deriving DecidableEq, Repr

/-- A life-cycle authorisation (R434): its header fields, the SHA-384 of SIGNER, and its provisioning block. -/
structure LcAuth where
  magic : Word
  uid : BitVec 64
  src : BitVec 8
  dst : BitVec 8
  provLen : Word
  signer : BitVec 384
  prov : LcProv
  deriving DecidableEq, Repr

/-- What an authentication command's buffer works out to outside the model's arithmetic (R464, R467, R468): the SHA-384 of the public key it
presents, whether its tag matches, the key it carries as decrypted. -/
structure AuthIn where
  signer : BitVec 384
  tagOk : Bool
  key : BitVec 256
  deriving DecidableEq, Repr

/-- How an I2C transaction ends (R570): normally, with a NACK to the address or a written byte, by loss of arbitration, or with the bus
stuck. -/
inductive I2cEnd where
  | ok | nackAddr | nackData | arbLost | busStuck
  deriving DecidableEq, Repr

/-- An entry of a patch record (R428, R429): in the Commons code region rather than the Reeve ROM, action TRAP, patch RAM slot, word. -/
structure PatchEnt where
  commons : Bool
  trap : Bool
  slot : Fin 32
  word : BitVec 19
  deriving DecidableEq, Repr

/-- A patch record (R429): whether its signature verifies, LEVEL, entries and the contents of the patch RAM. -/
structure PatchRec where
  sigOk : Bool
  level : BitVec 16
  ents : List PatchEnt
  ram : List (BitVec 256)
  deriving DecidableEq, Repr

/-- What a start finds of a DRAM channel (R315, R333, R334): DDR_CTRL as its SPD gives it, set-point rates of the preset (none: as after
reset), speed bin in MT/s, whether its devices need refresh management, the set points with working settings, whether a warm start restored
them, and then the mode of the load at which they were trained. -/
structure ChanStart where
  c : Fin 12
  ctrl : Word
  rates : List (BitVec 16)
  bin : BitVec 16
  rfm : Bool
  trained : BitVec 3
  restored : Bool
  posture : Fin 3
  deriving DecidableEq, Repr

/-- The settings that a lane's equalisers adapt to: CTLE and the first DFE tap (R185, R186). -/
structure LaneStart where
  lane : Fin 512
  ctle : BitVec 4
  dfe : BitVec 8
  deriving DecidableEq, Repr

/-- A Commons slot as the Reeve finds it (R426): signature, digest and LEN in order, SEQ, SVN, version. -/
structure SlotIn where
  ok : Bool
  seq : Word
  svn : Word
  ver : Word
  deriving DecidableEq, Repr

/-- What a step of a start finds outside the model's state (R509-R513): boot settings of the training cache; a rail group out of range; the
gang's CONF_DONE high; the 4 KiB read from flash as copies A and B of the directory (R484); the Reeve boot configuration verified, its binding table
(none: the allocation of R384) and tamper settings; the stored patch record; wires found failing by bundle and by group; the DRAM
channels; the lanes with a partner present and the settings their equalisers adapt to under the posture (R186); the Commons slots; the subsystem IDs (R363). -/
structure StartIn where
  boot : Option Word
  rail : Option (Fin 5)
  gangUp : Bool
  cfgOk : Bool
  bind : List Word
  tamper0 : Word
  tamper1 : Word
  dirA : List Byte
  dirB : List Byte
  patch : Option PatchRec
  wiresS : List (Nat × List Nat)
  wiresW : List (Nat × List Nat)
  chans : List ChanStart
  lanes : List LaneStart
  slotA : SlotIn
  slotB : SlotIn
  subsys : Word
  deriving DecidableEq, Repr

/-- The commands of the GV9400: one constructor per row of spec/opcode_table.json. -/
inductive Instr where
  /-- REGISTER_WRITE (R33). A write to a device register that has no row of its own takes effect in one block-clock cycle and resolves against same-cycle hardware updates. -/
  | registerWrite (r : Req) (a : BitVec 48) (data : List Byte) (hw : List (Nat × HwUpd))
  /-- RC_REGISTER_READ (R45). A read of an RC field returns its value and clears only what it returned. -/
  | rcRegisterRead (r : Req) (a : BitVec 48) (len : Nat) (hw : List (Nat × HwUpd))
  /-- PAIR_LO_READ (R40). A read of the _LO register of a pair returns the low half and latches the high half for its requester kind or MID. -/
  | pairLoRead (r : Req) (a : BitVec 48) (wide : Bool)
  /-- COUNTER_PAIR_LO_WRITE (R42). A write to the _LO register of a counter pair is staged until the next _HI write of the same requester kind. -/
  | counterPairLoWrite (r : Req) (a : BitVec 48) (v : Word)
  /-- COUNTER_PAIR_HI_WRITE (R42). A write to the _HI register of a counter pair takes effect together with any staged low half, keeping events of that cycle. -/
  | counterPairHiWrite (r : Req) (a : BitVec 48) (v : Word) (events : Nat)
  /-- FCK_APPLY (R79). Writing GO to FCK_APPLY applies the staged field clock settings or is refused. -/
  | fckApply (r : Req) (f : Fin 128) (v : Word)
  /-- FIELD_CLOCK_RESTART (R80). After an accepted apply, the field's enabled clocks restart on a common VCO edge once the dividers are loaded and the PLL has locked. -/
  | fieldClockRestart (f : Fin 128)
  /-- STILE_SEND (R94). The sending side accepts a word on a stile channel, using one credit. -/
  | stileSend (f : Fin 128) (e : Fin 4) (c : Fin 256) (w : DWord)
  /-- STILE_WORD_ARRIVE (R95). A stile word arrives at the receiving side within D_min to D and is presented from the second receiver edge. -/
  | stileWordArrive (f : Fin 128) (e : Fin 4) (c : Fin 256) (k : KelkRes)
  /-- STILE_CONSUME (R94). The receiving side consumes a stile word and returns its credit. -/
  | stileConsume (f : Fin 128) (e : Fin 4) (c : Fin 256)
  /-- STILE_CREDIT_RETURN (R96). A returned credit reaches the sender and becomes usable at its second sender edge. -/
  | stileCreditReturn (f : Fin 128) (e : Fin 4) (c : Fin 256)
  /-- LEVEL_STILE_CHANGE (R98). A change of a level stile reaches the receiver and appears at the second receiver edge after arrival. -/
  | levelStileChange (f : Fin 128) (e : Fin 4) (l : Fin 64) (v : Bool)
  /-- BM_PORT_READ (R107). A BM port read presents the addressed entry at DOUT one or two cycles later, checked by the code. -/
  | bmPortRead (f : Fin 128) (b : Fin 96) (portB : Bool) (addr : BitVec 16) (regce rsto rmw : Bool) (coll : Coll)
  /-- BM_PORT_WRITE (R107). A BM port write stores the entry or its enabled bytes and updates DOUT by WRITE_MODE. -/
  | bmPortWrite (f : Fin 128) (b : Fin 96) (portB : Bool) (addr : BitVec 16) (din : DWord) (bwe : BitVec 8) (regce rsto rmw : Bool) (coll : Coll)
  /-- BM_QUEUE_PUSH (R113). In queue mode a port A edge with EN and WE pushes an entry unless FULL. -/
  | bmQueuePush (f : Fin 128) (b : Fin 96) (din : DWord)
  /-- BM_QUEUE_POP (R113). In queue mode a port B edge with EN pops the oldest entry unless EMPTY. -/
  | bmQueuePop (f : Fin 128) (b : Fin 96) (regce rsto : Bool)
  /-- QUEUE_FLAG_UPDATE (R114). In dual-clock mode a push or pop reaches the other side's count within 3 of its cycles and updates its flags. -/
  | queueFlagUpdate (f : Fin 128) (b : Fin 96) (writeSide : Bool)
  /-- QRST (R115). QRST high empties the queue and holds it empty for 3 cycles of each port clock after it falls. -/
  | qrst (f : Fin 128) (b : Fin 96) (high : Bool) (cyclesA cyclesB : Nat)
  /-- GRANARY_REQUEST (R122). A field port accepts a granary request word, with its write beats for a WRITE. -/
  | granaryRequest (f : Fin 128) (gq : Word) (beats : List (BitVec 128 × BitVec 16))
  /-- GRANARY_BANK_ACCESS (R119). A granary bank performs the access that wins its round-robin arbitration in a granary cycle. -/
  | granaryBankAccess (g : Fin 32) (bank : Fin 4)
  /-- GRANARY_READ_BEAT (R122). A granary read beat is presented on GR in request order, with GR_LAST on the last beat. -/
  | granaryReadBeat (f : Fin 128)
  /-- BM_PATROL_READ (R131). The field's patrol engine reads the next ECC-on BM word in an idle cycle and reports any error. -/
  | bmPatrolRead (f : Fin 128)
  /-- GR_PATROL_READ (R131). A granary's patrol engine reads the next quarter in a cycle the bank has no request and reports any error. -/
  | grPatrolRead (g : Fin 32)
  /-- PATROL_LATE (R131). A patrol sweep that runs over PERIOD sets PATROL_LATE and carries on. -/
  | patrolLate (e : PatrolEng)
  /-- BM_REWRITE (R131). Writing GO to BM_REWRITE reads, corrects and writes back one BM word atomically. -/
  | bmRewrite (r : Req) (f : Fin 128) (v : Word)
  /-- GR_REWRITE (R131). Writing GO to GR_REWRITE reads, corrects and writes back one granary quarter over two bank cycles. -/
  | grRewrite (r : Req) (g : Fin 32) (v : Word)
  /-- BM_FLIP_ARM (R132). Setting ARM in BM_FLIP_CTRL makes the next write to the named BM store its bits XOR the flip mask. -/
  | bmFlipArm (r : Req) (f : Fin 128) (v : Word)
  /-- GR_FLIP_ARM (R132). Setting ARM in GR_FLIP_CTRL makes the first quarter of the next granary write store its bits XOR the flip mask. -/
  | grFlipArm (r : Req) (g : Fin 32) (v : Word)
  /-- BM_REMAP_WRITE (R134). Writing VALID to an invalid BM remap entry starts copying the word into a spare, or is refused. -/
  | bmRemapWrite (r : Req) (f : Fin 128) (j : Fin 384) (v : Word)
  /-- BM_REMAP_COPY_DONE (R134). The remap copy of a BM word completes and the entry activates between two accesses. -/
  | bmRemapCopyDone (f : Fin 128) (j : Fin 384)
  /-- GR_REMAP_WRITE (R134). Writing VALID to an invalid granary remap entry starts copying the line into a spare, or is refused. -/
  | grRemapWrite (r : Req) (g : Fin 32) (j : Fin 16) (v : Word)
  /-- GR_REMAP_COPY_DONE (R134). The remap copy of a granary line completes and the entry activates. -/
  | grRemapCopyDone (g : Fin 32) (j : Fin 16)
  /-- BM_DEBUG_ACCESS (R136). A debug-window access to a BM takes a cycle in which a port has EN low. -/
  | bmDebugAccess (r : Req) (f : Fin 128) (b : Fin 96) (word : Fin 1024) (hi4 : Option Bool) (wr : Option DWord)
  /-- BM_DEBUG_FORCED_STALL (R136). After 64 busy cycles the field's clocks are held low for one cycle so the waiting debug access can proceed. -/
  | bmDebugForcedStall (f : Fin 128)
  /-- GR_DEBUG_STEAL (R137). After 64 busy cycles of its bank a granary debug access takes the next cycle ahead of round-robin. -/
  | grDebugSteal (g : Fin 32) (bank : Fin 4)
  /-- RING_REQUEST_INJECT (R161). A source stop decodes a request and injects it onto the ring, or answers FAULT or NOTARGET itself. -/
  | ringRequestInject (q : RingReq)
  /-- RING_FLIT_ARRIVE (R148). A flit reaches a junction or consuming stop, which checks its header and CRC and its firewall before acting on it. -/
  | ringFlitArrive (k : Nat) (flips : BitVec 656) (bundle : Option (Fin 160)) (drained : Nat)
  /-- RING_RESPONSE_TIMEOUT (R149). An outstanding request with no response after RSP_TMO completes POISONED and is counted. -/
  | ringResponseTimeout (mid : BitVec 12) (tag : BitVec 8)
  /-- RING_CREDIT_RETURN (R150). A credit returns on the credit rail when a flit leaves a receiving queue. -/
  | ringCreditReturn (sender receiver : BitVec 11) (cls : BitVec 2)
  /-- RING_INJECT_HOLD (R154). A stop whose ordinary injection has waited 64 cycles raises a hold so upstream leaves an empty slot. -/
  | ringInjectHold (stop : BitVec 11)
  /-- BELL_REQUEST (R156). A requester offers a Bell packet at its stop, which checks EN and DEST or answers DENIED or FAULT. -/
  | bellRequest (q : RingReq)
  /-- BELL_ADMIT (R157). A waiting Bell packet is admitted at most once per 40 ns per stop and enters a slot. -/
  | bellAdmit (stop : BitVec 11)
  /-- RING_BELL_CTRL_WRITE (R157). A write to RING_BELL_CTRL sets Bell EN and DEST; clearing EN discards flits waiting for admission. -/
  | ringBellCtrlWrite (r : Req) (stop : BitVec 11) (v : Word)
  /-- FIELD_RING_INITIATE (R167). A field ring port accepts an initiator request from the fabric and sends it to its stop. -/
  | fieldRingInitiate (f : Fin 128) (iq : BitVec 68) (beats : List (BitVec 128))
  /-- FIELD_RING_TARGET_RESPONSE (R167). The design in a field answers a target request on TR, in request order. -/
  | fieldRingTargetResponse (f : Fin 128) (tag : BitVec 8) (code : BitVec 3) (data : List (BitVec 512))
  /-- QPLL_CTRL_WRITE (R172). A QPLL_CTRL write changes the quad PLLs as a whole or is refused. -/
  | qpllCtrlWrite (r : Req) (q : Fin 128) (v : Word)
  /-- QPLL_LOCK (R172). A quad PLL locks within 50 µs of its enable or a change of N. -/
  | qpllLock (q : Fin 128) (pll1 : Bool)
  /-- LANE_CTRL_WRITE (R173). A LANE_CTRL write sets EN, mode, PLL and divider, restarting bring-up, or is refused by the lane limit. -/
  | laneCtrlWrite (r : Req) (l : Fin 512) (v : Word)
  /-- LANE_SIGNAL_DETECT (R178). SIG_DET rises on a lane in WAIT_SIGNAL and the lane moves to LOCKING. -/
  | laneSignalDetect (l : Fin 512)
  /-- LANE_SIGNAL_LOSS (R178). SIG_DET stays low for 1 µs and the lane returns to WAIT_SIGNAL. -/
  | laneSignalLoss (l : Fin 512)
  /-- LANE_CDR_LOCK (R176). The CDR locks with its PLL locked and the lane moves to ADAPTING. -/
  | laneCdrLock (l : Fin 512)
  /-- LANE_LOSS_OF_LOCK (R176). Loss of CDR lock is detected, sets LOL and returns the lane to LOCKING. -/
  | laneLossOfLock (l : Fin 512)
  /-- LANE_ADAPT_DONE (R180). After 2 ms of ADAPTING the eye check moves the lane to ALIGNING or PRBS, or to DOWN with cause EYE. -/
  | laneAdaptDone (l : Fin 512) (width : BitVec 6) (height : BitVec 10) (ctle : BitVec 4) (dfe : BitVec 8)
  /-- LANE_DOWN_REARM (R179). SIG_DET low for 10 µs re-arms a lane in DOWN, except with cause REFCLK, and it returns to WAIT_SIGNAL. -/
  | laneDownRearm (l : Fin 512)
  /-- SLIP (R181). LANE_CMD SLIP moves the receive symbol boundary one UI later. -/
  | slip (l : Fin 512) (src : LaneSrc)
  /-- SLIP_SETTLE (R181). A slip takes effect within 16 symbol times and SLIP_BUSY falls, opening any waiting window. -/
  | slipSettle (l : Fin 512)
  /-- WIN_START (R182). LANE_CMD WIN_START opens a 1,024-symbol alignment window at the current boundary. -/
  | winStart (l : Fin 512) (src : LaneSrc)
  /-- ALIGN_WINDOW_CLOSE (R182). An alignment window closes, holding COM_WIN and ERR_WIN and setting WIN_DONE. -/
  | alignWindowClose (l : Fin 512) (com err : Fin 1025)
  /-- ALIGN_DONE (R618). LANE_CMD ALIGN_DONE ends the search and moves the lane to CHECKING, or to UP in raw modes. -/
  | alignDone (l : Fin 512) (src : LaneSrc)
  /-- ALIGN_FAIL (R618). LANE_CMD ALIGN_FAIL ends the search and moves the lane to DOWN with cause ALIGN. -/
  | alignFail (l : Fin 512) (src : LaneSrc)
  /-- LANE_RX_SYMBOL (R175). A received symbol is decoded and passed through the elastic buffer, with violations and disparity errors counted. -/
  | laneRxSymbol (l : Fin 512) (sym : BitVec 10) (reads : Fin 3) (o : RxOpen)
  /-- LANE_CHECK_DONE (R180). 16,777,216 clean symbols in CHECKING move the lane to UP and start the link's HELLO_WAIT. -/
  | laneCheckDone (l : Fin 512)
  /-- LANE_TXEQ_WRITE (R184). A LANE_TXEQ write sets the transmit equaliser, taking effect at a symbol boundary within 1 µs. -/
  | laneTxeqWrite (r : Req) (l : Fin 512) (v : Word)
  /-- LANE_EQ_TRACK (R185). Receive equaliser tracking moves CTLE by at most one code per 1 ms unless frozen. -/
  | laneEqTrack (l : Fin 512) (up down : Bool) (dfe : BitVec 8)
  /-- LANE_EYE_REFRESH (R189). The eye monitor refreshes LANE_EYE every 1 ms. -/
  | laneEyeRefresh (l : Fin 512) (width : BitVec 6) (height : BitVec 10)
  /-- RAW_WORD_TX (R187). In raw-lane mode a word from the direct link port is transmitted, or fill symbols are sent when none is offered. -/
  | rawWordTx (l : Fin 512) (w : Option (BitVec 80))
  /-- RAW_WORD_RX (R187). In raw-lane mode a received 8-symbol word is passed to the direct link port. -/
  | rawWordRx (l : Fin 512) (w : BitVec 80) (reads : Fin 17)
  /-- COM_WATCHDOG (R198). No K28.5 for 4,096 symbols in HELLO_WAIT or ACTIVE moves the link to HELLO_WAIT with cause COM_LOST. -/
  | comWatchdog (l : Fin 512)
  /-- SKP_RECEIVE (R194). A received SKP ordered set, or a misplaced K28.6 run, is removed from the stream. -/
  | skpReceive (l : Fin 512) (afterCom : Bool) (run : Nat) (o : RxOpen)
  /-- LINK_SET_RECEIVE (R210). A received LINK ordered set releases acknowledged frames, updates credit limits, triggers replay on NAK, or restarts on RST. -/
  | linkSetReceive (l : Fin 512) (set : BitVec 48) (bad inFrame : Bool)
  /-- TIME_SET_RECEIVE (R221). A received TIME ordered set is checked, and a matching RSP completes the round-trip computation and SET. -/
  | timeSetReceive (l : Fin 512) (set : BitVec 96) (bad inFrame : Bool) (ph : Fin 256) (wait : Nat)
  /-- NORMAL_FRAME_RECEIVE (R208). A normal frame ending in EOF is checked and delivered in sequence, discarded as duplicate, or NAKed. -/
  | normalFrameReceive (l : Fin 512) (f : RxFrame)
  /-- HELLO_GRANT (R204). The FCU grants channels for an acceptable HELLO within 400 ns, keeping or replacing the retained grant, and HELLO_ACK is queued. -/
  | helloGrant (l : Fin 512)
  /-- FRAME_ABORT_RECEIVE (R206). A normal frame that ends in ABORT is void, discarded and counted in ABORT_RX_CNT. -/
  | frameAbortReceive (l : Fin 512)
  /-- STRAY_SYMBOL_RECEIVE (R619). A symbol received while no structure is open that starts none is discarded and counted in FRAME_ERR_CNT. -/
  | straySymbolReceive (l : Fin 512) (o : RxOpen)
  /-- BELL_COPY_RECEIVE (R214). A received Bell frame copy is delivered, discarded as duplicate, or counted bad under the LAST rule. -/
  | bellCopyReceive (l : Fin 512) (f : RxFrame) (second inFrame : Bool)
  /-- NORMAL_FRAME_TRANSMIT (R211). The link layer starts a new normal frame once it holds credit and replay-buffer room, placing it in the replay buffer. -/
  | normalFrameTransmit (l : Fin 512) (ty : BitVec 4)
  /-- BELL_FRAME_TRANSMIT (R215). A waiting Bell frame takes the next BSEQ and is sent twice, preempting a normal frame in progress. -/
  | bellFrameTransmit (l : Fin 512)
  /-- SKP_TRANSMIT (R197). An SKP ordered set falls due after 1,024 symbols and is sent once the structures allowed ahead of it end. -/
  | skpTransmit (l : Fin 512)
  /-- LINK_SET_TRANSMIT (R209). The receiver sends a LINK set within 64 symbols of a delivery and at least once every 1,024 symbols. -/
  | linkSetTransmit (l : Fin 512)
  /-- NAK_REPEAT (R208). While NAKED, a further NAK is sent after 2,048 symbols without the expected frame. -/
  | nakRepeat (l : Fin 512)
  /-- REPLAY_TIMEOUT (R210). The oldest unacknowledged frame waits REPLAY_TMO symbol times and the transmitter replays. -/
  | replayTimeout (l : Fin 512)
  /-- LINK_RESTART (R200). Writing RESTART to LINK_CFG moves the link to RESYNC. -/
  | linkRestart (r : Req) (l : Fin 512) (v : Word)
  /-- RESYNC_PERIOD_END (R200). After 2 µs of RESYNC the link moves to HELLO_WAIT, or to FAILED after 4 entries within 1 s. -/
  | resyncPeriodEnd (l : Fin 512)
  /-- TIME_EXCHANGE_DUE (R221). At each due time of an ACTIVE link with TIME_RX, a TIME exchange starts if enabled and none is in progress. -/
  | timeExchangeDue (l : Fin 512) (ph : Fin 256)
  /-- TIME_RSP_TIMEOUT (R221). No RSP within 10 µs ends the TIME exchange without a SET, counted in TIME_TMO_CNT. -/
  | timeRspTimeout (l : Fin 512)
  /-- HOLD_QUEUE_RELEASE (R223). A held DATA or CTRL frame is released when the TTC copy reaches its APPLY, or at once when late or out of range. -/
  | holdQueueRelease (l : Fin 512)
  /-- LINK_CTRL_GO (R229). Writing GO to LINK_CTRL_CMD sends one CTRL READ or WRITE to the partner, or completes at once with FAULT or LINKDOWN. -/
  | linkCtrlGo (r : Req) (l : Fin 512) (v : Word)
  /-- LINK_CTRL_TIMEOUT (R230). A CTRL request with no response after 100 µs completes with TIMEOUT. -/
  | linkCtrlTimeout (l : Fin 512)
  /-- LINK_OWNER_WRITE (R224). A write to LINK_OWNER sets the owner and INJ; clearing INJ disables both injectors and sends any held frame. -/
  | linkOwnerWrite (r : Req) (l : Fin 512) (v : Word)
  /-- LINK_FI_TX_WRITE (R228). A write to LINK_FI_TX configures the transmit injector, loading the LFSR when EN rises. -/
  | linkFiTxWrite (r : Req) (l : Fin 512) (v : Word)
  /-- LINK_FI_RX_WRITE (R228). A write to LINK_FI_RX configures the receive injector, loading the LFSR when EN rises. -/
  | linkFiRxWrite (r : Req) (l : Fin 512) (v : Word)
  /-- REORDER_HOLD_EXPIRE (R225). A frame held for REORDER is sent after 1,024 symbols when no normal frame follows. -/
  | reorderHoldExpire (l : Fin 512)
  /-- FAIL_ENTRY_APPLY (R237). The FCU applies a FAIL entry to its channel record, capturing a first fail, and forwards it as enabled. -/
  | failEntryApply (l : Fin 512) (ue mue : Bool)
  /-- FAIL_LOG_WRITE (R244). The FCU writes up to 4 log entries of a link as one Bulk WRITE, or a partial line after 1 µs. -/
  | failLogWrite (l : Fin 512) (ue : BitVec 4)
  /-- FAIL_LOG_WRITE_DONE (R244). A log write returns and LR_LOG_WPTR advances on OK, or LOG_ERR is set. -/
  | failLogWriteDone (l : Fin 512) (code : Rsp)
  /-- FCU_FAB_FORWARD (R246). The FCU forwarding agent writes 1–4 entries of a link to the fabric as a Bulk WRITE_P. -/
  | fcuFabForward (l : Fin 512) (ue : BitVec 4)
  /-- FCU_CLR (R241). Writing GO to FCU_CLR starts clearing a range of granules. -/
  | fcuClr (r : Req) (n : Fin 32) (v : Word)
  /-- FCU_CLR_DONE (R241). The last granule of a clear is cleared and CLR_DONE is set. -/
  | fcuClrDone (n : Fin 32)
  /-- FCU_GRAN_WRITE (R232). A write to FCU_GRAN sets a free granule's site or is refused for a held granule. -/
  | fcuGranWrite (r : Req) (n : Fin 32) (g : Fin 512) (v : Word)
  /-- FCU_RECORD_READ (R240). A read of word 0 of a record returns the count and latches words 1–3 in the window latch. -/
  | fcuRecordRead (r : Req) (n : Fin 32) (rn : Fin 32768)
  /-- FCU_RECORD_WRITE (R241). A write to word 1 of a record changes INC_TALLY and INC_FWD only. -/
  | fcuRecordWrite (r : Req) (n : Fin 32) (rn : Fin 32768) (v : Word)
  /-- LR_CTRL_WRITE (R246). A write to LR_CTRL sets a link's routing; clearing FAB_EN discards its queued fabric entries. -/
  | lrCtrlWrite (r : Req) (l : Fin 512) (v : Word)
  /-- LR_LOG_CONFIG_WRITE (R244). A write to LR_CFG or LR_LOG_BASE sets LR_LOG_WPTR to LR_LOG_RPTR and drops queued log entries. -/
  | lrLogConfigWrite (r : Req) (l : Fin 512) (w : Fin 3) (v : Word)
  /-- MATCH_REPORT_APPLY (R257). The FCU applies a MATCH report to the match array and the tally group's step. -/
  | matchReportApply (l : Fin 512)
  /-- TALLY_STEP_TIMEOUT (R259). A group OPEN for TMO µs closes with TIMEOUT. -/
  | tallyStepTimeout (g : Fin 64)
  /-- TALLY_RESULT_BROADCAST (R261). The tally result reaches every link layer of the group and the fabric within 180 ns. -/
  | tallyResultBroadcast (g : Fin 64)
  /-- TALLY_CTRL_WRITE (R266). A write to TALLY_CTRL sets the group; clearing EN closes an open step without a result. -/
  | tallyCtrlWrite (r : Req) (g : Fin 64) (v : Word)
  /-- DLP_TX_BEAT (R251). A direct link port accepts a transmit beat of a DATA frame from the fabric. -/
  | dlpTxBeat (f : Fin 128) (port : Fin 32) (d : DWord) (last : Bool)
  /-- DLP_RX_DELIVER (R250). A DATA, FAIL or tally packet is delivered as beats on a direct link port within its latency. -/
  | dlpRxDeliver (l : Fin 512) (n : Fin 64) (ue : Bool)
  /-- LINK_RX_RING_WRITE (R252). The link layer writes a released DATA frame to LR_RX_ADDR as Bulk WRITE_P flits. -/
  | linkRxRingWrite (l : Fin 512)
  /-- LINK_TX_FETCH (R253). The link layer issues a READ_BURST to LR_TX_ADDR while it holds credit and space, or after TX_POLL when idle. -/
  | linkTxFetch (l : Fin 512)
  /-- LINK_TX_CHUNK (R253). A fetched chunk is taken in answer order and forms, continues or discards a DATA frame. -/
  | linkTxChunk (l : Fin 512) (code : Rsp) (data : BitVec 2048)
  /-- MILL_CTRL_START (R269). Writing START to MILL_CTRL clears job counters and moves the engine to LOAD, or is refused. -/
  | millCtrlStart (r : Req) (e : Fin 64) (v : Word)
  /-- MILL_CTRL_CLOSE (R270). Writing CLOSE in COLLECT closes intake, or is refused. -/
  | millCtrlClose (r : Req) (e : Fin 64) (v : Word)
  /-- MILL_CTRL_ABORT (R269). Writing ABORT in LOAD, COLLECT or ANALYSE moves the engine to ERROR with ERR = ABORTED. -/
  | millCtrlAbort (r : Req) (e : Fin 64) (v : Word)
  /-- MILL_DESC_LOADED (R274). The descriptor read returns and is validated, moving the engine to COLLECT, reading its source, or to ERROR. -/
  | millDescLoaded (e : Fin 64) (d : BitVec 2048)
  /-- MILL_SRC_READ (R271). With SRC = 1 a burst of 16 entries read from MILL_SRC is taken as intake. -/
  | millSrcRead (e : Fin 64) (d : BitVec 2048)
  /-- MILL_INTAKE_ENTRY (R277). The engine takes one entry, maps it to a cell, and merges, stores or discards it. -/
  | millIntakeEntry (e : Fin 64) (ue : Bool)
  /-- MILL_INTAKE_DRAINED (R270). After CLOSE the engine has taken every forwarded entry and enters ANALYSE. -/
  | millIntakeDrained (e : Fin 64)
  /-- MILL_REGION_ANALYSE (R280). The engine completes merge, early abort, must-repair and search for one region and forms its record. -/
  | millRegionAnalyse (e : Fin 64) (ue : Bool)
  /-- MILL_RECORD_WRITE (R287). The engine writes a region record, or writes the terminator and ends with RESULT_FULL. -/
  | millRecordWrite (e : Fin 64)
  /-- MILL_JOB_DONE (R287). Every write of the job has returned OK and the engine enters DONE. -/
  | millJobDone (e : Fin 64)
  /-- MILL_WRITE_ERROR (R289). A descriptor, source or result access returning other than OK ends the job in ERROR. -/
  | millWriteError (e : Fin 64) (what : Fin 3) (region : BitVec 12)
  /-- FLD_OWN_WRITE (R293). A write to FLD_OWN grants, revokes or is refused, with zero-fill before a grant takes effect. -/
  | fldOwnWrite (r : Req) (f : Fin 128) (v : Word)
  /-- GRAN_OWN_WRITE (R293). A write to GRAN_OWN grants, revokes or is refused, with zero-fill before a grant. -/
  | granOwnWrite (r : Req) (g : Fin 32) (v : Word)
  /-- GRANT_FILL_DONE (R293). A grant's zero-fill completes, BUSY falls and the new owner takes effect at every copy. -/
  | grantFillDone
  /-- SITE_CMD_RESET (R303). A reset request from SITE_CMD, FLR or destroy starts the hardware site reset sequence. -/
  | siteCmdReset (r : Req) (n : Fin 64) (v : Word)
  /-- SITE_RESET_DRAIN_END (R303). The drain ends when UNACKED reads 0 on every owned ACTIVE link, or at DRAIN_TMO. -/
  | siteResetDrainEnd (n : Fin 64)
  /-- SITE_RESET_COMPLETE (R303). After reload or hold the site returns to LIVE and RESET_DONE is set. -/
  | siteResetComplete (n : Fin 64)
  /-- SITE_CMD_RUN (R305). Writing RUN to SITE_CMD releases fields held after a HOLD reset. -/
  | siteCmdRun (r : Req) (n : Fin 64) (v : Word)
  /-- SIC_EOI (R301). Writing a vector to SIC_EOI re-arms it, issuing a new message at once if its condition holds. -/
  | sicEoi (r : Req) (n : Fin 64) (v : Word)
  /-- MSIX_ENABLE (R374). Setting MSI-X Enable of a VF issues every armed vector whose condition is 1. -/
  | msixEnable (fn : Fin 65)
  /-- MSIX_UNMASK (R301). Unmasking an MSI-X entry issues its pending message. -/
  | msixUnmask (fn : Fin 65) (v : Fin 256)
  /-- DRAM_OWN_WRITE (R319). A write to DRAM_OWN grants, marking the granule UNFILLED, revokes, or is refused. -/
  | dramOwnWrite (r : Req) (g : Fin 3072) (v : Word)
  /-- DRAM_READ_REQUEST (R324). A controller serves a READ by urgency, returning data, zeros for UNFILLED blocks, or POISONED. -/
  | dramReadRequest (c : Fin 12) (q : DramReq) (d : DramServe)
  /-- DRAM_WRITE_REQUEST (R318). A controller accepts a write into its write queue, merging a narrow write or waiting for a block fill. -/
  | dramWriteRequest (c : Fin 12) (q : DramReq) (d : DramServe)
  /-- DRAM_WRITE_DRAIN (R323). The write queue drains in a burst at 48 lines or when no urgent read waits. -/
  | dramWriteDrain (c : Fin 12) (sub : Fin 2) (n : Fin 65) (urgent : Bool)
  /-- DRAM_BACKGROUND_FILL (R320). The background filler writes zero lines into the next UNFILLED block in idle slots. -/
  | dramBackgroundFill (c : Fin 12)
  /-- DRAM_REFRESH (R326). A rank's tREFI expires and a same-bank refresh is issued. -/
  | dramRefresh (c : Fin 12) (rank : Fin 4)
  /-- DRAM_TEMP_POLL (R326). Every 1 ms the controller reads device thermal status and sets refresh rate and temperature flags. -/
  | dramTempPoll (c : Fin 12) (hot crit : BitVec 4)
  /-- DRAM_RH_WINDOW_END (R327). A 32 ms activation window ends and per-bank counts and MID tables restart. -/
  | dramRhWindowEnd (c : Fin 12)
  /-- DRAM_THROTTLE_EXPIRE (R327). 32 ms after the threshold a throttle ends. -/
  | dramThrottleExpire (c : Fin 12) (rank : Fin 4) (sub : Fin 2) (bank : Fin 32) (mid : BitVec 12)
  /-- DRAM_PATROL_READ (R332). The controller's patrol reads the next in-service line, rewriting or reporting errors. -/
  | dramPatrolRead (c : Fin 12) (ecc : DramEcc) (act : Option (Fin 32))
  /-- DRAM_TRACK (R335). Periodic DQS drift tracking and impedance calibration run in idle slots. -/
  | dramTrack (c : Fin 12) (zq : Bool)
  /-- DRAM_RETRAIN_STEP (R335). One step of retraining after a mode rise occupies the channel for up to 2 µs, or falls back on failure. -/
  | dramRetrainStep (c : Fin 12) (res : Fin 3)
  /-- DDR_FREQ_GO (R337). Writing GO to DDR_FREQ starts a set-point change blackout, or is refused. -/
  | ddrFreqGo (r : Req) (c : Fin 12) (v : Word)
  /-- DDR_FREQ_DONE (R337). The ranks leave self-refresh at the new set point and queued requests resume. -/
  | ddrFreqDone (c : Fin 12)
  /-- DRAM_CAPAR_ERROR (R338). A command/address parity error reissues commands in flight and may retire the rank. -/
  | dramCaparError (c : Fin 12) (rank : Fin 4)
  /-- DRAM_MIGRATE_LINE (R339). Migration copies the next line of the retiring rank into the spare, completing migration at the end. -/
  | dramMigrateLine (c : Fin 12) (ecc : DramEcc)
  /-- ENC_ENABLE (R344). Writing EN = 1 to ENC_CTRL enables a key slot over its region with fresh keys, or is refused. -/
  | encEnable (r : Req) (n : Fin 65) (v : Word)
  /-- ENC_DISABLE (R358). Writing EN = 0 to ENC_CTRL discards the slot's cache lines, zeroises its keys and marks its region UNFILLED. -/
  | encDisable (r : Req) (n : Fin 65) (v : Word)
  /-- ENC_WRITEBACK (R354). A dirty counter or MAC line evicted from the counter cache is written back, incrementing its parent counter. -/
  | encWriteback (c : Fin 12) (n : Fin 65) (area : Fin 14) (line : Nat) (ecc : List DramEcc)
  /-- BAR_READ (R368). A host BAR read is carried to the ring and completes with the status its response code directs. -/
  | barRead (f : Fin 65) (bar : Fin 3) (ofs : BitVec 40) (len : Fin 4097) (res : List (Rsp × List Byte))
  /-- BAR_WRITE (R369). A host BAR write is carried as ring WRITEs, recording the first failing piece in HOST_FN_ERR. -/
  | barWrite (f : Fin 65) (bar : Fin 3) (ofs : BitVec 40) (data : List Byte) (res : List Rsp)
  /-- VF_FLR (R371). An FLR of a VF starts a site reset with CAUSE FLR and resets the VF's configuration state. -/
  | vfFlr (n : Fin 64)
  /-- PF_FLR (R371). An FLR of PF0 stops PF DMA channels, resets PF state and clears VF Enable. -/
  | pfFlr
  /-- PCIE_LINK_LOSS (R371). A hot reset or loss of the PCIe link acts as an FLR of PF0. -/
  | pcieLinkLoss
  /-- VF_ENABLE_CLEAR (R371). Clearing VF Enable or lowering NumVFs applies an FLR to each VF that stops existing. -/
  | vfEnableClear (numVfs : Fin 65)
  /-- HOST_EOI (R373). Writing HOST_EOI re-arms a PF0 vector under the ARMED rule. -/
  | hostEoi (r : Req) (v : Word)
  /-- DMA_TAIL_WRITE (R376). A write to DMA_TAIL gives the channel new descriptors, or is refused when out of range. -/
  | dmaTailWrite (r : Req) (ch : Fin 80) (v : Word)
  /-- DMA_DESC_FETCH (R378). A DMA channel fetches up to 8 descriptors ahead from the host ring. -/
  | dmaDescFetch (ch : Fin 80) (d : BitVec 256) (err : Bool)
  /-- DMA_PIECE_ISSUE (R378). A DMA channel issues a ring piece of a descriptor within its 64 outstanding. -/
  | dmaPieceIssue (ch : Fin 80) (data : List (BitVec 512))
  /-- DMA_PIECE_COMPLETE (R378). A DMA piece's ring response or host transfer completes with its code. -/
  | dmaPieceComplete (ch : Fin 80) (slot : BitVec 16) (ofs : BitVec 25) (code : Rsp) (hostErr : Bool) (data : List (BitVec 512))
  /-- DMA_WRITEBACK (R379). A descriptor whose pieces have all returned is written back in ring order, halting on failure. -/
  | dmaWriteback (ch : Fin 80)
  /-- DMA_RESUME (R379). Writing RESUME restarts a halted channel at HEAD. -/
  | dmaResume (r : Req) (ch : Fin 80) (v : Word)
  /-- DMA_EN_CLEAR (R381). Clearing EN stops the channel at the next descriptor boundary and enters STOPPED. -/
  | dmaEnClear (r : Req) (ch : Fin 80) (v : Word)
  /-- DMA_EN_SET (R381). Setting EN restarts the channel at HEAD, performing a partly done descriptor again. -/
  | dmaEnSet (r : Req) (ch : Fin 80) (v : Word)
  /-- DMA_RING_WRITE (R381). A write to DMA_RING_LO sets HEAD and TAIL to 0. -/
  | dmaRingWrite (r : Req) (ch : Fin 80) (v : Word)
  /-- MBX_PUSH (R386). A write to MBX_TX pushes one word toward the other endpoint, or is dropped when full. -/
  | mbxPush (r : Req) (c : Fin 128) (v : Word)
  /-- MBX_POP (R386). A read of MBX_RX pops one word, or returns 0 and sets RX_EMPTY_READ. -/
  | mbxPop (r : Req) (c : Fin 128)
  /-- MBX_FPBIND_WRITE (R385). A write to MBX_FPBIND binds a fabric-port channel, discarding every queued word. -/
  | mbxFpbindWrite (r : Req) (m : Fin 48) (v : Word)
  /-- MBX_BIND_WRITE (R384). A Reeve write to a binding-table entry while unlocked sets a channel's endpoints. -/
  | mbxBindWrite (r : Req) (c : Fin 128) (v : Word)
  /-- MBX_LOCK_SET (R384). Setting LOCKED freezes the binding table until a cold start. -/
  | mbxLockSet (r : Req) (v : Word)
  /-- COMMONS_HB_WRITE (R389). Commons writes SEQ of COMMONS_HB, restarting AGE. -/
  | commonsHbWrite (r : Req) (v : Word)
  /-- COMMONS_HEADER_POP (R392). Commons pops a request header and checks it, answering BAD_FRAME, BAD_GROUP, BAD_COMMAND or BAD_LENGTH. -/
  | commonsHeaderPop (c : Fin 128)
  /-- COMMONS_LENGTH_TIMEOUT (R392). Fewer than LENGTH words 10 ms after the header gives BAD_LENGTH. -/
  | commonsLengthTimeout (c : Fin 128)
  /-- SYS_PING (R401). SYS PING returns its request words unchanged. -/
  | sysPing (c : Fin 128)
  /-- SYS_IDENTIFY (R401). SYS IDENTIFY returns part identity, stepping, grade, life-cycle state, versions and mode. -/
  | sysIdentify (c : Fin 128)
  /-- SYS_MODE (R519). SYS MODE changes the operating mode in the ordered steps, or is refused. -/
  | sysMode (c : Fin 128)
  /-- SYS_TIME (R401). SYS TIME returns the TTC and calendar time. -/
  | sysTime (c : Fin 128)
  /-- SITE_CREATE (R402). SITE CREATE takes a site from ABSENT to LIVE. -/
  | siteCreate (c : Fin 128)
  /-- SITE_DESTROY (R297). SITE DESTROY resets the site with HOLD, revokes everything, clears rights and makes it ABSENT. -/
  | siteDestroy (c : Fin 128)
  /-- SITE_GRANT (R295). SITE GRANT grants a range of resources of one type to a site, all or none. -/
  | siteGrant (c : Fin 128)
  /-- SITE_REVOKE (R295). SITE REVOKE revokes a range of resources from a site, all or none. -/
  | siteRevoke (c : Fin 128)
  /-- SITE_RESET (R402). SITE RESET optionally sets FIELD_ACTION and writes RESET or RUN to SITE_CMD, waiting if asked. -/
  | siteReset (c : Fin 128)
  /-- SITE_SERVICE (R402). SITE SERVICE sets a site's share, Bell right, injection right, debug level and TCRIT allowance. -/
  | siteService (c : Fin 128)
  /-- SITE_QUERY (R404). SITE QUERY writes the site's ownership bitmaps and rights to a buffer. -/
  | siteQuery (c : Fin 128) (bus : Rsp)
  /-- SITE_TCRIT (R402). SITE TCRIT sets or clears FCK_TCRIT of an owned field within the allowance. -/
  | siteTcrit (c : Fin 128)
  /-- CONF_LOAD (R491). CONF LOAD verifies an image from a buffer and writes its fields, answering when they are configured. -/
  | confLoad (c : Fin 128)
  /-- CONF_RELOAD (R495). CONF RELOAD rewrites a field from its recorded image. -/
  | confReload (c : Fin 128)
  /-- CONF_REMAP (R135). CONF REMAP records a ledger entry and writes a BM, granary remap or retires a DRAM rank. -/
  | confRemap (c : Fin 128) (flashOk : Bool)
  /-- CONF_LEDGER (R405). CONF LEDGER copies the repair ledger entries into a buffer. -/
  | confLedger (c : Fin 128) (bus : Rsp)
  /-- LINK_UP (R406). LINK UP sets lane rate and equalisation, enables the lane and runs the alignment search. -/
  | linkUp (c : Fin 128)
  /-- LINK_DOWN (R406). LINK DOWN writes the lane's EN to 0, keeping the channel grant. -/
  | linkDown (c : Fin 128)
  /-- LINK_STATUS (R406). LINK STATUS returns lane, link, HELLO and eye registers. -/
  | linkStatus (c : Fin 128)
  /-- LINK_EQ (R406). LINK EQ sets transmit and receive equalisation of a lane. -/
  | linkEq (c : Fin 128)
  /-- FCU_ROUTE (R407). FCU ROUTE writes a link's LR_CTRL after checking bindings and ownership. -/
  | fcuRoute (c : Fin 128)
  /-- FCU_ADDR (R407). FCU ADDR writes one of a link's fabric, receive, transmit or log addresses. -/
  | fcuAddr (c : Fin 128)
  /-- FCU_CLEAR (R407). FCU CLEAR clears every granule of a link's grant and answers after CLR_DONE. -/
  | fcuClear (c : Fin 128)
  /-- FCU_LOGRST (R407). FCU LOGRST resets a link's log pointers to 0. -/
  | fcuLogrst (c : Fin 128)
  /-- TALLY_CONFIG (R408). TALLY CONFIG sets a group's enable, fabric delivery and timeout. -/
  | tallyConfig (c : Fin 128)
  /-- TALLY_STATUS (R408). TALLY STATUS returns a group's result, status and latency. -/
  | tallyStatus (c : Fin 128)
  /-- MILL_START (R409). MILL START writes descriptor and source registers and starts an engine's job. -/
  | millStart (c : Fin 128)
  /-- MILL_CLOSE (R409). MILL CLOSE closes an engine's intake. -/
  | millClose (c : Fin 128)
  /-- MILL_ABORT (R409). MILL ABORT aborts an engine's job and returns MILL_STAT. -/
  | millAbort (c : Fin 128)
  /-- MILL_STATUS (R409). MILL STATUS returns an engine's state, progress and result counts. -/
  | millStatus (c : Fin 128)
  /-- DRAM_PORTS (R410). DRAM PORTS sets a site's port map and a port's reservation and target in every controller. -/
  | dramPorts (c : Fin 128)
  /-- DRAM_STATUS (R410). DRAM STATUS returns the interleave, failing channels and the site's DRAM events. -/
  | dramStatus (c : Fin 128)
  /-- DRAM_FREQ (R410). DRAM FREQ changes named channels to a set point one at a time. -/
  | dramFreq (c : Fin 128)
  /-- DRAM_PATROL (R410). DRAM PATROL sets patrol period and FIX of named channels. -/
  | dramPatrol (c : Fin 128)
  /-- SEC_ENC_ON (R411). SEC ENC_ON asks the Reeve to enable a key slot over a region. -/
  | secEncOn (c : Fin 128)
  /-- SEC_ENC_OFF (R411). SEC ENC_OFF asks the Reeve to disable a key slot, erasing its region. -/
  | secEncOff (c : Fin 128)
  /-- SEC_RANDOM (R411). SEC RANDOM returns DRBG output words. -/
  | secRandom (c : Fin 128)
  /-- SEC_LIFECYCLE (R433). SEC LIFECYCLE checks an authorisation and moves the life-cycle state one step forward after applying its effects. -/
  | secLifecycle (c : Fin 128) (auth : LcAuth) (bus : Rsp)
  /-- MON_READ (R412). MON READ returns the latest samples of consecutive sensor channels. -/
  | monRead (c : Fin 128)
  /-- MON_CONFIG (R412). MON CONFIG sets a sensor channel's OSR and gain. -/
  | monConfig (c : Fin 128)
  /-- MON_POWER (R412). MON POWER returns part power, cap, stretched fields and mode. -/
  | monPower (c : Fin 128)
  /-- PARISH_READ (R589). PARISH READ copies records in sequence order into a buffer, filtered by site for sites. -/
  | parishRead (c : Fin 128) (bus : Rsp)
  /-- PARISH_MARK (R589). PARISH MARK advances PAR_MARK and stages a MARK record. -/
  | parishMark (c : Fin 128)
  /-- PARISH_STATUS (R413). PARISH STATUS returns the oldest and newest sequences and staged count. -/
  | parishStatus (c : Fin 128)
  /-- FW_VERSION (R414). FW VERSION returns the active slot, slot sequences and versions. -/
  | fwVersion (c : Fin 128)
  /-- FW_UPDATE (R427). FW UPDATE writes a verified Commons image to the inactive slot, code first and header last. -/
  | fwUpdate (c : Fin 128) (img : SlotIn) (bus : Rsp) (flashOk : Bool)
  /-- FW_RESTART (R414). FW RESTART answers OK and restarts Commons, optionally from a chosen slot. -/
  | fwRestart (c : Fin 128)
  /-- FW_PATCH (R429). FW PATCH verifies a patch record and replaces every patch entry at once. -/
  | fwPatch (c : Fin 128) (p : PatchRec) (bus : Rsp)
  /-- WIN_ENTER (R419). WIN.ENTER moves WP to the next ring window, raising a spill trap if it is live. -/
  | winEnter (c : Fin 4) (pc : DWord)
  /-- WIN_LEAVE (R419). WIN.LEAVE moves WP back, raising a fill trap if the frame was spilled. -/
  | winLeave (c : Fin 4) (pc : DWord)
  /-- CORE_TRAP (R419). A Commons core takes a trap, saving state and entering the handler in window 7 at TD = 1. -/
  | coreTrap (c : Fin 4) (typ : BitVec 8) (pc : DWord)
  /-- TRAP_RET (R419). TRAP.RET restores WP, status and program counter and sets TD = 0. -/
  | trapRet (c : Fin 4)
  /-- CORE_INTERRUPT (R422). A Commons core takes a pending interrupt source routed to it. -/
  | coreInterrupt (c : Fin 4) (src : Fin 4) (pc : DWord)
  /-- CMN_CORE_KICK (R423). A write to CMN_CORE_KICK refreshes the core's watchdog. -/
  | cmnCoreKick (r : Req) (c : Fin 4) (v : Word)
  /-- CORE_WDT_EXPIRE (R423). A core in RUN or WAIT not kicked for CORE_LIMIT starts a Commons restart. -/
  | coreWdtExpire (c : Fin 4)
  /-- HB_WDT_EXPIRE (R423). COMMONS_HB.AGE passing HB_LIMIT while RUNNING starts a Commons restart. -/
  | hbWdtExpire
  /-- COMMONS_RESTART_COMPLETE (R423). After digest check and release, Commons writes SEQ and answers journalled requests RESTARTED. -/
  | commonsRestartComplete (seq : BitVec 16)
  /-- REEVE_WDT_EXPIRE (R430). The Reeve watchdog expires and the hub resets the Reeve core and its SRAM. -/
  | reeveWdtExpire
  /-- REEVE_RESTART_DONE (R430). The Reeve runs again from ROM and stages a parish record. -/
  | reeveRestartDone
  /-- LIFECYCLE_CHANGE_DONE (R437). The fuses of the new state group are blown in copies A, B and C and the change completes. -/
  | lifecycleChangeDone (sensed : List (BitVec 8))
  /-- PKE_OP_DONE (R442). A public-key operation completes after its fixed time with its result code. -/
  | pkeOpDone (op : Fin 6) (res : Fin 6)
  /-- DRNG_READY (R445). Start-up health tests pass and the DRNG instantiates the DRBG and enters READY. -/
  | drngReady (raw : List Bool)
  /-- DRNG_HEALTH_FAIL (R446). A health-test failure moves the DRNG to RETEST, or to FAILED on the third within 1 s. -/
  | drngHealthFail (raw : List Bool)
  /-- TAMPER_ALARM (R452). A tamper input held at its active level for FILT ticks raises a backup alarm. -/
  | tamperAlarm (j : Fin 2)
  /-- VBAT_LOW (R453). VBAT falls below its threshold and raises a backup alarm. -/
  | vbatLow
  /-- OSC_STOP (R451). No crystal edge for 2 ms clears RTC_VALID and raises a backup alarm. -/
  | oscStop
  /-- BACKUP_DOMAIN_RESET (R450). Loss of both supplies resets the backup domain, clearing BBKEY, log, tamper settings and RTC_VALID. -/
  | backupDomainReset
  /-- BK_RTC_SET (R451). Writing SET to BK_RTC_CMD loads the RTC at the next crystal tick and sets RTC_VALID. -/
  | bkRtcSet (r : Req) (v : Word)
  /-- BK_LOG_CLR (R454). Writing BK_LOG_CLR clears the backup alarm log. -/
  | bkLogClr (r : Req) (v : Word)
  /-- DBG_ACCESS (R460). At Update-DR a DBG_ACCESS command starts one filtered 32-bit access, or is dropped with OVERRUN. -/
  | dbgAccess (cmd : BitVec 82) (auth : AuthIn)
  /-- DBG_ACCESS_COMPLETE (R460). The debug bus master's access completes and its code and data are captured. -/
  | dbgAccessComplete (code : Rsp) (data : Word)
  /-- DEBUG_DOMAIN_RESET (R457). Loss of VCC_DBG or TRST_N low resets the debug domain. -/
  | debugDomainReset
  /-- TAP_INSTRUCTION (R459). A new TAP instruction is loaded, switching boundary-scan control of covered pins. -/
  | tapInstruction (code : BitVec 8)
  /-- CHALLENGE (R464). DBG_AUTH_CMD CHALLENGE asks the part for an ephemeral key and nonce. -/
  | challenge
  /-- CHALLENGE_READY (R464). Once the DRNG is READY the part writes its challenge and STATE becomes CHALLENGED. -/
  | challengeReady
  /-- RESPOND (R464). DBG_AUTH_CMD RESPOND checks the debugger key and tag and raises the session level. -/
  | respond (auth : AuthIn)
  /-- PASSWORD (R465). DBG_AUTH_CMD PASSWORD compares the forerunner password and sets L2 where allowed. -/
  | password
  /-- LOCK (R465). DBG_AUTH_CMD LOCK lowers the session to the unauthenticated level. -/
  | lock
  /-- LOAD_BBKEY (R467). DBG_AUTH_CMD LOAD_BBKEY verifies an owner key-load record and writes BBKEY. -/
  | loadBbkey (auth : AuthIn)
  /-- RECOVER (R468). DBG_AUTH_CMD RECOVER presents a recovery authorisation in sealed fault. -/
  | recover (auth : AuthIn)
  /-- AUTH_FAIL_WAIT_END (R466). One second after an authentication failure, CHALLENGE and PASSWORD are accepted again. -/
  | authFailWaitEnd
  /-- DBG_XT_PULSE (R469). A write to DBG_XT_PULSE fires the named cross-trigger channels. -/
  | dbgXtPulse (r : Req) (v : Word)
  /-- XT_TIME_COMPARE (R469). The TTC reaches an armed channel's compare value, fires the channel and clears ARM. -/
  | xtTimeCompare (c : Fin 16)
  /-- TRIGGER_TAP_OUT (R469). A rising edge on a field trigger-tap output fires its mapped channel. -/
  | triggerTapOut (f : Fin 128) (t : Fin 4)
  /-- XT_EVENT_ARRIVE (R470). A cross-trigger event reaches every destination of its channel within 20–40 ns. -/
  | xtEventArrive (c : Fin 16)
  /-- DBG_FLD_HALT (R472). HALT in DBG_FLD_CMD, or a channel event, requests a halt of the field. -/
  | dbgFldHalt (r : Req) (f : Fin 128) (v : Word)
  /-- FIELD_HALT_STOP (R472). The field's enabled clocks stop low within 8 cycles and the halt is recorded. -/
  | fieldHaltStop (f : Fin 128)
  /-- DBG_FLD_RUN (R473). RUN in DBG_FLD_CMD, or a channel event, restarts a halted field's clocks. -/
  | dbgFldRun (r : Req) (f : Fin 128) (v : Word)
  /-- DBG_FLD_STEP (R474). STEP in DBG_FLD_CMD runs a halted field for N edges of its slowest clock. -/
  | dbgFldStep (r : Req) (f : Fin 128) (v : Word)
  /-- STEP_DONE (R474). The clocks stop after N edges, STATE returns to HALTED and STEP_DONE is set. -/
  | stepDone (f : Fin 128)
  /-- DBG_FLD_CAPTURE (R477). CAPTURE in DBG_FLD_RB starts copying a halted field's flip-flops and MAC outputs into the shadow. -/
  | dbgFldCapture (r : Req) (f : Fin 128) (v : Word)
  /-- CAPTURE_DONE (R477). The readback copy completes and RB_DONE is set. -/
  | captureDone (f : Fin 128)
  /-- DBG_CORE_HALT (R476). HALT in DBG_CORE_CMD stops named Commons cores in HALT_DEBUG. -/
  | dbgCoreHalt (r : Req) (v : Word)
  /-- DBG_CORE_RUN (R476). RUN in DBG_CORE_CMD resumes named halted cores. -/
  | dbgCoreRun (r : Req) (v : Word)
  /-- DBG_CORE_STEP (R476). STEP in DBG_CORE_CMD executes one instruction or trap entry on named cores. -/
  | dbgCoreStep (r : Req) (v : Word)
  /-- CFG_PASS1_DONE (R491). Pass 1 of a load completes its checks, failing the load or starting pass 2. -/
  | cfgPass1Done (g : Nat) (img : CfgImage) (rd : Rsp)
  /-- CFG_WRITER_START (R493). A field writer takes the next field, asserts its global set/reset and loads its clock settings. -/
  | cfgWriterStart
  /-- CFG_FIELD_WRITTEN (R493). A writer completes a field's frames and BM data and records its image, or fails the field. -/
  | cfgFieldWritten (f : Fin 128) (ok : Bool)
  /-- CFG_STARTUP_STEP (R496). After its DELAY, the next startup step acts in every field of the group. -/
  | cfgStartupStep (g : Nat)
  /-- CFG_LOCK_TIMEOUT (R496). A PLL not locked 100 µs into LOCK_WAIT fails every field of the group. -/
  | cfgLockTimeout (g : Nat)
  /-- CFG_STORE_COPY (R494). The engine copies a FLASH-sourced field's sections into its reload-store slot in the background. -/
  | cfgStoreCopy (f : Fin 128)
  /-- CFG_SCRUB_READ (R503). The scrubber reads a frame, correcting a CE or acting on a UE as ACTION selects. -/
  | cfgScrubRead (f : Fin 128) (frame : Fin 17408) (upsets : List (Fin 8 × Fin 72))
  /-- CFG_XSPI_CMD (R506). Writing GO to CFG_XSPI_CMD sends one command to the flash, or is refused. -/
  | cfgXspiCmd (r : Req) (v : Word)
  /-- CFG_XSPI_DONE (R506). A flash command completes and DONE is set. -/
  | cfgXspiDone (data : List Byte)
  /-- POWER_ON (R507). Power-on begins a cold start. -/
  | powerOn (vbat gang : Bool) (gangId : Fin 16) (boot : Word)
  /-- RESET_N_FALL (R508). RESET_N low for at least 1 µs runs the retention step and resets the hub. -/
  | resetNFall
  /-- RESET_N_RISE (R508). RESET_N rising begins a warm or cold start once retention is done. -/
  | resetNRise
  /-- START_CMD_COLD (R507). Writing COLD to START_CMD starts a cold start. -/
  | startCmdCold (r : Req) (v : Word)
  /-- START_CMD_WARM (R507). Writing WARM to START_CMD requests a warm start, which becomes cold if not allowed. -/
  | startCmdWarm (r : Req) (v : Word)
  /-- RETENTION_DONE (R508). DRAM write queues are drained and ranks are in self-refresh, ending the retention step. -/
  | retentionDone
  /-- START_STEP_COMPLETE (R509). A step of the start completes and the next begins, or the start stops with a boot code. -/
  | startStepComplete (x : StartIn)
  /-- GANG_BOOT_LOAD (R510). From 20 ms after RESET_N rises, the gang boot load reads the leader's flash through both passes. -/
  | gangBootLoad
  /-- RAIL_OUT_OF_RANGE (R515). A group 3 or 4 rail leaving its range after step 6 holds the part. -/
  | railOutOfRange (g : Fin 5)
  /-- BROWN_OUT (R603). VCC_HUB, VCC_MEM or VCC_AUX below minimum for 1 µs holds the hub in reset. -/
  | brownOut
  /-- PWR_CMD (R518). A write to PWR_CMD requests a power state change, or is refused. -/
  | pwrCmd (r : Req) (v : Word)
  /-- POWER_STATE_CHANGE_DONE (R517). A change of power state completes. -/
  | powerStateChangeDone
  /-- POWER_CAP_TICK (R521). Every 100 µs the power-cap controller compares measured power with the cap and adjusts S_CAP and STRETCH. -/
  | powerCapTick (mw : Word)
  /-- CAP_LIMIT (R522). Power above the cap for 10 ms at S_CAP 32 sets CAP_LIMIT and raises an incident. -/
  | capLimit
  /-- THERM_WARN (R523). Junction at 105 °C forces S_CAP to 32 and raises an incident. -/
  | thermWarn
  /-- THERM_TRIP (R523). Junction at 115 °C for 100 µs trips the part into the asynchronous safe state. -/
  | thermTrip
  /-- PWR_FAIL_FALL (R525). PWR_FAIL_N falling flushes staged parish records and stops other flash writes. -/
  | pwrFailFall
  /-- PWR_FAIL_RISE (R525). PWR_FAIL_N rising with rails in range resumes flash writes. -/
  | pwrFailRise
  /-- SENSOR_SAMPLE (R528). A converter produces a sample, tagged, into MON_SMP and its FIFO. -/
  | sensorSample (k : Fin 4) (v : BitVec 17) (satur : Bool)
  /-- MON_FIFO_POP (R530). A read of MON_FIFO pops the oldest sample of a converter. -/
  | monFifoPop (r : Req) (k : Fin 4)
  /-- REF_JUDGE_WINDOW (R535). A 65,536-cycle judging window ends and the input's STABLE and CLASS are updated. -/
  | refJudgeWindow (j : Fin 2) (n : BitVec 20)
  /-- REFCLK_WAIT_TIMEOUT (R536). No stable reference 100 ms after step 1 stops the start with CODE REFCLK. -/
  | refclkWaitTimeout
  /-- REF_LOSS (R540). An input gives no edge for 50 ns and LOSS is set. -/
  | refLoss (j : Fin 2)
  /-- REF_DEV_WINDOW (R540). A short monitor window ends and a deviation beyond DEV sets DEV. -/
  | refDevWindow (j : Fin 2) (n : BitVec 17)
  /-- CLK_ROOT_WRITE (R542). A Reeve write to CLK_ROOT selects a root source, or is refused. -/
  | clkRootWrite (r : Req) (v : Word)
  /-- CLOCK_SWITCH_DONE (R538). A running clock's switch completes on the sixth edge of its new source. -/
  | clockSwitchDone
  /-- INT_FAIL (R543). INT gives no edge for 200 ns, sets INT_FAIL and stops the monitor. -/
  | intFail
  /-- ROOT_STOP (R544). ROOT gives no edge for 200 ns and the part enters the asynchronous safe state. -/
  | rootStop
  /-- CLK_GATE_WRITE (R545). A write to CLK_GATE turns a clock node on or off, or is refused. -/
  | clkGateWrite (r : Req) (n : Fin 36) (v : Word)
  /-- CLK_GATE_READY (R545). A node turned on starts running and READY reads 1. -/
  | clkGateReady (n : Fin 36)
  /-- CLKMON_CTRL_WRITE (R546). A write to CLKMON_CTRL selects the CLKMON source and divider, or is ignored. -/
  | clkmonCtrlWrite (r : Req) (v : Word)
  /-- TTC_SYNC_MEASURE (R548). Every 100 µs the hub measures a die's TTC copy and slews it. -/
  | ttcSyncMeasure (die : Fin 9)
  /-- KELK_S_RETEST_DONE (R556). A retested Kelk-S bundle is remapped and returns UP, or goes DOWN. -/
  | kelkSRetestDone (b : Fin 160) (found : List (Fin 68))
  /-- KELK_W_RETEST_DONE (R557). A retested Kelk-W group is remapped and returns UP, or goes DOWN. -/
  | kelkWRetestDone (w : Fin 1792) (found : List (Fin 34))
  /-- KELK_W_CROSSING_RESTART (R557). Within 2 µs of a UE each affected crossing restarts on its remaining groups. -/
  | kelkWCrossingRestart (f : Fin 128) (e : Fin 4)
  /-- GST_UNFENCE (R562). UNFENCE in GST_CTRL trains the guest port, or is refused. -/
  | gstUnfence (r : Req) (v : Word)
  /-- GST_FENCE (R563). FENCE in GST_CTRL fences the guest port. -/
  | gstFence (r : Req) (v : Word)
  /-- GST_RESET (R563). RESET in GST_CTRL sends RESET_REQ and enters RESETTING. -/
  | gstReset (r : Req) (v : Word)
  /-- GUEST_TRAIN_DONE (R562). Guest training ends and the port is UP. -/
  | guestTrainDone (rate : Fin 3)
  /-- GUEST_TRAIN_TIMEOUT (R562). Training not done in 10 ms fences the port with TRAIN_FAIL. -/
  | guestTrainTimeout
  /-- GUEST_FLIT_RECEIVE (R561). A guest flit is checked and acted on as FLIT, CREDIT, RESET_ACK or discarded. -/
  | guestFlitReceive (bytes : BitVec 768)
  /-- GUEST_RESET_TIMEOUT (R563). No RESET_ACK within 1 ms fences the port. -/
  | guestResetTimeout
  /-- GUEST_LINK_DOWN (R563). The UCIe link goes down and the guest port is fenced. -/
  | guestLinkDown
  /-- IO_PIN_WRITE (R568). A write to IO_PIN sets a pin's function and settings, or is refused. -/
  | ioPinWrite (r : Req) (b : Fin 24) (p : Fin 16) (v : Word)
  /-- GPIO_SET (R575). A write to GPIO_SET sets named bits of OUT. -/
  | gpioSet (r : Req) (b : Fin 24) (v : Word)
  /-- GPIO_CLR (R575). A write to GPIO_CLR clears named bits of OUT. -/
  | gpioClr (r : Req) (b : Fin 24) (v : Word)
  /-- GPIO_TGL (R575). A write to GPIO_TGL toggles named bits of OUT. -/
  | gpioTgl (r : Req) (b : Fin 24) (v : Word)
  /-- GPIO_INPUT_CHANGE (R576). A raw input holds a new value for FILT ticks and GPIO_IN changes. -/
  | gpioInputChange (b : Fin 24) (p : Fin 16) (v : Bool)
  /-- TRIG_IN_EDGE (R573). A rising edge of a TRIG_IN pin fires its channel. -/
  | trigInEdge (b : Fin 24) (p : Fin 16)
  /-- I2C_GO (R570). GO in I2C_CMD starts an I2C transaction, or is refused. -/
  | i2cGo (r : Req) (b : Fin 24) (v : Word)
  /-- I2C_DONE (R570). An I2C transaction ends normally or early and DONE is set. -/
  | i2cDone (b : Fin 24) (e : I2cEnd) (n : Fin 33) (rx : List Byte)
  /-- I2C_STRETCH_TIMEOUT (R570). SCL held low for 25 ms ends the transaction with TIMEOUT. -/
  | i2cStretchTimeout (b : Fin 24) (n : Fin 33) (rx : List Byte)
  /-- SPI_GO (R571). GO in SPI_CMD starts an SPI transaction, or is refused. -/
  | spiGo (r : Req) (b : Fin 24) (v : Word)
  /-- SPI_DONE (R571). An SPI transaction ends and DONE is set. -/
  | spiDone (b : Fin 24) (rx : List Byte)
  /-- UART_TX (R572). A write to UART_TX pushes a byte, or is dropped when full. -/
  | uartTx (r : Req) (b : Fin 24) (v : Word)
  /-- UART_TX_BYTE_SENT (R572). The UART finishes sending a byte and starts the next unless flow control stops it. -/
  | uartTxByteSent (b : Fin 24)
  /-- UART_RX_BYTE (R572). The UART receives a frame into its FIFO with error flags, or discards it when full. -/
  | uartRxByte (b : Fin 24) (d : Byte) (frameErr parityErr brk : Bool)
  /-- UART_RX (R572). A read of UART_RX pops one received byte with its flags. -/
  | uartRx (r : Req) (b : Fin 24)
  /-- PAR_IN_GO (R591). GO in a PAR_IN set stages a record, merging repeats. -/
  | parInGo (r : Req) (m : Fin 5) (v : Word)
  /-- PARISH_FLUSH (R585). Staging is flushed to flash on 32 records, 1 s of waiting, power fail, retention or reset. -/
  | parishFlush (fail : Bool)
  /-- PARISH_SCAN (R588). At start the hub reads block headers and the newest block to find the next slot and PAR_MARK. -/
  | parishScan
  /-- FC_REPORT (R593). A report reaches the fault concentrator and joins or opens an incident, notifying new sites. -/
  | fcReport
  /-- INCIDENT_CLOSE (R594). An incident closes 10 µs after its last report or 10 ms after opening and stages its record. -/
  | incidentClose (e : Fin 64)
  /-- FC_ACK (R595). A write to FC_ACK with the current GEN marks an incident TAKEN. -/
  | fcAck (r : Req) (v : Word)
  /-- ACTIVE_CLOCK_EDGE (R53). At each active edge of a field clock, every cell flip-flop resolves set/reset, clock enable and its data source, and every MAC register updates under MAC_MODE. -/
  | activeClockEdge (f : Fin 128) (edges : List (Fin 4 × Bool)) (ext lateCells lateSr lateMacs : List Nat) (upsets : List (Fin 139264 × Fin 72))
  /-- PRBS_CHECK (R189). In PRBS mode the checker compares received bits with the pattern, setting CHK_LOCK after 64 error-free bits, clearing it and reseeding after 64 errors in 1,024 bits, and counting errors while locked. -/
  | prbsCheck (l : Fin 512) (bits : List Bool)
  /-- CTS_N_CHANGE (R572). With FLOW = 1, CTS_N going high stops UART sending at the next byte boundary, and CTS_N going low lets a waiting byte start. -/
  | ctsNChange (b : Fin 24) (v : Bool)
  /-- PCIE_LINK_UP (R371). The host trains the PCIe link up again, after which BAR accesses exist and DMA writes to the host are no longer discarded. -/
  | pcieLinkUp
  deriving DecidableEq, Repr

end Sys2Proof
end

