-- ==== Sys2Proof/Decode.lean ====
section
/-! DEFINITION. The command that a word spells by the command table's bits. Every row's list of bit fields is empty in this spec: its commands
are accesses, frames, pin events and internal events with operands, not words; so no word spells one. -/
namespace Sys2Proof

/-- The command a word of the table spells: none. -/
def decodeTableWord (_nbits _w : Nat) : Option Instr := none

end Sys2Proof
end

