-- ==== Sys2Proof/Config.lean ====
section
/-! DEFINITION. Free values: what the manual leaves open. None of these constants has a body, so nothing can be proved
about their values, and a claim about them holds whatever they are. -/
namespace Sys2Proof.Config

/-- A fresh open value: a value the manual does not state, indexed by the state's counter of such values
(assumption 5). -/
opaque freeNat : Nat → Nat

/-- Form of the fault injectors' LFSR, which the manual does not give beside its polynomial: feedback into one end or into each tap, stepping up or
down (R225; assumption 5). -/
opaque lfsrForm : Fin 4

/-- Limzan's PCI-SIG vendor ID, whose value the manual does not give (R363; assumption 5). -/
opaque vendorId : BitVec 16

/-- Key of the entropy source's conditioning component (R444; assumption 5). -/
opaque conditionKey : BitVec 256

/-- The 10-bit value that a fault injector sends for a data byte as its code violation (R225; assumption 5). -/
opaque badSymbol : Nat → BitVec 10

/-- Entry address of the handler of a trap type: the manual names the vectors and not their addresses (R419; assumption 5). -/
opaque trapVector : Nat → Nat

/-- Bytes of a Commons instruction, which the manual does not state (R419; assumption 5). -/
opaque coreInstrLen : Nat

/-- Limzan's JEDEC manufacturer identity code, which the manual does not give (R459; assumption 5). -/
opaque jedecId : BitVec 11

/-- W6 of SYS IDENTIFY for a patch level in force: the manual gives neither the ROM's level nor the layout of the word (R401; assumption 5). -/
opaque reeveLevel : Nat → Word

/-- What a field's configuration means while bits of its frames are flipped: the design written, and each 72-bit word with flipped bits as its
number in the field with the bits that differ. The manual does not publish the layout of the frames (R502; assumption 5). -/
opaque upsetDesign : FieldDesign → List (Nat × BitVec 72) → FieldDesign

end Sys2Proof.Config
end

