-- ==== Sys2Proof/Machine/Bits.lean ====
section
/-! DEFINITION. Bit-field, saturation and byte-order helpers shared by every block of the GV9400. -/
namespace Sys2Proof.Machine

/-- Bits `hi` down to `lo` of a natural number (R8: a range includes both ends, bit 0 least significant). -/
def natBits (x hi lo : Nat) : Nat := (x >>> lo) % 2 ^ (hi + 1 - lo)

/-- One bit of a natural number as a truth value. -/
def natBit (x i : Nat) : Bool := (x >>> i) % 2 == 1

/-- `x` with bits `hi` down to `lo` replaced by the low bits of `v`. -/
def natSet (x hi lo v : Nat) : Nat :=
  let w := 2 ^ (hi + 1 - lo)
  x - ((x >>> lo) % w) * 2 ^ lo + (v % w) * 2 ^ lo

/-- A register word's field, R8. -/
def wordBits (w : Word) (hi lo : Nat) : Nat := natBits w.toNat hi lo

/-- A register word with a field replaced. -/
def wordSet (w : Word) (hi lo v : Nat) : Word := BitVec.ofNat 32 (natSet w.toNat hi lo v)

/-- A counter that saturates at `top` (R43, row "Counter, RW"). -/
def satAdd (top x n : Nat) : Nat := min (x + n) top

/-- Truth value as a bit. -/
def b2n (b : Bool) : Nat := if b then 1 else 0

/-- Little-endian value of a list of bytes (R8). -/
def leBytes : List Byte → Nat
  | [] => 0
  | b :: bs => b.toNat + 256 * leBytes bs

/-- The `n` bytes of a value, little-endian (R8). -/
def toBytes (n x : Nat) : List Byte :=
  (List.range n).map (fun i => BitVec.ofNat 8 (x / 256 ^ i))

/-- Bit list (index 0 first) to a number. -/
def bitsVal : List Bool → Nat
  | [] => 0
  | b :: bs => b2n b + 2 * bitsVal bs

/-- Parity (XOR) of the low `n` bits of `x`. -/
def parity (n x : Nat) : Bool :=
  (List.range n).foldl (fun a i => xor a (natBit x i)) false

/-- Number of ones among the low `n` bits. -/
def popCount (n x : Nat) : Nat :=
  (List.range n).foldl (fun a i => a + (x >>> i) % 2) 0

/-- Two's complement value of the low `w` bits of `x`. -/
def signedVal (w x : Nat) : Int :=
  let y := x % 2 ^ w
  if y < 2 ^ (w - 1) then (y : Int) else (y : Int) - (2 ^ w : Nat)

/-- Low `w` bits of an integer. -/
def wrapInt (w : Nat) (z : Int) : Nat := (z % ((2 ^ w : Nat) : Int)).toNat

/-- Replace the element at an index of a list (no effect past its end). -/
def listSet {α : Type} (l : List α) (i : Nat) (v : α) : List α := l.set i v

/-- Element of a list with a default. -/
def listGet {α : Type} (d : α) (l : List α) (i : Nat) : α := l.getD i d

end Sys2Proof.Machine
end

