-- ==== Sys2Proof/Machine/Code8b10b.lean ====
section
/-! DEFINITION. The published 8b/10b code of R175 (assumption 6: its tables are taken from the published code, not from the
manual). A 10-bit symbol is a number whose bit 0 is symbol bit a and bit 9 symbol bit j; running disparity is `true` when
positive. -/
namespace Sys2Proof.Machine

/-- 5b/6b codes for negative running disparity, abcdei with a in bit 0, D.0 to D.31. -/
def code6 : List Nat :=
  [0b111001, 0b101110, 0b101101, 0b100011, 0b101011, 0b100101, 0b100110, 0b000111,
   0b100111, 0b101001, 0b101010, 0b001011, 0b101100, 0b001101, 0b001110, 0b111010] ++
  [0b110110, 0b110001, 0b110010, 0b010011, 0b110100, 0b010101, 0b010110, 0b010111,
   0b110011, 0b011001, 0b011010, 0b011011, 0b011100, 0b011101, 0b011110, 0b110101]

/-- 3b/4b codes for negative running disparity, fghj with f in bit 0, D.x.0 to D.x.7 (primary form). -/
def code4 : List Nat := [0b1101, 0b1001, 0b1010, 0b0011, 0b1011, 0b0101, 0b0110, 0b0111]

/-- 3b/4b codes of the K-symbols for negative running disparity. -/
def code4k : List Nat := [0b1101, 0b0110, 0b0101, 0b0011, 0b1011, 0b1010, 0b1001, 0b1110]

/-- The six bits of a 5b value, and the disparity after them. -/
def enc6 (k rd : Bool) (x : Nat) : Nat × Bool :=
  let c := if k && x == 28 then 0b111100 else code6.getD x 0
  let flips := popCount 6 c != 3
  if rd && (flips || c == 0b000111) then (63 - c, rd != flips) else (c, rd != flips)

/-- The four bits of a 3b value after the six bits of `x`, and the disparity after them. -/
def enc4 (k rd : Bool) (x y : Nat) : Nat × Bool :=
  let alt := y == 7 && (if rd then x == 11 || x == 13 || x == 14 else x == 17 || x == 18 || x == 20)
  let c := if k then code4k.getD y 0 else if alt then 0b1110 else code4.getD y 0
  let flips := popCount 4 c != 2
  if rd && (k || flips || c == 0b0011) then (15 - c, rd != flips) else (c, rd != flips)

/-- The 10-bit symbol of a data or K byte at a running disparity, and the disparity after it (R175). -/
def enc10 (k : Bool) (byte : Nat) (rd : Bool) : Nat × Bool :=
  let x := byte % 32
  let y := byte / 32
  let (a, r1) := enc6 k rd x
  let (b, r2) := enc4 k r1 x y
  (a + 64 * b, r2)

/-- The twelve standard K bytes. -/
def kBytes : List Nat := [0x1C, 0x3C, 0x5C, 0x7C, 0x9C, 0xBC, 0xDC, 0xFC, 0xF7, 0xFB, 0xFD, 0xFE]

/-- K28.5. -/
def byteK285 : Nat := 0xBC

/-- A symbol looked up in the code at a running disparity: its K flag and byte. -/
def look10 (sym : Nat) (rd : Bool) : Option (Bool × Nat) :=
  match kBytes.find? (fun b => (enc10 true b rd).1 == sym) with
  | some b => some (true, b)
  | none => ((List.range 256).find? (fun b => (enc10 false b rd).1 == sym)).map (fun b => (false, b))

/-- What the decoder makes of a symbol (R175): K flag and byte, or a code violation; disparity error; the running disparity
after it. Before the first symbol that is not disparity-neutral, the disparity is undetermined. -/
structure Dec10 where
  val : Option (Bool × Nat)
  disp : Bool
  rd : Option Bool
  deriving DecidableEq, Repr

/-- Running disparity after a symbol: set by a symbol that is not disparity-neutral. -/
def rdAfter (sym : Nat) (rd : Option Bool) : Option Bool :=
  let n := popCount 10 sym
  if 5 < n then some true else if n < 5 then some false else rd

/-- Decoding of a received symbol (R175). -/
def dec10 (sym : Nat) (rd : Option Bool) : Dec10 :=
  let after := rdAfter sym rd
  match rd with
  | some d =>
    match look10 sym d with
    | some v => ⟨some v, false, after⟩
    | none => match look10 sym (!d) with | some v => ⟨some v, true, after⟩ | none => ⟨none, false, after⟩
  | none => match look10 sym false with
    | some v => ⟨some v, false, after⟩
    | none => ⟨look10 sym true, false, after⟩

/-- Ten bits that the code holds at neither running disparity: the injector's value, or 0 where that is in the code (R225). -/
def outside10 (byte : Nat) : Nat :=
  let v := (Config.badSymbol byte).toNat
  if (look10 v false).isSome || (look10 v true).isSome then 0 else v

/-- Symbols of K flags and bytes from a running disparity, and the disparity after them (R175). Symbol `p` is altered as kind 0-2 of R225 gives: a
value outside the code, the encoding of the other disparity, or byte XOR 1. DEDUCED: kinds 0 and 1 alter what leaves the coder, whose own disparity
goes on as for the intact symbol (log entry 12). -/
def encSyms : List (Bool × Nat) → Option (Nat × Nat) → Bool → List Nat × Bool
  | [], _, rd => ([], rd)
  | (k, b) :: t, some (0, kind), rd =>
    let c := enc10 k b rd
    let w := match kind with | 0 => outside10 b | 1 => (enc10 k b (!rd)).1 | _ => (enc10 k (b ^^^ 1) rd).1
    let r := encSyms t none (if kind ≤ 1 then c.2 else (enc10 k (b ^^^ 1) rd).2)
    (w :: r.1, r.2)
  | (k, b) :: t, some (n + 1, kind), rd =>
    let c := enc10 k b rd
    let r := encSyms t (some (n, kind)) c.2
    (c.1 :: r.1, r.2)
  | (k, b) :: t, none, rd =>
    let c := enc10 k b rd
    let r := encSyms t none c.2
    (c.1 :: r.1, r.2)

end Sys2Proof.Machine
end

