-- ==== Sys2Proof/Machine/Tab.lean ====
section
/-! DEFINITION. Sparse storage: a table of (key, value) pairs in one canonical form, keys strictly rising and no
entry equal to what an unlisted key reads as, so that equal contents are equal data. Registers, memories, records
and per-instance internal state are all held in such tables. -/
namespace Sys2Proof.Machine

/-- A sparse table keyed by numbers. -/
abbrev Tab (α : Type) := List (Nat × α)

/-- The entry listed at a key. -/
def tabFind {α : Type} : Tab α → Nat → Option α
  | [], _ => none
  | (j, v) :: t, k => if j = k then some v else tabFind t k

/-- What a key reads as: its entry, or the default of the table. -/
def tabGet {α : Type} (d : Nat → α) (t : Tab α) (k : Nat) : α := (tabFind t k).getD (d k)

/-- The table without a key. -/
def tabErase {α : Type} (t : Tab α) (k : Nat) : Tab α := t.filter (fun e => e.1 != k)

/-- Insertion of an entry in key order, replacing an entry of that key. -/
def tabIns {α : Type} : Tab α → Nat → α → Tab α
  | [], k, v => [(k, v)]
  | (j, w) :: t, k, v =>
    if k < j then (k, v) :: (j, w) :: t
    else if k = j then (k, v) :: t
    else (j, w) :: tabIns t k v

/-- A write: the canonical form is kept, so writing the default removes the entry. -/
def tabPut {α : Type} [DecidableEq α] (d : Nat → α) (t : Tab α) (k : Nat) (v : α) : Tab α :=
  if v = d k then tabErase t k else tabIns t k v

/-- A read-modify-write of one key. -/
def tabMod {α : Type} [DecidableEq α] (d : Nat → α) (t : Tab α) (k : Nat) (f : α → α) : Tab α :=
  tabPut d t k (f (tabGet d t k))

/-- Keys strictly rising. -/
def tabSorted {α : Type} : Tab α → Bool
  | [] => true
  | [_] => true
  | a :: b :: t => decide (a.1 < b.1) && tabSorted (b :: t)

/-- The canonical form of a table with default `d`. -/
def tabWf {α : Type} [DecidableEq α] (d : Nat → α) (t : Tab α) : Bool :=
  tabSorted t && t.all (fun e => decide (e.2 ≠ d e.1))

/-- The table restricted to the keys that satisfy a test. -/
def tabKeep {α : Type} (t : Tab α) (p : Nat → Bool) : Tab α := t.filter (fun e => p e.1)

end Sys2Proof.Machine
end

