-- ==== Sys2Proof/Machine/RegMap.lean ====
section
/-! DEFINITION. The register map of the GV9400: every device register the chapters lay down, with its block, offset,
fields, access types and reset values, and the addresses of the blocks (R31 and the register rules of each chapter).
A register is keyed by die index * 2^24 + offset in the die's region (R31). Fields a chapter marks reserved are not
listed: they read 0 and ignore writes (R38). Fields whose reset value the manual gives as "Fuses" or "Option" stand
here with the value of an unprovisioned option-N part, 0 (assumption 4). -/
namespace Sys2Proof.Machine

/-- Access types of register fields, R9. -/
inductive Acc where
  | rw | ro | w1c | w1s | wo | rc
  deriving DecidableEq, Repr

/-- How a register belongs to a pair (R35, R40, R42): the `_LO` or `_HI` word of a declared pair, and whether the
pair is a counter. -/
inductive PairKind where
  | none | lo | hi | ctrLo | ctrHi
  deriving DecidableEq, Repr

/-- One field of a register map (R9: Bits, Field, Access, Reset). -/
structure FieldSpec where
  name : String
  hi : Nat
  lo : Nat
  acc : Acc
  rst : Nat
  deriving DecidableEq, Repr

/-- One register or array of registers of a block. -/
structure RegSpec where
  name : String
  ofs : Nat
  count : Nat
  stride : Nat
  pair : PairKind
  fields : List FieldSpec
  deriving DecidableEq, Repr

/-- The register blocks. -/
inductive Blk where
  | field | gran | ddr | mill | stop | gpio | link | lane | quad | fcu | spine | tally | parish | site | dramhub | own | enc | fn | dma | mbxch | mbxep | mbxhub | mgmt | sec | bk | dbg | cfg | start | mon | clk | kelk | guest | regbus | dloc
  deriving DecidableEq, Repr

/-- A field of a register at a block offset, for reading and writing by name. -/
structure Fld where
  ofs : Nat
  hi : Nat
  lo : Nat
  deriving DecidableEq, Repr

/-- Registers of a `field` block (R85, R103, R138, R480, R504). -/
def regsOfField : List RegSpec :=
  [ ⟨"FCK_CTRL", 0x0, 1, 4, .none, [⟨"MULT_NEXT", 23, 16, .rw, 32⟩, ⟨"MULT", 15, 8, .ro, 32⟩, ⟨"CK_EN_NEXT", 3, 0, .rw, 0⟩]⟩,
    ⟨"FCK_APPLY", 0x4, 1, 4, .none, [⟨"GO", 0, 0, .wo, 0⟩]⟩,
    ⟨"FCK_STAT", 0x8, 1, 4, .none, [⟨"STRETCH", 16, 11, .ro, 0⟩, ⟨"STRETCH_CHG", 10, 10, .w1c, 0⟩, ⟨"REFUSED", 9, 9, .w1c, 0⟩, ⟨"HALTED", 8, 8, .ro, 0⟩, ⟨"SWITCHING", 7, 7, .ro, 0⟩, ⟨"LOCKED", 6, 6, .ro, 0⟩, ⟨"CK_ON", 3, 0, .ro, 0⟩]⟩,
    ⟨"FCK_TCRIT", 0xc, 1, 4, .none, [⟨"TCRIT", 0, 0, .rw, 0⟩]⟩,
    ⟨"FCK_DIV", 0x10, 4, 4, .none, [⟨"DIV_NEXT", 24, 16, .rw, 4⟩, ⟨"DIV", 8, 0, .ro, 4⟩]⟩,
    ⟨"STILE_STAT", 0x100, 4, 16, .none, [⟨"NO_PEER", 6, 6, .ro, 0⟩, ⟨"DROP", 5, 5, .w1c, 0⟩, ⟨"LINK_LOST", 4, 4, .w1c, 0⟩, ⟨"FENCED", 3, 3, .ro, 0⟩, ⟨"PEER_HALTED", 2, 2, .ro, 0⟩, ⟨"PEER_IN_RESET", 1, 1, .ro, 0⟩, ⟨"PEER_RESET", 0, 0, .w1c, 0⟩]⟩,
    ⟨"STILE_DROP_CNT", 0x104, 4, 16, .none, [⟨"COUNT", 31, 0, .rc, 0⟩]⟩,
    ⟨"STILE_IE", 0x108, 4, 16, .none, [⟨"IE_DROP", 5, 5, .rw, 0⟩, ⟨"IE_LINK", 4, 4, .rw, 0⟩, ⟨"IE_PEER", 0, 0, .rw, 0⟩]⟩,
    ⟨"BM_STAT", 0x200, 1, 4, .none, [⟨"PATROL_LATE", 7, 7, .w1c, 0⟩, ⟨"PATROL_DONE", 6, 6, .w1c, 0⟩, ⟨"REMAP_REFUSED", 5, 5, .w1c, 0⟩, ⟨"QUNF", 4, 4, .w1c, 0⟩, ⟨"QOVF", 3, 3, .w1c, 0⟩, ⟨"RMW_COLL", 2, 2, .w1c, 0⟩, ⟨"UE", 1, 1, .w1c, 0⟩, ⟨"CE", 0, 0, .w1c, 0⟩]⟩,
    ⟨"BM_CE_ADDR", 0x204, 1, 4, .none, [⟨"SYNDROME", 31, 24, .ro, 0⟩, ⟨"SOURCE", 23, 21, .ro, 0⟩, ⟨"BM", 16, 10, .ro, 0⟩, ⟨"WORD", 9, 0, .ro, 0⟩]⟩,
    ⟨"BM_UE_ADDR", 0x208, 1, 4, .none, [⟨"SYNDROME", 31, 24, .ro, 0⟩, ⟨"SOURCE", 23, 21, .ro, 0⟩, ⟨"BM", 16, 10, .ro, 0⟩, ⟨"WORD", 9, 0, .ro, 0⟩]⟩,
    ⟨"BM_CE_CNT", 0x20c, 1, 4, .none, [⟨"COUNT", 31, 0, .rc, 0⟩]⟩ ] ++
  [ ⟨"BM_UE_CNT", 0x210, 1, 4, .none, [⟨"COUNT", 31, 0, .rc, 0⟩]⟩,
    ⟨"BM_EVT_IDX", 0x214, 1, 4, .none, [⟨"REMAP_BM", 22, 16, .ro, 0⟩, ⟨"COLL_BM", 14, 8, .ro, 0⟩, ⟨"QERR_BM", 6, 0, .ro, 0⟩]⟩,
    ⟨"BM_IE", 0x218, 1, 4, .none, [⟨"IE", 7, 0, .rw, 0⟩]⟩,
    ⟨"BM_FLIP_CTRL", 0x21c, 1, 4, .none, [⟨"ARM", 31, 31, .rw, 0⟩, ⟨"BM", 6, 0, .rw, 0⟩]⟩,
    ⟨"BM_FLIP_D_LO", 0x220, 1, 4, .lo, [⟨"MASK", 31, 0, .rw, 0⟩]⟩,
    ⟨"BM_FLIP_D_HI", 0x224, 1, 4, .hi, [⟨"MASK", 31, 0, .rw, 0⟩]⟩,
    ⟨"BM_FLIP_C", 0x228, 1, 4, .none, [⟨"MASK", 7, 0, .rw, 0⟩]⟩,
    ⟨"BM_STEAL_CNT", 0x22c, 1, 4, .none, [⟨"COUNT", 31, 0, .rc, 0⟩]⟩,
    ⟨"BM_PATROL", 0x230, 1, 4, .none, [⟨"PERIOD", 7, 0, .rw, 24⟩]⟩,
    ⟨"BM_REWRITE", 0x234, 1, 4, .none, [⟨"GO", 31, 31, .wo, 0⟩, ⟨"BM", 16, 10, .wo, 0⟩, ⟨"WORD", 9, 0, .wo, 0⟩]⟩,
    ⟨"BM_REMAP", 0x1000, 384, 4, .none, [⟨"VALID", 31, 31, .rw, 0⟩, ⟨"COPY_BUSY", 30, 30, .ro, 0⟩, ⟨"WORD", 9, 0, .rw, 0⟩]⟩,
    ⟨"DBG_FLD_CMD", 0x2000, 1, 4, .none, [⟨"HALT", 31, 31, .wo, 0⟩, ⟨"RUN", 30, 30, .wo, 0⟩, ⟨"STEP", 29, 29, .wo, 0⟩, ⟨"N", 7, 0, .wo, 0⟩]⟩ ] ++
  [ ⟨"DBG_FLD_STAT", 0x2004, 1, 4, .none, [⟨"STATE", 31, 30, .ro, 0⟩, ⟨"HALT_SRC", 27, 24, .ro, 0⟩, ⟨"HALT_CH", 23, 20, .ro, 0⟩, ⟨"RB_BUSY", 7, 7, .ro, 0⟩, ⟨"XT_FENCED", 6, 6, .w1c, 0⟩, ⟨"CMD_REFUSED", 5, 5, .w1c, 0⟩, ⟨"RB_REFUSED", 4, 4, .w1c, 0⟩, ⟨"RB_DONE", 3, 3, .w1c, 0⟩, ⟨"STEP_DONE", 2, 2, .w1c, 0⟩, ⟨"HALT_EVT", 1, 1, .w1c, 0⟩]⟩,
    ⟨"DBG_FLD_TRIG", 0x2008, 1, 4, .none, [⟨"HALT_MASK", 31, 16, .rw, 0⟩, ⟨"RUN_MASK", 15, 0, .rw, 0⟩]⟩,
    ⟨"DBG_FLD_TAPOUT", 0x200c, 1, 4, .none, [⟨"EN3", 31, 31, .rw, 0⟩, ⟨"CH3", 27, 24, .rw, 0⟩, ⟨"EN2", 23, 23, .rw, 0⟩, ⟨"CH2", 19, 16, .rw, 0⟩, ⟨"EN1", 15, 15, .rw, 0⟩, ⟨"CH1", 11, 8, .rw, 0⟩, ⟨"EN0", 7, 7, .rw, 0⟩, ⟨"CH0", 3, 0, .rw, 0⟩]⟩,
    ⟨"DBG_FLD_TAPIN", 0x2010, 1, 4, .none, [⟨"EN3", 31, 31, .rw, 0⟩, ⟨"CH3", 27, 24, .rw, 0⟩, ⟨"EN2", 23, 23, .rw, 0⟩, ⟨"CH2", 19, 16, .rw, 0⟩, ⟨"EN1", 15, 15, .rw, 0⟩, ⟨"CH1", 11, 8, .rw, 0⟩, ⟨"EN0", 7, 7, .rw, 0⟩, ⟨"CH0", 3, 0, .rw, 0⟩]⟩,
    ⟨"CFG_FSTAT", 0x3000, 1, 4, .none, [⟨"STATE", 31, 29, .ro, 0⟩, ⟨"SRC", 28, 27, .ro, 0⟩, ⟨"STEP", 26, 24, .ro, 0⟩, ⟨"UE", 3, 3, .w1c, 0⟩, ⟨"CE", 2, 2, .w1c, 0⟩, ⟨"RELOAD_ERR", 1, 1, .w1c, 0⟩, ⟨"LOCK_TMO", 0, 0, .w1c, 0⟩]⟩,
    ⟨"DBG_FLD_RB", 0x2014, 1, 4, .none, [⟨"CAPTURE", 31, 31, .wo, 0⟩]⟩,
    ⟨"DBG_FLD_HALT_TTC_LO", 0x2018, 1, 4, .lo, [⟨"TTC", 31, 0, .ro, 0⟩]⟩,
    ⟨"DBG_FLD_HALT_TTC_HI", 0x201c, 1, 4, .hi, [⟨"TTC", 31, 0, .ro, 0⟩]⟩,
    ⟨"CFG_FIMG", 0x3004, 1, 4, .none, [⟨"IMAGE_ID", 31, 0, .ro, 0⟩]⟩,
    ⟨"CFG_CE_CNT", 0x3008, 1, 4, .none, [⟨"COUNT", 31, 0, .rc, 0⟩]⟩,
    ⟨"CFG_UE_CNT", 0x300c, 1, 4, .none, [⟨"COUNT", 31, 0, .rc, 0⟩]⟩ ]

/-- Registers of a `gran` block (R139). -/
def regsOfGran : List RegSpec :=
  [ ⟨"GR_STAT", 0x0, 1, 4, .none, [⟨"FENCED", 11, 8, .ro, 0⟩, ⟨"PATROL_LATE", 7, 7, .w1c, 0⟩, ⟨"PATROL_DONE", 6, 6, .w1c, 0⟩, ⟨"REMAP_REFUSED", 5, 5, .w1c, 0⟩, ⟨"GP_ERR", 4, 4, .w1c, 0⟩, ⟨"DROP", 3, 3, .w1c, 0⟩, ⟨"UE", 1, 1, .w1c, 0⟩, ⟨"CE", 0, 0, .w1c, 0⟩]⟩,
    ⟨"GR_CE_ADDR", 0x4, 1, 4, .none, [⟨"SYNDROME", 31, 23, .ro, 0⟩, ⟨"SOURCE", 22, 20, .ro, 0⟩, ⟨"QADDR", 16, 0, .ro, 0⟩]⟩,
    ⟨"GR_UE_ADDR", 0x8, 1, 4, .none, [⟨"SYNDROME", 31, 23, .ro, 0⟩, ⟨"SOURCE", 22, 20, .ro, 0⟩, ⟨"QADDR", 16, 0, .ro, 0⟩]⟩,
    ⟨"GR_CE_CNT", 0xc, 1, 4, .none, [⟨"COUNT", 31, 0, .rc, 0⟩]⟩,
    ⟨"GR_UE_CNT", 0x10, 1, 4, .none, [⟨"COUNT", 31, 0, .rc, 0⟩]⟩,
    ⟨"GR_DROP_CNT", 0x14, 1, 4, .none, [⟨"COUNT", 31, 0, .rc, 0⟩]⟩,
    ⟨"GR_STEAL_CNT", 0x38, 1, 4, .none, [⟨"COUNT", 31, 0, .rc, 0⟩]⟩,
    ⟨"GR_PORT_EN", 0x18, 1, 4, .none, [⟨"EN", 3, 0, .ro, 0⟩]⟩,
    ⟨"GR_IE", 0x1c, 1, 4, .none, [⟨"IE", 7, 0, .rw, 0⟩]⟩,
    ⟨"GR_FLIP_CTRL", 0x20, 1, 4, .none, [⟨"ARM", 31, 31, .rw, 0⟩]⟩,
    ⟨"GR_FLIP", 0x24, 4, 4, .none, [⟨"MASK", 31, 0, .rw, 0⟩]⟩,
    ⟨"GR_FLIP4", 0x34, 1, 4, .none, [⟨"MASK", 8, 0, .rw, 0⟩]⟩ ] ++
  [ ⟨"GR_PATROL", 0x3c, 1, 4, .none, [⟨"PERIOD", 7, 0, .rw, 24⟩]⟩,
    ⟨"GR_REWRITE", 0x40, 1, 4, .none, [⟨"GO", 31, 31, .wo, 0⟩, ⟨"QADDR", 16, 0, .wo, 0⟩]⟩,
    ⟨"GR_REMAP", 0x100, 16, 4, .none, [⟨"VALID", 31, 31, .rw, 0⟩, ⟨"COPY_BUSY", 30, 30, .ro, 0⟩, ⟨"LINE", 14, 0, .rw, 0⟩]⟩ ]

/-- Registers of a `ddr` block (R340, R361). -/
def regsOfDdr : List RegSpec :=
  [ ⟨"DDR_CTRL", 0x0, 1, 4, .none, [⟨"EN", 31, 31, .rw, 0⟩, ⟨"SPARE_EN", 30, 30, .rw, 0⟩, ⟨"SPARE_RANK", 29, 28, .rw, 3⟩, ⟨"RANKS", 27, 26, .rw, 0⟩, ⟨"DPC2", 25, 25, .rw, 0⟩, ⟨"X8", 24, 24, .rw, 0⟩, ⟨"RANK_GIB", 15, 8, .rw, 0⟩]⟩,
    ⟨"DDR_STAT", 0x4, 1, 4, .none, [⟨"STATE", 31, 29, .ro, 0⟩, ⟨"FSP", 28, 27, .ro, 0⟩, ⟨"POSTURE", 26, 24, .ro, 0⟩, ⟨"FREQ_REFUSED", 11, 11, .w1c, 0⟩, ⟨"TRAIN_FAIL", 10, 10, .w1c, 0⟩, ⟨"RETRAINED", 9, 9, .w1c, 0⟩, ⟨"FSP_FALLBACK", 8, 8, .w1c, 0⟩, ⟨"TEMP_CRIT", 7, 7, .w1c, 0⟩, ⟨"TEMP_HI", 6, 6, .w1c, 0⟩, ⟨"THROTTLE", 5, 5, .w1c, 0⟩, ⟨"MIG_DONE", 4, 4, .w1c, 0⟩, ⟨"RETIRE", 3, 3, .w1c, 0⟩, ⟨"CAPAR", 2, 2, .w1c, 0⟩, ⟨"UE", 1, 1, .w1c, 0⟩, ⟨"CE", 0, 0, .w1c, 0⟩]⟩,
    ⟨"DDR_IE", 0x8, 1, 4, .none, [⟨"IE", 11, 0, .rw, 0⟩]⟩,
    ⟨"DDR_FSP0", 0x10, 1, 4, .none, [⟨"TRAINED", 31, 31, .ro, 0⟩, ⟨"RATE", 15, 0, .rw, 6400⟩]⟩,
    ⟨"DDR_FSP1", 0x14, 1, 4, .none, [⟨"TRAINED", 31, 31, .ro, 0⟩, ⟨"RATE", 15, 0, .rw, 4800⟩]⟩,
    ⟨"DDR_FSP2", 0x18, 1, 4, .none, [⟨"TRAINED", 31, 31, .ro, 0⟩, ⟨"RATE", 15, 0, .rw, 3200⟩]⟩,
    ⟨"DDR_FREQ", 0x1c, 1, 4, .none, [⟨"GO", 31, 31, .wo, 0⟩, ⟨"FSP", 1, 0, .wo, 0⟩]⟩,
    ⟨"DDR_RANK", 0x20, 4, 4, .none, [⟨"STATE", 31, 29, .ro, 0⟩, ⟨"SERVES", 28, 27, .ro, 0⟩, ⟨"REF_X2", 26, 26, .ro, 0⟩]⟩,
    ⟨"DDR_ERR_SRC", 0x60, 1, 4, .none, [⟨"PATROL", 31, 31, .ro, 0⟩, ⟨"RANK", 30, 29, .ro, 0⟩, ⟨"SUBCH", 28, 28, .ro, 0⟩, ⟨"MID", 11, 0, .ro, 0⟩]⟩,
    ⟨"DDR_PATROL", 0x64, 1, 4, .none, [⟨"FIX", 31, 31, .rw, 1⟩, ⟨"PERIOD", 7, 0, .rw, 24⟩]⟩,
    ⟨"DDR_RH", 0x68, 1, 4, .none, [⟨"RFM", 31, 31, .ro, 0⟩, ⟨"THRESH", 15, 0, .rw, 2048⟩]⟩,
    ⟨"DDR_RH_LAST", 0x6c, 1, 4, .none, [⟨"RANK", 27, 26, .ro, 0⟩, ⟨"SUBCH", 25, 25, .ro, 0⟩, ⟨"BANK", 24, 20, .ro, 0⟩, ⟨"MID", 11, 0, .ro, 0⟩]⟩ ] ++
  [ ⟨"DDR_PORT", 0x100, 16, 4, .none, [⟨"RESV", 31, 26, .rw, 0⟩, ⟨"TARGET", 15, 0, .rw, 1000⟩]⟩,
    ⟨"DDR_MIG_PTR", 0x30, 1, 4, .none, [⟨"PTR", 31, 0, .ro, 0⟩]⟩,
    ⟨"DDR_MIG_POISON", 0x34, 1, 4, .none, [⟨"COUNT", 31, 0, .ro, 0⟩]⟩,
    ⟨"DDR_CE_CNT", 0x40, 1, 4, .none, [⟨"COUNT", 31, 0, .rc, 0⟩]⟩,
    ⟨"DDR_UE_CNT", 0x44, 1, 4, .none, [⟨"COUNT", 31, 0, .rc, 0⟩]⟩,
    ⟨"DDR_CAPAR_CNT", 0x48, 1, 4, .none, [⟨"COUNT", 31, 0, .rc, 0⟩]⟩,
    ⟨"DDR_THROTTLE_CNT", 0x4c, 1, 4, .none, [⟨"COUNT", 31, 0, .rc, 0⟩]⟩,
    ⟨"DDR_RFM_CNT", 0x50, 1, 4, .none, [⟨"COUNT", 31, 0, .rc, 0⟩]⟩,
    ⟨"DDR_FILL_WAIT_CNT", 0x54, 1, 4, .none, [⟨"COUNT", 31, 0, .rc, 0⟩]⟩,
    ⟨"DDR_ERR_ADDR_LO", 0x58, 1, 4, .lo, [⟨"ADDR", 31, 0, .ro, 0⟩]⟩,
    ⟨"DDR_ERR_ADDR_HI", 0x5c, 1, 4, .hi, [⟨"ADDR", 5, 0, .ro, 0⟩]⟩,
    ⟨"DDR_PORT_MAX", 0x140, 16, 4, .none, [⟨"NS", 15, 0, .rc, 0⟩]⟩ ] ++
  [ ⟨"ENC_CACHE_HIT_CNT", 0x180, 1, 4, .none, [⟨"COUNT", 31, 0, .rc, 0⟩]⟩,
    ⟨"ENC_CACHE_MISS_CNT", 0x184, 1, 4, .none, [⟨"COUNT", 31, 0, .rc, 0⟩]⟩ ]

/-- Registers of a `mill` block (R290). -/
def regsOfMill : List RegSpec :=
  [ ⟨"MILL_CTRL", 0x0, 1, 4, .none, [⟨"START", 31, 31, .wo, 0⟩, ⟨"CLOSE", 30, 30, .wo, 0⟩, ⟨"ABORT", 29, 29, .wo, 0⟩, ⟨"SRC", 0, 0, .rw, 0⟩]⟩,
    ⟨"MILL_STAT", 0x4, 1, 4, .none, [⟨"STATE", 31, 28, .ro, 0⟩, ⟨"ERR", 27, 24, .ro, 0⟩, ⟨"DESC_OFS", 23, 16, .ro, 0⟩, ⟨"INTAKE_UE", 5, 5, .w1c, 0⟩, ⟨"REFUSED", 4, 4, .w1c, 0⟩, ⟨"RANGE", 3, 3, .w1c, 0⟩, ⟨"OVF", 2, 2, .w1c, 0⟩, ⟨"ERROR", 1, 1, .w1c, 0⟩, ⟨"DONE", 0, 0, .w1c, 0⟩]⟩,
    ⟨"MILL_IE", 0x8, 1, 4, .none, [⟨"IE", 5, 0, .rw, 0⟩]⟩,
    ⟨"MILL_OWNER", 0xc, 1, 4, .none, [⟨"SITE", 6, 0, .rw, 127⟩]⟩,
    ⟨"MILL_SRC_CNT", 0x20, 1, 4, .none, [⟨"COUNT", 31, 0, .rw, 0⟩]⟩,
    ⟨"MILL_PROGRESS", 0x24, 1, 4, .none, [⟨"REGION", 11, 0, .ro, 0⟩]⟩,
    ⟨"MILL_DESC_LO", 0x10, 1, 4, .lo, [⟨"ADDR", 31, 8, .rw, 0⟩]⟩,
    ⟨"MILL_DESC_HI", 0x14, 1, 4, .hi, [⟨"ADDR", 15, 0, .rw, 0⟩]⟩,
    ⟨"MILL_SRC_LO", 0x18, 1, 4, .lo, [⟨"ADDR", 31, 8, .rw, 0⟩]⟩,
    ⟨"MILL_SRC_HI", 0x1c, 1, 4, .hi, [⟨"ADDR", 15, 0, .rw, 0⟩]⟩,
    ⟨"MILL_TAKEN_CNT", 0x28, 1, 4, .none, [⟨"COUNT", 31, 0, .ro, 0⟩]⟩,
    ⟨"MILL_MERGED_CNT", 0x2c, 1, 4, .none, [⟨"COUNT", 31, 0, .ro, 0⟩]⟩ ] ++
  [ ⟨"MILL_RANGE_CNT", 0x30, 1, 4, .none, [⟨"COUNT", 31, 0, .ro, 0⟩]⟩,
    ⟨"MILL_OVF_DROP_CNT", 0x34, 1, 4, .none, [⟨"COUNT", 31, 0, .ro, 0⟩]⟩,
    ⟨"MILL_N_REPAIRED", 0x3c, 1, 4, .none, [⟨"COUNT", 31, 0, .ro, 0⟩]⟩,
    ⟨"MILL_N_UNREP", 0x40, 1, 4, .none, [⟨"COUNT", 31, 0, .ro, 0⟩]⟩,
    ⟨"MILL_N_UNDEC", 0x44, 1, 4, .none, [⟨"COUNT", 31, 0, .ro, 0⟩]⟩,
    ⟨"MILL_RES_BYTES", 0x48, 1, 4, .none, [⟨"COUNT", 31, 0, .ro, 0⟩]⟩,
    ⟨"MILL_INTAKE_UE_CNT", 0x4c, 1, 4, .none, [⟨"COUNT", 31, 0, .ro, 0⟩]⟩,
    ⟨"MILL_STORED", 0x38, 1, 4, .none, [⟨"COUNT", 17, 0, .ro, 0⟩]⟩,
    ⟨"MILL_NODES_LO", 0x50, 1, 4, .ctrLo, [⟨"COUNT", 31, 0, .ro, 0⟩]⟩,
    ⟨"MILL_NODES_HI", 0x54, 1, 4, .ctrHi, [⟨"COUNT", 31, 0, .ro, 0⟩]⟩ ]

/-- Registers of a `stop` block (R168). -/
def regsOfStop : List RegSpec :=
  [ ⟨"RING_STAT", 0x0, 1, 4, .none, [⟨"DENY", 8, 8, .w1c, 0⟩, ⟨"TMO", 7, 7, .w1c, 0⟩, ⟨"LATE", 6, 6, .w1c, 0⟩, ⟨"HDR_DROP", 5, 5, .w1c, 0⟩, ⟨"HDR_CE", 4, 4, .w1c, 0⟩, ⟨"CRC_ERR", 3, 3, .w1c, 0⟩, ⟨"RST_DROP", 2, 2, .w1c, 0⟩, ⟨"BELL_DROP", 1, 1, .w1c, 0⟩, ⟨"BELL_DENY", 0, 0, .w1c, 0⟩]⟩,
    ⟨"RING_BELL_CTRL", 0x4, 1, 4, .none, [⟨"EN", 31, 31, .rw, 0⟩, ⟨"DEST", 9, 0, .rw, 0⟩]⟩,
    ⟨"RING_RSP_TMO", 0x28, 1, 4, .none, [⟨"TMO", 15, 0, .rw, 1000⟩]⟩,
    ⟨"RING_IE", 0x30, 1, 4, .none, [⟨"IE", 8, 0, .rw, 0⟩]⟩,
    ⟨"RING_FW_WIN", 0x40, 8, 4, .none, [⟨"EN", 31, 31, .rw, 0⟩, ⟨"R", 30, 30, .rw, 0⟩, ⟨"W", 29, 29, .rw, 0⟩, ⟨"B", 28, 28, .rw, 0⟩, ⟨"MASK", 27, 16, .rw, 0⟩, ⟨"MID", 11, 0, .rw, 0⟩]⟩,
    ⟨"RING_BELL_DENY_CNT", 0x8, 1, 4, .none, [⟨"COUNT", 31, 0, .rc, 0⟩]⟩,
    ⟨"RING_BELL_DROP_CNT", 0xc, 1, 4, .none, [⟨"COUNT", 31, 0, .rc, 0⟩]⟩,
    ⟨"RING_CRC_CNT", 0x10, 1, 4, .none, [⟨"COUNT", 31, 0, .rc, 0⟩]⟩,
    ⟨"RING_HDR_CE_CNT", 0x14, 1, 4, .none, [⟨"COUNT", 31, 0, .rc, 0⟩]⟩,
    ⟨"RING_HDR_DROP_CNT", 0x18, 1, 4, .none, [⟨"COUNT", 31, 0, .rc, 0⟩]⟩,
    ⟨"RING_RST_DROP_CNT", 0x1c, 1, 4, .none, [⟨"COUNT", 31, 0, .rc, 0⟩]⟩,
    ⟨"RING_TMO_CNT", 0x20, 1, 4, .none, [⟨"COUNT", 31, 0, .rc, 0⟩]⟩ ] ++
  [ ⟨"RING_LATE_CNT", 0x24, 1, 4, .none, [⟨"COUNT", 31, 0, .rc, 0⟩]⟩,
    ⟨"RING_DENY_CNT", 0x2c, 1, 4, .none, [⟨"COUNT", 31, 0, .rc, 0⟩]⟩ ]

/-- Registers of a `gpio` block (R570, R571, R572, R580). -/
def regsOfGpio : List RegSpec :=
  [ ⟨"GPIO_FILT", 0x24, 1, 4, .none, [⟨"PRE", 15, 0, .rw, 0⟩]⟩,
    ⟨"GPIO_STAT", 0x28, 1, 4, .none, [⟨"OWN_CHG", 1, 1, .w1c, 0⟩, ⟨"MUX_REFUSED", 0, 0, .w1c, 0⟩]⟩,
    ⟨"IO_PIN", 0x100, 16, 4, .none, [⟨"SAFE", 30, 29, .rw, 0⟩, ⟨"PULL", 28, 27, .rw, 0⟩, ⟨"DRIVE", 26, 25, .rw, 1⟩, ⟨"FILT", 23, 16, .rw, 0⟩, ⟨"IMODE", 12, 10, .rw, 0⟩, ⟨"ARG", 9, 4, .rw, 0⟩, ⟨"FUNC", 3, 0, .rw, 0⟩]⟩,
    ⟨"GPIO_OUT", 0x0, 1, 4, .none, [⟨"BITS", 15, 0, .rw, 0⟩]⟩,
    ⟨"GPIO_OE", 0x10, 1, 4, .none, [⟨"BITS", 15, 0, .rw, 0⟩]⟩,
    ⟨"GPIO_SET", 0x4, 1, 4, .none, [⟨"BITS", 15, 0, .wo, 0⟩]⟩,
    ⟨"GPIO_CLR", 0x8, 1, 4, .none, [⟨"BITS", 15, 0, .wo, 0⟩]⟩,
    ⟨"GPIO_TGL", 0xc, 1, 4, .none, [⟨"BITS", 15, 0, .wo, 0⟩]⟩,
    ⟨"GPIO_IN", 0x14, 1, 4, .none, [⟨"BITS", 15, 0, .ro, 0⟩]⟩,
    ⟨"GPIO_RAW", 0x18, 1, 4, .none, [⟨"BITS", 15, 0, .ro, 0⟩]⟩,
    ⟨"GPIO_ISTAT", 0x1c, 1, 4, .none, [⟨"BITS", 15, 0, .w1c, 0⟩]⟩,
    ⟨"GPIO_IE", 0x20, 1, 4, .none, [⟨"BITS", 15, 0, .rw, 0⟩]⟩ ] ++
  [ ⟨"I2C_CTRL", 0x400, 1, 4, .none, [⟨"EN", 31, 31, .rw, 0⟩, ⟨"PORT", 30, 30, .rw, 0⟩, ⟨"SPEED", 29, 28, .rw, 0⟩]⟩,
    ⟨"I2C_CMD", 0x404, 1, 4, .none, [⟨"GO", 31, 31, .wo, 0⟩, ⟨"NOSTOP", 30, 30, .wo, 0⟩, ⟨"ADDR", 22, 16, .wo, 0⟩, ⟨"NRD", 12, 8, .wo, 0⟩, ⟨"NWR", 4, 0, .wo, 0⟩]⟩,
    ⟨"I2C_STAT", 0x408, 1, 4, .none, [⟨"BUSY", 31, 31, .ro, 0⟩, ⟨"REFUSED", 7, 7, .w1c, 0⟩, ⟨"BUS_STUCK", 6, 6, .w1c, 0⟩, ⟨"TIMEOUT", 5, 5, .w1c, 0⟩, ⟨"ARB_LOST", 4, 4, .w1c, 0⟩, ⟨"NACK_DATA", 3, 3, .w1c, 0⟩, ⟨"NACK_ADDR", 2, 2, .w1c, 0⟩, ⟨"DONE", 0, 0, .w1c, 0⟩]⟩,
    ⟨"I2C_CNT", 0x40c, 1, 4, .none, [⟨"COUNT", 4, 0, .ro, 0⟩]⟩,
    ⟨"I2C_TXBUF", 0x410, 4, 4, .none, [⟨"WORD", 31, 0, .rw, 0⟩]⟩,
    ⟨"I2C_RXBUF", 0x420, 4, 4, .none, [⟨"WORD", 31, 0, .ro, 0⟩]⟩,
    ⟨"I2C_IE", 0x430, 1, 4, .none, [⟨"IE", 7, 0, .rw, 0⟩]⟩,
    ⟨"SPI_CTRL", 0x500, 1, 4, .none, [⟨"EN", 31, 31, .rw, 0⟩, ⟨"CPOL", 30, 30, .rw, 0⟩, ⟨"CPHA", 29, 29, .rw, 0⟩, ⟨"LSB_FIRST", 28, 28, .rw, 0⟩, ⟨"DIV", 7, 0, .rw, 0⟩]⟩,
    ⟨"SPI_CMD", 0x504, 1, 4, .none, [⟨"GO", 31, 31, .wo, 0⟩, ⟨"KEEP", 30, 30, .wo, 0⟩, ⟨"LEN", 6, 0, .wo, 0⟩]⟩,
    ⟨"SPI_STAT", 0x508, 1, 4, .none, [⟨"BUSY", 31, 31, .ro, 0⟩, ⟨"REFUSED", 2, 2, .w1c, 0⟩, ⟨"DONE", 0, 0, .w1c, 0⟩]⟩,
    ⟨"SPI_IE", 0x50c, 1, 4, .none, [⟨"IE", 2, 0, .rw, 0⟩]⟩,
    ⟨"SPI_BUF", 0x540, 16, 4, .none, [⟨"WORD", 31, 0, .rw, 0⟩]⟩ ] ++
  [ ⟨"UART_CTRL", 0x600, 1, 4, .none, [⟨"EN", 31, 31, .rw, 0⟩, ⟨"FLOW", 30, 30, .rw, 0⟩, ⟨"PARITY", 29, 28, .rw, 0⟩, ⟨"STOP2", 27, 27, .rw, 0⟩, ⟨"DIV", 15, 0, .rw, 54⟩]⟩,
    ⟨"UART_STAT", 0x604, 1, 4, .none, [⟨"TX_LEVEL", 29, 24, .ro, 0⟩, ⟨"RX_LEVEL", 21, 16, .ro, 0⟩, ⟨"TX_EMPTY", 6, 6, .ro, 0⟩, ⟨"BREAK", 5, 5, .w1c, 0⟩, ⟨"PARITY_ERR", 4, 4, .w1c, 0⟩, ⟨"FRAME_ERR", 3, 3, .w1c, 0⟩, ⟨"RX_OVF", 2, 2, .w1c, 0⟩, ⟨"TX_OVF", 1, 1, .w1c, 0⟩, ⟨"RX_AVAIL", 0, 0, .ro, 0⟩]⟩,
    ⟨"UART_TX", 0x608, 1, 4, .none, [⟨"BYTE", 7, 0, .wo, 0⟩]⟩,
    ⟨"UART_RX", 0x60c, 1, 4, .none, [⟨"BREAK", 11, 11, .rc, 0⟩, ⟨"PARITY_ERR", 10, 10, .rc, 0⟩, ⟨"FRAME_ERR", 9, 9, .rc, 0⟩, ⟨"VALID", 8, 8, .rc, 0⟩, ⟨"BYTE", 7, 0, .rc, 0⟩]⟩,
    ⟨"UART_IE", 0x610, 1, 4, .none, [⟨"IE", 6, 0, .rw, 0⟩]⟩ ]

/-- Registers of a `link` block (R226, R227). -/
def regsOfLink : List RegSpec :=
  [ ⟨"LINK_STAT", 0x0, 1, 4, .none, [⟨"STATE", 31, 28, .ro, 0⟩, ⟨"CAUSE", 27, 24, .ro, 0⟩, ⟨"TIME_ERR", 11, 11, .w1c, 0⟩, ⟨"LATE_APPLY", 10, 10, .w1c, 0⟩, ⟨"CREDIT_ERR", 9, 9, .w1c, 0⟩, ⟨"PROTO_ERR", 8, 8, .w1c, 0⟩, ⟨"BELL_LOST", 7, 7, .w1c, 0⟩, ⟨"FAILED_EVT", 6, 6, .w1c, 0⟩, ⟨"RESYNC_EVT", 5, 5, .w1c, 0⟩, ⟨"PEER_RST_EVT", 4, 4, .w1c, 0⟩, ⟨"REMOVED", 3, 3, .w1c, 0⟩, ⟨"HELLO_FAIL", 2, 2, .w1c, 0⟩, ⟨"ACTIVE_EVT", 1, 1, .w1c, 0⟩]⟩,
    ⟨"LINK_CFG", 0x4, 1, 4, .none, [⟨"RESTART", 31, 31, .wo, 0⟩, ⟨"TIME_EN", 30, 30, .rw, 1⟩, ⟨"TIME_PERIOD", 23, 16, .rw, 10⟩, ⟨"REPLAY_TMO", 15, 0, .rw, 8192⟩]⟩,
    ⟨"LINK_OWNER", 0x8, 1, 4, .none, [⟨"INJ", 31, 31, .rw, 0⟩, ⟨"SITE", 6, 0, .rw, 127⟩]⟩,
    ⟨"LINK_PID_LO", 0x10, 1, 4, .lo, [⟨"ID", 31, 0, .ro, 0⟩]⟩,
    ⟨"LINK_PID_HI", 0x14, 1, 4, .hi, [⟨"ID", 31, 0, .ro, 0⟩]⟩,
    ⟨"LINK_HELLO", 0x18, 1, 4, .none, [⟨"GRANTED", 28, 16, .ro, 0⟩, ⟨"CHANNELS", 12, 0, .ro, 0⟩]⟩,
    ⟨"LINK_HELLO2", 0x1c, 1, 4, .none, [⟨"STATUS", 26, 24, .ro, 0⟩, ⟨"KEPT", 16, 16, .ro, 0⟩, ⟨"CAPS", 15, 8, .ro, 0⟩, ⟨"VERSION", 7, 0, .ro, 0⟩]⟩,
    ⟨"LINK_SEQ", 0x20, 1, 4, .none, [⟨"RX_NEXT", 31, 20, .ro, 0⟩, ⟨"TX_NEXT", 19, 8, .ro, 0⟩, ⟨"UNACKED", 6, 0, .ro, 0⟩]⟩,
    ⟨"LINK_CRED", 0x24, 1, 4, .none, [⟨"CTRL_AVAIL", 15, 8, .ro, 0⟩, ⟨"DATA_AVAIL", 7, 0, .ro, 0⟩]⟩,
    ⟨"LINK_TIME_RTT", 0x28, 1, 4, .none, [⟨"RTT", 31, 0, .ro, 0⟩]⟩,
    ⟨"LINK_BSEQ", 0x2c, 1, 4, .none, [⟨"LAST_VALID", 16, 16, .ro, 0⟩, ⟨"RX_LAST", 15, 8, .ro, 0⟩, ⟨"TX_NEXT", 7, 0, .ro, 0⟩]⟩,
    ⟨"LINK_IE", 0x30, 1, 4, .none, [⟨"IE", 11, 1, .rw, 0⟩, ⟨"IE_CTRL", 0, 0, .rw, 0⟩]⟩ ] ++
  [ ⟨"LINK_FI_TX", 0xc0, 1, 4, .none, [⟨"EN", 31, 31, .rw, 0⟩, ⟨"ACTION", 30, 28, .rw, 0⟩, ⟨"SEL", 27, 26, .rw, 0⟩, ⟨"COPY", 25, 24, .rw, 3⟩, ⟨"KIND", 23, 22, .rw, 0⟩, ⟨"K", 15, 12, .rw, 8⟩, ⟨"TYPES", 5, 1, .rw, 0⟩]⟩,
    ⟨"LINK_FI_RX", 0xc8, 1, 4, .none, [⟨"EN", 31, 31, .rw, 0⟩, ⟨"ACTION", 30, 28, .rw, 0⟩, ⟨"SEL", 27, 26, .rw, 0⟩, ⟨"COPY", 25, 24, .rw, 3⟩, ⟨"KIND", 23, 22, .rw, 0⟩, ⟨"K", 15, 12, .rw, 8⟩, ⟨"TYPES", 5, 1, .rw, 0⟩]⟩,
    ⟨"LINK_FI_TX_N", 0xc4, 1, 4, .none, [⟨"POS", 24, 16, .rw, 0⟩, ⟨"N", 15, 0, .rw, 2⟩]⟩,
    ⟨"LINK_FI_RX_N", 0xcc, 1, 4, .none, [⟨"POS", 24, 16, .rw, 0⟩, ⟨"N", 15, 0, .rw, 2⟩]⟩,
    ⟨"LINK_FI_SEED", 0xd0, 1, 4, .none, [⟨"SEED", 31, 0, .rw, 1⟩]⟩,
    ⟨"LINK_CTRL_CMD", 0xa0, 1, 4, .none, [⟨"GO", 31, 31, .wo, 0⟩, ⟨"WRITE", 30, 30, .wo, 0⟩, ⟨"COUNT_M1", 21, 16, .wo, 0⟩]⟩,
    ⟨"LINK_CTRL_ADDR", 0xa4, 1, 4, .none, [⟨"ADDR", 31, 2, .rw, 0⟩]⟩,
    ⟨"LINK_CTRL_STAT", 0xa8, 1, 4, .none, [⟨"BUSY", 31, 31, .ro, 0⟩, ⟨"DONE", 30, 30, .w1c, 0⟩, ⟨"TAG", 7, 0, .ro, 0⟩]⟩,
    ⟨"LINK_CTRL_CODE", 0xac, 1, 4, .none, [⟨"CODE", 2, 0, .ro, 0⟩]⟩,
    ⟨"CRC_ERR_CNT", 0x40, 1, 4, .none, [⟨"COUNT", 31, 0, .rc, 0⟩]⟩,
    ⟨"FRAME_ERR_CNT", 0x44, 1, 4, .none, [⟨"COUNT", 31, 0, .rc, 0⟩]⟩,
    ⟨"NAK_TX_CNT", 0x48, 1, 4, .none, [⟨"COUNT", 31, 0, .rc, 0⟩]⟩ ] ++
  [ ⟨"NAK_RX_CNT", 0x4c, 1, 4, .none, [⟨"COUNT", 31, 0, .rc, 0⟩]⟩,
    ⟨"REPLAY_CNT", 0x50, 1, 4, .none, [⟨"COUNT", 31, 0, .rc, 0⟩]⟩,
    ⟨"ABORT_RX_CNT", 0x54, 1, 4, .none, [⟨"COUNT", 31, 0, .rc, 0⟩]⟩,
    ⟨"DUP_RX_CNT", 0x58, 1, 4, .none, [⟨"COUNT", 31, 0, .rc, 0⟩]⟩,
    ⟨"BELL_CRC_CNT", 0x5c, 1, 4, .none, [⟨"COUNT", 31, 0, .rc, 0⟩]⟩,
    ⟨"BELL_DUP_CNT", 0x60, 1, 4, .none, [⟨"COUNT", 31, 0, .rc, 0⟩]⟩,
    ⟨"BELL_LOST_CNT", 0x64, 1, 4, .none, [⟨"COUNT", 31, 0, .rc, 0⟩]⟩,
    ⟨"BELL_TX_DROP_CNT", 0x68, 1, 4, .none, [⟨"COUNT", 31, 0, .rc, 0⟩]⟩,
    ⟨"BELL_GAP_CNT", 0x6c, 1, 4, .none, [⟨"COUNT", 31, 0, .rc, 0⟩]⟩,
    ⟨"PROTO_ERR_CNT", 0x70, 1, 4, .none, [⟨"COUNT", 31, 0, .rc, 0⟩]⟩,
    ⟨"CREDIT_ERR_CNT", 0x74, 1, 4, .none, [⟨"COUNT", 31, 0, .rc, 0⟩]⟩,
    ⟨"ACK_ERR_CNT", 0x78, 1, 4, .none, [⟨"COUNT", 31, 0, .rc, 0⟩]⟩ ] ++
  [ ⟨"TX_DISCARD_CNT", 0x7c, 1, 4, .none, [⟨"COUNT", 31, 0, .rc, 0⟩]⟩,
    ⟨"RX_INRESET_CNT", 0x80, 1, 4, .none, [⟨"COUNT", 31, 0, .rc, 0⟩]⟩,
    ⟨"LATE_APPLY_CNT", 0x84, 1, 4, .none, [⟨"COUNT", 31, 0, .rc, 0⟩]⟩,
    ⟨"APPLY_RANGE_CNT", 0x88, 1, 4, .none, [⟨"COUNT", 31, 0, .rc, 0⟩]⟩,
    ⟨"TIME_TMO_CNT", 0x8c, 1, 4, .none, [⟨"COUNT", 31, 0, .rc, 0⟩]⟩,
    ⟨"CTRL_LATE_CNT", 0x90, 1, 4, .none, [⟨"COUNT", 31, 0, .rc, 0⟩]⟩,
    ⟨"FI_TX_CNT", 0x94, 1, 4, .none, [⟨"COUNT", 31, 0, .rc, 0⟩]⟩,
    ⟨"FI_RX_CNT", 0x98, 1, 4, .none, [⟨"COUNT", 31, 0, .rc, 0⟩]⟩,
    ⟨"LINK_CTRL_DATA", 0x100, 64, 4, .none, [⟨"WORD", 31, 0, .rw, 0⟩]⟩ ]

/-- Registers of a `lane` block (R190). -/
def regsOfLane : List RegSpec :=
  [ ⟨"LANE_CTRL", 0x0, 1, 4, .none, [⟨"EN", 31, 31, .rw, 0⟩, ⟨"MODE", 30, 29, .rw, 0⟩, ⟨"PLL", 28, 28, .rw, 0⟩, ⟨"DIV", 27, 26, .rw, 0⟩]⟩,
    ⟨"LANE_STAT", 0x4, 1, 4, .none, [⟨"STATE", 31, 28, .ro, 0⟩, ⟨"DOWN_CAUSE", 27, 24, .ro, 0⟩, ⟨"CMD_IGNORED", 10, 10, .w1c, 0⟩, ⟨"RATE_REFUSED", 9, 9, .w1c, 0⟩, ⟨"SLIP_IGNORED", 8, 8, .w1c, 0⟩, ⟨"EB_ERR", 7, 7, .w1c, 0⟩, ⟨"DOWN_EVT", 6, 6, .w1c, 0⟩, ⟨"LOL", 5, 5, .w1c, 0⟩, ⟨"ALIGN_REQ", 4, 4, .w1c, 0⟩, ⟨"UP_EVT", 3, 3, .w1c, 0⟩, ⟨"SIG_DET", 2, 2, .ro, 0⟩, ⟨"CDR_LOCK", 1, 1, .ro, 0⟩]⟩,
    ⟨"LANE_CMD", 0x8, 1, 4, .none, [⟨"ALIGN_FAIL", 3, 3, .wo, 0⟩, ⟨"ALIGN_DONE", 2, 2, .wo, 0⟩, ⟨"WIN_START", 1, 1, .wo, 0⟩, ⟨"SLIP", 0, 0, .wo, 0⟩]⟩,
    ⟨"LANE_ALIGN", 0xc, 1, 4, .none, [⟨"WIN_DONE", 31, 31, .ro, 0⟩, ⟨"SLIP_BUSY", 30, 30, .ro, 0⟩, ⟨"SLIPS", 29, 26, .ro, 0⟩, ⟨"COM_WIN", 21, 11, .ro, 0⟩, ⟨"ERR_WIN", 10, 0, .ro, 0⟩]⟩,
    ⟨"LANE_TXEQ", 0x18, 1, 4, .none, [⟨"POST", 20, 16, .rw, 0⟩, ⟨"PRE", 11, 8, .rw, 0⟩, ⟨"AMP", 2, 0, .rw, 5⟩]⟩,
    ⟨"LANE_RXEQ", 0x1c, 1, 4, .none, [⟨"FREEZE", 31, 31, .rw, 0⟩, ⟨"CTLE", 19, 16, .ro, 0⟩, ⟨"DFE1", 15, 8, .ro, 0⟩]⟩,
    ⟨"LANE_EYE", 0x20, 1, 4, .none, [⟨"VALID", 31, 31, .ro, 0⟩, ⟨"WIDTH", 21, 16, .ro, 0⟩, ⟨"HEIGHT", 9, 0, .ro, 0⟩]⟩,
    ⟨"LANE_PRBS", 0x24, 1, 4, .none, [⟨"CHK_LOCK", 31, 31, .ro, 0⟩, ⟨"INV", 30, 30, .rw, 0⟩, ⟨"POLY", 29, 28, .rw, 3⟩]⟩,
    ⟨"LANE_PRBS_ERR_LO", 0x28, 1, 4, .ctrLo, [⟨"COUNT", 31, 0, .rw, 0⟩]⟩,
    ⟨"LANE_PRBS_ERR_HI", 0x2c, 1, 4, .ctrHi, [⟨"COUNT", 31, 0, .rw, 0⟩]⟩,
    ⟨"LANE_IE", 0x30, 1, 4, .none, [⟨"IE", 10, 3, .rw, 0⟩]⟩,
    ⟨"LANE_CV_CNT", 0x10, 1, 4, .none, [⟨"COUNT", 31, 0, .rc, 0⟩]⟩ ] ++
  [ ⟨"LANE_DISP_CNT", 0x14, 1, 4, .none, [⟨"COUNT", 31, 0, .rc, 0⟩]⟩,
    ⟨"TX_FILL_CNT", 0x34, 1, 4, .none, [⟨"COUNT", 31, 0, .rc, 0⟩]⟩ ]

/-- Registers of a `quad` block (R190). -/
def regsOfQuad : List RegSpec :=
  [ ⟨"QPLL_CTRL", 0x0, 1, 4, .none, [⟨"EN1", 31, 31, .rw, 0⟩, ⟨"N1", 24, 16, .rw, 160⟩, ⟨"EN0", 15, 15, .rw, 1⟩, ⟨"N0", 8, 0, .rw, 320⟩]⟩,
    ⟨"QPLL_STAT", 0x4, 1, 4, .none, [⟨"REFUSED", 2, 2, .w1c, 0⟩, ⟨"LOCK1", 1, 1, .ro, 0⟩, ⟨"LOCK0", 0, 0, .ro, 0⟩]⟩ ]

/-- Registers of a `fcu` block (R264, R265). -/
def regsOfFcu : List RegSpec :=
  [ ⟨"FCU_STAT", 0x0, 1, 4, .none, [⟨"GRAN_REFUSED", 8, 8, .w1c, 0⟩, ⟨"CLR_BUSY", 7, 7, .ro, 0⟩, ⟨"CLR_DONE", 6, 6, .w1c, 0⟩, ⟨"ECC_DROP", 5, 5, .w1c, 0⟩, ⟨"RST_DROP", 4, 4, .w1c, 0⟩, ⟨"TORN_SEEN", 3, 3, .w1c, 0⟩, ⟨"UNGRANTED", 2, 2, .w1c, 0⟩, ⟨"BAD_ENTRY", 1, 1, .w1c, 0⟩, ⟨"LOG_DROP", 0, 0, .w1c, 0⟩]⟩,
    ⟨"FCU_CLR", 0x24, 1, 4, .none, [⟨"GO", 31, 31, .wo, 0⟩, ⟨"LAST", 24, 16, .wo, 0⟩, ⟨"FIRST", 8, 0, .wo, 0⟩]⟩,
    ⟨"FCU_GRAN", 0x1000, 512, 4, .none, [⟨"SLOT", 17, 12, .ro, 0⟩, ⟨"LINK", 11, 8, .ro, 0⟩, ⟨"HELD", 7, 7, .ro, 0⟩, ⟨"SITE", 6, 0, .rw, 127⟩]⟩,
    ⟨"LR_CTRL", 0x100, 16, 64, .none, [⟨"FAB_EN", 31, 31, .rw, 0⟩, ⟨"FAB_PATH", 30, 30, .rw, 0⟩, ⟨"MILL_EN", 29, 29, .rw, 0⟩, ⟨"LOG_MODE", 28, 27, .rw, 0⟩, ⟨"TALLY_EN", 26, 26, .rw, 0⟩, ⟨"FF_EN", 25, 25, .rw, 1⟩, ⟨"DATA_PATH", 24, 24, .rw, 0⟩, ⟨"PORT_EN", 23, 23, .rw, 0⟩, ⟨"PORT_FIELD", 22, 21, .rw, 0⟩, ⟨"PORT", 20, 16, .rw, 0⟩, ⟨"MILL", 3, 0, .rw, 0⟩]⟩,
    ⟨"LR_CFG", 0x124, 16, 64, .none, [⟨"TX_POLL", 31, 16, .rw, 100⟩, ⟨"LOG_SIZE", 5, 0, .rw, 16⟩]⟩,
    ⟨"LR_STAT", 0x130, 16, 64, .none, [⟨"LOG_ERR", 3, 3, .w1c, 0⟩, ⟨"LOG_FULL", 2, 2, .w1c, 0⟩, ⟨"TX_ERR", 1, 1, .w1c, 0⟩, ⟨"AT_DROP", 0, 0, .w1c, 0⟩]⟩,
    ⟨"FCU_IE", 0x4, 1, 4, .none, [⟨"IE_8", 8, 8, .rw, 0⟩, ⟨"IE", 6, 0, .rw, 0⟩]⟩,
    ⟨"FAIL_LOG_DROPPED_LO", 0x8, 1, 4, .ctrLo, [⟨"COUNT", 31, 0, .rw, 0⟩]⟩,
    ⟨"FAIL_LOG_DROPPED_HI", 0xc, 1, 4, .ctrHi, [⟨"COUNT", 31, 0, .rw, 0⟩]⟩,
    ⟨"FCU_BAD_CNT", 0x10, 1, 4, .none, [⟨"COUNT", 31, 0, .rc, 0⟩]⟩,
    ⟨"FCU_UNGRANTED_CNT", 0x14, 1, 4, .none, [⟨"COUNT", 31, 0, .rc, 0⟩]⟩,
    ⟨"FCU_TORN_CNT", 0x18, 1, 4, .none, [⟨"COUNT", 31, 0, .rc, 0⟩]⟩ ] ++
  [ ⟨"FCU_RST_DROP_CNT", 0x1c, 1, 4, .none, [⟨"COUNT", 31, 0, .rc, 0⟩]⟩,
    ⟨"FCU_ECC_DROP_CNT", 0x20, 1, 4, .none, [⟨"COUNT", 31, 0, .rc, 0⟩]⟩,
    ⟨"FCU_MILL_DROP_CNT", 0x28, 1, 4, .none, [⟨"COUNT", 31, 0, .rc, 0⟩]⟩,
    ⟨"FCU_FAB_DROP_CNT", 0x2c, 1, 4, .none, [⟨"COUNT", 31, 0, .rc, 0⟩]⟩,
    ⟨"LR_FAB_ADDR_LO", 0x104, 16, 64, .lo, [⟨"ADDR", 31, 0, .rw, 0⟩]⟩,
    ⟨"LR_FAB_ADDR_HI", 0x108, 16, 64, .hi, [⟨"ADDR", 15, 0, .rw, 0⟩]⟩,
    ⟨"LR_RX_ADDR_LO", 0x10c, 16, 64, .lo, [⟨"ADDR", 31, 0, .rw, 0⟩]⟩,
    ⟨"LR_RX_ADDR_HI", 0x110, 16, 64, .hi, [⟨"ADDR", 15, 0, .rw, 0⟩]⟩,
    ⟨"LR_TX_ADDR_LO", 0x114, 16, 64, .lo, [⟨"ADDR", 31, 0, .rw, 0⟩]⟩,
    ⟨"LR_TX_ADDR_HI", 0x118, 16, 64, .hi, [⟨"ADDR", 15, 0, .rw, 0⟩]⟩,
    ⟨"LR_LOG_BASE_LO", 0x11c, 16, 64, .lo, [⟨"ADDR", 31, 0, .rw, 0⟩]⟩,
    ⟨"LR_LOG_BASE_HI", 0x120, 16, 64, .hi, [⟨"ADDR", 15, 0, .rw, 0⟩]⟩ ] ++
  [ ⟨"LR_LOG_WPTR", 0x128, 16, 64, .none, [⟨"PTR", 31, 0, .ro, 0⟩]⟩,
    ⟨"LR_LOG_RPTR", 0x12c, 16, 64, .none, [⟨"PTR", 31, 0, .rw, 0⟩]⟩,
    ⟨"LR_AT_DROP_CNT", 0x134, 16, 64, .none, [⟨"COUNT", 31, 0, .rc, 0⟩]⟩,
    ⟨"LR_TX_ERR_CNT", 0x138, 16, 64, .none, [⟨"COUNT", 31, 0, .rc, 0⟩]⟩ ]

/-- Registers of a `spine` block (R168, R169). -/
def regsOfSpine : List RegSpec :=
  [ ⟨"RING_STAT", 0x0, 1, 4, .none, [⟨"DENY", 8, 8, .w1c, 0⟩, ⟨"TMO", 7, 7, .w1c, 0⟩, ⟨"LATE", 6, 6, .w1c, 0⟩, ⟨"HDR_DROP", 5, 5, .w1c, 0⟩, ⟨"HDR_CE", 4, 4, .w1c, 0⟩, ⟨"CRC_ERR", 3, 3, .w1c, 0⟩, ⟨"RST_DROP", 2, 2, .w1c, 0⟩, ⟨"BELL_DROP", 1, 1, .w1c, 0⟩, ⟨"BELL_DENY", 0, 0, .w1c, 0⟩]⟩,
    ⟨"RING_BELL_CTRL", 0x4, 1, 4, .none, [⟨"EN", 31, 31, .rw, 0⟩, ⟨"DEST", 9, 0, .rw, 0⟩]⟩,
    ⟨"RING_RSP_TMO", 0x28, 1, 4, .none, [⟨"TMO", 15, 0, .rw, 1000⟩]⟩,
    ⟨"RING_IE", 0x30, 1, 4, .none, [⟨"IE", 8, 0, .rw, 0⟩]⟩,
    ⟨"RING_FW_WIN", 0x40, 8, 4, .none, [⟨"EN", 31, 31, .rw, 0⟩, ⟨"R", 30, 30, .rw, 0⟩, ⟨"W", 29, 29, .rw, 0⟩, ⟨"B", 28, 28, .rw, 0⟩, ⟨"MASK", 27, 16, .rw, 0⟩, ⟨"MID", 11, 0, .rw, 0⟩]⟩,
    ⟨"RING_SHARE", 0x80, 64, 4, .none, [⟨"SHARE", 7, 0, .rw, 0⟩]⟩,
    ⟨"PRB_CTRL", 0x180, 4, 32, .none, [⟨"EN", 31, 31, .rw, 0⟩, ⟨"TRACE", 30, 30, .rw, 0⟩, ⟨"STOP_FULL", 29, 29, .rw, 0⟩, ⟨"PORT", 28, 27, .rw, 0⟩, ⟨"DIR", 26, 25, .rw, 3⟩, ⟨"CLASS", 24, 21, .rw, 15⟩, ⟨"RSP", 20, 19, .rw, 0⟩, ⟨"OP_EN", 18, 18, .rw, 0⟩, ⟨"OP", 17, 14, .rw, 0⟩, ⟨"SID_EN", 13, 13, .rw, 0⟩, ⟨"SID", 12, 6, .rw, 0⟩, ⟨"CODE_EN", 5, 5, .rw, 0⟩, ⟨"CODE", 4, 2, .rw, 0⟩]⟩,
    ⟨"PRB_MID", 0x184, 4, 32, .none, [⟨"MASK", 27, 16, .rw, 0⟩, ⟨"MID", 11, 0, .rw, 0⟩]⟩,
    ⟨"PRB_BASE", 0x188, 4, 32, .none, [⟨"A", 31, 0, .rw, 0⟩]⟩,
    ⟨"PRB_LIMIT", 0x18c, 4, 32, .none, [⟨"A", 31, 0, .rw, 4294967295⟩]⟩,
    ⟨"PRB_CNT_LO", 0x190, 4, 32, .ctrLo, [⟨"COUNT", 31, 0, .rw, 0⟩]⟩,
    ⟨"PRB_CNT_HI", 0x194, 4, 32, .ctrHi, [⟨"COUNT", 31, 0, .rw, 0⟩]⟩ ] ++
  [ ⟨"PRB_TRC_WPTR", 0x198, 4, 32, .none, [⟨"WRAPPED", 31, 31, .w1c, 0⟩, ⟨"WPTR", 9, 0, .rw, 0⟩]⟩,
    ⟨"RING_BELL_DENY_CNT", 0x8, 1, 4, .none, [⟨"COUNT", 31, 0, .rc, 0⟩]⟩,
    ⟨"RING_BELL_DROP_CNT", 0xc, 1, 4, .none, [⟨"COUNT", 31, 0, .rc, 0⟩]⟩,
    ⟨"RING_CRC_CNT", 0x10, 1, 4, .none, [⟨"COUNT", 31, 0, .rc, 0⟩]⟩,
    ⟨"RING_HDR_CE_CNT", 0x14, 1, 4, .none, [⟨"COUNT", 31, 0, .rc, 0⟩]⟩,
    ⟨"RING_HDR_DROP_CNT", 0x18, 1, 4, .none, [⟨"COUNT", 31, 0, .rc, 0⟩]⟩,
    ⟨"RING_RST_DROP_CNT", 0x1c, 1, 4, .none, [⟨"COUNT", 31, 0, .rc, 0⟩]⟩,
    ⟨"RING_TMO_CNT", 0x20, 1, 4, .none, [⟨"COUNT", 31, 0, .rc, 0⟩]⟩,
    ⟨"RING_LATE_CNT", 0x24, 1, 4, .none, [⟨"COUNT", 31, 0, .rc, 0⟩]⟩,
    ⟨"RING_DENY_CNT", 0x2c, 1, 4, .none, [⟨"COUNT", 31, 0, .rc, 0⟩]⟩ ]

/-- Registers of a `tally` block (R266). -/
def regsOfTally : List RegSpec :=
  [ ⟨"TALLY_CTRL", 0x0, 1, 4, .none, [⟨"EN", 31, 31, .rw, 0⟩, ⟨"FAB_EN", 30, 30, .rw, 0⟩, ⟨"FAB_PATH", 29, 29, .rw, 0⟩, ⟨"TMO", 15, 0, .rw, 100⟩]⟩,
    ⟨"TALLY_STAT", 0x14, 1, 4, .none, [⟨"OPEN", 4, 4, .ro, 0⟩, ⟨"STALE", 3, 3, .w1c, 0⟩, ⟨"LINK_DROP", 2, 2, .w1c, 0⟩, ⟨"TIMEOUT", 1, 1, .w1c, 0⟩, ⟨"DONE", 0, 0, .w1c, 0⟩]⟩,
    ⟨"TALLY_FAB_ADDR_LO", 0x4, 1, 4, .lo, [⟨"ADDR", 31, 0, .rw, 0⟩]⟩,
    ⟨"TALLY_FAB_ADDR_HI", 0x8, 1, 4, .hi, [⟨"ADDR", 15, 0, .rw, 0⟩]⟩,
    ⟨"TALLY_RES_LO", 0xc, 1, 4, .lo, [⟨"TIMEOUT", 11, 11, .ro, 0⟩, ⟨"LINK_DROP", 10, 10, .ro, 0⟩, ⟨"ANY", 9, 9, .ro, 0⟩, ⟨"ALL", 8, 8, .ro, 0⟩, ⟨"STEP", 7, 0, .ro, 0⟩]⟩,
    ⟨"TALLY_RES_HI", 0x10, 1, 4, .hi, [⟨"COUNT", 20, 0, .ro, 0⟩]⟩,
    ⟨"TALLY_STALE_CNT", 0x18, 1, 4, .none, [⟨"COUNT", 31, 0, .rc, 0⟩]⟩,
    ⟨"TALLY_IE", 0x1c, 1, 4, .none, [⟨"IE", 3, 0, .rw, 0⟩]⟩,
    ⟨"TALLY_LAT", 0x20, 1, 4, .none, [⟨"NS", 15, 0, .ro, 0⟩]⟩ ]

/-- Registers of a `parish` block (R599, R600). -/
def regsOfParish : List RegSpec :=
  [ ⟨"PAR_STAT", 0x0, 1, 4, .none, [⟨"INC_OVF", 7, 7, .w1c, 0⟩, ⟨"UNREAD_LOST", 6, 6, .w1c, 0⟩, ⟨"TORN", 5, 5, .w1c, 0⟩, ⟨"STAGE_DROP", 4, 4, .w1c, 0⟩, ⟨"FLASH_ERR", 3, 3, .w1c, 0⟩, ⟨"NO_AREA", 2, 2, .ro, 0⟩, ⟨"FLUSHING", 1, 1, .ro, 0⟩]⟩,
    ⟨"FC_ACK", 0x28, 1, 4, .none, [⟨"GEN", 15, 8, .wo, 0⟩, ⟨"ENTRY", 5, 0, .wo, 0⟩]⟩,
    ⟨"INC_STAT", 0x1000, 64, 32, .none, [⟨"KIND", 31, 28, .ro, 0⟩, ⟨"INDEX", 27, 16, .ro, 0⟩, ⟨"GEN", 15, 8, .ro, 0⟩, ⟨"VALID", 7, 7, .ro, 0⟩, ⟨"OPEN", 6, 6, .ro, 0⟩, ⟨"TAKEN", 5, 5, .ro, 0⟩, ⟨"SEVERITY", 4, 2, .ro, 0⟩]⟩,
    ⟨"PAR_SEQ_NEW", 0x4, 1, 4, .none, [⟨"SEQ", 31, 0, .ro, 0⟩]⟩,
    ⟨"PAR_SEQ_FLASH", 0x8, 1, 4, .none, [⟨"SEQ", 31, 0, .ro, 0⟩]⟩,
    ⟨"PAR_SEQ_OLD", 0xc, 1, 4, .none, [⟨"SEQ", 31, 0, .ro, 0⟩]⟩,
    ⟨"PAR_MARK", 0x10, 1, 4, .none, [⟨"SEQ", 31, 0, .ro, 0⟩]⟩,
    ⟨"PAR_STAGED", 0x14, 1, 4, .none, [⟨"COUNT", 6, 0, .ro, 0⟩]⟩,
    ⟨"PAR_STAGE_DROP_CNT", 0x18, 1, 4, .none, [⟨"COUNT", 31, 0, .rc, 0⟩]⟩,
    ⟨"PAR_TORN_CNT", 0x1c, 1, 4, .none, [⟨"COUNT", 31, 0, .rc, 0⟩]⟩,
    ⟨"PAR_UNREAD_LOST_CNT", 0x20, 1, 4, .none, [⟨"COUNT", 31, 0, .rc, 0⟩]⟩,
    ⟨"PAR_IN_A", 0x40, 5, 32, .none, [⟨"SOURCE", 31, 16, .rw, 0⟩, ⟨"CODE", 15, 0, .rw, 0⟩]⟩ ] ++
  [ ⟨"PAR_IN_B", 0x44, 5, 32, .none, [⟨"SITE", 14, 8, .rw, 0⟩, ⟨"SEVERITY", 2, 0, .rw, 0⟩]⟩,
    ⟨"PAR_IN_D_LO", 0x48, 5, 32, .lo, [⟨"DATA", 31, 0, .rw, 0⟩]⟩,
    ⟨"PAR_IN_D_HI", 0x4c, 5, 32, .hi, [⟨"DATA", 31, 0, .rw, 0⟩]⟩,
    ⟨"PAR_IN_GO", 0x50, 5, 32, .none, [⟨"GO", 31, 31, .wo, 0⟩]⟩,
    ⟨"INC_CODE", 0x1004, 64, 32, .none, [⟨"SOURCE", 31, 16, .ro, 0⟩, ⟨"CODE", 15, 0, .ro, 0⟩]⟩,
    ⟨"INC_COUNT", 0x1008, 64, 32, .none, [⟨"COUNT", 31, 0, .ro, 0⟩]⟩,
    ⟨"INC_SITES_LO", 0x100c, 64, 32, .lo, [⟨"BITS", 31, 0, .ro, 0⟩]⟩,
    ⟨"INC_SITES_HI", 0x1010, 64, 32, .hi, [⟨"BITS", 31, 0, .ro, 0⟩]⟩,
    ⟨"INC_TTC_LO", 0x1014, 64, 32, .lo, [⟨"TTC", 31, 0, .ro, 0⟩]⟩,
    ⟨"INC_TTC_HI", 0x1018, 64, 32, .hi, [⟨"TTC", 31, 0, .ro, 0⟩]⟩,
    ⟨"INC_SEQ", 0x101c, 64, 32, .none, [⟨"SEQ", 31, 0, .ro, 0⟩]⟩ ]

/-- Registers of a `site` block (R312). -/
def regsOfSite : List RegSpec :=
  [ ⟨"SITE_STAT", 0x0, 1, 4, .none, [⟨"STATE", 31, 30, .ro, 0⟩, ⟨"HELD", 29, 29, .ro, 0⟩, ⟨"CAUSE", 28, 26, .ro, 0⟩, ⟨"MERGED", 7, 7, .w1c, 0⟩, ⟨"RELOAD_MISS", 6, 6, .w1c, 0⟩, ⟨"DRAIN_TMO", 5, 5, .w1c, 0⟩, ⟨"STRETCHED", 4, 4, .w1c, 0⟩, ⟨"INCIDENT", 3, 3, .w1c, 0⟩, ⟨"GRANT_CHG", 2, 2, .w1c, 0⟩, ⟨"RESET_DONE", 1, 1, .w1c, 0⟩]⟩,
    ⟨"SITE_IE", 0x4, 1, 4, .none, [⟨"IE", 7, 1, .rw, 0⟩]⟩,
    ⟨"SITE_RST_CFG", 0x8, 1, 4, .none, [⟨"FIELD_ACTION", 31, 31, .rw, 1⟩, ⟨"DRAIN_TMO", 9, 0, .rw, 200⟩]⟩,
    ⟨"SITE_CMD", 0xc, 1, 4, .none, [⟨"RESET", 31, 31, .wo, 0⟩, ⟨"RUN", 30, 30, .wo, 0⟩]⟩,
    ⟨"SITE_RST_CNT", 0x10, 1, 4, .none, [⟨"COUNT", 31, 0, .rc, 0⟩]⟩,
    ⟨"SIC_DISCARD_CNT", 0x1c, 1, 4, .none, [⟨"COUNT", 31, 0, .rc, 0⟩]⟩,
    ⟨"SITE_RIGHTS", 0x14, 1, 4, .none, [⟨"TCRIT_USED", 23, 16, .ro, 0⟩, ⟨"TCRIT_MAX", 15, 8, .ro, 0⟩, ⟨"DEBUG", 3, 2, .ro, 0⟩, ⟨"INJ", 1, 1, .ro, 0⟩, ⟨"BELL", 0, 0, .ro, 0⟩]⟩,
    ⟨"SITE_INCIDENT", 0x18, 1, 4, .none, [⟨"EVENT", 31, 16, .ro, 0⟩, ⟨"INDEX", 5, 0, .ro, 0⟩]⟩,
    ⟨"SIC_EN", 0x20, 1, 4, .none, [⟨"EN", 8, 0, .rw, 0⟩]⟩,
    ⟨"SIC_ROUTE", 0x24, 2, 4, .none, [⟨"V3", 29, 24, .rw, 0⟩, ⟨"V2", 21, 16, .rw, 0⟩, ⟨"V1", 13, 8, .rw, 0⟩, ⟨"V0", 5, 0, .rw, 0⟩]⟩,
    ⟨"SIC_ROUTE2", 0x2c, 1, 4, .none, [⟨"V0", 5, 0, .rw, 0⟩]⟩,
    ⟨"SIC_EOI", 0x30, 1, 4, .none, [⟨"VECTOR", 5, 0, .wo, 0⟩]⟩ ] ++
  [ ⟨"SIC_VSTAT_LO", 0x38, 1, 4, .lo, [⟨"SENT", 31, 0, .ro, 0⟩]⟩,
    ⟨"SIC_VSTAT_HI", 0x3c, 1, 4, .hi, [⟨"SENT", 31, 0, .ro, 0⟩]⟩,
    ⟨"SIC_LVL", 0x100, 24, 4, .none, [⟨"BITS", 31, 0, .ro, 0⟩]⟩ ]

/-- Registers of a `dramhub` block (R341). -/
def regsOfDramhub : List RegSpec :=
  [ ⟨"DRAM_INTLV", 0x0, 1, 4, .none, [⟨"CAP_GIB", 31, 23, .ro, 0⟩, ⟨"N", 15, 12, .ro, 0⟩, ⟨"MASK", 11, 0, .ro, 0⟩]⟩,
    ⟨"DRAM_HSTAT", 0x4, 1, 4, .none, [⟨"OWN_REFUSED", 0, 0, .w1c, 0⟩]⟩,
    ⟨"DRAM_PORTMAP", 0x100, 64, 4, .none, [⟨"SCAV", 15, 12, .rw, 0⟩, ⟨"BULK", 11, 8, .rw, 0⟩, ⟨"PROMPT", 7, 4, .rw, 0⟩, ⟨"BELL", 3, 0, .rw, 0⟩]⟩,
    ⟨"DRAM_SITE_EVT", 0x200, 64, 8, .none, [⟨"FREQ", 4, 4, .w1c, 0⟩, ⟨"MIGRATE", 3, 3, .w1c, 0⟩, ⟨"THROTTLE", 2, 2, .w1c, 0⟩, ⟨"POISON", 1, 1, .w1c, 0⟩]⟩,
    ⟨"DRAM_OWN", 0x1000, 3072, 4, .none, [⟨"SITE", 6, 0, .rw, 127⟩]⟩,
    ⟨"DRAM_SITE_IE", 0x204, 64, 8, .none, [⟨"IE", 4, 1, .rw, 0⟩]⟩ ]

/-- Registers of a `own` block (R293). -/
def regsOfOwn : List RegSpec :=
  [ ⟨"FLD_OWN", 0x0, 128, 4, .none, [⟨"SITE", 6, 0, .rw, 127⟩]⟩,
    ⟨"GRAN_OWN", 0x200, 32, 4, .none, [⟨"SITE", 6, 0, .rw, 127⟩]⟩,
    ⟨"OWN_STAT", 0x300, 1, 4, .none, [⟨"BUSY", 1, 1, .ro, 0⟩, ⟨"OWN_REFUSED", 0, 0, .w1c, 0⟩]⟩ ]

/-- Registers of a `enc` block (R360). -/
def regsOfEnc : List RegSpec :=
  [ ⟨"ENC_CTRL", 0x0, 1, 4, .none, [⟨"EN", 31, 31, .rw, 0⟩, ⟨"DGRAN", 11, 0, .rw, 0⟩]⟩,
    ⟨"ENC_REGION", 0x4, 1, 4, .none, [⟨"MGRAN", 27, 16, .rw, 0⟩, ⟨"BASE", 11, 0, .rw, 0⟩]⟩,
    ⟨"ENC_STAT", 0x8, 1, 4, .none, [⟨"STATE", 31, 30, .ro, 0⟩, ⟨"CTR_EXHAUSTED", 4, 4, .w1c, 0⟩, ⟨"REFUSED", 3, 3, .w1c, 0⟩, ⟨"META_UE", 2, 2, .w1c, 0⟩, ⟨"LOCKED_EVT", 1, 1, .w1c, 0⟩, ⟨"ALARM", 0, 0, .w1c, 0⟩]⟩,
    ⟨"ENC_ALARM_SRC", 0x20, 1, 4, .none, [⟨"CHANNEL", 31, 28, .ro, 0⟩, ⟨"LEVEL", 27, 25, .ro, 0⟩, ⟨"MID", 11, 0, .ro, 0⟩]⟩,
    ⟨"ENC_IE", 0xc, 1, 4, .none, [⟨"IE", 4, 0, .rw, 0⟩]⟩,
    ⟨"ENC_ALARM_CNT", 0x10, 1, 4, .none, [⟨"COUNT", 4, 0, .ro, 0⟩]⟩,
    ⟨"ENC_ALARM_TOTAL", 0x14, 1, 4, .none, [⟨"COUNT", 31, 0, .rc, 0⟩]⟩,
    ⟨"ENC_POISON_CNT", 0x24, 1, 4, .none, [⟨"COUNT", 31, 0, .rc, 0⟩]⟩,
    ⟨"ENC_ALARM_ADDR_LO", 0x18, 1, 4, .lo, [⟨"ADDR", 31, 0, .ro, 0⟩]⟩,
    ⟨"ENC_ALARM_ADDR_HI", 0x1c, 1, 4, .hi, [⟨"ADDR", 5, 0, .ro, 0⟩]⟩ ]

/-- Registers of a `fn` block (R390). -/
def regsOfFn : List RegSpec :=
  [ ⟨"HOST_FN_ERR", 0x0, 1, 4, .none, [⟨"AP_REFUSED", 15, 15, .w1c, 0⟩, ⟨"RCODE", 14, 12, .ro, 0⟩, ⟨"RERR", 11, 11, .w1c, 0⟩, ⟨"WCODE", 10, 8, .ro, 0⟩, ⟨"WERR", 7, 7, .w1c, 0⟩, ⟨"WOFS", 6, 6, .ro, 0⟩, ⟨"WBAR", 5, 5, .ro, 0⟩]⟩,
    ⟨"HOST_AP", 0x10, 16, 4, .none, [⟨"EN", 31, 31, .rw, 0⟩, ⟨"BASE", 17, 0, .rw, 0⟩]⟩,
    ⟨"HOST_FN_WADDR_LO", 0x4, 1, 4, .lo, [⟨"ADDR", 31, 0, .ro, 0⟩]⟩,
    ⟨"HOST_FN_WADDR_HI", 0x8, 1, 4, .hi, [⟨"ADDR", 15, 0, .ro, 0⟩]⟩,
    ⟨"HOST_FN_WERR_CNT", 0xc, 1, 4, .none, [⟨"COUNT", 31, 0, .rc, 0⟩]⟩,
    ⟨"HOST_WEIGHT", 0x50, 1, 4, .none, [⟨"WEIGHT", 3, 0, .rw, 4⟩]⟩,
    ⟨"HOST_EOI", 0x54, 1, 4, .none, [⟨"VECTOR", 7, 0, .wo, 0⟩]⟩,
    ⟨"HOST_VSTAT", 0x60, 8, 4, .none, [⟨"SENT", 31, 0, .ro, 0⟩]⟩ ]

/-- Registers of a `dma` block (R390). -/
def regsOfDma : List RegSpec :=
  [ ⟨"DMA_CTRL", 0x0, 1, 4, .none, [⟨"EN", 31, 31, .rw, 0⟩, ⟨"RESUME", 30, 30, .wo, 0⟩, ⟨"RSIZE", 4, 0, .rw, 4⟩]⟩,
    ⟨"DMA_STAT", 0x14, 1, 4, .none, [⟨"STATE", 31, 30, .ro, 0⟩, ⟨"CODE", 29, 27, .ro, 0⟩, ⟨"TAIL_REFUSED", 3, 3, .w1c, 0⟩, ⟨"HOST_ERR", 2, 2, .w1c, 0⟩, ⟨"ERR", 1, 1, .w1c, 0⟩, ⟨"DONE", 0, 0, .w1c, 0⟩]⟩,
    ⟨"DMA_RING_LO", 0x4, 1, 4, .lo, [⟨"ADDR", 31, 12, .rw, 0⟩]⟩,
    ⟨"DMA_RING_HI", 0x8, 1, 4, .hi, [⟨"ADDR", 31, 0, .rw, 0⟩]⟩,
    ⟨"DMA_TAIL", 0xc, 1, 4, .none, [⟨"TAIL", 15, 0, .rw, 0⟩]⟩,
    ⟨"DMA_HEAD", 0x10, 1, 4, .none, [⟨"HEAD", 15, 0, .ro, 0⟩]⟩,
    ⟨"DMA_ERR_DESC", 0x18, 1, 4, .none, [⟨"DESC", 15, 0, .ro, 0⟩]⟩,
    ⟨"DMA_BYTES_LO", 0x20, 1, 4, .ctrLo, [⟨"COUNT", 31, 0, .rw, 0⟩]⟩,
    ⟨"DMA_BYTES_HI", 0x24, 1, 4, .ctrHi, [⟨"COUNT", 31, 0, .rw, 0⟩]⟩ ]

/-- Registers of a `mbxch` block (R390). -/
def regsOfMbxch : List RegSpec :=
  [ ⟨"MBX_STAT_A", 0x80, 1, 4, .none, [⟨"IN_COUNT", 20, 16, .ro, 0⟩, ⟨"OUT_SPACE", 12, 8, .ro, 16⟩, ⟨"DISCARDED", 2, 2, .w1c, 0⟩, ⟨"RX_EMPTY_READ", 1, 1, .w1c, 0⟩, ⟨"TX_OVF", 0, 0, .w1c, 0⟩]⟩,
    ⟨"MBX_STAT_B", 0xa0, 1, 4, .none, [⟨"IN_COUNT", 20, 16, .ro, 0⟩, ⟨"OUT_SPACE", 12, 8, .ro, 16⟩, ⟨"DISCARDED", 2, 2, .w1c, 0⟩, ⟨"RX_EMPTY_READ", 1, 1, .w1c, 0⟩, ⟨"TX_OVF", 0, 0, .w1c, 0⟩]⟩,
    ⟨"MBX_DISCARD_CNT_A", 0x84, 1, 4, .none, [⟨"COUNT", 31, 0, .rc, 0⟩]⟩,
    ⟨"MBX_DISCARD_CNT_B", 0xa4, 1, 4, .none, [⟨"COUNT", 31, 0, .rc, 0⟩]⟩ ]

/-- Registers of a `mbxep` block (R390). -/
def regsOfMbxep : List RegSpec :=
  [ ⟨"MBX_DB", 0x0, 1, 4, .none, [⟨"BITS", 31, 0, .w1c, 0⟩]⟩,
    ⟨"MBX_DBMASK", 0x4, 1, 4, .none, [⟨"BITS", 31, 0, .rw, 4294967295⟩]⟩,
    ⟨"MBX_DBPEND", 0x8, 1, 4, .none, [⟨"BITS", 31, 0, .ro, 0⟩]⟩,
    ⟨"MBX_FP_ADDR_LO", 0xc, 1, 4, .lo, [⟨"ADDR", 31, 0, .rw, 0⟩]⟩,
    ⟨"MBX_FP_ADDR_HI", 0x10, 1, 4, .hi, [⟨"ADDR", 15, 0, .rw, 0⟩]⟩ ]

/-- Registers of a `mbxhub` block (R390). -/
def regsOfMbxhub : List RegSpec :=
  [ ⟨"MBX_BIND", 0x0, 128, 4, .none, [⟨"VALID", 31, 31, .rw, 0⟩, ⟨"BIT_A", 30, 26, .rw, 0⟩, ⟨"BIT_B", 25, 21, .rw, 0⟩, ⟨"EP_A", 13, 7, .rw, 0⟩, ⟨"EP_B", 6, 0, .rw, 0⟩]⟩,
    ⟨"MBX_LOCK", 0x400, 1, 4, .none, [⟨"LOCKED", 0, 0, .w1s, 0⟩]⟩,
    ⟨"MBX_FPBIND", 0x500, 48, 4, .none, [⟨"VALID", 31, 31, .rw, 0⟩, ⟨"MID", 11, 0, .rw, 0⟩]⟩,
    ⟨"MBX_PEND", 0x600, 4, 4, .none, [⟨"BITS", 31, 0, .ro, 0⟩]⟩,
    ⟨"COMMONS_HB", 0x700, 1, 4, .none, [⟨"SEQ", 31, 16, .rw, 0⟩, ⟨"STATE", 15, 14, .ro, 0⟩, ⟨"AGE", 13, 0, .ro, 0⟩]⟩ ]

/-- Registers of a `mgmt` block (R431). -/
def regsOfMgmt : List RegSpec :=
  [ ⟨"CMN_CORE_STAT", 0x0, 4, 16, .none, [⟨"STATE", 31, 29, .ro, 0⟩, ⟨"TD", 28, 28, .ro, 0⟩, ⟨"WP", 27, 25, .ro, 0⟩, ⟨"HALT_CODE", 15, 0, .ro, 0⟩]⟩,
    ⟨"CMN_RST_STAT", 0x100, 1, 4, .none, [⟨"LAST_CAUSE", 31, 28, .ro, 0⟩, ⟨"CORE", 27, 26, .ro, 0⟩, ⟨"FALLBACK", 25, 25, .ro, 0⟩, ⟨"SLOT", 24, 24, .ro, 0⟩, ⟨"HALT_CODE", 15, 0, .ro, 0⟩]⟩,
    ⟨"CMN_WDT", 0x108, 1, 4, .none, [⟨"CORE_WDT_EN", 31, 31, .rw, 1⟩, ⟨"CORE_LIMIT", 23, 16, .rw, 20⟩, ⟨"HB_LIMIT", 7, 0, .rw, 50⟩]⟩,
    ⟨"REEVE_STAT", 0x200, 1, 4, .none, [⟨"STATE", 31, 30, .ro, 0⟩, ⟨"RESTART_CNT", 15, 0, .ro, 0⟩]⟩,
    ⟨"PATCH_STAT", 0x300, 1, 4, .none, [⟨"VALID", 21, 16, .ro, 0⟩, ⟨"LEVEL", 15, 0, .ro, 0⟩]⟩,
    ⟨"PATCH_ENT", 0x400, 32, 4, .none, [⟨"VALID", 31, 31, .ro, 0⟩, ⟨"TARGET", 30, 30, .ro, 0⟩, ⟨"ACTION", 29, 29, .ro, 0⟩, ⟨"SLOT", 28, 24, .ro, 0⟩, ⟨"WORD", 18, 0, .ro, 0⟩]⟩,
    ⟨"CMN_CORE_PC_LO", 0x4, 4, 16, .lo, [⟨"PC", 31, 0, .ro, 0⟩]⟩,
    ⟨"CMN_CORE_PC_HI", 0x8, 4, 16, .hi, [⟨"PC", 31, 0, .ro, 0⟩]⟩,
    ⟨"CMN_CORE_KICK", 0xc, 4, 16, .none, [⟨"KICK", 31, 0, .wo, 0⟩]⟩,
    ⟨"CMN_RESTART_CNT", 0x104, 1, 4, .none, [⟨"COUNT", 31, 0, .rc, 0⟩]⟩,
    ⟨"PATCH_TRAP_SKIP", 0x304, 1, 4, .none, [⟨"COUNT", 31, 0, .rc, 0⟩]⟩,
    ⟨"CMN_IRQ_ROUTE", 0x10c, 1, 4, .none, [⟨"SRC3", 7, 6, .rw, 0⟩, ⟨"SRC2", 5, 4, .rw, 0⟩, ⟨"SRC1", 3, 2, .rw, 0⟩, ⟨"SRC0", 1, 0, .rw, 0⟩]⟩ ]

/-- Registers of a `sec` block (R456). -/
def regsOfSec : List RegSpec :=
  [ ⟨"SEC_LC_STAT", 0x0, 1, 4, .none, [⟨"SEALED_FAULT", 31, 31, .ro, 0⟩, ⟨"INTACT", 26, 24, .ro, 0⟩, ⟨"GROUPS_C", 19, 16, .ro, 0⟩, ⟨"GROUPS_B", 15, 12, .ro, 0⟩, ⟨"GROUPS_A", 11, 8, .ro, 0⟩, ⟨"STATE", 2, 0, .ro, 0⟩]⟩,
    ⟨"SEC_KEY_STAT", 0x4, 1, 4, .none, [⟨"BBKEY_VALID", 16, 16, .ro, 0⟩, ⟨"BAD", 15, 8, .ro, 0⟩, ⟨"PRESENT", 7, 0, .ro, 0⟩]⟩,
    ⟨"SEC_DRNG_STAT", 0x8, 1, 4, .none, [⟨"STATE", 31, 30, .ro, 0⟩, ⟨"FAILED_EVT", 2, 2, .w1c, 0⟩, ⟨"HEALTH_EVT", 1, 1, .w1c, 0⟩, ⟨"READY_EVT", 0, 0, .w1c, 0⟩]⟩,
    ⟨"SEC_PKE_STAT", 0x10, 1, 4, .none, [⟨"LAST_OP", 31, 28, .ro, 0⟩, ⟨"LAST_RESULT", 27, 24, .ro, 0⟩, ⟨"BUSY", 0, 0, .ro, 0⟩]⟩,
    ⟨"SEC_DRNG_FAIL_CNT", 0xc, 1, 4, .none, [⟨"COUNT", 31, 0, .rc, 0⟩]⟩,
    ⟨"SEC_DIK_X", 0x100, 12, 4, .none, [⟨"WORD", 31, 0, .ro, 0⟩]⟩,
    ⟨"SEC_DIK_Y", 0x130, 12, 4, .none, [⟨"WORD", 31, 0, .ro, 0⟩]⟩ ]

/-- Registers of a `bk` block (R456). -/
def regsOfBk : List RegSpec :=
  [ ⟨"BK_STAT", 0x0, 1, 4, .none, [⟨"RTC_VALID", 31, 31, .ro, 0⟩, ⟨"BBKEY_VALID", 30, 30, .ro, 0⟩, ⟨"VBAT_OK", 29, 29, .ro, 0⟩, ⟨"LOG_NEW", 1, 1, .w1c, 0⟩, ⟨"ALARM", 0, 0, .w1c, 0⟩]⟩,
    ⟨"BK_TAMPER0", 0x20, 1, 4, .none, [⟨"EN", 31, 31, .rw, 0⟩, ⟨"POL", 30, 30, .rw, 0⟩, ⟨"ALL", 29, 29, .rw, 0⟩, ⟨"FILT", 3, 0, .rw, 0⟩]⟩,
    ⟨"BK_TAMPER1", 0x24, 1, 4, .none, [⟨"EN", 31, 31, .rw, 0⟩, ⟨"POL", 30, 30, .rw, 0⟩, ⟨"ALL", 29, 29, .rw, 0⟩, ⟨"FILT", 3, 0, .rw, 0⟩]⟩,
    ⟨"BK_RTC_LO", 0x4, 1, 4, .lo, [⟨"SEC", 31, 0, .ro, 0⟩]⟩,
    ⟨"BK_RTC_HI", 0x8, 1, 4, .hi, [⟨"SUB", 30, 16, .ro, 0⟩, ⟨"SEC", 1, 0, .ro, 0⟩]⟩,
    ⟨"BK_RTC_SET_LO", 0xc, 1, 4, .lo, [⟨"SEC", 31, 0, .rw, 0⟩]⟩,
    ⟨"BK_RTC_SET_HI", 0x10, 1, 4, .hi, [⟨"SUB", 30, 16, .rw, 0⟩, ⟨"SEC", 1, 0, .rw, 0⟩]⟩,
    ⟨"BK_RTC_CMD", 0x14, 1, 4, .none, [⟨"SET", 0, 0, .wo, 0⟩]⟩,
    ⟨"BK_LOG_LO", 0x100, 16, 8, .lo, [⟨"SEC", 31, 0, .ro, 0⟩]⟩,
    ⟨"BK_LOG_HI", 0x104, 16, 8, .hi, [⟨"VALID", 31, 31, .ro, 0⟩, ⟨"CAUSE", 30, 27, .ro, 0⟩, ⟨"SUB", 26, 12, .ro, 0⟩, ⟨"SEC", 1, 0, .ro, 0⟩]⟩,
    ⟨"BK_LOG_CNT", 0x180, 1, 4, .none, [⟨"OVF", 15, 8, .ro, 0⟩, ⟨"USED", 4, 0, .ro, 0⟩]⟩,
    ⟨"BK_LOG_CLR", 0x184, 1, 4, .none, [⟨"CLR", 0, 0, .wo, 0⟩]⟩ ]

/-- Registers of a `dbg` block (R481). -/
def regsOfDbg : List RegSpec :=
  [ ⟨"DBG_XT_PULSE", 0x0, 1, 4, .none, [⟨"FIRE", 15, 0, .wo, 0⟩]⟩,
    ⟨"DBG_XT_STAT", 0x4, 1, 4, .none, [⟨"FIRED", 15, 0, .w1c, 0⟩]⟩,
    ⟨"DBG_SESSION_M", 0x8, 1, 4, .none, [⟨"LEVEL", 31, 30, .ro, 0⟩, ⟨"BASE", 29, 28, .ro, 0⟩, ⟨"METHOD", 27, 24, .ro, 0⟩]⟩,
    ⟨"DBG_CORE_CMD", 0x10, 1, 4, .none, [⟨"STEP", 11, 8, .wo, 0⟩, ⟨"RUN", 7, 4, .wo, 0⟩, ⟨"HALT", 3, 0, .wo, 0⟩]⟩,
    ⟨"DBG_CORE_XT", 0x14, 1, 4, .none, [⟨"HALT_MASK", 31, 16, .rw, 0⟩, ⟨"OUT_EN", 4, 4, .rw, 0⟩, ⟨"OUT_CH", 3, 0, .rw, 0⟩]⟩,
    ⟨"DBG_BOOT", 0x18, 1, 4, .none, [⟨"HOLD_COMMONS", 0, 0, .rw, 0⟩]⟩,
    ⟨"DBG_XT_OWN", 0x100, 16, 32, .none, [⟨"SITE", 6, 0, .rw, 127⟩]⟩,
    ⟨"DBG_XT_TIME_LO", 0x104, 16, 32, .lo, [⟨"TIME", 31, 0, .rw, 0⟩]⟩,
    ⟨"DBG_XT_TIME_HI", 0x108, 16, 32, .hi, [⟨"TIME", 31, 0, .rw, 0⟩]⟩,
    ⟨"DBG_XT_TCTRL", 0x10c, 16, 32, .none, [⟨"ARM", 31, 31, .rw, 0⟩]⟩,
    ⟨"DBG_XT_FIRST_LO", 0x110, 16, 32, .lo, [⟨"TTC", 31, 0, .ro, 0⟩]⟩,
    ⟨"DBG_XT_FIRST_HI", 0x114, 16, 32, .hi, [⟨"TTC", 31, 0, .ro, 0⟩]⟩ ] ++
  [ ⟨"DBG_PRB_XT", 0x400, 36, 4, .none, [⟨"OUT_EN", 31, 31, .rw, 0⟩, ⟨"OUT_CH", 27, 24, .rw, 0⟩, ⟨"IN_EN", 23, 23, .rw, 0⟩, ⟨"IN_CH", 19, 16, .rw, 0⟩, ⟨"IN_START", 15, 15, .rw, 0⟩]⟩ ]

/-- Registers of a `cfg` block (R505). -/
def regsOfCfg : List RegSpec :=
  [ ⟨"CFG_ENG_STAT", 0x0, 1, 4, .none, [⟨"WRITERS", 30, 28, .ro, 0⟩, ⟨"QUEUED", 23, 16, .ro, 0⟩, ⟨"LOAD_ERR", 3, 3, .w1c, 0⟩, ⟨"COPY_DONE", 2, 2, .w1c, 0⟩, ⟨"BOOT_ERR", 1, 1, .ro, 0⟩, ⟨"BOOT_DONE", 0, 0, .ro, 0⟩]⟩,
    ⟨"CFG_ERR", 0x4, 1, 4, .none, [⟨"CAUSE", 31, 28, .ro, 0⟩, ⟨"SECTION", 15, 0, .ro, 0⟩]⟩,
    ⟨"CFG_SCRUB", 0x10, 1, 4, .none, [⟨"EN", 31, 31, .rw, 1⟩, ⟨"ACTION", 29, 28, .rw, 0⟩, ⟨"PERIOD", 7, 0, .rw, 50⟩]⟩,
    ⟨"CFG_XSPI_CMD", 0x100, 1, 4, .none, [⟨"GO", 31, 31, .wo, 0⟩, ⟨"DIR", 30, 30, .wo, 0⟩, ⟨"CS", 29, 29, .wo, 0⟩, ⟨"ADDR_EN", 28, 28, .wo, 0⟩, ⟨"WIDTH", 25, 24, .wo, 0⟩, ⟨"OPCODE", 23, 16, .wo, 0⟩, ⟨"DUMMY", 15, 11, .wo, 0⟩, ⟨"LEN", 8, 0, .wo, 0⟩]⟩,
    ⟨"CFG_STORE_LO", 0x8, 1, 4, .lo, [⟨"ADDR", 31, 28, .rw, 0⟩]⟩,
    ⟨"CFG_STORE_HI", 0xc, 1, 4, .hi, [⟨"ADDR", 15, 0, .rw, 0⟩]⟩,
    ⟨"CFG_SCRUB_LAST", 0x14, 1, 4, .none, [⟨"FIELD", 22, 16, .ro, 0⟩, ⟨"FRAME", 14, 0, .ro, 0⟩]⟩,
    ⟨"CFG_XSPI_ADDR", 0x104, 1, 4, .none, [⟨"ADDR", 31, 0, .rw, 0⟩]⟩,
    ⟨"CFG_XSPI_STAT", 0x108, 1, 4, .none, [⟨"BUSY", 31, 31, .ro, 0⟩, ⟨"REFUSED", 1, 1, .w1c, 0⟩, ⟨"DONE", 0, 0, .w1c, 0⟩]⟩,
    ⟨"CFG_XSPI_BUF", 0x200, 64, 4, .none, [⟨"WORD", 31, 0, .rw, 0⟩]⟩ ]

/-- Registers of a `start` block (R531). -/
def regsOfStart : List RegSpec :=
  [ ⟨"START_STAT", 0x0, 1, 4, .none, [⟨"CODE", 31, 24, .ro, 0⟩, ⟨"ARG", 23, 16, .ro, 0⟩, ⟨"STEP", 15, 12, .ro, 0⟩, ⟨"DEGRADED", 2, 2, .ro, 0⟩, ⟨"WARM", 1, 1, .ro, 0⟩, ⟨"DONE", 0, 0, .ro, 0⟩]⟩,
    ⟨"START_CAUSE", 0x4, 1, 4, .none, [⟨"CAUSE", 31, 28, .ro, 0⟩, ⟨"WARM_DENIED", 0, 0, .ro, 0⟩]⟩,
    ⟨"START_CFG", 0x8, 1, 4, .none, [⟨"WARM_EN", 31, 31, .ro, 0⟩, ⟨"SCRUB_ON_WARM", 30, 30, .ro, 0⟩, ⟨"DEGRADED_EN", 29, 29, .ro, 0⟩, ⟨"MODE", 1, 0, .ro, 1⟩]⟩,
    ⟨"PWR_CAP", 0x18, 1, 4, .none, [⟨"CAP_W", 31, 22, .ro, 480⟩, ⟨"S_CAP", 5, 0, .ro, 0⟩]⟩,
    ⟨"PWR_STAT", 0x20, 1, 4, .none, [⟨"STATE_REFUSED", 4, 4, .w1c, 0⟩, ⟨"PWR_FAIL", 3, 3, .w1c, 0⟩, ⟨"THERM_WARN", 2, 2, .w1c, 0⟩, ⟨"CAP_LIMIT", 1, 1, .w1c, 0⟩, ⟨"MODE_DONE", 0, 0, .w1c, 0⟩]⟩,
    ⟨"START_CMD", 0xc, 1, 4, .none, [⟨"WARM", 1, 1, .wo, 0⟩, ⟨"COLD", 0, 0, .wo, 0⟩]⟩,
    ⟨"PWR_STATE", 0x10, 1, 4, .none, [⟨"STATE", 2, 0, .ro, 0⟩]⟩,
    ⟨"PWR_CMD", 0x14, 1, 4, .none, [⟨"TARGET", 2, 0, .wo, 0⟩]⟩,
    ⟨"PWR_MEAS", 0x1c, 1, 4, .none, [⟨"MW", 31, 0, .ro, 0⟩]⟩ ]

/-- Registers of a `mon` block (R532). -/
def regsOfMon : List RegSpec :=
  [ ⟨"MON_CH", 0x0, 148, 4, .none, [⟨"EN", 31, 31, .rw, 1⟩, ⟨"GAIN", 3, 2, .rw, 0⟩, ⟨"OSR", 1, 0, .rw, 1⟩]⟩,
    ⟨"MON_CONV", 0x800, 4, 16, .none, [⟨"OVF_CNT", 31, 24, .ro, 0⟩, ⟨"LEVEL", 15, 8, .ro, 0⟩, ⟨"DWELL", 3, 0, .rw, 1⟩]⟩,
    ⟨"MON_SMP", 0x400, 148, 4, .none, [⟨"SAMPLE", 31, 0, .ro, 0⟩]⟩,
    ⟨"MON_FIFO", 0x804, 4, 16, .none, [⟨"SAMPLE", 31, 0, .rc, 0⟩]⟩ ]

/-- Registers of a `clk` block (R549). -/
def regsOfClk : List RegSpec :=
  [ ⟨"CLK_ROOT", 0x0, 1, 4, .none, [⟨"SEL", 31, 30, .rw, 2⟩, ⟨"ACTIVE", 29, 28, .ro, 2⟩, ⟨"SWITCHING", 27, 27, .ro, 0⟩, ⟨"SWITCH_IGNORED", 2, 2, .w1c, 0⟩, ⟨"SEL_REFUSED", 1, 1, .w1c, 0⟩]⟩,
    ⟨"CLK_REF_STAT", 0x4, 1, 4, .none, [⟨"FALLBACK", 31, 31, .w1c, 0⟩, ⟨"INT_FAIL", 30, 30, .w1c, 0⟩, ⟨"TTC_FREE", 29, 29, .ro, 1⟩, ⟨"B_STABLE", 23, 23, .ro, 0⟩, ⟨"B_DEV", 22, 22, .w1c, 0⟩, ⟨"B_LOSS", 21, 21, .w1c, 0⟩, ⟨"B_CLASS", 20, 18, .ro, 0⟩, ⟨"A_STABLE", 15, 15, .ro, 0⟩, ⟨"A_DEV", 14, 14, .w1c, 0⟩, ⟨"A_LOSS", 13, 13, .w1c, 0⟩, ⟨"A_CLASS", 12, 10, .ro, 0⟩]⟩,
    ⟨"CLK_MON_CFG", 0x8, 1, 4, .none, [⟨"EN", 31, 31, .rw, 1⟩, ⟨"DEV", 7, 0, .rw, 20⟩]⟩,
    ⟨"CLK_GSTAT", 0x20, 1, 4, .none, [⟨"REFUSED_NODE", 13, 8, .ro, 0⟩, ⟨"GATE_REFUSED", 0, 0, .w1c, 0⟩]⟩,
    ⟨"CLK_GATE", 0x100, 36, 4, .none, [⟨"ON", 31, 31, .rw, 1⟩, ⟨"READY", 30, 30, .ro, 1⟩]⟩,
    ⟨"CLKMON_CTRL", 0x30, 1, 4, .none, [⟨"EN", 31, 31, .rw, 0⟩, ⟨"CLKMON_REFUSED", 30, 30, .w1c, 0⟩, ⟨"SRC", 27, 24, .rw, 0⟩, ⟨"INDEX", 20, 12, .rw, 0⟩, ⟨"DIV", 11, 0, .rw, 1⟩]⟩,
    ⟨"CLK_MON_A_CNT", 0xc, 1, 4, .none, [⟨"COUNT", 16, 0, .ro, 0⟩]⟩,
    ⟨"CLK_MON_A_BASE", 0x10, 1, 4, .none, [⟨"COUNT", 16, 0, .ro, 0⟩]⟩,
    ⟨"CLK_MON_B_CNT", 0x14, 1, 4, .none, [⟨"COUNT", 16, 0, .ro, 0⟩]⟩,
    ⟨"CLK_MON_B_BASE", 0x18, 1, 4, .none, [⟨"COUNT", 16, 0, .ro, 0⟩]⟩,
    ⟨"TTC_LO", 0x40, 1, 4, .lo, [⟨"TTC", 31, 0, .ro, 0⟩]⟩,
    ⟨"TTC_HI", 0x44, 1, 4, .hi, [⟨"TTC", 31, 0, .ro, 0⟩]⟩ ] ++
  [ ⟨"TTC_SYNC", 0x48, 1, 4, .none, [⟨"SYNC", 8, 1, .ro, 0⟩]⟩ ]

/-- Registers of a `kelk` block (R564). -/
def regsOfKelk : List RegSpec :=
  [ ⟨"KELK_S", 0x0, 160, 4, .none, [⟨"STATE", 31, 30, .ro, 0⟩, ⟨"NFAIL", 26, 24, .ro, 0⟩, ⟨"NFUSED", 22, 20, .ro, 0⟩, ⟨"CHG", 16, 16, .w1c, 0⟩, ⟨"ERR", 15, 0, .rc, 0⟩]⟩,
    ⟨"KELK_W", 0x1000, 1792, 4, .none, [⟨"STATE", 31, 30, .ro, 0⟩, ⟨"NFAIL", 26, 24, .ro, 0⟩, ⟨"NFUSED", 22, 20, .ro, 0⟩, ⟨"CHG", 16, 16, .w1c, 0⟩, ⟨"ERR", 15, 0, .rc, 0⟩, ⟨"UE_EVT", 19, 19, .w1c, 0⟩]⟩ ]

/-- Registers of a `guest` block (R565). -/
def regsOfGuest : List RegSpec :=
  [ ⟨"GST_CTRL", 0x0, 1, 4, .none, [⟨"UNFENCE", 31, 31, .wo, 0⟩, ⟨"FENCE", 30, 30, .wo, 0⟩, ⟨"RESET", 29, 29, .wo, 0⟩]⟩,
    ⟨"GST_STAT", 0x4, 1, 4, .none, [⟨"STATE", 31, 29, .ro, 0⟩, ⟨"PRESENT", 28, 28, .ro, 0⟩, ⟨"RATE", 27, 26, .ro, 0⟩, ⟨"REFUSED", 2, 2, .w1c, 0⟩, ⟨"RST_TMO", 1, 1, .w1c, 0⟩, ⟨"TRAIN_FAIL", 0, 0, .w1c, 0⟩]⟩,
    ⟨"GST_MSTR", 0x40, 16, 4, .none, [⟨"EN", 31, 31, .rw, 0⟩, ⟨"SID", 6, 0, .rw, 127⟩]⟩,
    ⟨"GST_CRC_CNT", 0x8, 1, 4, .none, [⟨"COUNT", 31, 0, .rc, 0⟩]⟩,
    ⟨"GST_PROTO_CNT", 0xc, 1, 4, .none, [⟨"COUNT", 31, 0, .rc, 0⟩]⟩,
    ⟨"GST_DROP_CNT", 0x10, 1, 4, .none, [⟨"COUNT", 31, 0, .rc, 0⟩]⟩,
    ⟨"GST_DENY_CNT", 0x14, 1, 4, .none, [⟨"COUNT", 31, 0, .rc, 0⟩]⟩,
    ⟨"GST_WIN_A", 0x80, 8, 8, .lo, [⟨"EN", 31, 31, .rw, 0⟩, ⟨"R", 30, 30, .rw, 0⟩, ⟨"W", 29, 29, .rw, 0⟩, ⟨"BASE", 17, 0, .rw, 0⟩]⟩,
    ⟨"GST_WIN_B", 0x84, 8, 8, .hi, [⟨"LIMIT", 17, 0, .rw, 0⟩]⟩ ]

/-- Registers of a `regbus` block (R47). -/
def regsOfRegbus : List RegSpec :=
  [ ⟨"REGBUS_STAT", 0x0, 1, 4, .none, [⟨"DROP_OVF", 2, 2, .w1c, 0⟩, ⟨"FAULT_SEEN", 1, 1, .w1c, 0⟩, ⟨"WRITE_DROPPED", 0, 0, .w1c, 0⟩]⟩,
    ⟨"REGBUS_DROP_ADDR", 0x4, 1, 4, .none, [⟨"OFFSET", 23, 0, .ro, 0⟩]⟩,
    ⟨"REGBUS_DROP_SRC", 0x8, 1, 4, .none, [⟨"SID", 18, 12, .ro, 0⟩, ⟨"MID", 11, 0, .ro, 0⟩]⟩,
    ⟨"REGBUS_FAULT_CNT", 0xc, 1, 4, .none, [⟨"COUNT", 31, 0, .rc, 0⟩]⟩ ]

/-- Registers of a `dloc` block (R482). -/
def regsOfDloc : List RegSpec :=
  [ ⟨"DBG_SESSION", 0x0, 1, 4, .none, [⟨"LEVEL", 31, 30, .ro, 0⟩, ⟨"BASE", 29, 28, .ro, 0⟩, ⟨"METHOD", 27, 24, .ro, 0⟩]⟩,
    ⟨"DBG_AUTH_CMD", 0x4, 1, 4, .none, [⟨"CMD", 3, 0, .wo, 0⟩]⟩,
    ⟨"DBG_AUTH_STAT", 0x8, 1, 4, .none, [⟨"STATE", 31, 28, .ro, 0⟩, ⟨"RESULT", 27, 24, .ro, 0⟩, ⟨"AUTH_FAIL_CNT", 15, 0, .ro, 0⟩]⟩,
    ⟨"DBG_DENY_CNT", 0xc, 1, 4, .none, [⟨"COUNT", 31, 0, .rc, 0⟩]⟩,
    ⟨"DBG_AUTH_BUF", 0x200, 128, 4, .none, [⟨"WORD", 31, 0, .rw, 0⟩]⟩ ]

/-- The registers of a block. -/
def blkRegs : Blk → List RegSpec
  | .field => regsOfField
  | .gran => regsOfGran
  | .ddr => regsOfDdr
  | .mill => regsOfMill
  | .stop => regsOfStop
  | .gpio => regsOfGpio
  | .link => regsOfLink
  | .lane => regsOfLane
  | .quad => regsOfQuad
  | .fcu => regsOfFcu
  | .spine => regsOfSpine
  | .tally => regsOfTally
  | .parish => regsOfParish
  | .site => regsOfSite
  | .dramhub => regsOfDramhub
  | .own => regsOfOwn
  | .enc => regsOfEnc
  | .fn => regsOfFn
  | .dma => regsOfDma
  | .mbxch => regsOfMbxch
  | .mbxep => regsOfMbxep
  | .mbxhub => regsOfMbxhub
  | .mgmt => regsOfMgmt
  | .sec => regsOfSec
  | .bk => regsOfBk
  | .dbg => regsOfDbg
  | .cfg => regsOfCfg
  | .start => regsOfStart
  | .mon => regsOfMon
  | .clk => regsOfClk
  | .kelk => regsOfKelk
  | .guest => regsOfGuest
  | .regbus => regsOfRegbus
  | .dloc => regsOfDloc

/-- Region of a fabric die F`k` (R31). -/
def dieF (k : Nat) : Nat := (1 + k) * 0x1000000
/-- Region of a transceiver die T`k` (R31). -/
def dieT (k : Nat) : Nat := (5 + k) * 0x1000000
/-- Control page of field `f` = 32d + nn, chapter "Fields, field clocks and stiles". -/
def fieldPage (f : Nat) : Nat := dieF (f / 32) + 0x800000 + (f % 32) * 0x10000
/-- Stile registers of edge `e` of field `f` start 0x10 apart (R103). -/
def fieldEdge (f e : Nat) : Nat := fieldPage f + 0x10 * e
/-- Granary block, R139. -/
def granBlk (g : Nat) : Nat := dieF (g / 8) + 0x600000 + (g % 8) * 0x10000
/-- DRAM controller block, R340. -/
def ddrBlk (c : Nat) : Nat := dieF (c / 3) + 0x200000 + (c % 3) * 0x10000
/-- Mill engine block, R290. -/
def millBlk (e : Nat) : Nat := dieF (e / 16) + 0x300000 + (e % 16) * 0x10000
/-- Stop block of ring `r`, position `p` of F`k`, R168. -/
def stopBlk (k r p : Nat) : Nat := dieF k + 0x700000 + r * 0x8000 + p * 0x200
/-- Stop block of spine position `p`, R168. -/
def spineBlk (p : Nat) : Nat := 0x700000 + p * 0x200
/-- GPIO bank block of bank 6k + i, R580. -/
def gpioBlk (b : Nat) : Nat := dieF (b / 6) + 0xA00000 + (b % 6) * 0x1000
/-- Link block, R226. -/
def linkBlk (n : Nat) : Nat := dieT (n / 128) + 0x100000 + (n % 128) * 0x200
/-- Lane block, R190. -/
def laneBlk (n : Nat) : Nat := dieT (n / 128) + 0x400000 + (n % 128) * 0x100
/-- Quad block of quad `q` (0-127), R190. -/
def quadBlk (q : Nat) : Nat := dieT (q / 32) + 0x500000 + (q % 32) * 0x100
/-- FCU block, R264. -/
def fcuBlk (n : Nat) : Nat := dieT (n / 8) + 0x600000 + (n % 8) * 0x10000
/-- LR block of link `l`, R265: offsets of the LR registers count from 0x100 in the FCU block. -/
def lrBlk (l : Nat) : Nat := fcuBlk (l / 16) + 0x40 * (l % 16)
/-- Tally group block, R266. -/
def tallyBlk (g : Nat) : Nat := 0x900000 + g * 0x40
/-- Parish block, R599. -/
def parishBlk : Nat := 0x940000
/-- Incident entry (offsets count from 0x1000 in the parish block), R600. -/
def incBlk (i : Nat) : Nat := 0x940000 + 0x20 * i
/-- Site block, R312. -/
def siteBlk (n : Nat) : Nat := 0xA00000 + n * 0x1000
/-- DRAM hub block, R341. -/
def dramHub : Nat := 0xB00000
/-- Ownership block, R293. -/
def ownBlk : Nat := 0xB08000
/-- Key-slot block, R360. -/
def encBlk (s : Nat) : Nat := 0xB10000 + s * 0x40
/-- Function block, R390. -/
def fnBlk (f : Nat) : Nat := 0xC00000 + f * 0x1000
/-- DMA channel block, R390. -/
def dmaBlk (c : Nat) : Nat := 0xC80000 + c * 0x100
/-- Mailbox channel page, R390; side B's status stands 0x20 above side A's in this map (one register per side). -/
def mbxBlk (c : Nat) : Nat := 0xD00000 + c * 0x100
/-- Endpoint block, R390. -/
def mbxEp (e : Nat) : Nat := 0xD80000 + e * 0x40
/-- Mailbox hub block, R390. -/
def mbxHub : Nat := 0xDC0000
/-- Management core block, R431. -/
def mgmtBlk : Nat := 0xE00000
/-- Security block, R456. -/
def secBlk : Nat := 0xE80000
/-- Backup block, R456. -/
def bkBlk : Nat := 0xE81000
/-- Hub debug block, R481. -/
def dbgBlk : Nat := 0xE90000
/-- Configuration engine block, R505. -/
def cfgBlk : Nat := 0xEA0000
/-- Start and power block, R531. -/
def startBlk : Nat := 0xEB0000
/-- Sensor block, R532. -/
def monBlk : Nat := 0xEC0000
/-- Clock block, R549. -/
def clkBlk : Nat := 0xED0000
/-- Kelk block, R564. -/
def kelkBlk : Nat := 0xEE0000
/-- Guest block, R565. -/
def guestBlk : Nat := 0xEF0000
/-- Debug-domain registers (reached with OP = LOCAL, R482); they have no ring address, so they are keyed apart. -/
def dlocBlk : Nat := 0x100000000
/-- REGBUS instance of SID index `i` (0-63 a site, 64 management) on die index `d` (R46, R47), keyed apart because
every instance shares the die offset 0xF000. -/
def regbusBlk (d i : Nat) : Nat := 0x200000000 + i * 0x10000000 + d * 0x1000000

/-- The block a die-region address lies in, and its offset in the block (R31, R38). -/
def blkOfAddr (a : Nat) : Option (Blk × Nat) :=
  if a ≥ 0x200000000 then some (.regbus, a % 0x10)
  else if a ≥ 0x100000000 then some (.dloc, a - 0x100000000)
  else
    let d := a / 0x1000000
    let o := a % 0x1000000
    let within (b st n : Nat) : Bool := decide (b ≤ o) && decide (o < b + st * n)
    let sub (b st : Nat) : Nat := (o - b) % st
    if d ≥ 9 then none
    else if d ≥ 5 then
      if within 0x100000 0x200 128 then some (.link, sub 0x100000 0x200)
      else if within 0x400000 0x100 128 then some (.lane, sub 0x400000 0x100)
      else if within 0x500000 0x100 32 then some (.quad, sub 0x500000 0x100)
      else if within 0x600000 0x10000 8 then some (.fcu, sub 0x600000 0x10000)
      else none
    else if d ≥ 1 then
      if within 0x800000 0x10000 32 then some (.field, sub 0x800000 0x10000)
      else if within 0x600000 0x10000 8 then some (.gran, sub 0x600000 0x10000)
      else if within 0x200000 0x10000 3 then some (.ddr, sub 0x200000 0x10000)
      else if within 0x300000 0x10000 16 then some (.mill, sub 0x300000 0x10000)
      else if within 0x700000 0x200 34 then some (.stop, sub 0x700000 0x200)
      else if within 0x708000 0x200 34 then some (.stop, sub 0x708000 0x200)
      else if within 0xA00000 0x1000 6 then some (.gpio, sub 0xA00000 0x1000)
      else none
    else
      if within 0x700000 0x200 16 then some (.spine, sub 0x700000 0x200)
      else if within 0x900000 0x40 64 then some (.tally, sub 0x900000 0x40)
      else if within 0x940000 0x2000 1 then some (.parish, sub 0x940000 0x2000)
      else if within 0xA00000 0x1000 64 then some (.site, sub 0xA00000 0x1000)
      else if within 0xB00000 0x8000 1 then some (.dramhub, sub 0xB00000 0x8000)
      else if within 0xB08000 0x1000 1 then some (.own, sub 0xB08000 0x1000)
      else if within 0xB10000 0x40 65 then some (.enc, sub 0xB10000 0x40)
      else if within 0xC00000 0x1000 65 then some (.fn, sub 0xC00000 0x1000)
      else if within 0xC80000 0x100 80 then some (.dma, sub 0xC80000 0x100)
      else if within 0xD00000 0x100 128 then some (.mbxch, sub 0xD00000 0x100)
      else if within 0xD80000 0x40 116 then some (.mbxep, sub 0xD80000 0x40)
      else if within 0xDC0000 0x1000 1 then some (.mbxhub, sub 0xDC0000 0x1000)
      else if within 0xE00000 0x1000 1 then some (.mgmt, sub 0xE00000 0x1000)
      else if within 0xE80000 0x1000 1 then some (.sec, sub 0xE80000 0x1000)
      else if within 0xE81000 0x1000 1 then some (.bk, sub 0xE81000 0x1000)
      else if within 0xE90000 0x1000 1 then some (.dbg, sub 0xE90000 0x1000)
      else if within 0xEA0000 0x1000 1 then some (.cfg, sub 0xEA0000 0x1000)
      else if within 0xEB0000 0x1000 1 then some (.start, sub 0xEB0000 0x1000)
      else if within 0xEC0000 0x1000 1 then some (.mon, sub 0xEC0000 0x1000)
      else if within 0xED0000 0x1000 1 then some (.clk, sub 0xED0000 0x1000)
      else if within 0xEE0000 0x4000 1 then some (.kelk, sub 0xEE0000 0x4000)
      else if within 0xEF0000 0x1000 1 then some (.guest, sub 0xEF0000 0x1000)
      else none

/-- Whether a register specification covers a block offset. -/
def regCovers (r : RegSpec) (o : Nat) : Bool :=
  decide (r.ofs ≤ o) && decide (o < r.ofs + r.count * r.stride) && (o - r.ofs) % r.stride == 0

/-- Spine positions of the junctions: JF0-JF3, JT0-JT3 and JG (R143). -/
def junctionPos : List Nat := [0, 5, 13, 9, 15, 6, 14, 8, 7]

/-- A register at a block offset exists in the instance at an address: the position-0 block of a fabric ring holds counters alone, shares and
probes stand in the spine blocks of junctions (R168, R169), HOST_AP4-15, HOST_EOI and HOST_VSTAT on PF0, and MBX_FP_ADDR at the endpoints of
fabric ports (R390). -/
def regPresent (a : Nat) (b : Blk) (o : Nat) : Bool :=
  let x := a % 0x1000000
  match b with
  | .stop => x % 0x8000 ≠ o || (decide (8 ≤ o) && decide (o ≤ 0x2C) && o != 0x28)
  | .spine => decide (o < 0x80) || junctionPos.contains ((x - 0x700000) / 0x200)
  | .fn => x < 0xC01000 || decide (o < 0x20) || o == 0x50
  | .mbxep => decide (o < 0xC) || decide (0xD80000 + 0x40 * 68 ≤ x)
  | _ => true

/-- The register at a die-region address, if one is implemented (R38). -/
def regAt (a : Nat) : Option (Blk × RegSpec) :=
  match blkOfAddr a with
  | none => none
  | some (b, o) => if regPresent a b o then ((blkRegs b).find? (fun r => regCovers r o)).map (fun r => (b, r)) else none

/-- Reset word of a register specification. -/
def specReset (r : RegSpec) : Word :=
  BitVec.ofNat 32 (r.fields.foldl (fun a f => a + f.rst * 2 ^ f.lo) 0)

/-- A binding-table entry from its bits and endpoints (R390). -/
def bindWord (bitA epA bitB epB : Nat) : Word :=
  BitVec.ofNat 32 (2 ^ 31 + bitA * 2 ^ 26 + bitB * 2 ^ 21 + epA * 2 ^ 7 + epB)

/-- The allocation a cold start loads into binding-table entry `c` (R384). -/
def bindReset (c : Nat) : Word :=
  if c < 8 then bindWord c 0 c 65
  else if c < 72 then bindWord 0 (c - 7) (8 + (c - 8) / 8) 65
  else if c < 76 then bindWord (c - 72) 66 (16 + (c - 72)) 65
  else if c < 80 then bindWord (c - 76) 67 (20 + (c - 76)) 65
  else bindWord 0 (c - 12) (24 + (c - 80) / 8) 65

/-- Reset value of the register at an address (0 where none is implemented). -/
def regReset (a : Nat) : Word :=
  if 0xDC0000 ≤ a ∧ a < 0xDC0200 then bindReset ((a - 0xDC0000) / 4)
  else
  match regAt a with
  | none => 0
  | some (_, r) => specReset r

/-! Register offsets (`R.NAME`) and fields (`R.NAME_FIELD`). -/
namespace R

def FCK_CTRL : Nat := 0x0
def FCK_CTRL_MULT_NEXT : Fld := ⟨0x0, 23, 16⟩
def FCK_CTRL_MULT : Fld := ⟨0x0, 15, 8⟩
def FCK_CTRL_CK_EN_NEXT : Fld := ⟨0x0, 3, 0⟩
def FCK_APPLY : Nat := 0x4
def FCK_APPLY_GO : Fld := ⟨0x4, 0, 0⟩
def FCK_STAT : Nat := 0x8
def FCK_STAT_STRETCH : Fld := ⟨0x8, 16, 11⟩
def FCK_STAT_STRETCH_CHG : Fld := ⟨0x8, 10, 10⟩
def FCK_STAT_REFUSED : Fld := ⟨0x8, 9, 9⟩
def FCK_STAT_HALTED : Fld := ⟨0x8, 8, 8⟩
def FCK_STAT_SWITCHING : Fld := ⟨0x8, 7, 7⟩
def FCK_STAT_LOCKED : Fld := ⟨0x8, 6, 6⟩
def FCK_STAT_CK_ON : Fld := ⟨0x8, 3, 0⟩
def FCK_TCRIT : Nat := 0xc
def FCK_TCRIT_TCRIT : Fld := ⟨0xc, 0, 0⟩
def FCK_DIV : Nat := 0x10
def FCK_DIV_DIV_NEXT : Fld := ⟨0x10, 24, 16⟩
def FCK_DIV_DIV : Fld := ⟨0x10, 8, 0⟩
def STILE_STAT : Nat := 0x100
def STILE_STAT_NO_PEER : Fld := ⟨0x100, 6, 6⟩
def STILE_STAT_DROP : Fld := ⟨0x100, 5, 5⟩
def STILE_STAT_LINK_LOST : Fld := ⟨0x100, 4, 4⟩
def STILE_STAT_FENCED : Fld := ⟨0x100, 3, 3⟩
def STILE_STAT_PEER_HALTED : Fld := ⟨0x100, 2, 2⟩
def STILE_STAT_PEER_IN_RESET : Fld := ⟨0x100, 1, 1⟩
def STILE_STAT_PEER_RESET : Fld := ⟨0x100, 0, 0⟩
def STILE_DROP_CNT : Nat := 0x104
def STILE_DROP_CNT_COUNT : Fld := ⟨0x104, 31, 0⟩
def STILE_IE : Nat := 0x108
def STILE_IE_IE_DROP : Fld := ⟨0x108, 5, 5⟩
def STILE_IE_IE_LINK : Fld := ⟨0x108, 4, 4⟩
def STILE_IE_IE_PEER : Fld := ⟨0x108, 0, 0⟩
def BM_STAT : Nat := 0x200
def BM_STAT_PATROL_LATE : Fld := ⟨0x200, 7, 7⟩
def BM_STAT_PATROL_DONE : Fld := ⟨0x200, 6, 6⟩
def BM_STAT_REMAP_REFUSED : Fld := ⟨0x200, 5, 5⟩
def BM_STAT_QUNF : Fld := ⟨0x200, 4, 4⟩
def BM_STAT_QOVF : Fld := ⟨0x200, 3, 3⟩
def BM_STAT_RMW_COLL : Fld := ⟨0x200, 2, 2⟩
def BM_STAT_UE : Fld := ⟨0x200, 1, 1⟩
def BM_STAT_CE : Fld := ⟨0x200, 0, 0⟩
def BM_CE_ADDR : Nat := 0x204
def BM_CE_ADDR_SYNDROME : Fld := ⟨0x204, 31, 24⟩
def BM_CE_ADDR_SOURCE : Fld := ⟨0x204, 23, 21⟩
def BM_CE_ADDR_BM : Fld := ⟨0x204, 16, 10⟩
def BM_CE_ADDR_WORD : Fld := ⟨0x204, 9, 0⟩
def BM_UE_ADDR : Nat := 0x208
def BM_UE_ADDR_SYNDROME : Fld := ⟨0x208, 31, 24⟩
def BM_UE_ADDR_SOURCE : Fld := ⟨0x208, 23, 21⟩
def BM_UE_ADDR_BM : Fld := ⟨0x208, 16, 10⟩
def BM_UE_ADDR_WORD : Fld := ⟨0x208, 9, 0⟩
def BM_CE_CNT : Nat := 0x20c
def BM_CE_CNT_COUNT : Fld := ⟨0x20c, 31, 0⟩
def BM_UE_CNT : Nat := 0x210
def BM_UE_CNT_COUNT : Fld := ⟨0x210, 31, 0⟩
def BM_EVT_IDX : Nat := 0x214
def BM_EVT_IDX_REMAP_BM : Fld := ⟨0x214, 22, 16⟩
def BM_EVT_IDX_COLL_BM : Fld := ⟨0x214, 14, 8⟩
def BM_EVT_IDX_QERR_BM : Fld := ⟨0x214, 6, 0⟩
def BM_IE : Nat := 0x218
def BM_IE_IE : Fld := ⟨0x218, 7, 0⟩
def BM_FLIP_CTRL : Nat := 0x21c
def BM_FLIP_CTRL_ARM : Fld := ⟨0x21c, 31, 31⟩
def BM_FLIP_CTRL_BM : Fld := ⟨0x21c, 6, 0⟩
def BM_FLIP_D_LO : Nat := 0x220
def BM_FLIP_D_LO_MASK : Fld := ⟨0x220, 31, 0⟩
def BM_FLIP_D_HI : Nat := 0x224
def BM_FLIP_D_HI_MASK : Fld := ⟨0x224, 31, 0⟩
def BM_FLIP_C : Nat := 0x228
def BM_FLIP_C_MASK : Fld := ⟨0x228, 7, 0⟩
def BM_STEAL_CNT : Nat := 0x22c
def BM_STEAL_CNT_COUNT : Fld := ⟨0x22c, 31, 0⟩
def BM_PATROL : Nat := 0x230
def BM_PATROL_PERIOD : Fld := ⟨0x230, 7, 0⟩
def BM_REWRITE : Nat := 0x234
def BM_REWRITE_GO : Fld := ⟨0x234, 31, 31⟩
def BM_REWRITE_BM : Fld := ⟨0x234, 16, 10⟩
def BM_REWRITE_WORD : Fld := ⟨0x234, 9, 0⟩
def BM_REMAP : Nat := 0x1000
def BM_REMAP_VALID : Fld := ⟨0x1000, 31, 31⟩
def BM_REMAP_COPY_BUSY : Fld := ⟨0x1000, 30, 30⟩
def BM_REMAP_WORD : Fld := ⟨0x1000, 9, 0⟩
def DBG_FLD_CMD : Nat := 0x2000
def DBG_FLD_CMD_HALT : Fld := ⟨0x2000, 31, 31⟩
def DBG_FLD_CMD_RUN : Fld := ⟨0x2000, 30, 30⟩
def DBG_FLD_CMD_STEP : Fld := ⟨0x2000, 29, 29⟩
def DBG_FLD_CMD_N : Fld := ⟨0x2000, 7, 0⟩
def DBG_FLD_STAT : Nat := 0x2004
def DBG_FLD_STAT_STATE : Fld := ⟨0x2004, 31, 30⟩
def DBG_FLD_STAT_HALT_SRC : Fld := ⟨0x2004, 27, 24⟩
def DBG_FLD_STAT_HALT_CH : Fld := ⟨0x2004, 23, 20⟩
def DBG_FLD_STAT_RB_BUSY : Fld := ⟨0x2004, 7, 7⟩
def DBG_FLD_STAT_XT_FENCED : Fld := ⟨0x2004, 6, 6⟩
def DBG_FLD_STAT_CMD_REFUSED : Fld := ⟨0x2004, 5, 5⟩
def DBG_FLD_STAT_RB_REFUSED : Fld := ⟨0x2004, 4, 4⟩
def DBG_FLD_STAT_RB_DONE : Fld := ⟨0x2004, 3, 3⟩
def DBG_FLD_STAT_STEP_DONE : Fld := ⟨0x2004, 2, 2⟩
def DBG_FLD_STAT_HALT_EVT : Fld := ⟨0x2004, 1, 1⟩
def DBG_FLD_TRIG : Nat := 0x2008
def DBG_FLD_TRIG_HALT_MASK : Fld := ⟨0x2008, 31, 16⟩
def DBG_FLD_TRIG_RUN_MASK : Fld := ⟨0x2008, 15, 0⟩
def DBG_FLD_TAPOUT : Nat := 0x200c
def DBG_FLD_TAPOUT_EN3 : Fld := ⟨0x200c, 31, 31⟩
def DBG_FLD_TAPOUT_CH3 : Fld := ⟨0x200c, 27, 24⟩
def DBG_FLD_TAPOUT_EN2 : Fld := ⟨0x200c, 23, 23⟩
def DBG_FLD_TAPOUT_CH2 : Fld := ⟨0x200c, 19, 16⟩
def DBG_FLD_TAPOUT_EN1 : Fld := ⟨0x200c, 15, 15⟩
def DBG_FLD_TAPOUT_CH1 : Fld := ⟨0x200c, 11, 8⟩
def DBG_FLD_TAPOUT_EN0 : Fld := ⟨0x200c, 7, 7⟩
def DBG_FLD_TAPOUT_CH0 : Fld := ⟨0x200c, 3, 0⟩
def DBG_FLD_TAPIN : Nat := 0x2010
def DBG_FLD_TAPIN_EN3 : Fld := ⟨0x2010, 31, 31⟩
def DBG_FLD_TAPIN_CH3 : Fld := ⟨0x2010, 27, 24⟩
def DBG_FLD_TAPIN_EN2 : Fld := ⟨0x2010, 23, 23⟩
def DBG_FLD_TAPIN_CH2 : Fld := ⟨0x2010, 19, 16⟩
def DBG_FLD_TAPIN_EN1 : Fld := ⟨0x2010, 15, 15⟩
def DBG_FLD_TAPIN_CH1 : Fld := ⟨0x2010, 11, 8⟩
def DBG_FLD_TAPIN_EN0 : Fld := ⟨0x2010, 7, 7⟩
def DBG_FLD_TAPIN_CH0 : Fld := ⟨0x2010, 3, 0⟩
def CFG_FSTAT : Nat := 0x3000
def CFG_FSTAT_STATE : Fld := ⟨0x3000, 31, 29⟩
def CFG_FSTAT_SRC : Fld := ⟨0x3000, 28, 27⟩
def CFG_FSTAT_STEP : Fld := ⟨0x3000, 26, 24⟩
def CFG_FSTAT_UE : Fld := ⟨0x3000, 3, 3⟩
def CFG_FSTAT_CE : Fld := ⟨0x3000, 2, 2⟩
def CFG_FSTAT_RELOAD_ERR : Fld := ⟨0x3000, 1, 1⟩
def CFG_FSTAT_LOCK_TMO : Fld := ⟨0x3000, 0, 0⟩
def DBG_FLD_RB : Nat := 0x2014
def DBG_FLD_RB_CAPTURE : Fld := ⟨0x2014, 31, 31⟩
def DBG_FLD_HALT_TTC_LO : Nat := 0x2018
def DBG_FLD_HALT_TTC_LO_TTC : Fld := ⟨0x2018, 31, 0⟩
def DBG_FLD_HALT_TTC_HI : Nat := 0x201c
def DBG_FLD_HALT_TTC_HI_TTC : Fld := ⟨0x201c, 31, 0⟩
def CFG_FIMG : Nat := 0x3004
def CFG_FIMG_IMAGE_ID : Fld := ⟨0x3004, 31, 0⟩
def CFG_CE_CNT : Nat := 0x3008
def CFG_CE_CNT_COUNT : Fld := ⟨0x3008, 31, 0⟩
def CFG_UE_CNT : Nat := 0x300c
def CFG_UE_CNT_COUNT : Fld := ⟨0x300c, 31, 0⟩
def GR_STAT : Nat := 0x0
def GR_STAT_FENCED : Fld := ⟨0x0, 11, 8⟩
def GR_STAT_PATROL_LATE : Fld := ⟨0x0, 7, 7⟩
def GR_STAT_PATROL_DONE : Fld := ⟨0x0, 6, 6⟩
def GR_STAT_REMAP_REFUSED : Fld := ⟨0x0, 5, 5⟩
def GR_STAT_GP_ERR : Fld := ⟨0x0, 4, 4⟩
def GR_STAT_DROP : Fld := ⟨0x0, 3, 3⟩
def GR_STAT_UE : Fld := ⟨0x0, 1, 1⟩
def GR_STAT_CE : Fld := ⟨0x0, 0, 0⟩
def GR_CE_ADDR : Nat := 0x4
def GR_CE_ADDR_SYNDROME : Fld := ⟨0x4, 31, 23⟩
def GR_CE_ADDR_SOURCE : Fld := ⟨0x4, 22, 20⟩
def GR_CE_ADDR_QADDR : Fld := ⟨0x4, 16, 0⟩
def GR_UE_ADDR : Nat := 0x8
def GR_UE_ADDR_SYNDROME : Fld := ⟨0x8, 31, 23⟩
def GR_UE_ADDR_SOURCE : Fld := ⟨0x8, 22, 20⟩
def GR_UE_ADDR_QADDR : Fld := ⟨0x8, 16, 0⟩
def GR_CE_CNT : Nat := 0xc
def GR_CE_CNT_COUNT : Fld := ⟨0xc, 31, 0⟩
def GR_UE_CNT : Nat := 0x10
def GR_UE_CNT_COUNT : Fld := ⟨0x10, 31, 0⟩
def GR_DROP_CNT : Nat := 0x14
def GR_DROP_CNT_COUNT : Fld := ⟨0x14, 31, 0⟩
def GR_STEAL_CNT : Nat := 0x38
def GR_STEAL_CNT_COUNT : Fld := ⟨0x38, 31, 0⟩
def GR_PORT_EN : Nat := 0x18
def GR_PORT_EN_EN : Fld := ⟨0x18, 3, 0⟩
def GR_IE : Nat := 0x1c
def GR_IE_IE : Fld := ⟨0x1c, 7, 0⟩
def GR_FLIP_CTRL : Nat := 0x20
def GR_FLIP_CTRL_ARM : Fld := ⟨0x20, 31, 31⟩
def GR_FLIP : Nat := 0x24
def GR_FLIP_MASK : Fld := ⟨0x24, 31, 0⟩
def GR_FLIP4 : Nat := 0x34
def GR_FLIP4_MASK : Fld := ⟨0x34, 8, 0⟩
def GR_PATROL : Nat := 0x3c
def GR_PATROL_PERIOD : Fld := ⟨0x3c, 7, 0⟩
def GR_REWRITE : Nat := 0x40
def GR_REWRITE_GO : Fld := ⟨0x40, 31, 31⟩
def GR_REWRITE_QADDR : Fld := ⟨0x40, 16, 0⟩
def GR_REMAP : Nat := 0x100
def GR_REMAP_VALID : Fld := ⟨0x100, 31, 31⟩
def GR_REMAP_COPY_BUSY : Fld := ⟨0x100, 30, 30⟩
def GR_REMAP_LINE : Fld := ⟨0x100, 14, 0⟩
def DDR_CTRL : Nat := 0x0
def DDR_CTRL_EN : Fld := ⟨0x0, 31, 31⟩
def DDR_CTRL_SPARE_EN : Fld := ⟨0x0, 30, 30⟩
def DDR_CTRL_SPARE_RANK : Fld := ⟨0x0, 29, 28⟩
def DDR_CTRL_RANKS : Fld := ⟨0x0, 27, 26⟩
def DDR_CTRL_DPC2 : Fld := ⟨0x0, 25, 25⟩
def DDR_CTRL_X8 : Fld := ⟨0x0, 24, 24⟩
def DDR_CTRL_RANK_GIB : Fld := ⟨0x0, 15, 8⟩
def DDR_STAT : Nat := 0x4
def DDR_STAT_STATE : Fld := ⟨0x4, 31, 29⟩
def DDR_STAT_FSP : Fld := ⟨0x4, 28, 27⟩
def DDR_STAT_POSTURE : Fld := ⟨0x4, 26, 24⟩
def DDR_STAT_FREQ_REFUSED : Fld := ⟨0x4, 11, 11⟩
def DDR_STAT_TRAIN_FAIL : Fld := ⟨0x4, 10, 10⟩
def DDR_STAT_RETRAINED : Fld := ⟨0x4, 9, 9⟩
def DDR_STAT_FSP_FALLBACK : Fld := ⟨0x4, 8, 8⟩
def DDR_STAT_TEMP_CRIT : Fld := ⟨0x4, 7, 7⟩
def DDR_STAT_TEMP_HI : Fld := ⟨0x4, 6, 6⟩
def DDR_STAT_THROTTLE : Fld := ⟨0x4, 5, 5⟩
def DDR_STAT_MIG_DONE : Fld := ⟨0x4, 4, 4⟩
def DDR_STAT_RETIRE : Fld := ⟨0x4, 3, 3⟩
def DDR_STAT_CAPAR : Fld := ⟨0x4, 2, 2⟩
def DDR_STAT_UE : Fld := ⟨0x4, 1, 1⟩
def DDR_STAT_CE : Fld := ⟨0x4, 0, 0⟩
def DDR_IE : Nat := 0x8
def DDR_IE_IE : Fld := ⟨0x8, 11, 0⟩
def DDR_FSP0 : Nat := 0x10
def DDR_FSP0_TRAINED : Fld := ⟨0x10, 31, 31⟩
def DDR_FSP0_RATE : Fld := ⟨0x10, 15, 0⟩
def DDR_FSP1 : Nat := 0x14
def DDR_FSP1_TRAINED : Fld := ⟨0x14, 31, 31⟩
def DDR_FSP1_RATE : Fld := ⟨0x14, 15, 0⟩
def DDR_FSP2 : Nat := 0x18
def DDR_FSP2_TRAINED : Fld := ⟨0x18, 31, 31⟩
def DDR_FSP2_RATE : Fld := ⟨0x18, 15, 0⟩
def DDR_FREQ : Nat := 0x1c
def DDR_FREQ_GO : Fld := ⟨0x1c, 31, 31⟩
def DDR_FREQ_FSP : Fld := ⟨0x1c, 1, 0⟩
def DDR_RANK : Nat := 0x20
def DDR_RANK_STATE : Fld := ⟨0x20, 31, 29⟩
def DDR_RANK_SERVES : Fld := ⟨0x20, 28, 27⟩
def DDR_RANK_REF_X2 : Fld := ⟨0x20, 26, 26⟩
def DDR_ERR_SRC : Nat := 0x60
def DDR_ERR_SRC_PATROL : Fld := ⟨0x60, 31, 31⟩
def DDR_ERR_SRC_RANK : Fld := ⟨0x60, 30, 29⟩
def DDR_ERR_SRC_SUBCH : Fld := ⟨0x60, 28, 28⟩
def DDR_ERR_SRC_MID : Fld := ⟨0x60, 11, 0⟩
def DDR_PATROL : Nat := 0x64
def DDR_PATROL_FIX : Fld := ⟨0x64, 31, 31⟩
def DDR_PATROL_PERIOD : Fld := ⟨0x64, 7, 0⟩
def DDR_RH : Nat := 0x68
def DDR_RH_RFM : Fld := ⟨0x68, 31, 31⟩
def DDR_RH_THRESH : Fld := ⟨0x68, 15, 0⟩
def DDR_RH_LAST : Nat := 0x6c
def DDR_RH_LAST_RANK : Fld := ⟨0x6c, 27, 26⟩
def DDR_RH_LAST_SUBCH : Fld := ⟨0x6c, 25, 25⟩
def DDR_RH_LAST_BANK : Fld := ⟨0x6c, 24, 20⟩
def DDR_RH_LAST_MID : Fld := ⟨0x6c, 11, 0⟩
def DDR_PORT : Nat := 0x100
def DDR_PORT_RESV : Fld := ⟨0x100, 31, 26⟩
def DDR_PORT_TARGET : Fld := ⟨0x100, 15, 0⟩
def DDR_MIG_PTR : Nat := 0x30
def DDR_MIG_PTR_PTR : Fld := ⟨0x30, 31, 0⟩
def DDR_MIG_POISON : Nat := 0x34
def DDR_MIG_POISON_COUNT : Fld := ⟨0x34, 31, 0⟩
def DDR_CE_CNT : Nat := 0x40
def DDR_CE_CNT_COUNT : Fld := ⟨0x40, 31, 0⟩
def DDR_UE_CNT : Nat := 0x44
def DDR_UE_CNT_COUNT : Fld := ⟨0x44, 31, 0⟩
def DDR_CAPAR_CNT : Nat := 0x48
def DDR_CAPAR_CNT_COUNT : Fld := ⟨0x48, 31, 0⟩
def DDR_THROTTLE_CNT : Nat := 0x4c
def DDR_THROTTLE_CNT_COUNT : Fld := ⟨0x4c, 31, 0⟩
def DDR_RFM_CNT : Nat := 0x50
def DDR_RFM_CNT_COUNT : Fld := ⟨0x50, 31, 0⟩
def DDR_FILL_WAIT_CNT : Nat := 0x54
def DDR_FILL_WAIT_CNT_COUNT : Fld := ⟨0x54, 31, 0⟩
def DDR_ERR_ADDR_LO : Nat := 0x58
def DDR_ERR_ADDR_LO_ADDR : Fld := ⟨0x58, 31, 0⟩
def DDR_ERR_ADDR_HI : Nat := 0x5c
def DDR_ERR_ADDR_HI_ADDR : Fld := ⟨0x5c, 5, 0⟩
def DDR_PORT_MAX : Nat := 0x140
def DDR_PORT_MAX_NS : Fld := ⟨0x140, 15, 0⟩
def ENC_CACHE_HIT_CNT : Nat := 0x180
def ENC_CACHE_HIT_CNT_COUNT : Fld := ⟨0x180, 31, 0⟩
def ENC_CACHE_MISS_CNT : Nat := 0x184
def ENC_CACHE_MISS_CNT_COUNT : Fld := ⟨0x184, 31, 0⟩
def MILL_CTRL : Nat := 0x0
def MILL_CTRL_START : Fld := ⟨0x0, 31, 31⟩
def MILL_CTRL_CLOSE : Fld := ⟨0x0, 30, 30⟩
def MILL_CTRL_ABORT : Fld := ⟨0x0, 29, 29⟩
def MILL_CTRL_SRC : Fld := ⟨0x0, 0, 0⟩
def MILL_STAT : Nat := 0x4
def MILL_STAT_STATE : Fld := ⟨0x4, 31, 28⟩
def MILL_STAT_ERR : Fld := ⟨0x4, 27, 24⟩
def MILL_STAT_DESC_OFS : Fld := ⟨0x4, 23, 16⟩
def MILL_STAT_INTAKE_UE : Fld := ⟨0x4, 5, 5⟩
def MILL_STAT_REFUSED : Fld := ⟨0x4, 4, 4⟩
def MILL_STAT_RANGE : Fld := ⟨0x4, 3, 3⟩
def MILL_STAT_OVF : Fld := ⟨0x4, 2, 2⟩
def MILL_STAT_ERROR : Fld := ⟨0x4, 1, 1⟩
def MILL_STAT_DONE : Fld := ⟨0x4, 0, 0⟩
def MILL_IE : Nat := 0x8
def MILL_IE_IE : Fld := ⟨0x8, 5, 0⟩
def MILL_OWNER : Nat := 0xc
def MILL_OWNER_SITE : Fld := ⟨0xc, 6, 0⟩
def MILL_SRC_CNT : Nat := 0x20
def MILL_SRC_CNT_COUNT : Fld := ⟨0x20, 31, 0⟩
def MILL_PROGRESS : Nat := 0x24
def MILL_PROGRESS_REGION : Fld := ⟨0x24, 11, 0⟩
def MILL_DESC_LO : Nat := 0x10
def MILL_DESC_LO_ADDR : Fld := ⟨0x10, 31, 8⟩
def MILL_DESC_HI : Nat := 0x14
def MILL_DESC_HI_ADDR : Fld := ⟨0x14, 15, 0⟩
def MILL_SRC_LO : Nat := 0x18
def MILL_SRC_LO_ADDR : Fld := ⟨0x18, 31, 8⟩
def MILL_SRC_HI : Nat := 0x1c
def MILL_SRC_HI_ADDR : Fld := ⟨0x1c, 15, 0⟩
def MILL_TAKEN_CNT : Nat := 0x28
def MILL_TAKEN_CNT_COUNT : Fld := ⟨0x28, 31, 0⟩
def MILL_MERGED_CNT : Nat := 0x2c
def MILL_MERGED_CNT_COUNT : Fld := ⟨0x2c, 31, 0⟩
def MILL_RANGE_CNT : Nat := 0x30
def MILL_RANGE_CNT_COUNT : Fld := ⟨0x30, 31, 0⟩
def MILL_OVF_DROP_CNT : Nat := 0x34
def MILL_OVF_DROP_CNT_COUNT : Fld := ⟨0x34, 31, 0⟩
def MILL_N_REPAIRED : Nat := 0x3c
def MILL_N_REPAIRED_COUNT : Fld := ⟨0x3c, 31, 0⟩
def MILL_N_UNREP : Nat := 0x40
def MILL_N_UNREP_COUNT : Fld := ⟨0x40, 31, 0⟩
def MILL_N_UNDEC : Nat := 0x44
def MILL_N_UNDEC_COUNT : Fld := ⟨0x44, 31, 0⟩
def MILL_RES_BYTES : Nat := 0x48
def MILL_RES_BYTES_COUNT : Fld := ⟨0x48, 31, 0⟩
def MILL_INTAKE_UE_CNT : Nat := 0x4c
def MILL_INTAKE_UE_CNT_COUNT : Fld := ⟨0x4c, 31, 0⟩
def MILL_STORED : Nat := 0x38
def MILL_STORED_COUNT : Fld := ⟨0x38, 17, 0⟩
def MILL_NODES_LO : Nat := 0x50
def MILL_NODES_LO_COUNT : Fld := ⟨0x50, 31, 0⟩
def MILL_NODES_HI : Nat := 0x54
def MILL_NODES_HI_COUNT : Fld := ⟨0x54, 31, 0⟩
def RING_STAT : Nat := 0x0
def RING_STAT_DENY : Fld := ⟨0x0, 8, 8⟩
def RING_STAT_TMO : Fld := ⟨0x0, 7, 7⟩
def RING_STAT_LATE : Fld := ⟨0x0, 6, 6⟩
def RING_STAT_HDR_DROP : Fld := ⟨0x0, 5, 5⟩
def RING_STAT_HDR_CE : Fld := ⟨0x0, 4, 4⟩
def RING_STAT_CRC_ERR : Fld := ⟨0x0, 3, 3⟩
def RING_STAT_RST_DROP : Fld := ⟨0x0, 2, 2⟩
def RING_STAT_BELL_DROP : Fld := ⟨0x0, 1, 1⟩
def RING_STAT_BELL_DENY : Fld := ⟨0x0, 0, 0⟩
def RING_BELL_CTRL : Nat := 0x4
def RING_BELL_CTRL_EN : Fld := ⟨0x4, 31, 31⟩
def RING_BELL_CTRL_DEST : Fld := ⟨0x4, 9, 0⟩
def RING_RSP_TMO : Nat := 0x28
def RING_RSP_TMO_TMO : Fld := ⟨0x28, 15, 0⟩
def RING_IE : Nat := 0x30
def RING_IE_IE : Fld := ⟨0x30, 8, 0⟩
def RING_FW_WIN : Nat := 0x40
def RING_FW_WIN_EN : Fld := ⟨0x40, 31, 31⟩
def RING_FW_WIN_R : Fld := ⟨0x40, 30, 30⟩
def RING_FW_WIN_W : Fld := ⟨0x40, 29, 29⟩
def RING_FW_WIN_B : Fld := ⟨0x40, 28, 28⟩
def RING_FW_WIN_MASK : Fld := ⟨0x40, 27, 16⟩
def RING_FW_WIN_MID : Fld := ⟨0x40, 11, 0⟩
def RING_BELL_DENY_CNT : Nat := 0x8
def RING_BELL_DENY_CNT_COUNT : Fld := ⟨0x8, 31, 0⟩
def RING_BELL_DROP_CNT : Nat := 0xc
def RING_BELL_DROP_CNT_COUNT : Fld := ⟨0xc, 31, 0⟩
def RING_CRC_CNT : Nat := 0x10
def RING_CRC_CNT_COUNT : Fld := ⟨0x10, 31, 0⟩
def RING_HDR_CE_CNT : Nat := 0x14
def RING_HDR_CE_CNT_COUNT : Fld := ⟨0x14, 31, 0⟩
def RING_HDR_DROP_CNT : Nat := 0x18
def RING_HDR_DROP_CNT_COUNT : Fld := ⟨0x18, 31, 0⟩
def RING_RST_DROP_CNT : Nat := 0x1c
def RING_RST_DROP_CNT_COUNT : Fld := ⟨0x1c, 31, 0⟩
def RING_TMO_CNT : Nat := 0x20
def RING_TMO_CNT_COUNT : Fld := ⟨0x20, 31, 0⟩
def RING_LATE_CNT : Nat := 0x24
def RING_LATE_CNT_COUNT : Fld := ⟨0x24, 31, 0⟩
def RING_DENY_CNT : Nat := 0x2c
def RING_DENY_CNT_COUNT : Fld := ⟨0x2c, 31, 0⟩
def GPIO_FILT : Nat := 0x24
def GPIO_FILT_PRE : Fld := ⟨0x24, 15, 0⟩
def GPIO_STAT : Nat := 0x28
def GPIO_STAT_OWN_CHG : Fld := ⟨0x28, 1, 1⟩
def GPIO_STAT_MUX_REFUSED : Fld := ⟨0x28, 0, 0⟩
def IO_PIN : Nat := 0x100
def IO_PIN_SAFE : Fld := ⟨0x100, 30, 29⟩
def IO_PIN_PULL : Fld := ⟨0x100, 28, 27⟩
def IO_PIN_DRIVE : Fld := ⟨0x100, 26, 25⟩
def IO_PIN_FILT : Fld := ⟨0x100, 23, 16⟩
def IO_PIN_IMODE : Fld := ⟨0x100, 12, 10⟩
def IO_PIN_ARG : Fld := ⟨0x100, 9, 4⟩
def IO_PIN_FUNC : Fld := ⟨0x100, 3, 0⟩
def GPIO_OUT : Nat := 0x0
def GPIO_OUT_BITS : Fld := ⟨0x0, 15, 0⟩
def GPIO_OE : Nat := 0x10
def GPIO_OE_BITS : Fld := ⟨0x10, 15, 0⟩
def GPIO_SET : Nat := 0x4
def GPIO_SET_BITS : Fld := ⟨0x4, 15, 0⟩
def GPIO_CLR : Nat := 0x8
def GPIO_CLR_BITS : Fld := ⟨0x8, 15, 0⟩
def GPIO_TGL : Nat := 0xc
def GPIO_TGL_BITS : Fld := ⟨0xc, 15, 0⟩
def GPIO_IN : Nat := 0x14
def GPIO_IN_BITS : Fld := ⟨0x14, 15, 0⟩
def GPIO_RAW : Nat := 0x18
def GPIO_RAW_BITS : Fld := ⟨0x18, 15, 0⟩
def GPIO_ISTAT : Nat := 0x1c
def GPIO_ISTAT_BITS : Fld := ⟨0x1c, 15, 0⟩
def GPIO_IE : Nat := 0x20
def GPIO_IE_BITS : Fld := ⟨0x20, 15, 0⟩
def I2C_CTRL : Nat := 0x400
def I2C_CTRL_EN : Fld := ⟨0x400, 31, 31⟩
def I2C_CTRL_PORT : Fld := ⟨0x400, 30, 30⟩
def I2C_CTRL_SPEED : Fld := ⟨0x400, 29, 28⟩
def I2C_CMD : Nat := 0x404
def I2C_CMD_GO : Fld := ⟨0x404, 31, 31⟩
def I2C_CMD_NOSTOP : Fld := ⟨0x404, 30, 30⟩
def I2C_CMD_ADDR : Fld := ⟨0x404, 22, 16⟩
def I2C_CMD_NRD : Fld := ⟨0x404, 12, 8⟩
def I2C_CMD_NWR : Fld := ⟨0x404, 4, 0⟩
def I2C_STAT : Nat := 0x408
def I2C_STAT_BUSY : Fld := ⟨0x408, 31, 31⟩
def I2C_STAT_REFUSED : Fld := ⟨0x408, 7, 7⟩
def I2C_STAT_BUS_STUCK : Fld := ⟨0x408, 6, 6⟩
def I2C_STAT_TIMEOUT : Fld := ⟨0x408, 5, 5⟩
def I2C_STAT_ARB_LOST : Fld := ⟨0x408, 4, 4⟩
def I2C_STAT_NACK_DATA : Fld := ⟨0x408, 3, 3⟩
def I2C_STAT_NACK_ADDR : Fld := ⟨0x408, 2, 2⟩
def I2C_STAT_DONE : Fld := ⟨0x408, 0, 0⟩
def I2C_CNT : Nat := 0x40c
def I2C_CNT_COUNT : Fld := ⟨0x40c, 4, 0⟩
def I2C_TXBUF : Nat := 0x410
def I2C_TXBUF_WORD : Fld := ⟨0x410, 31, 0⟩
def I2C_RXBUF : Nat := 0x420
def I2C_RXBUF_WORD : Fld := ⟨0x420, 31, 0⟩
def I2C_IE : Nat := 0x430
def I2C_IE_IE : Fld := ⟨0x430, 7, 0⟩
def SPI_CTRL : Nat := 0x500
def SPI_CTRL_EN : Fld := ⟨0x500, 31, 31⟩
def SPI_CTRL_CPOL : Fld := ⟨0x500, 30, 30⟩
def SPI_CTRL_CPHA : Fld := ⟨0x500, 29, 29⟩
def SPI_CTRL_LSB_FIRST : Fld := ⟨0x500, 28, 28⟩
def SPI_CTRL_DIV : Fld := ⟨0x500, 7, 0⟩
def SPI_CMD : Nat := 0x504
def SPI_CMD_GO : Fld := ⟨0x504, 31, 31⟩
def SPI_CMD_KEEP : Fld := ⟨0x504, 30, 30⟩
def SPI_CMD_LEN : Fld := ⟨0x504, 6, 0⟩
def SPI_STAT : Nat := 0x508
def SPI_STAT_BUSY : Fld := ⟨0x508, 31, 31⟩
def SPI_STAT_REFUSED : Fld := ⟨0x508, 2, 2⟩
def SPI_STAT_DONE : Fld := ⟨0x508, 0, 0⟩
def SPI_IE : Nat := 0x50c
def SPI_IE_IE : Fld := ⟨0x50c, 2, 0⟩
def SPI_BUF : Nat := 0x540
def SPI_BUF_WORD : Fld := ⟨0x540, 31, 0⟩
def UART_CTRL : Nat := 0x600
def UART_CTRL_EN : Fld := ⟨0x600, 31, 31⟩
def UART_CTRL_FLOW : Fld := ⟨0x600, 30, 30⟩
def UART_CTRL_PARITY : Fld := ⟨0x600, 29, 28⟩
def UART_CTRL_STOP2 : Fld := ⟨0x600, 27, 27⟩
def UART_CTRL_DIV : Fld := ⟨0x600, 15, 0⟩
def UART_STAT : Nat := 0x604
def UART_STAT_TX_LEVEL : Fld := ⟨0x604, 29, 24⟩
def UART_STAT_RX_LEVEL : Fld := ⟨0x604, 21, 16⟩
def UART_STAT_TX_EMPTY : Fld := ⟨0x604, 6, 6⟩
def UART_STAT_BREAK : Fld := ⟨0x604, 5, 5⟩
def UART_STAT_PARITY_ERR : Fld := ⟨0x604, 4, 4⟩
def UART_STAT_FRAME_ERR : Fld := ⟨0x604, 3, 3⟩
def UART_STAT_RX_OVF : Fld := ⟨0x604, 2, 2⟩
def UART_STAT_TX_OVF : Fld := ⟨0x604, 1, 1⟩
def UART_STAT_RX_AVAIL : Fld := ⟨0x604, 0, 0⟩
def UART_TX : Nat := 0x608
def UART_TX_BYTE : Fld := ⟨0x608, 7, 0⟩
def UART_RX : Nat := 0x60c
def UART_RX_BREAK : Fld := ⟨0x60c, 11, 11⟩
def UART_RX_PARITY_ERR : Fld := ⟨0x60c, 10, 10⟩
def UART_RX_FRAME_ERR : Fld := ⟨0x60c, 9, 9⟩
def UART_RX_VALID : Fld := ⟨0x60c, 8, 8⟩
def UART_RX_BYTE : Fld := ⟨0x60c, 7, 0⟩
def UART_IE : Nat := 0x610
def UART_IE_IE : Fld := ⟨0x610, 6, 0⟩
def LINK_STAT : Nat := 0x0
def LINK_STAT_STATE : Fld := ⟨0x0, 31, 28⟩
def LINK_STAT_CAUSE : Fld := ⟨0x0, 27, 24⟩
def LINK_STAT_TIME_ERR : Fld := ⟨0x0, 11, 11⟩
def LINK_STAT_LATE_APPLY : Fld := ⟨0x0, 10, 10⟩
def LINK_STAT_CREDIT_ERR : Fld := ⟨0x0, 9, 9⟩
def LINK_STAT_PROTO_ERR : Fld := ⟨0x0, 8, 8⟩
def LINK_STAT_BELL_LOST : Fld := ⟨0x0, 7, 7⟩
def LINK_STAT_FAILED_EVT : Fld := ⟨0x0, 6, 6⟩
def LINK_STAT_RESYNC_EVT : Fld := ⟨0x0, 5, 5⟩
def LINK_STAT_PEER_RST_EVT : Fld := ⟨0x0, 4, 4⟩
def LINK_STAT_REMOVED : Fld := ⟨0x0, 3, 3⟩
def LINK_STAT_HELLO_FAIL : Fld := ⟨0x0, 2, 2⟩
def LINK_STAT_ACTIVE_EVT : Fld := ⟨0x0, 1, 1⟩
def LINK_CFG : Nat := 0x4
def LINK_CFG_RESTART : Fld := ⟨0x4, 31, 31⟩
def LINK_CFG_TIME_EN : Fld := ⟨0x4, 30, 30⟩
def LINK_CFG_TIME_PERIOD : Fld := ⟨0x4, 23, 16⟩
def LINK_CFG_REPLAY_TMO : Fld := ⟨0x4, 15, 0⟩
def LINK_OWNER : Nat := 0x8
def LINK_OWNER_INJ : Fld := ⟨0x8, 31, 31⟩
def LINK_OWNER_SITE : Fld := ⟨0x8, 6, 0⟩
def LINK_PID_LO : Nat := 0x10
def LINK_PID_LO_ID : Fld := ⟨0x10, 31, 0⟩
def LINK_PID_HI : Nat := 0x14
def LINK_PID_HI_ID : Fld := ⟨0x14, 31, 0⟩
def LINK_HELLO : Nat := 0x18
def LINK_HELLO_GRANTED : Fld := ⟨0x18, 28, 16⟩
def LINK_HELLO_CHANNELS : Fld := ⟨0x18, 12, 0⟩
def LINK_HELLO2 : Nat := 0x1c
def LINK_HELLO2_STATUS : Fld := ⟨0x1c, 26, 24⟩
def LINK_HELLO2_KEPT : Fld := ⟨0x1c, 16, 16⟩
def LINK_HELLO2_CAPS : Fld := ⟨0x1c, 15, 8⟩
def LINK_HELLO2_VERSION : Fld := ⟨0x1c, 7, 0⟩
def LINK_SEQ : Nat := 0x20
def LINK_SEQ_RX_NEXT : Fld := ⟨0x20, 31, 20⟩
def LINK_SEQ_TX_NEXT : Fld := ⟨0x20, 19, 8⟩
def LINK_SEQ_UNACKED : Fld := ⟨0x20, 6, 0⟩
def LINK_CRED : Nat := 0x24
def LINK_CRED_CTRL_AVAIL : Fld := ⟨0x24, 15, 8⟩
def LINK_CRED_DATA_AVAIL : Fld := ⟨0x24, 7, 0⟩
def LINK_TIME_RTT : Nat := 0x28
def LINK_TIME_RTT_RTT : Fld := ⟨0x28, 31, 0⟩
def LINK_BSEQ : Nat := 0x2c
def LINK_BSEQ_LAST_VALID : Fld := ⟨0x2c, 16, 16⟩
def LINK_BSEQ_RX_LAST : Fld := ⟨0x2c, 15, 8⟩
def LINK_BSEQ_TX_NEXT : Fld := ⟨0x2c, 7, 0⟩
def LINK_IE : Nat := 0x30
def LINK_IE_IE : Fld := ⟨0x30, 11, 1⟩
def LINK_IE_IE_CTRL : Fld := ⟨0x30, 0, 0⟩
def LINK_FI_TX : Nat := 0xc0
def LINK_FI_TX_EN : Fld := ⟨0xc0, 31, 31⟩
def LINK_FI_TX_ACTION : Fld := ⟨0xc0, 30, 28⟩
def LINK_FI_TX_SEL : Fld := ⟨0xc0, 27, 26⟩
def LINK_FI_TX_COPY : Fld := ⟨0xc0, 25, 24⟩
def LINK_FI_TX_KIND : Fld := ⟨0xc0, 23, 22⟩
def LINK_FI_TX_K : Fld := ⟨0xc0, 15, 12⟩
def LINK_FI_TX_TYPES : Fld := ⟨0xc0, 5, 1⟩
def LINK_FI_RX : Nat := 0xc8
def LINK_FI_RX_EN : Fld := ⟨0xc8, 31, 31⟩
def LINK_FI_RX_ACTION : Fld := ⟨0xc8, 30, 28⟩
def LINK_FI_RX_SEL : Fld := ⟨0xc8, 27, 26⟩
def LINK_FI_RX_COPY : Fld := ⟨0xc8, 25, 24⟩
def LINK_FI_RX_KIND : Fld := ⟨0xc8, 23, 22⟩
def LINK_FI_RX_K : Fld := ⟨0xc8, 15, 12⟩
def LINK_FI_RX_TYPES : Fld := ⟨0xc8, 5, 1⟩
def LINK_FI_TX_N : Nat := 0xc4
def LINK_FI_TX_N_POS : Fld := ⟨0xc4, 24, 16⟩
def LINK_FI_TX_N_N : Fld := ⟨0xc4, 15, 0⟩
def LINK_FI_RX_N : Nat := 0xcc
def LINK_FI_RX_N_POS : Fld := ⟨0xcc, 24, 16⟩
def LINK_FI_RX_N_N : Fld := ⟨0xcc, 15, 0⟩
def LINK_FI_SEED : Nat := 0xd0
def LINK_FI_SEED_SEED : Fld := ⟨0xd0, 31, 0⟩
def LINK_CTRL_CMD : Nat := 0xa0
def LINK_CTRL_CMD_GO : Fld := ⟨0xa0, 31, 31⟩
def LINK_CTRL_CMD_WRITE : Fld := ⟨0xa0, 30, 30⟩
def LINK_CTRL_CMD_COUNT_M1 : Fld := ⟨0xa0, 21, 16⟩
def LINK_CTRL_ADDR : Nat := 0xa4
def LINK_CTRL_ADDR_ADDR : Fld := ⟨0xa4, 31, 2⟩
def LINK_CTRL_STAT : Nat := 0xa8
def LINK_CTRL_STAT_BUSY : Fld := ⟨0xa8, 31, 31⟩
def LINK_CTRL_STAT_DONE : Fld := ⟨0xa8, 30, 30⟩
def LINK_CTRL_STAT_TAG : Fld := ⟨0xa8, 7, 0⟩
def LINK_CTRL_CODE : Nat := 0xac
def LINK_CTRL_CODE_CODE : Fld := ⟨0xac, 2, 0⟩
def CRC_ERR_CNT : Nat := 0x40
def CRC_ERR_CNT_COUNT : Fld := ⟨0x40, 31, 0⟩
def FRAME_ERR_CNT : Nat := 0x44
def FRAME_ERR_CNT_COUNT : Fld := ⟨0x44, 31, 0⟩
def NAK_TX_CNT : Nat := 0x48
def NAK_TX_CNT_COUNT : Fld := ⟨0x48, 31, 0⟩
def NAK_RX_CNT : Nat := 0x4c
def NAK_RX_CNT_COUNT : Fld := ⟨0x4c, 31, 0⟩
def REPLAY_CNT : Nat := 0x50
def REPLAY_CNT_COUNT : Fld := ⟨0x50, 31, 0⟩
def ABORT_RX_CNT : Nat := 0x54
def ABORT_RX_CNT_COUNT : Fld := ⟨0x54, 31, 0⟩
def DUP_RX_CNT : Nat := 0x58
def DUP_RX_CNT_COUNT : Fld := ⟨0x58, 31, 0⟩
def BELL_CRC_CNT : Nat := 0x5c
def BELL_CRC_CNT_COUNT : Fld := ⟨0x5c, 31, 0⟩
def BELL_DUP_CNT : Nat := 0x60
def BELL_DUP_CNT_COUNT : Fld := ⟨0x60, 31, 0⟩
def BELL_LOST_CNT : Nat := 0x64
def BELL_LOST_CNT_COUNT : Fld := ⟨0x64, 31, 0⟩
def BELL_TX_DROP_CNT : Nat := 0x68
def BELL_TX_DROP_CNT_COUNT : Fld := ⟨0x68, 31, 0⟩
def BELL_GAP_CNT : Nat := 0x6c
def BELL_GAP_CNT_COUNT : Fld := ⟨0x6c, 31, 0⟩
def PROTO_ERR_CNT : Nat := 0x70
def PROTO_ERR_CNT_COUNT : Fld := ⟨0x70, 31, 0⟩
def CREDIT_ERR_CNT : Nat := 0x74
def CREDIT_ERR_CNT_COUNT : Fld := ⟨0x74, 31, 0⟩
def ACK_ERR_CNT : Nat := 0x78
def ACK_ERR_CNT_COUNT : Fld := ⟨0x78, 31, 0⟩
def TX_DISCARD_CNT : Nat := 0x7c
def TX_DISCARD_CNT_COUNT : Fld := ⟨0x7c, 31, 0⟩
def RX_INRESET_CNT : Nat := 0x80
def RX_INRESET_CNT_COUNT : Fld := ⟨0x80, 31, 0⟩
def LATE_APPLY_CNT : Nat := 0x84
def LATE_APPLY_CNT_COUNT : Fld := ⟨0x84, 31, 0⟩
def APPLY_RANGE_CNT : Nat := 0x88
def APPLY_RANGE_CNT_COUNT : Fld := ⟨0x88, 31, 0⟩
def TIME_TMO_CNT : Nat := 0x8c
def TIME_TMO_CNT_COUNT : Fld := ⟨0x8c, 31, 0⟩
def CTRL_LATE_CNT : Nat := 0x90
def CTRL_LATE_CNT_COUNT : Fld := ⟨0x90, 31, 0⟩
def FI_TX_CNT : Nat := 0x94
def FI_TX_CNT_COUNT : Fld := ⟨0x94, 31, 0⟩
def FI_RX_CNT : Nat := 0x98
def FI_RX_CNT_COUNT : Fld := ⟨0x98, 31, 0⟩
def LINK_CTRL_DATA : Nat := 0x100
def LINK_CTRL_DATA_WORD : Fld := ⟨0x100, 31, 0⟩
def LANE_CTRL : Nat := 0x0
def LANE_CTRL_EN : Fld := ⟨0x0, 31, 31⟩
def LANE_CTRL_MODE : Fld := ⟨0x0, 30, 29⟩
def LANE_CTRL_PLL : Fld := ⟨0x0, 28, 28⟩
def LANE_CTRL_DIV : Fld := ⟨0x0, 27, 26⟩
def LANE_STAT : Nat := 0x4
def LANE_STAT_STATE : Fld := ⟨0x4, 31, 28⟩
def LANE_STAT_DOWN_CAUSE : Fld := ⟨0x4, 27, 24⟩
def LANE_STAT_CMD_IGNORED : Fld := ⟨0x4, 10, 10⟩
def LANE_STAT_RATE_REFUSED : Fld := ⟨0x4, 9, 9⟩
def LANE_STAT_SLIP_IGNORED : Fld := ⟨0x4, 8, 8⟩
def LANE_STAT_EB_ERR : Fld := ⟨0x4, 7, 7⟩
def LANE_STAT_DOWN_EVT : Fld := ⟨0x4, 6, 6⟩
def LANE_STAT_LOL : Fld := ⟨0x4, 5, 5⟩
def LANE_STAT_ALIGN_REQ : Fld := ⟨0x4, 4, 4⟩
def LANE_STAT_UP_EVT : Fld := ⟨0x4, 3, 3⟩
def LANE_STAT_SIG_DET : Fld := ⟨0x4, 2, 2⟩
def LANE_STAT_CDR_LOCK : Fld := ⟨0x4, 1, 1⟩
def LANE_CMD : Nat := 0x8
def LANE_CMD_ALIGN_FAIL : Fld := ⟨0x8, 3, 3⟩
def LANE_CMD_ALIGN_DONE : Fld := ⟨0x8, 2, 2⟩
def LANE_CMD_WIN_START : Fld := ⟨0x8, 1, 1⟩
def LANE_CMD_SLIP : Fld := ⟨0x8, 0, 0⟩
def LANE_ALIGN : Nat := 0xc
def LANE_ALIGN_WIN_DONE : Fld := ⟨0xc, 31, 31⟩
def LANE_ALIGN_SLIP_BUSY : Fld := ⟨0xc, 30, 30⟩
def LANE_ALIGN_SLIPS : Fld := ⟨0xc, 29, 26⟩
def LANE_ALIGN_COM_WIN : Fld := ⟨0xc, 21, 11⟩
def LANE_ALIGN_ERR_WIN : Fld := ⟨0xc, 10, 0⟩
def LANE_TXEQ : Nat := 0x18
def LANE_TXEQ_POST : Fld := ⟨0x18, 20, 16⟩
def LANE_TXEQ_PRE : Fld := ⟨0x18, 11, 8⟩
def LANE_TXEQ_AMP : Fld := ⟨0x18, 2, 0⟩
def LANE_RXEQ : Nat := 0x1c
def LANE_RXEQ_FREEZE : Fld := ⟨0x1c, 31, 31⟩
def LANE_RXEQ_CTLE : Fld := ⟨0x1c, 19, 16⟩
def LANE_RXEQ_DFE1 : Fld := ⟨0x1c, 15, 8⟩
def LANE_EYE : Nat := 0x20
def LANE_EYE_VALID : Fld := ⟨0x20, 31, 31⟩
def LANE_EYE_WIDTH : Fld := ⟨0x20, 21, 16⟩
def LANE_EYE_HEIGHT : Fld := ⟨0x20, 9, 0⟩
def LANE_PRBS : Nat := 0x24
def LANE_PRBS_CHK_LOCK : Fld := ⟨0x24, 31, 31⟩
def LANE_PRBS_INV : Fld := ⟨0x24, 30, 30⟩
def LANE_PRBS_POLY : Fld := ⟨0x24, 29, 28⟩
def LANE_PRBS_ERR_LO : Nat := 0x28
def LANE_PRBS_ERR_LO_COUNT : Fld := ⟨0x28, 31, 0⟩
def LANE_PRBS_ERR_HI : Nat := 0x2c
def LANE_PRBS_ERR_HI_COUNT : Fld := ⟨0x2c, 31, 0⟩
def LANE_IE : Nat := 0x30
def LANE_IE_IE : Fld := ⟨0x30, 10, 3⟩
def LANE_CV_CNT : Nat := 0x10
def LANE_CV_CNT_COUNT : Fld := ⟨0x10, 31, 0⟩
def LANE_DISP_CNT : Nat := 0x14
def LANE_DISP_CNT_COUNT : Fld := ⟨0x14, 31, 0⟩
def TX_FILL_CNT : Nat := 0x34
def TX_FILL_CNT_COUNT : Fld := ⟨0x34, 31, 0⟩
def QPLL_CTRL : Nat := 0x0
def QPLL_CTRL_EN1 : Fld := ⟨0x0, 31, 31⟩
def QPLL_CTRL_N1 : Fld := ⟨0x0, 24, 16⟩
def QPLL_CTRL_EN0 : Fld := ⟨0x0, 15, 15⟩
def QPLL_CTRL_N0 : Fld := ⟨0x0, 8, 0⟩
def QPLL_STAT : Nat := 0x4
def QPLL_STAT_REFUSED : Fld := ⟨0x4, 2, 2⟩
def QPLL_STAT_LOCK1 : Fld := ⟨0x4, 1, 1⟩
def QPLL_STAT_LOCK0 : Fld := ⟨0x4, 0, 0⟩
def FCU_STAT : Nat := 0x0
def FCU_STAT_GRAN_REFUSED : Fld := ⟨0x0, 8, 8⟩
def FCU_STAT_CLR_BUSY : Fld := ⟨0x0, 7, 7⟩
def FCU_STAT_CLR_DONE : Fld := ⟨0x0, 6, 6⟩
def FCU_STAT_ECC_DROP : Fld := ⟨0x0, 5, 5⟩
def FCU_STAT_RST_DROP : Fld := ⟨0x0, 4, 4⟩
def FCU_STAT_TORN_SEEN : Fld := ⟨0x0, 3, 3⟩
def FCU_STAT_UNGRANTED : Fld := ⟨0x0, 2, 2⟩
def FCU_STAT_BAD_ENTRY : Fld := ⟨0x0, 1, 1⟩
def FCU_STAT_LOG_DROP : Fld := ⟨0x0, 0, 0⟩
def FCU_CLR : Nat := 0x24
def FCU_CLR_GO : Fld := ⟨0x24, 31, 31⟩
def FCU_CLR_LAST : Fld := ⟨0x24, 24, 16⟩
def FCU_CLR_FIRST : Fld := ⟨0x24, 8, 0⟩
def FCU_GRAN : Nat := 0x1000
def FCU_GRAN_SLOT : Fld := ⟨0x1000, 17, 12⟩
def FCU_GRAN_LINK : Fld := ⟨0x1000, 11, 8⟩
def FCU_GRAN_HELD : Fld := ⟨0x1000, 7, 7⟩
def FCU_GRAN_SITE : Fld := ⟨0x1000, 6, 0⟩
def LR_CTRL : Nat := 0x100
def LR_CTRL_FAB_EN : Fld := ⟨0x100, 31, 31⟩
def LR_CTRL_FAB_PATH : Fld := ⟨0x100, 30, 30⟩
def LR_CTRL_MILL_EN : Fld := ⟨0x100, 29, 29⟩
def LR_CTRL_LOG_MODE : Fld := ⟨0x100, 28, 27⟩
def LR_CTRL_TALLY_EN : Fld := ⟨0x100, 26, 26⟩
def LR_CTRL_FF_EN : Fld := ⟨0x100, 25, 25⟩
def LR_CTRL_DATA_PATH : Fld := ⟨0x100, 24, 24⟩
def LR_CTRL_PORT_EN : Fld := ⟨0x100, 23, 23⟩
def LR_CTRL_PORT_FIELD : Fld := ⟨0x100, 22, 21⟩
def LR_CTRL_PORT : Fld := ⟨0x100, 20, 16⟩
def LR_CTRL_MILL : Fld := ⟨0x100, 3, 0⟩
def LR_CFG : Nat := 0x124
def LR_CFG_TX_POLL : Fld := ⟨0x124, 31, 16⟩
def LR_CFG_LOG_SIZE : Fld := ⟨0x124, 5, 0⟩
def LR_STAT : Nat := 0x130
def LR_STAT_LOG_ERR : Fld := ⟨0x130, 3, 3⟩
def LR_STAT_LOG_FULL : Fld := ⟨0x130, 2, 2⟩
def LR_STAT_TX_ERR : Fld := ⟨0x130, 1, 1⟩
def LR_STAT_AT_DROP : Fld := ⟨0x130, 0, 0⟩
def FCU_IE : Nat := 0x4
def FCU_IE_IE_8 : Fld := ⟨0x4, 8, 8⟩
def FCU_IE_IE : Fld := ⟨0x4, 6, 0⟩
def FAIL_LOG_DROPPED_LO : Nat := 0x8
def FAIL_LOG_DROPPED_LO_COUNT : Fld := ⟨0x8, 31, 0⟩
def FAIL_LOG_DROPPED_HI : Nat := 0xc
def FAIL_LOG_DROPPED_HI_COUNT : Fld := ⟨0xc, 31, 0⟩
def FCU_BAD_CNT : Nat := 0x10
def FCU_BAD_CNT_COUNT : Fld := ⟨0x10, 31, 0⟩
def FCU_UNGRANTED_CNT : Nat := 0x14
def FCU_UNGRANTED_CNT_COUNT : Fld := ⟨0x14, 31, 0⟩
def FCU_TORN_CNT : Nat := 0x18
def FCU_TORN_CNT_COUNT : Fld := ⟨0x18, 31, 0⟩
def FCU_RST_DROP_CNT : Nat := 0x1c
def FCU_RST_DROP_CNT_COUNT : Fld := ⟨0x1c, 31, 0⟩
def FCU_ECC_DROP_CNT : Nat := 0x20
def FCU_ECC_DROP_CNT_COUNT : Fld := ⟨0x20, 31, 0⟩
def FCU_MILL_DROP_CNT : Nat := 0x28
def FCU_MILL_DROP_CNT_COUNT : Fld := ⟨0x28, 31, 0⟩
def FCU_FAB_DROP_CNT : Nat := 0x2c
def FCU_FAB_DROP_CNT_COUNT : Fld := ⟨0x2c, 31, 0⟩
def LR_FAB_ADDR_LO : Nat := 0x104
def LR_FAB_ADDR_LO_ADDR : Fld := ⟨0x104, 31, 0⟩
def LR_FAB_ADDR_HI : Nat := 0x108
def LR_FAB_ADDR_HI_ADDR : Fld := ⟨0x108, 15, 0⟩
def LR_RX_ADDR_LO : Nat := 0x10c
def LR_RX_ADDR_LO_ADDR : Fld := ⟨0x10c, 31, 0⟩
def LR_RX_ADDR_HI : Nat := 0x110
def LR_RX_ADDR_HI_ADDR : Fld := ⟨0x110, 15, 0⟩
def LR_TX_ADDR_LO : Nat := 0x114
def LR_TX_ADDR_LO_ADDR : Fld := ⟨0x114, 31, 0⟩
def LR_TX_ADDR_HI : Nat := 0x118
def LR_TX_ADDR_HI_ADDR : Fld := ⟨0x118, 15, 0⟩
def LR_LOG_BASE_LO : Nat := 0x11c
def LR_LOG_BASE_LO_ADDR : Fld := ⟨0x11c, 31, 0⟩
def LR_LOG_BASE_HI : Nat := 0x120
def LR_LOG_BASE_HI_ADDR : Fld := ⟨0x120, 15, 0⟩
def LR_LOG_WPTR : Nat := 0x128
def LR_LOG_WPTR_PTR : Fld := ⟨0x128, 31, 0⟩
def LR_LOG_RPTR : Nat := 0x12c
def LR_LOG_RPTR_PTR : Fld := ⟨0x12c, 31, 0⟩
def LR_AT_DROP_CNT : Nat := 0x134
def LR_AT_DROP_CNT_COUNT : Fld := ⟨0x134, 31, 0⟩
def LR_TX_ERR_CNT : Nat := 0x138
def LR_TX_ERR_CNT_COUNT : Fld := ⟨0x138, 31, 0⟩
def RING_SHARE : Nat := 0x80
def RING_SHARE_SHARE : Fld := ⟨0x80, 7, 0⟩
def PRB_CTRL : Nat := 0x180
def PRB_CTRL_EN : Fld := ⟨0x180, 31, 31⟩
def PRB_CTRL_TRACE : Fld := ⟨0x180, 30, 30⟩
def PRB_CTRL_STOP_FULL : Fld := ⟨0x180, 29, 29⟩
def PRB_CTRL_PORT : Fld := ⟨0x180, 28, 27⟩
def PRB_CTRL_DIR : Fld := ⟨0x180, 26, 25⟩
def PRB_CTRL_CLASS : Fld := ⟨0x180, 24, 21⟩
def PRB_CTRL_RSP : Fld := ⟨0x180, 20, 19⟩
def PRB_CTRL_OP_EN : Fld := ⟨0x180, 18, 18⟩
def PRB_CTRL_OP : Fld := ⟨0x180, 17, 14⟩
def PRB_CTRL_SID_EN : Fld := ⟨0x180, 13, 13⟩
def PRB_CTRL_SID : Fld := ⟨0x180, 12, 6⟩
def PRB_CTRL_CODE_EN : Fld := ⟨0x180, 5, 5⟩
def PRB_CTRL_CODE : Fld := ⟨0x180, 4, 2⟩
def PRB_MID : Nat := 0x184
def PRB_MID_MASK : Fld := ⟨0x184, 27, 16⟩
def PRB_MID_MID : Fld := ⟨0x184, 11, 0⟩
def PRB_BASE : Nat := 0x188
def PRB_BASE_A : Fld := ⟨0x188, 31, 0⟩
def PRB_LIMIT : Nat := 0x18c
def PRB_LIMIT_A : Fld := ⟨0x18c, 31, 0⟩
def PRB_CNT_LO : Nat := 0x190
def PRB_CNT_LO_COUNT : Fld := ⟨0x190, 31, 0⟩
def PRB_CNT_HI : Nat := 0x194
def PRB_CNT_HI_COUNT : Fld := ⟨0x194, 31, 0⟩
def PRB_TRC_WPTR : Nat := 0x198
def PRB_TRC_WPTR_WRAPPED : Fld := ⟨0x198, 31, 31⟩
def PRB_TRC_WPTR_WPTR : Fld := ⟨0x198, 9, 0⟩
def TALLY_CTRL : Nat := 0x0
def TALLY_CTRL_EN : Fld := ⟨0x0, 31, 31⟩
def TALLY_CTRL_FAB_EN : Fld := ⟨0x0, 30, 30⟩
def TALLY_CTRL_FAB_PATH : Fld := ⟨0x0, 29, 29⟩
def TALLY_CTRL_TMO : Fld := ⟨0x0, 15, 0⟩
def TALLY_STAT : Nat := 0x14
def TALLY_STAT_OPEN : Fld := ⟨0x14, 4, 4⟩
def TALLY_STAT_STALE : Fld := ⟨0x14, 3, 3⟩
def TALLY_STAT_LINK_DROP : Fld := ⟨0x14, 2, 2⟩
def TALLY_STAT_TIMEOUT : Fld := ⟨0x14, 1, 1⟩
def TALLY_STAT_DONE : Fld := ⟨0x14, 0, 0⟩
def TALLY_FAB_ADDR_LO : Nat := 0x4
def TALLY_FAB_ADDR_LO_ADDR : Fld := ⟨0x4, 31, 0⟩
def TALLY_FAB_ADDR_HI : Nat := 0x8
def TALLY_FAB_ADDR_HI_ADDR : Fld := ⟨0x8, 15, 0⟩
def TALLY_RES_LO : Nat := 0xc
def TALLY_RES_LO_TIMEOUT : Fld := ⟨0xc, 11, 11⟩
def TALLY_RES_LO_LINK_DROP : Fld := ⟨0xc, 10, 10⟩
def TALLY_RES_LO_ANY : Fld := ⟨0xc, 9, 9⟩
def TALLY_RES_LO_ALL : Fld := ⟨0xc, 8, 8⟩
def TALLY_RES_LO_STEP : Fld := ⟨0xc, 7, 0⟩
def TALLY_RES_HI : Nat := 0x10
def TALLY_RES_HI_COUNT : Fld := ⟨0x10, 20, 0⟩
def TALLY_STALE_CNT : Nat := 0x18
def TALLY_STALE_CNT_COUNT : Fld := ⟨0x18, 31, 0⟩
def TALLY_IE : Nat := 0x1c
def TALLY_IE_IE : Fld := ⟨0x1c, 3, 0⟩
def TALLY_LAT : Nat := 0x20
def TALLY_LAT_NS : Fld := ⟨0x20, 15, 0⟩
def PAR_STAT : Nat := 0x0
def PAR_STAT_INC_OVF : Fld := ⟨0x0, 7, 7⟩
def PAR_STAT_UNREAD_LOST : Fld := ⟨0x0, 6, 6⟩
def PAR_STAT_TORN : Fld := ⟨0x0, 5, 5⟩
def PAR_STAT_STAGE_DROP : Fld := ⟨0x0, 4, 4⟩
def PAR_STAT_FLASH_ERR : Fld := ⟨0x0, 3, 3⟩
def PAR_STAT_NO_AREA : Fld := ⟨0x0, 2, 2⟩
def PAR_STAT_FLUSHING : Fld := ⟨0x0, 1, 1⟩
def FC_ACK : Nat := 0x28
def FC_ACK_GEN : Fld := ⟨0x28, 15, 8⟩
def FC_ACK_ENTRY : Fld := ⟨0x28, 5, 0⟩
def INC_STAT : Nat := 0x1000
def INC_STAT_KIND : Fld := ⟨0x1000, 31, 28⟩
def INC_STAT_INDEX : Fld := ⟨0x1000, 27, 16⟩
def INC_STAT_GEN : Fld := ⟨0x1000, 15, 8⟩
def INC_STAT_VALID : Fld := ⟨0x1000, 7, 7⟩
def INC_STAT_OPEN : Fld := ⟨0x1000, 6, 6⟩
def INC_STAT_TAKEN : Fld := ⟨0x1000, 5, 5⟩
def INC_STAT_SEVERITY : Fld := ⟨0x1000, 4, 2⟩
def PAR_SEQ_NEW : Nat := 0x4
def PAR_SEQ_NEW_SEQ : Fld := ⟨0x4, 31, 0⟩
def PAR_SEQ_FLASH : Nat := 0x8
def PAR_SEQ_FLASH_SEQ : Fld := ⟨0x8, 31, 0⟩
def PAR_SEQ_OLD : Nat := 0xc
def PAR_SEQ_OLD_SEQ : Fld := ⟨0xc, 31, 0⟩
def PAR_MARK : Nat := 0x10
def PAR_MARK_SEQ : Fld := ⟨0x10, 31, 0⟩
def PAR_STAGED : Nat := 0x14
def PAR_STAGED_COUNT : Fld := ⟨0x14, 6, 0⟩
def PAR_STAGE_DROP_CNT : Nat := 0x18
def PAR_STAGE_DROP_CNT_COUNT : Fld := ⟨0x18, 31, 0⟩
def PAR_TORN_CNT : Nat := 0x1c
def PAR_TORN_CNT_COUNT : Fld := ⟨0x1c, 31, 0⟩
def PAR_UNREAD_LOST_CNT : Nat := 0x20
def PAR_UNREAD_LOST_CNT_COUNT : Fld := ⟨0x20, 31, 0⟩
def PAR_IN_A : Nat := 0x40
def PAR_IN_A_SOURCE : Fld := ⟨0x40, 31, 16⟩
def PAR_IN_A_CODE : Fld := ⟨0x40, 15, 0⟩
def PAR_IN_B : Nat := 0x44
def PAR_IN_B_SITE : Fld := ⟨0x44, 14, 8⟩
def PAR_IN_B_SEVERITY : Fld := ⟨0x44, 2, 0⟩
def PAR_IN_D_LO : Nat := 0x48
def PAR_IN_D_LO_DATA : Fld := ⟨0x48, 31, 0⟩
def PAR_IN_D_HI : Nat := 0x4c
def PAR_IN_D_HI_DATA : Fld := ⟨0x4c, 31, 0⟩
def PAR_IN_GO : Nat := 0x50
def PAR_IN_GO_GO : Fld := ⟨0x50, 31, 31⟩
def INC_CODE : Nat := 0x1004
def INC_CODE_SOURCE : Fld := ⟨0x1004, 31, 16⟩
def INC_CODE_CODE : Fld := ⟨0x1004, 15, 0⟩
def INC_COUNT : Nat := 0x1008
def INC_COUNT_COUNT : Fld := ⟨0x1008, 31, 0⟩
def INC_SITES_LO : Nat := 0x100c
def INC_SITES_LO_BITS : Fld := ⟨0x100c, 31, 0⟩
def INC_SITES_HI : Nat := 0x1010
def INC_SITES_HI_BITS : Fld := ⟨0x1010, 31, 0⟩
def INC_TTC_LO : Nat := 0x1014
def INC_TTC_LO_TTC : Fld := ⟨0x1014, 31, 0⟩
def INC_TTC_HI : Nat := 0x1018
def INC_TTC_HI_TTC : Fld := ⟨0x1018, 31, 0⟩
def INC_SEQ : Nat := 0x101c
def INC_SEQ_SEQ : Fld := ⟨0x101c, 31, 0⟩
def SITE_STAT : Nat := 0x0
def SITE_STAT_STATE : Fld := ⟨0x0, 31, 30⟩
def SITE_STAT_HELD : Fld := ⟨0x0, 29, 29⟩
def SITE_STAT_CAUSE : Fld := ⟨0x0, 28, 26⟩
def SITE_STAT_MERGED : Fld := ⟨0x0, 7, 7⟩
def SITE_STAT_RELOAD_MISS : Fld := ⟨0x0, 6, 6⟩
def SITE_STAT_DRAIN_TMO : Fld := ⟨0x0, 5, 5⟩
def SITE_STAT_STRETCHED : Fld := ⟨0x0, 4, 4⟩
def SITE_STAT_INCIDENT : Fld := ⟨0x0, 3, 3⟩
def SITE_STAT_GRANT_CHG : Fld := ⟨0x0, 2, 2⟩
def SITE_STAT_RESET_DONE : Fld := ⟨0x0, 1, 1⟩
def SITE_IE : Nat := 0x4
def SITE_IE_IE : Fld := ⟨0x4, 7, 1⟩
def SITE_RST_CFG : Nat := 0x8
def SITE_RST_CFG_FIELD_ACTION : Fld := ⟨0x8, 31, 31⟩
def SITE_RST_CFG_DRAIN_TMO : Fld := ⟨0x8, 9, 0⟩
def SITE_CMD : Nat := 0xc
def SITE_CMD_RESET : Fld := ⟨0xc, 31, 31⟩
def SITE_CMD_RUN : Fld := ⟨0xc, 30, 30⟩
def SITE_RST_CNT : Nat := 0x10
def SITE_RST_CNT_COUNT : Fld := ⟨0x10, 31, 0⟩
def SIC_DISCARD_CNT : Nat := 0x1c
def SIC_DISCARD_CNT_COUNT : Fld := ⟨0x1c, 31, 0⟩
def SITE_RIGHTS : Nat := 0x14
def SITE_RIGHTS_TCRIT_USED : Fld := ⟨0x14, 23, 16⟩
def SITE_RIGHTS_TCRIT_MAX : Fld := ⟨0x14, 15, 8⟩
def SITE_RIGHTS_DEBUG : Fld := ⟨0x14, 3, 2⟩
def SITE_RIGHTS_INJ : Fld := ⟨0x14, 1, 1⟩
def SITE_RIGHTS_BELL : Fld := ⟨0x14, 0, 0⟩
def SITE_INCIDENT : Nat := 0x18
def SITE_INCIDENT_EVENT : Fld := ⟨0x18, 31, 16⟩
def SITE_INCIDENT_INDEX : Fld := ⟨0x18, 5, 0⟩
def SIC_EN : Nat := 0x20
def SIC_EN_EN : Fld := ⟨0x20, 8, 0⟩
def SIC_ROUTE : Nat := 0x24
def SIC_ROUTE_V3 : Fld := ⟨0x24, 29, 24⟩
def SIC_ROUTE_V2 : Fld := ⟨0x24, 21, 16⟩
def SIC_ROUTE_V1 : Fld := ⟨0x24, 13, 8⟩
def SIC_ROUTE_V0 : Fld := ⟨0x24, 5, 0⟩
def SIC_ROUTE2 : Nat := 0x2c
def SIC_ROUTE2_V0 : Fld := ⟨0x2c, 5, 0⟩
def SIC_EOI : Nat := 0x30
def SIC_EOI_VECTOR : Fld := ⟨0x30, 5, 0⟩
def SIC_VSTAT_LO : Nat := 0x38
def SIC_VSTAT_LO_SENT : Fld := ⟨0x38, 31, 0⟩
def SIC_VSTAT_HI : Nat := 0x3c
def SIC_VSTAT_HI_SENT : Fld := ⟨0x3c, 31, 0⟩
def SIC_LVL : Nat := 0x100
def SIC_LVL_BITS : Fld := ⟨0x100, 31, 0⟩
def DRAM_INTLV : Nat := 0x0
def DRAM_INTLV_CAP_GIB : Fld := ⟨0x0, 31, 23⟩
def DRAM_INTLV_N : Fld := ⟨0x0, 15, 12⟩
def DRAM_INTLV_MASK : Fld := ⟨0x0, 11, 0⟩
def DRAM_HSTAT : Nat := 0x4
def DRAM_HSTAT_OWN_REFUSED : Fld := ⟨0x4, 0, 0⟩
def DRAM_PORTMAP : Nat := 0x100
def DRAM_PORTMAP_SCAV : Fld := ⟨0x100, 15, 12⟩
def DRAM_PORTMAP_BULK : Fld := ⟨0x100, 11, 8⟩
def DRAM_PORTMAP_PROMPT : Fld := ⟨0x100, 7, 4⟩
def DRAM_PORTMAP_BELL : Fld := ⟨0x100, 3, 0⟩
def DRAM_SITE_EVT : Nat := 0x200
def DRAM_SITE_EVT_FREQ : Fld := ⟨0x200, 4, 4⟩
def DRAM_SITE_EVT_MIGRATE : Fld := ⟨0x200, 3, 3⟩
def DRAM_SITE_EVT_THROTTLE : Fld := ⟨0x200, 2, 2⟩
def DRAM_SITE_EVT_POISON : Fld := ⟨0x200, 1, 1⟩
def DRAM_OWN : Nat := 0x1000
def DRAM_OWN_SITE : Fld := ⟨0x1000, 6, 0⟩
def DRAM_SITE_IE : Nat := 0x204
def DRAM_SITE_IE_IE : Fld := ⟨0x204, 4, 1⟩
def FLD_OWN : Nat := 0x0
def FLD_OWN_SITE : Fld := ⟨0x0, 6, 0⟩
def GRAN_OWN : Nat := 0x200
def GRAN_OWN_SITE : Fld := ⟨0x200, 6, 0⟩
def OWN_STAT : Nat := 0x300
def OWN_STAT_BUSY : Fld := ⟨0x300, 1, 1⟩
def OWN_STAT_OWN_REFUSED : Fld := ⟨0x300, 0, 0⟩
def ENC_CTRL : Nat := 0x0
def ENC_CTRL_EN : Fld := ⟨0x0, 31, 31⟩
def ENC_CTRL_DGRAN : Fld := ⟨0x0, 11, 0⟩
def ENC_REGION : Nat := 0x4
def ENC_REGION_MGRAN : Fld := ⟨0x4, 27, 16⟩
def ENC_REGION_BASE : Fld := ⟨0x4, 11, 0⟩
def ENC_STAT : Nat := 0x8
def ENC_STAT_STATE : Fld := ⟨0x8, 31, 30⟩
def ENC_STAT_CTR_EXHAUSTED : Fld := ⟨0x8, 4, 4⟩
def ENC_STAT_REFUSED : Fld := ⟨0x8, 3, 3⟩
def ENC_STAT_META_UE : Fld := ⟨0x8, 2, 2⟩
def ENC_STAT_LOCKED_EVT : Fld := ⟨0x8, 1, 1⟩
def ENC_STAT_ALARM : Fld := ⟨0x8, 0, 0⟩
def ENC_ALARM_SRC : Nat := 0x20
def ENC_ALARM_SRC_CHANNEL : Fld := ⟨0x20, 31, 28⟩
def ENC_ALARM_SRC_LEVEL : Fld := ⟨0x20, 27, 25⟩
def ENC_ALARM_SRC_MID : Fld := ⟨0x20, 11, 0⟩
def ENC_IE : Nat := 0xc
def ENC_IE_IE : Fld := ⟨0xc, 4, 0⟩
def ENC_ALARM_CNT : Nat := 0x10
def ENC_ALARM_CNT_COUNT : Fld := ⟨0x10, 4, 0⟩
def ENC_ALARM_TOTAL : Nat := 0x14
def ENC_ALARM_TOTAL_COUNT : Fld := ⟨0x14, 31, 0⟩
def ENC_POISON_CNT : Nat := 0x24
def ENC_POISON_CNT_COUNT : Fld := ⟨0x24, 31, 0⟩
def ENC_ALARM_ADDR_LO : Nat := 0x18
def ENC_ALARM_ADDR_LO_ADDR : Fld := ⟨0x18, 31, 0⟩
def ENC_ALARM_ADDR_HI : Nat := 0x1c
def ENC_ALARM_ADDR_HI_ADDR : Fld := ⟨0x1c, 5, 0⟩
def HOST_FN_ERR : Nat := 0x0
def HOST_FN_ERR_AP_REFUSED : Fld := ⟨0x0, 15, 15⟩
def HOST_FN_ERR_RCODE : Fld := ⟨0x0, 14, 12⟩
def HOST_FN_ERR_RERR : Fld := ⟨0x0, 11, 11⟩
def HOST_FN_ERR_WCODE : Fld := ⟨0x0, 10, 8⟩
def HOST_FN_ERR_WERR : Fld := ⟨0x0, 7, 7⟩
def HOST_FN_ERR_WOFS : Fld := ⟨0x0, 6, 6⟩
def HOST_FN_ERR_WBAR : Fld := ⟨0x0, 5, 5⟩
def HOST_AP : Nat := 0x10
def HOST_AP_EN : Fld := ⟨0x10, 31, 31⟩
def HOST_AP_BASE : Fld := ⟨0x10, 17, 0⟩
def HOST_FN_WADDR_LO : Nat := 0x4
def HOST_FN_WADDR_LO_ADDR : Fld := ⟨0x4, 31, 0⟩
def HOST_FN_WADDR_HI : Nat := 0x8
def HOST_FN_WADDR_HI_ADDR : Fld := ⟨0x8, 15, 0⟩
def HOST_FN_WERR_CNT : Nat := 0xc
def HOST_FN_WERR_CNT_COUNT : Fld := ⟨0xc, 31, 0⟩
def HOST_WEIGHT : Nat := 0x50
def HOST_WEIGHT_WEIGHT : Fld := ⟨0x50, 3, 0⟩
def HOST_EOI : Nat := 0x54
def HOST_EOI_VECTOR : Fld := ⟨0x54, 7, 0⟩
def HOST_VSTAT : Nat := 0x60
def HOST_VSTAT_SENT : Fld := ⟨0x60, 31, 0⟩
def DMA_CTRL : Nat := 0x0
def DMA_CTRL_EN : Fld := ⟨0x0, 31, 31⟩
def DMA_CTRL_RESUME : Fld := ⟨0x0, 30, 30⟩
def DMA_CTRL_RSIZE : Fld := ⟨0x0, 4, 0⟩
def DMA_STAT : Nat := 0x14
def DMA_STAT_STATE : Fld := ⟨0x14, 31, 30⟩
def DMA_STAT_CODE : Fld := ⟨0x14, 29, 27⟩
def DMA_STAT_TAIL_REFUSED : Fld := ⟨0x14, 3, 3⟩
def DMA_STAT_HOST_ERR : Fld := ⟨0x14, 2, 2⟩
def DMA_STAT_ERR : Fld := ⟨0x14, 1, 1⟩
def DMA_STAT_DONE : Fld := ⟨0x14, 0, 0⟩
def DMA_RING_LO : Nat := 0x4
def DMA_RING_LO_ADDR : Fld := ⟨0x4, 31, 12⟩
def DMA_RING_HI : Nat := 0x8
def DMA_RING_HI_ADDR : Fld := ⟨0x8, 31, 0⟩
def DMA_TAIL : Nat := 0xc
def DMA_TAIL_TAIL : Fld := ⟨0xc, 15, 0⟩
def DMA_HEAD : Nat := 0x10
def DMA_HEAD_HEAD : Fld := ⟨0x10, 15, 0⟩
def DMA_ERR_DESC : Nat := 0x18
def DMA_ERR_DESC_DESC : Fld := ⟨0x18, 15, 0⟩
def DMA_BYTES_LO : Nat := 0x20
def DMA_BYTES_LO_COUNT : Fld := ⟨0x20, 31, 0⟩
def DMA_BYTES_HI : Nat := 0x24
def DMA_BYTES_HI_COUNT : Fld := ⟨0x24, 31, 0⟩
def MBX_STAT_A : Nat := 0x80
def MBX_STAT_A_IN_COUNT : Fld := ⟨0x80, 20, 16⟩
def MBX_STAT_A_OUT_SPACE : Fld := ⟨0x80, 12, 8⟩
def MBX_STAT_A_DISCARDED : Fld := ⟨0x80, 2, 2⟩
def MBX_STAT_A_RX_EMPTY_READ : Fld := ⟨0x80, 1, 1⟩
def MBX_STAT_A_TX_OVF : Fld := ⟨0x80, 0, 0⟩
def MBX_STAT_B : Nat := 0xa0
def MBX_STAT_B_IN_COUNT : Fld := ⟨0xa0, 20, 16⟩
def MBX_STAT_B_OUT_SPACE : Fld := ⟨0xa0, 12, 8⟩
def MBX_STAT_B_DISCARDED : Fld := ⟨0xa0, 2, 2⟩
def MBX_STAT_B_RX_EMPTY_READ : Fld := ⟨0xa0, 1, 1⟩
def MBX_STAT_B_TX_OVF : Fld := ⟨0xa0, 0, 0⟩
def MBX_DISCARD_CNT_A : Nat := 0x84
def MBX_DISCARD_CNT_A_COUNT : Fld := ⟨0x84, 31, 0⟩
def MBX_DISCARD_CNT_B : Nat := 0xa4
def MBX_DISCARD_CNT_B_COUNT : Fld := ⟨0xa4, 31, 0⟩
def MBX_DB : Nat := 0x0
def MBX_DB_BITS : Fld := ⟨0x0, 31, 0⟩
def MBX_DBMASK : Nat := 0x4
def MBX_DBMASK_BITS : Fld := ⟨0x4, 31, 0⟩
def MBX_DBPEND : Nat := 0x8
def MBX_DBPEND_BITS : Fld := ⟨0x8, 31, 0⟩
def MBX_FP_ADDR_LO : Nat := 0xc
def MBX_FP_ADDR_LO_ADDR : Fld := ⟨0xc, 31, 0⟩
def MBX_FP_ADDR_HI : Nat := 0x10
def MBX_FP_ADDR_HI_ADDR : Fld := ⟨0x10, 15, 0⟩
def MBX_BIND : Nat := 0x0
def MBX_BIND_VALID : Fld := ⟨0x0, 31, 31⟩
def MBX_BIND_BIT_A : Fld := ⟨0x0, 30, 26⟩
def MBX_BIND_BIT_B : Fld := ⟨0x0, 25, 21⟩
def MBX_BIND_EP_A : Fld := ⟨0x0, 13, 7⟩
def MBX_BIND_EP_B : Fld := ⟨0x0, 6, 0⟩
def MBX_LOCK : Nat := 0x400
def MBX_LOCK_LOCKED : Fld := ⟨0x400, 0, 0⟩
def MBX_FPBIND : Nat := 0x500
def MBX_FPBIND_VALID : Fld := ⟨0x500, 31, 31⟩
def MBX_FPBIND_MID : Fld := ⟨0x500, 11, 0⟩
def MBX_PEND : Nat := 0x600
def MBX_PEND_BITS : Fld := ⟨0x600, 31, 0⟩
def COMMONS_HB : Nat := 0x700
def COMMONS_HB_SEQ : Fld := ⟨0x700, 31, 16⟩
def COMMONS_HB_STATE : Fld := ⟨0x700, 15, 14⟩
def COMMONS_HB_AGE : Fld := ⟨0x700, 13, 0⟩
def CMN_CORE_STAT : Nat := 0x0
def CMN_CORE_STAT_STATE : Fld := ⟨0x0, 31, 29⟩
def CMN_CORE_STAT_TD : Fld := ⟨0x0, 28, 28⟩
def CMN_CORE_STAT_WP : Fld := ⟨0x0, 27, 25⟩
def CMN_CORE_STAT_HALT_CODE : Fld := ⟨0x0, 15, 0⟩
def CMN_RST_STAT : Nat := 0x100
def CMN_RST_STAT_LAST_CAUSE : Fld := ⟨0x100, 31, 28⟩
def CMN_RST_STAT_CORE : Fld := ⟨0x100, 27, 26⟩
def CMN_RST_STAT_FALLBACK : Fld := ⟨0x100, 25, 25⟩
def CMN_RST_STAT_SLOT : Fld := ⟨0x100, 24, 24⟩
def CMN_RST_STAT_HALT_CODE : Fld := ⟨0x100, 15, 0⟩
def CMN_WDT : Nat := 0x108
def CMN_WDT_CORE_WDT_EN : Fld := ⟨0x108, 31, 31⟩
def CMN_WDT_CORE_LIMIT : Fld := ⟨0x108, 23, 16⟩
def CMN_WDT_HB_LIMIT : Fld := ⟨0x108, 7, 0⟩
def REEVE_STAT : Nat := 0x200
def REEVE_STAT_STATE : Fld := ⟨0x200, 31, 30⟩
def REEVE_STAT_RESTART_CNT : Fld := ⟨0x200, 15, 0⟩
def PATCH_STAT : Nat := 0x300
def PATCH_STAT_VALID : Fld := ⟨0x300, 21, 16⟩
def PATCH_STAT_LEVEL : Fld := ⟨0x300, 15, 0⟩
def PATCH_ENT : Nat := 0x400
def PATCH_ENT_VALID : Fld := ⟨0x400, 31, 31⟩
def PATCH_ENT_TARGET : Fld := ⟨0x400, 30, 30⟩
def PATCH_ENT_ACTION : Fld := ⟨0x400, 29, 29⟩
def PATCH_ENT_SLOT : Fld := ⟨0x400, 28, 24⟩
def PATCH_ENT_WORD : Fld := ⟨0x400, 18, 0⟩
def CMN_CORE_PC_LO : Nat := 0x4
def CMN_CORE_PC_LO_PC : Fld := ⟨0x4, 31, 0⟩
def CMN_CORE_PC_HI : Nat := 0x8
def CMN_CORE_PC_HI_PC : Fld := ⟨0x8, 31, 0⟩
def CMN_CORE_KICK : Nat := 0xc
def CMN_CORE_KICK_KICK : Fld := ⟨0xc, 31, 0⟩
def CMN_RESTART_CNT : Nat := 0x104
def CMN_RESTART_CNT_COUNT : Fld := ⟨0x104, 31, 0⟩
def PATCH_TRAP_SKIP : Nat := 0x304
def PATCH_TRAP_SKIP_COUNT : Fld := ⟨0x304, 31, 0⟩
def CMN_IRQ_ROUTE : Nat := 0x10c
def CMN_IRQ_ROUTE_SRC3 : Fld := ⟨0x10c, 7, 6⟩
def CMN_IRQ_ROUTE_SRC2 : Fld := ⟨0x10c, 5, 4⟩
def CMN_IRQ_ROUTE_SRC1 : Fld := ⟨0x10c, 3, 2⟩
def CMN_IRQ_ROUTE_SRC0 : Fld := ⟨0x10c, 1, 0⟩
def SEC_LC_STAT : Nat := 0x0
def SEC_LC_STAT_SEALED_FAULT : Fld := ⟨0x0, 31, 31⟩
def SEC_LC_STAT_INTACT : Fld := ⟨0x0, 26, 24⟩
def SEC_LC_STAT_GROUPS_C : Fld := ⟨0x0, 19, 16⟩
def SEC_LC_STAT_GROUPS_B : Fld := ⟨0x0, 15, 12⟩
def SEC_LC_STAT_GROUPS_A : Fld := ⟨0x0, 11, 8⟩
def SEC_LC_STAT_STATE : Fld := ⟨0x0, 2, 0⟩
def SEC_KEY_STAT : Nat := 0x4
def SEC_KEY_STAT_BBKEY_VALID : Fld := ⟨0x4, 16, 16⟩
def SEC_KEY_STAT_BAD : Fld := ⟨0x4, 15, 8⟩
def SEC_KEY_STAT_PRESENT : Fld := ⟨0x4, 7, 0⟩
def SEC_DRNG_STAT : Nat := 0x8
def SEC_DRNG_STAT_STATE : Fld := ⟨0x8, 31, 30⟩
def SEC_DRNG_STAT_FAILED_EVT : Fld := ⟨0x8, 2, 2⟩
def SEC_DRNG_STAT_HEALTH_EVT : Fld := ⟨0x8, 1, 1⟩
def SEC_DRNG_STAT_READY_EVT : Fld := ⟨0x8, 0, 0⟩
def SEC_PKE_STAT : Nat := 0x10
def SEC_PKE_STAT_LAST_OP : Fld := ⟨0x10, 31, 28⟩
def SEC_PKE_STAT_LAST_RESULT : Fld := ⟨0x10, 27, 24⟩
def SEC_PKE_STAT_BUSY : Fld := ⟨0x10, 0, 0⟩
def SEC_DRNG_FAIL_CNT : Nat := 0xc
def SEC_DRNG_FAIL_CNT_COUNT : Fld := ⟨0xc, 31, 0⟩
def SEC_DIK_X : Nat := 0x100
def SEC_DIK_X_WORD : Fld := ⟨0x100, 31, 0⟩
def SEC_DIK_Y : Nat := 0x130
def SEC_DIK_Y_WORD : Fld := ⟨0x130, 31, 0⟩
def BK_STAT : Nat := 0x0
def BK_STAT_RTC_VALID : Fld := ⟨0x0, 31, 31⟩
def BK_STAT_BBKEY_VALID : Fld := ⟨0x0, 30, 30⟩
def BK_STAT_VBAT_OK : Fld := ⟨0x0, 29, 29⟩
def BK_STAT_LOG_NEW : Fld := ⟨0x0, 1, 1⟩
def BK_STAT_ALARM : Fld := ⟨0x0, 0, 0⟩
def BK_TAMPER0 : Nat := 0x20
def BK_TAMPER0_EN : Fld := ⟨0x20, 31, 31⟩
def BK_TAMPER0_POL : Fld := ⟨0x20, 30, 30⟩
def BK_TAMPER0_ALL : Fld := ⟨0x20, 29, 29⟩
def BK_TAMPER0_FILT : Fld := ⟨0x20, 3, 0⟩
def BK_TAMPER1 : Nat := 0x24
def BK_TAMPER1_EN : Fld := ⟨0x24, 31, 31⟩
def BK_TAMPER1_POL : Fld := ⟨0x24, 30, 30⟩
def BK_TAMPER1_ALL : Fld := ⟨0x24, 29, 29⟩
def BK_TAMPER1_FILT : Fld := ⟨0x24, 3, 0⟩
def BK_RTC_LO : Nat := 0x4
def BK_RTC_LO_SEC : Fld := ⟨0x4, 31, 0⟩
def BK_RTC_HI : Nat := 0x8
def BK_RTC_HI_SUB : Fld := ⟨0x8, 30, 16⟩
def BK_RTC_HI_SEC : Fld := ⟨0x8, 1, 0⟩
def BK_RTC_SET_LO : Nat := 0xc
def BK_RTC_SET_LO_SEC : Fld := ⟨0xc, 31, 0⟩
def BK_RTC_SET_HI : Nat := 0x10
def BK_RTC_SET_HI_SUB : Fld := ⟨0x10, 30, 16⟩
def BK_RTC_SET_HI_SEC : Fld := ⟨0x10, 1, 0⟩
def BK_RTC_CMD : Nat := 0x14
def BK_RTC_CMD_SET : Fld := ⟨0x14, 0, 0⟩
def BK_LOG_LO : Nat := 0x100
def BK_LOG_LO_SEC : Fld := ⟨0x100, 31, 0⟩
def BK_LOG_HI : Nat := 0x104
def BK_LOG_HI_VALID : Fld := ⟨0x104, 31, 31⟩
def BK_LOG_HI_CAUSE : Fld := ⟨0x104, 30, 27⟩
def BK_LOG_HI_SUB : Fld := ⟨0x104, 26, 12⟩
def BK_LOG_HI_SEC : Fld := ⟨0x104, 1, 0⟩
def BK_LOG_CNT : Nat := 0x180
def BK_LOG_CNT_OVF : Fld := ⟨0x180, 15, 8⟩
def BK_LOG_CNT_USED : Fld := ⟨0x180, 4, 0⟩
def BK_LOG_CLR : Nat := 0x184
def BK_LOG_CLR_CLR : Fld := ⟨0x184, 0, 0⟩
def DBG_XT_PULSE : Nat := 0x0
def DBG_XT_PULSE_FIRE : Fld := ⟨0x0, 15, 0⟩
def DBG_XT_STAT : Nat := 0x4
def DBG_XT_STAT_FIRED : Fld := ⟨0x4, 15, 0⟩
def DBG_SESSION_M : Nat := 0x8
def DBG_SESSION_M_LEVEL : Fld := ⟨0x8, 31, 30⟩
def DBG_SESSION_M_BASE : Fld := ⟨0x8, 29, 28⟩
def DBG_SESSION_M_METHOD : Fld := ⟨0x8, 27, 24⟩
def DBG_CORE_CMD : Nat := 0x10
def DBG_CORE_CMD_STEP : Fld := ⟨0x10, 11, 8⟩
def DBG_CORE_CMD_RUN : Fld := ⟨0x10, 7, 4⟩
def DBG_CORE_CMD_HALT : Fld := ⟨0x10, 3, 0⟩
def DBG_CORE_XT : Nat := 0x14
def DBG_CORE_XT_HALT_MASK : Fld := ⟨0x14, 31, 16⟩
def DBG_CORE_XT_OUT_EN : Fld := ⟨0x14, 4, 4⟩
def DBG_CORE_XT_OUT_CH : Fld := ⟨0x14, 3, 0⟩
def DBG_BOOT : Nat := 0x18
def DBG_BOOT_HOLD_COMMONS : Fld := ⟨0x18, 0, 0⟩
def DBG_XT_OWN : Nat := 0x100
def DBG_XT_OWN_SITE : Fld := ⟨0x100, 6, 0⟩
def DBG_XT_TIME_LO : Nat := 0x104
def DBG_XT_TIME_LO_TIME : Fld := ⟨0x104, 31, 0⟩
def DBG_XT_TIME_HI : Nat := 0x108
def DBG_XT_TIME_HI_TIME : Fld := ⟨0x108, 31, 0⟩
def DBG_XT_TCTRL : Nat := 0x10c
def DBG_XT_TCTRL_ARM : Fld := ⟨0x10c, 31, 31⟩
def DBG_XT_FIRST_LO : Nat := 0x110
def DBG_XT_FIRST_LO_TTC : Fld := ⟨0x110, 31, 0⟩
def DBG_XT_FIRST_HI : Nat := 0x114
def DBG_XT_FIRST_HI_TTC : Fld := ⟨0x114, 31, 0⟩
def DBG_PRB_XT : Nat := 0x400
def DBG_PRB_XT_OUT_EN : Fld := ⟨0x400, 31, 31⟩
def DBG_PRB_XT_OUT_CH : Fld := ⟨0x400, 27, 24⟩
def DBG_PRB_XT_IN_EN : Fld := ⟨0x400, 23, 23⟩
def DBG_PRB_XT_IN_CH : Fld := ⟨0x400, 19, 16⟩
def DBG_PRB_XT_IN_START : Fld := ⟨0x400, 15, 15⟩
def CFG_ENG_STAT : Nat := 0x0
def CFG_ENG_STAT_WRITERS : Fld := ⟨0x0, 30, 28⟩
def CFG_ENG_STAT_QUEUED : Fld := ⟨0x0, 23, 16⟩
def CFG_ENG_STAT_LOAD_ERR : Fld := ⟨0x0, 3, 3⟩
def CFG_ENG_STAT_COPY_DONE : Fld := ⟨0x0, 2, 2⟩
def CFG_ENG_STAT_BOOT_ERR : Fld := ⟨0x0, 1, 1⟩
def CFG_ENG_STAT_BOOT_DONE : Fld := ⟨0x0, 0, 0⟩
def CFG_ERR : Nat := 0x4
def CFG_ERR_CAUSE : Fld := ⟨0x4, 31, 28⟩
def CFG_ERR_SECTION : Fld := ⟨0x4, 15, 0⟩
def CFG_SCRUB : Nat := 0x10
def CFG_SCRUB_EN : Fld := ⟨0x10, 31, 31⟩
def CFG_SCRUB_ACTION : Fld := ⟨0x10, 29, 28⟩
def CFG_SCRUB_PERIOD : Fld := ⟨0x10, 7, 0⟩
def CFG_XSPI_CMD : Nat := 0x100
def CFG_XSPI_CMD_GO : Fld := ⟨0x100, 31, 31⟩
def CFG_XSPI_CMD_DIR : Fld := ⟨0x100, 30, 30⟩
def CFG_XSPI_CMD_CS : Fld := ⟨0x100, 29, 29⟩
def CFG_XSPI_CMD_ADDR_EN : Fld := ⟨0x100, 28, 28⟩
def CFG_XSPI_CMD_WIDTH : Fld := ⟨0x100, 25, 24⟩
def CFG_XSPI_CMD_OPCODE : Fld := ⟨0x100, 23, 16⟩
def CFG_XSPI_CMD_DUMMY : Fld := ⟨0x100, 15, 11⟩
def CFG_XSPI_CMD_LEN : Fld := ⟨0x100, 8, 0⟩
def CFG_STORE_LO : Nat := 0x8
def CFG_STORE_LO_ADDR : Fld := ⟨0x8, 31, 28⟩
def CFG_STORE_HI : Nat := 0xc
def CFG_STORE_HI_ADDR : Fld := ⟨0xc, 15, 0⟩
def CFG_SCRUB_LAST : Nat := 0x14
def CFG_SCRUB_LAST_FIELD : Fld := ⟨0x14, 22, 16⟩
def CFG_SCRUB_LAST_FRAME : Fld := ⟨0x14, 14, 0⟩
def CFG_XSPI_ADDR : Nat := 0x104
def CFG_XSPI_ADDR_ADDR : Fld := ⟨0x104, 31, 0⟩
def CFG_XSPI_STAT : Nat := 0x108
def CFG_XSPI_STAT_BUSY : Fld := ⟨0x108, 31, 31⟩
def CFG_XSPI_STAT_REFUSED : Fld := ⟨0x108, 1, 1⟩
def CFG_XSPI_STAT_DONE : Fld := ⟨0x108, 0, 0⟩
def CFG_XSPI_BUF : Nat := 0x200
def CFG_XSPI_BUF_WORD : Fld := ⟨0x200, 31, 0⟩
def START_STAT : Nat := 0x0
def START_STAT_CODE : Fld := ⟨0x0, 31, 24⟩
def START_STAT_ARG : Fld := ⟨0x0, 23, 16⟩
def START_STAT_STEP : Fld := ⟨0x0, 15, 12⟩
def START_STAT_DEGRADED : Fld := ⟨0x0, 2, 2⟩
def START_STAT_WARM : Fld := ⟨0x0, 1, 1⟩
def START_STAT_DONE : Fld := ⟨0x0, 0, 0⟩
def START_CAUSE : Nat := 0x4
def START_CAUSE_CAUSE : Fld := ⟨0x4, 31, 28⟩
def START_CAUSE_WARM_DENIED : Fld := ⟨0x4, 0, 0⟩
def START_CFG : Nat := 0x8
def START_CFG_WARM_EN : Fld := ⟨0x8, 31, 31⟩
def START_CFG_SCRUB_ON_WARM : Fld := ⟨0x8, 30, 30⟩
def START_CFG_DEGRADED_EN : Fld := ⟨0x8, 29, 29⟩
def START_CFG_MODE : Fld := ⟨0x8, 1, 0⟩
def PWR_CAP : Nat := 0x18
def PWR_CAP_CAP_W : Fld := ⟨0x18, 31, 22⟩
def PWR_CAP_S_CAP : Fld := ⟨0x18, 5, 0⟩
def PWR_STAT : Nat := 0x20
def PWR_STAT_STATE_REFUSED : Fld := ⟨0x20, 4, 4⟩
def PWR_STAT_PWR_FAIL : Fld := ⟨0x20, 3, 3⟩
def PWR_STAT_THERM_WARN : Fld := ⟨0x20, 2, 2⟩
def PWR_STAT_CAP_LIMIT : Fld := ⟨0x20, 1, 1⟩
def PWR_STAT_MODE_DONE : Fld := ⟨0x20, 0, 0⟩
def START_CMD : Nat := 0xc
def START_CMD_WARM : Fld := ⟨0xc, 1, 1⟩
def START_CMD_COLD : Fld := ⟨0xc, 0, 0⟩
def PWR_STATE : Nat := 0x10
def PWR_STATE_STATE : Fld := ⟨0x10, 2, 0⟩
def PWR_CMD : Nat := 0x14
def PWR_CMD_TARGET : Fld := ⟨0x14, 2, 0⟩
def PWR_MEAS : Nat := 0x1c
def PWR_MEAS_MW : Fld := ⟨0x1c, 31, 0⟩
def MON_CH : Nat := 0x0
def MON_CH_EN : Fld := ⟨0x0, 31, 31⟩
def MON_CH_GAIN : Fld := ⟨0x0, 3, 2⟩
def MON_CH_OSR : Fld := ⟨0x0, 1, 0⟩
def MON_CONV : Nat := 0x800
def MON_CONV_OVF_CNT : Fld := ⟨0x800, 31, 24⟩
def MON_CONV_LEVEL : Fld := ⟨0x800, 15, 8⟩
def MON_CONV_DWELL : Fld := ⟨0x800, 3, 0⟩
def MON_SMP : Nat := 0x400
def MON_SMP_SAMPLE : Fld := ⟨0x400, 31, 0⟩
def MON_FIFO : Nat := 0x804
def MON_FIFO_SAMPLE : Fld := ⟨0x804, 31, 0⟩
def CLK_ROOT : Nat := 0x0
def CLK_ROOT_SEL : Fld := ⟨0x0, 31, 30⟩
def CLK_ROOT_ACTIVE : Fld := ⟨0x0, 29, 28⟩
def CLK_ROOT_SWITCHING : Fld := ⟨0x0, 27, 27⟩
def CLK_ROOT_SWITCH_IGNORED : Fld := ⟨0x0, 2, 2⟩
def CLK_ROOT_SEL_REFUSED : Fld := ⟨0x0, 1, 1⟩
def CLK_REF_STAT : Nat := 0x4
def CLK_REF_STAT_FALLBACK : Fld := ⟨0x4, 31, 31⟩
def CLK_REF_STAT_INT_FAIL : Fld := ⟨0x4, 30, 30⟩
def CLK_REF_STAT_TTC_FREE : Fld := ⟨0x4, 29, 29⟩
def CLK_REF_STAT_B_STABLE : Fld := ⟨0x4, 23, 23⟩
def CLK_REF_STAT_B_DEV : Fld := ⟨0x4, 22, 22⟩
def CLK_REF_STAT_B_LOSS : Fld := ⟨0x4, 21, 21⟩
def CLK_REF_STAT_B_CLASS : Fld := ⟨0x4, 20, 18⟩
def CLK_REF_STAT_A_STABLE : Fld := ⟨0x4, 15, 15⟩
def CLK_REF_STAT_A_DEV : Fld := ⟨0x4, 14, 14⟩
def CLK_REF_STAT_A_LOSS : Fld := ⟨0x4, 13, 13⟩
def CLK_REF_STAT_A_CLASS : Fld := ⟨0x4, 12, 10⟩
def CLK_MON_CFG : Nat := 0x8
def CLK_MON_CFG_EN : Fld := ⟨0x8, 31, 31⟩
def CLK_MON_CFG_DEV : Fld := ⟨0x8, 7, 0⟩
def CLK_GSTAT : Nat := 0x20
def CLK_GSTAT_REFUSED_NODE : Fld := ⟨0x20, 13, 8⟩
def CLK_GSTAT_GATE_REFUSED : Fld := ⟨0x20, 0, 0⟩
def CLK_GATE : Nat := 0x100
def CLK_GATE_ON : Fld := ⟨0x100, 31, 31⟩
def CLK_GATE_READY : Fld := ⟨0x100, 30, 30⟩
def CLKMON_CTRL : Nat := 0x30
def CLKMON_CTRL_EN : Fld := ⟨0x30, 31, 31⟩
def CLKMON_CTRL_CLKMON_REFUSED : Fld := ⟨0x30, 30, 30⟩
def CLKMON_CTRL_SRC : Fld := ⟨0x30, 27, 24⟩
def CLKMON_CTRL_INDEX : Fld := ⟨0x30, 20, 12⟩
def CLKMON_CTRL_DIV : Fld := ⟨0x30, 11, 0⟩
def CLK_MON_A_CNT : Nat := 0xc
def CLK_MON_A_CNT_COUNT : Fld := ⟨0xc, 16, 0⟩
def CLK_MON_A_BASE : Nat := 0x10
def CLK_MON_A_BASE_COUNT : Fld := ⟨0x10, 16, 0⟩
def CLK_MON_B_CNT : Nat := 0x14
def CLK_MON_B_CNT_COUNT : Fld := ⟨0x14, 16, 0⟩
def CLK_MON_B_BASE : Nat := 0x18
def CLK_MON_B_BASE_COUNT : Fld := ⟨0x18, 16, 0⟩
def TTC_LO : Nat := 0x40
def TTC_LO_TTC : Fld := ⟨0x40, 31, 0⟩
def TTC_HI : Nat := 0x44
def TTC_HI_TTC : Fld := ⟨0x44, 31, 0⟩
def TTC_SYNC : Nat := 0x48
def TTC_SYNC_SYNC : Fld := ⟨0x48, 8, 1⟩
def KELK_S : Nat := 0x0
def KELK_S_STATE : Fld := ⟨0x0, 31, 30⟩
def KELK_S_NFAIL : Fld := ⟨0x0, 26, 24⟩
def KELK_S_NFUSED : Fld := ⟨0x0, 22, 20⟩
def KELK_S_CHG : Fld := ⟨0x0, 16, 16⟩
def KELK_S_ERR : Fld := ⟨0x0, 15, 0⟩
def KELK_W : Nat := 0x1000
def KELK_W_STATE : Fld := ⟨0x1000, 31, 30⟩
def KELK_W_NFAIL : Fld := ⟨0x1000, 26, 24⟩
def KELK_W_NFUSED : Fld := ⟨0x1000, 22, 20⟩
def KELK_W_CHG : Fld := ⟨0x1000, 16, 16⟩
def KELK_W_ERR : Fld := ⟨0x1000, 15, 0⟩
def KELK_W_UE_EVT : Fld := ⟨0x1000, 19, 19⟩
def GST_CTRL : Nat := 0x0
def GST_CTRL_UNFENCE : Fld := ⟨0x0, 31, 31⟩
def GST_CTRL_FENCE : Fld := ⟨0x0, 30, 30⟩
def GST_CTRL_RESET : Fld := ⟨0x0, 29, 29⟩
def GST_STAT : Nat := 0x4
def GST_STAT_STATE : Fld := ⟨0x4, 31, 29⟩
def GST_STAT_PRESENT : Fld := ⟨0x4, 28, 28⟩
def GST_STAT_RATE : Fld := ⟨0x4, 27, 26⟩
def GST_STAT_REFUSED : Fld := ⟨0x4, 2, 2⟩
def GST_STAT_RST_TMO : Fld := ⟨0x4, 1, 1⟩
def GST_STAT_TRAIN_FAIL : Fld := ⟨0x4, 0, 0⟩
def GST_MSTR : Nat := 0x40
def GST_MSTR_EN : Fld := ⟨0x40, 31, 31⟩
def GST_MSTR_SID : Fld := ⟨0x40, 6, 0⟩
def GST_CRC_CNT : Nat := 0x8
def GST_CRC_CNT_COUNT : Fld := ⟨0x8, 31, 0⟩
def GST_PROTO_CNT : Nat := 0xc
def GST_PROTO_CNT_COUNT : Fld := ⟨0xc, 31, 0⟩
def GST_DROP_CNT : Nat := 0x10
def GST_DROP_CNT_COUNT : Fld := ⟨0x10, 31, 0⟩
def GST_DENY_CNT : Nat := 0x14
def GST_DENY_CNT_COUNT : Fld := ⟨0x14, 31, 0⟩
def GST_WIN_A : Nat := 0x80
def GST_WIN_A_EN : Fld := ⟨0x80, 31, 31⟩
def GST_WIN_A_R : Fld := ⟨0x80, 30, 30⟩
def GST_WIN_A_W : Fld := ⟨0x80, 29, 29⟩
def GST_WIN_A_BASE : Fld := ⟨0x80, 17, 0⟩
def GST_WIN_B : Nat := 0x84
def GST_WIN_B_LIMIT : Fld := ⟨0x84, 17, 0⟩
def REGBUS_STAT : Nat := 0x0
def REGBUS_STAT_DROP_OVF : Fld := ⟨0x0, 2, 2⟩
def REGBUS_STAT_FAULT_SEEN : Fld := ⟨0x0, 1, 1⟩
def REGBUS_STAT_WRITE_DROPPED : Fld := ⟨0x0, 0, 0⟩
def REGBUS_DROP_ADDR : Nat := 0x4
def REGBUS_DROP_ADDR_OFFSET : Fld := ⟨0x4, 23, 0⟩
def REGBUS_DROP_SRC : Nat := 0x8
def REGBUS_DROP_SRC_SID : Fld := ⟨0x8, 18, 12⟩
def REGBUS_DROP_SRC_MID : Fld := ⟨0x8, 11, 0⟩
def REGBUS_FAULT_CNT : Nat := 0xc
def REGBUS_FAULT_CNT_COUNT : Fld := ⟨0xc, 31, 0⟩
def DBG_SESSION : Nat := 0x0
def DBG_SESSION_LEVEL : Fld := ⟨0x0, 31, 30⟩
def DBG_SESSION_BASE : Fld := ⟨0x0, 29, 28⟩
def DBG_SESSION_METHOD : Fld := ⟨0x0, 27, 24⟩
def DBG_AUTH_CMD : Nat := 0x4
def DBG_AUTH_CMD_CMD : Fld := ⟨0x4, 3, 0⟩
def DBG_AUTH_STAT : Nat := 0x8
def DBG_AUTH_STAT_STATE : Fld := ⟨0x8, 31, 28⟩
def DBG_AUTH_STAT_RESULT : Fld := ⟨0x8, 27, 24⟩
def DBG_AUTH_STAT_AUTH_FAIL_CNT : Fld := ⟨0x8, 15, 0⟩
def DBG_DENY_CNT : Nat := 0xc
def DBG_DENY_CNT_COUNT : Fld := ⟨0xc, 31, 0⟩
def DBG_AUTH_BUF : Nat := 0x200
def DBG_AUTH_BUF_WORD : Fld := ⟨0x200, 31, 0⟩
end R

end Sys2Proof.Machine
end

