-- ==== Sys2Proof/Machine/State.lean ====
section
/-! DEFINITION. The state of the GV9400 as plain data: every device register, the internal state the chapters give
each block, the queue of waiting commands, and the machine right after reset. -/
namespace Sys2Proof.Machine

/-- Reasons to stop with a fault. No command of this model raises one: every error the manual describes is a response
code or a status bit, which is a next state. The constructor stands for a step the host's interface would need and is
raised by nothing (safe). -/
inductive Fault where
  /-- raised by no command (safe) -/
  | none
  deriving DecidableEq, Repr

/-- Reasons to refuse a command. -/
inductive Refusal where
  /-- the command has no meaning in this model yet; raised by the dispatch only (safe) -/
  | notModelled (mnemonic : String)
  deriving DecidableEq, Repr

/-- What was ordered, G = guest position populated (R2, R4), the speed grade 1-3 (R3) and the stepping (R5), and the
64-bit unique number of the part (R203). -/
structure Part where
  optionG : Bool
  grade : Nat
  stepB : Bool
  uid : Nat
  deriving DecidableEq, Repr


/-- The fields of a flit (R146). `cls` 0 Bell, 1 Prompt, 2 Bulk, 3 Scavenge. -/
structure Flit where
  addr : Nat := 0
  mid : Nat := 0
  sid : Nat := 0
  cls : Nat := 0
  rsp : Bool := false
  op : Nat := 0
  tag : Nat := 0
  dst : Nat := 0
  src : Nat := 0
  len : Nat := 0
  idx : Nat := 0
  last : Bool := true
  code : Nat := 0
  data : Nat := 0
  deriving DecidableEq, Repr


/-! ### Fabric (chapters "Logic cells, clusters and blocks" and "Fields, field clocks and stiles") -/

/-- Registers of a MAC block (R69, R70): input registers, product register with its pipelined controls, output
register P and the sticky OVF. Values are 27-, 64- and 54-bit patterns. -/
structure MacSt where
  a : Nat := 0
  b : Nat := 0
  c : Nat := 0
  load : Bool := false
  sub : Bool := false
  prod : Int := 0
  pload : Bool := false
  psub : Bool := false
  p : DWord := 0
  ovf : Bool := false
  deriving DecidableEq, Repr

/-- Field clock settings an accepted apply will load (R79, R80): multiplier, the four dividers, enables. -/
structure ClkSet where
  mult : Nat
  div : List Nat
  en : Nat
  deriving DecidableEq, Repr

/-- Run state of a field beside its registers: whether an image configures it (R100), its global set/reset (R55),
whether a site reset holds it (R100, R305), the enables in force (R78), the settings waiting for the restart (R80), and the entering signals
that were 1 at its last clock edge. -/
structure FieldRt where
  configured : Bool := false
  gsr : Bool := true
  siteHold : Bool := false
  ckEn : Nat := 0
  pend : Option ClkSet := none
  we : Bool := false
  io : Bool := false
  ext : List Nat := []
  deriving DecidableEq, Repr

/-- One stile channel, keyed by its sending field, edge and channel: credits at the sender, words in transit (oldest
first), the receiving buffer, and credits on their way back (R94-R96, R100). -/
structure StileCh where
  credits : Nat := 4
  transit : List DWord := []
  buf : List DWord := []
  ret : Nat := 0
  deriving DecidableEq, Repr

/-- The fabric: flip-flops by cell (field*262144 + cell, R477), MAC blocks (field*64 + index), field run state, the
designs configured, the flipped bits of their configuration words (R502, (field*17408 + frame)*8 + word), stile channels (by sending side, (field*4 + edge)*256 + channel), received stile levels (by sending
side, same key), whether a side last saw its peer down, and crossings lost with their Kelk-W groups (side field*4 + edge;
R100, R102). -/
structure FabSt where
  q : Tab Bool := []
  mac : Tab MacSt := []
  rt : Tab FieldRt := []
  design : Tab FieldDesign := []
  upset : Tab (BitVec 72) := []
  stile : Tab StileCh := []
  level : Tab Bool := []
  peerDown : Tab Bool := []
  lost : Tab Bool := []
  deriving DecidableEq, Repr

/-! ### Block memories and granaries -/

/-- The last write of a BM as a collision window sees it (R108): port, word, the 72 bits stored before it with their corrected data, bits
written, narrow or not. -/
structure BmLast where
  portB : Bool
  narrow : Bool
  word : Nat
  was : BitVec 72
  old : DWord
  mask : DWord
  deriving DecidableEq, Repr

/-- Port and queue state of a block memory: the latch in front of the output register and DOUT of each port with their
UE flags (R107, R110), the narrow write of the previous cycle (R129), the last write (R108), the queue's pointers and the
two sides' counts with pushes and pops under way (R113, R114), QRST and its hold cycles (R115). -/
structure BmSt where
  latchA : DWord := 0
  latchB : DWord := 0
  ueLA : Bool := false
  ueLB : Bool := false
  doutA : DWord := 0
  doutB : DWord := 0
  ueA : Bool := false
  ueB : Bool := false
  narrowA : Bool := false
  narrowB : Bool := false
  last : Option BmLast := none
  head : Nat := 0
  count : Nat := 0
  wcount : Nat := 0
  rcount : Nat := 0
  qrst : Bool := false
  holdA : Nat := 0
  holdB : Nat := 0
  deriving DecidableEq, Repr

/-- A request at a granary port: write, first quarter, number of quarters, tag, beats (data, byte enables), and, on the
ring port, the request flit (R118, R122); `disc` marks a read whose beats are discarded (R123). -/
structure GrReq where
  wr : Bool
  qaddr : Nat
  n : Nat
  tag : Nat
  beats : List (BitVec 128 × BitVec 16)
  flit : Flit := {}
  disc : Bool := false
  deriving DecidableEq, Repr

/-- A beat waiting on GR (R122). -/
structure GrBeat where
  d : BitVec 128
  tag : Nat
  last : Bool
  ue : Bool
  deriving DecidableEq, Repr

/-- A granary's arbitration state: requests of the ring port (index 0), of the four field ports (1-4) and of debug (5, R137), the beats
waiting on each field port, reads outstanding, each bank's round-robin position (R119, R122), and the cycles for which each bank has kept a
debug access waiting (R137). -/
structure GrSt where
  q : List (List GrReq) := [[], [], [], [], [], []]
  beats : List (List GrBeat) := [[], [], [], []]
  reads : List Nat := [0, 0, 0, 0]
  rr : List Nat := [0, 0, 0, 0]
  busy : List Nat := [0, 0, 0, 0]
  patrol : Nat := 0
  deriving DecidableEq, Repr

/-- Block memories: stored 72-bit words (global BM index * 1024 + word) and spares (index * 4 + entry), port state, each
field's patrol position; granaries: stored 137-bit quarters (g * 131072 + QADDR) and spare quarters ((g*16 + e)*4 + quarter),
arbitration state (R104, R117, R125, R126, R133). -/
structure MemSt where
  bm : Tab (BitVec 72) := []
  bmSpare : Tab (BitVec 72) := []
  bmSt : Tab BmSt := []
  patrol : Tab Nat := []
  gr : Tab (BitVec 137) := []
  grSpare : Tab (BitVec 137) := []
  grSt : Tab GrSt := []
  deriving DecidableEq, Repr

/-! ### Rings -/

/-- A flit on its way, or waiting at an output for a slot: the stop at which it was last placed on a ring, the spine lane it uses, the ring
direction or spine lane of its output (1-20, 0 a Kelk-S bundle; R140, R143), whether its slot is a reserved one (R153), the ring direction or
lane by which it came to that stop with the time in ns (R159), and its 656 bits, sideband in [143:0] and data above. -/
structure Flight where
  cur : Nat
  lane : Nat
  link : Nat := 0
  resv : Bool := false
  port : Nat := 0
  since : Nat := 0
  raw : BitVec 656
  deriving DecidableEq, Repr

/-- A request a stop has outstanding (R149): requester, tag, operation, class, address, length, time issued in ns and
response flits received. -/
structure Pend where
  mid : Nat
  sid : Nat
  tag : Nat
  op : Nat
  cls : Nat
  addr : Nat
  len : Nat
  time : Nat
  got : List Nat
  deriving DecidableEq, Repr

/-- State of a stop: requests outstanding, credits in use by (receiver * 4 + class), the input queues of its virtual channels in one list in the
order of arrival, the Bell injection queue with the time from which the next admission is allowed and a Bell WRITE awaiting its WDONE, the Bell
queues as (ring direction or lane, flit), a hold raised, and requests that a reset of the stop cleared, whose responses must not reach their
requesters (R149-R157, R166). -/
structure StopSt where
  out : List Pend := []
  used : List (Nat × Nat) := []
  inq : List Flit := []
  bellInj : List Flit := []
  bellFrom : Nat := 0
  bellWait : Bool := false
  bellQ : List (Nat × Flit) := []
  hold : Bool := false
  stale : List Pend := []
  deriving DecidableEq, Repr

/-- An output of a stop onto a ring direction or spine lane: ordinary slots filled with Prompt since the last given to Bulk while Bulk waits
(R153); at a junction the queue served, a site's or 64 for management, and what is left of its deficit (R155). -/
structure RingOut where
  prompt : Nat := 0
  turn : Nat := 0
  left : Nat := 0
  deriving DecidableEq, Repr

/-- Rings: stops by stop number (R146), flits in slots (oldest first), flits waiting at an output for a slot (oldest first; R153, R155), outputs by
stop * 32 + ring direction or lane, probe trace entries (probe * 1024 + entry, probe = junction * 4 + i with JF0-JF3, JT0-JT3, JG in order;
R169). -/
structure RingSt where
  stop : Tab StopSt := []
  flight : List Flight := []
  wait : List Flight := []
  out : Tab RingOut := []
  trace : Tab (BitVec 256) := []
  deriving DecidableEq, Repr

/-! ### Lanes and links (chapters 7 and 8) -/

/-- PRBS checker (R189): the last bits compared (bit 0 newest), bits seen since seeding, the error-free run, and the
positions of the errors among the last 1,024 bits. -/
structure PrbsSt where
  sr : Nat := 0
  seen : Nat := 0
  run : Nat := 0
  errs : List Nat := []
  deriving DecidableEq, Repr

/-- A received symbol in the elastic buffer: its ten bits, and as decoded: data [7:0], K flag [8], error flag [9] (R177, R187). -/
structure EbSym where
  sym : BitVec 10
  view : BitVec 10
  deriving DecidableEq, Repr

/-- The elastic buffer of a lane (R177): its symbols, oldest first; whether it has filled to the middle since it started or ran empty; the last
symbol read; whether a pair of the K28.6 run now arriving has been deleted or repeated. -/
structure ElastBuf where
  q : List EbSym := []
  run : Bool := false
  last : Option EbSym := none
  skp : Bool := false
  deriving DecidableEq, Repr

/-- Run state of a lane beside its registers: an alignment window open or waiting for a slip (R182), the receiver's and
the transmitter's running disparity (true positive; R175), the PRBS checker, the elastic buffer (R177), and the symbols read from it toward the
next raw-lane word (R187). -/
structure LaneRt where
  winOpen : Bool := false
  winWait : Bool := false
  rdRx : Option Bool := none
  rdTx : Bool := false
  prbs : PrbsSt := {}
  eb : ElastBuf := {}
  word : List EbSym := []
  deriving DecidableEq, Repr

/-- A normal frame without its CRC (R205). -/
structure LFrame where
  ty : Nat
  apply : Option Nat
  seq : Nat
  tspec : Nat
  payload : List Byte
  deriving DecidableEq, Repr

/-- A delivered frame the link still holds: `cred` while its credit of the present HELLO_WAIT period is still to be
returned. -/
structure HeldFrame where
  f : LFrame
  cred : Bool
  deriving DecidableEq, Repr

/-- Injector state (R225): candidates since EN rose and the LFSR. -/
structure FiSt where
  cnt : Nat := 0
  lfsr : Word := 0
  deriving DecidableEq, Repr

/-- A FAIL entry on its way to the records (R234, R237): its 128 bits, the TTC of the frame's EOF, whether it is the last of
its frame and returns the frame's credit. -/
structure FEntry where
  raw : Nat
  time : Nat
  last : Bool
  cred : Bool
  deriving DecidableEq, Repr

/-- A link's part in its group's step (R257, R258): last report uniform with a value, channels covered, and the channels
reported (bit set). -/
structure LinkTally where
  uni : Option Bool := none
  cover : Nat := 0
  rep : Nat := 0
  deriving DecidableEq, Repr

/-- A frame being formed from the ring path (R253): descriptor word, APPLY, payload so far. -/
structure TxForm where
  desc : Nat
  apply : Option Nat
  got : List Byte
  deriving DecidableEq, Repr

/-- A packet on its way over a direct link port: RX_KIND, the beats its field has not consumed, of which at most 8 are in flight, and whether
its DATA credit goes back with the last (R250-R252). -/
structure DlpPkt where
  kind : Nat
  beats : List DWord
  cred : Bool
  deriving DecidableEq, Repr

/-- Link-layer state beside the registers (R200-R230): receive sequence and NAKED; transmit sequence, replay buffer (oldest
first), consecutive replays, the last NAK acted on with its time; frames waiting to start; credits sent and limits received,
frames received and limits granted, by type DATA, FAIL, CTRL; Bell state; held frames; the injectors with their held
frames; the acceptable HELLOs waiting for their grant, the HELLO that made the grant; times of entry into RESYNC; the TIME
exchange; the CTRL request; the end of the frame on the lane in ns; FAIL entries and MATCH reports waiting for the FCU,
queued entries for fabric and Mill, released DATA frames, tally results for the port; the step's coverage; frames being formed
from the port and the ring; and the ring fetches. -/
structure LinkSt where
  rxNext : Nat := 0
  naked : Bool := false
  txNext : Nat := 0
  replay : List LFrame := []
  runs : Nat := 0
  nak : Option (Nat × Nat) := none
  waitq : List LFrame := []
  sentD : Nat := 0
  sentC : Nat := 0
  limD : Nat := 0
  limC : Nat := 0
  rcD : Nat := 0
  rcF : Nat := 0
  rcC : Nat := 0
  rlD : Nat := 0
  rlF : Nat := 0
  rlC : Nat := 0
  bellLast : Option Nat := none
  bellBad : Bool := false
  bseq : Nat := 0
  bellq : List (List Byte) := []
  hold : List HeldFrame := []
  fiTx : FiSt := {}
  fiRx : FiSt := {}
  heldTx : Option LFrame := none
  heldRx : Option RxFrame := none
  bellPick : Bool := false
  spoilF : Bool := false
  spoilB : Bool := false
  hello : List (Nat × Nat × Nat) := []
  grant : Option (Nat × Nat) := none
  granted : Nat := 0
  kept : Bool := false
  caps : Nat := 0
  resyncs : List Nat := []
  tseq : Nat := 0
  exch : Option Nat := none
  ctrl : Option (Nat × Bool × Nat) := none
  txUntil : Nat := 0
  failq : List FEntry := []
  mq : List (List Byte) := []
  fabq : List FEntry := []
  millq : List (Nat × Nat) := []
  rel : List HeldFrame := []
  tallyq : List Nat := []
  tl : LinkTally := {}
  dlpTx : List DWord := []
  dlpRx : Option DlpPkt := none
  owe : List (Nat × Bool) := []
  form : Option TxForm := none
  reads : Nat := 0
  txTag : Nat := 0
  pollFrom : Nat := 0
  deriving DecidableEq, Repr

/-- Lanes, quads and links by number. -/
structure LlpSt where
  lane : Tab LaneRt := []
  link : Tab LinkSt := []
  deriving DecidableEq, Repr

/-- How an injected symbol is altered (R225): data symbol position, and kind 0-2. -/
structure TxAlt where
  pos : Nat
  kind : Nat
  deriving DecidableEq, Repr

/-- What a lane transmits. A lane sends K28.5 between the items of a link layer (R193). -/
inductive LaneItem where
  /-- electrical idle, from here on (R178) -/
  | idle
  /-- continuous K28.5, from here on, or one between two RST sets (R178, R199) -/
  | com
  /-- the PRBS pattern of a polynomial, from here on (R189) -/
  | prbs (poly : Nat) (inv : Bool)
  /-- a normal frame, SOF to EOF: its data symbols and an alteration -/
  | frame (bytes : List Byte) (alt : Option TxAlt)
  /-- one copy of a Bell frame -/
  | bell (bytes : List Byte) (alt : Option TxAlt)
  /-- the LINK ordered set with bytes L0-L5 -/
  | linkSet (bytes : List Byte)
  /-- the TIME ordered set with bytes M0-M11 -/
  | timeSet (bytes : List Byte)
  /-- the SKP ordered set -/
  | skp
  /-- ABORT, ending the frame in progress -/
  | abort
  /-- eight 10-bit symbols in raw-lane mode, symbol 0 in bits [9:0] -/
  | raw (w : BitVec 80)
  deriving DecidableEq, Repr

/-! ### Fail capture units and the tally tree (chapter 9) -/

/-- An entry in an FCU's log queue (R244): local link, the entry, when it entered. -/
structure LogEnt where
  link : Nat
  raw : Nat
  time : Nat
  deriving DecidableEq, Repr

/-- A log write issued and not yet answered (R244): local link, entries, and whether its return still moves LR_LOG_WPTR. -/
structure LogFly where
  link : Nat
  n : Nat
  live : Bool
  deriving DecidableEq, Repr

/-- An FCU beside its registers: log queue and writes issued, a clear in progress (first, last, next granule, start in ns;
R241), the window latches by requester slot (R240), and its last update of both cells of a record: the record, cell 1 as it was, and when (R239). -/
structure FcuSt where
  logq : List LogEnt := []
  fly : List LogFly := []
  clr : Option (Nat × Nat × Nat × Nat) := none
  latch : Tab (List Word) := []
  two : Option (Nat × Nat × Nat) := none
  deriving DecidableEq, Repr

/-- A tally result on its way (R259-R261): STEP, ALL, ANY, COUNT, LINK_DROP, TIMEOUT, the links it is sent on, the link
whose port or T die it is delivered to the fabric by, and the time of the last contributing update. -/
structure TallyRes where
  step : Nat
  all : Bool
  any : Bool
  cnt : Nat
  drop : Bool
  tmo : Bool
  links : List Nat
  port : Option Nat
  die : Option Nat
  upd : Nat
  deriving DecidableEq, Repr

/-- A tally group beside its registers (R258, R259): current step, OPEN, LINK_DROP so far, time of the last contributing
update, results waiting for their broadcast. -/
structure TallySt where
  cur : Nat := 0
  isOpen : Bool := false
  drop : Bool := false
  upd : Nat := 0
  res : List TallyRes := []
  deriving DecidableEq, Repr

/-- Fail capture: channel records by 32768 * FCU + record, as cell 0 and cell 1 (R236), and the match array, same key
(R257). -/
structure CapSt where
  recs : Tab (DWord × DWord) := []
  mat : Tab Bool := []
  fcu : Tab FcuSt := []
  tally : Tab TallySt := []
  deriving DecidableEq, Repr

/-! ### Mill engines (chapter 10) -/

/-- A spare group of a job descriptor (R273); `col` for KIND COL. -/
structure MillGroup where
  col : Bool := false
  count : Nat := 0
  weight : Nat := 0
  rlo : Nat := 0
  rhi : Nat := 0
  clo : Nat := 0
  chi : Nat := 0
  deriving DecidableEq, Repr

/-- A job descriptor (R272). -/
structure MillDesc where
  rowMask : Nat := 0
  colMask : Nat := 0
  regMask : Nat := 0
  linkBase : Nat := 0
  links : Nat := 0
  dpl : Nat := 0
  cpd : Nat := 0
  ios : Nat := 0
  budget : Nat := 0
  firstFit : Bool := false
  allRegions : Bool := false
  base : Nat := 0
  size : Nat := 0
  groups : List MillGroup := []
  deriving DecidableEq, Repr

/-- A stored cell: region, row, column key (R275, R277). -/
structure MillCell where
  reg : Nat
  row : Nat
  col : Nat
  deriving DecidableEq, Repr

/-- An engine beside its registers (R268-R287): the job's source (true memory) and descriptor; the intake queue with the
forwarding FCU of each entry (R245), whether intake is closed; the cells stored, newest first; the last cell taken from each
link; regions marked OVF; entries read from the source; the next region; the record formed and not yet written (region,
bytes); bytes gathered for the next line and lines written; and the terminator written. -/
structure MillSt where
  src : Bool := false
  desc : MillDesc := {}
  intake : List (Nat × Nat) := []
  closed : Bool := false
  cells : List MillCell := []
  last : List (Nat × MillCell) := []
  ovf : List Nat := []
  srcNext : Nat := 0
  next : Nat := 0
  pend : Option (List Byte) := none
  buf : List Byte := []
  lines : Nat := 0
  fin : Bool := false
  deriving DecidableEq, Repr

/-- Mill engines by number. -/
structure MillAll where
  eng : Tab MillSt := []
  deriving DecidableEq, Repr

/-! ### Sites -/

/-- Run state of a site beside its registers: the class enables and routes at the start of a reset in progress, and the vectors sent, which
count what would have been issued (R303); the reset sequencer: 0 idle, 5 draining, 6 reloading or holding (steps of R303); and whether it
reloads. -/
structure SiteRt where
  shadowEn : Nat := 0
  shadowRoute : List Nat := []
  shadowSent : Nat := 0
  step : Nat := 0
  reload : Bool := false
  deriving DecidableEq, Repr

/-- An access to a hub register that waits for an earlier grant of its requester to take effect (R33): region offset and bytes of a write or length
of a read, with the hardware updates of its cycle, or the flit that brought it to HRG. -/
inductive HubAcc where
  | write (a : Nat) (data : List Byte) (hw : List (Nat × HwUpd))
  | read (a n : Nat) (hw : List (Nat × HwUpd))
  | flit (n o : Nat) (f : Flit)
  deriving DecidableEq, Repr

/-- A grant of a field or a granary whose zero-fill is under way (R293): number, site, the requester
to be answered (none where a later part of the same access answers), and its later accesses to the hub, in order (R33). -/
structure OwnFill where
  gran : Bool
  idx : Nat
  site : Nat
  req : Option Req
  later : List HubAcc := []
  deriving DecidableEq, Repr

/-! ### DRAM controllers and memory encryption (chapters 12 and 13) -/

/-- A stored DRAM line: 64 bytes, and whether it carries the poison code of R331. -/
structure DLine where
  data : BitVec 512 := 0
  poison : Bool := false
  deriving DecidableEq, Repr

/-- Activations of a bank in its window (R327): all, and by MID. -/
structure BankAct where
  n : Nat := 0
  mids : List (Nat × Nat) := []
  deriving DecidableEq, Repr

/-- A throttle in force (R327): bank (rank * 64 + subchannel * 32 + bank), MID, its end and the MID's last activation there,
in ns. -/
structure Throttle where
  bank : Nat
  mid : Nat
  till : Nat
  last : Nat
  deriving DecidableEq, Repr

/-- A line of the counter cache (R351): content and whether it is dirty. -/
structure CLine where
  data : BitVec 512 := 0
  dirty : Bool := false
  deriving DecidableEq, Repr

/-- A controller beside its registers: speed bin of the installed devices in MT/s (0 none read, R315); write queues by
subchannel, oldest first, as (line, content) (R323); bank activations and throttles (R327); last refresh of each rank and
consecutive cool polls (R326); times of C/A parity errors by rank (R338); next patrol line (R332); times of the last drift
tracking and impedance calibration (R335); the target of a change in progress (R337); a migration's source rank and next
line (R339); the counter cache by (slot * 16 + area) * 2^32 + line, area 0 MACs and k + 1 level k (R351); and the tree roots
by slot (R346). -/
structure DdrSt where
  bin : Nat := 0
  q0 : List (Nat × DLine) := []
  q1 : List (Nat × DLine) := []
  act : Tab BankAct := []
  thr : List Throttle := []
  ref : Tab Nat := []
  cool : Tab Nat := []
  capar : Tab (List Nat) := []
  patrol : Nat := 0
  dqs : Nat := 0
  zq : Nat := 0
  target : Option Nat := none
  mig : Option (Nat × Nat) := none
  cache : Tab (Option CLine) := []
  root : Tab (List Nat) := []
  deriving DecidableEq, Repr

/-- The secrets of a key slot (R342). -/
structure EncKeys where
  enc : BitVec 256 := 0
  mac : BitVec 256 := 0
  h : DWord := 0
  deriving DecidableEq, Repr

/-- DRAM: controllers; stored lines by channel * 2^32 + line of the channel (R316); filled blocks by channel * 2^22 + block
(R320, unlisted: UNFILLED); key slots' secrets; and enables
waiting for the DRNG (R342), slot and value written. -/
structure DramSt where
  ctl : Tab DdrSt := []
  lines : Tab DLine := []
  filled : Tab Bool := []
  keys : Tab EncKeys := []
  wait : List (Nat × Nat) := []
  deriving DecidableEq, Repr

/-! ### Host port -/

/-- PCIe configuration state the port acts on (R371-R374): link up, VF Enable, NumVFs, MSI-X enables by function, the
unmasked entries (fn*256 + vector), the pending-bit array, same key, and the address and data words of the MSI-X tables
(fn*1024 + 4*vector + word; R364); the subsystem IDs loaded from flash, vendor in bits [15:0] (R363). -/
structure PcieSt where
  linkUp : Bool := false
  vfEn : Bool := false
  numVfs : Nat := 0
  msixEn : Tab Bool := []
  msixUnmask : Tab Bool := []
  msixPend : Tab Bool := []
  msixTab : Tab Word := []
  subsys : Word := 0
  deriving DecidableEq, Repr

/-- What a function's configuration space identifies it by (R363): vendor, device, class code, revision, subsystem IDs, and on PF0 the supported page
sizes in bytes. -/
structure FnIdent where
  vendor : BitVec 16
  device : BitVec 16
  cls : BitVec 24
  rev : BitVec 8
  subsys : Word
  pages : List Nat
  deriving DecidableEq, Repr

/-- A descriptor a DMA channel has fetched (R376-R379): slot, host and device addresses, length, flags (bit 0 device to host, bit 1
IRQ, bit 2 FENCE), class, offset from which pieces are still to be issued, pieces outstanding as (offset, length), and the lowest
failing piece as (offset, code, host error). -/
structure DmaDesc where
  slot : Nat
  host : Nat
  dev : Nat
  len : Nat
  flags : Nat
  cls : Nat
  next : Nat := 0
  out : List (Nat × Nat) := []
  fail : Option (Nat × Nat × Bool) := none
  deriving DecidableEq, Repr

/-- Queues of a mailbox channel toward its endpoints, oldest first (R386). -/
structure MbxQ where
  toA : List Word := []
  toB : List Word := []
  deriving DecidableEq, Repr

/-- DMA channels' descriptors in ring order; mailbox queues; the model's ns of the last write of SEQ (R389). -/
structure HostSt where
  dma : Tab (List DmaDesc) := []
  mbx : Tab MbxQ := []
  hbAt : Nat := 0
  deriving DecidableEq, Repr

/-! ### Commons commands (chapter 15) and the repair ledger -/

/-- Whose rights a request takes (R395): PF0, a site, the guest. -/
inductive Sender where
  | p | s (n : Nat) | g
  deriving DecidableEq, Repr

/-- A request in the journal (R400): who sent it, its header, the words popped, whether it is complete and checked, its place in the order of
pops, how far it has gone (0: no effect yet, so not ACTED), what it keeps meanwhile, and a response that waits for space. -/
structure CmdReq where
  snd : Sender
  hdr : Word
  args : List Word := []
  whole : Bool := false
  seq : Nat := 0
  phase : Nat := 0
  mem : List Nat := []
  resp : Option (List Word) := none
  deriving DecidableEq, Repr

/-- Commons: the journalled request of each channel (R400), the number of the next pop, and the Bell DEST set for each site (R402). -/
structure CommonsSt where
  req : Tab (Option CmdReq) := []
  next : Nat := 0
  dest : Tab Nat := []
  deriving DecidableEq, Repr

/-- An entry of the repair ledger in configuration flash (R135, R405): kind 0 BM word, 1 granary line, 2 DRAM rank; made in operation rather
than at assembly test; its location word. -/
structure LedgerEnt where
  kind : Nat
  runtime : Bool
  loc : Nat
  deriving DecidableEq, Repr

/-! ### Management cores (chapter 16) -/

/-- A Commons core beside its registers (R415-R421): k0-k7 and k8-k15 by number, the sixteen registers of each window by 16 * window + i, ring
windows live, oldest first, frames on the memory stack, newest first; program counter, status, interrupts masked; the trap registers (pc, status,
WP, mask) and the type of the trap in progress; and the model's ns of the last kick. -/
structure CoreSt where
  k : Tab DWord := []
  win : Tab DWord := []
  live : List Nat := []
  stack : List (List DWord) := []
  pc : DWord := 0
  st : DWord := 0
  mask : Bool := false
  tpc : DWord := 0
  tst : DWord := 0
  twp : Nat := 0
  tmask : Bool := false
  typ : Nat := 0
  kick : Nat := 0
  deriving DecidableEq, Repr

/-- A Commons image slot as the Reeve last verified it (R426): valid, SEQ, SVN, version. -/
structure SlotSt where
  valid : Bool := false
  seq : Nat := 0
  svn : Nat := 0
  ver : Nat := 0
  deriving DecidableEq, Repr

/-- The management cores: C0-C3, slots A and B, times of the restarts of the running image (R425), patch RAM (R428), and the stored patch
record's LEVEL in flash (R429). -/
structure CoresSt where
  core : Tab CoreSt := []
  slotA : SlotSt := {}
  slotB : SlotSt := {}
  times : List Nat := []
  pram : Tab (BitVec 256) := []
  deriving DecidableEq, Repr

/-! ### Security and the backup domain (chapter 17) -/

/-- A life-cycle change in progress (R433, R437): the state it leads to, the mailbox channel of its command, and the model's ns at which
blowing began. -/
structure LcChange where
  dst : Nat
  chan : Nat
  since : Nat
  deriving DecidableEq, Repr

/-- What an operation of the public-key engine is for (R434, R464, R467, R468), with what its requester supplied. -/
inductive PkeWhy where
  /-- verification of a life-cycle authorisation -/
  | lifecycle (dst chan : Nat) (prov : LcProv)
  /-- ECDH of RESPOND; the tag matches -/
  | respond (tagOk : Bool) (level : Nat)
  /-- verification, then ECDH, of a key-load record; its tag passes; the key -/
  | bbkey (verified tagOk : Bool) (key : BitVec 256)
  /-- verification of a recovery authorisation -/
  | recover (dst : Nat)
  deriving DecidableEq, Repr

/-- The entropy source past its noise (R444, R445): the last raw bit and the run it ends; the first bit of the proportion test's window, bits seen in
it and that bit's count; raw bits passed and not yet conditioned, the first lowest, and their number; conditioned bits not yet used, by 128, oldest
first. -/
structure Entropy where
  last : Option Bool := none
  run : Nat := 0
  ref : Bool := false
  seen : Nat := 0
  hits : Nat := 0
  raw : Nat := 0
  count : Nat := 0
  pool : List Nat := []
  deriving DecidableEq, Repr

/-- The DRBG's working state (R447): key and counter, big-endian bytes, and its reseed counter. -/
structure Drbg where
  key : List Nat := []
  v : List Nat := []
  calls : Nat := 0
  deriving DecidableEq, Repr

/-- Security beside its registers: the three fuse copies of the life cycle, 40 fuses each, group k at bits 8k to 8k + 7 (R436); key rows
provisioned and rows whose two copies both fail, as the bits of PRESENT, and rows' contents by that bit number (R440); the owner's flags
and the Commons minimum SVN; a change in progress; results of LIFECYCLE commands as (channel, STATUS, DETAIL); times in ns of DRNG
health-test failures (R446); the entropy source and the DRBG (R444, R447); operations in the PKE, the first one running (R442); the battery-backed key (R441); an RTC set waiting for the
crystal tick (R451). -/
structure SecSt where
  lc : List (BitVec 40) := [0, 0, 0]
  present : Nat := 0
  bad : Nat := 0
  rows : Tab Nat := []
  flags : Word := 0
  svnMin : Nat := 0
  change : Option LcChange := none
  ends : List (Nat × Nat × Nat) := []
  fails : List Nat := []
  ent : Entropy := {}
  drbg : Drbg := {}
  pke : List (Nat × PkeWhy) := []
  bbkey : Option (BitVec 256) := none
  rtcSet : Bool := false
  deriving DecidableEq, Repr

/-! ### Debug (chapter 18) -/

/-- Debug beside its registers: the readback shadow of fields, Q by field * 262144 + cell and P by field * 64 + MAC (R477); the TAP's
instruction register, the DBG_ACCESS access in progress as its 82 bits, the code and data of the last completed, OVERRUN (R459, R460); the
challenge in force (scalar and nonce as open values, R464); whether a CHALLENGE waits for the DRNG; whether authentication waits after a
failure (R466); channel events on their way as (channel, TTC), oldest first (R469, R470); fields asked to halt as (field, source, channel) and
edges left of fields that step (R472, R474); and the boundary register's hold of the pins (R579): 0 none, 1 EXTEST or CLAMP, 2 HIGHZ. -/
structure DbgSt where
  q : Tab Bool := []
  p : Tab DWord := []
  ir : Nat := 1
  acc : Option Nat := none
  code : Nat := 0
  data : Word := 0
  overrun : Bool := false
  chal : Option (Nat × Nat) := none
  chalWait : Bool := false
  wait : Bool := false
  xt : List (Nat × Nat) := []
  halt : List (Nat × Nat × Nat) := []
  step : Tab Nat := []
  pins : Nat := 0
  deriving DecidableEq, Repr

/-! ### Configuration engine (chapter 19) -/

/-- A group of fields that one load or reload writes and starts together (R493-R497): kind 0 boot image, 1 gang boot load, 2 CONF LOAD,
3 CONF RELOAD, 4 site reset, 5 scrubber, 6 warm start, 7 RUN of a held site; the site concerned; the mailbox channel of the command; pass 1 in
progress, 2 writing, 3 starting up, 4 written and held; the taken fields with their images; fields waiting for a writer, being
written and written; startup steps done and the TTC at which the wait for the next began. -/
structure CfgGroup where
  id : Nat
  kind : Nat
  site : Nat
  chan : Nat
  pass : Nat
  imgs : List (Nat × FieldImg) := []
  wait : List Nat := []
  busy : List Nat := []
  done : List Nat := []
  step : Nat := 0
  since : Nat := 0
  deriving DecidableEq, Repr

/-- An entry of the flash directory: TYPE, chip select, OFFSET, LENGTH (R484). -/
structure DirEntry where
  ty : Nat
  cs : Nat
  offset : Nat
  length : Nat
  deriving DecidableEq, Repr

/-- A valid copy of the flash directory (R484): SEQ; BUS, 4-byte addresses, MHZ, READ_OP and DUMMY, which the port uses from then on (R483); its 32
entries. -/
structure FlashDir where
  seq : Nat
  bus : Nat
  addr4 : Bool
  mhz : Nat
  readOp : Nat
  dummy : Nat
  entries : List DirEntry
  deriving DecidableEq, Repr

/-- Configuration engine beside its registers: groups in the order in which they reached it, the number of the next, the field
records (R494), ends of commands' loads as (channel, STATUS, DETAIL, fields), a flash command in progress (R506), and the GANG_MODE
and GANG_ID pins and the two open-drain outputs, true while released (R498, R499); and the flash directory in use (R485). -/
structure CfgSt where
  groups : List CfgGroup := []
  next : Nat := 1
  recs : Tab (Option FieldImg) := []
  ends : List (Nat × Nat × Nat × Nat) := []
  xspi : Option Word := none
  gang : Bool := false
  gangId : Nat := 0
  confDone : Bool := false
  confErrN : Bool := false
  dir : Option FlashDir := none
  deriving DecidableEq, Repr

/-! ### Start, power and sensors (chapter 20) -/

/-- A sensor converter (R527, R529, R530): its channel, settling samples and further samples left on this visit, length of the settling run,
gain of the last channel, and samples of its FIFO, oldest first. -/
structure ConvSt where
  chan : Nat := 255
  settle : Nat := 0
  dwell : Nat := 0
  run : Nat := 0
  gain : Nat := 0
  fifo : List Word := []
  deriving DecidableEq, Repr

/-- Start and power beside their registers: a start in progress, true from power-on (R509); the hub held in reset, the retention step
running, RESET_N low (R508); the kind and cause of the start that follows (R507); a rail out of range since the last start, a trip held
until RESET_N (R515, R523); the gang load done (R510); the DRAM channels of the previous start (R512); step 11 given to the configuration
engine; the boot settings held with the training cache (R531); ticks with power below 0.98 of the cap, and above it at S_CAP 32 (R521, R522);
S_CAP forced by temperature (R523); the power state being entered (R517); PWR_FAIL_N low (R525); a mode change in progress as (mode, channel of
its command, step) (R519); the converters; and SEQ of each sensor channel (R528). -/
structure StartSt where
  run : Bool := true
  hold : Bool := false
  ret : Bool := false
  pinLow : Bool := false
  warm : Bool := false
  cause : Nat := 0
  denied : Bool := false
  railBad : Bool := false
  trip : Bool := false
  gangDone : Bool := false
  chans : List Nat := []
  loading : Bool := false
  boot : Word := 1
  low : Nat := 0
  above : Nat := 0
  hot : Bool := false
  target : Option Nat := none
  pf : Bool := false
  mode : Option (Mode × Nat × Nat) := none
  lanes : Option Mode := none
  posture : Option Mode := none
  drams : Option Mode := none
  conv : Tab ConvSt := []
  seq : Tab Nat := []
  deriving DecidableEq, Repr

/-! ### Clocks (chapter 21) -/

/-- The clock root beside its registers: the fallback of R541 in force, the reference last in use (0 A, 1 B), each input's last two judging
counts, newest first (R535), the internal oscillator failed (R543), and the asynchronous safe state in force (R544). -/
structure ClkSt where
  fb : Bool := false
  ref : Nat := 0
  winA : List Nat := []
  winB : List Nat := []
  dead : Bool := false
  safe : Bool := false
  deriving DecidableEq, Repr

/-! ### Kelk interfaces and the guest port -/

/-- A Kelk bundle or group beside its register: the three fused copies of its record (R553; an empty list is a record
with no blown fuse), the failed list in force (R554), and the times in ns of its errors of the last millisecond (R556,
R557). -/
structure KelkBnd where
  copies : List (List (BitVec 16)) := []
  list : List Nat := []
  errs : List Nat := []
  deriving DecidableEq, Repr

/-- Kelk bundles and groups, and the dies lost with their last bundle (bit = die index, R558). -/
structure KelkSt where
  s : Tab KelkBnd := []
  w : Tab KelkBnd := []
  unreach : Nat := 0
  deriving DecidableEq, Repr

/-- The guest port beside its registers (R560, R561): guest flits of class and channel sent and the cumulative limits of the guest, by VC; flits
waiting for the guest, oldest first; requests sent to the guest and not answered. -/
structure GuestSt where
  sent : List Nat := [0, 0, 0, 0, 0, 0, 0, 0]
  limit : List Nat := [0, 0, 0, 0, 0, 0, 0, 0]
  toGuest : List Flit := []
  gone : List Flit := []
  deriving DecidableEq, Repr

/-! ### GPIO banks (chapter 23) -/

/-- A bank beside its registers: the I2C and SPI commands in progress, CS_N left low (R570, R571), the UART's transmit and receive FIFOs,
oldest first, the byte it is sending, and CTS_N high (R572). -/
structure BankSt where
  i2c : Option Word := none
  spi : Option Word := none
  csLow : Bool := false
  tx : List Byte := []
  rx : List Word := []
  sending : Option Byte := none
  ctsHigh : Bool := false
  deriving DecidableEq, Repr

/-! ### Parish register and fault concentrator -/

/-- A parish record (R581) with its sequence number (R586). Times are in ns since 2000-01-01. `last` is the last
occurrence merged (R584). -/
structure PRec where
  seq : Nat
  time : Nat
  last : Nat
  code : Nat
  source : Nat
  sev : Nat
  site : Nat
  rep : Nat
  data : Nat
  deriving DecidableEq, Repr

/-- A slot of the flash area (R582, R586). -/
inductive FlashSlot where
  | erased | torn | held (r : PRec)
  deriving DecidableEq, Repr

/-- A report on its way to the fault concentrator (R592): key, code, source, severity, data, sites (bit n = site n). -/
structure Report where
  key : Nat
  code : Nat
  source : Nat
  sev : Nat
  data : Nat
  sites : Nat
  deriving DecidableEq, Repr

/-- Times of an incident that its registers do not hold (R594, R596): calendar at the first report, time of the last. -/
structure IncRt where
  first : Nat := 0
  last : Nat := 0
  opened : Nat := 0
  deriving DecidableEq, Repr

/-- Parish register: staging (oldest first), hub ring by sequence mod 4,096, flash slots (block*2048 + slot), the next
sequence, whether an area exists and has been scanned (R585-R590); fault concentrator: reports waiting and incident
times (R592-R596). -/
structure ParishSt where
  staging : List PRec := []
  ring : Tab (Option PRec) := []
  flash : Tab FlashSlot := []
  next : Nat := 0
  any : Bool := false
  area : Bool := false
  scanned : Bool := false
  reports : List Report := []
  inc : Tab IncRt := []
  deriving DecidableEq, Repr

/-- What a block memory's port is presented with at an edge of its clock (R107, R109). -/
structure BmPins where
  addr : Nat
  din : Nat
  bwe : Nat
  we : Bool
  en : Bool
  regce : Bool
  rsto : Bool
  qrst : Bool
  deriving DecidableEq, Repr

/-- What the part emits: answers to requesters, messages to the host, signals into the fabric and onto pins. -/
inductive Output where
  /-- the response to a register or ring access, with its data words -/
  | rsp (r : Req) (code : Rsp) (data : List Word)
  /-- MSI-X message of entry `v` of function `fn` (0 PF0, n + 1 the VF of site n), R301, R373 -/
  | msix (fn v : Nat)
  /-- a stile word presented at the receiver's consumption, R94 -/
  | stileWord (f e c : Nat) (w : DWord)
  /-- a level stile's new level at the receiver, R98 -/
  | stileLevel (f e l : Nat) (v : Bool)
  /-- DOUT of a block memory port with its UE flag, R107, R110 -/
  | bmDout (f b : Nat) (portB : Bool) (d : DWord) (ue : Bool)
  /-- what the fabric presents to a block memory's port at an edge of its clock (R109) -/
  | bmPins (f b : Nat) (portB : Bool) (p : BmPins)
  /-- what the fabric presents to the sending and to the receiving side of a stile channel at an edge of that side's clock (R93): TX_VALID and
  TX_DATA; RX_READY -/
  | stileTx (f e c : Nat) (valid : Bool) (d : Nat)
  | stileRx (f e c : Nat) (ready : Bool)
  /-- the level a field gives to a level stile (R98) -/
  | levelTx (f e l : Nat) (v : Bool)
  /-- a beat on GR, R122: data, tag, last, UE -/
  | grBeat (f : Nat) (d : BitVec 128) (tag : Nat) (last ue : Bool)
  /-- a request completes at its requester: stop, MID, tag, response code and data lines (R34, R149) -/
  | ringDone (stop mid tag code : Nat) (data : List Nat)
  /-- a flit handed to the agent of its stop (R163, R167) -/
  | ringIn (stop : Nat) (f : Flit)
  /-- what a function that has come to exist answers of its identity in configuration space (R363) -/
  | pcieIdent (fn : Nat) (x : FnIdent)
  /-- what a lane transmits next, and the running disparity it is coded from (R175, R178, R187, R193) -/
  | laneTx (l : Nat) (i : LaneItem) (rd : Bool)
  /-- beats of a packet delivered on a direct link port of a link, with RX_KIND, and RX_LAST of the last of them (R251, R255) -/
  | dlpRx (f port kind : Nat) (beats : List DWord) (last : Bool)
  /-- a DRAM controller's answer to a request: channel, requester, address, code and lines (R324, R330) -/
  | dramDone (c : Nat) (r : Req) (addr : Nat) (code : Rsp) (data : List Nat)
  /-- a DMA channel's write to host memory: address, bytes, data (R378) -/
  | hostWrite (ch addr n : Nat) (data : List Nat)
  /-- a host read's completion: function, code, data (R368) -/
  | hostCpl (fn : Nat) (code : Rsp) (data : List Nat)
  /-- a doorbell sent out of the mailbox system: endpoint, address of a fabric port's write (0 for the guest), unmasked doorbell word and
  channel (R387) -/
  | mbxBell (e addr : Nat) (word : Word) (c : Nat)
  /-- bytes Commons writes to a buffer, with SID 0x7F (R396) -/
  | bufWrite (addr : Nat) (data : List Byte)
  /-- what Capture-DR of DBG_ACCESS loads (R460) -/
  | dbgCapture (v : BitVec 82)
  /-- a pulse on trigger tap input `t` of a field (R469) -/
  | tapIn (f t : Nat)
  /-- a pulse on pin `p` of a GPIO bank (R568, R573) -/
  | pinPulse (b p : Nat)
  /-- a command sent on the xSPI port: command word, address and data out (R506) -/
  | xspi (cmd addr : Word) (data : List Word)
  /-- the non-maskable interrupt of the Reeve (R541, R543) -/
  | reeveNmi
  /-- a guest flit sent to the guest: KIND and, of a FLIT, its 656 bits (R560) -/
  | guestTx (kind : Nat) (raw : BitVec 656)
  /-- an I2C transaction started in a bank: the command word and the bytes to write (R570) -/
  | i2c (b : Nat) (cmd : Word) (data : List Byte)
  /-- an SPI transaction started in a bank: the bytes shifted out on MOSI (R571) -/
  | spi (b : Nat) (data : List Byte)
  /-- a byte the UART of a bank begins to send (R572) -/
  | uartTx (b : Nat) (d : Byte)
  deriving DecidableEq, Repr

/-- The state of the GV9400. -/
structure State where
  /-- the commands that are waiting, first in, first out -/
  pending : List Instr
  /-- what was ordered (R2-R5); no command changes it -/
  part : Part
  /-- operating mode in force (R25) -/
  mode : Mode
  /-- the model's own count of ns, the test time counter (R547), the calendar of R451 and the RTC, in ns -/
  now : Nat
  ttc : Nat
  cal : Nat
  rtc : Nat
  /-- index of the next free value (the model's own; see Config.freeNat) -/
  free : Nat
  /-- what the part has emitted, newest first (the model's own record) -/
  outs : List Output
  /-- device registers by key (R31, RegMap) -/
  regs : Tab Word
  /-- pair latches, by _LO key * 8192 + slot (R40) -/
  latch : Tab Word
  /-- staged low halves of counter pairs, same key (R42) -/
  staged : Tab (Option Word)
  /-- dies not started, by die index of R31 (bit i), R13 -/
  diesDown : Nat
  /-- fabric and stiles (chapters 3 and 4) -/
  fab : FabSt
  /-- block memories and granaries (chapter 5) -/
  mem : MemSt
  /-- site reset sequencers (chapter 11) -/
  site : (Tab SiteRt)
  /-- PCIe configuration state (chapter 14) -/
  pcie : PcieSt
  /-- parish register and fault concentrator (chapter 24) -/
  par : ParishSt
  /-- Kelk interfaces (chapter 22) -/
  kelk : KelkSt
  /-- rings (chapter 6) -/
  ring : RingSt
  /-- lanes and links (chapters 7 and 8) -/
  llp : LlpSt
  /-- fail capture and tally (chapter 9) -/
  cap : CapSt
  /-- clock root (chapter 21) -/
  clk : ClkSt
  /-- Mill engines (chapter 10) -/
  mill : MillAll
  /-- DRAM controllers and memory encryption (chapters 12 and 13) -/
  dram : DramSt
  /-- DMA channels and mailboxes (chapter 14) -/
  host : HostSt
  /-- configuration engine (chapter 19) -/
  cfg : CfgSt
  /-- security and backup domain (chapter 17) -/
  sec : SecSt
  /-- debug (chapter 18) -/
  dbg : DbgSt
  /-- grants whose zero-fill is under way (R293), oldest first -/
  fills : (List OwnFill)
  /-- GPIO banks (chapter 23) -/
  gpio : (Tab BankSt)
  /-- start, power and sensors (chapter 20) -/
  start : StartSt
  /-- management cores (chapter 16) -/
  cores : CoresSt
  /-- guest port (chapter 22) -/
  guest : GuestSt
  /-- Commons (chapter 15) -/
  com : CommonsSt
  /-- repair ledger in configuration flash (R135) -/
  ledger : (List LedgerEnt)
  deriving DecidableEq, Repr

/-- The machine right after reset: every register at its reset value (RegMap), nothing stored, nothing in flight. -/
def State.reset : State :=
  { pending := [], part := ⟨false, 1, false, 0⟩, mode := .market, now := 0, ttc := 0, cal := 0, rtc := 0, free := 0,
    outs := [], regs := [], latch := [], staged := [], diesDown := 0x1FE,
    fab := {},
    mem := {},
    site := {},
    pcie := {},
    par := {},
    kelk := {},
    ring := {},
    llp := {},
    cap := {},
    clk := {},
    mill := {},
    dram := {},
    host := {},
    cfg := {},
    sec := {},
    dbg := {},
    fills := {},
    gpio := {},
    start := {},
    cores := {},
    guest := {},
    com := {},
    ledger := {} }

end Sys2Proof.Machine
end

