-- ==== Sys2Proof/Machine/Ops.lean ====
section
/-! DEFINITION. The named operations over registers, sparse tables, free values and outputs, and the owners of resources. -/
namespace Sys2Proof.Machine

/-! ### Registers -/

/-- The word a register holds. -/
def State.rd (s : State) (a : Nat) : Word := tabGet regReset s.regs a

/-- A register given a new word. -/
def State.wr (s : State) (a : Nat) (w : Word) : State := { s with regs := tabPut regReset s.regs a w }

/-- Registers at the keys that satisfy a test lose what they hold: they read as after reset, and so do their pair latches and staged halves
(R40, R42). -/
def State.regsLost (s : State) (p : Nat → Bool) : State :=
  { s with regs := tabKeep s.regs (fun k => !p k), latch := tabKeep s.latch (fun k => !p (k / 8192)),
           staged := tabKeep s.staged (fun k => !p (k / 8192)) }

/-- A block's range of register keys. -/
def inBlk (b n k : Nat) : Bool := decide (b ≤ k) && decide (k < b + n)

/-- The value of a field of the register block at `b`. -/
def State.rf (s : State) (b : Nat) (f : Fld) : Nat := wordBits (s.rd (b + f.ofs)) f.hi f.lo

/-- A field given a new value. -/
def State.wf (s : State) (b : Nat) (f : Fld) (v : Nat) : State :=
  s.wr (b + f.ofs) (wordSet (s.rd (b + f.ofs)) f.hi f.lo v)

/-- A flag read as a truth value. -/
def State.flag (s : State) (b : Nat) (f : Fld) : Bool := s.rf b f != 0

/-- A flag set. -/
def State.setF (s : State) (b : Nat) (f : Fld) : State := s.wf b f 1

/-- A flag cleared. -/
def State.clrF (s : State) (b : Nat) (f : Fld) : State := s.wf b f 0

/-- A flag set when a condition holds. -/
def State.setIf (s : State) (c : Bool) (b : Nat) (f : Fld) : State := if c then s.setF b f else s

/-- A 32-bit counter register counting `n` events, saturating (R43, R47). -/
def State.cnt (s : State) (a : Nat) (n : Nat) : State :=
  s.wr a (BitVec.ofNat 32 (satAdd 0xFFFFFFFF (s.rd a).toNat n))

/-- A counter field counting `n` events, saturating at its width. -/
def State.cntF (s : State) (b : Nat) (f : Fld) (n : Nat) : State :=
  s.wf b f (satAdd (2 ^ (f.hi + 1 - f.lo) - 1) (s.rf b f) n)

/-- A 64-bit register pair. -/
def State.rd64 (s : State) (lo : Nat) : Nat := (s.rd lo).toNat + (s.rd (lo + 4)).toNat * 2 ^ 32

/-- A 64-bit register pair given a value. -/
def State.wr64 (s : State) (lo v : Nat) : State :=
  (s.wr lo (BitVec.ofNat 32 v)).wr (lo + 4) (BitVec.ofNat 32 (v / 2 ^ 32))

/-- A 64-bit counter pair counting. -/
def State.cnt64 (s : State) (lo n : Nat) : State := s.wr64 lo ((s.rd64 lo + n) % 2 ^ 64)

/-! ### Free values and outputs -/

/-- The next free value, and the state that has used it. -/
def State.fresh (s : State) : Nat × State := (Config.freeNat s.free, { s with free := s.free + 1 })

/-- Emit an output. -/
def State.emit (s : State) (o : Output) : State := { s with outs := o :: s.outs }

/-! ### Requesters (R32, R162) -/

/-- Master IDs of R162 by name. -/
def midReeve : Nat := 0
/-- Commons cores C0-C3. -/
def isCommons (r : Req) : Bool := decide (1 ≤ r.mid.toNat) && decide (r.mid.toNat ≤ 4)
/-- The Reeve. -/
def isReeve (r : Req) : Bool := r.mid.toNat == 0
/-- PF BAR accesses. -/
def isPf (r : Req) : Bool := r.mid.toNat == 0x20
/-- Debug bus master. -/
def isDbg (r : Req) : Bool := r.mid.toNat == 8
/-- Management SID (R11). -/
def isMgmt (r : Req) : Bool := r.sid.toNat == 0x7F

/-- Slot of the pair latches and staged halves a requester uses (R40, R42): one per requester kind, one for each other
MID. -/
def latchSlot (r : Req) : Nat :=
  let m := r.mid.toNat
  if m == 0x20 then 0
  else if 0x40 ≤ m ∧ m < 0x80 then 1
  else if 1 ≤ m ∧ m ≤ 4 then 2
  else if 0x100 ≤ m ∧ m < 0x180 then 3
  else if m == 8 then 4
  else 5 + m

/-- REGBUS instance of a SID (R46): sites 0-63, and management for every other code. -/
def regbusIdx (sid : Nat) : Nat := if sid < 64 then sid else 64

/-- A FAULT response is counted in the requester's REGBUS instance on the die addressed (R46). -/
def State.regbusFault (s : State) (die : Nat) (r : Req) : State :=
  let b := regbusBlk die (regbusIdx r.sid.toNat)
  (s.cnt (b + R.REGBUS_FAULT_CNT) 1).setF b R.REGBUS_STAT_FAULT_SEEN

/-- A dropped write is recorded in the writer's REGBUS instance (R46). -/
def State.regbusDrop (s : State) (a : Nat) (r : Req) : State :=
  let b := regbusBlk (a / 0x1000000) (regbusIdx r.sid.toNat)
  if s.flag b R.REGBUS_STAT_WRITE_DROPPED then s.setF b R.REGBUS_STAT_DROP_OVF
  else
    (((s.wf b R.REGBUS_DROP_ADDR_OFFSET (a % 0x1000000)).wf b R.REGBUS_DROP_SRC_SID r.sid.toNat).wf b
      R.REGBUS_DROP_SRC_MID r.mid.toNat).setF b R.REGBUS_STAT_WRITE_DROPPED

/-- Answer a register access to die region address `a`: the response, counted if it is FAULT (R34, R46). -/
def State.answer (s : State) (r : Req) (a : Nat) (code : Rsp) (data : List Word) : State :=
  let s := if code = .fault then s.regbusFault (a / 0x1000000) r else s
  s.emit (.rsp r code data)

/-! ### Owners (R163, R292, R293) -/

/-- Owner of a field. -/
def State.fieldOwner (s : State) (f : Nat) : Nat := s.rf (ownBlk + 4 * f) R.FLD_OWN_SITE
/-- Owner of a granary. -/
def State.granOwner (s : State) (g : Nat) : Nat := s.rf (ownBlk + 4 * g) R.GRAN_OWN_SITE
/-- Owner of a link and its lane. -/
def State.linkOwner (s : State) (l : Nat) : Nat := s.rf (linkBlk l) R.LINK_OWNER_SITE
/-- Owner of a Mill engine. -/
def State.millOwner (s : State) (e : Nat) : Nat := s.rf (millBlk e) R.MILL_OWNER_SITE
/-- Owner of a DRAM granule. -/
def State.dramOwner (s : State) (g : Nat) : Nat := s.rf (dramHub + 4 * g) R.DRAM_OWN_SITE
/-- Owner of a GPIO bank: that of its anchor field; hub banks belong to management. -/
def State.siteState (s : State) (n : Nat) : Nat := s.rf (siteBlk n) R.SITE_STAT_STATE
/-- A site number whose site is in reset (R303). -/
def State.siteInReset (s : State) (n : Nat) : Bool := decide (n < 64) && s.siteState n == 2
/-- A site that is LIVE. -/
def State.siteLive (s : State) (n : Nat) : Bool := decide (n < 64) && s.siteState n == 1

/-- Sites that satisfy a test, as a 64-bit set. -/
def siteSet (p : Nat → Bool) : Nat :=
  (List.range 64).foldl (fun a n => if p n then a + 2 ^ n else a) 0

/-- Every LIVE site (R592). -/
def State.liveSites (s : State) : Nat := siteSet s.siteLive

/-- The set of one site, empty for management. -/
def oneSite (n : Nat) : Nat := if n < 64 then 2 ^ n else 0

/-- Fabric clock cap of a mode in MHz, R25. -/
def modeFabCap : Mode → Nat
  | .harvest => 1000 | .market => 800 | .fallow => 500

/-- Cell flip-flop figure of a speed grade in MHz, R76. -/
def gradeFabCap (g : Nat) : Nat := if g = 1 then 800 else if g = 2 then 900 else 1000

/-- Highest field clock: the lower of the grade's figure and the mode's cap, R77. -/
def State.fabLimit (s : State) : Nat := min (gradeFabCap s.part.grade) (modeFabCap s.mode)

/-! ### Internal tables -/

/-- Run state of a field. -/
def State.frt (s : State) (f : Nat) : FieldRt := tabGet (fun _ => {}) s.fab.rt f
/-- Run state of a field replaced. -/
def State.setFrt (s : State) (f : Nat) (x : FieldRt) : State :=
  { s with fab := { s.fab with rt := tabPut (fun _ => {}) s.fab.rt f x } }
/-- Configuration words of a field: 17,408 frames of eight (R488, R502). -/
def cfgWords : Nat := 139264
/-- The design a field's configuration holds: as written, or what its flipped bits make of it (R502). -/
def State.designOf (s : State) (f : Nat) : FieldDesign :=
  let d := tabGet (fun _ => {}) s.fab.design f
  let l := s.fab.upset.filter (fun e => e.1 / cfgWords == f)
  if l.isEmpty then d else Config.upsetDesign d (l.map (fun e => (e.1 % cfgWords, e.2)))
/-- A design written into a field's frames, every bit afresh (R493, R502). -/
def State.putDesign (s : State) (f : Nat) (d : FieldDesign) : State :=
  { s with fab := { s.fab with design := tabPut (fun _ => {}) s.fab.design f d, upset := tabKeep s.fab.upset (fun k => k / cfgWords != f) } }
/-- Bits of a field's configuration words flip (R502). -/
def State.flipCfg (s : State) (f : Nat) (l : List (Nat × Nat)) : State :=
  { s with fab := { s.fab with upset := l.foldl (fun t e =>
      let k := f * cfgWords + e.1 % cfgWords
      tabPut (fun _ => 0) t k (tabGet (fun _ => 0) t k ^^^ BitVec.ofNat 72 (2 ^ (e.2 % 72)))) s.fab.upset } }
/-- Whether the die of an index is out of reach: a fabric or transceiver die that is not started (R13). -/
def State.dieDown (s : State) (d : Nat) : Bool := decide (1 ≤ d) && decide (d ≤ 8) && natBit s.diesDown d
/-- A field in reset for its stiles and ports (R100): global set/reset asserted, held by a site reset, not configured,
or on a die in reset. -/
def State.fieldInReset (s : State) (f : Nat) : Bool :=
  let x := s.frt f
  x.gsr || x.siteHold || !x.configured || s.dieDown (1 + f / 32)
/-- Power state of the part (R517): 0 ACTIVE, 1 IDLE, 2 DOZE, 3 HIBERNATE, 4 OFF. -/
def State.pwrState (s : State) : Nat := s.rf startBlk R.PWR_STATE_STATE
/-- A field whose clocks a debug halt has stopped (R472), or IDLE or DOZE, in which fields act as halted ones do (R517). -/
def State.fieldHalted (s : State) (f : Nat) : Bool :=
  s.flag (fieldPage f) R.FCK_STAT_HALTED || s.pwrState == 1 || s.pwrState == 2

/-- Entry of an association list. -/
def assocGet {α : Type} (d : α) (l : List (Nat × α)) (k : Nat) : α := ((l.find? (fun e => e.1 == k)).map (·.2)).getD d

end Sys2Proof.Machine
end

