-- ==== Sys2Proof/Machine/Irq.lean ====
section
/-! DEFINITION. Interrupts: the MSI-X messages of the functions (R373, R374) and the site interrupt controllers (R299-R301). -/
namespace Sys2Proof.Machine

/-- MSI-X Enable of a function, and its existence for a VF (R374). -/
def State.fnCanSend (s : State) (fn : Nat) : Bool :=
  tabGet (fun _ => false) s.pcie.msixEn fn && (fn == 0 || (s.pcie.vfEn && decide (fn ≤ s.pcie.numVfs)))

/-- Issue the message of an entry: sent, or pending while the entry is masked (R301). -/
def State.msixSend (s : State) (fn v : Nat) : State :=
  if tabGet (fun _ => false) s.pcie.msixUnmask (fn * 256 + v) then s.emit (.msix fn v)
  else { s with pcie := { s.pcie with msixPend := tabPut (fun _ => false) s.pcie.msixPend (fn * 256 + v) true } }

/-- Whether bit `v` of a vector status array at `a` (32 vectors a word) is set. -/
def State.vstat (s : State) (a v : Nat) : Bool := natBit (s.rd (a + 4 * (v / 32))).toNat (v % 32)

/-- Bit `v` of a vector status array replaced. -/
def State.setVstat (s : State) (a v : Nat) (x : Bool) : State :=
  let w := a + 4 * (v / 32)
  s.wr w (wordSet (s.rd w) (v % 32) (v % 32) (b2n x))

/-- The ARMED rule of R301 for one vector whose condition is 1: an armed vector issues its message and is disarmed.
A vector is armed while its status bit is 0. `a` is the address of the status array. -/
def State.armedIssue (s : State) (a fn v : Nat) : State :=
  if s.vstat a v then s
  else if s.fnCanSend fn then (s.setVstat a v true).msixSend fn v
  else s

/-- The vector a class is routed to (SIC_ROUTEx). -/
def State.sicRoute (s : State) (n cls : Nat) : Nat :=
  natBits (s.rd (siteBlk n + R.SIC_ROUTE + 4 * (cls / 4))).toNat (8 * (cls % 4) + 5) (8 * (cls % 4))

/-- Run state of a site. -/
def State.srt (s : State) (n : Nat) : SiteRt := tabGet (fun _ => {}) s.site n
/-- Run state of a site replaced. -/
def State.setSrt (s : State) (n : Nat) (x : SiteRt) : State := { s with site := tabPut (fun _ => {}) s.site n x }

/-- Class `cls` of site `n` has become or stays high: COND of its vector is 1 (R301). During a site reset the message it
would have issued is counted instead (R303). -/
def State.sicRaise (s : State) (n cls : Nat) : State :=
  if n ≥ 64 then s
  else if natBit (s.rf (siteBlk n) R.SIC_EN_EN) cls then s.armedIssue (siteBlk n + R.SIC_VSTAT_LO) (n + 1) (s.sicRoute n cls)
  else
    let x := s.srt n
    let v := x.shadowRoute.getD cls 0
    if s.siteInReset n && natBit x.shadowEn cls && !natBit x.shadowSent v then
      (s.setSrt n { x with shadowSent := x.shadowSent + 2 ^ v }).cnt (siteBlk n + R.SIC_DISCARD_CNT) 1
    else s

/-- A PF0 vector whose condition is 1 (R373). -/
def State.pf0Raise (s : State) (v : Nat) : State := s.armedIssue (fnBlk 0 + R.HOST_VSTAT) 0 v

/-- A bit of SITE_STAT set, into class SITE when SITE_IE enables it (R299). -/
def State.siteStat (s : State) (n : Nat) (f : Fld) : State :=
  if n ≥ 64 then s
  else
    let s := s.setF (siteBlk n) f
    if natBit (s.rd (siteBlk n + R.SITE_IE)).toNat f.lo then s.sicRaise n 7 else s

/-- `siteStat` for every site of a set. -/
def State.siteStatAll (s : State) (sites : Nat) (f : Fld) : State :=
  (List.range 64).foldl (fun s n => if natBit sites n then s.siteStat n f else s) s

/-- A status bit at `b` set, raising class `cls` of site `n` when the bit `ieBit` of the enable register at `b` + `ie`
is set (R299). -/
def State.evt (s : State) (n cls b : Nat) (f : Fld) (ie ieBit : Nat) : State :=
  let s := s.setF b f
  if natBit (s.rd (b + ie)).toNat ieBit then s.sicRaise n cls else s

end Sys2Proof.Machine
end

