-- ==== Sys2Proof/Machine/Stops.lean ====
section
/-! DEFINITION. Stops, routes and the firewall of the rings (R140-R146, R163), which register accesses meet as well as ring requests. -/
namespace Sys2Proof.Machine

/-! ### Stop numbers and routes (R141-R146) -/

/-- Stop number of a die, ring and position. -/
def stopNo (die ring pos : Nat) : Nat := die * 128 + ring * 64 + pos
/-- Die of a stop number: 0 H, 1-4 F0-F3, 5-8 T0-T3, 9 G. -/
def stopDie (n : Nat) : Nat := n / 128
/-- Ring of a stop number. -/
def stopRing (n : Nat) : Nat := n / 64 % 2
/-- Position of a stop number. -/
def stopPos (n : Nat) : Nat := n % 64

/-- Spine position of JFk. -/
def jfPos (k : Nat) : Nat := [0, 5, 13, 9].getD k 0
/-- Spine position of JTk. -/
def jtPos (k : Nat) : Nat := [15, 6, 14, 8].getD k 0
/-- Fabric die whose junction has a spine position. -/
def jfOf (p : Nat) : Option Nat := if p = 0 then some 0 else if p = 5 then some 1 else if p = 13 then some 2 else if p = 9 then some 3 else none
/-- Transceiver die whose junction has a spine position. -/
def jtOf (p : Nat) : Option Nat := if p = 15 then some 0 else if p = 6 then some 1 else if p = 14 then some 2 else if p = 8 then some 3 else none
/-- Probe index of a junction at a spine position: JF0-JF3, JT0-JT3, JG (R169). -/
def probeBase (p : Nat) : Option Nat :=
  match jfOf p, jtOf p with
  | some k, _ => some k
  | _, some k => some (4 + k)
  | _, _ => if p = 7 then some 8 else none

/-- Stop of a field. -/
def fieldStopNo (f : Nat) : Nat :=
  let nn := f % 32
  stopNo (1 + f / 32) (nn / 16) (if nn % 16 < 8 then 14 - nn % 8 else 20 + nn % 8)
/-- Stop of a granary. -/
def granStopNo (g : Nat) : Nat :=
  stopNo (1 + g / 8) (g % 8 / 4) (match g % 4 with | 0 => 16 | 1 => 15 | 2 => 18 | _ => 19)
/-- Stop of a Mill engine. -/
def millStopNo (e : Nat) : Nat :=
  stopNo (1 + e / 16) (e % 16 / 8) (if e % 8 < 4 then 29 + e % 8 else 3 + (e % 8 - 4))
/-- Stop of a DRAM controller on a ring of its die. -/
def ddrStopNo (c ring : Nat) : Nat := stopNo (1 + c / 3) ring (match c % 3 with | 0 => 28 | 1 => 33 | _ => 2)

/-- The field at a stop. -/
def fieldOfStop (n : Nat) : Option Nat := (List.range 128).find? (fun f => fieldStopNo f == n)
/-- The granary at a stop. -/
def granOfStop (n : Nat) : Option Nat := (List.range 32).find? (fun g => granStopNo g == n)

/-- Block of the registers that govern and count for a stop: its own on a fabric ring or the spine. DEDUCED: that of the bridge through which it
reaches the rings for an agent of a T die, which has no block of its own (R247, log entry 33). -/
def stopRegs (n : Nat) : Option Nat :=
  let d := stopDie n
  if d = 0 then some (spineBlk (stopPos n))
  else if d ≤ 4 then some (stopBlk (d - 1) (stopRing n) (stopPos n))
  else if d ≤ 8 then some (stopBlk (d - 5) (stopRing n) 17)
  else none

/-- Block that holds RING_STAT and RING_IE for a stop: the ring ports of a junction keep theirs in its spine block, since their position-0 blocks
hold counters alone (R168). -/
def statRegs (n b : Nat) : Nat :=
  if decide (1 ≤ stopDie n ∧ stopDie n ≤ 4) && stopPos n == 0 then spineBlk (jfPos (stopDie n - 1)) else b

/-- The next point a flit reaches from a stop toward its destination: the destination, a junction, or a bridge. -/
def nextHop (cur dst : Nat) : Nat :=
  let dc := stopDie cur
  let dd := stopDie dst
  let onSpine : Nat :=
    if dd = 0 then dst else if dd ≤ 4 then stopNo 0 0 (jfPos (dd - 1))
    else if dd ≤ 8 then stopNo 0 0 (jfPos (dd - 5)) else stopNo 0 0 7
  if dc = 0 then
    match jfOf (stopPos cur) with
    | some k =>
      if dd = k + 1 then dst else if dd = k + 5 then stopNo (k + 1) (stopRing dst) 17 else onSpine
    | none => onSpine
  else if dc ≤ 4 then
    if dd = dc && stopRing dst == stopRing cur then dst
    else if dd = dc + 4 && stopRing dst == stopRing cur then
      if stopPos cur = 17 then dst else stopNo dc (stopRing dst) 17
    else stopNo 0 0 (jfPos (dc - 1))
  else if dc ≤ 8 then stopNo (dc - 4) (stopRing cur) 17
  else stopNo 0 0 7

/-- A point where a flit only changes links: a bridge to a T die (R141). -/
def isBridge (n : Nat) : Bool := decide (1 ≤ stopDie n) && decide (stopDie n ≤ 4) && stopPos n == 17

/-! ### Masters and owners (R162, R163) -/

/-- Stop from which a MID's requests start, toward destination `dst` (R143, R162, R247). -/
def midStop (mid dst : Nat) : Option Nat :=
  let tRing (k : Nat) : Nat := if stopDie dst = k + 1 then stopRing dst else 0
  if mid = 0 then some (stopNo 0 0 3)
  else if mid ≤ 4 then some (stopNo 0 0 2)
  else if mid = 8 then some (stopNo 0 0 4)
  else if mid = 9 then some (stopNo 0 0 10)
  else if mid = 0xA then some (stopNo 0 0 12)
  else if 0x10 ≤ mid ∧ mid ≤ 0x20 then some (stopNo 0 0 1)
  else if 0x40 ≤ mid ∧ mid < 0xC0 then some (stopNo 0 0 1)
  else if 0xC0 ≤ mid ∧ mid < 0xD0 then some (stopNo 0 0 7)
  else if 0x100 ≤ mid ∧ mid < 0x180 then some (fieldStopNo (mid - 0x100))
  else if 0x180 ≤ mid ∧ mid < 0x1C0 then some (millStopNo (mid - 0x180))
  else if 0x1C0 ≤ mid ∧ mid < 0x1E0 then
    let n := mid - 0x1C0
    some (stopNo (5 + n / 8) (tRing (n / 8)) (32 + n % 8))
  else if 0x1E4 ≤ mid ∧ mid < 0x1F0 then
    let c := mid - 0x1E4
    some (ddrStopNo c (if stopDie dst = 1 + c / 3 then stopRing dst else 0))
  else if 0x200 ≤ mid ∧ mid < 0x400 then
    let l := mid - 0x200
    some (stopNo (5 + l / 128) (tRing (l / 128)) (l % 128 / 4))
  else none

/-- The bank's owner is the owner of its anchor field (R566). -/
def State.bankOwner (s : State) (b : Nat) : Nat := s.fieldOwner ((b / 6) * 32 + 25 + b % 6)

/-- Owner of the agent whose stop has position `p` on ring `r` of F`k` (R141); DRAM controllers, junctions, bridges and
register agents belong to management (R300). -/
def State.stopOwner (s : State) (k r p : Nat) : Nat :=
  if 3 ≤ p ∧ p ≤ 6 then s.millOwner (16 * k + 8 * r + 4 + (p - 3))
  else if 7 ≤ p ∧ p ≤ 14 then s.fieldOwner (32 * k + 16 * r + (14 - p))
  else if p = 15 then s.granOwner (8 * k + 4 * r + 1)
  else if p = 16 then s.granOwner (8 * k + 4 * r)
  else if p = 18 then s.granOwner (8 * k + 4 * r + 2)
  else if p = 19 then s.granOwner (8 * k + 4 * r + 3)
  else if 20 ≤ p ∧ p ≤ 27 then s.fieldOwner (32 * k + 16 * r + 8 + (p - 20))
  else if 29 ≤ p ∧ p ≤ 32 then s.millOwner (16 * k + 8 * r + (p - 29))
  else 0x7F

/-- Index of the block instance an address lies in, on its die. -/
def instOf (a base stride : Nat) : Nat := (a % 0x1000000 - base) / stride

/-- Owner of a mailbox channel of a fabric port, 80-127: the owner of the field bound to it (R291, R383); every other channel answers as
management's does (R298). -/
def State.portChanOwner (s : State) (c : Nat) : Nat :=
  let b := mbxHub + 4 * (c - 80)
  if 80 ≤ c ∧ c < 128 ∧ s.flag b R.MBX_FPBIND_VALID ∧ 0x100 ≤ s.rf b R.MBX_FPBIND_MID ∧ s.rf b R.MBX_FPBIND_MID < 0x180 then
    s.fieldOwner (s.rf b R.MBX_FPBIND_MID - 0x100)
  else 0x7F

/-- Owner of the resource whose register page an address lies in: a site, or 0x7F (R163, R291). -/
def State.regOwner (s : State) (a : Nat) : Nat :=
  let d := a / 0x1000000
  match blkOfAddr a with
  | some (.field, _) => s.fieldOwner (32 * (d - 1) + instOf a 0x800000 0x10000)
  | some (.gran, _) => s.granOwner (8 * (d - 1) + instOf a 0x600000 0x10000)
  | some (.mill, _) => s.millOwner (16 * (d - 1) + instOf a 0x300000 0x10000)
  | some (.stop, _) =>
    let o := a % 0x1000000 - 0x700000
    s.stopOwner (d - 1) (o / 0x8000) (o % 0x8000 / 0x200)
  | some (.gpio, _) => s.bankOwner (6 * (d - 1) + instOf a 0xA00000 0x1000)
  | some (.link, _) => s.linkOwner (128 * (d - 5) + instOf a 0x100000 0x200)
  | some (.lane, _) => s.linkOwner (128 * (d - 5) + instOf a 0x400000 0x100)
  | some (.fcu, o) =>
    if 0x100 ≤ o ∧ o < 0x500 then s.linkOwner (128 * (d - 5) + 16 * instOf a 0x600000 0x10000 + (o - 0x100) / 0x40) else 0x7F
  | some (.mbxch, _) => s.portChanOwner (instOf a 0xD00000 0x100)
  | some (.mbxep, _) => s.portChanOwner (12 + instOf a 0xD80000 0x40)
  | some (.dbg, o) => if 0x100 ≤ o ∧ o < 0x300 then s.rf (dbgBlk + 0x20 * ((o - 0x100) / 0x20)) R.DBG_XT_OWN_SITE else 0x7F
  | some (.tally, _) => instOf a 0x900000 0x40
  | some (.enc, _) => let i := instOf a 0xB10000 0x40; if i < 64 then i else 0x7F
  | some (.dma, _) => let c := instOf a 0xC80000 0x100; if 16 ≤ c then c - 16 else 0x7F
  | _ => 0x7F

/-- Owner of a stop for its interrupt: a site on a fabric ring (R300), management elsewhere. -/
def State.stopSite (s : State) (n : Nat) : Nat :=
  let d := stopDie n
  if 1 ≤ d ∧ d ≤ 4 then s.stopOwner (d - 1) (stopRing n) (stopPos n) else 0x7F

/-- Class of a stop's interrupt (R299): FIELD, GRANARY or MILL. -/
def stopClass (n : Nat) : Nat :=
  if (fieldOfStop n).isSome then 0 else if (granOfStop n).isSome then 1 else 2

/-- A status bit of a stop set, with its counter and the owner's interrupt. -/
def State.stopEvt (s : State) (n : Nat) (fld : Fld) (cnt : Option Nat) : State :=
  match stopRegs n with
  | none => s
  | some b =>
    let s := match cnt with | some c => s.cnt (b + c) 1 | none => s
    s.evt (s.stopSite n) (stopClass n) (statRegs n b) fld R.RING_IE fld.lo

/-- An operation reads (READ, READ_BURST). -/
def opIsRead (op : Nat) : Bool := op == 1 || op == 2
/-- An operation is answered. -/
def opAnswered (op : Nat) : Bool := op == 1 || op == 2 || op == 3

/-- MID and operation against the target's windows (R163). -/
def State.midPasses (s : State) (blk mid op cls : Nat) : Bool :=
  let win (n : Nat) : Nat := (s.rd (blk + R.RING_FW_WIN + 4 * n)).toNat
  let en := (List.range 8).filter (fun n => natBit (win n) 31)
  mid == 0 || en.isEmpty || en.any (fun n =>
    let w := win n
    let mask := natBits w 27 16
    (mid &&& mask) == (natBits w 11 0 &&& mask) &&
      (if cls = 0 then natBit w 28 else if opIsRead op then natBit w 30 else natBit w 29))

/-! ### Register accesses at the firewall (R32, R163) -/

/-- Owner that a junction or a target checks the SID of an access to a register page against; `none` where the block's own map admits several
(R163, R291). -/
def State.regOwned (s : State) (a : Nat) : Option Nat :=
  match blkOfAddr a with
  | some (b, _) =>
    if [Blk.field, .gran, .ddr, .mill, .stop, .spine, .gpio, .lane, .link, .quad, .tally, .enc, .sec, .kelk, .guest, .cfg, .start, .mon].contains b
    then some (s.regOwner a) else none
  | none => none

/-- Ring on which a MID's flit reaches the register agent of F`k`, die index `d`: its own on that die; from another fabric or transceiver die the
ring whose lane it takes. DESIGN CHOICE: from the spine the ring equal to its lane (R144, log entry 33). -/
def regRing (mid d : Nat) : Nat :=
  match midStop mid 0 with | some n => if stopDie n = 0 then d % 2 else stopRing n | none => 0

/-- Stop at which a MID's register access to a die ends: HRG, the register agent of F`k`, JT`k` (R160). -/
def regTarget (mid d : Nat) : Nat :=
  if d = 0 then stopNo 0 0 11 else if d ≤ 4 then stopNo d (regRing mid d) 1 else stopNo 0 0 (jtPos (d - 5))

/-- Stop that checks the owner first: the junction of a fabric die where the access enters that die or changes rings, else its target (R163). -/
def ownerStop (mid d : Nat) : Nat :=
  let t := regTarget mid d
  if 1 ≤ d ∧ d ≤ 4 then
    match midStop mid 0 with
    | some n => if stopDie n = d then (if stopRing n = stopRing t then t else stopNo d (stopRing n) 0) else stopNo 0 0 (jfPos (d - 1))
    | none => t
  else t

/-- The stop at which the firewall refuses a register access: by its owner, or by the MID windows of its target (R32, R163). -/
def State.regDeny (s : State) (r : Req) (a : Nat) (write : Bool) : Option Nat :=
  if 0x9000000 ≤ a then none
  else
    let d := a / 0x1000000
    let t := regTarget r.mid.toNat d
    if r.sid.toNat != 0x7F && (match s.regOwned a with | some o => o != r.sid.toNat | none => false) then some (ownerStop r.mid.toNat d)
    else if s.midPasses ((stopRegs t).getD 0) r.mid.toNat (if write then 3 else 1) 1 then none
    else some t

/-- A refusal of the firewall is counted at the stop that refuses (R163). -/
def State.regDenied (s : State) (r : Req) (a : Nat) (write : Bool) : State :=
  match s.regDeny r a write with
  | some n => s.stopEvt n R.RING_STAT_DENY (some R.RING_DENY_CNT)
  | none => s

end Sys2Proof.Machine
end

