-- ==== Sys2Proof/Machine/Access.lean ====
section
/-! DEFINITION. Who may reach a register (R32, R34, R163 and the access rule of each block's register map), and a register
command guarded by that check. -/
namespace Sys2Proof.Machine

/-- Stop of a field: its fabric die, ring and position (R141). -/
def fieldStop (f : Nat) : Nat :=
  let nn := f % 32
  let r := nn / 16
  let c := nn % 8
  stopBlk (f / 32) r (if nn % 16 < 8 then 14 - c else 20 + c)
/-- Stop of a granary (R141). -/
def granStop (g : Nat) : Nat :=
  let m := g % 8
  stopBlk (g / 8) (m / 4) (match m % 4 with | 0 => 16 | 1 => 15 | 2 => 18 | _ => 19)
/-- Stop of a Mill engine (R141). -/
def millStop (e : Nat) : Nat :=
  let i := e % 16
  stopBlk (e / 16) (i / 8) (if i % 8 < 4 then 29 + i % 8 else 3 + (i % 8 - 4))

/-- A site holds granules on an FCU (R264). -/
def State.fcuHeldBy (s : State) (n site : Nat) : Bool :=
  (List.range 512).any (fun g => s.rf (fcuBlk n + 4 * g) R.FCU_GRAN_SITE == site)

/-- Whether debug registers of a field page are addressed (R480): +0x2000-+0x2FFF, and the readback areas. -/
def isDbgOfs (o : Nat) : Bool := decide (0x2000 ≤ o ∧ o < 0x3000) || decide (0x7C00 ≤ o)

/-- A requester is a resource's owner, or management (R163). -/
def ownerOrMgmt (r : Req) (owner : Nat) : Bool := isMgmt r || r.sid.toNat == owner

/-- The requester is Commons writing as management: SID 0x7F and MID 0x001-0x004. -/
def mgmtCommons (r : Req) : Bool := isMgmt r && isCommons r

/-- DEBUG of a site's rights permits an access to its debug registers (R463). -/
def State.debugAllows (s : State) (r : Req) (owner : Nat) (write : Bool) : Bool :=
  isMgmt r || (r.sid.toNat == owner &&
    decide ((if write then 2 else 1) ≤ s.rf (siteBlk owner) R.SITE_RIGHTS_DEBUG))

/-- Endpoint index a MID is admitted at (R383); `none` for a MID no endpoint admits. Fabric ports are looked up in
MBX_FPBIND. -/
def State.mbxEndpointOf (s : State) (m : Nat) : Option Nat :=
  if m = 0x20 then some 0
  else if 0x40 ≤ m ∧ m < 0x80 then some (m - 0x40 + 1)
  else if 1 ≤ m ∧ m ≤ 4 then some 65
  else if m = 0 then some 66
  else if 0xC0 ≤ m ∧ m < 0xD0 then some 67
  else ((List.range 48).find? (fun i =>
      s.rf (mbxHub + 4 * i) R.MBX_FPBIND_VALID == 1 && s.rf (mbxHub + 4 * i) R.MBX_FPBIND_MID == m)).map (68 + ·)

/-- Endpoints of a channel (R384). -/
def State.mbxEndA (s : State) (c : Nat) : Nat := s.rf (mbxHub + 4 * c) R.MBX_BIND_EP_A
def State.mbxEndB (s : State) (c : Nat) : Nat := s.rf (mbxHub + 4 * c) R.MBX_BIND_EP_B

/-- Whether endpoint `e` admits a MID (R383, R385). -/
def State.mbxAdmits (s : State) (e m : Nat) : Bool :=
  if e = 0 then m == 0x20
  else if e ≤ 64 then m == 0x40 + (e - 1)
  else if e = 65 then decide (1 ≤ m ∧ m ≤ 4)
  else if e = 66 then m == 0
  else if e = 67 then decide (0xC0 ≤ m ∧ m < 0xD0)
  else
    let i := e - 68
    s.rf (mbxHub + 4 * i) R.MBX_FPBIND_VALID == 1 && s.rf (mbxHub + 4 * i) R.MBX_FPBIND_MID == m

/-- BAR MID of a function (R367). -/
def fnMid (f : Nat) : Nat := if f = 0 then 0x20 else 0x40 + (f - 1)

/-- Whether the access rule of a block's map permits an access (the register rules of each chapter). `reg` is the
offset of the register (of its first, in an array) in its block, `o` the offset accessed. -/
def State.mayAccess (s : State) (r : Req) (a : Nat) (b : Blk) (o : Nat) (reg : Nat) (write : Bool) : Bool :=
  let ow := s.regOwner a
  let own := ownerOrMgmt r ow
  let m := r.mid.toNat
  match b with
  | .field =>
    if isDbgOfs o then s.debugAllows r ow write
    else if !write then own
    else if reg == R.FCK_TCRIT || reg == R.BM_PATROL || reg == R.BM_REWRITE || reg == R.BM_REMAP then isMgmt r
    else own
  | .gran =>
    if !write then own
    else if reg == R.GR_PATROL || reg == R.GR_REWRITE || reg == R.GR_REMAP then isMgmt r
    else own
  | .ddr => isMgmt r
  | .mill => if write && reg == R.MILL_OWNER then mgmtCommons r else own
  | .stop | .spine =>
    if write && (reg == R.RING_FW_WIN || reg == R.RING_BELL_CTRL || reg == R.RING_SHARE) then
      isMgmt r && (isReeve r || isCommons r)
    else own
  | .gpio => if 0x400 ≤ o ∧ o < 0x700 then isCommons r else own
  | .lane =>
    if !write then own
    else isMgmt r || (own && (reg == R.LANE_STAT || reg == R.LANE_IE))
  | .quad => isMgmt r
  | .link =>
    if !write then own
    else if reg == R.LINK_CFG then isMgmt r
    else if reg == R.LINK_OWNER then mgmtCommons r
    else own
  | .fcu =>
    let n := 8 * (a / 0x1000000 - 5) + instOf a 0x600000 0x10000
    if write then isMgmt r || (reg == R.LR_LOG_RPTR && s.linkOwner (16 * n + (o - 0x100) / 0x40) == r.sid.toNat)
    else isMgmt r || (s.fcuHeldBy n r.sid.toNat && reg != R.FCU_IE && reg != R.FCU_CLR && reg != R.FCU_GRAN)
  | .tally => if write && (reg == R.TALLY_CTRL || reg == R.TALLY_FAB_ADDR_LO || reg == R.TALLY_FAB_ADDR_HI) then isMgmt r else own
  | .parish =>
    if !write then isMgmt r ||
      (decide (0x1000 ≤ o) && natBit (s.rd64 (incBlk ((o - 0x1000) / 0x20) + R.INC_SITES_LO)) r.sid.toNat)
    else if 0x40 ≤ o ∧ o < 0xE0 then m == (o - 0x40) / 0x20
    else isCommons r
  | .site =>
    let n := instOf a 0xA00000 0x1000
    isMgmt r || (r.sid.toNat == n && s.siteState n != 0)
  | .dramhub =>
    if !write && reg == R.DRAM_INTLV then true
    else if reg == R.DRAM_OWN then
      if write then mgmtCommons r else isMgmt r || s.dramOwner ((o - 0x1000) / 4) == r.sid.toNat
    else if reg == R.DRAM_PORTMAP then isMgmt r || (!write && (o - 0x100) / 4 == r.sid.toNat)
    else if reg == R.DRAM_SITE_EVT || reg == R.DRAM_SITE_IE then isMgmt r || (o - 0x200) / 8 == r.sid.toNat
    else isMgmt r
  | .own =>
    if write then mgmtCommons r
    else isMgmt r ||
      (if reg == R.FLD_OWN then s.fieldOwner (o / 4) == r.sid.toNat
       else if reg == R.GRAN_OWN then s.granOwner ((o - 0x200) / 4) == r.sid.toNat else false)
  | .enc => if write && (reg == R.ENC_CTRL || reg == R.ENC_REGION) then isReeve r else own
  | .fn =>
    let f := instOf a 0xC00000 0x1000
    if write && reg == R.HOST_WEIGHT then mgmtCommons r
    else m == fnMid f || mgmtCommons r
  | .dma =>
    let c := instOf a 0xC80000 0x100
    m == (if c < 16 then 0x20 else 0x40 + (c - 16)) || mgmtCommons r
  | .mbxch =>
    let c := instOf a 0xD00000 0x100
    s.mbxAdmits (s.mbxEndA c) m || s.mbxAdmits (s.mbxEndB c) m
  | .mbxep =>
    let e := instOf a 0xD80000 0x40
    s.mbxAdmits e m || (isCommons r && e != 66)
  | .mbxhub =>
    if reg == R.MBX_BIND then if write then isReeve r && s.rf mbxHub R.MBX_LOCK_LOCKED == 0 else isMgmt r
    else if reg == R.MBX_LOCK then !write || isReeve r
    else if reg == R.MBX_FPBIND then if write then mgmtCommons r else isMgmt r
    else if reg == R.MBX_PEND then isCommons r
    else !write || isCommons r
  | .mgmt =>
    if !write then isMgmt r
    else if reg == R.CMN_CORE_KICK then m == 1 + o / 0x10
    else if reg == R.CMN_IRQ_ROUTE then isCommons r
    else isReeve r
  | .sec => if !write || reg == R.SEC_DRNG_STAT then isMgmt r else isReeve r
  | .bk =>
    if !write then isMgmt r
    else if reg == R.BK_RTC_SET_LO || reg == R.BK_RTC_SET_HI || reg == R.BK_RTC_CMD then isMgmt r && (isPf r || isCommons r)
    else if reg == R.BK_STAT then isMgmt r
    else isReeve r
  | .dbg =>
    if reg == R.DBG_XT_OWN then if write then mgmtCommons r || (isDbg r && decide (2 ≤ s.rf dlocBlk R.DBG_SESSION_LEVEL)) else isMgmt r
    else if reg == R.DBG_CORE_CMD || reg == R.DBG_CORE_XT || reg == R.DBG_BOOT then
      if write then isDbg r && s.rf dlocBlk R.DBG_SESSION_LEVEL == 3 else isMgmt r
    else if reg == R.DBG_XT_PULSE || reg == R.DBG_XT_STAT then
      isMgmt r || decide ((if write then 2 else 1) ≤ s.rf (siteBlk r.sid.toNat) R.SITE_RIGHTS_DEBUG)
    else if 0x100 ≤ o ∧ o < 0x300 then
      s.debugAllows r (s.rf (dbgBlk + 0x20 * ((o - 0x100) / 0x20)) R.DBG_XT_OWN_SITE) write
    else isMgmt r
  | .cfg =>
    if reg == R.CFG_XSPI_CMD || reg == R.CFG_XSPI_ADDR || reg == R.CFG_XSPI_STAT || reg == R.CFG_XSPI_BUF then
      isMgmt r && (isPf r || isCommons r || (isDbg r && decide (2 ≤ s.rf dlocBlk R.DBG_SESSION_LEVEL)))
    else if write && (reg == R.CFG_STORE_LO || reg == R.CFG_STORE_HI || reg == R.CFG_SCRUB) then mgmtCommons r
    else isMgmt r
  | .start =>
    if !write then isMgmt r
    else if reg == R.START_CMD || reg == R.PWR_CMD then isMgmt r && (isPf r || isCommons r)
    else isMgmt r && (reg == R.PWR_STAT || reg == R.START_STAT)
  | .mon => if write || reg == R.MON_FIFO then isCommons r else isMgmt r
  | .clk =>
    if !write then isMgmt r || reg == R.TTC_LO || reg == R.TTC_HI
    else if reg == R.CLK_MON_CFG then isReeve r
    else if reg == R.CLK_GATE then isCommons r
    else isMgmt r && (reg == R.CLK_ROOT || reg == R.CLK_REF_STAT || reg == R.CLK_GSTAT || reg == R.CLKMON_CTRL)
  | .kelk => if write then mgmtCommons r else isMgmt r
  | .guest => if write && (reg == R.GST_CTRL || reg == R.GST_MSTR || reg == R.GST_WIN_A || reg == R.GST_WIN_B)
      then mgmtCommons r else isMgmt r
  | .regbus => true
  | .dloc => isDbg r

/-- Blocks that answer normally while their site is in reset (R298): the site block, the function block, and what belongs to no site; the VF's
mailbox channel and endpoint do so because `regOwner` gives them to management. -/
def resetExempt : Blk → Bool
  | .site | .fn | .mbxhub | .regbus | .dloc => true
  | _ => false

/-- SCRAPPED or sealed fault: the host reaches the security and backup blocks only (R432), JTAG also the start block (R513). -/
def State.recoveryOnly (s : State) : Bool :=
  let st := s.rf secBlk R.SEC_LC_STAT_STATE
  st == 5 || st == 7

/-- Response code of a register access to the die-region address `a` before it acts (R32, R34, R38, R165): NOTARGET where
nothing decodes or the die is unreachable (R558), DENIED where the access rule refuses, INRESET where the die or the owning site is in reset. -/
def State.gate (s : State) (r : Req) (a : Nat) (write : Bool) : Rsp :=
  if a ≥ 0x9000000 ∧ a < 0x100000000 then .noTarget
  else if 0xF00000 ≤ a ∧ a < 0x1000000 then
    if isReeve r || (isDbg r && !write && s.rf dlocBlk R.DBG_SESSION_LEVEL == 3) then .ok else .denied
  else if a < 0x100000000 ∧ natBit s.kelk.unreach (a / 0x1000000) then .noTarget
  else if a < 0x100000000 ∧ s.dieDown (a / 0x1000000) then .inReset
  else
    match regAt a, blkOfAddr a with
    | some (b, spec), some (_, o) =>
      if s.recoveryOnly && (isPf r || isDbg r || (decide (0x40 ≤ r.mid.toNat) && decide (r.mid.toNat < 0x80))) && b != .sec && b != .bk &&
          !(isDbg r && b == .start) then .denied
      else if (s.regDeny r a write).isSome then .denied
      else if !s.mayAccess r a b o spec.ofs write then .denied
      else if !resetExempt b && s.siteInReset (s.regOwner a) then .inReset
      else .ok
    | _, _ => .noTarget

/-- SITE codes that may be stored (R39). -/
def siteCodeOk (v : Nat) : Bool := decide (v < 64) || v == 0x7F

/-- No register acts: the hub is held in reset (R508, R603), or every clock of the tree is stopped (R544); every access is answered INRESET
(R34). -/
def State.deaf (s : State) : Bool := s.start.hold || s.clk.safe

/-- An earlier grant of a requester is under way in the hub: its later accesses there take effect after it (R33). -/
def State.grantWaits (s : State) (r : Req) (a : Nat) : Bool := decide (a < 0x1000000) && s.fills.any (fun x => x.req == some r)

/-- An access held back until its requester's grant has taken effect (R33). -/
def State.holdAcc (s : State) (r : Req) (x : HubAcc) : State :=
  { s with fills := s.fills.map (fun y => if y.req == some r then { y with later := y.later ++ [x] } else y) }

/-- A register access that its gate lets through does `k`, which answers; any other is answered with the gate's code, and a refusal of the
firewall is counted (R34, R163). -/
def State.gatedBy (s : State) (r : Req) (a : Nat) (write : Bool) (k : State → State) : State :=
  if s.deaf then s.answer r a .inReset []
  else match s.gate r a write with
  | .ok => k s
  | .denied => (s.regDenied r a write).answer r a .denied []
  | c => s.answer r a c []

/-- A register command with its own row: performed when the access is allowed, and answered (R34). DESIGN CHOICE: a row's command that an earlier
grant of its requester holds back cannot occur yet and leaves the state as it is (R33, log entry 33). -/
def State.gated (s : State) (r : Req) (a : Nat) (write : Bool) (k : State → State) : State :=
  if s.grantWaits r a then s else s.gatedBy r a write (fun s => (k s).answer r a .ok [])

/-- A register command performed only where a further check passes: otherwise FAULT (R39). -/
def State.gatedIf (s : State) (r : Req) (a : Nat) (ok : Bool) (k : State → State) : State :=
  if s.grantWaits r a then s else s.gatedBy r a true (fun s => if ok then (k s).answer r a .ok [] else s.answer r a .fault [])

end Sys2Proof.Machine
end

