-- ==== Sys2Proof/Machine/Report.lean ====
section
/-! DEFINITION. Reports to the fault concentrator (R592-R596) and staging of parish records (R584-R588): the operations
other blocks use. -/
namespace Sys2Proof.Machine

/-- A locator (R592): KIND in [15:12], INDEX in [11:0]. -/
def locator (kind idx : Nat) : Nat := kind * 4096 + idx

/-- Sites a report keyed to a locator carries (R592). -/
def State.keySites (s : State) (key : Nat) : Nat :=
  let i := key % 4096
  match key / 4096 with
  | 0 => s.liveSites
  | 1 => s.liveSites
  | 2 => s.liveSites
  | 3 => s.liveSites
  | 6 => oneSite (s.linkOwner i)
  | 7 => siteSet (fun n => (List.range 3072).any (fun g => s.dramOwner g == n))
  | 8 => oneSite (s.fieldOwner i)
  | 9 => s.liveSites
  | 12 => if i < 64 then 2 ^ i else 0
  | _ => 0

/-- A block sends a report (R592): it waits for the concentrator. -/
def State.reportSites (s : State) (key code source sev data sites : Nat) : State :=
  { s with par := { s.par with reports := s.par.reports ++ [⟨key, code, source, sev, data, sites⟩] } }

/-- A report whose sites the key's row of R592 gives, with the key as source. -/
def State.report (s : State) (key code sev data : Nat) : State := s.reportSites key code key sev data (s.keySites key)

/-- Sequence `a` is after sequence `b` (R586). -/
def seqAfter (a b : Nat) : Bool :=
  let d := (a + 2 ^ 32 - b % 2 ^ 32) % 2 ^ 32
  decide (1 ≤ d) && decide (d ≤ 2 ^ 31 - 1)

/-- The later of two sequences (R586). -/
def seqMax (a b : Nat) : Nat := if seqAfter a b then a else b

/-- Sequence a record takes: slot 0 of each block holds the BLOCK header (R586). -/
def recSeq (next : Nat) : Nat := if next % 2048 = 0 then (next + 1) % 2 ^ 32 else next

/-- The last staged record absorbs a repeat (R584). -/
def isRepeat (o n : PRec) : Bool :=
  o.code == n.code && o.source == n.source && o.data == n.data && decide (n.time ≤ o.last + 1000000000)

/-- A record with a repeat merged into it (R584). -/
def mergeRec (o n : PRec) : PRec :=
  { o with rep := min (o.rep + n.rep) 65535, last := n.time, sev := max o.sev n.sev,
           site := if o.site = n.site then o.site else 0x7F }

/-- SPAN of a record (R581): whole seconds from the first to the last occurrence. -/
def recSpan (r : PRec) : Nat := (r.last - r.time) / 1000000000

/-- A record in the hub ring (R590). -/
def ringPut (t : Tab (Option PRec)) (r : PRec) : Tab (Option PRec) := tabPut (fun _ => none) t (r.seq % 4096) (some r)

/-- Stage a record that is not a repeat (R585): it enters staging and the hub ring, or the ring only when staging holds
64 records. Its sequence is given here. -/
def State.stageNew (s : State) (r : PRec) : State :=
  let r := { r with seq := recSeq s.par.next }
  let full := decide (s.par.staging.length ≥ 64)
  let first := !s.par.any
  let old := (s.rd (parishBlk + R.PAR_SEQ_OLD)).toNat
  let s := { s with par := { s.par with
    next := (r.seq + 1) % 2 ^ 32, any := true, ring := ringPut s.par.ring r,
    staging := if full then s.par.staging else s.par.staging ++ [r] } }
  let s := if full then (s.cnt (parishBlk + R.PAR_STAGE_DROP_CNT) 1).setF parishBlk R.PAR_STAT_STAGE_DROP
           else (s.wf parishBlk R.PAR_SEQ_NEW_SEQ r.seq).wf parishBlk R.PAR_STAGED_COUNT s.par.staging.length
  if first then s.wf parishBlk R.PAR_SEQ_OLD_SEQ r.seq
  else if !s.par.area && decide ((r.seq + 2 ^ 32 - old) % 2 ^ 32 ≥ 4096) then
    s.wf parishBlk R.PAR_SEQ_OLD_SEQ ((r.seq + 2 ^ 32 - 4095) % 2 ^ 32)
  else s

/-- Stage a record (R584): the last staged record, while still in staging, absorbs a repeat; any other record is new. -/
def State.stage (s : State) (r : PRec) : State :=
  match s.par.staging.getLast? with
  | some o =>
    if isRepeat o r then
      let m := mergeRec o r
      { s with par := { s.par with staging := s.par.staging.dropLast ++ [m], ring := ringPut s.par.ring m } }
    else s.stageNew r
  | none => s.stageNew r

/-- Calendar time of a record: 0 onward while RTC_VALID is 0, as the calendar counts then (R451, R581). -/
def State.calTime (s : State) : Nat := s.cal

/-- Stage a record of a block now. -/
def State.record (s : State) (code source sev site data : Nat) : State :=
  s.stage ⟨0, s.calTime, s.calTime, code, source, sev, site, 1, data⟩

/-- A report whose severity the manual does not state: a free value among the five (R581). -/
def State.reportO (s : State) (key code data : Nat) : State :=
  let (v, s) := s.fresh
  s.report key code (v % 5) data

/-- A record of management whose severity the manual does not state: a free value among the five (R581). -/
def State.recordO (s : State) (code source data : Nat) : State :=
  let (v, s) := s.fresh
  s.record code source (v % 5) 0x7F data

end Sys2Proof.Machine
end

