-- ==== Sys2Proof/Machine/LinkSt.lean ====
section
/-! DEFINITION. Shared state of lanes, links, FCUs, Mill intake and the tally tree: accessors, status bits with their interrupts,
and times (chapters 7 to 10). -/
namespace Sys2Proof.Machine

/-- State of a link. -/
def State.lk (s : State) (l : Nat) : LinkSt := tabGet (fun _ => {}) s.llp.link l
/-- State of a link replaced. -/
def State.setLk (s : State) (l : Nat) (x : LinkSt) : State :=
  { s with llp := { s.llp with link := tabPut (fun _ => {}) s.llp.link l x } }
/-- State of a lane. -/
def State.lane (s : State) (l : Nat) : LaneRt := tabGet (fun _ => {}) s.llp.lane l
/-- State of a lane replaced. -/
def State.setLane (s : State) (l : Nat) (x : LaneRt) : State :=
  { s with llp := { s.llp with lane := tabPut (fun _ => {}) s.llp.lane l x } }
/-- State of an FCU. -/
def State.fcu (s : State) (n : Nat) : FcuSt := tabGet (fun _ => {}) s.cap.fcu n
/-- State of an FCU replaced. -/
def State.setFcu (s : State) (n : Nat) (x : FcuSt) : State :=
  { s with cap := { s.cap with fcu := tabPut (fun _ => {}) s.cap.fcu n x } }
/-- State of a tally group. -/
def State.tally (s : State) (g : Nat) : TallySt := tabGet (fun _ => {}) s.cap.tally g
/-- State of a tally group replaced. -/
def State.setTally (s : State) (g : Nat) (x : TallySt) : State :=
  { s with cap := { s.cap with tally := tabPut (fun _ => {}) s.cap.tally g x } }

/-- STATE of a link (R199): 0 IDLE, 1 HELLO_WAIT, 2 ACTIVE, 3 RESYNC, 4 FAILED. -/
def State.linkState (s : State) (l : Nat) : Nat := s.rf (linkBlk l) R.LINK_STAT_STATE
/-- STATE of a lane (R178). -/
def State.laneState (s : State) (l : Nat) : Nat := s.rf (laneBlk l) R.LANE_STAT_STATE
/-- MODE of a lane: 0 LLP, 1 RAW_DEC, 2 RAW_10B, 3 PRBS (R190). -/
def State.laneMode (s : State) (l : Nat) : Nat := s.rf (laneBlk l) R.LANE_CTRL_MODE

/-- A W1C bit of LINK_STAT set, with the LINK interrupt of the owner (R226, R299). -/
def State.linkEvt (s : State) (l : Nat) (f : Fld) : State := s.evt (s.linkOwner l) 3 (linkBlk l) f R.LINK_IE f.lo
/-- A W1C bit of LANE_STAT set, with the LINK interrupt of the owner (R179, R190, R299). -/
def State.laneEvt (s : State) (l : Nat) (f : Fld) : State := s.evt (s.linkOwner l) 3 (laneBlk l) f R.LANE_IE f.lo
/-- A counter of a link. -/
def State.linkCnt (s : State) (l c n : Nat) : State := s.cnt (linkBlk l + c) n

/-- Quad of a lane. -/
def quadOf (l : Nat) : Nat := l / 4
/-- N of the PLL a lane selects (R171). -/
def State.pllN (s : State) (q : Nat) (pll1 : Bool) : Nat := s.rf (quadBlk q) (if pll1 then R.QPLL_CTRL_N1 else R.QPLL_CTRL_N0)
/-- A PLL of a quad is locked. -/
def State.pllLocked (s : State) (q : Nat) (pll1 : Bool) : Bool := s.flag (quadBlk q) (if pll1 then R.QPLL_STAT_LOCK1 else R.QPLL_STAT_LOCK0)
/-- Duration in ns of `n` symbols on a lane, rounded up: 10 bits at N / 2^DIV tenths of Gb/s (R171). -/
def State.symNs (s : State) (l n : Nat) : Nat :=
  let d := s.pllN (quadOf l) (s.flag (laneBlk l) R.LANE_CTRL_PLL)
  if d = 0 then 0 else (n * 100 * 2 ^ s.rf (laneBlk l) R.LANE_CTRL_DIV + d - 1) / d

/-- Duration of `n` tenths of a symbol, that is of `n` bits, on a lane, in 1/256 ns (R171, R220). -/
def State.bitTicks (s : State) (l n : Nat) : Nat :=
  let d := s.pllN (quadOf l) (s.flag (laneBlk l) R.LANE_CTRL_PLL)
  if d = 0 then 0 else n * 2560 * 2 ^ s.rf (laneBlk l) R.LANE_CTRL_DIV / d

/-- Transmit latency of a lane, 24 symbol times + 3.0 ns, in 1/256 ns (R183). -/
def State.txLat (s : State) (l : Nat) : Nat := s.bitTicks l 240 + 768

/-- Receive latency of a lane as its stamps are corrected for it (R183, R220): 40 symbol times + 4.0 ns, the symbols that wait in the elastic buffer,
and one bit for each slip. DESIGN CHOICE: a buffer that no symbol command has filled counts as half full (log entry 12). -/
def State.rxLat (s : State) (l : Nat) : Nat :=
  let b := (s.lane l).eb
  s.bitTicks l (10 * (40 + (if b.run then b.q.length else 16)) + s.rf (laneBlk l) R.LANE_ALIGN_SLIPS) + 1024

/-! ### Transmission on a lane (R175, R178, R193) -/

/-- Running disparity after eight raw symbols. -/
def rdWord : Nat → Nat → Bool → Bool
  | 0, _, rd => rd
  | n + 1, w, rd => rdWord n (w / 1024) ((rdAfter (w % 1024) (some rd)).getD rd)

/-- K flag and byte of data symbols. -/
def dataSyms (bs : List Byte) : List (Bool × Nat) := bs.map (fun b => (false, b.toNat))

/-- An alteration of a data symbol counted after the structure's first K-symbol. -/
def altAt (a : Option TxAlt) : Option (Nat × Nat) := a.map (fun x => (x.pos + 1, x.kind))

/-- The 10-bit symbols of an item from a running disparity, and the disparity after them (R175, R193, R194, R205, R213). -/
def lineSymbols : LaneItem → Bool → List Nat × Bool
  | .idle, rd => ([], rd)
  | .prbs _ _, rd => ([], rd)
  | .com, rd => encSyms [(true, byteK285)] none rd
  | .frame bs alt, rd => encSyms ((true, 0xFB) :: dataSyms bs ++ [(true, 0xFD)]) (altAt alt) rd
  | .bell bs alt, rd => encSyms ((true, 0x3C) :: dataSyms bs ++ [(true, 0xF7)]) (altAt alt) rd
  | .linkSet bs, rd => encSyms ((true, 0x7C) :: dataSyms bs) none rd
  | .timeSet bs, rd => encSyms ((true, 0x5C) :: dataSyms bs) none rd
  | .skp, rd => encSyms [(true, byteK285), (true, 0xDC), (true, 0xDC), (true, 0xDC), (true, 0xDC)] none rd
  | .abort, rd => encSyms [(true, 0xFE)] none rd
  | .raw w, rd => ((List.range 8).map (fun i => w.toNat / 1024 ^ i % 1024), rdWord 8 w.toNat rd)

/-- An item leaves a lane, coded by `lineSymbols` from the transmitter's running disparity (R175). In the asynchronous safe state every transmitter
drives electrical idle (R174). -/
def State.sendLane (s : State) (l : Nat) (i : LaneItem) : State :=
  if s.clk.safe then s
  else
    let x := s.lane l
    (s.setLane l { x with rdTx := (lineSymbols i x.rdTx).2 }).emit (.laneTx l i x.rdTx)

/-- Copy of the TTC on a die: aligned with the hub's while TTC_SYNC shows the die aligned (R547, R548), else 0. -/
def State.ttcDie (s : State) (d : Nat) : Nat := if natBit (s.rd (clkBlk + R.TTC_SYNC)).toNat d then s.ttc else 0
/-- The TTC copy of a link's die. -/
def State.ttcLink (s : State) (l : Nat) : Nat := s.ttcDie (5 + l / 128)

/-- FCU of a link (R231). -/
def fcuOf (l : Nat) : Nat := l / 16

/-- State of a Mill engine. -/
def State.millE (s : State) (e : Nat) : MillSt := tabGet (fun _ => {}) s.mill.eng e
/-- State of a Mill engine replaced. -/
def State.setMill (s : State) (e : Nat) (x : MillSt) : State :=
  { s with mill := { s.mill with eng := tabPut (fun _ => {}) s.mill.eng e x } }

/-- The engine takes FAIL entries forwarded for a site: it is in COLLECT with intake as its source, its intake is not closed,
and the site owns it (R242, R268, R270). -/
def State.millTakes (s : State) (e site : Nat) : Bool :=
  s.rf (millBlk e) R.MILL_STAT_STATE == 2 && !(s.millE e).src && s.millOwner e == site && !(s.millE e).closed

/-- Lanes the hub's clock root has taken DOWN (R174, R541): the reference fallback is in force. -/
def State.refFallback (s : State) : Bool := s.clk.fb

end Sys2Proof.Machine
end

