-- ==== Sys2Proof/Machine/FcuOps.lean ====
section
/-! DEFINITION. Fail capture units: granules and grants (R231-R233), channel records (R236-R241) and the forwarding queues
(R242-R246), as operations. -/
namespace Sys2Proof.Machine

/-! ### Granules -/

/-- FCU_GRAN register of a granule. -/
def granReg (n g : Nat) : Nat := fcuBlk n + R.FCU_GRAN + 4 * g

/-- The granule in a slot of a link's grant (R233). -/
def State.slotGran (s : State) (l slot : Nat) : Option Nat :=
  let n := fcuOf l
  (List.range 512).find? (fun g =>
    let w := (s.rd (granReg n g)).toNat
    natBit w 7 && natBits w 11 8 == l % 16 && natBits w 17 12 == slot)

/-- Key of the record of a channel of a link, for a channel below GRANTED (R233). -/
def State.chanRec (s : State) (l c : Nat) : Option Nat :=
  (s.slotGran l (c / 64)).map (fun g => 32768 * fcuOf l + 64 * g + c % 64)

/-- Granules a link's grant holds. -/
def State.heldGrans (s : State) (l : Nat) : List Nat :=
  (List.range 512).filter (fun g =>
    let w := (s.rd (granReg (fcuOf l) g)).toNat
    natBit w 7 && natBits w 11 8 == l % 16)

/-- A site's pool on an FCU (R232). -/
def State.poolGrans (s : State) (n site : Nat) : List Nat :=
  (List.range 512).filter (fun g =>
    let w := (s.rd (granReg n g)).toNat
    !natBit w 7 && natBits w 6 0 == site)

/-- Granules returned to the pool, their records as they are (R233). -/
def State.returnGrans (s : State) (l : Nat) : State :=
  (s.heldGrans l).foldl (fun s g => s.wr (granReg (fcuOf l) g) (BitVec.ofNat 32 (s.rd (granReg (fcuOf l) g) |>.toNat |> (natBits · 6 0)))) s

/-! ### Records -/

/-- Cells of a record. -/
def State.recCells (s : State) (k : Nat) : DWord × DWord := tabGet (fun _ => (0, 0)) s.cap.recs k
/-- Cells of a record replaced. -/
def State.setRec (s : State) (k : Nat) (c0 c1 : Nat) : State :=
  { s with cap := { s.cap with recs := tabPut (fun _ => (0, 0)) s.cap.recs k (BitVec.ofNat 64 c0, BitVec.ofNat 64 c1) } }
/-- Match array bit. -/
def State.matBit (s : State) (k : Nat) : Bool := tabGet (fun _ => false) s.cap.mat k
/-- Match array bit replaced. -/
def State.setMat (s : State) (k : Nat) (v : Bool) : State :=
  { s with cap := { s.cap with mat := tabPut (fun _ => false) s.cap.mat k v } }

/-- A granule cleared: COUNT, FF_VALID, CARRY and both EPOCH bits 0, match bits 0; INC_TALLY and INC_FWD kept (R241). -/
def State.clearGran (s : State) (n g : Nat) : State :=
  (List.range 64).foldl (fun s i =>
    let k := 32768 * n + 64 * g + i
    let (a, b) := s.recCells k
    (s.setRec k (natSet (natSet a.toNat 31 0 0) 34 32 0) (natSet b.toNat 8 0 0)).setMat k false) s

/-- Progress of a clear to a time: one granule every 2 FCU cycles, 1.25 ns (R241). -/
def State.clrTo (s : State) (n : Nat) : State :=
  let x := s.fcu n
  match x.clr with
  | none => s
  | some (first, last, next, t0) =>
    let to_ := min (first + (s.now - t0) * 4 / 5) (last + 1)
    let s := (List.range (to_ - next)).foldl (fun s i => s.clearGran n (next + i)) s
    s.setFcu n { x with clr := some (first, last, max next to_, t0) }

/-- What applying one entry does to a record (R237, R239): the new cells, whether the entry was captured, and whether a torn
record was repaired. -/
def recApply (c0 c1 : Nat) (vec inc time : Nat) (ffEn : Bool) : Nat × Nat × Bool × Bool :=
  let e1 := natBit c1 8
  let torn := natBit c0 32 != e1
  let carryKind := natBit c0 33
  let hi0 := natBits c1 7 0 + b2n (torn && carryKind)
  let valid0 := natBit c0 34 && !(torn && !carryKind)
  let sum := min (natBits c0 31 0 + (hi0 % 256) * 2 ^ 32 + inc) (2 ^ 40 - 1)
  let carry := sum / 2 ^ 32 != hi0 % 256
  let capture := ffEn && !valid0 && !carry
  let two := torn || carry || capture
  let ep := if two then !e1 else e1
  let kind := if carry then true else if capture then false else carryKind
  let c0 := natSet (natSet (natSet (natSet c0 31 0 sum) 32 32 (b2n ep)) 33 33 (b2n kind)) 34 34 (b2n (valid0 || capture))
  let c1 := natSet (natSet c1 7 0 (sum / 2 ^ 32)) 8 8 (b2n ep)
  if capture then (natSet c0 63 37 vec, natSet (natSet c1 56 9 time) 61 57 (vec / 2 ^ 27), true, torn)
  else (c0, c1, false, torn)

/-! ### LR block -/

/-- LR_CTRL and the other registers of a link's LR block are at these offsets of its FCU block (R265). -/
def State.lrF (s : State) (l : Nat) (f : Fld) : Nat := s.rf (lrBlk l) f
/-- A flag of a link's LR block. -/
def State.lrOn (s : State) (l : Nat) (f : Fld) : Bool := s.lrF l f != 0
/-- A counter of a link's FCU. -/
def State.fcuCnt (s : State) (l c n : Nat) : State := s.cnt (fcuBlk (fcuOf l) + c) n
/-- A W1C bit of FCU_STAT; its interrupt reaches management only (R300). -/
def State.fcuStat (s : State) (l : Nat) (f : Fld) : State := s.setF (fcuBlk (fcuOf l)) f

/-- Engine a link's entries are forwarded to (R245, R265). -/
def State.lrMill (s : State) (l : Nat) : Nat := 16 * (l / 128) + s.lrF l R.LR_CTRL_MILL

/-- A log entry dropped and counted (R244). -/
def State.logDrop (s : State) (l n : Nat) : State :=
  if n = 0 then s
  else (s.cnt64 (fcuBlk (fcuOf l) + R.FAIL_LOG_DROPPED_LO) n).fcuStat l R.FCU_STAT_LOG_DROP

/-- Entries a link's log ring holds. -/
def State.logCap (s : State) (l : Nat) : Nat := 2 ^ (s.lrF l R.LR_CFG_LOG_SIZE - 4)

/-- Entries of a link accepted into the log and not yet written. -/
def State.logAccepted (s : State) (l : Nat) : Nat :=
  let x := s.fcu (fcuOf l)
  (x.logq.filter (fun e => e.link == l % 16)).length +
    (x.fly.filter (fun e => e.link == l % 16 && e.live)).foldl (fun a e => a + e.n) 0

/-- An entry offered to the fail log (R244). -/
def State.logOffer (s : State) (l raw : Nat) : State :=
  let n := fcuOf l
  let x := s.fcu n
  let wp := (s.rd (lrBlk l + R.LR_LOG_WPTR)).toNat
  let rp := (s.rd (lrBlk l + R.LR_LOG_RPTR)).toNat
  let free := s.logCap l - (wp + 2 ^ 32 - rp) % 2 ^ 32 - s.logAccepted l
  if 4096 ≤ x.logq.length then s.logDrop l 1
  else if free = 0 then (s.logDrop l 1).setF (lrBlk l) R.LR_STAT_LOG_FULL
  else s.setFcu n { x with logq := x.logq ++ [⟨l % 16, raw, s.now⟩] }

/-- Entries of the FCU queues of R243 move into an engine's intake queue of 256 while it has room, ascending links (R245). -/
def State.millPump (s : State) (e : Nat) : State :=
  (List.range 128).foldl (fun s i =>
    let l := 128 * (e / 16) + i
    let x := s.lk l
    let mine := x.millq.filter (fun q => q.1 == e)
    let m := s.millE e
    let k := min mine.length (256 - m.intake.length)
    if k = 0 then s
    else
      let s := s.setMill e { m with intake := m.intake ++ (mine.take k).map (fun q => (q.2, fcuOf l)) }
      s.setLk l { x with millq := x.millq.filter (fun q => q.1 != e) ++ mine.drop k }) s

/-- A link is held back: a queue of an enabled lossless destination is full (R243). -/
def State.linkHeldBack (s : State) (l : Nat) : Bool :=
  let x := s.lk l
  decide (64 ≤ x.fabq.length) || decide (64 ≤ x.millq.length)

/-- An entry whose code is uncorrectable, where it is verified: discarded, counted and recorded (R23). -/
def State.eccDrop (s : State) (l raw : Nat) : State :=
  ((s.fcuCnt l R.FCU_ECC_DROP_CNT 1).fcuStat l R.FCU_STAT_ECC_DROP).recordO 0x0090 (locator 13 (fcuOf l)) (natBits raw 63 32 + l * 2 ^ 32)

/-- An applied entry forwarded to each enabled destination (R242, R244); the Mill port discards one that fails its code (R23). -/
def State.forward (s : State) (l : Nat) (e : FEntry) (captured mue : Bool) : State :=
  let s := if s.lrOn l R.LR_CTRL_FAB_EN then let x := s.lk l; s.setLk l { x with fabq := x.fabq ++ [e] } else s
  let s :=
    if s.lrOn l R.LR_CTRL_MILL_EN then
      let m := s.lrMill l
      if mue then s.eccDrop l e.raw
      else if s.millTakes m (s.linkOwner l) then
        let x := s.lk l
        (s.setLk l { x with millq := x.millq ++ [(m, e.raw)] }).millPump m
      else s.fcuCnt l R.FCU_MILL_DROP_CNT 1
    else s
  let mode := s.lrF l R.LR_CTRL_LOG_MODE
  if mode = 2 || (mode == 1 && captured) then s.logOffer l e.raw else s

/-- A FAIL credit returned once every entry of the frame is applied or discarded (R238). -/
def State.failCredit (s : State) (l : Nat) (e : FEntry) : State :=
  if e.last && e.cred then let x := s.lk l; s.setLk l { x with rlF := (x.rlF + 1) % 256 } else s

/-- Cells of a record as an update leaves them; one of both cells is noted with what cell 1 held (R239). -/
def State.updRec (s : State) (n k c0 c1 : Nat) : State :=
  let old := (s.recCells k).2.toNat
  let s := s.setRec k c0 c1
  if old = c1 then s else s.setFcu n { s.fcu n with two := some (k, old, s.now) }

/-- A reset of an FCU's die: an update of both cells of a record at that very moment may have written cell 0 alone (R239). -/
def State.tearFcu (s : State) (n : Nat) : State :=
  match (s.fcu n).two with
  | none => s
  | some (k, old, t) =>
    if t = s.now then
      let (v, s) := s.fresh
      if v % 2 = 1 then s.setRec k (s.recCells k).1.toNat old else s
    else s

/-- A reset of every transceiver die. -/
def State.tearRecords (s : State) : State := s.cap.fcu.foldl (fun s e => s.tearFcu e.1) s

/-- Application of one entry (R235, R237, R239, R242): `ue` and `mue` say that its code is uncorrectable at the record update and at the Mill
forwarding port (R23). -/
def State.applyEntry (s : State) (l : Nat) (e : FEntry) (ue mue : Bool) : State :=
  let n := fcuOf l
  let w1 := natBits e.raw 63 32
  let chan := natBits w1 11 0
  let inc := natBits w1 19 12
  let s := s.clrTo n
  let s :=
    if ue then s.eccDrop l e.raw
    else if inc = 0 || natBits w1 31 29 != 0 then (s.fcuCnt l R.FCU_BAD_CNT 1).fcuStat l R.FCU_STAT_BAD_ENTRY
    else if (s.lk l).granted ≤ chan then (s.fcuCnt l R.FCU_UNGRANTED_CNT 1).fcuStat l R.FCU_STAT_UNGRANTED
    else
      match s.chanRec l chan with
      | none => s
      | some k =>
        let (a, b) := s.recCells k
        let (c0, c1, cap, torn) := recApply a.toNat b.toNat (natBits e.raw 31 0) inc e.time (s.lrOn l R.LR_CTRL_FF_EN)
        let s := s.updRec n k c0 c1
        let s := if torn then (s.fcuCnt l R.FCU_TORN_CNT 1).fcuStat l R.FCU_STAT_TORN_SEEN else s
        if natBit c0 36 then s.forward l e cap mue else s
  s.failCredit l e

/-! ### Direct link ports (R249-R251) -/

/-- The column-0 field a link's port binding names (R249, R265). -/
def State.portField (s : State) (l : Nat) : Nat := 32 * (l / 128) + 8 * s.lrF l R.LR_CTRL_PORT_FIELD

/-- The packet cut at a link's port as the field enters reset, in each direction: discarded whole and counted once; a received DATA frame is
consumed with that (R250). -/
def State.portCut (s : State) (l : Nat) : State :=
  let x := s.lk l
  let n := b2n x.dlpRx.isSome + b2n (!x.dlpTx.isEmpty)
  if n = 0 then s
  else
    let back := match x.dlpRx with | some p => b2n p.cred | none => 0
    (s.setLk l { x with dlpRx := none, dlpTx := [], rlD := (x.rlD + back) % 256 }).fcuCnt l R.FCU_FAB_DROP_CNT n

/-- Every port of a field that enters reset (R250). -/
def State.portsCut (s : State) (f : Nat) : State :=
  (s.llp.link.filter (fun e => s.portField e.1 == f)).foldl (fun s e => s.portCut e.1) s

/-- The record read view of R240. `match`/MREP of a channel held by a grant follow the link's step (R257). -/
def State.recView (s : State) (n rn : Nat) : List Word :=
  let k := 32768 * n + rn
  let (a, b) := s.recCells k
  let c0 := a.toNat
  let c1 := b.toNat
  let torn := natBit c0 32 != natBit c1 8
  let valid := natBit c0 34 && !(torn && !natBit c0 33)
  let g := (s.rd (granReg n (rn / 64))).toNat
  let l := 16 * n + natBits g 11 8
  let chan := 64 * natBits g 17 12 + rn % 64
  let x := s.lk l
  let granted := natBit g 7 && decide (chan < x.granted)
  let mat := match (if granted then x.tl.uni else none) with | some v => v | none => s.matBit k
  let mrep := granted && natBit x.tl.rep chan
  let time := natBits c1 56 9
  let vec := natBits c0 63 37 + natBits c1 61 57 * 2 ^ 27
  [ BitVec.ofNat 32 (natBits c0 31 0),
    BitVec.ofNat 32 (natBits c1 7 0 + 256 * b2n torn + 512 * b2n valid + 1024 * b2n mat + 2048 * b2n mrep +
      4096 * b2n (natBit c0 35) + 8192 * b2n (natBit c0 36) + 65536 * (time % 65536)),
    BitVec.ofNat 32 (time / 65536), BitVec.ofNat 32 vec ]

/-- Entries of a site still queued are discarded and counted (R256). -/
def State.fcuSiteReset (s : State) (l : Nat) : State :=
  let x := s.lk l
  let n := fcuOf l
  let f := s.fcu n
  let logs := f.logq.filter (fun e => e.link == l % 16)
  let d := x.failq.length + x.fabq.length + x.millq.length + logs.length
  let back := (x.failq.filter (fun e => e.last && e.cred)).length
  let s := s.setLk l { x with failq := [], fabq := [], millq := [], rlF := (x.rlF + back) % 256 }
  let s := s.setFcu n { f with logq := f.logq.filter (fun e => e.link != l % 16) }
  if d = 0 then s else (s.fcuCnt l R.FCU_RST_DROP_CNT d).fcuStat l R.FCU_STAT_RST_DROP

/-- Entries an engine's job no longer takes are discarded and counted where they came from (R270). -/
def State.millFlush (s : State) (e : Nat) : State :=
  let m := s.millE e
  let s := m.intake.foldl (fun s q => s.cnt (fcuBlk q.2 + R.FCU_MILL_DROP_CNT) 1) (s.setMill e { m with intake := [] })
  (List.range 128).foldl (fun s i =>
    let l := 128 * (e / 16) + i
    let x := s.lk l
    let k := (x.millq.filter (fun q => q.1 == e)).length
    if k = 0 then s
    else (s.setLk l { x with millq := x.millq.filter (fun q => q.1 != e) }).fcuCnt l R.FCU_MILL_DROP_CNT k) s

end Sys2Proof.Machine
end

