-- ==== Sys2Proof/Machine/Pins.lean ====
section
/-! DEFINITION. Pins of the user I/O: their functions and what they show (R568, R573, R578, R579). -/
namespace Sys2Proof.Machine

/-- A field of a pin's IO_PIN register. -/
def State.pinF (s : State) (b p : Nat) (f : Fld) : Nat := s.rf (gpioBlk b + 4 * p) f
/-- Function of a pin (R568). -/
def State.pinFunc (s : State) (b p : Nat) : Nat := s.pinF b p R.IO_PIN_FUNC
/-- Anchor field of a bank (R566). -/
def bankAnchor (b : Nat) : Nat := (b / 6) * 32 + 25 + b % 6
/-- A pin bit of a bank register. -/
def State.pinBit (s : State) (b ofs p : Nat) : Bool := natBit (s.rd (gpioBlk b + ofs)).toNat p
/-- A pin bit of a bank register replaced. -/
def State.setPinBit (s : State) (b ofs p : Nat) (v : Bool) : State :=
  let a := gpioBlk b + ofs
  s.wr a (wordSet (s.rd a) p p (b2n v))

/-- What a pin shows (R578). -/
inductive PinView where
  | hiZ | low | high | hold | fabric
  /-- the controller of its function, or the CLKMON clock -/
  | func (n : Nat)
  deriving DecidableEq, Repr

/-- A SAFE code (R580). -/
def pinSafe (n : Nat) : PinView := match n with | 0 => .hiZ | 1 => .low | 2 => .high | _ => .hold

/-- Tally group the functions 8-10 of a pin follow (R573). -/
def State.pinGroup (s : State) (b p : Nat) : Nat := if s.bankOwner b = 0x7F then s.pinF b p R.IO_PIN_ARG else s.bankOwner b

/-- The pin view of R578 and R579; `lost` marks an anchor field failed under R498. -/
def State.pinShows (s : State) (b p : Nat) : PinView :=
  let f := bankAnchor b
  let x := s.frt f
  let func := s.pinFunc b p
  if s.dbg.pins = 2 then .hiZ
  else if s.pwrState ≥ 3 ∨ s.dieDown (1 + b / 6) then .hiZ
  else if s.clk.safe then pinSafe (s.pinF b p R.IO_PIN_SAFE)
  else if func = 0 ∧ (!x.configured || x.gsr || x.siteHold || !x.io) = true then pinSafe (s.pinF b p R.IO_PIN_SAFE)
  else if func = 0 ∧ s.fieldHalted f then .hold
  else
    match func with
    | 0 => .fabric
    | 1 => if s.pinBit b R.GPIO_OE p then (if s.pinBit b R.GPIO_OUT p then .high else .low) else .hiZ
    | 5 => .hiZ
    | 6 => .low
    | 10 => .low
    | 8 => if s.flag (tallyBlk (s.pinGroup b p)) R.TALLY_RES_LO_ALL then .high else .low
    | 9 => if s.flag (tallyBlk (s.pinGroup b p)) R.TALLY_RES_LO_ANY then .high else .low
    | n => .func n

/-- Pins of a function that follow group `g` give a pulse (R568, R573): TALLY_DONE at each result. -/
def State.tallyPulses (s : State) (g : Nat) : State :=
  (List.range 384).foldl (fun s i =>
    if s.pinFunc (i / 16) (i % 16) == 10 && s.pinGroup (i / 16) (i % 16) == g && s.pinShows (i / 16) (i % 16) == .low then
      s.emit (.pinPulse (i / 16) (i % 16))
    else s) s

end Sys2Proof.Machine
end

