-- ==== Sys2Proof/Machine/TallyOps.lean ====
section
/-! DEFINITION. The tally tree: match state, steps and results (R257-R261), as operations. -/
namespace Sys2Proof.Machine

/-- Links of a site with TALLY_EN = 1. -/
def State.tallyLinks (s : State) (g : Nat) : List Nat :=
  (List.range 512).filter (fun l => s.linkOwner l == g && s.lrOn l R.LR_CTRL_TALLY_EN)

/-- A contributing link of a group (R258): of the site, ACTIVE, TALLY_EN = 1 and GRANTED not 0. -/
def State.contributes (s : State) (g l : Nat) : Bool :=
  s.linkOwner l == g && s.lrOn l R.LR_CTRL_TALLY_EN && s.linkState l == 2 && decide (0 < (s.lk l).granted)

/-- Contributing links of a group, in ascending order. -/
def State.contrib (s : State) (g : Nat) : List Nat := (s.tallyLinks g).filter (s.contributes g)

/-- A contributing link is complete (R258). -/
def State.linkComplete (s : State) (l : Nat) : Bool := decide ((s.lk l).granted ≤ (s.lk l).tl.cover)

/-- Match state of a channel in the current step (R257); on a timeout, a channel not reported is not matched (R259). -/
def State.chanMatch (s : State) (l c : Nat) (tmo : Bool) : Bool :=
  let t := (s.lk l).tl
  let v := match t.uni with
    | some v => v
    | none => match s.chanRec l c with | some k => s.matBit k | none => false
  v && !(tmo && !natBit t.rep c)

/-- Included channels of a link: INC_TALLY = 1. -/
def State.chanIncluded (s : State) (l c : Nat) : Bool :=
  match s.chanRec l c with | some k => natBit (s.recCells k).1.toNat 35 | none => false

/-- M and N of a link (R259). -/
def State.linkPartial (s : State) (tmo : Bool) (l : Nat) : Nat × Nat :=
  (List.range (s.lk l).granted).foldl (fun (a : Nat × Nat) c =>
    if s.chanIncluded l c then (a.1 + b2n (s.chanMatch l c tmo), a.2 + 1) else a) (0, 0)

/-- A W1C bit of TALLY_STAT, with the TALLY interrupt of the site (R266, R299). -/
def State.tallyEvt (s : State) (g : Nat) (f : Fld) : State := s.evt g 4 (tallyBlk g) f R.TALLY_IE f.lo

/-- A report discarded under R258. -/
def State.tallyStale (s : State) (g : Nat) : State :=
  if 64 ≤ g then s else (s.cnt (tallyBlk g + R.TALLY_STALE_CNT) 1).tallyEvt g R.TALLY_STAT_STALE

/-- OPEN of a group changed, in TALLY_STAT too. -/
def State.setOpen (s : State) (g : Nat) (x : TallySt) : State := (s.setTally g x).wf (tallyBlk g) R.TALLY_STAT_OPEN (b2n x.isOpen)

/-- A step closes with a result (R259): TALLY_RES, DONE, and the result on its way to link layers and fabric (R260). -/
def State.tallyClose (s : State) (g : Nat) (tmo : Bool) : State :=
  let x := s.tally g
  let ls := s.contrib g
  let (m, n) := ls.foldl (fun (a : Nat × Nat) l => let p := s.linkPartial tmo l; (a.1 + p.1, a.2 + p.2)) (0, 0)
  let bound (l : Nat) : Bool := s.lrOn l R.LR_CTRL_PORT_EN
  let all := s.tallyLinks g
  let res : TallyRes :=
    { step := x.cur, all := m == n, any := decide (0 < m), cnt := m, drop := x.drop, tmo := tmo, links := ls,
      port := match ls.find? bound with | some l => some l | none => all.find? bound,
      die := match ls.head? with | some l => some (l / 128) | none => all.head?.map (· / 128),
      upd := x.upd }
  let b := tallyBlk g
  let s := s.setOpen g { x with isOpen := false, res := x.res ++ [res] }
  let s := s.wr (b + R.TALLY_RES_LO) (BitVec.ofNat 32
    (res.step + 256 * b2n res.all + 512 * b2n res.any + 1024 * b2n res.drop + 2048 * b2n res.tmo))
  let s := s.wr (b + R.TALLY_RES_HI) (BitVec.ofNat 32 m)
  let s := if res.drop then s.tallyEvt g R.TALLY_STAT_LINK_DROP else s
  let s := if tmo then s.tallyEvt g R.TALLY_STAT_TIMEOUT else s
  (s.tallyEvt g R.TALLY_STAT_DONE).tallyPulses g

/-- The step closes when every contributing link is complete (R259). -/
def State.tallyCheck (s : State) (g : Nat) : State :=
  let ls := s.contrib g
  if (s.tally g).isOpen && !ls.isEmpty && ls.all s.linkComplete then s.tallyClose g false else s

/-- A link of group `g` that contributed has left ACTIVE (R258, R259). -/
def State.tallyLinkLeft (s : State) (g : Nat) : State :=
  let x := s.tally g
  if 64 ≤ g || !x.isOpen then s
  else
    let s := s.setTally g { x with drop := true }
    if (s.contrib g).isEmpty then s.tallyClose g false else s.tallyCheck g

/-- An open step closes without a result (R256, R266). -/
def State.tallyAbandon (s : State) (g : Nat) : State := s.setOpen g { s.tally g with isOpen := false }

/-- A report applied to its link (R257): FLAGS, FIRST and MAP of R216. -/
def State.matchApply (s : State) (l : Nat) (p : List Byte) : State :=
  let x := s.lk l
  let flags := (p.getD 0 0).toNat
  if natBit flags 1 then
    s.setLk l { x with tl := { uni := some (natBit flags 2), cover := x.tl.cover + x.granted, rep := 2 ^ x.granted - 1 } }
  else
    let first := leBytes [p.getD 2 0, p.getD 3 0] % 4096
    let map := p.drop 4
    let chans := (List.range (8 * map.length)).map (first + ·)
    let inside := chans.filter (fun c => decide (c < x.granted))
    let out := chans.length - inside.length
    let s := inside.foldl (fun s c =>
      match s.chanRec l c with
      | some k => s.setMat k (natBit (map.getD ((c - first) / 8) 0).toNat ((c - first) % 8))
      | none => s) s
    let rep := inside.foldl (fun r c => if natBit r c then r else r + 2 ^ c) x.tl.rep
    let s := s.setLk l { x with tl := { uni := none, cover := x.tl.cover + inside.length, rep := rep } }
    if out = 0 then s else (s.fcuCnt l R.FCU_UNGRANTED_CNT out).fcuStat l R.FCU_STAT_UNGRANTED

/-- Coverage of a group's links cleared at the opening of a step (R258). -/
def State.tallyClear (s : State) (g : Nat) : State :=
  (List.range 512).foldl (fun s l => if s.linkOwner l == g then s.setLk l { s.lk l with tl := {} } else s) s

/-- A MATCH report meets its group (R256-R259). -/
def State.matchReport (s : State) (l : Nat) (p : List Byte) : State :=
  let g := s.linkOwner l
  let step := (p.getD 1 0).toNat
  let s := s.clrTo (fcuOf l)
  if 64 ≤ g then s
  else if s.siteInReset g then s.cnt (tallyBlk g + R.TALLY_STALE_CNT) 1
  else if !s.contributes g l || !s.flag (tallyBlk g) R.TALLY_CTRL_EN then s.tallyStale g
  else
    let x := s.tally g
    if x.isOpen && x.cur != step then s.tallyStale g
    else
      let s := if x.isOpen then s else (s.tallyClear g).setOpen g { x with cur := step, isOpen := true, drop := false }
      let s := s.matchApply l p
      (s.setTally g { s.tally g with upd := s.now }).tallyCheck g

/-- A tally beat of R251. -/
def tallyBeat (g : Nat) (r : TallyRes) : Nat :=
  r.step + g * 2 ^ 8 + b2n r.all * 2 ^ 14 + b2n r.any * 2 ^ 15 + r.cnt * 2 ^ 16 + b2n r.drop * 2 ^ 37 + b2n r.tmo * 2 ^ 38

/-- A MATCH result payload with its B1 byte in front (R213, R216). -/
def matchResult (g : Nat) (r : TallyRes) : List Byte :=
  [0x17#8, 1#8, BitVec.ofNat 8 r.step, BitVec.ofNat 8 g, BitVec.ofNat 8 (b2n r.all + 2 * b2n r.any)] ++ toBytes 3 r.cnt ++ [0#8]

end Sys2Proof.Machine
end

