-- ==== Sys2Proof/Machine/LinkOps.lean ====
section
/-! DEFINITION. The Limzan Lane Protocol as operations: frames and ordered sets (R194-R217), injectors (R225), link states
(R200, R201), replay (R210), delivery (R203-R208) and the hold queue (R223). -/
namespace Sys2Proof.Machine

/-! ### Encodings -/

/-- One bit of the IEEE 802.3 CRC-32, reflected (R205). -/
def crc32Bit (c : Nat) : Nat := if c % 2 = 1 then (c / 2) ^^^ 0xEDB88320 else c / 2
/-- CRC-32 of bytes (R205). -/
def crc32 (bs : List Byte) : Nat :=
  (bs.foldl (fun c b => (List.range 8).foldl (fun c _ => crc32Bit c) (c ^^^ b.toNat)) 0xFFFFFFFF) ^^^ 0xFFFFFFFF

/-- CRC-8 of bytes, most significant bit first, initial 0xFF (R195). -/
def crc8 (bs : List Byte) : Nat :=
  bs.foldl (fun c b => (List.range 8).foldl (fun c _ => if natBit c 7 then ((2 * c) % 256) ^^^ 7 else (2 * c) % 256) (c ^^^ b.toNat)) 0xFF

/-- Data symbols of a normal frame: header, APPLY, payload, CRC-32 (R205). -/
def LFrame.encode (f : LFrame) : List Byte :=
  let h := f.ty + b2n f.apply.isSome * 2 ^ 4 + f.seq * 2 ^ 8 + f.payload.length * 2 ^ 20 + f.tspec * 2 ^ 32
  let b := toBytes 8 h ++ (match f.apply with | some a => toBytes 8 a | none => []) ++ f.payload
  b ++ toBytes 4 (crc32 b)

/-- Header fields of received data symbols. -/
def hdrOf (bs : List Byte) : Nat := leBytes (bs.take 8)

/-- How R619 classifies a received frame: 0 good; 1 counted in FRAME_ERR_CNT; 2 counted in CRC_ERR_CNT. -/
def classify (f : RxFrame) : Nat :=
  let h := hdrOf f.bytes
  let len := natBits h 28 20
  let n := f.bytes.length
  let ty := natBits h 3 0
  if f.bad || decide (n < 8) || n != 12 + 8 * b2n (natBit h 4) + len then 1
  else if leBytes (f.bytes.drop (n - 4)) != crc32 (f.bytes.take (n - 4)) then 2
  else if ty = 0 || decide (5 < ty) || decide (256 < len) then 1
  else 0

/-- A good frame's content. -/
def frameOf (bs : List Byte) : LFrame :=
  let h := hdrOf bs
  let at_ := natBit h 4
  let body := (bs.drop (if at_ then 16 else 8)).take (natBits h 28 20)
  ⟨natBits h 3 0, if at_ then some (leBytes ((bs.drop 8).take 8)) else none, natBits h 19 8, natBits h 63 32, body⟩

/-- Bytes L0-L5 of a LINK ordered set (R207). -/
def linkSetBytes (ack : Nat) (nak rst : Bool) (d f c : Nat) : List Byte :=
  let b := toBytes 2 (ack + b2n nak * 2 ^ 12 + b2n rst * 2 ^ 13) ++ toBytes 1 d ++ toBytes 1 f ++ toBytes 1 c
  b ++ toBytes 1 (crc8 b)

/-- Bytes M0-M11 of a TIME ordered set: KIND, TSEQ, a time in 1/256 ns (R220). -/
def timeSetBytes (kind tseq t : Nat) : List Byte :=
  let b := toBytes 1 kind ++ toBytes 1 tseq ++ toBytes 8 (t / 256) ++ toBytes 1 (t % 256)
  b ++ toBytes 1 (crc8 b)

/-- Data symbols of a Bell frame from its BSEQ and its B1 byte with payload (R213). -/
def bellBytes (bseq : Nat) (body : List Byte) : List Byte :=
  let b := BitVec.ofNat 8 bseq :: body
  b ++ toBytes 4 (crc32 b)

/-! ### Injectors (R224, R225) -/

/-- An injector is active: INJ and EN are 1 (R224). `fi` is the offset of LINK_FI_TX or LINK_FI_RX. -/
def State.fiActive (s : State) (l fi : Nat) : Bool :=
  s.flag (linkBlk l) R.LINK_OWNER_INJ && natBit (s.rd (linkBlk l + fi)).toNat 31

/-- ACTION of an injector. -/
def State.fiAction (s : State) (l fi : Nat) : Nat := natBits (s.rd (linkBlk l + fi)).toNat 30 28
/-- COPY of an injector. -/
def State.fiCopy (s : State) (l fi : Nat) : Nat := natBits (s.rd (linkBlk l + fi)).toNat 25 24
/-- The alteration an injector makes, on a structure of `n` data symbols. -/
def State.fiAlt (s : State) (l fi n : Nat) : TxAlt :=
  ⟨min (natBits (s.rd (linkBlk l + fi + 4)).toNat 24 16) (n - 1), natBits (s.rd (linkBlk l + fi)).toNat 23 22⟩

/-- One step of the LFSR with polynomial x^32 + x^22 + x^2 + x + 1, in the form of `Config.lfsrForm` (R225). -/
def lfsrStep (v : Word) : Word :=
  let n := v.toNat
  let up (b : Nat) : Word := BitVec.ofNat 32 (2 * n + b)
  let down (b : Nat) : Word := BitVec.ofNat 32 (n / 2 + 2 ^ 31 * b)
  let par (l : List Nat) : Nat := l.foldl (fun a i => a + n / 2 ^ i) 0 % 2
  match Config.lfsrForm with
  | 0 => up (par [31, 21, 1, 0])
  | 1 => down (par [0, 10, 30, 31])
  | 2 => if n / 2 ^ 31 % 2 = 1 then up 0 ^^^ 0x00400007#32 else up 0
  | 3 => if n % 2 = 1 then down 0 ^^^ 0x80200003#32 else down 0

/-- A candidate passes an injector: its new state, and whether it is chosen (R225). -/
def State.fiStep (s : State) (l fi : Nat) (x : FiSt) : FiSt × Bool :=
  let w := (s.rd (linkBlk l + fi)).toNat
  if natBits w 27 26 = 1 then
    let v := lfsrStep x.lfsr
    let k := if natBits w 15 12 = 0 then 16 else natBits w 15 12
    ({ cnt := x.cnt + 1, lfsr := v }, v.toNat % 2 ^ k == 0)
  else
    let n := max 2 (natBits (s.rd (linkBlk l + fi + 4)).toNat 15 0)
    ({ x with cnt := x.cnt + 1 }, (x.cnt + 1) % n == 0)

/-- A normal frame is a candidate of an injector: ACTION 1-3 and its TYPE bit set. -/
def State.fiFrame (s : State) (l fi ty : Nat) : Bool :=
  let a := s.fiAction l fi
  s.fiActive l fi && decide (1 ≤ a ∧ a ≤ 3) && decide (1 ≤ ty ∧ ty ≤ 5) && natBit (s.rd (linkBlk l + fi)).toNat ty

/-- A Bell frame is a candidate: ACTION 4 or 5. -/
def State.fiBell (s : State) (l fi : Nat) : Bool :=
  let a := s.fiAction l fi
  s.fiActive l fi && (a == 4 || a == 5)

/-! ### Transmission -/

/-- The link accepts frames and ordered sets: HELLO_WAIT or ACTIVE (R199). -/
def State.linkOpen (s : State) (l : Nat) : Bool := s.linkState l == 1 || s.linkState l == 2

/-- One copy of a Bell frame of an injected pair, `fi` the injector's choice (R225). -/
def State.bellCopy (s : State) (l : Nat) (bs : List Byte) (hit : Bool) (second : Nat) : State :=
  if hit && natBit (s.fiCopy l R.LINK_FI_TX) second then
    if s.fiAction l R.LINK_FI_TX = 4 then s else s.sendLane l (.bell bs (some (s.fiAlt l R.LINK_FI_TX bs.length)))
  else s.sendLane l (.bell bs none)

/-- The two copies of the oldest waiting Bell frame, through the transmit-side injector (R215, R225), on an ACTIVE link. DESIGN CHOICE: a frame that
waited for a partner that did not set BELL_RX is discarded, since the part sends it no result (R216; log entry 12). -/
def State.bellSend (s : State) (l : Nat) : State :=
  let x := s.lk l
  match x.bellq with
  | [] => s
  | body :: t =>
    if s.linkState l ≠ 2 then s
    else if !natBit x.caps 1 then s.setLk l { x with bellq := t }
    else
      let bs := bellBytes x.bseq body
      let (fi, hit) := if s.fiBell l R.LINK_FI_TX then s.fiStep l R.LINK_FI_TX x.fiTx else (x.fiTx, false)
      let s := s.setLk l { x with bellq := t, bseq := (x.bseq + 1) % 256, fiTx := fi }
      let s := if hit then s.linkCnt l R.FI_TX_CNT 1 else s
      (s.bellCopy l bs hit 0).bellCopy l bs hit 1

/-- Every waiting Bell pair, first in, first out. -/
def bellDrain : Nat → Nat → State → State
  | 0, _, s => s
  | n + 1, l, s => bellDrain n l (s.bellSend l)

/-- A frame or ordered set leaves a link, behind every Bell pair that waits, which preempts it (R215). -/
def State.sendItem (s : State) (l : Nat) (i : LaneItem) : State := (bellDrain (s.lk l).bellq.length l s).sendLane l i

/-- A frame put on the lane, which it occupies for its symbols with SOF and EOF. -/
def State.emitFrame (s : State) (l : Nat) (f : LFrame) (alt : Option TxAlt) : State :=
  let bs := f.encode
  let x := s.lk l
  (s.setLk l { x with txUntil := max s.now x.txUntil + s.symNs l (bs.length + 2) }).sendItem l (.frame bs alt)

/-- A frame held for REORDER follows the frame just sent (R225), in the states that send frames (R199). -/
def State.afterFrame (s : State) (l : Nat) (held : Option LFrame) : State :=
  match if s.linkOpen l then held else none with
  | none => s
  | some g => (s.setLk l { s.lk l with heldTx := none }).emitFrame l g none

/-- A normal frame sent or replayed through the transmit-side injector (R225). -/
def State.sendFrame (s : State) (l : Nat) (f : LFrame) : State :=
  let x := s.lk l
  let held := x.heldTx
  if s.fiFrame l R.LINK_FI_TX f.ty then
    let (fi, hit) := s.fiStep l R.LINK_FI_TX x.fiTx
    let a := s.fiAction l R.LINK_FI_TX
    let s := s.setLk l { x with fiTx := fi }
    if !hit || (a == 3 && held.isSome) then (s.emitFrame l f none).afterFrame l held
    else
      let s := s.linkCnt l R.FI_TX_CNT 1
      if a = 1 then s
      else if a = 2 then (s.emitFrame l f (some (s.fiAlt l R.LINK_FI_TX f.encode.length))).afterFrame l held
      else s.setLk l { s.lk l with heldTx := some f }
  else (s.emitFrame l f none).afterFrame l held

/-- A LINK ordered set with the receiver's acknowledgement and limits (R207, R209). -/
def State.sendLinkSet (s : State) (l : Nat) (nak : Bool) : State :=
  let x := s.lk l
  let s := if nak then s.linkCnt l R.NAK_TX_CNT 1 else s
  s.sendItem l (.linkSet (linkSetBytes ((x.rxNext + 4095) % 4096) nak false x.rlD x.rlF x.rlC))

/-- A LINK ordered set with RST = 1, and the COM that separates it from the next (R199, R201). -/
def State.sendRst (s : State) (l : Nat) : State := (s.sendLane l (.linkSet (linkSetBytes 0 false true 0 0 0))).sendLane l .com

/-- A NAK and NAKED, unless NAKED is set (R208). -/
def State.sendNak (s : State) (l : Nat) : State :=
  let x := s.lk l
  if x.naked then s else (s.setLk l { x with naked := true }).sendLinkSet l true

/-- A normal frame in progress ends with ABORT (R201, R210), or with its lane in IDLE, where nothing is sent (R199). -/
def State.abortTx (s : State) (l : Nat) : State :=
  let x := s.lk l
  if s.now < x.txUntil then
    let s := s.setLk l { x with txUntil := s.now }
    if s.linkState l = 0 then s else s.sendLane l .abort
  else s

/-- An AT frame for a partner that did not set AT_RX is discarded (R223, R254). -/
def State.atDrop (s : State) (l : Nat) : State := (s.cnt (lrBlk l + R.LR_AT_DROP_CNT) 1).setF (lrBlk l) R.LR_STAT_AT_DROP

/-! ### CTRL engine (R229, R230) -/

/-- A CTRL request completes: CODE, BUSY, DONE with its interrupt. -/
def State.ctrlDone (s : State) (l code : Nat) : State :=
  let b := linkBlk l
  let s := s.setLk l { s.lk l with ctrl := none }
  let s := (s.wf b R.LINK_CTRL_CODE_CODE code).clrF b R.LINK_CTRL_STAT_BUSY
  s.evt (s.linkOwner l) 3 b R.LINK_CTRL_STAT_DONE R.LINK_IE 0

/-- A CTRL request in progress completes with LINKDOWN (R201, R219). -/
def State.ctrlDown (s : State) (l : Nat) : State := if (s.lk l).ctrl.isSome then s.ctrlDone l 7 else s

/-! ### Link states (R200, R201) -/

/-- Key under which a lane or link reports: REFCLK when its lane went DOWN with cause REFCLK (R592). -/
def State.linkKey (s : State) (l : Nat) : Nat :=
  if s.rf (laneBlk l) R.LANE_STAT_DOWN_CAUSE == 4 then locator 1 s.clk.ref else locator 6 l

/-- A report of a lane or link with the link's owner as its site, from the link (R179, R200, R592). -/
def State.linkReport (s : State) (l code data : Nat) : State :=
  let (v, s) := s.fresh
  s.reportSites (s.linkKey l) code (locator 6 l) (v % 5) data (oneSite (s.linkOwner l))

/-- Departure from ACTIVE or HELLO_WAIT: CAUSE; ACTIVE is reported to the concentrator, the frame in progress aborted, the
CTRL request completed, the TIME exchange ended, and the link stops contributing to its group. Called with the new state in
force. -/
def State.linkDepart (s : State) (l old cause : Nat) : State :=
  let b := linkBlk l
  let s := if old = 1 || old = 2 then s.wf b R.LINK_STAT_CAUSE cause else s
  let x := s.lk l
  let s := s.setLk l { x with hello := [], exch := none }
  if old = 2 then
    let s := (s.abortTx l).ctrlDown l
    let s := s.linkReport l 0x0051 (s.rd (b + R.LINK_STAT)).toNat
    if s.lrOn l R.LR_CTRL_TALLY_EN && decide (0 < x.granted) then s.tallyLinkLeft (s.linkOwner l) else s
  else s

/-- A link moves to a state with a cause. -/
def State.linkMove (s : State) (l new cause : Nat) : State :=
  let old := s.linkState l
  (s.wf (linkBlk l) R.LINK_STAT_STATE new).linkDepart l old cause

/-- The fresh start of every entry into HELLO_WAIT (R201, R212). -/
def State.helloFresh (s : State) (l : Nat) : State :=
  let x := s.lk l
  let d := x.replay.length + (match x.heldTx with | some f => b2n (!x.replay.contains f) | none => 0)
  let unmark (h : HeldFrame) : HeldFrame := { h with cred := false }
  let s := s.setLk l { x with
    rxNext := 0, naked := false, txNext := 0, replay := [], runs := 0, nak := none, heldTx := none,
    sentD := 0, sentC := 0, limD := 0, limC := 0, rcD := 0, rcF := 0, rcC := 0, rlD := 32, rlF := 32, rlC := 4,
    bellLast := none, bellBad := false, bseq := 0, spoilF := false, spoilB := false, hello := [], exch := none,
    hold := x.hold.map unmark, rel := x.rel.map unmark, failq := x.failq.map (fun e => { e with cred := false }) }
  if d = 0 then s else s.linkCnt l R.TX_DISCARD_CNT d

/-- A link enters HELLO_WAIT. -/
def State.toHelloWait (s : State) (l cause : Nat) : State := (s.linkMove l 1 cause).helloFresh l

/-- A link enters RESYNC: LINK sets with RST = 1 (R199, R201). -/
def State.toResync (s : State) (l cause : Nat) : State :=
  let s := s.linkMove l 3 cause
  let s := (s.linkEvt l R.LINK_STAT_RESYNC_EVT).abortTx l
  let x := s.lk l
  let s := s.setLk l { x with resyncs := s.now :: (x.resyncs.filter (fun t => decide (s.now < t + 1000000000))) }
  (((s.sendRst l).sendRst l).sendRst l).sendRst l

/-- A link's lane leaves UP (R200, row 1): IDLE with REMOVED. -/
def State.linkLaneDown (s : State) (l : Nat) : State :=
  if s.linkState l = 0 then s else (s.linkMove l 0 1).linkEvt l R.LINK_STAT_REMOVED

/-- A link's lane enters UP in LLP mode (R200, row 2). -/
def State.linkLaneUp (s : State) (l : Nat) : State := if s.linkState l = 0 then s.toHelloWait l 0 else s

/-! ### Replay (R210) -/

/-- A replay: counted; four in a row that release nothing move an ACTIVE link to RESYNC; otherwise the frame in progress is
aborted and every unacknowledged frame sent again, in order. -/
def State.replayNow (s : State) (l : Nat) : State :=
  let s := s.linkCnt l R.REPLAY_CNT 1
  let x := s.lk l
  let s := s.setLk l { x with runs := x.runs + 1 }
  if 4 ≤ x.runs + 1 ∧ s.linkState l = 2 then s.toResync l 3
  else x.replay.foldl (fun s f => s.sendFrame l f) (s.abortTx l)

/-- REPLAY_TMO of a link in ns. -/
def State.replayTmoNs (s : State) (l : Nat) : Nat := s.symNs l (s.rf (linkBlk l) R.LINK_CFG_REPLAY_TMO)

/-- ACKSEQ received (R210): frames up to it are released, or it is counted in ACK_ERR_CNT. -/
def State.ackSeq (s : State) (l ack : Nat) : State :=
  let x := s.lk l
  let oldest := (x.txNext + 4096 - x.replay.length) % 4096
  let n := (ack + 1 + 4096 - oldest) % 4096
  if x.replay.length < n then s.linkCnt l R.ACK_ERR_CNT 1
  else if n = 0 then s
  else s.setLk l { x with replay := x.replay.drop n, runs := 0 }

/-- NAK received, `runs` the run of replays before its ACKSEQ released frames: one that finds no frame unacknowledged leaves it as it was (R210). -/
def State.nakIn (s : State) (l ack runs : Nat) : State :=
  let s := s.linkCnt l R.NAK_RX_CNT 1
  let x := s.lk l
  let again := match x.nak with | some (a, t) => a == ack && decide (s.now < t + s.replayTmoNs l) | none => false
  if x.replay.isEmpty then s.setLk l { x with runs := runs }
  else if again then s
  else (s.setLk l { x with nak := some (ack, s.now) }).replayNow l

/-- A new LIMIT for a type (R211): the limit to keep, and whether it is an error. -/
def limitIn (old new : Nat) : Nat × Bool := if 127 < (new + 256 - old) % 256 then (old, true) else (new, false)

/-- The credit limits of a LINK set (R211). -/
def State.limitsIn (s : State) (l d c : Nat) : State :=
  let x := s.lk l
  let (ld, ed) := limitIn x.limD d
  let (lc, ec) := limitIn x.limC c
  let s := s.setLk l { x with limD := ld, limC := lc }
  if ed || ec then (s.linkCnt l R.CREDIT_ERR_CNT (b2n ed + b2n ec)).linkEvt l R.LINK_STAT_CREDIT_ERR else s

/-! ### Delivery (R203-R208, R217-R219, R223) -/

/-- A frame that breaks a rule (R206). -/
def State.protoErr (s : State) (l : Nat) : State := (s.linkCnt l R.PROTO_ERR_CNT 1).linkEvt l R.LINK_STAT_PROTO_ERR

/-- A credit of a type returned: DATA 3, FAIL 4, CTRL 5. -/
def State.retCredit (s : State) (l ty : Nat) : State :=
  let x := s.lk l
  if ty = 3 then s.setLk l { x with rlD := (x.rlD + 1) % 256 }
  else if ty = 4 then s.setLk l { x with rlF := (x.rlF + 1) % 256 }
  else if ty = 5 then s.setLk l { x with rlC := (x.rlC + 1) % 256 }
  else s

/-- A frame of a credited type has arrived: counted, and whether it held a credit (R212). -/
def State.takeCredit (s : State) (l ty : Nat) : State × Bool :=
  let x := s.lk l
  if ty = 3 then (s.setLk l { x with rcD := (x.rcD + 1) % 256 }, x.rlD != x.rcD)
  else if ty = 4 then (s.setLk l { x with rcF := (x.rcF + 1) % 256 }, x.rlF != x.rcF)
  else if ty = 5 then (s.setLk l { x with rcC := (x.rcC + 1) % 256 }, x.rlC != x.rcC)
  else (s, true)

/-- Whether a frame from a partner obeys the row of its type (R217, R218). -/
def typeOk (f : LFrame) : Bool :=
  let len := f.payload.length
  match f.ty with
  | 1 => len == 16 && f.apply.isNone && f.tspec == 0
  | 3 => decide (f.tspec < 65536)
  | 4 => decide (16 ≤ len) && len % 16 == 0 && f.apply.isNone && f.tspec == 0
  | 5 =>
    let op := natBits f.tspec 11 8
    let code := natBits f.tspec 14 12
    let cnt := natBits f.tspec 21 16 + 1
    !natBit f.tspec 15 && natBits f.tspec 31 22 == 0 && decide (code ≤ 3) &&
      ((op == 8 && len == (if code = 0 then 4 * cnt else 0)) || (op == 9 && len == 0))
  | _ => false

/-- A CTRL response released to the engine (R229, R230). -/
def State.ctrlResponse (s : State) (l : Nat) (f : LFrame) : State :=
  let tag := natBits f.tspec 7 0
  let op := natBits f.tspec 11 8
  let code := natBits f.tspec 14 12
  match (s.lk l).ctrl with
  | none => s.linkCnt l R.CTRL_LATE_CNT 1
  | some (t, isRead, cnt) =>
    if t != tag then s.linkCnt l R.CTRL_LATE_CNT 1
    else if (if isRead then op != 8 || (code == 0 && f.payload.length != 4 * cnt) else op != 9) then s.protoErr l
    else
      let s := (List.range (f.payload.length / 4)).foldl (fun s i =>
        s.wr (linkBlk l + R.LINK_CTRL_DATA + 4 * i) (BitVec.ofNat 32 (leBytes ((f.payload.drop (4 * i)).take 4)))) s
      s.ctrlDone l code

/-- A frame leaves the hold queue (R223): a DATA frame toward its data path, a CTRL response to the engine; a site in reset
discards it (R219). -/
def State.releaseFrame (s : State) (l : Nat) (h : HeldFrame) : State :=
  let back (s : State) : State := if h.cred then s.retCredit l h.f.ty else s
  if s.siteInReset (s.linkOwner l) then back (s.linkCnt l R.RX_INRESET_CNT 1)
  else if h.f.ty = 3 then let x := s.lk l; s.setLk l { x with rel := x.rel ++ [h] }
  else back (s.ctrlResponse l h.f)

/-- Heads of the hold queue that pass at once: without AT, late, or out of range (R223). -/
def drainHold : Nat → Nat → State → State
  | 0, _, s => s
  | n + 1, l, s =>
    match (s.lk l).hold with
    | [] => s
    | h :: t =>
      let pop (s : State) : State := s.setLk l { s.lk l with hold := t }
      let now := s.ttcLink l
      match h.f.apply with
      | none => drainHold n l ((pop s).releaseFrame l h)
      | some a =>
        if a < now then
          drainHold n l ((((pop s).linkCnt l R.LATE_APPLY_CNT 1).linkEvt l R.LINK_STAT_LATE_APPLY).releaseFrame l h)
        else if now + 2 ^ 30 < a then drainHold n l (((pop s).linkCnt l R.APPLY_RANGE_CNT 1).releaseFrame l h)
        else s

/-- A frame enters the hold queue, or waits behind it (R223): a queue that was empty, or whose heads have gone, drains. -/
def State.holdFrame (s : State) (l : Nat) (h : HeldFrame) : State :=
  let x := s.lk l
  let s := s.setLk l { x with hold := x.hold ++ [h] }
  if x.hold.isEmpty then drainHold 1 l s else s

/-- FAIL entries of a delivered frame, the link's number written into each (R234, R238); a site in reset discards them
(R256). -/
def State.failFrame (s : State) (l : Nat) (f : LFrame) : State :=
  let n := f.payload.length / 16
  if s.siteInReset (s.linkOwner l) then
    ((s.fcuCnt l R.FCU_RST_DROP_CNT n).fcuStat l R.FCU_STAT_RST_DROP).retCredit l 4
  else
    let es := (List.range n).map (fun i =>
      let raw := leBytes ((f.payload.drop (16 * i)).take 16)
      (⟨natSet raw 60 52 l, s.ttcLink l, i + 1 == n, true⟩ : FEntry))
    let x := s.lk l
    s.setLk l { x with failq := x.failq ++ es }

/-- A HELLO_ACK queued (R203, R620). -/
def State.helloAck (s : State) (l granted status : Nat) (kept : Bool) : State :=
  let b := linkBlk l
  let pay := toBytes 2 l ++ toBytes 2 granted ++ toBytes 1 status ++ toBytes 1 1 ++ toBytes 1 (s.linkOwner l) ++
    toBytes 1 (b2n kept) ++ toBytes 8 s.part.uid
  let x := s.lk l
  let s := s.setLk l { x with waitq := x.waitq ++ [⟨2, none, 0, 0, pay⟩] }
  (s.wf b R.LINK_HELLO2_STATUS status).wf b R.LINK_HELLO2_KEPT (b2n kept)

/-- A HELLO delivered in sequence (R203, R620). -/
def State.helloIn (s : State) (l : Nat) (f : LFrame) : State :=
  let b := linkBlk l
  let pid := leBytes (f.payload.take 8)
  let ch := leBytes ((f.payload.drop 8).take 2) % 8192
  let ver := (f.payload.getD 10 0).toNat
  let caps := (f.payload.getD 11 0).toNat
  let s := ((s.wf b R.LINK_HELLO_CHANNELS ch).wf b R.LINK_HELLO2_CAPS caps).wf b R.LINK_HELLO2_VERSION ver
  let x := s.lk l
  if s.linkState l = 2 then s.helloAck l x.granted 5 x.kept
  else if ver ≠ 1 then (s.helloAck l 0 4 false).linkEvt l R.LINK_STAT_HELLO_FAIL
  else if ch = 0 || 4096 < ch then (s.helloAck l 0 3 false).linkEvt l R.LINK_STAT_HELLO_FAIL
  else s.setLk l { x with hello := x.hello ++ [(pid, ch, caps)] }

/-- A good frame in sequence is delivered (R206, R208, R212, R219). -/
def State.deliver (s : State) (l : Nat) (f : LFrame) : State :=
  let (s, ok) := s.takeCredit l f.ty
  let proto := !typeOk f || (s.linkState l != 2 && f.ty != 1)
  let s := if ok then s else (s.linkCnt l R.CREDIT_ERR_CNT 1).linkEvt l R.LINK_STAT_CREDIT_ERR
  let s := if proto then s.protoErr l else s
  if !ok || proto then s.retCredit l f.ty
  else if f.ty = 1 then s.helloIn l f
  else if f.ty = 4 then s.failFrame l f
  else if s.siteInReset (s.linkOwner l) then (s.linkCnt l R.RX_INRESET_CNT 1).retCredit l f.ty
  else s.holdFrame l ⟨f, true⟩

/-- The sequence check of R208 on a frame that ended in EOF. -/
def State.frameCheck (s : State) (l : Nat) (f : RxFrame) : State :=
  let x := s.lk l
  match classify f with
  | 1 => (s.linkCnt l R.FRAME_ERR_CNT 1).sendNak l
  | 2 => (s.linkCnt l R.CRC_ERR_CNT 1).sendNak l
  | _ =>
    let g := frameOf f.bytes
    if g.seq = x.rxNext then
      (s.setLk l { x with rxNext := (x.rxNext + 1) % 4096, naked := false }).deliver l g
    else if (x.rxNext + 4096 - g.seq) % 4096 ≤ 64 then (s.linkCnt l R.DUP_RX_CNT 1).sendLinkSet l false
    else (s.linkCnt l R.CRC_ERR_CNT 1).sendNak l

/-- Received data symbols altered by the receive-side injector (R225): kinds 0 and 1 are symbol errors, kind 2 a wrong
byte. -/
def alterRx (f : RxFrame) (a : TxAlt) : RxFrame :=
  if a.kind = 2 then { f with bytes := f.bytes.set a.pos ((f.bytes.getD a.pos 0) ^^^ 1) } else { f with bad := true }

/-- A frame held by the receive-side injector meets the sequence check after the frame just checked, in the states that accept frames (R199). -/
def State.afterRx (s : State) (l : Nat) (held : Option RxFrame) : State :=
  match if s.linkOpen l then held else none with
  | none => s
  | some g => (s.setLk l { s.lk l with heldRx := none }).frameCheck l g

/-- A frame that ended in EOF arrives, through the receive-side injector (R225). -/
def State.frameIn (s : State) (l : Nat) (f : RxFrame) : State :=
  let x := s.lk l
  let held := x.heldRx
  if s.fiFrame l R.LINK_FI_RX (natBits (hdrOf f.bytes) 3 0) then
    let (fi, hit) := s.fiStep l R.LINK_FI_RX x.fiRx
    let a := s.fiAction l R.LINK_FI_RX
    let s := s.setLk l { x with fiRx := fi }
    if !hit || (a == 3 && held.isSome) then (s.frameCheck l f).afterRx l held
    else
      let s := s.linkCnt l R.FI_RX_CNT 1
      if a = 1 then s
      else if a = 2 then (s.frameCheck l (alterRx f (s.fiAlt l R.LINK_FI_RX f.bytes.length))).afterRx l held
      else s.setLk l { s.lk l with heldRx := some f }
  else (s.frameCheck l f).afterRx l held

/-! ### Bell frames (R213-R216) -/

/-- A Bell copy is bad (R213). -/
def bellBad (f : RxFrame) : Bool :=
  let n := f.bytes.length
  f.bad || n != 7 + (f.bytes.getD 1 0).toNat % 16 || decide (n < 7) ||
    leBytes (f.bytes.drop (n - 4)) != crc32 (f.bytes.take (n - 4))

/-- A MATCH report obeys its layout (R216). -/
def reportOk (b1 : Nat) (p : List Byte) : Bool :=
  let flags := (p.getD 0 0).toNat
  let blen := b1 % 16
  b1 / 16 == 1 && flags % 2 == 0 && flags / 8 == 0 && decide (3 ≤ blen) &&
    (if natBit flags 1 then blen == 3 else decide (4 ≤ blen) && (p.getD 3 0).toNat / 16 == 0)

/-- A Bell copy meets the LAST rule (R214). -/
def State.bellCheck (s : State) (l : Nat) (f : RxFrame) : State :=
  let x := s.lk l
  if bellBad f then
    let s := (s.setLk l { x with bellBad := true }).linkCnt l R.BELL_CRC_CNT 1
    if x.bellBad then (s.linkCnt l R.BELL_LOST_CNT 1).linkEvt l R.LINK_STAT_BELL_LOST else s
  else
    let q := (f.bytes.getD 0 0).toNat
    let b1 := (f.bytes.getD 1 0).toNat
    let p := (f.bytes.drop 2).take (b1 % 16 + 1)
    if x.bellLast = some q then (s.setLk l { x with bellBad := false }).linkCnt l R.BELL_DUP_CNT 1
    else
      let gap := match x.bellLast with | some a => (q + 512 - a - 1) % 256 | none => 0
      let s := s.setLk l { x with bellBad := false, bellLast := some q }
      let s := if gap = 0 then s else s.linkCnt l R.BELL_GAP_CNT gap
      if !reportOk b1 p || 64 ≤ s.linkOwner l then s.protoErr l
      else let y := s.lk l; s.setLk l { y with mq := y.mq ++ [p] }

/-- A symbol or set makes the open structures bad (R196). -/
def State.spoil (s : State) (l : Nat) (o : RxOpen) : State :=
  let x := s.lk l
  s.setLk l { x with spoilF := x.spoilF || o.frame, spoilB := x.spoilB || o.inner }

/-- The Bell copy or ordered set in progress ends: whether it is bad under R196, and the state after. A bad one makes the normal frame around it
bad. -/
def State.innerEnds (s : State) (l : Nat) (bad inFrame : Bool) : Bool × State :=
  let x := s.lk l
  let b := bad || x.spoilB
  (b, s.setLk l { x with spoilB := false, spoilF := x.spoilF || (b && inFrame) })

/-- The normal frame being received ends (R196): whether it has been made bad, and the state after. -/
def State.frameEnds (s : State) (l : Nat) : Bool × State := ((s.lk l).spoilF, s.setLk l { s.lk l with spoilF := false })

/-- A Bell frame reaches the link layer for transmission (R215). -/
def State.bellQueue (s : State) (l : Nat) (body : List Byte) : State :=
  let x := s.lk l
  if x.bellq.length < 4 then s.setLk l { x with bellq := x.bellq ++ [body] }
  else (s.setLk l { x with bellq := x.bellq.drop 1 ++ [body] }).linkCnt l R.BELL_TX_DROP_CNT 1

end Sys2Proof.Machine
end

