-- ==== Sys2Proof/Machine/Lane.lean ====
section
/-! DEFINITION. Serial lanes: quads, lane states, alignment, equalisation, raw and PRBS modes (R171-R190, R618). -/
namespace Sys2Proof.Machine

/-- Highest number of lanes above 16.0 Gb/s in a mode, R25. -/
def laneLimit : Mode → Nat
  | .harvest => 512 | .market => 384 | .fallow => 128

/-- The lane limit in force: a mode change lowers it first and raises it last (R26, R519). -/
def State.laneCap (s : State) : Nat := laneLimit (s.start.lanes.getD s.mode)

/-- Configured rate above 16.0 Gb/s for a LANE_CTRL value: N / 2^DIV tenths above 160 (R171, R173). -/
def State.fastCfg (s : State) (l : Nat) (v : Nat) : Bool :=
  decide (160 * 2 ^ natBits v 27 26 < s.pllN (quadOf l) (natBit v 28))

/-- Lanes that count toward the lane limit of R25 (R173). -/
def State.fastLanes (s : State) : Nat :=
  ((List.range 512).filter (fun l => s.laneState l != 0 && s.fastCfg l (s.rd (laneBlk l + R.LANE_CTRL)).toNat)).length

/-- What a lane's transmitter sends by itself in a state (R178): electrical idle, K28.5, or the pattern of PRBS mode (R189). -/
def State.laneFill (s : State) (l st : Nat) : Option LaneItem :=
  if st = 0 || st = 7 then some .idle
  else if s.laneMode l = 3 then some (.prbs (s.rf (laneBlk l) R.LANE_PRBS_POLY) (s.flag (laneBlk l) R.LANE_PRBS_INV))
  else if st < 6 && s.laneMode l != 2 then some .com
  else none

/-- The receiver's state as a lane moves: OFF ends CDR lock (R190); leaving PRBS ends the checker's lock, which seeds itself anew (R189); leaving
ALIGNING abandons a window (R182). -/
def State.laneRx (s : State) (l old st : Nat) : State :=
  let b := laneBlk l
  let s := if st = 0 then s.clrF b R.LANE_STAT_CDR_LOCK else s
  let s := if old = 4 && st != 4 then s.setLane l { s.lane l with winOpen := false, winWait := false } else s
  if old = 8 && st != 8 then (s.clrF b R.LANE_PRBS_CHK_LOCK).setLane l { s.lane l with prbs := {} } else s

/-- The transmitter's state as a lane moves (R175, R178): each bring-up starts at negative running disparity. DEDUCED: a bring-up starts where a lane
comes to WAIT_SIGNAL or LOCKING from another state (log entry 12). -/
def State.laneTxTo (s : State) (l old st : Nat) : State :=
  let s := if (st = 1 || st = 2) && old != 1 && old != 2 then s.setLane l { s.lane l with rdTx := false } else s
  match if s.laneFill l st == s.laneFill l old then none else s.laneFill l st with
  | some i => s.sendLane l i
  | none => s

/-- A lane moves to a state; leaving UP takes its link down (R200). -/
def State.laneTo (s : State) (l st : Nat) : State :=
  let old := s.laneState l
  let s := ((s.wf (laneBlk l) R.LANE_STAT_STATE st).laneRx l old st).laneTxTo l old st
  if old = 6 && st != 6 then s.linkLaneDown l else s

/-- A lane enters WAIT_SIGNAL, or LOCKING where SIG_DET is high (R178). -/
def State.laneWait (s : State) (l : Nat) : State :=
  s.laneTo l (if s.flag (laneBlk l) R.LANE_STAT_SIG_DET then 2 else 1)

/-- A lane enters DOWN with a cause (R179): recorded, raised, reported keyed to the link. -/
def State.laneDown (s : State) (l cause : Nat) : State :=
  let s := (s.wf (laneBlk l) R.LANE_STAT_DOWN_CAUSE cause).laneTo l 7
  (s.laneEvt l R.LANE_STAT_DOWN_EVT).linkReport l 0x0050 (s.rd (laneBlk l + R.LANE_STAT)).toNat

/-- A lane enters UP (R178): UP_EVT; in LLP mode its link starts. -/
def State.laneUp (s : State) (l : Nat) : State :=
  let s := (s.laneTo l 6).laneEvt l R.LANE_STAT_UP_EVT
  if s.laneMode l = 0 then s.linkLaneUp l else s

/-! ### Quads (R172) -/

/-- A lane of a quad selects a PLL and is not OFF. -/
def State.pllBusy (s : State) (q : Nat) (pll1 : Bool) : Bool :=
  (List.range 4).any (fun i =>
    let l := 4 * q + i
    s.laneState l != 0 && s.flag (laneBlk l) R.LANE_CTRL_PLL == pll1)

/-- A QPLL_CTRL write (R172): as a whole, or refused. A new N or a new enable starts a lock; a disabled PLL is not locked. -/
def qpllWrite (q : Nat) (v : Word) (s : State) : State :=
  let b := quadBlk q
  let w := v.toNat
  let o := (s.rd (b + R.QPLL_CTRL)).toNat
  let n0 := natBits w 8 0; let n1 := natBits w 24 16
  let chg0 := n0 != natBits o 8 0 || (natBit o 15 && !natBit w 15)
  let chg1 := n1 != natBits o 24 16 || (natBit o 31 && !natBit w 31)
  let bad (n : Nat) : Bool := decide (n < 160) || decide (320 < n)
  if bad n0 || bad n1 || (chg0 && s.pllBusy q false) || (chg1 && s.pllBusy q true) then s.setF b R.QPLL_STAT_REFUSED
  else
    let s := s.wr (b + R.QPLL_CTRL) (v &&& 0x81FF81FF#32)
    let s := if chg0 then s.clrF b R.QPLL_STAT_LOCK0 else s
    if chg1 then s.clrF b R.QPLL_STAT_LOCK1 else s

/-- QPLL_CTRL_WRITE (R172). -/
def execQpllCtrlWrite (r : Req) (q : Fin 128) (v : Word) (s : State) : Host.Outcome State Fault Refusal :=
  .next (s.gated r (quadBlk q + R.QPLL_CTRL) true (qpllWrite q v))

/-- QPLL_LOCK (R172): an enabled PLL locks. -/
def execQpllLock (q : Fin 128) (pll1 : Bool) (s : State) : Host.Outcome State Fault Refusal :=
  let b := quadBlk q
  if s.flag b (if pll1 then R.QPLL_CTRL_EN1 else R.QPLL_CTRL_EN0) then
    .next (s.setF b (if pll1 then R.QPLL_STAT_LOCK1 else R.QPLL_STAT_LOCK0))
  else .next s

/-! ### Lane control and states (R173, R176-R180) -/

/-- A lane goes through OFF and starts its bring-up (R172); during a reference fallback it is DOWN (R174). -/
def State.laneRestart (s : State) (l : Nat) : State :=
  let s := s.laneTo l 0
  let s := s.setLane l { s.lane l with rdRx := none, prbs := {} }
  if s.refFallback then s.laneDown l 4 else s.laneWait l

/-- A LANE_CTRL write with EN 1 restarts a lane: one with EN 0 before; any other at a change of PLL or divider (R172), but in DOWN with cause REFCLK
never (R174, R179), and where it is not in DOWN also at a change of mode. DEDUCED: a lower rate starts a bring-up out of DOWN too (R179's last
sentence), a mode does not (log entry 12). -/
def State.laneStarts (s : State) (l old w : Nat) : Bool :=
  !natBit old 31 ||
    (if s.laneState l = 7 then natBits w 28 26 != natBits old 28 26 && s.rf (laneBlk l) R.LANE_STAT_DOWN_CAUSE != 4
     else natBits w 30 26 != natBits old 30 26)

/-- A LANE_CTRL write (R172, R173, R174): refused as a whole by the lane limit; EN 0 takes the lane to OFF; a change may restart it. -/
def laneCtrlWrite (l : Nat) (v : Word) (s : State) : State :=
  let b := laneBlk l
  let w := v.toNat
  let old := (s.rd (b + R.LANE_CTRL)).toNat
  let others := s.fastLanes - b2n (s.laneState l != 0 && s.fastCfg l old)
  let n := others + b2n (natBit w 31 && s.fastCfg l w)
  if s.laneCap < n && s.fastLanes < n then s.laneEvt l R.LANE_STAT_RATE_REFUSED
  else
    let s := s.wr (b + R.LANE_CTRL) (v &&& 0xFC000000#32)
    if !natBit w 31 then s.laneTo l 0
    else if s.laneStarts l old w && s.pwrState != 2 then s.laneRestart l
    else s

/-- LANE_CTRL_WRITE (R173). -/
def execLaneCtrlWrite (r : Req) (l : Fin 512) (v : Word) (s : State) : Host.Outcome State Fault Refusal :=
  .next (s.gated r (laneBlk l + R.LANE_CTRL) true (laneCtrlWrite l v))

/-- LANE_SIGNAL_DETECT (R178): SIG_DET rises; WAIT_SIGNAL moves to LOCKING. -/
def execLaneSignalDetect (l : Fin 512) (s : State) : Host.Outcome State Fault Refusal :=
  let s := s.setF (laneBlk l) R.LANE_STAT_SIG_DET
  .next (if s.laneState l = 1 then s.laneTo l 2 else s)

/-- CDR lock lost (R176): LOL where it was locked. -/
def State.cdrLost (s : State) (l : Nat) : State :=
  if s.flag (laneBlk l) R.LANE_STAT_CDR_LOCK then (s.clrF (laneBlk l) R.LANE_STAT_CDR_LOCK).laneEvt l R.LANE_STAT_LOL else s

/-- LANE_SIGNAL_LOSS (R178): SIG_DET has been low for 1 µs; a lane neither OFF nor DOWN returns to WAIT_SIGNAL. -/
def execLaneSignalLoss (l : Fin 512) (s : State) : Host.Outcome State Fault Refusal :=
  let s := (s.clrF (laneBlk l) R.LANE_STAT_SIG_DET).cdrLost l
  .next (if s.laneState l = 0 || s.laneState l = 7 then s else s.laneTo l 1)

/-- LANE_CDR_LOCK (R176, R178): in LOCKING with the PLL locked, ADAPTING follows; SLIPS counts from this lock. -/
def execLaneCdrLock (l : Fin 512) (s : State) : Host.Outcome State Fault Refusal :=
  let b := laneBlk l
  if s.laneState l = 2 && s.pllLocked (quadOf l) (s.flag b R.LANE_CTRL_PLL) then
    let s := ((s.setF b R.LANE_STAT_CDR_LOCK).wf b R.LANE_ALIGN_SLIPS 0).clrF b R.LANE_ALIGN_SLIP_BUSY
    .next ((s.setLane l { s.lane l with rdRx := none, eb := {}, word := [] }).laneTo l 3)
  else .next s

/-- LANE_LOSS_OF_LOCK (R176, R178): LOL; with SIG_DET high the lane returns to LOCKING. -/
def execLaneLossOfLock (l : Fin 512) (s : State) : Host.Outcome State Fault Refusal :=
  let st := s.laneState l
  let s := s.cdrLost l
  .next (if st = 0 || st = 7 || st = 1 || st = 2 then s else s.laneWait l)

/-- LANE_EYE with a measurement (R189). -/
def State.setEye (s : State) (l w h : Nat) : State :=
  s.wr (laneBlk l + R.LANE_EYE) (BitVec.ofNat 32 (2 ^ 31 + w * 2 ^ 16 + h))

/-- LANE_ADAPT_DONE (R180, R185): after 2 ms, the equalisers hold their adapted settings unless frozen, and the eye check moves the
lane to ALIGNING or PRBS, or to DOWN. -/
def execLaneAdaptDone (l : Fin 512) (width : BitVec 6) (height : BitVec 10) (ctle : BitVec 4) (dfe : BitVec 8) (s : State) :
    Host.Outcome State Fault Refusal :=
  let b := laneBlk l
  if s.laneState l ≠ 3 then .next s
  else
    let s := if s.flag b R.LANE_RXEQ_FREEZE then s else (s.wf b R.LANE_RXEQ_CTLE ctle.toNat).wf b R.LANE_RXEQ_DFE1 dfe.toNat
    let s := s.setEye l width.toNat height.toNat
    if height.toNat < 25 || width.toNat < 16 then .next (s.laneDown l 3)
    else if s.laneMode l = 3 then .next (s.laneTo l 8)
    else .next ((s.laneTo l 4).laneEvt l R.LANE_STAT_ALIGN_REQ)

/-- LANE_DOWN_REARM (R179): SIG_DET low for 10 µs re-arms a lane in DOWN, except with cause REFCLK. -/
def execLaneDownRearm (l : Fin 512) (s : State) : Host.Outcome State Fault Refusal :=
  let b := laneBlk l
  if s.laneState l = 7 && s.rf b R.LANE_STAT_DOWN_CAUSE != 4 then .next ((s.clrF b R.LANE_STAT_SIG_DET).laneTo l 1)
  else .next s

/-! ### Alignment (R181, R182, R618) -/

/-- A window opens (R182): counts from 0. -/
def State.winOpenNow (s : State) (l : Nat) : State :=
  let b := laneBlk l
  ((s.wf b R.LANE_ALIGN_COM_WIN 0).wf b R.LANE_ALIGN_ERR_WIN 0).setLane l { s.lane l with winOpen := true, winWait := false }

/-- The bits of a LANE_CMD write act (R181, R182, R618): bit 0 SLIP, 1 WIN_START, 2 ALIGN_DONE, 3 ALIGN_FAIL. -/
def laneCmd (l v : Nat) (s : State) : State :=
  let b := laneBlk l
  let ends := natBit v 2 || natBit v 3
  if ends && v % 16 != 4 && v % 16 != 8 then s.laneEvt l R.LANE_STAT_CMD_IGNORED
  else if s.laneState l ≠ 4 then
    let s := if natBit v 0 then s.laneEvt l R.LANE_STAT_SLIP_IGNORED else s
    if natBit v 1 || ends then s.laneEvt l R.LANE_STAT_CMD_IGNORED else s
  else if natBit v 2 then
    if s.laneMode l = 0 then s.laneTo l 5 else s.laneUp l
  else if natBit v 3 then s.laneDown l 1
  else
    let s :=
      if natBit v 0 then
        if s.flag b R.LANE_ALIGN_SLIP_BUSY then s.laneEvt l R.LANE_STAT_SLIP_IGNORED
        else
          let s := (s.setF b R.LANE_ALIGN_SLIP_BUSY).wf b R.LANE_ALIGN_SLIPS ((s.rf b R.LANE_ALIGN_SLIPS + 1) % 10)
          s.setLane l { s.lane l with rdRx := none }
      else s
    if natBit v 1 then
      let s := s.clrF b R.LANE_ALIGN_WIN_DONE
      if s.flag b R.LANE_ALIGN_SLIP_BUSY then s.setLane l { s.lane l with winOpen := false, winWait := true } else s.winOpenNow l
    else s

/-- A LANE_CMD command from its source: the register, or the direct link port of a raw-mode lane (R255, R618). -/
def State.laneCmdFrom (s : State) (l : Nat) (src : LaneSrc) (bit : Nat) : State :=
  match src with
  | .reg r o => s.gated r (laneBlk l + R.LANE_CMD) true (laneCmd l (o.toNat ||| bit))
  | .port o =>
    if (s.laneMode l == 1 || s.laneMode l == 2) && s.lrOn l R.LR_CTRL_PORT_EN then laneCmd l (o.toNat ||| bit) s else s

/-- SLIP (R181). -/
def execSlip (l : Fin 512) (src : LaneSrc) (s : State) : Host.Outcome State Fault Refusal := .next (s.laneCmdFrom l src 1)
/-- WIN_START (R182). -/
def execWinStart (l : Fin 512) (src : LaneSrc) (s : State) : Host.Outcome State Fault Refusal := .next (s.laneCmdFrom l src 2)
/-- ALIGN_DONE (R618). -/
def execAlignDone (l : Fin 512) (src : LaneSrc) (s : State) : Host.Outcome State Fault Refusal := .next (s.laneCmdFrom l src 4)
/-- ALIGN_FAIL (R618). -/
def execAlignFail (l : Fin 512) (src : LaneSrc) (s : State) : Host.Outcome State Fault Refusal := .next (s.laneCmdFrom l src 8)

/-- Raw-mode status beat on port p + 1 of a link's binding (R255). -/
def State.rawStatus (s : State) (l : Nat) : State :=
  if (s.laneMode l == 1 || s.laneMode l == 2) && s.lrOn l R.LR_CTRL_PORT_EN then
    let b := laneBlk l
    let v := s.rf b R.LANE_ALIGN_WIN_DONE + 2 * s.rf b R.LANE_ALIGN_SLIP_BUSY + 4 * s.rf b R.LANE_ALIGN_COM_WIN +
      2 ^ 13 * s.rf b R.LANE_ALIGN_ERR_WIN
    s.emit (.dlpRx (32 * (l / 128) + 8 * s.lrF l R.LR_CTRL_PORT_FIELD) (s.lrF l R.LR_CTRL_PORT + 1) 3 [BitVec.ofNat 64 v] true)
  else s

/-- SLIP_SETTLE (R181, R182): SLIP_BUSY falls and a waiting window opens. -/
def execSlipSettle (l : Fin 512) (s : State) : Host.Outcome State Fault Refusal :=
  let b := laneBlk l
  if s.flag b R.LANE_ALIGN_SLIP_BUSY then
    let s := s.clrF b R.LANE_ALIGN_SLIP_BUSY
    .next ((if (s.lane l).winWait && s.laneState l == 4 then s.winOpenNow l else s).rawStatus l)
  else .next s

/-- ALIGN_WINDOW_CLOSE (R182): the window's 1,024 symbols are over. `com` and `err` are the counts of those of its symbols that no
LANE_RX_SYMBOL command brought. -/
def execAlignWindowClose (l : Fin 512) (com err : Fin 1025) (s : State) : Host.Outcome State Fault Refusal :=
  let b := laneBlk l
  if (s.lane l).winOpen then
    let s := s.setLane l { s.lane l with winOpen := false }
    let s := s.wf b R.LANE_ALIGN_COM_WIN (min 1024 (s.rf b R.LANE_ALIGN_COM_WIN + com.val))
    let s := s.wf b R.LANE_ALIGN_ERR_WIN (min 1024 (s.rf b R.LANE_ALIGN_ERR_WIN + err.val))
    .next ((s.setF b R.LANE_ALIGN_WIN_DONE).rawStatus l)
  else .next s

/-! ### Received symbols (R175, R177, R180, R187) -/

/-- The elastic buffer recentres (R177): EB_ERR, which fails the check (R180). -/
def State.ebErr (s : State) (l : Nat) : State :=
  let s := s.laneEvt l R.LANE_STAT_EB_ERR
  if s.laneState l = 5 then s.laneDown l 2 else s

/-- K28.6 as the buffer recognises it by decoding. -/
def EbSym.skp (e : EbSym) : Bool := e.view == 0x1DC#10

/-- A symbol enters the elastic buffer (R177): its state after, and whether it recentred. The second of two K28.6 deletes their pair from a buffer more
than half full, and repeats it in one less than half full, once in a run. DESIGN CHOICE: the half is 16 symbols, and an overflow keeps the
newest 16 (log entry 12). -/
def ElastBuf.push (x : ElastBuf) (e : EbSym) : ElastBuf × Bool :=
  let pair := e.skp && (match x.q.getLast? with | some p => p.skp | none => false) && !x.skp
  let n := x.q.length + 1
  if pair && x.run && decide (17 < n) then ({ x with q := x.q.dropLast, skp := true }, false)
  else if pair && x.run && decide (n < 15) then ({ x with q := x.q ++ [e, e, e], skp := true }, false)
  else
    let q := x.q ++ [e]
    let y := { x with q := q, skp := x.skp && e.skp, run := x.run || decide (16 ≤ q.length) }
    if 32 < q.length then ({ y with q := q.drop (q.length - 16) }, true) else (y, false)

/-- The link side reads the elastic buffer: the symbol read, the state after, and whether it recentred. A buffer that runs empty repeats its last
symbol until it is half full again; one that has not yet filled gives none. -/
def ElastBuf.pop (x : ElastBuf) : Option EbSym × ElastBuf × Bool :=
  if !x.run then (x.last, x, false)
  else match x.q with
    | e :: t => (some e, { x with q := t, last := some e }, false)
    | [] => (x.last, { x with run := false }, true)

/-- A frame or set in progress on an LLP lane is damaged (R177, R196). -/
def State.rxDamage (s : State) (l : Nat) (o : RxOpen) : State := if s.laneMode l = 0 && s.laneState l == 6 then s.spoil l o else s

/-- A received symbol at a lane, counted in an open window or, after alignment, in the lane's counters, unless a slip settles (R181, R182, R190); an
error in CHECKING fails the check (R180), and in UP it makes the open structures bad (R196). -/
def State.rxCount (s : State) (l : Nat) (d : Dec10) (o : RxOpen) : State :=
  let b := laneBlk l
  let cv := d.val.isNone
  let st := s.laneState l
  let s :=
    if st = 4 && (s.lane l).winOpen then
      let s := if d.val = some (true, byteK285) then s.wf b R.LANE_ALIGN_COM_WIN (min 1024 (s.rf b R.LANE_ALIGN_COM_WIN + 1)) else s
      if cv || d.disp then s.wf b R.LANE_ALIGN_ERR_WIN (min 1024 (s.rf b R.LANE_ALIGN_ERR_WIN + 1)) else s
    else s
  if st = 5 || st = 6 then
    let s := if cv then s.cnt (b + R.LANE_CV_CNT) 1 else s
    let s := if d.disp then s.cnt (b + R.LANE_DISP_CNT) 1 else s
    if cv || d.disp then (if st = 5 then s.laneDown l 2 else s.rxDamage l o) else s
  else s

/-- A symbol as the elastic buffer holds it: decoded, with its K and error flags (R177, R187). -/
def ebSym (sym : Nat) (d : Dec10) : EbSym :=
  let v := match d.val with | some (k, b) => b + 256 * b2n k | none => 0
  ⟨BitVec.ofNat 10 sym, BitVec.ofNat 10 (v + 512 * b2n (d.val.isNone || d.disp))⟩

/-- A received symbol (R175, R177): decoded, counted, and put into the elastic buffer. While a slip settles the running disparity stays
undetermined. -/
def State.rxSymbol (s : State) (l : Nat) (sym : Nat) (o : RxOpen) : State :=
  let busy := s.flag (laneBlk l) R.LANE_ALIGN_SLIP_BUSY
  let x := s.lane l
  let d := dec10 sym x.rdRx
  let e := x.eb.push (ebSym sym d)
  let s := s.setLane l { x with rdRx := if busy then none else d.rd, eb := e.1 }
  let s := if busy then s else s.rxCount l d o
  if e.2 then (s.rxDamage l o).ebErr l else s

/-- A word of eight symbols toward the port, symbol 0 first: decoded with K and error flags, or undecoded (R187). -/
def wordOf (dec : Bool) (w : List EbSym) : Nat :=
  (List.range w.length).foldl (fun a i =>
    let e := w.getD i ⟨0, 0⟩
    a + (if dec then e.view else e.sym).toNat * 1024 ^ i) 0

/-- Eight symbols read in a raw mode pass as a word to ports p and p + 1 of the bound field (R187, R255). -/
def State.rawWord (s : State) (l : Nat) (w : List EbSym) : State :=
  if s.lrOn l R.LR_CTRL_PORT_EN then
    let v := wordOf (s.laneMode l == 1) w
    let f := 32 * (l / 128) + 8 * s.lrF l R.LR_CTRL_PORT_FIELD
    let p := s.lrF l R.LR_CTRL_PORT
    (s.emit (.dlpRx f p 3 [BitVec.ofNat 64 v] false)).emit (.dlpRx f (p + 1) 3 [BitVec.ofNat 64 (v / 2 ^ 64)] false)
  else s

/-- The link side reads one symbol from the elastic buffer. In raw modes it joins the word being formed; in LLP mode the structures that symbols form
arrive by commands of their own. -/
def State.rxRead (s : State) (l : Nat) (o : RxOpen) : State :=
  let x := s.lane l
  let r := x.eb.pop
  let w := match r.1 with | some e => if s.laneMode l == 1 || s.laneMode l == 2 then x.word ++ [e] else [] | none => x.word
  let s := s.setLane l { x with eb := r.2.1, word := if w.length < 8 then w else [] }
  let s := if w.length < 8 then s else s.rawWord l w
  if r.2.2 then (s.rxDamage l o).ebErr l else s

/-- `n` symbols read. -/
def rxReads : Nat → Nat → RxOpen → State → State
  | 0, _, _, s => s
  | n + 1, l, o, s => rxReads n l o (s.rxRead l o)

/-- A symbol arrives at the pins of a lane, in ALIGNING, CHECKING and UP, and the part's own clock reads some (R177). -/
def laneRx (l sym reads : Nat) (o : RxOpen) (s : State) : State :=
  if s.laneState l < 4 || 6 < s.laneState l then s else rxReads reads l o (s.rxSymbol l sym o)

/-- LANE_RX_SYMBOL (R175, R177). -/
def execLaneRxSymbol (l : Fin 512) (sym : BitVec 10) (reads : Fin 3) (o : RxOpen) (s : State) : Host.Outcome State Fault Refusal :=
  .next (laneRx l.val sym.toNat reads.val o s)

/-- LANE_CHECK_DONE (R180): 16,777,216 clean symbols in CHECKING. -/
def execLaneCheckDone (l : Fin 512) (s : State) : Host.Outcome State Fault Refusal :=
  .next (if s.laneState l = 5 then s.laneUp l else s)

/-! ### Equalisation (R184, R185, R189) -/

/-- What LANE_TXEQ stores (R190). -/
def txeqStore (v : Word) : Word :=
  let w := v.toNat
  BitVec.ofNat 32 (min 20 (natBits w 20 16) * 2 ^ 16 + min 10 (natBits w 11 8) * 2 ^ 8 + natBits w 2 0)

/-- LANE_TXEQ_WRITE (R184). -/
def execLaneTxeqWrite (r : Req) (l : Fin 512) (v : Word) (s : State) : Host.Outcome State Fault Refusal :=
  .next (s.gated r (laneBlk l + R.LANE_TXEQ) true (fun s => s.wr (laneBlk l + R.LANE_TXEQ) (txeqStore v)))

/-- LANE_EQ_TRACK (R185): from ALIGNING onward CTLE moves by at most one code, and the DFE taps adapt, unless frozen. -/
def execLaneEqTrack (l : Fin 512) (up down : Bool) (dfe : BitVec 8) (s : State) : Host.Outcome State Fault Refusal :=
  let b := laneBlk l
  let st := s.laneState l
  if s.flag b R.LANE_RXEQ_FREEZE || st < 4 || st = 7 then .next s
  else
    let c := s.rf b R.LANE_RXEQ_CTLE
    let c := if up && !down then min 15 (c + 1) else if down && !up then c - 1 else c
    .next ((s.wf b R.LANE_RXEQ_CTLE c).wf b R.LANE_RXEQ_DFE1 dfe.toNat)

/-- LANE_EYE_REFRESH (R189): in every state from ALIGNING onward, and in PRBS. -/
def execLaneEyeRefresh (l : Fin 512) (width : BitVec 6) (height : BitVec 10) (s : State) : Host.Outcome State Fault Refusal :=
  if s.laneState l < 4 || s.laneState l = 7 then .next s else .next (s.setEye l width.toNat height.toNat)

/-! ### Raw-lane mode (R187, R255) -/

/-- Eight symbols encoded from a RAW_DEC word: data [7:0] and K flag [8] of each (R187). -/
def encWord : Nat → Nat → Bool → Nat × Bool
  | 0, _, rd => (0, rd)
  | n + 1, w, rd =>
    let (c, rd) := enc10 (natBit w 8) (w % 256) rd
    let (t, rd) := encWord n (w / 512) rd
    (c + 1024 * t, rd)

/-- Eight K28.5 for the coder, as a RAW_DEC word. -/
def fillWord : Nat := (List.range 8).foldl (fun a i => a + 0x1BC * 512 ^ i) 0

/-- A word leaves a raw-mode lane (R178, R187): the port's, or eight K28.5 where it offers none; RAW_DEC sends K28.5 alone until it is UP. In UP the
symbols inserted are counted in TX_FILL_CNT (R190). -/
def rawTx (l : Nat) (w : Option (BitVec 80)) (s : State) : State :=
  let st := s.laneState l
  let m := s.laneMode l
  if (m ≠ 1 && m ≠ 2) || st = 0 || st = 7 then s
  else
    let rd := (s.lane l).rdTx
    let out := match w with
      | some v => if m = 2 then v.toNat else if st = 6 then (encWord 8 v.toNat rd).1 else (encWord 8 fillWord rd).1
      | none => (encWord 8 fillWord rd).1
    let s := if w.isNone && st == 6 then s.cnt (laneBlk l + R.TX_FILL_CNT) 8 else s
    s.sendLane l (.raw (BitVec.ofNat 80 out))

/-- RAW_WORD_TX (R187). -/
def execRawWordTx (l : Fin 512) (w : Option (BitVec 80)) (s : State) : Host.Outcome State Fault Refusal := .next (rawTx l.val w s)

/-- Eight symbols arrive on a raw-mode lane and the part's own clock reads some, in ALIGNING or UP (R187). -/
def rawRx (l w reads : Nat) (s : State) : State :=
  if (s.laneMode l ≠ 1 && s.laneMode l ≠ 2) || (s.laneState l ≠ 4 && s.laneState l ≠ 6) then s
  else rxReads reads l ⟨false, false⟩ ((List.range 8).foldl (fun s i => s.rxSymbol l (w / 1024 ^ i % 1024) ⟨false, false⟩) s)

/-- RAW_WORD_RX (R187, R255). -/
def execRawWordRx (l : Fin 512) (w : BitVec 80) (reads : Fin 17) (s : State) : Host.Outcome State Fault Refusal :=
  .next (rawRx l.val w.toNat reads.val s)

/-! ### PRBS (R189) -/

/-- Length and second tap of a pattern's polynomial, by POLY. -/
def prbsTaps : Nat → Nat × Nat
  | 0 => (7, 6) | 1 => (15, 14) | 2 => (23, 18) | _ => (31, 28)

/-- One received bit at the checker: its new state, CHK_LOCK, and an error counted. -/
def prbsBit (poly : Nat) (x : PrbsSt) (locked : Bool) (bit : Bool) : PrbsSt × Bool × Bool :=
  let (n, m) := prbsTaps poly
  let want := xor (natBit x.sr (n - 1)) (natBit x.sr (m - 1))
  let push (v : Bool) : Nat := (x.sr * 2 + b2n v) % 2 ^ 31
  if locked then
    let err := bit != want
    let errs := (x.errs.map (· + 1)).filter (fun a => decide (a < 1024))
    let errs := if err then 0 :: errs else errs
    if 64 ≤ errs.length then ({}, false, err) else ({ x with sr := push want, errs := errs }, true, err)
  else if x.seen < n then ({ x with sr := push bit, seen := x.seen + 1, run := 0 }, false, false)
  else
    let run := if bit = want then x.run + 1 else 0
    if 64 ≤ run then ({ sr := push bit, seen := n }, true, false) else ({ x with sr := push bit, run := run }, false, false)

/-- PRBS_CHECK (R189): received bits, oldest first, against the selected pattern. -/
def execPrbsCheck (l : Fin 512) (bits : List Bool) (s : State) : Host.Outcome State Fault Refusal :=
  let b := laneBlk l
  if s.laneState l ≠ 8 then .next s
  else
    let inv := s.flag b R.LANE_PRBS_INV
    let poly := s.rf b R.LANE_PRBS_POLY
    let (x, lock, errs) := bits.foldl (fun (a : PrbsSt × Bool × Nat) v =>
      let (x, k, e) := prbsBit poly a.1 a.2.1 (xor v inv)
      (x, k, a.2.2 + b2n e)) ((s.lane l).prbs, s.flag b R.LANE_PRBS_CHK_LOCK, 0)
    let s := (s.setLane l { s.lane l with prbs := x }).wf b R.LANE_PRBS_CHK_LOCK (b2n lock)
    .next (if errs = 0 then s else s.cnt64 (b + R.LANE_PRBS_ERR_LO) errs)

end Sys2Proof.Machine
end

