-- ==== Sys2Proof/Machine/DramMap.lean ====
section
/-! DEFINITION. The DRAM interleave and the decoding of ring addresses (R160, R316, R319). -/
namespace Sys2Proof.Machine

/-- Channels in service in ascending order (R316), from DRAM_INTLV. -/
def State.dramList (s : State) : List Nat :=
  (List.range 12).filter (fun c => natBit (s.rf dramHub R.DRAM_INTLV_MASK) c)

/-- Bytes each channel in service contributes. -/
def State.dramCap (s : State) : Nat := s.rf dramHub R.DRAM_INTLV_CAP_GIB * 2 ^ 30

/-- Channel and channel offset of a DRAM address, where it is backed (R316). -/
def State.dramDecode (s : State) (a : Nat) : Option (Nat × Nat) :=
  let l := s.dramList
  let n := l.length
  if n = 0 || decide (n * s.dramCap ≤ a) then none
  else
    let x := a / 256
    some (l.getD (x % n) 0, x / n * 256 + a % 256)

/-- The region of a ring address (R160). -/
inductive Region where
  | dram (off : Nat) | gran (g off : Nat) | bm (idx off : Nat) | window (f off : Nat) | guest (off : Nat) | regs (a : Nat)
  | undecoded
  deriving DecidableEq, Repr

/-- Decoding of a ring address (R160). -/
def regionOf (a : Nat) : Region :=
  if a < 0x30000000000 then .dram a
  else if 0x100000000000 ≤ a ∧ a < 0x100004000000 then .gran ((a - 0x100000000000) / 0x200000) (a % 0x200000)
  else if 0x110000000000 ≤ a ∧ a < 0x110006000000 then .bm ((a - 0x110000000000) / 0x2000) (a % 0x2000)
  else if 0x120000000000 ≤ a ∧ a < 0x122000000000 then .window ((a - 0x120000000000) / 0x40000000) (a % 0x40000000)
  else if 0x180000000000 ≤ a ∧ a < 0x190000000000 then .guest (a - 0x180000000000)
  else if 0x1F0000000000 ≤ a ∧ a < 0x1F0009000000 then .regs (a - 0x1F0000000000)
  else .undecoded

end Sys2Proof.Machine
end

