-- ==== Sys2Proof/Machine/BlockMem.lean ====
section
/-! DEFINITION. Block memories (R104-R115), the code of their words (R125-R130), patrol, flip mask, remap and debug access
(R131-R136). -/
namespace Sys2Proof.Machine

/-! ### The code (R125-R127) -/

/-- Data columns of a code with `w`-bit columns: the values of weight 3, 5 or 7 in ascending order. -/
def eccCols (w n : Nat) : List Nat :=
  ((List.range (2 ^ w)).filter (fun x => let p := popCount w x; p == 3 || p == 5 || p == 7)).take n

/-- Columns of the BM code. -/
def cols8 : List Nat := eccCols 8 64
/-- Columns of the granary code. -/
def cols9 : List Nat := eccCols 9 128

/-- XOR of the columns of the data bits that are 1. -/
def eccXor : List Nat → Nat → Nat → Nat
  | [], _, _ => 0
  | h :: hs, d, i => (if natBit d i then h else 0) ^^^ eccXor hs d (i + 1)

/-- Check bits of a 64-bit word. -/
def check8 (d : Nat) : Nat := eccXor cols8 d 0
/-- Check bits of a 128-bit quarter. -/
def check9 (d : Nat) : Nat := eccXor cols9 d 0

/-- Outcome of a checked read (R127). -/
structure EccRes where
  data : Nat
  syn : Nat
  ce : Bool
  ue : Bool
  deriving DecidableEq, Repr

/-- Outcome of data `d` read with check `k` under a code. -/
def eccRead (cols : List Nat) (w d k : Nat) : EccRes :=
  let syn := eccXor cols d 0 ^^^ k
  if syn = 0 then ⟨d, 0, false, false⟩
  else if cols.contains syn then ⟨d ^^^ 2 ^ cols.idxOf syn, syn, true, false⟩
  else if (List.range w).any (fun j => syn == 2 ^ j) then ⟨d, syn, true, false⟩
  else ⟨d, syn, false, true⟩

/-- A 72-bit stored word of data and check. -/
def codeWord (d k : Nat) : BitVec 72 := BitVec.ofNat 72 (d % 2 ^ 64 + k % 256 * 2 ^ 64)

/-! ### Stored words, remap and flip mask -/

/-- Global index of BM `b` of field `f` (R105). -/
def bmIdx (f b : Nat) : Nat := f * 96 + b

/-- BMs whose taps and drivers a field's enabled ports occupy (R121, R167): the granary port's and the ring port's. -/
def portBms (d : FieldDesign) : List Nat := (if d.ringPort then [90, 91, 92, 93] else []) ++ (if d.granPort then [94, 95] else [])

/-- Configuration of a BM in a design that configures it; one that an enabled port occupies cannot be configured (R121). -/
def bmOf (d : FieldDesign) (b : Nat) : Option BmCfg :=
  if (portBms d).contains b then none else (d.bms.find? (fun e => e.1 == b)).map (·.2)

/-- Configuration of a BM, where the image configures it. -/
def State.bmCfg (s : State) (f b : Nat) : Option BmCfg := bmOf (s.designOf f) b

/-- Whether a field clock, by its settings in force, runs above a number of MHz (R78). -/
def State.ckAbove (s : State) (f ck lim : Nat) : Bool :=
  decide (lim * s.rf (fieldPage f + 4 * ck) R.FCK_DIV_DIV < 100 * s.rf (fieldPage f) R.FCK_CTRL_MULT)

/-- Whether a field clock runs (R85). -/
def State.ckRuns (s : State) (f ck : Nat) : Bool := natBit (s.rf (fieldPage f) R.FCK_STAT_CK_ON) ck

/-- Highest clock of a port in MHz (R111): the row without output register and with ECC on is the lower one. -/
def portLimit (grade : Nat) (g : BmCfg) (p : BmPort) : Nat :=
  if p.oreg || !g.ecc then gradeFabCap grade else if grade = 1 then 640 else if grade = 2 then 720 else 800

/-- The data a port returns when it is clocked faster than its row of R111 allows is undefined: a free value of its width. -/
def State.portData (s : State) (f : Nat) (g : BmCfg) (p : BmPort) (d : Nat) : Nat × State :=
  if s.ckAbove f p.ck.ck.val (portLimit s.part.grade g p) then
    let (v, s) := s.fresh
    (v % 2 ^ 2 ^ p.width.val, s)
  else (d, s)

/-- The remap entry's register. -/
def State.bmRemap (s : State) (f b e : Nat) : Nat := (s.rd (fieldPage f + R.BM_REMAP + 4 * (4 * b + e))).toNat

/-- The active remap entry of a word: valid and its copy complete (R133, R134). -/
def State.bmSpareOf (s : State) (f b w : Nat) : Option Nat :=
  [0, 1, 2, 3].find? (fun e =>
    let x := s.bmRemap f b e
    natBit x 31 && !natBit x 30 && natBits x 9 0 == w)

/-- The stored word an access reaches. -/
def State.bmWord (s : State) (f b w : Nat) : BitVec 72 :=
  match s.bmSpareOf f b w with
  | some e => tabGet (fun _ => 0) s.mem.bmSpare (bmIdx f b * 4 + e)
  | none => tabGet (fun _ => 0) s.mem.bm (bmIdx f b * 1024 + w)

/-- A stored word replaced. -/
def State.bmPut (s : State) (f b w : Nat) (x : BitVec 72) : State :=
  match s.bmSpareOf f b w with
  | some e => { s with mem := { s.mem with bmSpare := tabPut (fun _ => 0) s.mem.bmSpare (bmIdx f b * 4 + e) x } }
  | none => { s with mem := { s.mem with bm := tabPut (fun _ => 0) s.mem.bm (bmIdx f b * 1024 + w) x } }

/-- A write of a stored word: an armed flip mask for this BM is XORed into the bits stored, and ARM clears (R132). -/
def State.bmStore (s : State) (f b w d k : Nat) : State :=
  let p := fieldPage f
  if s.flag p R.BM_FLIP_CTRL_ARM && s.rf p R.BM_FLIP_CTRL_BM == b then
    let m := codeWord (s.rd64 (p + R.BM_FLIP_D_LO)) (s.rf p R.BM_FLIP_C_MASK)
    (s.clrF p R.BM_FLIP_CTRL_ARM).bmPut f b w (codeWord d k ^^^ m)
  else s.bmPut f b w (codeWord d k)

/-- A field event of the BM registers: the status bit set, class FIELD raised when BM_IE enables it. -/
def State.bmEvt (s : State) (f : Nat) (fld : Fld) : State := s.evt (s.fieldOwner f) 0 (fieldPage f) fld R.BM_IE fld.lo

/-- A CE or UE of a BM word counted and, as the first since the bit was clear, captured (R128, R138). -/
def State.bmErr (s : State) (f b w src : Nat) (x : EccRes) : State :=
  let p := fieldPage f
  let cap := BitVec.ofNat 32 (x.syn * 2 ^ 24 + src * 2 ^ 21 + b * 1024 + w)
  if x.ce then
    let s := if s.flag p R.BM_STAT_CE then s else s.wr (p + R.BM_CE_ADDR) cap
    (s.cnt (p + R.BM_CE_CNT) 1).bmEvt f R.BM_STAT_CE
  else if x.ue then
    let s := if s.flag p R.BM_STAT_UE then s else s.wr (p + R.BM_UE_ADDR) cap
    (s.cnt (p + R.BM_UE_CNT) 1).bmEvt f R.BM_STAT_UE
  else s

/-- The stored bits of a word checked where ECC is on, and what they show counted; `src` is the SOURCE code of R138. -/
def State.bmCheck (s : State) (f b w src : Nat) (ecc : Bool) (x : BitVec 72) : EccRes × State :=
  if ecc then
    let r := eccRead cols8 8 (natBits x.toNat 63 0) (natBits x.toNat 71 64)
    (r, s.bmErr f b w src r)
  else (⟨natBits x.toNat 63 0, 0, false, false⟩, s)

/-- A word read. -/
def State.bmRead (s : State) (f b w src : Nat) (ecc : Bool) : EccRes × State := s.bmCheck f b w src ecc (s.bmWord f b w)

/-- Bits of `d` under the mask replaced by those of `v`. -/
def mergeBits (d v m : Nat) : Nat := (d &&& ((2 ^ 64 - 1) ^^^ m)) ||| (v &&& m)

/-- A write of the bits `m` of a word. With ECC on, a write of fewer than 64 bits reads, corrects and merges (R129); a
merge into a word that reads UE is stored with its check XOR 0x03 (R130). -/
def State.bmWrite (s : State) (f b w v m src : Nat) (ecc : Bool) : State :=
  if !ecc then
    let x := (s.bmWord f b w).toNat
    s.bmStore f b w (mergeBits (natBits x 63 0) v m) (natBits x 71 64)
  else if m % 2 ^ 64 = 2 ^ 64 - 1 then s.bmStore f b w v (check8 v)
  else
    let (r, s) := s.bmRead f b w src true
    let d := mergeBits r.data v m
    s.bmStore f b w d (check8 d ^^^ (if r.ue then 3 else 0))

/-! ### Ports (R106-R110) -/

/-- Port state of a BM. -/
def State.bmSt (s : State) (f b : Nat) : BmSt := tabGet (fun _ => {}) s.mem.bmSt (bmIdx f b)
/-- Port state of a BM replaced. -/
def State.setBmSt (s : State) (f b : Nat) (x : BmSt) : State :=
  { s with mem := { s.mem with bmSt := tabPut (fun _ => {}) s.mem.bmSt (bmIdx f b) x } }

/-- Width in bits of a port. -/
def portW (p : BmPort) : Nat := 2 ^ p.width.val

/-- First bit of the entry an address names: entry ADDR[15:s] (R104, R107). -/
def portBit (p : BmPort) (addr : Nat) : Nat := addr / (portW p) * (portW p)

/-- Whether a port's UE flag is presented (R110). -/
def uePresented (g : BmCfg) (portB : Bool) : Bool :=
  let o := if portB then g.pa else g.pb
  g.ecc && (g.queue || o.dir.val == 2 || decide (o.width.val < 6))

/-- An edge at a port's output, with a new value or with none: straight to DOUT with OREG off, through the latch with OREG on, where the
output register loads what the latch held while REGCE is high; RSTO forces the register that drives DOUT to 0 (R107), which with OREG off is
the latch itself. -/
def State.bmEdge (s : State) (f b : Nat) (g : BmCfg) (portB : Bool) (d : Option (Nat × Bool)) (regce rsto : Bool) : State :=
  let x := s.bmSt f b
  let p := if portB then g.pb else g.pa
  let (lat, ul, dout, uo) := if portB then (x.latchB, x.ueLB, x.doutB, x.ueB) else (x.latchA, x.ueLA, x.doutA, x.ueA)
  let (v, ue) : DWord × Bool :=
    if !p.oreg && rsto then (0, false)
    else match d with
      | some (d, u) => (BitVec.ofNat 64 d, u && uePresented g portB)
      | none => (lat, ul)
  let (nd, nu) :=
    if rsto then ((0 : DWord), false)
    else if !p.oreg then (v, ue)
    else if regce then (lat, ul)
    else (dout, uo)
  let x := if portB then { x with latchB := v, ueLB := ue, doutB := nd, ueB := nu }
           else { x with latchA := v, ueLA := ue, doutA := nd, ueA := nu }
  (s.setBmSt f b x).emit (.bmDout f b portB nd nu)

/-- A new value enters a port's output. -/
def State.bmOut (s : State) (f b : Nat) (g : BmCfg) (portB : Bool) (d : Nat) (ue regce rsto : Bool) : State :=
  s.bmEdge f b g portB (some (d, ue)) regce rsto

/-- The access in the cycle after a narrow write of the same port is ignored: RMW_COLL, with the BM of the first captured
(R129). -/
def State.rmwColl (s : State) (f b : Nat) : State :=
  let p := fieldPage f
  let s := if s.flag p R.BM_STAT_RMW_COLL then s else s.wf p R.BM_EVT_IDX_COLL_BM b
  s.bmEvt f R.BM_STAT_RMW_COLL

/-- Whether the port's last access was a narrow write. -/
def BmSt.narrow (x : BmSt) (portB : Bool) : Bool := if portB then x.narrowB else x.narrowA
/-- The narrow-write mark of a port replaced. -/
def BmSt.setNarrow (x : BmSt) (portB v : Bool) : BmSt := if portB then { x with narrowB := v } else { x with narrowA := v }

/-- A BM that acts in a field: configured, with the field's global set/reset released. -/
def State.bmLive (s : State) (f b : Nat) : Option BmCfg := if (s.frt f).gsr then none else s.bmCfg f b

/-- The last write of the other port to this word, as a collision sees it (R108). -/
def BmSt.other (x : BmSt) (portB : Bool) (w : Nat) (coll : Coll) : Option BmLast :=
  match coll, x.last with
  | .apart, _ => none
  | _, some l => if l.portB != portB && l.word == w then some l else none
  | _, none => none

/-- A read by a port at an active edge (R107, R108): within t_COLL of the other port's write the old or the new entry is
returned, and the manual does not say which; at the same edge the old, with its own check. -/
def State.bmPortRead (s : State) (f b : Nat) (portB : Bool) (addr : Nat) (regce rsto : Bool) (coll : Coll) (g : BmCfg) :
    State :=
  let p := if portB then g.pb else g.pa
  let n := portBit p addr
  let w := n / 64
  let lo := n % 64
  if p.dir.val = 2 then s.bmOut f b { g with pa := { g.pa with oreg := false }, pb := { g.pb with oreg := false } } portB 0
      false regce rsto
  else
    let (x, s) :=
      match (s.bmSt f b).other portB w coll with
      | none => (s.bmWord f b w, s)
      | some l =>
        if coll = Coll.same then (l.was, s)
        else
          let (v, s) := s.fresh
          (if natBit v 0 then l.was else s.bmWord f b w, s)
    let (r, s) := s.bmCheck f b w (b2n portB) g.ecc x
    let (e, s) := s.portData f g p (natBits r.data (lo + (portW p) - 1) lo)
    s.bmOut f b g portB e r.ue regce rsto

/-- BM_PORT_READ: `rmw` says the edge is the one right after the port's last access. -/
def bmPortRead (f b : Nat) (portB : Bool) (addr : Nat) (regce rsto rmw : Bool) (coll : Coll) (s : State) : State :=
  match s.bmLive f b with
  | none => s
  | some g =>
    if g.queue then s
    else
      let x := s.bmSt f b
      let s := s.setBmSt f b (x.setNarrow portB false)
      if rmw && x.narrow portB then s.rmwColl f b
      else s.bmPortRead f b portB addr regce rsto coll g

/-- BM_PORT_READ (R107). -/
def execBmPortRead (f : Fin 128) (b : Fin 96) (portB : Bool) (addr : BitVec 16) (regce rsto rmw : Bool) (coll : Coll)
    (s : State) : Host.Outcome State Fault Refusal :=
  .next (bmPortRead f.val b.val portB addr.toNat regce rsto rmw coll s)

/-- Bits of a 64-bit word that a write of a port stores (R107). -/
def portMask (p : BmPort) (addr bwe : Nat) : Nat :=
  let lo := (portBit p addr) % 64
  if (portW p) ≥ 16 then
    ((List.range ((portW p) / 8)).foldl (fun m i => if natBit bwe i then m + 255 * 2 ^ (8 * i) else m) 0) * 2 ^ lo
  else (2 ^ (portW p) - 1) * 2 ^ lo

/-- What a write stores where it meets the other port's write of the same word (R108, R129): at one edge of a common clock
port A's bytes stand; within t_COLL each byte written by both is one port's, and the manual does not say which; where
either write is narrow, each byte is one of the writers' (the old contents' where that writer does not write it) or the old contents'. Answers
the value and mask to write. DEDUCED: a narrow write's two cycles are one command, and an access of the other port in either of them is one that
`coll` puts beside it (log entry 34). -/
def collide (x : BmLast) (portB narrow : Bool) (coll : Coll) (v m cur free : Nat) : Nat × Nat :=
  let lm := x.mask.toNat
  if narrow || x.narrow then
    let u := lm ||| m
    let own := mergeBits x.old.toNat v m
    let pick := (List.range 8).foldl (fun a i =>
      let sel := free / 4 ^ i % 3
      let byte := if sel = 0 then own else if sel = 1 then cur else x.old.toNat
      a + natBits byte (8 * i + 7) (8 * i) * 2 ^ (8 * i)) 0
    (pick, u)
  else if coll = .same then (v, if portB then m &&& ((2 ^ 64 - 1) ^^^ lm) else m)
  else
    let keep := (List.range 8).foldl (fun a i => if natBit free i then a + 255 * 2 ^ (8 * i) else a) 0
    (v, m &&& ((2 ^ 64 - 1) ^^^ (lm &&& keep)))

/-- A write by a port at an active edge (R107, R129), with DOUT by WRITE_MODE: WRITE_FIRST the new entry, READ_FIRST the
old, NO_CHANGE unchanged. -/
def State.bmPortWrite (s : State) (f b : Nat) (portB : Bool) (addr din bwe : Nat) (regce rsto : Bool) (coll : Coll)
    (g : BmCfg) : State :=
  let p := if portB then g.pb else g.pa
  let n := portBit p addr
  let w := n / 64
  let lo := n % 64
  let m := portMask p addr bwe
  let v := din % 2 ^ (portW p) * 2 ^ lo
  let narrow := g.ecc && decide (m ≠ 2 ^ 64 - 1)
  let was := s.bmWord f b w
  let raw := natBits was.toNat 63 0
  let old := if g.ecc then (eccRead cols8 8 raw (natBits was.toNat 71 64)).data else raw
  let oldUe := g.ecc && (eccRead cols8 8 raw (natBits was.toNat 71 64)).ue
  let (free, s) := s.fresh
  let (v, m) := match (s.bmSt f b).other portB w coll with
    | none => (v, m)
    | some l => collide l portB narrow coll v m old free
  let s := if g.ecc && !narrow && p.writeMode.val == 1 && p.dir.val != 2 then (s.bmRead f b w (b2n portB) true).2 else s
  let s := s.bmWrite f b w v m 4 g.ecc
  let x := (s.bmSt f b).setNarrow portB narrow
  let s := s.setBmSt f b { x with last := some ⟨portB, narrow, w, was, BitVec.ofNat 64 old, BitVec.ofNat 64 m⟩ }
  if p.dir.val = 2 then s
  else
    match p.writeMode.val with
    | 0 =>
      let (e, s) := s.portData f g p (natBits (mergeBits old v m) (lo + (portW p) - 1) lo)
      s.bmOut f b g portB e false regce rsto
    | 1 =>
      let (e, s) := s.portData f g p (natBits old (lo + (portW p) - 1) lo)
      s.bmOut f b g portB e oldUe regce rsto
    | _ => s.bmEdge f b g portB none regce rsto

/-- BM_PORT_WRITE; a read-only port ignores WE and reads, and before WE_ENABLE every port sees WE low (R496). -/
def bmPortWrite (f b : Nat) (portB : Bool) (addr din bwe : Nat) (regce rsto rmw : Bool) (coll : Coll) (s : State) : State :=
  match s.bmLive f b with
  | none => s
  | some g =>
    if g.queue then s
    else
      let x := s.bmSt f b
      let s := s.setBmSt f b (x.setNarrow portB false)
      if rmw && x.narrow portB then s.rmwColl f b
      else if (if portB then g.pb else g.pa).dir.val = 1 || !(s.frt f).we then s.bmPortRead f b portB addr regce rsto coll g
      else s.bmPortWrite f b portB addr din bwe regce rsto coll g

/-- BM_PORT_WRITE (R107). -/
def execBmPortWrite (f : Fin 128) (b : Fin 96) (portB : Bool) (addr : BitVec 16) (din : DWord) (bwe : BitVec 8)
    (regce rsto rmw : Bool) (coll : Coll) (s : State) : Host.Outcome State Fault Refusal :=
  .next (bmPortWrite f.val b.val portB addr.toNat din.toNat bwe.toNat regce rsto rmw coll s)

/-! ### The queue controller (R112-R115) -/

/-- Entries a queue holds. -/
def qCap (g : BmCfg) : Nat := 65536 / (portW g.pa)

/-- Both ports on one clock and polarity. -/
def qSingle (g : BmCfg) : Bool := g.pa.ck == g.pb.ck

/-- A queue held empty: QRST high, or its hold cycles not over (R115). -/
def BmSt.held (x : BmSt) : Bool := x.qrst || decide (0 < x.holdA) || decide (0 < x.holdB)

/-- FULL, EMPTY, AFULL and AEMPTY (R114, R115). -/
def BmSt.full (x : BmSt) (g : BmCfg) : Bool := x.held || decide ((qCap g) ≤ x.wcount)
/-- EMPTY. -/
def BmSt.empty (x : BmSt) : Bool := x.held || x.rcount == 0
/-- AFULL. -/
def BmSt.afull (x : BmSt) (g : BmCfg) : Bool := decide (g.af ≤ x.wcount)
/-- AEMPTY. -/
def BmSt.aempty (x : BmSt) (g : BmCfg) : Bool := decide (x.rcount ≤ g.ae)

/-- The BM of the first QOVF or QUNF is captured (R138). -/
def State.qErr (s : State) (f b : Nat) (fld : Fld) : State :=
  let p := fieldPage f
  let s := if s.flag p R.BM_STAT_QOVF || s.flag p R.BM_STAT_QUNF then s else s.wf p R.BM_EVT_IDX_QERR_BM b
  s.bmEvt f fld

/-- A push (R113): the entry after the last is written whole. -/
def bmPush (f b : Nat) (din : Nat) (s : State) : State :=
  match s.bmLive f b with
  | none => s
  | some g =>
    let x := s.bmSt f b
    if !g.queue || x.held || !(s.frt f).we then s
    else if x.full g then s.qErr f b R.BM_STAT_QOVF
    else
      let n := (x.head + x.count) % (qCap g) * (portW g.pa)
      let lo := n % 64
      let s := s.bmWrite f b (n / 64) (din % 2 ^ (portW g.pa) * 2 ^ lo) ((2 ^ (portW g.pa) - 1) * 2 ^ lo) 4 g.ecc
      s.setBmSt f b { s.bmSt f b with count := x.count + 1, wcount := x.wcount + 1,
                                      rcount := if (qSingle g) then x.count + 1 else x.rcount }

/-- BM_QUEUE_PUSH (R113). -/
def execBmQueuePush (f : Fin 128) (b : Fin 96) (din : DWord) (s : State) : Host.Outcome State Fault Refusal :=
  .next (bmPush f.val b.val din.toNat s)

/-- A pop (R113): the oldest entry reaches DOUT_B with port B's read latency. -/
def bmPop (f b : Nat) (regce rsto : Bool) (s : State) : State :=
  match s.bmLive f b with
  | none => s
  | some g =>
    let x := s.bmSt f b
    if !g.queue || x.held then s
    else if x.empty then s.qErr f b R.BM_STAT_QUNF
    else
      let n := x.head % (qCap g) * (portW g.pb)
      let (r, s) := s.bmRead f b (n / 64) 1 g.ecc
      let (e, s) := s.portData f g g.pb (natBits r.data (n % 64 + (portW g.pb) - 1) (n % 64))
      let s := s.bmOut f b g true e r.ue regce rsto
      s.setBmSt f b { s.bmSt f b with head := (x.head + 1) % (qCap g), count := x.count - 1, rcount := x.rcount - 1,
                                      wcount := if (qSingle g) then x.count - 1 else x.wcount }

/-- BM_QUEUE_POP (R113). -/
def execBmQueuePop (f : Fin 128) (b : Fin 96) (regce rsto : Bool) (s : State) : Host.Outcome State Fault Refusal :=
  .next (bmPop f.val b.val regce rsto s)

/-- A push or pop reaches the other side's count (R114). -/
def queueFlagUpdate (f b : Nat) (writeSide : Bool) (s : State) : State :=
  let x := s.bmSt f b
  s.setBmSt f b (if writeSide then { x with wcount := x.count } else { x with rcount := x.count })

/-- QUEUE_FLAG_UPDATE (R114). -/
def execQueueFlagUpdate (f : Fin 128) (b : Fin 96) (writeSide : Bool) (s : State) : Host.Outcome State Fault Refusal :=
  .next (queueFlagUpdate f.val b.val writeSide s)

/-- A queue emptied, and held for 3 cycles of each port clock. -/
def BmSt.resetQueue (x : BmSt) : BmSt := { x with head := 0, count := 0, wcount := 0, rcount := 0, holdA := 3, holdB := 3 }

/-- QRST high empties the queue; once low, it stays held for 3 cycles of each port clock, of which the command gives those
that have passed (R115). -/
def qrst (f b : Nat) (high : Bool) (ca cb : Nat) (s : State) : State :=
  let x := s.bmSt f b
  s.setBmSt f b (if high then { x.resetQueue with qrst := true }
    else { x with qrst := false, holdA := x.holdA - ca, holdB := x.holdB - cb })

/-- QRST (R115). -/
def execQrst (f : Fin 128) (b : Fin 96) (high : Bool) (cyclesA cyclesB : Nat) (s : State) :
    Host.Outcome State Fault Refusal := .next (qrst f.val b.val high cyclesA cyclesB s)

/-- The field's global set/reset acts on every queue as QRST does (R115): while it is asserted no queue acts, and at its release each queue of
the design in force is empty and its hold of 3 cycles runs; a QRST of its own stays as it is. -/
def State.queuesReset (s : State) (f : Nat) : State :=
  (s.designOf f).bms.foldl (fun s e => if e.2.queue then s.setBmSt f e.1 (s.bmSt f e.1).resetQueue else s) s

/-! ### Patrol, rewrite, flip and remap (R131-R134) -/

/-- BMs of a field with ECC on, in ascending order. -/
def State.eccBms (s : State) (f : Nat) : List Nat :=
  (List.range 96).filter (fun b => match s.bmCfg f b with | some g => g.ecc | none => false)

/-- The patrol engine reads its next word (R131); PERIOD 0 stops it. -/
def bmPatrol (f : Nat) (s : State) : State :=
  let l := s.eccBms f
  if s.rf (fieldPage f) R.BM_PATROL_PERIOD = 0 || l.isEmpty then s
  else
    let p := tabGet (fun _ => 0) s.mem.patrol f % (l.length * 1024)
    let s := (s.bmRead f (l.getD (p / 1024) 0) (p % 1024) 2 true).2
    let n := (p + 1) % (l.length * 1024)
    let s := { s with mem := { s.mem with patrol := tabPut (fun _ => 0) s.mem.patrol f n } }
    if n = 0 then s.bmEvt f R.BM_STAT_PATROL_DONE else s

/-- BM_PATROL_READ (R131). -/
def execBmPatrolRead (f : Fin 128) (s : State) : Host.Outcome State Fault Refusal := .next (bmPatrol f.val s)

/-- A word read, corrected and written back; one that reads UE keeps reading UE, with the poisoned check of R130. -/
def State.bmRefresh (s : State) (f b w src : Nat) : State :=
  let (r, s) := s.bmRead f b w src true
  s.bmStore f b w r.data (check8 r.data ^^^ (if r.ue then 3 else 0))

/-- A write to BM_REWRITE (R131). -/
def bmRewrite (f : Nat) (v : Word) (s : State) : State :=
  let b := natBits v.toNat 16 10
  match s.bmCfg f b with
  | some g => if natBit v.toNat 31 && g.ecc && decide (b < 96) then s.bmRefresh f b (natBits v.toNat 9 0) 6 else s
  | none => s

/-- BM_REWRITE (R131). -/
def execBmRewrite (r : Req) (f : Fin 128) (v : Word) (s : State) : Host.Outcome State Fault Refusal :=
  .next (s.gated r (fieldPage f.val + R.BM_REWRITE) true (bmRewrite f.val v))

/-- A write to BM_FLIP_CTRL (R132): a 1 written to ARM stands even in the cycle in which hardware clears it. -/
def bmFlipArm (f : Nat) (v : Word) (s : State) : State :=
  s.wr (fieldPage f + R.BM_FLIP_CTRL) (v &&& 0x8000007F)

/-- BM_FLIP_ARM (R132). -/
def execBmFlipArm (r : Req) (f : Fin 128) (v : Word) (s : State) : Host.Outcome State Fault Refusal :=
  .next (s.gated r (fieldPage f.val + R.BM_FLIP_CTRL) true (bmFlipArm f.val v))

/-- A write to a BM remap entry (R134): an entry that is valid, or a word that another valid entry of the BM holds, refuses
it. -/
def bmRemapWrite (f i : Nat) (v : Word) (s : State) : State :=
  let p := fieldPage f
  let b := i / 4
  let w := natBits v.toNat 9 0
  let valid (e : Nat) : Bool := natBit (s.bmRemap f b e) 31
  let refused := valid (i % 4) || [0, 1, 2, 3].any (fun e => e != i % 4 && valid e && natBits (s.bmRemap f b e) 9 0 == w)
  if refused then
    let s := if s.flag p R.BM_STAT_REMAP_REFUSED then s else s.wf p R.BM_EVT_IDX_REMAP_BM b
    s.bmEvt f R.BM_STAT_REMAP_REFUSED
  else s.wr (p + R.BM_REMAP + 4 * i) (BitVec.ofNat 32 (w + (if natBit v.toNat 31 then 0xC0000000 else 0)))

/-- BM_REMAP_WRITE (R134). -/
def execBmRemapWrite (r : Req) (f : Fin 128) (i : Fin 384) (v : Word) (s : State) : Host.Outcome State Fault Refusal :=
  .next (s.gated r (fieldPage f.val + R.BM_REMAP + 4 * i.val) true (bmRemapWrite f.val i.val v))

/-- A remap copy completes (R134): the corrected word stands in the spare, one that reads UE with the poisoned check, and
the entry is active. DESIGN CHOICE: the words of a BM that no image configures count as under ECC here, and without it in a debug access
(log entry 34). -/
def bmRemapDone (f i : Nat) (s : State) : State :=
  let b := i / 4
  let x := s.bmRemap f b (i % 4)
  if !natBit x 30 then s
  else
    let ecc := match s.bmCfg f b with | some g => g.ecc | none => true
    let w := natBits x 9 0
    let (r, s) := s.bmRead f b w 5 ecc
    let k := if ecc then check8 r.data ^^^ (if r.ue then 3 else 0) else natBits (s.bmWord f b w).toNat 71 64
    let s := { s with mem := { s.mem with
      bmSpare := tabPut (fun _ => 0) s.mem.bmSpare (bmIdx f b * 4 + i % 4) (codeWord r.data k) } }
    s.wr (fieldPage f + R.BM_REMAP + 4 * i) (BitVec.ofNat 32 (x - 2 ^ 30))

/-- BM_REMAP_COPY_DONE (R134). -/
def execBmRemapCopyDone (f : Fin 128) (i : Fin 384) (s : State) : Host.Outcome State Fault Refusal :=
  .next (bmRemapDone f.val i.val s)

/-! ### Debug window (R136) -/

/-- A narrow write of the debug window takes the next cycle of the port whose idle cycle it took, of which the manual does not say which it is
(R129, R136). -/
def State.bmDebugNarrow (s : State) (f b : Nat) : State :=
  let (v, s) := s.fresh
  s.setBmSt f b ((s.bmSt f b).setNarrow (natBit v 0) true)

/-- A debug access to a BM's word (R136): full word or 4 bytes; only Commons and the debug bus master reach the window. DESIGN CHOICE: the words
of a BM that no image configures are read and written without ECC (log entry 34). -/
def State.bmDebugRun (s : State) (r : Req) (f b w : Nat) (hi4 : Option Bool) (wr : Option DWord) : Rsp × List Word × State :=
  if !(isCommons r || isDbg r) then (.denied, [], s)
  else if s.dieDown (1 + f / 32) then (.inReset, [], s)
  else
    let ecc := match s.bmCfg f b with | some g => g.ecc | none => false
    match wr with
    | some v =>
      let (x, m) := match hi4 with
        | none => (v.toNat, 2 ^ 64 - 1)
        | some true => (v.toNat % 2 ^ 32 * 2 ^ 32, (2 ^ 32 - 1) * 2 ^ 32)
        | some false => (v.toNat % 2 ^ 32, 2 ^ 32 - 1)
      let s := s.bmWrite f b w x m 4 ecc
      (.ok, [], if ecc && hi4.isSome then s.bmDebugNarrow f b else s)
    | none =>
      let (e, s) := s.bmRead f b w 3 ecc
      let lo := BitVec.ofNat 32 e.data
      let hi := BitVec.ofNat 32 (e.data / 2 ^ 32)
      let words := match hi4 with | none => [lo, hi] | some true => [hi] | some false => [lo]
      if e.ue then (.poisoned, words.map (fun _ => 0), s) else (.ok, words, s)

/-- A debug access to a BM's word, answered (R136). -/
def bmDebug (r : Req) (f b w : Nat) (hi4 : Option Bool) (wr : Option DWord) (s : State) : State :=
  let (c, l, s) := s.bmDebugRun r f b w hi4 wr
  s.emit (.rsp r c l)

/-- BM_DEBUG_ACCESS (R136). -/
def execBmDebugAccess (r : Req) (f : Fin 128) (b : Fin 96) (word : Fin 1024) (hi4 : Option Bool) (wr : Option DWord)
    (s : State) : Host.Outcome State Fault Refusal := .next (bmDebug r f.val b.val word.val hi4 wr s)

/-- BM_DEBUG_FORCED_STALL (R136): counted; the stall holds the field's clocks for one cycle. A halted field has none (R478). -/
def execBmDebugForcedStall (f : Fin 128) (s : State) : Host.Outcome State Fault Refusal :=
  .next (if s.flag (fieldPage f.val) R.FCK_STAT_HALTED then s else s.cnt (fieldPage f.val + R.BM_STEAL_CNT) 1)

/-! ### Filling (R124) -/

/-- The 96 BMs of a field zero-filled, spare words included. -/
def State.bmFill (s : State) (f : Nat) : State :=
  { s with mem := { s.mem with
      bm := tabKeep s.mem.bm (fun k => k / 1024 / 96 != f), bmSpare := tabKeep s.mem.bmSpare (fun k => k / 4 / 96 != f) } }

end Sys2Proof.Machine
end

