-- ==== Sys2Proof/Machine/Stiles.lean ====
section
/-! DEFINITION. Stile crossings (R92-R102): which field edges meet, what a reset, a fence or the loss of a crossing
discards, and what both sides see of it. A channel is named by its sending field, edge and number. -/
namespace Sys2Proof.Machine

/-- Peer field and edge of a field edge, with the channels and level stiles each way (R92). -/
def stilePeer (f e : Nat) : Option (Nat × Nat × Nat × Nat) :=
  let d := f / 32
  let r := f % 32 / 8
  let c := f % 8
  match e with
  | 0 => if r = 0 then some ((if d % 4 < 2 then f + 64 else f - 64), 0, 16, 4) else some (f - 8, 1, 256, 64)
  | 1 => if r = 3 then none else some (f + 8, 0, 256, 64)
  | 2 => if c = 0 then none else some (f - 1, 3, 256, 64)
  | 3 => if c = 7 then some ((if d % 2 = 0 then f + 32 else f - 32), 3, 128, 16) else some (f + 1, 2, 256, 64)
  | _ => none

/-- Channels of a field edge in each direction. -/
def stileChans (f e : Nat) : Nat := match stilePeer f e with | some (_, _, n, _) => n | none => 0

/-- Level stiles of a field edge in each direction. -/
def stileLevels (f e : Nat) : Nat := match stilePeer f e with | some (_, _, _, n) => n | none => 0

/-- A stile channel's state. -/
def State.chan (s : State) (f e c : Nat) : StileCh := tabGet (fun _ => {}) s.fab.stile ((f * 4 + e) * 256 + c)

/-- A stile channel's state replaced. -/
def State.setChan (s : State) (f e c : Nat) (x : StileCh) : State :=
  { s with fab := { s.fab with stile := tabPut (fun _ => {}) s.fab.stile ((f * 4 + e) * 256 + c) x } }

/-- Whether the crossing of two fields joins two owners (R99). -/
def State.fenced (s : State) (f g : Nat) : Bool := s.fieldOwner f != s.fieldOwner g

/-- Whether the crossing at a field edge is lost with its Kelk-W groups (R102, R555, R557). -/
def State.crossLost (s : State) (f e : Nat) : Bool := tabGet (fun _ => false) s.fab.lost (f * 4 + e)

/-- What a side sees of its peer: down while it is in reset, fenced off, or the crossing is lost. -/
def State.peerIsDown (s : State) (f e g : Nat) : Bool := s.fieldInReset g || s.fenced f g || s.crossLost f e

/-- A crossing carries words while neither side sees the other down. -/
def State.crossOpen (s : State) (f e : Nat) : Bool :=
  match stilePeer f e with
  | some (g, _, _, _) => !s.fieldInReset f && !s.peerIsDown f e g
  | none => false

/-- The owner's class FIELD event of a field edge. -/
def State.stileEvt (s : State) (f e : Nat) (fld : Fld) : State :=
  s.evt (s.fieldOwner f) 0 (fieldEdge f e) fld R.STILE_IE fld.lo

/-- Words a channel loses when its crossing goes down: those in transit, and those in the buffer of a side in reset. -/
def StileCh.lose (x : StileCh) (rxReset : Bool) : Nat := x.transit.length + (if rxReset then x.buf.length else 0)

/-- A channel after that loss. -/
def StileCh.drop (x : StileCh) (rxReset : Bool) : StileCh :=
  { x with transit := [], buf := if rxReset then [] else x.buf }

/-- Words lost from side (f, e) toward the other side. -/
def State.stileLoss (s : State) (f e : Nat) (rxReset : Bool) : Nat :=
  (List.range (stileChans f e)).foldl (fun n c => n + (s.chan f e c).lose rxReset) 0

/-- The words in flight from side (f, e) to side (g, h) are discarded and counted once by a live side: by the receiver
when the sender is in reset, by the sender otherwise; by nobody when both are in reset (R100). DESIGN CHOICE: where both sides are live, at a
fence or a lost crossing, the sender counts; R99 and R102 name neither (log entry 34). -/
def State.stileDiscard (s : State) (f e g h : Nat) : State :=
  let rf := s.fieldInReset f
  let rg := s.fieldInReset g
  let n := s.stileLoss f e rg
  let s := (List.range (stileChans f e)).foldl (fun s c => s.setChan f e c ((s.chan f e c).drop rg)) s
  if n = 0 || (rf && rg) then s
  else
    let (x, y) := if rf then (g, h) else (f, e)
    (s.cnt (fieldEdge x y + R.STILE_DROP_CNT) n).stileEvt x y R.STILE_STAT_DROP

/-- Level stiles from a side that went down present their configured reset value: 0, 1 or the last value held (R100).
The receiving field's design says which. -/
def State.levelReset (s : State) (f e g h : Nat) : State :=
  (List.range (stileLevels f e)).foldl (fun s l =>
    let v := assocGet 2 (s.designOf g).levelRst (h * 64 + l)
    let k := (f * 4 + e) * 256 + l
    if v ≥ 2 || tabGet (fun _ => false) s.fab.level k == (v == 1) then s
    else ({ s with fab := { s.fab with level := tabPut (fun _ => false) s.fab.level k (v == 1) } }).emit
      (.stileLevel f e l (v == 1))) s

/-- Side (f, e) notes whether its peer (g, h) is down; a live side that sees it go down sets PEER_RESET (R100), unless
the crossing was lost, where LINK_LOST stands in its place and is set with the loss (R102). -/
def State.stileSide (s : State) (f e g h : Nat) : State :=
  let down := s.peerIsDown f e g
  let k := f * 4 + e
  let old := tabGet (fun _ => true) s.fab.peerDown k
  let s := { s with fab := { s.fab with peerDown := tabPut (fun _ => true) s.fab.peerDown k down } }
  if down && !old && !s.fieldInReset f then
    (if s.crossLost f e then s else s.stileEvt f e R.STILE_STAT_PEER_RESET).levelReset g h f e
  else s

/-- A channel restarted: nothing in flight, and 4 credits, of which those of words still in the live side's buffer come back as they are
consumed (R96, R100). DESIGN CHOICE: R100 lets the live side consume these words and says that the channel restarts empty with 4 credits; R96 never
lets more than 4 words be accepted and not consumed (log entry 34). -/
def StileCh.restart (x : StileCh) : StileCh := { credits := 4 - x.buf.length, transit := [], buf := x.buf, ret := 0 }

/-- Every channel of side (f, e) restarted. -/
def State.stileRestart (s : State) (f e : Nat) : State :=
  (List.range (stileChans f e)).foldl (fun s c => s.setChan f e c (s.chan f e c).restart) s

/-- Bring a crossing in line with the resets, owners and losses in force. -/
def State.stileUpdate (s : State) (f e : Nat) : State :=
  match stilePeer f e with
  | none => s
  | some (g, h, _, _) =>
    let wasDown := tabGet (fun _ => true) s.fab.peerDown (f * 4 + e) || tabGet (fun _ => true) s.fab.peerDown (g * 4 + h)
    let isOpen := s.crossOpen f e
    let s :=
      if isOpen then if wasDown then (s.stileRestart f e).stileRestart g h else s
      else (s.stileDiscard f e g h).stileDiscard g h f e
    (s.stileSide f e g h).stileSide g h f e

/-- Bring every crossing of a field in line. -/
def State.stileUpdateField (s : State) (f : Nat) : State := [0, 1, 2, 3].foldl (fun s e => s.stileUpdate f e) s

/-- A live side of a crossing that has just been lost sets LINK_LOST (R102). -/
def State.linkLost (s : State) (f e : Nat) : State := if s.fieldInReset f then s else s.stileEvt f e R.STILE_STAT_LINK_LOST

/-- The crossing at an edge is lost or restored, on both sides (R102, R557). -/
def State.setLost (s : State) (f e : Nat) (v : Bool) : State :=
  match stilePeer f e with
  | none => s
  | some (g, h, _, _) =>
    let was := s.crossLost f e
    let s := ({ s with fab := { s.fab with
      lost := tabPut (fun _ => false) (tabPut (fun _ => false) s.fab.lost (f * 4 + e) v) (g * 4 + h) v } }).stileUpdate f e
    if v && !was then (s.linkLost f e).linkLost g h else s

/-- What a side sees of its peer's halt (R101); across a fence it sees a peer in reset and nothing more (R99). -/
def State.peerHalted (s : State) (f g : Nat) : Bool := !s.fenced f g && s.fieldHalted g

/-- The status bits of an edge that follow from the state (R103): NO_PEER, FENCED, PEER_HALTED, PEER_IN_RESET. -/
def State.stileStatLive (s : State) (f e : Nat) : Nat :=
  match stilePeer f e with
  | none => 64
  | some (g, _, _, _) =>
    8 * b2n (s.fenced f g) + 4 * b2n (s.peerHalted f g) + 2 * b2n (s.peerIsDown f e g)

/-- TX_READY of a channel's sending side (R94, R96): the crossing is open and a credit is held. -/
def State.txReady (s : State) (f e c : Nat) : Bool :=
  s.crossOpen f e && decide (c < stileChans f e) && decide (0 < (s.chan f e c).credits)

/-- Value of a signal of a stile channel at a field's edge as it enters the fabric (R93, R100, R101): at the sending side of channel `c`, or at the
receiving side of the peer's. RX_DATA without RX_VALID is undefined, `u` (R94). -/
def State.stilePin (s : State) (f e c : Nat) (u : Bool) (p : StileIn) : Bool :=
  match stilePeer f e with
  | none => false
  | some (g, h, _, _) =>
    match p with
    | .txReady => s.txReady f e c
    | .txPeerRst => s.peerIsDown f e g
    | .txPeerHalt => s.peerHalted f g
    | .rxData i => match (s.chan g h c).buf with | [] => u | w :: _ => natBit w.toNat i.val
    | .rxValid => !(s.chan g h c).buf.isEmpty
    | .rxPeerRst => s.peerIsDown f e g
    | .rxPeerHalt => s.peerHalted f g

/-- Value of a level stile at the edge of the field that receives it (R98). -/
def State.levelPin (s : State) (f e l : Nat) : Bool :=
  match stilePeer f e with
  | none => false
  | some (g, h, _, _) => tabGet (fun _ => false) s.fab.level ((g * 4 + h) * 256 + l)

end Sys2Proof.Machine
end

