-- ==== Sys2Proof/Machine/Fabric.lean ====
section
/-! DEFINITION. The programmable fabric of a field: cells, carry chains, combine stages, crossbar, routing and MAC blocks
(R48-R72, R86-R91), and ACTIVE_CLOCK_EDGE. -/
namespace Sys2Proof.Machine

/-! ### Routing (R65, R66, R87-R90) -/

/-- Block column of a block number 32 * row + column. -/
def blkCol (b : Nat) : Int := (b % 32 : Nat)
/-- Block row of a block number. -/
def blkRow (b : Nat) : Int := (b / 32 : Nat)

/-- One block further in a direction (R87): 0 higher columns, 1 lower columns, 2 higher rows, 3 lower rows. -/
def dirRow (dir : Nat) : Int := if dir = 2 then 1 else if dir = 3 then -1 else 0
/-- Column step of a direction. -/
def dirCol (dir : Nat) : Int := if dir = 0 then 1 else if dir = 1 then -1 else 0

/-- Column of a direction's tracks at a place whose horizontal tracks are those of `hcol` and whose vertical ones those of `vcol`. -/
def dirAt (hcol vcol : Int) (dir : Nat) : Int := if dir < 2 then hcol else vcol

/-- The track that tap `t` receives from in a block row (R88, R91). -/
def tapAt (r hcol vcol : Int) (t : Nat) : Track :=
  if t < 32 then
    let d := t / 8
    .l4 (Fin.ofNat 4 d) (Fin.ofNat 8 t) (r - 4 * dirRow d) (dirAt hcol vcol d - 4 * dirCol d)
  else if t < 64 then
    let u := t - 32
    let d := u / 8
    let back : Int := (4 * (u % 8 / 2 + 1) : Nat)
    .l16 (Fin.ofNat 4 d) (Fin.ofNat 2 u) (r - back * dirRow d) (dirAt hcol vcol d - back * dirCol d)
  else if t < 80 then .longH r (Fin.ofNat 16 (t - 64))
  else .longV vcol (Fin.ofNat 16 (t - 80))

/-- The track that driver `d` drives with a target in a block row (R89, R91). -/
def drvAt (r hcol vcol : Int) (d : Nat) (t : DrvTarget) : Track :=
  match t with
  | .len4 => .l4 (Fin.ofNat 4 d) (Fin.ofNat 8 (d / 4)) r (dirAt hcol vcol (d % 4))
  | .len16 => .l16 (Fin.ofNat 4 d) (Fin.ofNat 2 (d / 16)) r (dirAt hcol vcol (d % 4))
  | .long => if d < 32 then .longH r (Fin.ofNat 16 d) else .longV vcol (Fin.ofNat 16 d)

/-- The track that tap `t` of block `b` receives from (R88). -/
def tapTrack (b t : Nat) : Track := tapAt (blkRow b) (blkCol b) (blkCol b) t

/-- The track that driver `d` of block `b` drives with a target (R89). -/
def drvTrack (b d : Nat) (t : DrvTarget) : Track := drvAt (blkRow b) (blkCol b) (blkCol b) d t

/-! ### Special columns (R86, R91, R105) -/

/-- The block column on the lower-numbered side of each special column, in their order from edge 2: BM0, MAC0, BM1, MAC1, BM2, BM3, MAC2, BM4,
MAC3, BM5 (R86). -/
def specialLeft : List Nat := [2, 5, 8, 11, 14, 16, 19, 22, 25, 28]

/-- Place of column BM`i` among the special columns. -/
def bmColumn (i : Nat) : Nat := [0, 2, 4, 5, 7, 9].getD i 0
/-- Place of column MAC`i` among the special columns. -/
def macColumn (i : Nat) : Nat := [1, 3, 6, 8].getD i 0

/-- Block column whose horizontal tracks a special column reaches. -/
def specialH (i : Nat) : Int := (specialLeft.getD i 0 : Nat)
/-- Column of a special column's own vertical tracks. -/
def specialV (i : Nat) : Int := (32 + i : Nat)

/-- Row of a block memory's port: port A the lower of its two block rows (R105, R109). -/
def bmRow (b : Nat) (portB : Bool) : Int := (2 * (b % 16) + b2n portB : Nat)

/-- The track that tap `t` of a block memory's port receives from. -/
def bmTap (b : Nat) (portB : Bool) (t : Nat) : Track :=
  tapAt (bmRow b portB) (specialH (bmColumn (b / 16))) (specialV (bmColumn (b / 16))) t

/-- Driver `d` of a block memory's port can drive a track (R89, R109). -/
def bmDrives (b : Nat) (portB : Bool) (d : Nat) (t : Track) : Bool :=
  [DrvTarget.len4, .len16, .long].any (fun g => drvAt (bmRow b portB) (specialH (bmColumn (b / 16))) (specialV (bmColumn (b / 16))) d g == t)

/-- A track starts at a place: one of the drivers there can drive it (R89). -/
def startsAt (r hcol vcol : Int) : Track → Bool
  | .l4 d _ r' c => r' == r && c == dirAt hcol vcol d.val
  | .l16 d _ r' c => r' == r && c == dirAt hcol vcol d.val
  | .longH r' _ => r' == r
  | .longV c _ => c == vcol

/-- One of a MAC block's drivers can drive a track (R91): block `m`, column * 16 + position from the bottom, two block rows tall (R49). -/
def macDrives (m : Nat) (t : Track) : Bool :=
  [0, 1].any (fun i => startsAt ((2 * (m % 16) + i : Nat)) (specialH (macColumn (m / 16))) (specialV (macColumn (m / 16))) t)

/-- One of a MAC block's taps receives a track (R91). -/
def macTaps (m : Nat) (t : Track) : Bool :=
  [0, 1].any (fun i => (List.range 96).any (fun k =>
    tapAt ((2 * (m % 16) + i : Nat)) (specialH (macColumn (m / 16))) (specialV (macColumn (m / 16))) k == t))

/-! ### The stile band (R97) -/

/-- Number of a position or block column or row within a field. -/
def inField (x : Int) : Bool := decide (0 ≤ x) && decide (x < 32)

/-- Edge and position of the band at which a segment starts that enters the field (R97). DEDUCED: the starts beyond the edge are the 3 nearest of a
length-4 track and the 15 nearest of a length-16 one, which gives R97's 24 and 30 (log entry 34). -/
def trackInward : Track → Option (Nat × Nat)
  | .l4 d _ r c => go d.val 3 r c
  | .l16 d _ r c => go d.val 15 r c
  | _ => none
where go (d : Nat) (n : Int) (r c : Int) : Option (Nat × Nat) :=
  if d = 0 && inField r && decide (-n ≤ c) && decide (c < 0) then some (2, r.toNat)
  else if d = 1 && inField r && decide (32 ≤ c) && decide (c < 32 + n) then some (3, r.toNat)
  else if d = 2 && inField c && decide (-n ≤ r) && decide (r < 0) then some (0, c.toNat)
  else if d = 3 && inField c && decide (32 ≤ r) && decide (r < 32 + n) then some (1, c.toNat)
  else none

/-- Edge and position of the band at which a segment ends whose span would pass the edge (R87, R97). -/
def trackOutward : Track → Option (Nat × Nat)
  | .l4 d _ r c => go d.val 3 r c
  | .l16 d _ r c => go d.val 15 r c
  | _ => none
where go (d : Nat) (n : Int) (r c : Int) : Option (Nat × Nat) :=
  if !(inField r && inField c) then none
  else if d = 0 && decide (32 - n ≤ c) then some (3, r.toNat)
  else if d = 1 && decide (c < n) then some (2, r.toNat)
  else if d = 2 && decide (32 - n ≤ r) then some (1, c.toNat)
  else if d = 3 && decide (r < n) then some (0, c.toNat)
  else none

/-- A field-long track of the row or column that a position of an edge faces (R97). -/
def longAt (e p : Nat) : Track → Bool
  | .longH r _ => decide (2 ≤ e) && r == (p : Int)
  | .longV c _ => decide (e < 2) && c == (p : Int)
  | _ => false

/-- Position that hosts channel `c` of a field's edge (R97): by the crossing's 256, 128 or 16 channels. -/
def chanPos (f e c : Nat) : Nat :=
  let n := stileChans f e
  if n = 256 then c / 8 else if n = 128 then c / 4 else 2 * c

/-- Position that hosts level stile `l` of a field's edge (R97). -/
def levelPos (f e l : Nat) : Nat :=
  let n := stileLevels f e
  if n = 64 then l / 2 else if n = 16 then 2 * l else 8 * l

/-- A track by which a position of an edge reaches the fabric, and one by which the fabric reaches it (R97). -/
def bandIn (e p : Nat) (t : Track) : Bool := trackInward t == some (e, p) || longAt e p t
def bandOut (e p : Nat) (t : Track) : Bool := trackOutward t == some (e, p) || longAt e p t

/-! ### Sources of tracks (R89-R91, R97) -/

/-- A track lies in the field, where a block or a special column can start it. -/
def trackInside : Track → Bool
  | .l4 d _ r c => inField r && (if d.val < 2 then inField c else decide (0 ≤ c) && decide (c < 42))
  | .l16 d _ r c => inField r && (if d.val < 2 then inField c else decide (0 ≤ c) && decide (c < 42))
  | .longH r _ => inField r
  | .longV c _ => decide (0 ≤ c) && decide (c < 42)

/-- A segment starts at a block or special column, with an index that a continuation from index `i` of a length-4 track may take (R90). -/
def contFrom4 (i : Nat) (r c : Int) : Track → Bool
  | .l4 _ j r' c' => r' == r && c' == c && j.val == i
  | .l16 _ j r' c' => r' == r && c' == c && j.val == i % 2
  | _ => false

/-- The same from index `i` of a length-16 track (R90). -/
def contFrom16 (i : Nat) (r c : Int) : Track → Bool
  | .l4 _ j r' c' => r' == r && c' == c && j.val % 2 == i
  | .l16 _ j r' c' => r' == r && c' == c && j.val == i
  | _ => false

/-- The switch boxes let track `u` continue into track `t` (R90): a segment at its end, a field-long track at any block. DEDUCED: a vertical track of
a special column continues there into its own column's tracks alone, since only blocks have switch boxes toward the others (log entry 34). -/
def contOk (u t : Track) : Bool :=
  trackInside t &&
  match u with
  | .l4 d i r c => contFrom4 i.val (r + 4 * dirRow d.val) (c + 4 * dirCol d.val) t
  | .l16 d i r c => contFrom16 i.val (r + 16 * dirRow d.val) (c + 16 * dirCol d.val) t
  | .longH r i =>
    (match t with
    | .l4 _ j r' c => r' == r && inField c && j.val == i.val % 8
    | .l16 _ j r' c => r' == r && inField c && j.val == i.val % 2
    | _ => false)
  | .longV c i =>
    (match t with
    | .l4 _ j _ c' => c' == c && j.val == i.val % 8
    | .l16 _ j _ c' => c' == c && j.val == i.val % 2
    | _ => false)

/-- The hardware can feed a track of field `f` from a source (R90, R91, R97, R109). DEDUCED: a signal of a hardened port, whose place the manual does
not give, comes in at the band, on a field-long track, or at the block rows of BM 90-95 (R121, R167; log entry 34). -/
def srcOk (f : Nat) (t : Track) : TrackSrc → Bool
  | .cont u => contOk u t
  | .ext _ => (trackInward t).isSome || (trackInside t && match t with | .longH .. => true | .longV .. => true | _ => false) ||
      [90, 91, 92, 93, 94, 95].any (fun b => [false, true].any (fun p => startsAt (bmRow b p) (specialH 9) (specialV 9) t))
  | .mac m b => decide (b ≤ 64) && macDrives m.val t
  | .bm b p d => bmDrives b.val p d.val t
  | .stile e c _ => decide (c.val < stileChans f e.val) && bandIn e.val (chanPos f e.val c.val) t
  | .level e l => decide (l.val < stileLevels f e.val) && bandIn e.val (levelPos f e.val l.val) t

/-- The driver of a design that drives a track, with its number block * 64 + d. -/
def findDriver (d : FieldDesign) (t : Track) : Option (Nat × DrvCfg) :=
  d.drivers.find? (fun e => drvTrack (e.1 / 64) (e.1 % 64) e.2.target == t)

/-- What feeds a track of field `f` other than a driver. -/
def findTrack (f : Nat) (d : FieldDesign) (t : Track) : Option TrackSrc := (d.tracks.find? (fun e => e.1 == t && srcOk f t e.2)).map (·.2)

/-! ### Frame rules (R64, R89, R112) -/

/-- Some element of a list occurs twice. -/
def hasTwice : List Track → Bool
  | [] => false
  | t :: l => l.contains t || hasTwice l

/-- No cluster with an arithmetic cell configures a combine stage, and no cluster column with one configures stage 5 or 6 (R64). -/
def combineOk (d : FieldDesign) : Bool :=
  d.cells.all (fun a => !a.2.arith || d.cells.all (fun e =>
    (e.2.stage.val == 0 || e.1 / 16 != a.1 / 16) && (decide (e.2.stage.val < 5) || e.1 / 64 != a.1 / 64)))

/-- No track has two sources (R89). -/
def sourcesOk (d : FieldDesign) : Bool :=
  !hasTwice (d.drivers.map (fun e => drvTrack (e.1 / 64) (e.1 % 64) e.2.target) ++ d.tracks.map (·.1))

/-- A queue with ECC on is 64 bits wide (R112). -/
def queuesOk (d : FieldDesign) : Bool := d.bms.all (fun e => !(e.2.queue && e.2.ecc) || (e.2.pa.width.val == 6 && e.2.pb.width.val == 6))

/-- What check 9 of pass 1 asks of a field's frames (R491). -/
def frameRules (d : FieldDesign) : Bool := combineOk d && sourcesOk d && queuesOk d

/-! ### Configuration lookups -/

/-- A cell that the image does not use: LUT 0, no set/reset. -/
def cellOff : CellCfg :=
  ⟨0, false, .lut, false, .always, .none, false, false, false, .o 0, .o 0, .o 0, .o 0, .o 0, 0⟩
/-- A cluster that the image does not use. -/
def clusterOff : ClusterCfg :=
  ⟨⟨0, false⟩, ⟨0, false⟩, .o 0, .o 0, .o 0, .o 0, .o 0, .zero, [], [], []⟩
/-- Configuration of cell `c` (8192y + 256x + 16q + i). -/
def cellOf (d : FieldDesign) (c : Nat) : CellCfg := assocGet cellOff d.cells c
/-- Configuration of cluster `k` (512y + 16x + q). -/
def clusterOf (d : FieldDesign) (k : Nat) : ClusterCfg := assocGet clusterOff d.clusters k

/-! ### Combinational values -/

/-- What the values of a field's signals are computed from: its number and design, its global set/reset, stored flip-flops, MAC blocks, block
memories, stiles, the other signals that enter it, and the open values that stand for a combinational loop. -/
structure FabEnv where
  f : Nat
  d : FieldDesign
  gsr : Bool
  q : Nat → Bool
  mac : Nat → MacSt
  bm : Nat → Bool → Nat → Bool
  stile : Nat → Nat → StileIn → Bool
  level : Nat → Nat → Bool
  ext : Nat → Bool
  openV : Nat → Bool

/-- A signal of a field: a cell's LUT output, its combine result of a stage, its O, its Q, its carry out, the carry into a
cluster, a crossbar source of a cluster, or a track. -/
inductive Node where
  | lut (c : Nat) | comb (st c : Nat) | o (c : Nat) | q (c : Nat) | cout (c : Nat) | cin (k : Nat) | src (k : Nat) (x : XSrc)
  | track (t : Track)
  deriving DecidableEq, Repr

/-- A number that names a node, for the open value of a loop through it. -/
def Node.id : Node → Nat
  | .lut c => 8 * c | .comb _ c => 8 * c + 1 | .o c => 8 * c + 2 | .q c => 8 * c + 3 | .cout c => 8 * c + 4
  | .cin k => 8 * k + 5 | .src k _ => 8 * k + 6 | .track _ => 7

/-- Value of a signal. The fuel bounds the length of a combinational path; a path longer than every signal of a field is a
loop, whose value is open. DESIGN CHOICE (log entry 34): a track that nothing drives reads 0 (R66); a carry-in select of PREV in a cluster of the
lowest block row with no preceding cluster reads 0 (R58); a cell in logic mode passes on the carry that its MASK's tables give (R59). -/
def sig (v : FabEnv) : Nat → Node → Bool
  | 0, n => v.openV n.id
  | fuel + 1, n =>
    match n with
    | .src k x =>
      match x with
      | .o i => sig v fuel (.o (16 * k + i.val))
      | .q i => sig v fuel (.q (16 * k + i.val))
      | .block l =>
        let (ci, isQ) := (clusterOf v.d k).blockLine.getD l.val (0, false)
        let c := 256 * (k / 16) + 16 * ci.val + l.val % 16
        if isQ then sig v fuel (.q c) else sig v fuel (.o c)
      | .field f =>
        let m := (clusterOf v.d k).fieldLine.getD f.val 0
        sig v fuel (.track (tapTrack (k / 16) (f.val + 16 * m.val)))
    | .track t =>
      match findDriver v.d t with
      | some (n, g) =>
        let c := 256 * (n / 64) + 16 * (4 * (n % 64 / 16) + g.row.val) + n % 16
        if g.isQ then sig v fuel (.q c) else sig v fuel (.o c)
      | none =>
        match findTrack v.f v.d t with
        | some (.cont u) => sig v fuel (.track u)
        | some (.ext e) => v.ext e
        | some (.mac m b) => if b = 64 then (v.mac m.val).ovf else natBit (v.mac m.val).p.toNat b
        | some (.bm b p d) => v.bm b.val p d.val
        | some (.stile e c pin) => v.stile e.val c.val pin
        | some (.level e l) => v.level e.val l.val
        | none => false
    | .q c =>
      let g := cellOf v.d c
      let line : Bool := match g.srsel with
        | .none => false
        | .sr0 => g.async && sig v fuel (.src (c / 16) (clusterOf v.d (c / 16)).sr0)
        | .sr1 => g.async && sig v fuel (.src (c / 16) (clusterOf v.d (c / 16)).sr1)
      if line && !v.gsr then g.srval else v.q c
    | .cin k =>
      match (clusterOf v.d k).cinSel with
      | .zero => false
      | .one => true
      | .cin => sig v fuel (.src k (clusterOf v.d k).cin)
      | .prev =>
        if k % 4 > 0 then sig v fuel (.cout (16 * (k - 1) + 15))
        else if k ≥ 512 then sig v fuel (.cout (16 * (k - 512 + 3) + 15))
        else false
    | .cout c =>
      let g := cellOf v.d c
      let k := c / 16
      let j := 4 * b2n (sig v fuel (.src k g.c)) + 2 * b2n (sig v fuel (.src k g.b)) + b2n (sig v fuel (.src k g.a))
      let ci := if c % 16 = 0 then sig v fuel (.cin k) else sig v fuel (.cout (c - 1))
      natBit g.mask.toNat (8 + j) || (natBit g.mask.toNat j && ci)
    | .lut c =>
      let g := cellOf v.d c
      let k := c / 16
      let j := 4 * b2n (sig v fuel (.src k g.c)) + 2 * b2n (sig v fuel (.src k g.b)) + b2n (sig v fuel (.src k g.a))
      if g.arith then
        let ci := if c % 16 = 0 then sig v fuel (.cin k) else sig v fuel (.cout (c - 1))
        xor (natBit g.mask.toNat j) ci
      else natBit g.mask.toNat (8 * b2n (sig v fuel (.src k g.d)) + j)
    | .comb st c =>
      if st = 0 then sig v fuel (.lut c)
      else
        let k := c / 16
        if sig v fuel (.src k ((clusterOf v.d k).sel.getD (st - 1) (.o 0))) then sig v fuel (.comb (st - 1) c)
        else sig v fuel (.comb (st - 1) (c - 2 ^ (st - 1)))
    | .o c => sig v fuel (.comb (cellOf v.d c).stage.val c)

/-- More steps than the signals of a field. -/
def sigFuel : Nat := 16777216

/-- Value of a signal with every signal of the field at hand. -/
def FabEnv.val (v : FabEnv) (n : Node) : Bool := sig v sigFuel n

/-! ### Flip-flops (R51-R55) -/

/-- A clock line is active at an edge: its clock is among the edges with the polarity it uses (R52). -/
def clkActive (edges : List (Nat × Bool)) (c : ClkSel) : Bool := edges.contains (c.ck.val, !c.inv)

/-- Whether a cell's flip-flop sees an active edge. -/
def cellClocked (d : FieldDesign) (edges : List (Nat × Bool)) (c : Nat) : Bool :=
  let k := clusterOf d (c / 16)
  clkActive edges (if (cellOf d c).ckb then k.ckb else k.cka)

/-- Level of a cell's selected set/reset line. -/
def FabEnv.srLine (v : FabEnv) (c : Nat) : Bool :=
  let k := c / 16
  match (cellOf v.d c).srsel with
  | .none => false
  | .sr0 => v.val (.src k (clusterOf v.d k).sr0)
  | .sr1 => v.val (.src k (clusterOf v.d k).sr1)

/-- Level of a cell's clock enable. -/
def FabEnv.ceLine (v : FabEnv) (c : Nat) : Bool :=
  let k := c / 16
  match (cellOf v.d c).cesel with
  | .always => true
  | .ce0 => v.val (.src k (clusterOf v.d k).ce0)
  | .ce1 => v.val (.src k (clusterOf v.d k).ce1)

/-- Value of a cell's flip-flop data source. -/
def FabEnv.dLine (v : FabEnv) (c : Nat) : Bool :=
  match (cellOf v.d c).dsrc with
  | .lut => v.val (.lut c)
  | .bx => v.val (.src (c / 16) (cellOf v.d c).bx)
  | .comb => v.val (.o c)

/-- Q after an active edge by the priorities of R53. -/
def FabEnv.qNext (v : FabEnv) (c : Nat) : Bool :=
  let g := cellOf v.d c
  if v.srLine c then g.srval
  else if v.ceLine c then v.dLine c
  else v.val (.q c)

/-! ### MAC blocks (R68-R72) -/

/-- A MAC block's inputs: each bit from a track that one of its taps receives; it is 0 where the design names another (R91). -/
def macCfgOf (m : Nat) (g : MacCfg) : MacCfg :=
  let some_ (t : Option Track) : Option Track := t.filter (macTaps m)
  let bus (l : List Track) : List Track := l.map (fun t => if macTaps m t then t else .l4 0 0 (-100) (-100))
  { g with a := bus g.a, b := bus g.b, c := bus g.c, ce := some_ g.ce, rst := some_ g.rst, load := some_ g.load, sub := some_ g.sub }

/-- Values of tracks as a number. -/
def FabEnv.trackVal (v : FabEnv) (l : List Track) : Nat := bitsVal (l.map (fun t => v.val (.track t)))

/-- Value of a control port: unconnected ports read a constant. -/
def FabEnv.port (v : FabEnv) (t : Option Track) (d : Bool) : Bool := match t with | some t => v.val (.track t) | none => d

/-- Sum of a MAC's output register: exact value and the 64-bit pattern kept (R69). -/
def macOut (p : Int) : DWord := BitVec.ofInt 64 p

/-- A MAC block after an active edge (R69-R71). `casc` is CASC_IN. -/
def FabEnv.macNext (v : FabEnv) (g : MacCfg) (m : MacSt) (casc : DWord) : MacSt :=
  if v.port g.rst false then {}
  else if !v.port g.ce true then m
  else
    let a := v.trackVal g.a
    let b := v.trackVal g.b
    let c := v.trackVal g.c
    let ld := v.port g.load false
    let sb := v.port g.sub false
    let (a1, b1, c1, l1, s1) := if g.inReg then (m.a, m.b, m.c, m.load, m.sub) else (a, b, c, ld, sb)
    let pr := signedVal 27 a1 * signedVal 27 b1
    let (p2, l2, s2) := if g.prodReg then (m.prod, m.pload, m.psub) else (pr, l1, s1)
    let t : Int := if s2 then -p2 else p2
    let exact : Int :=
      match g.mode with
      | .mul => p2
      | .add => signedVal 64 c1 + t
      | .acc => (if l2 then signedVal 64 c1 else m.p.toInt) + t
      | .casc => casc.toInt + t
    { a := a, b := b, c := c, load := ld, sub := sb, prod := pr, pload := l1, psub := s1,
      p := macOut exact, ovf := decide ((macOut exact).toInt ≠ exact) || (m.ovf && !l2) }

/-- Highest clock of a MAC block with its product register bypassed, in MHz (R76). -/
def gradeMacCap (g : Nat) : Nat := if g = 1 then 450 else if g = 2 then 510 else 570

/-- A MAC block with its product register bypassed is clocked faster than its grade allows: its results are undefined (R77). -/
def State.macFast (s : State) (f : Nat) (g : MacCfg) : Bool := !g.prodReg && s.ckAbove f g.clk.ck.val (gradeMacCap s.part.grade)

/-- A MAC block that a failing path ends at: what its registers capture is open (R74, R77). -/
def macOpen (v : Nat) : MacSt :=
  { a := natBits v 26 0, b := natBits v 53 27, c := natBits v 117 54, load := natBit v 118, sub := natBit v 119,
    prod := signedVal 54 (natBits v 173 120), pload := natBit v 174, psub := natBit v 175,
    p := BitVec.ofNat 64 (natBits v 239 176), ovf := natBit v 240 }

/-! ### The edge -/

/-- Stored flip-flops of field `f`. -/
def State.cellQ (s : State) (f c : Nat) : Bool := tabGet (fun _ => false) s.fab.q (f * 262144 + c)

/-- MAC block `m` (column * 16 + position from the bottom) of field `f`. -/
def State.macAt (s : State) (f m : Nat) : MacSt := tabGet (fun _ => {}) s.fab.mac (f * 64 + m)

/-- What driver `d` of a block memory's port carries (R109, R110): DOUT, in queue mode the flags on 0 to 3 of the port A row, and on 63 the other
port's UE. -/
def State.bmDriver (s : State) (f b : Nat) (portB : Bool) (d : Nat) : Bool :=
  match s.bmCfg f b with
  | none => false
  | some g =>
    let x := s.bmSt f b
    let held := (s.frt f).gsr
    if g.queue && !portB && decide (d < 4) then
      match d with
      | 0 => held || x.full g
      | 1 => held || x.empty
      | 2 => !held && x.afull g
      | _ => held || x.aempty g
    else if decide (d < portW (if portB then g.pb else g.pa)) && !(g.queue && !portB) then natBit (if portB then x.doutB else x.doutA).toNat d
    else d == 63 && uePresented g (!portB) && (if portB then x.ueA else x.ueB)

/-- The evaluation environment of a field. -/
def State.fabEnv (s : State) (f : Nat) (ext : List Nat) (loop : Nat) : FabEnv :=
  { f := f, d := s.designOf f, gsr := (s.frt f).gsr, q := s.cellQ f, mac := s.macAt f, bm := s.bmDriver f,
    stile := fun e c p => s.stilePin f e c (natBit loop 7) p, level := s.levelPin f, ext := fun n => ext.contains n, openV := fun n => natBit loop n }

/-- Flip-flops of a field replaced; a field has 262,144 (R48). -/
def State.putQ (s : State) (f : Nat) (l : List (Nat × Bool)) : State :=
  { s with fab := { s.fab with q := (l.filter (fun e => decide (e.1 < 262144))).foldl (fun t e => tabPut (fun _ => false) t (f * 262144 + e.1) e.2) s.fab.q } }

/-- MAC blocks of a field replaced; a field has 64 (R49). -/
def State.putMac (s : State) (f : Nat) (l : List (Nat × MacSt)) : State :=
  { s with fab := { s.fab with mac := (l.filter (fun e => decide (e.1 < 64))).foldl (fun t e => tabPut (fun _ => {}) t (f * 64 + e.1) e.2) s.fab.mac } }

/-- Asynchronous set/resets take their flip-flops at once (R53): every cell's stored value becomes what its Q shows. -/
def State.settle (s : State) (f : Nat) (ext : List Nat) (loop : Nat) : State :=
  let v := s.fabEnv f ext loop
  s.putQ f (v.d.cells.map (fun e => (e.1, v.val (.q e.1))))

/-- Every flip-flop takes its INIT value (R55); those that the design does not use hold 0. -/
def State.initCells (s : State) (f : Nat) : State :=
  State.putQ { s with fab := { s.fab with q := tabKeep s.fab.q (fun k => k / 262144 != f) } } f ((s.designOf f).cells.map (fun e => (e.1, e.2.init)))

/-- Divider of a field clock in force. -/
def State.ckDiv (s : State) (f n : Nat) : Nat := s.rf (fieldPage f + 4 * n) R.FCK_DIV_DIV

/-- Edges at which a running clock of the field acts: its CK_ON bit is set. A rising edge of a clock comes only with one of every running clock
of which its period is a multiple (R82). -/
def State.liveEdges (s : State) (f : Nat) (edges : List (Fin 4 × Bool)) : List (Nat × Bool) :=
  let l := (edges.map (fun e => (e.1.val, e.2))).filter (fun e => s.ckRuns f e.1)
  l.filter (fun e => !e.2 || [0, 1, 2, 3].all (fun m => !s.ckRuns f m || s.ckDiv f e.1 % s.ckDiv f m != 0 || l.contains (m, true)))

/-- The slowest enabled clock of a field (R472, R474). -/
def State.slowClock (s : State) (f : Nat) : Nat :=
  let en := [0, 1, 2, 3].filter (fun n => natBit (s.frt f).ckEn n)
  en.foldl (fun a n => if s.ckDiv f a < s.ckDiv f n then n else a) (en.headD 0)

/-- A rising edge of the slowest clock counts toward a step in progress; the last one stops the clocks (R474). -/
def State.stepEdge (s : State) (f : Nat) (es : List (Nat × Bool)) : State :=
  let n := tabGet (fun _ => 0) s.dbg.step f
  if n ≤ 1 ∨ !es.contains (s.slowClock f, true) then s
  else
    let s := { s with dbg := { s.dbg with step := tabPut (fun _ => 0) s.dbg.step f (n - 1) } }
    if n = 2 then (s.setF (fieldPage f) R.FCK_STAT_HALTED).wf (fieldPage f) R.FCK_STAT_CK_ON 0 else s

/-- Value of the taps `lo` and on of a block memory's port as a number of `n` bits (R109). -/
def FabEnv.bmBus (v : FabEnv) (b : Nat) (portB : Bool) (lo n : Nat) : Nat := v.trackVal ((List.range n).map (fun i => bmTap b portB (lo + i)))

/-- What the fabric presents to a block memory's port (R109): WE is low before WE_ENABLE (R496), and QRST comes by the port A row. -/
def FabEnv.bmPins (v : FabEnv) (g : BmCfg) (b : Nat) (portB we : Bool) : BmPins :=
  let on (t : Nat) : Bool := v.val (.track (bmTap b portB t))
  { addr := v.bmBus b portB 0 16, din := v.bmBus b portB 16 (portW (if portB then g.pb else g.pa)), bwe := v.bmBus b portB 80 8,
    we := on 88 && we, en := on 89, regce := on 90, rsto := on 91, qrst := v.val (.track (bmTap b false 92)) }

/-- What the fabric presents at an edge to the block memories whose ports it clocks. -/
def State.presentBms (s : State) (f : Nat) (v : FabEnv) (es : List (Nat × Bool)) : State :=
  v.d.bms.foldl (fun s e =>
    match bmOf v.d e.1 with
    | none => s
    | some g => [false, true].foldl (fun s p =>
      if clkActive es (if p then g.pb else g.pa).ck then s.emit (.bmPins f e.1 p (v.bmPins g e.1 p (s.frt f).we)) else s) s) s

/-- Value of a signal that the band takes from the fabric for a channel of an edge (R97): 0 where the design takes it from no track that
reaches the channel's position. -/
def FabEnv.stileTap (v : FabEnv) (k : Nat) (p : StileOut) : Bool :=
  match v.d.stileOut.find? (fun e => e.1 == (k, p) && bandOut (k / 256) (chanPos v.f (k / 256) (k % 256)) e.2) with
  | some e => v.val (.track e.2)
  | none => false

/-- What the fabric presents at an edge to the sides of its stile channels that it clocks, and to its level stiles (R93, R97, R98). TX_VALID is
low before WE_ENABLE (R496). -/
def State.presentStiles (s : State) (f : Nat) (v : FabEnv) (es : List (Nat × Bool)) : State :=
  let ks := (v.d.stileOut.map (fun e => e.1.1)).eraseDups
  let sends (k : Nat) : Bool := v.d.stileOut.any (fun e => e.1.1 == k && e.1.2 != .rxReady)
  let s := ks.foldl (fun s k =>
    let s := if sends k && es.contains ((assocGet 0 v.d.stileTxCk k).val, true) then
        let d := bitsVal ((List.range (assocGet 0 v.d.stileW k)).map (fun i => v.stileTap k (.txData (Fin.ofNat 64 i))))
        s.emit (.stileTx f (k / 256) (k % 256) (v.stileTap k .txValid && (s.frt f).we) d)
      else s
    if v.d.stileOut.any (fun e => e.1 == (k, .rxReady)) && es.contains ((assocGet 0 v.d.stileRxCk k).val, true) then
      s.emit (.stileRx f (k / 256) (k % 256) (v.stileTap k .rxReady))
    else s) s
  v.d.levelOut.foldl (fun s e =>
    if bandOut (e.1 / 64) (levelPos f (e.1 / 64) (e.1 % 64)) e.2 then s.emit (.levelTx f (e.1 / 64) (e.1 % 64) (v.val (.track e.2))) else s) s

/-- A flip-flop after an edge: one with a failing path captures an undefined value (R74, R77, R83), and one whose asynchronous set/reset is
released in violation holds SRVAL or the value clocked, and the manual does not say which (R54). -/
def FabEnv.qEdge (v : FabEnv) (lateCells lateSr : List Nat) (late lateS c : Nat) : Bool :=
  if lateCells.contains c then natBit late c
  else if lateSr.contains c && natBit lateS c then (cellOf v.d c).srval
  else v.qNext c

/-- The MAC blocks that an edge clocks, after it (R69, R77): undefined behind a failing path and where they are clocked too fast. -/
def State.macEdge (s : State) (f : Nat) (v : FabEnv) (es : List (Nat × Bool)) (lateMacs : List Nat) (lateM : Nat) : List (Nat × MacSt) :=
  (v.d.macs.filter (fun e => clkActive es e.2.clk)).map (fun e =>
    let casc := if e.1 % 16 = 0 then 0 else (v.mac (e.1 - 1)).p
    (e.1, if lateMacs.contains e.1 || s.macFast f e.2 then macOpen (lateM / 2 ^ (241 * e.1)) else v.macNext (macCfgOf e.1 e.2) (v.mac e.1) casc))

/-- One set of coincident clock edges of a field. `ext` names the entering signals that are 1; cells in `lateCells` and MACs in `lateMacs` have a
failing path, and cells in `lateSr` a set/reset release in violation. The global set/reset holds the flip-flops and no MAC block (R55, R69). -/
def State.clockEdge (s : State) (f : Nat) (edges : List (Fin 4 × Bool)) (ext lateCells lateSr lateMacs : List Nat) : State :=
  let (loop, s) := s.fresh
  let (late, s) := s.fresh
  let (lateS, s) := s.fresh
  let (lateM, s) := s.fresh
  let s := s.setFrt f { s.frt f with ext := ext }
  let s := if (s.frt f).gsr then s.initCells f else s.settle f ext loop
  let v := s.fabEnv f ext loop
  let es := s.liveEdges f edges
  let qs := if v.gsr then [] else (v.d.cells.filter (fun e => cellClocked v.d es e.1)).map (fun e => (e.1, v.qEdge lateCells lateSr late lateS e.1))
  let ms := s.macEdge f v es lateMacs lateM
  let s := ((s.presentBms f v es).presentStiles f v es).putQ f qs |>.putMac f ms
  (if (s.frt f).gsr then s else s.settle f ext loop).stepEdge f es

/-- ACTIVE_CLOCK_EDGE (R53): every flip-flop clocked by the edges resolves set/reset, clock enable and data, and every MAC
register updates; `upsets` are configuration bits that have flipped since the last one (R502). -/
def execActiveClockEdge (f : Fin 128) (edges : List (Fin 4 × Bool)) (ext lateCells lateSr lateMacs : List Nat)
    (upsets : List (Fin 139264 × Fin 72)) (s : State) : Host.Outcome State Fault Refusal :=
  .next ((s.flipCfg f.val (upsets.map (fun e => (e.1.val, e.2.val)))).clockEdge f.val edges ext lateCells lateSr lateMacs)

end Sys2Proof.Machine
end

