-- ==== Sys2Proof/Machine/Flit.lean ====
section
/-! DEFINITION. Flits: layout, header check and CRC (R146-R148). -/
namespace Sys2Proof.Machine

/-- One step of the reflected CRC-16 register (R148). -/
def crc16Bit (c : Nat) (b : Bool) : Nat :=
  let out := c % 2 == 1
  if xor b out then (c / 2) ^^^ 0x8408 else c / 2

/-- CRC-16 over the low `n` bits of `x`, bit 0 first, from a register value. -/
def crc16From (c x n : Nat) : Nat := (List.range n).foldl (fun c i => crc16Bit c (natBit x i)) c

/-- CRC-16 from its initial value 0xFFFF (R148). -/
def crc16 (x n : Nat) : Nat := crc16From 0xFFFF x n

/-- Columns of the header code: h(0) to h(67) (R148). -/
def colsHdr : List Nat := eccCols 8 68

/-- Sideband bits [119:0] of a flit (R146). -/
def Flit.side (f : Flit) : Nat :=
  f.addr % 2 ^ 48 + f.mid % 2 ^ 12 * 2 ^ 48 + f.sid % 2 ^ 7 * 2 ^ 60 + f.cls % 4 * 2 ^ 67 + b2n f.rsp * 2 ^ 69 +
  f.op % 16 * 2 ^ 70 + f.tag % 256 * 2 ^ 74 + f.dst % 2 ^ 11 * 2 ^ 82 + f.src % 2 ^ 11 * 2 ^ 93 + f.len % 64 * 2 ^ 104 +
  f.idx % 4 * 2 ^ 110 + b2n f.last * 2 ^ 112 + f.code % 8 * 2 ^ 113

/-- Header check of sideband bits [115:48]. -/
def hchk (side : Nat) : Nat := eccXor colsHdr (natBits side 115 48) 0

/-- The 656 bits an injecting stop sends (R148). -/
def Flit.encode (f : Flit) : BitVec 656 :=
  let s := f.side + hchk f.side * 2 ^ 120
  let crc := crc16From (crc16 s 128) f.data 512
  BitVec.ofNat 656 (s + crc * 2 ^ 128 + f.data % 2 ^ 512 * 2 ^ 144)

/-- The fields of 656 bits. -/
def flitOf (x : Nat) : Flit :=
  { addr := natBits x 47 0, mid := natBits x 59 48, sid := natBits x 66 60, cls := natBits x 68 67, rsp := natBit x 69,
    op := natBits x 73 70, tag := natBits x 81 74, dst := natBits x 92 82, src := natBits x 103 93, len := natBits x 109 104,
    idx := natBits x 111 110, last := natBit x 112, code := natBits x 115 113, data := natBits x 655 144 }

/-- Outcome of the checks of a flit: `none` where its header is uncorrectable; otherwise the flit with its header
corrected, whether the header was corrected and whether the CRC failed (R148). The CRC is checked over the corrected
header. -/
def flitCheck (raw : Nat) : Option (Flit × Bool × Bool) :=
  let syn := eccXor colsHdr (natBits raw 115 48) 0 ^^^ natBits raw 127 120
  let fixed : Option (Nat × Bool) :=
    if syn = 0 then some (raw, false)
    else if colsHdr.contains syn then some (raw ^^^ 2 ^ (48 + colsHdr.idxOf syn), true)
    else if (List.range 8).any (fun j => syn == 2 ^ j) then some (raw ^^^ syn * 2 ^ 120, true)
    else none
  fixed.map (fun (x, ce) =>
    let crc := crc16From (crc16 (natBits x 127 0) 128) (natBits x 655 144) 512
    (flitOf x, ce, crc != natBits x 143 128))

end Sys2Proof.Machine
end

