-- ==== Sys2Proof/Machine/Kelk.lean ====
section
/-! DEFINITION. Kelk die-to-die links (R550-R558): numbering, the selection record, errors in service, retests and what
their outcome does to crossings and dies. -/
namespace Sys2Proof.Machine

/-! ### Numbering (R550, R551) -/

/-- The two dies a bundle joins, sender first, by the die index of R31. -/
def bundleEnds (b : Nat) : Nat × Nat :=
  if b < 80 then
    let k := b / 20
    if b % 20 < 10 then (1 + k, 5 + k) else (5 + k, 1 + k)
  else if b < 144 then
    let k := (b - 80) / 16
    if (b - 80) % 16 < 8 then (1 + k, 0) else (0, 1 + k)
  else
    let k := (b - 144) / 4
    if (b - 144) % 4 < 2 then (5 + k, 0) else (0, 5 + k)

/-- Whether a bundle touches a die. -/
def kelkSTouches (b d : Nat) : Bool := (bundleEnds b).1 == d || (bundleEnds b).2 == d

/-- The fabric dies (0-3) a group joins and its direction: sender, receiver, and the crossing it serves as the sender's
field and edge. -/
def groupServes (w : Nat) : Nat × Nat × Nat × Nat :=
  if w < 1536 then
    let p := w / 768
    let dir := w % 768 / 384
    let row := w % 384 / 96
    let a := 2 * p + dir
    let b := 2 * p + (1 - dir)
    (a, b, 32 * a + 8 * row + 7, 3)
  else
    let p := (w - 1536) / 128
    let dir := (w - 1536) % 128 / 64
    let col := (w - 1536) % 64 / 8
    let a := p + 2 * dir
    let b := p + 2 * (1 - dir)
    (a, b, 32 * a + col, 0)

/-- Whether a group touches a die (the hub carries the row-0 groups but is no end of them). -/
def kelkWTouches (w d : Nat) : Bool :=
  let (a, b, _, _) := groupServes w
  1 + a == d || 1 + b == d

/-- Groups that serve the direction out of a field edge. -/
def groupsOf (f e : Nat) : List Nat := (List.range 1792).filter (fun w => (groupServes w).2.2 == (f, e))

/-- Groups a direction needs (R555): a quarter of its facing pair's. -/
def groupsNeeded (e : Nat) : Nat := if e = 3 then 24 else 2

/-! ### Wires (R550, R551, R553) -/

/-- What a 16-fuse entry of a selection record says: empty, a wire, or neither (R553). -/
def selEntry (x : BitVec 16) : Option (Option Nat) :=
  if x = 0 then some none
  else if natBits x.toNat 15 14 = 3 && natBits x.toNat 6 0 + natBits x.toNat 13 7 = 127 then some (some (natBits x.toNat 6 0))
  else none

/-- The failed list of a copy, or none where the copy is not intact (R553). -/
def selCopy : List (BitVec 16) → Option (List Nat)
  | [] => some []
  | x :: l =>
    match selEntry x with
    | none => none
    | some none => if l.all (fun y => y == 0) then some [] else none
    | some (some w) => (selCopy l).map (fun r => w :: r)

/-- The most advanced intact copy of a record, where one is intact; a copy never written is empty and intact (R553). -/
def selFused (copies : List (List (BitVec 16))) : Option (List Nat) :=
  (copies ++ List.replicate (3 - copies.length) []).foldl (fun best c =>
    match selCopy c, best with
    | some l, some b => if l.length > b.length then some l else some b
    | some l, none => some l
    | none, b => b) none

/-- The wire that carries data lane `i`: the i-th wire not in the failed list (R550, R551). -/
def laneWire (wires : Nat) (failed : List Nat) (i : Nat) : Option Nat :=
  ((List.range wires).filter (fun w => !failed.contains w))[i]?

/-- A failed list joined by wires found failing, in ascending order, each once. -/
def joinWires (wires : Nat) (a b : List Nat) : List Nat := (List.range wires).filter (fun w => a.contains w || b.contains w)

/-- The state of a Kelk bundle. -/
def State.bnd (s : State) (b : Nat) : KelkBnd := tabGet (fun _ => {}) s.kelk.s b
/-- The state of a Kelk group. -/
def State.grp (s : State) (w : Nat) : KelkBnd := tabGet (fun _ => {}) s.kelk.w w
/-- A bundle's state replaced. -/
def State.setBnd (s : State) (b : Nat) (x : KelkBnd) : State := { s with kelk := { s.kelk with s := tabPut (fun _ => {}) s.kelk.s b x } }
/-- A group's state replaced. -/
def State.setGrp (s : State) (w : Nat) (x : KelkBnd) : State := { s with kelk := { s.kelk with w := tabPut (fun _ => {}) s.kelk.w w x } }

/-- STATE of a bundle: 0 UP, 1 RETEST, 2 DOWN. -/
def State.bndState (s : State) (b : Nat) : Nat := s.rf (kelkBlk + 4 * b) R.KELK_S_STATE
/-- STATE of a group. -/
def State.grpState (s : State) (w : Nat) : Nat := s.rf (kelkBlk + 4 * w) R.KELK_W_STATE

/-! ### Reachability (R555, R558) -/

/-- Some bundle from die `a` to die `b` is UP. -/
def State.bundleUp (s : State) (a b : Nat) : Bool :=
  (List.range 160).any (fun i => bundleEnds i == (a, b) && s.bndState i == 0)

/-- A die cannot be reached: a direction of a connection it needs has no bundle UP (R555). -/
def State.dieCut (s : State) (d : Nat) : Bool :=
  if 1 ≤ d ∧ d ≤ 4 then !(s.bundleUp d 0 && s.bundleUp 0 d)
  else if 5 ≤ d ∧ d ≤ 8 then !(s.bundleUp d 0 && s.bundleUp 0 d && s.bundleUp d (d - 4) && s.bundleUp (d - 4) d)
  else false

/-- Dies whose last required bundle has gone DOWN become unreachable, each with one report keyed to it (R558). -/
def State.cutDies (s : State) : State :=
  (List.range 9).foldl (fun s d =>
    if s.dieCut d && !natBit s.kelk.unreach d then
      ({ s with kelk := { s.kelk with unreach := s.kelk.unreach + 2 ^ d } }).reportO (locator 3 d) 0x0072 d
    else s) s

/-- A crossing has the groups it needs in both directions (R555). -/
def State.crossHasGroups (s : State) (f e : Nat) : Bool :=
  match stilePeer f e with
  | none => true
  | some (g, h, _, _) =>
    let up (x y : Nat) : Bool := decide (groupsNeeded e ≤ ((groupsOf x y).filter (fun w => s.grpState w == 0)).length)
    up f e && up g h

/-! ### Errors and retests (R556, R557) -/

/-- The errors of the last millisecond with one more at `now`, in ns. -/
def errWindow (errs : List Nat) (now : Nat) : List Nat := (errs.filter (fun t => decide (now < t + 1000000))) ++ [now]

/-- A bundle changes STATE: CHG, and a parish record on entry to RETEST or DOWN (R558). -/
def State.setBndState (s : State) (b st : Nat) : State :=
  let k := kelkBlk + 4 * b
  let s := (s.wf k R.KELK_S_STATE st).setF k R.KELK_S_CHG
  if st = 0 then s else s.recordO (0x006F + st) (locator 4 b) (s.rd (k + R.KELK_S)).toNat

/-- A group changes STATE. -/
def State.setGrpState (s : State) (w st : Nat) : State :=
  let k := kelkBlk + 4 * w
  let s := (s.wf k R.KELK_W_STATE st).setF k R.KELK_W_CHG
  if st = 0 then s else s.recordO (0x006F + st) (locator 5 w) (s.rd (k + R.KELK_W)).toNat

/-- A flit that a bundle delivered failed its CRC-16 (R556): counted, and 16 within 1 ms put the bundle into RETEST. -/
def State.kelkSErr (s : State) (b : Nat) : State :=
  let s := s.cntF (kelkBlk + 4 * b) R.KELK_S_ERR 1
  let x := s.bnd b
  let e := errWindow x.errs s.now
  if e.length ≥ 16 && s.bndState b == 0 then (s.setBnd b { x with errs := [] }).setBndState b 1
  else s.setBnd b { x with errs := e }

/-- A word of a group decoded CE (R552, R557): counted, and 16 within 1 ms put the group into RETEST. -/
def State.kelkWErr (s : State) (w : Nat) : State :=
  let s := s.cntF (kelkBlk + 4 * w) R.KELK_W_ERR 1
  let x := s.grp w
  let e := errWindow x.errs s.now
  if e.length ≥ 16 && s.grpState w == 0 then (s.setGrp w { x with errs := [] }).setGrpState w 1
  else s.setGrp w { x with errs := e }

/-- A word of a group decoded UE (R557): the crossing it serves is lost at once, and the group enters RETEST. -/
def State.kelkWUe (s : State) (w : Nat) : State :=
  let s := s.setF (kelkBlk + 4 * w) R.KELK_W_UE_EVT
  let (_, _, f, e) := groupServes w
  let s := s.setLost f e true
  if s.grpState w == 0 then s.setGrpState w 1 else s

/-- A bundle's or group's register after a selection or retest: NFAIL reads 7 for 7 or more. -/
def nfail (l : List Nat) : Nat := min l.length 7

/-- A retested bundle (R556): the wires found failing join its list; with at most 4 it is mapped again and UP, otherwise
DOWN until the next start, which may cut a die off (R558). -/
def kelkSRetested (b : Nat) (found : List Nat) (s : State) : State :=
  if s.bndState b != 1 then s
  else
    let x := s.bnd b
    let l := joinWires 68 x.list found
    let s := (s.setBnd b { x with list := l, errs := [] }).wf (kelkBlk + 4 * b) R.KELK_S_NFAIL (nfail l)
    if l.length ≤ 4 then s.setBndState b 0 else (s.setBndState b 2).cutDies

/-- A retested group (R557), with the limit of 2 wires. A crossing left with fewer groups than R555 requires is lost. -/
def kelkWRetested (w : Nat) (found : List Nat) (s : State) : State :=
  if s.grpState w != 1 then s
  else
    let x := s.grp w
    let l := joinWires 34 x.list found
    let s := (s.setGrp w { x with list := l, errs := [] }).wf (kelkBlk + 4 * w) R.KELK_W_NFAIL (nfail l)
    if l.length ≤ 2 then s.setGrpState w 0
    else
      let s := s.setGrpState w 2
      let (_, _, f, e) := groupServes w
      if s.crossHasGroups f e then s else s.setLost f e true

/-- KELK_S_RETEST_DONE (R556). -/
def execKelkSRetestDone (b : Fin 160) (found : List (Fin 68)) (s : State) : Host.Outcome State Fault Refusal :=
  .next (kelkSRetested b.val (found.map (·.val)) s)

/-- KELK_W_RETEST_DONE (R557). -/
def execKelkWRetestDone (w : Fin 1792) (found : List (Fin 34)) (s : State) : Host.Outcome State Fault Refusal :=
  .next (kelkWRetested w.val (found.map (·.val)) s)

/-- A lost crossing restarts on its remaining groups, with every channel empty and holding 4 credits; one left with
fewer groups than R555 requires stays lost until the next start (R557). -/
def kelkWRestart (f e : Nat) (s : State) : State :=
  if s.crossLost f e && s.crossHasGroups f e then s.setLost f e false else s

/-- KELK_W_CROSSING_RESTART (R557) of the crossing at an edge of a field. -/
def execKelkWCrossingRestart (f : Fin 128) (e : Fin 4) (s : State) : Host.Outcome State Fault Refusal :=
  .next (kelkWRestart f.val e.val s)

/-! ### Selection at a start (R553-R555) -/

/-- The list in force of a bundle or group with `n` wires at a start (R554): a cold start adds the wires found among
those outside the fused list; a warm start keeps the fused list unless a mapped wire fails, and otherwise selects as a
cold start does. -/
def selectList (wires data : Nat) (cold : Bool) (copies : List (List (BitVec 16))) (found : List Nat) : List Nat :=
  let fused := (selFused copies).getD []
  let mapped := (List.range data).filterMap (laneWire wires fused)
  if !cold && (selFused copies).isSome && !mapped.any found.contains then fused
  else joinWires wires fused (found.filter (fun w => !fused.contains w))

/-- Every copy that lacks fuses of the most advanced intact copy is made to match it (R553, as R438 does). -/
def mendCopies (copies : List (List (BitVec 16))) : List (List (BitVec 16)) :=
  match selFused copies with
  | none | some [] => copies
  | some l =>
    let entry (w : Nat) : BitVec 16 := BitVec.ofNat 16 (w + (127 - w) * 128 + 3 * 16384)
    List.replicate 3 (l.map entry)

/-- Selection of one bundle (R554, R555): list, NFAIL, NFUSED and STATE; a bundle with more than 4 wires is DOWN, with a
report keyed to it; a record with no intact copy stages a parish record (R553). -/
def State.selectS (s : State) (cold : Bool) (b : Nat) (found : List Nat) : State :=
  let x := s.bnd b
  let l := selectList 68 64 cold x.copies found
  let k := kelkBlk + 4 * b
  let s := if (selFused x.copies).isNone then s.recordO 0x0021 (locator 4 b) b else s
  let s := s.setBnd b { copies := mendCopies x.copies, list := l, errs := [] }
  let s := (s.wf k R.KELK_S_NFAIL (nfail l)).wf k R.KELK_S_NFUSED (((selFused x.copies).getD []).length)
  if l.length > 4 then
    (s.wf k R.KELK_S_STATE 2).reportO (locator 4 b) 0x0071 (s.rd (k + R.KELK_S)).toNat
  else s.wf k R.KELK_S_STATE 0

/-- Selection of one group, with the limit of 2 wires. -/
def State.selectW (s : State) (cold : Bool) (w : Nat) (found : List Nat) : State :=
  let x := s.grp w
  let l := selectList 34 32 cold x.copies found
  let k := kelkBlk + 4 * w
  let s := if (selFused x.copies).isNone then s.recordO 0x0021 (locator 5 w) w else s
  let s := s.setGrp w { copies := mendCopies x.copies, list := l, errs := [] }
  let s := (s.wf k R.KELK_W_NFAIL (nfail l)).wf k R.KELK_W_NFUSED (((selFused x.copies).getD []).length)
  if l.length > 2 then
    (s.wf k R.KELK_W_STATE 2).reportO (locator 5 w) 0x0071 (s.rd (k + R.KELK_W)).toNat
  else s.wf k R.KELK_W_STATE 0

/-- Crossings without the groups they need are lost, and the others restored, at a start (R555). -/
def State.selectCrossings (s : State) : State :=
  (List.range 128).foldl (fun s f => [0, 3].foldl (fun s e =>
    if (groupsOf f e).isEmpty then s else s.setLost f e (!s.crossHasGroups f e)) s) s

/-- Kelk selection at step 6 of a start, from the wires the tests found failing (R554). -/
def State.kelkSelect (s : State) (cold : Bool) (foundS foundW : List (Nat × List Nat)) : State :=
  let s := (List.range 160).foldl (fun s b => s.selectS cold b (assocGet [] foundS b)) s
  let s := (List.range 1792).foldl (fun s w => s.selectW cold w (assocGet [] foundW w)) s
  { s with kelk := { s.kelk with unreach := 0 } }.selectCrossings

/-- The dies that a selection leaves unreachable (R555). -/
def State.cutList (s : State) : List Nat := (List.range 9).filter s.dieCut

/-- Wires found failing under the threshing posture at step 9 join their lists (R554). -/
def State.kelkVerify (s : State) (foundS foundW : List (Nat × List Nat)) : State :=
  let s := foundS.foldl (fun s e =>
    if s.bndState e.1 != 0 then s
    else
      let x := s.bnd e.1
      let l := joinWires 68 x.list e.2
      let s := (s.setBnd e.1 { x with list := l }).wf (kelkBlk + 4 * e.1) R.KELK_S_NFAIL (nfail l)
      if l.length > 4 then (s.setBndState e.1 2) else s) s
  foundW.foldl (fun s e =>
    if s.grpState e.1 != 0 then s
    else
      let x := s.grp e.1
      let l := joinWires 34 x.list e.2
      let s := (s.setGrp e.1 { x with list := l }).wf (kelkBlk + 4 * e.1) R.KELK_W_NFAIL (nfail l)
      if l.length > 2 then (s.setGrpState e.1 2) else s) s

end Sys2Proof.Machine
end

