-- ==== Sys2Proof/Machine/Xt.lean ====
section
/-! DEFINITION. Cross-trigger channels: an event at a source (R469, R471). -/
namespace Sys2Proof.Machine

/-- Owner of a channel (R471). -/
def State.xtOwner (s : State) (c : Nat) : Nat := s.rf (dbgBlk + 0x20 * c) R.DBG_XT_OWN_SITE

/-- An event on a channel (R469, R470): recorded, with the TTC of the first since the last clear, and on its way to its destinations. -/
def State.xtFire (s : State) (c : Nat) : State :=
  let a := dbgBlk + R.DBG_XT_STAT
  let s := if natBit (s.rd a).toNat c then s
    else (s.wr a (s.rd a ||| BitVec.ofNat 32 (2 ^ c))).wr64 (dbgBlk + R.DBG_XT_FIRST_LO + 0x20 * c) s.ttc
  { s with dbg := { s.dbg with xt := s.dbg.xt ++ [(c, s.ttc)] } }

/-- A source mapped to a channel fires it only where the owners agree (R471). -/
def State.xtFireBy (s : State) (c owner : Nat) : State := if s.xtOwner c = owner then s.xtFire c else s

/-- A management source. -/
def State.xtFireMgmt (s : State) (on : Bool) (c : Nat) : State := if on then s.xtFireBy c 0x7F else s

end Sys2Proof.Machine
end

