-- ==== Sys2Proof/Machine/RingOps.lean ====
section
/-! DEFINITION. Stops, routes, requesters and firewalls of the rings (R140-R166), and the operations that place, deliver and
answer flits. -/
namespace Sys2Proof.Machine

/-! ### Requesters (R161, R162) -/

/-- SID of a request that an FCU forwards: the owner of the link it serves (R246), of any link for a tally result (R260); a requester that names
another carries that of the FCU's first link. -/
def State.fcuSid (s : State) (n given : Nat) : Nat :=
  if (List.range 512).any (fun l => s.linkOwner l == given) then given else s.linkOwner (16 * n)

/-- SID a MID carries: its fixed assignment, or the owner of its resource (R162); it is never the requester's to choose. -/
def State.midSid (s : State) (mid given : Nat) : Nat :=
  if mid ≤ 4 || mid = 8 || mid = 9 || mid = 0xA || (decide (0x10 ≤ mid) && decide (mid ≤ 0x20)) then 0x7F
  else if 0x40 ≤ mid ∧ mid < 0x80 then mid - 0x40
  else if 0x80 ≤ mid ∧ mid < 0xC0 then mid - 0x80
  else if 0xC0 ≤ mid ∧ mid < 0xD0 then s.rf (guestBlk + 4 * (mid - 0xC0)) R.GST_MSTR_SID
  else if 0x100 ≤ mid ∧ mid < 0x180 then s.fieldOwner (mid - 0x100)
  else if 0x180 ≤ mid ∧ mid < 0x1C0 then s.millOwner (mid - 0x180)
  else if 0x1C0 ≤ mid ∧ mid < 0x1E0 then s.fcuSid (mid - 0x1C0) given
  else if 0x1E4 ≤ mid ∧ mid < 0x1F0 then 0x7F
  else if 0x200 ≤ mid ∧ mid < 0x400 then s.linkOwner (mid - 0x200)
  else given

/-- Whether a field's image enables a ring-port target (R161). -/
def State.fieldPort (s : State) (f : Nat) : Bool := (s.frt f).configured && (s.designOf f).ringPort

/-- Destination stop of an address (R160), where the source stop decodes it (R161); `ring` is the ring or lane on which a
DRAM request travels (R144). DESIGN CHOICE: a flit for the register agent of F`k`, which has a port on each ring, takes the port on the ring
whose number equals its ring or lane, as R144 says of a DRAM controller; the spec does not say which (log entry 33). -/
def State.ringDst (s : State) (a ring : Nat) : Option Nat :=
  match regionOf a with
  | .dram _ => (s.dramDecode a).map (fun (c, _) => ddrStopNo c ring)
  | .gran g _ => some (granStopNo g)
  | .bm i _ => some (fieldStopNo (i / 96))
  | .window f _ => if s.fieldPort f then some (fieldStopNo f) else none
  | .guest _ => if s.part.optionG && (s.rf guestBlk R.GST_STAT_STATE == 2 || s.rf guestBlk R.GST_STAT_STATE == 3) then
      some (stopNo 0 0 7) else none
  | .regs o =>
    let d := o / 0x1000000
    if d = 0 then some (stopNo 0 0 11)
    else if d ≤ 4 then some (stopNo d ring 1)
    else some (stopNo 0 0 (jtPos (d - 5)))
  | .undecoded => none

/-- Die on which an address's target lies. -/
def State.ringDie (s : State) (a : Nat) : Nat :=
  match regionOf a with
  | .dram _ => match s.dramDecode a with | some (c, _) => 1 + c / 3 | none => 0
  | .gran g _ => 1 + g / 8
  | .bm i _ => 1 + i / 96 / 32
  | .window f _ => 1 + f / 32
  | .guest _ => 9
  | .regs o => o / 0x1000000
  | .undecoded => 0

/-- Owner of the resource at an address, where one resource has an owner (R163). -/
def State.resOwner (s : State) (a : Nat) : Option Nat :=
  match regionOf a with
  | .dram off => some (s.dramOwner (off / 2 ^ 30))
  | .gran g _ => some (s.granOwner g)
  | .bm i _ => some (s.fieldOwner (i / 96))
  | .window f _ => some (s.fieldOwner f)
  | .regs o => s.regOwned o
  | _ => none

/-- SID against the owner of the addressed resource; 0x7F passes (R163). -/
def State.ownerPasses (s : State) (sid a : Nat) : Bool :=
  sid == 0x7F || match s.resOwner a with | some o => o == sid | none => true

/-! ### Stop state -/

/-- State of a stop. -/
def State.stopSt (s : State) (n : Nat) : StopSt := tabGet (fun _ => {}) s.ring.stop n
/-- State of a stop replaced. -/
def State.setStop (s : State) (n : Nat) (x : StopSt) : State :=
  { s with ring := { s.ring with stop := tabPut (fun _ => {}) s.ring.stop n x } }

/-- Arbitration state of a granary. -/
def State.grSt (s : State) (g : Nat) : GrSt := tabGet (fun _ => {}) s.mem.grSt g
/-- Arbitration state of a granary replaced. -/
def State.setGrSt (s : State) (g : Nat) (x : GrSt) : State :=
  { s with mem := { s.mem with grSt := tabPut (fun _ => {}) s.mem.grSt g x } }

/-- The flit a flight carries. -/
def Flight.flit (x : Flight) : Flit := flitOf x.raw.toNat

/-! ### Ring directions, lanes and their slots (R140, R142, R143, R153) -/

/-- Hops clockwise from one position to another on a ring of `n` stops. -/
def cwHops (n a b : Nat) : Nat := (b + n - a) % n

/-- Direction with fewer hops: 0 clockwise, which a tie takes too, 1 anticlockwise (R142, R143). -/
def dirOf (n a b : Nat) : Nat := if 2 * cwHops n a b ≤ n then 0 else 1

/-- Ring direction (1-16) or spine lane and direction (17-20) from a stop to the next point of a flit; 0 a Kelk-S bundle between a bridge and a
T die. -/
def linkOf (cur nx lane : Nat) : Nat :=
  let dc := stopDie cur
  let dn := stopDie nx
  if dc = 0 && dn = 0 then 17 + 2 * (lane % 2) + dirOf 16 (stopPos cur) (stopPos nx)
  else if 1 ≤ dn ∧ dn ≤ 4 ∧ dc < 5 then
    1 + 4 * (dn - 1) + 2 * stopRing nx + dirOf 34 (if dc = 0 then 0 else stopPos cur) (stopPos nx)
  else if 1 ≤ dc ∧ dc ≤ 4 ∧ dn = 0 then 1 + 4 * (dc - 1) + 2 * stopRing cur + dirOf 34 (stopPos cur) 0
  else 0

/-- Stops of a ring direction (R141) or spine lane (R143). -/
def linkStops (k : Nat) : Nat := if 17 ≤ k then 16 else 34

/-- Position of a stop on a ring direction or spine lane; a junction has position 0 on the rings of its die. -/
def linkPos (k cur : Nat) : Nat := if stopDie cur = 0 && decide (k < 17) then 0 else stopPos cur

/-- Stop at a position of a ring direction or spine lane. -/
def linkStop (k p : Nat) : Nat :=
  if 17 ≤ k then stopNo 0 0 p
  else if p = 0 then stopNo 0 0 (jfPos ((k - 1) / 4)) else stopNo (1 + (k - 1) / 4) ((k - 1) / 2 % 2) p

/-- Position `i` stops downstream of `p`. -/
def downPos (k p i : Nat) : Nat :=
  let n := linkStops k
  if (k - 1) % 2 = 0 then (p + i) % n else (p + n - i % n) % n

/-- Slots of a ring direction or spine lane, reserved or ordinary: every fourth is reserved (R153). DESIGN CHOICE: there are as many slots as
stops, which the spec does not say (log entry 33). -/
def slotCount (k : Nat) (resv : Bool) : Nat :=
  let n := linkStops k
  if resv then n / 4 else n - n / 4

/-- A slot of a kind is empty; a Kelk-S bundle has no slots to wait for. -/
def State.slotFree (s : State) (k : Nat) (resv : Bool) : Bool :=
  k == 0 || decide ((s.ring.flight.filter (fun x => x.link == k && x.resv == resv)).length < slotCount k resv)

/-! ### Credits (R150) -/

/-- Credits a sender holds for a receiving point (R150). DESIGN CHOICE: where two rows of R150's table fit one point, HRG is a spine stop (32)
rather than a register agent, and every junction, JT`k` and JG included, a junction (16) whoever sends (log entry 33). -/
def ringCredits (receiver : Nat) : Nat :=
  let d := stopDie receiver
  let p := stopPos receiver
  if d = 0 then if (jfOf p).isSome || (jtOf p).isSome || p == 7 then 16 else 32
  else if p = 0 || p = 17 || p = 2 || p = 28 || p = 33 then 16
  else if p = 1 then 2
  else if p = 15 || p = 16 || p = 18 || p = 19 then 8
  else 4

/-- Whether a stop holds a credit of a class for a receiving point. -/
def State.hasCredit (s : State) (n receiver cls : Nat) : Bool :=
  cls == 0 || decide (assocGet 0 (s.stopSt n).used (receiver * 4 + cls) < ringCredits receiver)

/-- Set an entry of an association list. -/
def assocSet (l : List (Nat × Nat)) (k v : Nat) : List (Nat × Nat) := (k, v) :: l.filter (fun e => e.1 != k)

/-- A credit used. -/
def State.useCredit (s : State) (n receiver cls : Nat) : State :=
  if cls = 0 then s
  else
    let x := s.stopSt n
    let k := receiver * 4 + cls
    s.setStop n { x with used := assocSet x.used k (assocGet 0 x.used k + 1) }

/-! ### Placing and answering flits -/

/-- Spine lane of a flit that a stop injects: the ring it comes from, or the destination die modulo 2 (R144). DESIGN CHOICE: the destination die
is that of the stop in DST: R31 gives the guest die no index, and a request for a register of a T die has its DST, JT`k`, on die 0; both take
lane 0 (log entry 33). -/
def laneOf (cur dst : Nat) : Nat :=
  let d := stopDie cur
  if 1 ≤ d ∧ d ≤ 8 then stopRing cur else stopDie dst % 2

/-! ### Probes (R169, R170) -/

/-- Port of a junction on which it meets a neighbour: the neighbour's ring, or a spine lane. -/
def portOf (other lane : Nat) : Nat := if 1 ≤ stopDie other ∧ stopDie other ≤ 8 then stopRing other else 2 + lane % 2

/-- A flit passes every filter of the probe at `b`; `odd` says what RSP = 3, whose meaning is open, does. -/
def State.probeHit (s : State) (b port : Nat) (out odd : Bool) (f : Flit) : Bool :=
  let mask := s.rf b R.PRB_MID_MASK
  let a := f.addr / 2 ^ 16
  s.flag b R.PRB_CTRL_EN && s.rf b R.PRB_CTRL_PORT == port && natBit (s.rf b R.PRB_CTRL_DIR) (b2n out) && natBit (s.rf b R.PRB_CTRL_CLASS) f.cls &&
  (match s.rf b R.PRB_CTRL_RSP with | 0 => true | 1 => !f.rsp | 2 => f.rsp | _ => odd) &&
  (!s.flag b R.PRB_CTRL_OP_EN || s.rf b R.PRB_CTRL_OP == f.op) &&
  (!s.flag b R.PRB_CTRL_SID_EN || s.rf b R.PRB_CTRL_SID == f.sid) &&
  (!s.flag b R.PRB_CTRL_CODE_EN || s.rf b R.PRB_CTRL_CODE == f.code) &&
  (f.mid &&& mask) == (s.rf b R.PRB_MID_MID &&& mask) &&
  decide (s.rf b R.PRB_BASE_A ≤ a) && decide (a ≤ s.rf b R.PRB_LIMIT_A)

/-- The 32 bytes of a trace entry (R170). -/
def traceEntry (ttc : Nat) (out crc : Bool) (f : Flit) : BitVec 256 :=
  BitVec.ofNat 256 (ttc % 2 ^ 64 + f.addr % 2 ^ 48 * 2 ^ 64 +
    (f.mid % 2 ^ 12 + f.cls % 4 * 2 ^ 12 + b2n f.rsp * 2 ^ 14 + b2n out * 2 ^ 15) * 2 ^ 112 + f.sid % 128 * 2 ^ 128 +
    (f.op % 16 + f.code % 8 * 16 + b2n crc * 128) * 2 ^ 136 + f.dst % 2 ^ 11 * 2 ^ 144 + f.src % 2 ^ 11 * 2 ^ 160 + f.tag % 256 * 2 ^ 176 +
    (f.len % 64 + f.idx % 4 * 64) * 2 ^ 184 + f.data % 2 ^ 32 * 2 ^ 192)

/-- A matching flit traced (R169). DESIGN CHOICE: with STOP_FULL the pointer stops at entry 1,023, which is not written (log entry 10). -/
def State.probeTrace (s : State) (b p : Nat) (out crc : Bool) (f : Flit) : State :=
  let w := s.rf b R.PRB_TRC_WPTR_WPTR
  if !s.flag b R.PRB_CTRL_TRACE || (s.flag b R.PRB_CTRL_STOP_FULL && w == 1023) then s
  else
    let s := { s with ring := { s.ring with trace := tabPut (fun _ => 0) s.ring.trace (p * 1024 + w) (traceEntry s.ttc out crc f) } }
    (s.wf b R.PRB_TRC_WPTR_WPTR (w + 1)).setIf (w == 1023) b R.PRB_TRC_WPTR_WRAPPED

/-- PROBE_MATCH (R169): a flit passes a port of a junction; each probe that it matches counts and traces it, and fires its channel. -/
def State.probe (s : State) (j port : Nat) (out crc : Bool) (f : Flit) : State :=
  match probeBase (stopPos j) with
  | none => s
  | some p0 =>
    (List.range 4).foldl (fun s i =>
      let b := spineBlk (stopPos j) + 0x20 * i
      let p := 4 * p0 + i
      let (x, s) := if s.rf b R.PRB_CTRL_RSP = 3 then s.fresh else (0, s)
      if s.probeHit b port out (x % 2 == 1) f then
        let s := (s.cnt64 (b + R.PRB_CNT_LO) 1).probeTrace b p out crc f
        s.xtFireMgmt (s.flag (dbgBlk + 4 * p) R.DBG_PRB_XT_OUT_EN) (s.rf (dbgBlk + 4 * p) R.DBG_PRB_XT_OUT_CH)
      else s) s

/-! ### Filling slots (R150-R155) -/

/-- Output of a stop. -/
def State.ringOut (s : State) (cur k : Nat) : RingOut := tabGet (fun _ => {}) s.ring.out (cur * 32 + k)

/-- Flits waiting at an output, oldest first. -/
def State.waiting (s : State) (cur k : Nat) : List Flight := s.ring.wait.filter (fun x => x.cur == cur && x.link == k)

/-- A flit has the credit that an ordinary request needs (R150); responses and Bell flits need none (R151, R152). -/
def State.mayGo (s : State) (x : Flight) : Bool :=
  x.flit.rsp || s.hasCredit x.cur (nextHop x.cur x.flit.dst) x.flit.cls

/-- Port order of flits that arrive together: spine lanes 0 and 1, rings 0 and 1 (R159). -/
def portRank (port : Nat) : Nat := if port = 0 then 4 else if 17 ≤ port then (port - 17) / 2 else 2 + (port - 1) / 2 % 2

/-- The Bell flit served next at an output: first in, first out, in port order those of one moment (R159). -/
def firstBell (l : List Flight) : Option Flight :=
  (l.filter (fun x => x.flit.cls == 0)).foldl (fun b x =>
    match b with
    | none => some x
    | some y => if x.since = y.since ∧ portRank x.port < portRank y.port then some x else some y) none

/-- A stop's junction: JF0-JF3, JT0-JT3 or JG. -/
def isJunction (cur : Nat) : Bool := stopDie cur == 0 && junctionPos.contains (stopPos cur)

/-- Queue of a junction's output: one per site, 64 for management (R155). -/
def siteQueue (x : Flight) : Nat := regbusIdx x.flit.sid

/-- Weight of a queue of a junction's outputs: its SHARE, and for management what the sites leave of 256 (R155). -/
def State.ringShare (s : State) (cur i : Nat) : Nat :=
  let w (n : Nat) : Nat := s.rf (spineBlk (stopPos cur) + 4 * n) R.RING_SHARE_SHARE
  if i < 64 then w i else 256 - (List.range 64).foldl (fun a n => a + w n) 0

/-- The queue a junction's output serves, with what is left of its deficit: the same until its deficit is used or none of its flits can go, then
the next with a share that has one. DEDUCED: queues of no share are served in turn when no other has a flit to send (R155, log entry 33). -/
def State.nextQueue (s : State) (cur : Nat) (o : RingOut) (l : List Flight) : RingOut :=
  let has (i : Nat) : Bool := l.any (fun x => siteQueue x == i)
  let order := (List.range 65).map (fun i => (o.turn + 1 + i) % 65)
  if o.left ≠ 0 && has o.turn then { o with left := o.left - 1 }
  else
    match order.find? (fun i => has i && s.ringShare cur i != 0) with
    | some i => { o with turn := i, left := s.ringShare cur i - 1 }
    | none => { o with turn := (order.find? has).getD o.turn, left := 0 }

/-- The ordinary flit that a junction's output sends next: within a site's queue Prompt goes ahead of Bulk, and Scavenge goes only when every
queue is empty (R155). -/
def State.junctionPick (s : State) (cur : Nat) (o : RingOut) (l : List Flight) : Option (Flight × RingOut) :=
  let go := l.filter (fun x => (x.flit.cls == 1 || x.flit.cls == 2) && s.mayGo x)
  if l.any (fun x => x.flit.cls == 1 || x.flit.cls == 2) then
    let o := s.nextQueue cur o go
    let q := go.filter (fun x => siteQueue x == o.turn)
    match q.find? (fun x => x.flit.cls == 1) with
    | some x => some (x, o)
    | none => q.head?.map (fun x => (x, o))
  else (l.find? (fun x => x.flit.cls == 3 && s.mayGo x)).map (fun x => (x, o))

/-- The ordinary flit that a stop sends next: Prompt, but no more than 3 of every 4 slots while a Bulk flit could go, then Bulk, and Scavenge
when no Prompt or Bulk flit waits (R153). -/
def State.stopPick (s : State) (o : RingOut) (l : List Flight) : Option (Flight × RingOut) :=
  let first (c : Nat) : Option Flight := l.find? (fun x => x.flit.cls == c && s.mayGo x)
  match first 1, first 2 with
  | some p, some b => if o.prompt < 3 then some (p, { o with prompt := o.prompt + 1 }) else some (b, { o with prompt := 0 })
  | some p, none => some (p, { o with prompt := 0 })
  | none, some b => some (b, { o with prompt := 0 })
  | none, none =>
    if l.any (fun x => x.flit.cls == 1 || x.flit.cls == 2) then none
    else (first 3).map (fun x => (x, { o with prompt := 0 }))

/-- A waiting flit takes a slot: it uses its credit, a junction's probes see it leave, and a hold that its stop raised ends with an ordinary
injection (R150, R154, R169). -/
def State.takeSlot (s : State) (x : Flight) (resv : Bool) (o : RingOut) : State :=
  let f := x.flit
  let nx := nextHop x.cur f.dst
  let s := if f.rsp then s else s.useCredit x.cur nx f.cls
  let s := if f.cls ≠ 0 && (s.stopSt x.cur).hold then s.setStop x.cur { s.stopSt x.cur with hold := false } else s
  let s := if stopDie x.cur = 0 then s.probe x.cur (portOf nx x.lane) true false f else s
  { s with ring := { s.ring with wait := s.ring.wait.erase x, flight := s.ring.flight ++ [{ x with resv := resv }],
                                 out := tabPut (fun _ => {}) s.ring.out (x.cur * 32 + x.link) o } }

/-- What a stop puts into an empty slot (R153): a Bell flit takes any, another an ordinary one; the Bool says that the slot is ordinary.
DESIGN CHOICE: a Bell flit takes a reserved slot where one is empty (log entry 33). -/
def State.fillAt (s : State) (k cur : Nat) : Option (Bool × State) :=
  let l := s.waiting cur k
  let o := s.ringOut cur k
  match firstBell l with
  | some x => if s.slotFree k true then some (false, s.takeSlot x true o) else if s.slotFree k false then some (true, s.takeSlot x false o) else none
  | none =>
    if s.slotFree k false then
      (if isJunction cur then s.junctionPick cur o l else s.stopPick o l).map (fun (x, o) => (true, s.takeSlot x false o))
    else none

/-- An empty slot travels down its ring direction or lane: the first stop that has a flit for it fills it; a stop whose next one downstream has
raised a hold lets one ordinary slot pass (R153, R154). -/
def State.offerSlot (s : State) (k : Nat) : List Nat → Option State
  | [] => none
  | c :: t =>
    match s.fillAt k c with
    | none => s.offerSlot k t
    | some (ordinary, x) =>
      let d := linkStop k (downPos k (linkPos k c) 1)
      if ordinary && k != 0 && (s.stopSt d).hold then
        let s := s.setStop d { s.stopSt d with hold := false }
        match s.offerSlot k t with
        | some y => some y
        | none => (s.fillAt k c).map (·.2)
      else some x

/-- Stops with flits waiting for a ring direction or lane, downstream from a position. -/
def State.slotOrder (s : State) (k pos : Nat) : List Nat :=
  if k = 0 then ((s.ring.wait.filter (fun x => x.link == 0)).map (·.cur)).eraseDups
  else ((List.range (linkStops k)).map (fun i => linkStop k (downPos k pos i))).filter (fun c => !(s.waiting c k).isEmpty)

/-- Empty slots are filled until no stop has a flit for one. -/
def State.fillSlots (s : State) (k pos : Nat) : Nat → State
  | 0 => s
  | n + 1 => match s.offerSlot k (s.slotOrder k pos) with | some x => x.fillSlots k pos n | none => s

/-- The waiting flits of a ring direction or lane are offered its empty slots, from a position on. -/
def State.ringPump (s : State) (k pos : Nat) : State := s.fillSlots k pos (s.ring.wait.filter (fun x => x.link == k)).length

/-- A flit placed at a stop's output, having come by a ring direction or lane, with HCHK and CRC computed (R148): it waits there for a slot and,
where it needs one, a credit (R150, R153). -/
def State.placeLane (s : State) (cur lane port : Nat) (f : Flit) : State :=
  let k := linkOf cur (nextHop cur f.dst) lane
  State.ringPump { s with ring := { s.ring with
    wait := s.ring.wait ++ [{ cur := cur, lane := lane, link := k, port := port, since := s.now, raw := f.encode }] } } k (linkPos k cur)

/-- A flit placed at a stop that injects it (R144). -/
def State.place (s : State) (cur : Nat) (f : Flit) : State := s.placeLane cur (laneOf cur f.dst) 0 f

/-- Response to a request from a stop (R146, R147): RDATA in one flit, or four for a READ_BURST answered OK; WDONE for a
WRITE. Data is zero when the code is not OK. -/
def responses (stop : Nat) (q : Flit) (code : Nat) (data : List Nat) : List Flit :=
  let base : Flit := { q with rsp := true, dst := q.src, src := stop, code := code, data := 0, idx := 0, last := true }
  if q.op = 3 then [{ base with op := 9 }]
  else if q.op = 1 then [{ base with op := 8, data := if code = 0 then data.getD 0 0 else 0 }]
  else if q.op = 2 then
    if code = 0 then
      (List.range 4).map (fun i => { base with op := 8, data := data.getD i 0, idx := i, last := i == 3, len := 63 })
    else [{ base with op := 8 }]
  else []

/-- Answer a request from a stop. -/
def State.respond (s : State) (stop : Nat) (q : Flit) (code : Nat) (data : List Nat) : State :=
  (responses stop q code data).foldl (fun s f => s.place stop f) s

/-- Response code numbers of R146. -/
def codeNo : Rsp → Nat
  | .ok => 0 | .fault => 1 | .noTarget => 2 | .denied => 3 | .inReset => 4 | .poisoned => 5

/-- A response code from its number; the reserved numbers stand for FAULT. -/
def rspOf (n : Nat) : Rsp :=
  match n with | 0 => .ok | 2 => .noTarget | 3 => .denied | 4 => .inReset | 5 => .poisoned | _ => .fault

/-- Two flits of one packet. -/
def samePacket (p q : Flit) : Bool := p.mid == q.mid && p.tag == q.tag && p.src == q.src && p.op == q.op && p.cls == q.cls

/-- The first request waiting at a stop that meets a test is answered, with every flit of its packet taken. -/
def State.answerBy (s : State) (stop : Nat) (p : Flit → Bool) (code : Nat) (data : List Nat) : State :=
  let x := s.stopSt stop
  match x.inq.find? p with
  | none => s
  | some q => (s.setStop stop { x with inq := x.inq.filter (fun y => !samePacket y q) }).respond stop q code data

/-- An agent that has served a request answers it where one like it waits at its stop: the first of its MID, operation and
address. -/
def State.agentAnswer (s : State) (stop mid op addr code : Nat) (data : List Nat) : State :=
  s.answerBy stop (fun q => q.mid == mid && q.op == op && q.addr == addr) code data

/-- A stop completes an outstanding request at its requester. -/
def State.complete (s : State) (stop : Nat) (p : Pend) (code : Nat) (data : List Nat) : State :=
  let x := s.stopSt stop
  (s.setStop stop { x with out := x.out.erase p }).emit (.ringDone stop p.mid p.tag code data)

/-- Die whose REGBUS block counts a FAULT of a request to an address (R46): the hub's where it lies on no die of the region. -/
def State.faultDie (s : State) (a : Nat) : Nat := let d := s.ringDie a; if d ≤ 8 then d else 0

/-- A request refused by its own source stop: the requester is answered, a FAULT counted in its REGBUS instance of the die addressed (R46), and
no flit is sent (R147, R156, R161). -/
def State.refuse (s : State) (q : RingReq) (code : Rsp) : State :=
  s.answer q.r (s.faultDie q.addr.toNat * 0x1000000) code []

/-! ### Resets (R165, R166) -/

/-- Flits discarded by a stop in reset are counted (R165, R166). -/
def State.rstDrop (s : State) (n k : Nat) : State :=
  if k = 0 then s
  else
    match stopRegs n with
    | some b => (s.cnt (b + R.RING_RST_DROP_CNT) (k - 1)).stopEvt n R.RING_STAT_RST_DROP (some R.RING_RST_DROP_CNT)
    | none => s

/-- Ring requests that wait in a granary, with those of debug, are taken from it (R165). -/
def State.granQueued (s : State) (n : Nat) : List Flit × State :=
  match granOfStop n with
  | none => ([], s)
  | some g =>
    let x := s.grSt g
    ((x.q.getD 0 [] ++ x.q.getD 5 []).map (·.flit), s.setGrSt g { x with q := (x.q.set 0 []).set 5 [] })

/-- A stop enters reset: queued READs and WRITEs are answered INRESET, one answer a packet, queued WRITE_Ps and Bell flits are discarded and
counted; its outstanding requests and credits are cleared, and its requests that still wait for a slot are gone (R165, R166). -/
def State.stopReset (s : State) (n : Nat) : State :=
  let (gran, s) := s.granQueued n
  let x := s.stopSt n
  let kept (q : Flit) : Bool := opAnswered q.op && q.cls != 0
  let answered := (x.inq ++ gran).filter (fun q => kept q && q.last)
  let dropped := ((x.inq ++ gran).filter (fun q => !kept q)).length + x.bellQ.length
  let s := s.setStop n { stale := x.stale ++ x.out }
  let s := { s with ring := { s.ring with wait := s.ring.wait.filter (fun y => !(y.cur == n && y.flit.src == n && !y.flit.rsp)) } }
  let s := answered.foldl (fun s q => s.respond n q 4 []) s
  s.rstDrop n dropped

/-- Whether the stop at a number is in reset: its die, its field, or the site that owns it (R165). -/
def State.stopInReset (s : State) (n : Nat) : Bool :=
  s.dieDown (stopDie n) || s.siteInReset (s.stopSite n) ||
  match fieldOfStop n with | some f => s.fieldInReset f | none => false

/-! ### Toward the guest (R560, R561) -/

/-- STATE of the guest port: 0 FENCED, 1 TRAINING, 2 UP, 3 RESETTING (R562). -/
def State.gstState (s : State) : Nat := s.rf guestBlk R.GST_STAT_STATE
/-- Stop of JG. -/
def jgStop : Nat := 7

/-- Virtual channel of a flit. -/
def Flit.vc (f : Flit) : Nat := 2 * f.cls + b2n f.rsp

/-- Room within the guest's limit of a channel (R211). -/
def GuestSt.room (g : GuestSt) (v : Nat) : Bool :=
  let n := (g.limit.getD v 0 + 256 - g.sent.getD v 0 % 256) % 256
  decide (1 ≤ n ∧ n ≤ 127)

/-- Waiting flits sent as far as the guest's limits allow, in order within a channel (R145, R561). -/
def guestPump (s : State) : State :=
  let (keep, s) := s.guest.toGuest.foldl (fun (p : List Flit × State) f =>
    let (keep, s) := p
    let g := s.guest
    if g.room f.vc && !keep.any (fun k => k.vc == f.vc) then
      let g := { g with sent := g.sent.set f.vc ((g.sent.getD f.vc 0 + 1) % 256),
                        gone := if !f.rsp && opAnswered f.op && f.idx == 0 then g.gone ++ [f] else g.gone }
      (keep, State.emit { s with guest := g } (.guestTx 1 f.encode))
    else (keep ++ [f], s)) ([], s)
  { s with guest := { s.guest with toGuest := keep } }

/-- A flit given to JG for the guest. -/
def State.toGuest (s : State) (f : Flit) : State :=
  guestPump { s with guest := { s.guest with toGuest := s.guest.toGuest ++ [f] } }

/-- A response to a request of the guest (R563): discarded and counted unless the port is UP. -/
def State.guestResponse (s : State) (f : Flit) : State :=
  if s.gstState = 2 then s.toGuest f else s.cnt (guestBlk + R.GST_DROP_CNT) 1

end Sys2Proof.Machine
end

