-- ==== Sys2Proof/Machine/Granary.lean ====
section
/-! DEFINITION. Granaries (R116-R123): field ports, banks, patrol, rewrite, flip mask, remap and debug access (R131-R137). -/
namespace Sys2Proof.Machine

/-! ### Stored quarters -/

/-- A 137-bit stored quarter of data and check (R126). -/
def codeQuarter (d k : Nat) : BitVec 137 := BitVec.ofNat 137 (d % 2 ^ 128 + k % 512 * 2 ^ 128)

/-- A granary remap entry's register. -/
def State.grRemap (s : State) (g e : Nat) : Nat := (s.rd (granBlk g + R.GR_REMAP + 4 * e)).toNat

/-- The active remap entry of a line (R133, R134). -/
def State.grSpareOf (s : State) (g line : Nat) : Option Nat :=
  (List.range 16).find? (fun e =>
    let x := s.grRemap g e
    natBit x 31 && !natBit x 30 && natBits x 14 0 == line)

/-- The stored quarter an access reaches. -/
def State.grQuarter (s : State) (g q : Nat) : BitVec 137 :=
  match s.grSpareOf g (q / 4) with
  | some e => tabGet (fun _ => 0) s.mem.grSpare ((g * 16 + e) * 4 + q % 4)
  | none => tabGet (fun _ => 0) s.mem.gr (g * 131072 + q)

/-- A stored quarter replaced. -/
def State.grPut (s : State) (g q : Nat) (x : BitVec 137) : State :=
  match s.grSpareOf g (q / 4) with
  | some e => { s with mem := { s.mem with grSpare := tabPut (fun _ => 0) s.mem.grSpare ((g * 16 + e) * 4 + q % 4) x } }
  | none => { s with mem := { s.mem with gr := tabPut (fun _ => 0) s.mem.gr (g * 131072 + q) x } }

/-- The flip mask of a granary as a stored quarter. -/
def State.grMask (s : State) (g : Nat) : BitVec 137 :=
  let b := granBlk g + R.GR_FLIP
  codeQuarter ((s.rd b).toNat + (s.rd (b + 4)).toNat * 2 ^ 32 + (s.rd (b + 8)).toNat * 2 ^ 64 + (s.rd (b + 12)).toNat * 2 ^ 96)
    (s.rd (b + 16)).toNat

/-- The first quarter of a write takes an armed flip mask, and ARM clears (R132). -/
def State.grStore (s : State) (g q d k : Nat) (first : Bool) : State :=
  if first && s.flag (granBlk g) R.GR_FLIP_CTRL_ARM then
    (s.clrF (granBlk g) R.GR_FLIP_CTRL_ARM).grPut g q (codeQuarter d k ^^^ s.grMask g)
  else s.grPut g q (codeQuarter d k)

/-- A granary event: the status bit set, class GRANARY of the owner raised when GR_IE enables it. -/
def State.grEvt (s : State) (g : Nat) (fld : Fld) : State := s.evt (s.granOwner g) 1 (granBlk g) fld R.GR_IE fld.lo

/-- A CE or UE counted and captured (R128, R139). -/
def State.grErr (s : State) (g q src : Nat) (x : EccRes) : State :=
  let b := granBlk g
  let cap := BitVec.ofNat 32 (x.syn * 2 ^ 23 + src * 2 ^ 20 + q)
  if x.ce then
    let s := if s.flag b R.GR_STAT_CE then s else s.wr (b + R.GR_CE_ADDR) cap
    (s.cnt (b + R.GR_CE_CNT) 1).grEvt g R.GR_STAT_CE
  else if x.ue then
    let s := if s.flag b R.GR_STAT_UE then s else s.wr (b + R.GR_UE_ADDR) cap
    (s.cnt (b + R.GR_UE_CNT) 1).grEvt g R.GR_STAT_UE
  else s

/-- A quarter read and checked; granaries always have ECC on (R126). -/
def State.grRead (s : State) (g q src : Nat) : EccRes × State :=
  let x := (s.grQuarter g q).toNat
  let r := eccRead cols9 9 (natBits x 127 0) (natBits x 136 128)
  (r, s.grErr g q src r)

/-- Mask of the bytes that byte enables select. -/
def beMask (be n : Nat) : Nat := (List.range n).foldl (fun m i => if natBit be i then m + 255 * 2 ^ (8 * i) else m) 0

/-- A quarter written under byte enables: whole, or merged as a narrow write, keeping an uncorrectable quarter
uncorrectable with its check XOR 0x003 (R118, R129, R130). -/
def State.grWrite (s : State) (g q d be src : Nat) (first : Bool) : State :=
  if be % 2 ^ 16 = 0 then s
  else if be % 2 ^ 16 = 2 ^ 16 - 1 then s.grStore g q d (check9 d) first
  else
    let (r, s) := s.grRead g q src
    let m := beMask be 16
    let v := (r.data &&& ((2 ^ 128 - 1) ^^^ m)) ||| (d &&& m)
    s.grStore g q v (check9 v ^^^ (if r.ue then 3 else 0)) first

/-! ### Ports -/

/-- Granary of a field, and its port there (R116). -/
def granOfField (f : Nat) : Nat := 8 * (f / 32) + f % 32 / 4
/-- Field served by port `i` of a granary. -/
def fieldOfPort (g i : Nat) : Nat := 32 * (g / 8) + 4 * (g % 8) + i

/-- A field port is fenced: its field has another owner than the granary (R120). -/
def State.grFenced (s : State) (f : Nat) : Bool := s.fieldOwner f != s.granOwner (granOfField f)

/-- Requests of port `p` with one more at the end. -/
def GrSt.push (x : GrSt) (p : Nat) (q : GrReq) : GrSt := { x with q := x.q.set p (x.q.getD p [] ++ [q]) }

/-- A field port takes a request (R122) at an edge of its clock. GQ_READY is low while the image does not enable the port, the field is in reset
or fenced, or 8 reads are outstanding. -/
def granRequest (f : Nat) (gq : Word) (beats : List (BitVec 128 × BitVec 16)) (s : State) : State :=
  let g := granOfField f
  let i := f % 4
  let x := s.grSt g
  let v := gq.toNat
  let op := natBits v 31 30
  let len := natBits v 29 28
  let q := natBits v 16 0
  if !(s.designOf f).granPort || !s.ckRuns f (s.designOf f).granCk.val || !(s.frt f).we || s.fieldInReset f || s.grFenced f || decide (8 ≤ x.reads.getD i 0) then s
  else if op ≥ 2 || q % 4 + len > 3 then s.grEvt g R.GR_STAT_GP_ERR
  else
    let x := x.push (i + 1) { wr := op == 1, qaddr := q, n := len + 1, tag := natBits v 27 23,
                              beats := if op = 1 then beats.take (len + 1) else [] }
    s.setGrSt g (if op = 1 then x else { x with reads := x.reads.set i (x.reads.getD i 0 + 1) })

/-- GRANARY_REQUEST (R122). -/
def execGranaryRequest (f : Fin 128) (gq : Word) (beats : List (BitVec 128 × BitVec 16)) (s : State) :
    Host.Outcome State Fault Refusal := .next (granRequest f.val gq beats s)

/-- The head request of a port, where it wants this bank and has all its write beats (R119, R122). -/
def GrSt.head (x : GrSt) (bank p : Nat) : Option GrReq :=
  match x.q.getD p [] with
  | [] => none
  | q :: _ => if q.qaddr / 4 % 4 = bank && (!q.wr || decide (q.n ≤ q.beats.length)) then some q else none

/-- A debug access has waited 64 busy cycles of a bank (R137). -/
def GrSt.steals (x : GrSt) (bank : Nat) : Bool := (x.head bank 5).isSome && decide (64 ≤ x.busy.getD bank 0)

/-- The port that wins a bank's round-robin arbitration: the first with a request after the last winner (R119). A debug access takes an idle
cycle, or the next one once it has waited 64 (R137). -/
def GrSt.winner (x : GrSt) (bank : Nat) : Option Nat :=
  if x.steals bank then some 5
  else match ((List.range 5).map (fun i => (x.rr.getD bank 0 + 1 + i) % 5)).find? (fun p => (x.head bank p).isSome) with
    | some p => some p
    | none => if (x.head bank 5).isSome then some 5 else none

/-- The quarters of a write stored in ascending order. DESIGN CHOICE: an armed flip mask waits for the first quarter of the write that has a byte
enabled, since one without stores nothing (log entry 34). -/
def State.grWriteReq (s : State) (g src : Nat) (q : GrReq) : State :=
  ((List.range q.n).foldl (fun (a : State × Bool) i =>
    let (d, be) := q.beats.getD i (0, 0)
    (a.1.grWrite g (q.qaddr + i) d.toNat be.toNat src a.2, a.2 && be == 0)) (s, true)).1

/-- The quarters of a read in ascending order. -/
def State.grReadReq (s : State) (g src : Nat) (q : GrReq) : List EccRes × State :=
  (List.range q.n).foldl (fun (a : List EccRes × State) i =>
    let (r, s) := a.2.grRead g (q.qaddr + i) src
    (a.1 ++ [r], s)) ([], s)

/-- The access of a port's head request (R117, R119): ring port 0 and debug answer with a flit, POISONED with data 0 if any quarter
is uncorrectable; a field port's read queues its beats (R128). Debug is SOURCE 6 (R139). -/
def State.grAccess (s : State) (g p : Nat) (q : GrReq) : State :=
  let ring := p == 0 || p == 5
  let src := if p = 5 then 6 else p
  if q.wr then
    let s := s.grWriteReq g src q
    if ring then s.respond (granStopNo g) q.flit 0 [] else s
  else
    let (rs, s) := s.grReadReq g src q
    if ring then
      let first := q.qaddr % 4
      let data := (List.range rs.length).foldl (fun a i => a + (rs.getD i ⟨0, 0, false, false⟩).data * 2 ^ (128 * (first + i))) 0
      if rs.any (·.ue) then s.respond (granStopNo g) q.flit 5 [] else s.respond (granStopNo g) q.flit 0 [data]
    else if q.disc then s
    else
      let x := s.grSt g
      let bs := (List.range rs.length).map (fun i =>
        let r := rs.getD i ⟨0, 0, false, false⟩
        (⟨BitVec.ofNat 128 r.data, q.tag, i + 1 == rs.length, r.ue⟩ : GrBeat))
      s.setGrSt g { x with beats := x.beats.set (p - 1) (x.beats.getD (p - 1) [] ++ bs) }

/-- Arbitration state after port `p` has won a bank, its requests left: debug has no turn in the round-robin, and a cycle that another port took
while it waits counts as busy (R119, R137). -/
def GrSt.won (x : GrSt) (bank p : Nat) (t : List GrReq) : GrSt :=
  let y := { x with q := x.q.set p t }
  if p = 5 then { y with busy := x.busy.set bank 0 }
  else { y with rr := x.rr.set bank p, busy := x.busy.set bank (if (x.head bank 5).isSome then min 64 (x.busy.getD bank 0 + 1) else 0) }

/-- One granary cycle of a bank (R119); a debug access that goes ahead of the round-robin order is counted (R137). -/
def granBank (g bank : Nat) (s : State) : State :=
  let x := s.grSt g
  match x.winner bank with
  | none => s
  | some p =>
    match x.q.getD p [] with
    | [] => s
    | q :: t =>
      let s := if x.steals bank then s.cnt (granBlk g + R.GR_STEAL_CNT) 1 else s
      (s.setGrSt g (x.won bank p t)).grAccess g p q

/-- GRANARY_BANK_ACCESS (R119). -/
def execGranaryBankAccess (g : Fin 32) (bank : Fin 4) (s : State) : Host.Outcome State Fault Refusal :=
  .next (granBank g.val bank.val s)

/-- A beat is taken on GR at an edge of the port's clock (R121, R122). -/
def granBeat (f : Nat) (s : State) : State :=
  let g := granOfField f
  let i := f % 4
  let x := s.grSt g
  match if s.ckRuns f (s.designOf f).granCk.val then x.beats.getD i [] else [] with
  | [] => s
  | b :: t =>
    let x := { x with beats := x.beats.set i t, reads := if b.last then x.reads.set i (x.reads.getD i 0 - 1) else x.reads }
    (s.setGrSt g x).emit (.grBeat f b.d b.tag b.last b.ue)

/-- GRANARY_READ_BEAT (R122). -/
def execGranaryReadBeat (f : Fin 128) (s : State) : Host.Outcome State Fault Refusal := .next (granBeat f.val s)

/-- A field enters reset (R123): its outstanding reads complete in the granary with their beats discarded, its complete
writes complete, its incomplete writes are discarded; each discarded read and write is counted once. -/
def State.granFieldReset (s : State) (f : Nat) : State :=
  let g := granOfField f
  let i := f % 4
  let x := s.grSt g
  let l := x.q.getD (i + 1) []
  let incomplete := l.filter (fun q => q.wr && decide (q.beats.length < q.n))
  let kept := (l.filter (fun q => !(q.wr && decide (q.beats.length < q.n)))).map (fun q => if q.wr then q else { q with disc := true })
  let n := x.reads.getD i 0 + incomplete.length
  let s := s.setGrSt g { x with q := x.q.set (i + 1) kept, beats := x.beats.set i [], reads := x.reads.set i 0 }
  if n = 0 then s else (s.cnt (granBlk g + R.GR_DROP_CNT) n).grEvt g R.GR_STAT_DROP

/-- FENCED and port-enable bits of a granary's field ports, as they stand (R120, R139). -/
def State.grFencedBits (s : State) (g : Nat) : Nat :=
  (List.range 4).foldl (fun a i => a + b2n (s.grFenced (fieldOfPort g i)) * 2 ^ i) 0
/-- GR_PORT_EN bits. -/
def State.grPortBits (s : State) (g : Nat) : Nat :=
  (List.range 4).foldl (fun a i => a + b2n (s.designOf (fieldOfPort g i)).granPort * 2 ^ i) 0

/-! ### Patrol, rewrite, flip, remap, debug -/

/-- The granary's patrol engine reads its next quarter, in a cycle in which its bank has no request (R131). -/
def grPatrol (g : Nat) (s : State) : State :=
  let p := (s.grSt g).patrol % 131072
  if s.rf (granBlk g) R.GR_PATROL_PERIOD = 0 || ((s.grSt g).winner (p / 4 % 4)).isSome then s
  else
    let s := (s.grRead g p 5).2
    let n := (p + 1) % 131072
    let s := s.setGrSt g { s.grSt g with patrol := n }
    if n = 0 then s.grEvt g R.GR_STAT_PATROL_DONE else s

/-- GR_PATROL_READ (R131). -/
def execGrPatrolRead (g : Fin 32) (s : State) : Host.Outcome State Fault Refusal := .next (grPatrol g.val s)

/-- PATROL_LATE (R131): a sweep that runs over PERIOD sets PATROL_LATE and carries on. -/
def execPatrolLate (e : PatrolEng) (s : State) : Host.Outcome State Fault Refusal :=
  match e with
  | .field f => .next (s.bmEvt f.val R.BM_STAT_PATROL_LATE)
  | .granary g => .next (s.grEvt g.val R.GR_STAT_PATROL_LATE)

/-- A quarter read, corrected and written back; one that reads UE keeps reading UE (R130, R131). -/
def State.grRefresh (s : State) (g q : Nat) : State :=
  let (r, s) := s.grRead g q 7
  s.grStore g q r.data (check9 r.data ^^^ (if r.ue then 3 else 0)) true

/-- A write to GR_REWRITE (R131). -/
def grRewrite (g : Nat) (v : Word) (s : State) : State :=
  if natBit v.toNat 31 then s.grRefresh g (natBits v.toNat 16 0) else s

/-- GR_REWRITE (R131). -/
def execGrRewrite (r : Req) (g : Fin 32) (v : Word) (s : State) : Host.Outcome State Fault Refusal :=
  .next (s.gated r (granBlk g.val + R.GR_REWRITE) true (grRewrite g.val v))

/-- A write to GR_FLIP_CTRL (R132). -/
def grFlipArm (g : Nat) (v : Word) (s : State) : State := s.wr (granBlk g + R.GR_FLIP_CTRL) (v &&& 0x80000000)

/-- GR_FLIP_ARM (R132). -/
def execGrFlipArm (r : Req) (g : Fin 32) (v : Word) (s : State) : Host.Outcome State Fault Refusal :=
  .next (s.gated r (granBlk g.val + R.GR_FLIP_CTRL) true (grFlipArm g.val v))

/-- A write to a granary remap entry (R134). -/
def grRemapWrite (g i : Nat) (v : Word) (s : State) : State :=
  let line := natBits v.toNat 14 0
  let valid (e : Nat) : Bool := natBit (s.grRemap g e) 31
  let refused := valid i || (List.range 16).any (fun e => e != i && valid e && natBits (s.grRemap g e) 14 0 == line)
  if refused then s.grEvt g R.GR_STAT_REMAP_REFUSED
  else s.wr (granBlk g + R.GR_REMAP + 4 * i) (BitVec.ofNat 32 (line + (if natBit v.toNat 31 then 0xC0000000 else 0)))

/-- GR_REMAP_WRITE (R134). -/
def execGrRemapWrite (r : Req) (g : Fin 32) (i : Fin 16) (v : Word) (s : State) : Host.Outcome State Fault Refusal :=
  .next (s.gated r (granBlk g.val + R.GR_REMAP + 4 * i.val) true (grRemapWrite g.val i.val v))

/-- A remap copy of a line completes (R134). -/
def grRemapDone (g i : Nat) (s : State) : State :=
  let x := s.grRemap g i
  if !natBit x 30 then s
  else
    let line := natBits x 14 0
    let s := (List.range 4).foldl (fun s j =>
      let (r, s) := s.grRead g (line * 4 + j) 7
      { s with mem := { s.mem with
        grSpare := tabPut (fun _ => 0) s.mem.grSpare ((g * 16 + i) * 4 + j)
          (codeQuarter r.data (check9 r.data ^^^ (if r.ue then 3 else 0))) } }) s
    s.wr (granBlk g + R.GR_REMAP + 4 * i) (BitVec.ofNat 32 (x - 2 ^ 30))

/-- GR_REMAP_COPY_DONE (R134). -/
def execGrRemapCopyDone (g : Fin 32) (i : Fin 16) (s : State) : Host.Outcome State Fault Refusal :=
  .next (grRemapDone g.val i.val s)

/-- A granary debug access that has waited 64 busy cycles of its bank takes the next cycle (R137): the cycle of that bank is its. -/
def grDebugSteal (g bank : Nat) (s : State) : State := if (s.grSt g).steals bank then granBank g bank s else s

/-- GR_DEBUG_STEAL (R137). -/
def execGrDebugSteal (g : Fin 32) (bank : Fin 4) (s : State) : Host.Outcome State Fault Refusal := .next (grDebugSteal g.val bank.val s)

/-- A granary zero-filled, spare lines included (R124). -/
def State.grFill (s : State) (g : Nat) : State :=
  { s with mem := { s.mem with
      gr := tabKeep s.mem.gr (fun k => k / 131072 != g), grSpare := tabKeep s.mem.grSpare (fun k => k / 64 != g) } }

end Sys2Proof.Machine
end

