-- ==== Sys2Proof/Machine/Fields.lean ====
section
/-! DEFINITION. Field clock units (R78-R85), the run state of a field, and the commands on stiles (R93-R98). -/
namespace Sys2Proof.Machine

/-! ### Run state -/

/-- A change of a field's run state, with its stile crossings brought in line (R100). -/
def State.fieldChange (s : State) (f : Nat) (g : FieldRt → FieldRt) : State := (s.setFrt f (g (s.frt f))).stileUpdateField f

/-- A field that enters reset takes its granary port, its ring stop and its direct link ports with it (R123, R165, R166, R250). -/
def State.fieldEnterReset (s : State) (f : Nat) : State :=
  if s.fieldInReset f then s else ((s.granFieldReset f).stopReset (fieldStopNo f)).portsCut f

/-- Mode floor of a field (R520): the least STRETCH that brings its fastest clock to the cap of the mode. -/
def State.modeFloor (s : State) (f : Nat) : Nat :=
  let b := fieldPage f
  let m := 100 * s.rf b R.FCK_CTRL_MULT
  [0, 1, 2, 3].foldl (fun x n =>
    let d := s.rf (b + 4 * n) R.FCK_DIV_DIV
    if natBit (s.frt f).ckEn n && decide (modeFabCap s.mode * d < m) then max x (64 - modeFabCap s.mode * d * 64 / m) else x) 0

/-- STRETCH a field takes (R84, R521, R541): the larger of S_CAP and the mode floor, none with TCRIT; and the fallback floor. -/
def State.stretchOf (s : State) (f : Nat) : Nat :=
  let b := fieldPage f
  let x := s.frt f
  let cap := if x.configured && s.rf b R.FCK_STAT_CK_ON != 0 then s.rf startBlk R.PWR_CAP_S_CAP else 0
  let own := if s.flag b R.FCK_TCRIT_TCRIT || !x.configured then 0 else max cap (s.modeFloor f)
  min 32 (max own (if s.clk.fb && x.configured then 6 else 0))

/-- A field's STRETCH brought in line: a change sets STRETCH_CHG and reaches the site (R84, R311). During a halt it waits for the restart
(R473). -/
def State.stretchField (s : State) (f : Nat) : State :=
  let b := fieldPage f
  let n := s.stretchOf f
  if s.rf b R.FCK_STAT_STRETCH = n ∨ (s.frt f).configured && s.fieldHalted f then s
  else ((s.wf b R.FCK_STAT_STRETCH n).setF b R.FCK_STAT_STRETCH_CHG).siteStat (s.fieldOwner f) R.SITE_STAT_STRETCHED

/-- Every field's STRETCH brought in line. -/
def State.stretchAll (s : State) : State := (List.range 128).foldl (fun s f => s.stretchField f) s

/-- CK_ON of a field as its enables, configuration, halt and power state make it (R78, R80, R85), and its STRETCH. -/
def State.ckUpdate (s : State) (f : Nat) : State :=
  let x := s.frt f
  (s.wf (fieldPage f) R.FCK_STAT_CK_ON
    (if x.configured && x.pend.isNone && !s.fieldHalted f && s.flag (fieldPage f) R.FCK_STAT_LOCKED then x.ckEn else 0)).stretchField f

/-- A field's debug halt cleared, and its readback shadow with it, as its global set/reset asserts (R475, R477): its clocks start again, and a
STRETCH that waited for it takes effect (R473). -/
def State.haltClear (s : State) (f : Nat) : State :=
  let h := s.flag (fieldPage f) R.FCK_STAT_HALTED
  let s := ((s.clrF (fieldPage f) R.FCK_STAT_HALTED).wf (fieldPage f) R.DBG_FLD_STAT_STATE 0).clrF (fieldPage f) R.DBG_FLD_STAT_RB_BUSY
  let x := s.dbg
  let s := { s with dbg := { x with halt := x.halt.filter (fun e => e.1 != f), step := tabErase x.step f, q := tabKeep x.q (fun k => k / 262144 != f), p := tabKeep x.p (fun k => k / 64 != f) } }
  if h then s.ckUpdate f else s

/-- Global set/reset asserted: INIT in every flip-flop (R55), queues held (R115), debug halt cleared (R475). -/
def State.gsrAssert (s : State) (f : Nat) : State :=
  (((s.haltClear f).fieldEnterReset f).initCells f).fieldChange f (fun x => { x with gsr := true, we := false, io := false })

/-- Global set/reset released (R55): an asynchronous set/reset that is high takes effect at once. DEDUCED: the signals that enter the field stand
as at its last clock edge (log entry 34). -/
def State.gsrRelease (s : State) (f : Nat) : State :=
  let (loop, s) := s.fresh
  let s := (s.queuesReset f).fieldChange f (fun x => { x with gsr := false })
  s.settle f (s.frt f).ext loop

/-- A site reset's hold of a field placed or lifted (R100, R303). -/
def State.setSiteHold (s : State) (f : Nat) (v : Bool) : State :=
  (if v then s.fieldEnterReset f else s).fieldChange f (fun x => { x with siteHold := v })

/-! ### Field clock unit -/

/-- The staged settings of a field clock unit. -/
def State.staged_ (s : State) (f : Nat) : ClkSet :=
  let b := fieldPage f
  { mult := s.rf b R.FCK_CTRL_MULT_NEXT, div := [0, 1, 2, 3].map (fun n => s.rf (b + 4 * n) R.FCK_DIV_DIV_NEXT),
    en := s.rf b R.FCK_CTRL_CK_EN_NEXT }

/-- Whether settings keep the limits of R79: VCO multiplier 20-40, and for each enabled clock a divider 2-400, at least
10 MHz and at most `lim` MHz. -/
def ClkSet.legal (x : ClkSet) (lim : Nat) : Bool :=
  decide (20 ≤ x.mult) && decide (x.mult ≤ 40) &&
  [0, 1, 2, 3].all (fun n =>
    let d := x.div.getD n 0
    !natBit x.en n ||
      (decide (2 ≤ d) && decide (d ≤ 400) && decide (10 * d ≤ 100 * x.mult) && decide (100 * x.mult ≤ lim * d)))

/-- Settings loaded into a field clock unit. -/
def State.loadClk (s : State) (f : Nat) (x : ClkSet) : State :=
  let b := fieldPage f
  let s := s.wf b R.FCK_CTRL_MULT x.mult
  [0, 1, 2, 3].foldl (fun s n => s.wf (b + 4 * n) R.FCK_DIV_DIV (x.div.getD n 4)) s

/-- An image's settings loaded, the staged ones with those in force (R85, R488). -/
def State.loadImgClk (s : State) (f : Nat) (x : ClkSet) : State :=
  let b := fieldPage f
  let s := ((s.loadClk f x).wf b R.FCK_CTRL_MULT_NEXT x.mult).wf b R.FCK_CTRL_CK_EN_NEXT x.en
  [0, 1, 2, 3].foldl (fun s n => s.wf (b + 4 * n) R.FCK_DIV_DIV_NEXT (x.div.getD n 4)) s

/-- A write to FCK_APPLY (R79, R80): with GO, settings that break a limit or meet SWITCHING are refused; others stop the
field's clocks and wait for the restart. -/
def fckApply (f : Nat) (v : Word) (s : State) : State :=
  let b := fieldPage f
  if !natBit v.toNat 0 then s
  else
    let x := s.staged_ f
    if s.flag b R.FCK_STAT_SWITCHING || !x.legal s.fabLimit then s.setF b R.FCK_STAT_REFUSED
    else
      let s := s.setFrt f { s.frt f with pend := some x }
      let s := s.setF b R.FCK_STAT_SWITCHING
      let s := if x.mult = s.rf b R.FCK_CTRL_MULT then s else s.clrF b R.FCK_STAT_LOCKED
      s.ckUpdate f

/-- FCK_APPLY (R79). -/
def execFckApply (r : Req) (f : Fin 128) (v : Word) (s : State) : Host.Outcome State Fault Refusal :=
  .next (s.gated r (fieldPage f.val + R.FCK_APPLY) true (fckApply f.val v))

/-- The restart after an accepted apply (R80): dividers and multiplier in force, the PLL locked, the enabled clocks
running unless a halt holds them. -/
def fieldClockRestart (f : Nat) (s : State) : State :=
  match (s.frt f).pend with
  | none => s
  | some x =>
    let b := fieldPage f
    let s := (s.loadClk f x).setFrt f { s.frt f with pend := none, ckEn := x.en }
    ((s.setF b R.FCK_STAT_LOCKED).clrF b R.FCK_STAT_SWITCHING).ckUpdate f

/-- FIELD_CLOCK_RESTART (R80). -/
def execFieldClockRestart (f : Fin 128) (s : State) : Host.Outcome State Fault Refusal := .next (fieldClockRestart f.val s)

/-! ### Stile channels -/

/-- Word width of a channel at its sending side (R93): 0 where the image does not configure it. -/
def State.stileWidth (s : State) (f e c : Nat) : Nat := assocGet 0 (s.designOf f).stileW (e * 256 + c)

/-- The clock of a channel's sending side runs (R93, R94). -/
def State.stileTxRuns (s : State) (f e c : Nat) : Bool := s.ckRuns f (assocGet 0 (s.designOf f).stileTxCk (e * 256 + c)).val
/-- The clock of the receiving side, at an edge of the field that receives. -/
def State.stileRxRuns (s : State) (g h c : Nat) : Bool := s.ckRuns g (assocGet 0 (s.designOf g).stileRxCk (h * 256 + c)).val

/-- Acceptance at an edge of the sending side (R94, R96): while TX_READY is high. -/
def stileSend (f e c : Nat) (w : DWord) (s : State) : State :=
  let x := s.chan f e c
  if s.txReady f e c && s.stileTxRuns f e c && !s.fieldHalted f && (s.frt f).we && decide (0 < s.stileWidth f e c) then
    s.setChan f e c { x with credits := x.credits - 1,
                             transit := x.transit ++ [BitVec.ofNat 64 (w.toNat % 2 ^ s.stileWidth f e c)] }
  else s

/-- STILE_SEND (R94). -/
def execStileSend (f : Fin 128) (e : Fin 4) (c : Fin 256) (w : DWord) (s : State) : Host.Outcome State Fault Refusal :=
  .next (stileSend f.val e.val c.val w s)

/-- Arrival of the oldest word in transit at the receiving buffer (R95). -/
def stileArrive (f e c : Nat) (s : State) : State :=
  let x := s.chan f e c
  match x.transit with
  | [] => s
  | w :: t => s.setChan f e c { x with transit := t, buf := x.buf ++ [w] }

/-- STILE_WORD_ARRIVE (R95): over a Kelk-W group a word that decodes CE is delivered corrected and counted; one that
decodes UE takes the crossing down with every word in flight (R552, R557). A group that does not serve the channel's
direction did not carry it. -/
def execStileWordArrive (f : Fin 128) (e : Fin 4) (c : Fin 256) (k : KelkRes) (s : State) :
    Host.Outcome State Fault Refusal :=
  match k with
  | .clean => .next (stileArrive f.val e.val c.val s)
  | .ce w =>
    if (groupServes w.val).2.2 = (f.val, e.val) then .next ((stileArrive f.val e.val c.val s).kelkWErr w.val)
    else .next (stileArrive f.val e.val c.val s)
  | .ue w =>
    if (groupServes w.val).2.2 = (f.val, e.val) then .next (s.kelkWUe w.val)
    else .next (stileArrive f.val e.val c.val s)

/-- Consumption at an edge of the receiving side (R94): the word leaves the buffer and its credit sets out. -/
def stileConsume (f e c : Nat) (s : State) : State :=
  match stilePeer f e with
  | none => s
  | some (g, h, _, _) =>
    let x := s.chan f e c
    if s.fieldInReset g || s.fieldHalted g || !s.stileRxRuns g h c then s
    else
      match x.buf with
      | [] => s
      | w :: t =>
        (s.setChan f e c { x with buf := t, ret := x.ret + 1 }).emit (.stileWord f e c w)

/-- STILE_CONSUME (R94); the channel is named by its sending side. -/
def execStileConsume (f : Fin 128) (e : Fin 4) (c : Fin 256) (s : State) : Host.Outcome State Fault Refusal :=
  .next (stileConsume f.val e.val c.val s)

/-- A credit on its way back reaches the sender (R96). -/
def stileCreditReturn (f e c : Nat) (s : State) : State :=
  let x := s.chan f e c
  if s.crossOpen f e && decide (0 < x.ret) then s.setChan f e c { x with ret := x.ret - 1, credits := x.credits + 1 } else s

/-- STILE_CREDIT_RETURN (R96). -/
def execStileCreditReturn (f : Fin 128) (e : Fin 4) (c : Fin 256) (s : State) : Host.Outcome State Fault Refusal :=
  .next (stileCreditReturn f.val e.val c.val s)

/-- A level stile's change reaches the receiver (R98); one from a halted or reset field does not come (R100, R101). -/
def levelChange (f e l : Nat) (v : Bool) (s : State) : State :=
  if s.crossOpen f e && !s.fieldHalted f && decide (l < stileLevels f e) then
    ({ s with fab := { s.fab with level := tabPut (fun _ => false) s.fab.level ((f * 4 + e) * 256 + l) v } }).emit
      (.stileLevel f e l v)
  else s

/-- LEVEL_STILE_CHANGE (R98). -/
def execLevelStileChange (f : Fin 128) (e : Fin 4) (l : Fin 64) (v : Bool) (s : State) :
    Host.Outcome State Fault Refusal := .next (levelChange f.val e.val l.val v s)

end Sys2Proof.Machine
end

