-- ==== Sys2Proof/Machine/Config.lean ====
section
/-! DEFINITION. The configuration engine: verification, field writers, records and reloads, the startup order, the scrubber and the xSPI
port (R483-R506). -/
namespace Sys2Proof.Machine

/-! ### Groups and records -/

/-- The group of a number. -/
def State.cfgGrp (s : State) (g : Nat) : Option CfgGroup := s.cfg.groups.find? (fun x => x.id == g)

/-- WRITERS and QUEUED of CFG_ENG_STAT follow the groups (R505). -/
def State.cfgCounts (s : State) : State :=
  let busy := (s.cfg.groups.map (·.busy.length)).sum
  let wait := (s.cfg.groups.map (·.wait.length)).sum
  (s.wf cfgBlk R.CFG_ENG_STAT_WRITERS busy).wf cfgBlk R.CFG_ENG_STAT_QUEUED (min wait 255)

/-- A group replaced. -/
def State.cfgSet (s : State) (x : CfgGroup) : State :=
  State.cfgCounts { s with cfg := { s.cfg with groups := s.cfg.groups.map (fun y => if y.id = x.id then x else y) } }

/-- A group ended. -/
def State.cfgDrop (s : State) (g : Nat) : State :=
  State.cfgCounts { s with cfg := { s.cfg with groups := s.cfg.groups.filter (fun y => y.id != g) } }

/-- A new group. -/
def State.cfgAdd (s : State) (x : CfgGroup) : State :=
  State.cfgCounts { s with cfg := { s.cfg with groups := s.cfg.groups ++ [{ x with id := s.cfg.next }], next := s.cfg.next + 1 } }

/-- A command's load or reload ends: the result its answer takes (R405). -/
def State.cfgEnd (s : State) (x : CfgGroup) (status detail n : Nat) : State :=
  if x.kind = 2 || x.kind = 3 then { s with cfg := { s.cfg with ends := s.cfg.ends ++ [(x.chan, status, detail, n)] } } else s

/-- The record of a field (R494). -/
def State.cfgRec (s : State) (f : Nat) : Option FieldImg := tabGet (fun _ => none) s.cfg.recs f

/-- A record set, with SRC and IMAGE_ID (R494, R504). -/
def State.setCfgRec (s : State) (f : Nat) (x : Option FieldImg) (src : Nat) : State :=
  let s := { s with cfg := { s.cfg with recs := tabPut (fun _ => none) s.cfg.recs f x } }
  (s.wf (fieldPage f) R.CFG_FSTAT_SRC src).wr (fieldPage f + R.CFG_FIMG) (match x with | some i => i.id | none => 0)

/-- STATE of CFG_FSTAT: 0 UNCONFIGURED, 1 LOADING, 2 HELD, 3 STARTUP, 4 CONFIGURED, 5 FAILED. -/
def State.cfgState (s : State) (f : Nat) : Nat := s.rf (fieldPage f) R.CFG_FSTAT_STATE
/-- STATE replaced. -/
def State.setCfgState (s : State) (f v : Nat) : State := s.wf (fieldPage f) R.CFG_FSTAT_STATE v

/-- A field left unusable in global set/reset. -/
def State.cfgFailField (s : State) (f : Nat) : State := (s.gsrAssert f).setCfgState f 5

/-- A reload of a field fails (R495): its record is cleared; a site reset reports RELOAD_MISS. -/
def State.reloadFail (s : State) (f kind site : Nat) : State :=
  let s := ((s.cfgFailField f).setF (fieldPage f) R.CFG_FSTAT_RELOAD_ERR).setCfgRec f none 0
  if kind = 4 then s.siteStat site R.SITE_STAT_RELOAD_MISS else s

/-- Field clock settings of an image. -/
def imgClk (i : FieldImg) : ClkSet := ⟨i.mult, i.div, i.ckEn⟩

/-- The key an image selects is at hand (R490): FKEY provisioned, an owner key usable in OWNED and SEALED only (R432), or the
battery-backed key loaded. -/
def State.cfgKey (s : State) (k : Nat) : Bool :=
  k = 0 || (k = 1 && natBit (s.rf secBlk R.SEC_KEY_STAT_PRESENT) 4 &&
    (s.rf secBlk R.SEC_LC_STAT_STATE == 2 || s.rf secBlk R.SEC_LC_STAT_STATE == 3)) || (k = 2 && s.flag secBlk R.SEC_KEY_STAT_BBKEY_VALID)

/-- Life-cycle state in force. -/
def State.lcState (s : State) : Nat := s.rf secBlk R.SEC_LC_STAT_STATE
/-- Sealed fault (R432). -/
def State.sealedFault (s : State) : Bool := s.flag secBlk R.SEC_LC_STAT_SEALED_FAULT

/-! ### Failures -/

/-- A load fails (R491, R492, R498): CFG_ERR and LOAD_ERR; the boot image's failure sets BOOT_ERR and holds CONF_ERR_N low. -/
def State.cfgFail (s : State) (x : CfgGroup) (cause sect status detail : Nat) : State :=
  let s := ((s.wf cfgBlk R.CFG_ERR_CAUSE cause).wf cfgBlk R.CFG_ERR_SECTION sect).setF cfgBlk R.CFG_ENG_STAT_LOAD_ERR
  let s :=
    if x.kind ≤ 1 then
      let s := (s.setF cfgBlk R.CFG_ENG_STAT_BOOT_ERR).setF cfgBlk R.CFG_ENG_STAT_BOOT_DONE
      let s := { s with cfg := { s.cfg with confDone := true, confErrN := false } }
      s.recordO 0x0011 (locator 0 0) ((s.rd (cfgBlk + R.CFG_ERR)).toNat + 2 ^ 32)
    else s
  (s.cfgEnd x status detail 0).cfgDrop x.id

/-! ### Pass 1 (R491) -/

/-- SIG_KIND is accepted in the life-cycle state (R489). -/
def State.sigAccepted (s : State) (k : Nat) : Bool :=
  if s.sealedFault then false
  else match s.lcState with
    | 2 => k = 0 || (natBit (s.rf secBlk R.SEC_KEY_STAT_PRESENT) 2 && (k = 2 || (k = 3 && natBit s.sec.flags.toNat 0)))
    | 3 => k = 2 && natBit (s.rf secBlk R.SEC_KEY_STAT_PRESENT) 2
    | 5 => false
    | _ => k = 0 || k = 1

/-- A section this part takes (R487). -/
def State.taken (s : State) (x : ImgSect) : Bool := natBit x.gang.toNat (if s.cfg.gang then s.cfg.gangId else 0)

/-- The taken FIELD sections, with their indexes. -/
def State.takenFields (s : State) (img : CfgImage) : List (Nat × Nat × FieldImg) :=
  (img.sects.zip (List.range img.sects.length)).filterMap (fun (x, i) =>
    match x.typ.toNat, x.img with
    | 1, some f => if s.taken x then some (i, x.target.toNat % 128, { f with startup := img.startup, id := img.id,
                                                                             keySel := Fin.ofNat 3 img.keySel.toNat }) else none
    | _, _ => none)

/-- First index at which a test fails. -/
def firstBad {α : Type} (l : List α) (p : α → Bool) : Option Nat := l.findIdx? (fun x => !p x)

/-- Check 8 on a section (R491): distinct fields; each BMINIT names a taken field's BM in mode INIT, once; each INIT BM has its data; no BM
of an enabled port in use; no INIT BM in queue mode. -/
def State.sectOk (s : State) (img : CfgImage) (i : Nat) : Bool :=
  match img.sects[i]? with
  | none => true
  | some x =>
    if !s.taken x then true
    else
      let flds := s.takenFields img
      if x.typ.toNat = 1 then
        (flds.filter (fun e => e.2.1 == x.target.toNat % 128)).length == 1 &&
        match x.img with
        | none => false
        | some f =>
          (List.range 96).all (fun b =>
            let m := (f.bmMode.getD b 0).val
            (m != 2 || ((f.bmInit.filter (fun e => e.1 == b)).length == 1 &&
              (match f.design.bms.find? (fun e => e.1 == b) with | some (_, g) => !g.queue | none => true))) &&
            (m == 0 || !(portBms f.design).contains b)) &&
          f.bmInit.all (fun e => (f.bmMode.getD e.1 0).val == 2)
      else
        let f := x.target.toNat % 128
        let b := x.target.toNat / 256 % 128
        flds.any (fun e => e.2.1 == f && (e.2.2.bmMode.getD b 0).val == 2) &&
          (img.sects.filter (fun y => y.typ == x.typ && y.target == x.target && s.taken y)).length == 1

/-- The checks of pass 1 in order: CAUSE, section, STATUS and DETAIL of the first that fails (R491). -/
def State.pass1 (s : State) (x : CfgGroup) (img : CfgImage) : Option (Nat × Nat × Nat × Nat) :=
  let steps := img.startup.map (·.1.val)
  let flds := s.takenFields img
  if !img.hdrOk || steps.length != 4 || !([0, 1, 2, 3].all (fun i => steps.contains i)) then some (1, 0xFFFF, 0x13, 0xFFFF)
  else if !natBit img.steppings.toNat (b2n s.part.stepB) || decide (s.part.grade < img.grade.toNat) then some (2, 0xFFFF, 0x13, 0xFFFF)
  else if !s.sigAccepted img.sigKind.toNat then some (3, 0xFFFF, 0x12, 0)
  else if img.sigKind.toNat != 0 && !img.sigOk then some (4, 0xFFFF, 0x12, 0)
  else match firstBad img.sects (fun y => (y.typ == 1 || y.typ == 2) && y.lenOk && y.digestOk) with
  | some i => some (5, i, 0x12, 0)
  | none =>
  if !s.cfgKey img.keySel.toNat then some (6, 0xFFFF, 0x12, 0)
  else match firstBad img.sects (fun y => !s.taken y || img.keySel.toNat == 0 || y.tagOk) with
  | some i => some (7, i, 0x12, 0)
  | none => match firstBad (List.range img.sects.length) (s.sectOk img) with
  | some i => some (8, i, 0x13, i)
  | none => match firstBad img.sects (fun y => !s.taken y || match y.img with | some i => frameRules i.design | none => true) with
  | some i => some (9, i, 0x13, i)
  | none => match flds.find? (fun e => !(imgClk e.2.2).legal s.fabLimit) with
  | some e => some (10, e.1, 0x13, e.1)
  | none => match (if x.kind = 2 then flds.find? (fun e => s.fieldOwner e.2.1 != x.site) else none) with
  | some e => some (11, e.1, 0x0B, e.1)
  | none => none

/-- The end of pass 1 of a load: it fails, or its fields go to the writers (R491, R493). `rd` is the worst code of its reads. -/
def cfgPass1 (g : Nat) (img : CfgImage) (rd : Rsp) (s : State) : State :=
  match s.cfgGrp g with
  | none => s
  | some x =>
    if x.pass ≠ 1 then s
    else if rd ≠ .ok then s.cfgFail x 12 0xFFFF 0x0F (match rd with | .fault => 1 | .noTarget => 2 | .denied => 3 | .inReset => 4 | _ => 5)
    else
      match s.pass1 x img with
      | some (c, i, st, d) => s.cfgFail x c i st d
      | none =>
        let fs := (s.takenFields img).map (fun e => (e.2.1, e.2.2))
        if fs.isEmpty && decide (2 ≤ x.kind) then (s.cfgEnd x 0 0 0).cfgDrop g
        else s.cfgSet { x with pass := 2, imgs := fs, wait := fs.map (·.1) }

/-- CFG_PASS1_DONE (R491). -/
def execCfgPass1Done (g : Nat) (img : CfgImage) (rd : Rsp) (s : State) : Host.Outcome State Fault Refusal :=
  .next (cfgPass1 g img rd s)

/-! ### Writers (R493-R495) -/

/-- A field's image in its group. -/
def CfgGroup.img (x : CfgGroup) (f : Nat) : Option FieldImg := (x.imgs.find? (fun e => e.1 == f)).map (·.2)

/-- A field's zero-filled BM (R124). -/
def State.bmZero (s : State) (f b : Nat) : State :=
  { s with mem := { s.mem with
      bm := tabKeep s.mem.bm (fun k => k / 1024 != bmIdx f b), bmSpare := tabKeep s.mem.bmSpare (fun k => k / 4 != bmIdx f b) } }

/-- A field unconfigured: no design, no running clock (R100). -/
def State.unconfigure (s : State) (f : Nat) : State :=
  let s := (s.putDesign f {}).clrF (fieldPage f) R.FCK_STAT_SWITCHING
  (s.fieldChange f (fun x => { x with configured := false, ckEn := 0, pend := none })).ckUpdate f

/-- A writer takes a field (R493): global set/reset, the image's clock settings with every clock stopped, BMs of mode ZERO filled. -/
def State.writerTake (s : State) (f : Nat) (i : FieldImg) : State :=
  let s := ((s.gsrAssert f).unconfigure f).loadImgClk f (imgClk i)
  let s := (s.clrF (fieldPage f) R.FCK_STAT_LOCKED).clrF (fieldPage f) R.FCK_STAT_SWITCHING
  let s := (List.range 96).foldl (fun s b => if (i.bmMode.getD b 0).val = 1 then s.bmZero f b else s) s
  (s.setCfgState f 1).wf (fieldPage f) R.CFG_FSTAT_STEP 0

/-- CFG_WRITER_START (R493): the field longest waiting, while fewer than four writers are busy. -/
def cfgWriterStart (s : State) : State :=
  if 4 ≤ (s.cfg.groups.map (·.busy.length)).sum then s
  else
    match s.cfg.groups.find? (fun x => !x.wait.isEmpty) with
    | none => s
    | some x =>
      match x.wait with
      | [] => s
      | f :: t =>
        match x.img f with
        | none => s
        | some i => (s.cfgSet { x with wait := t, busy := x.busy ++ [f] }).writerTake f i

/-- CFG_WRITER_START (R493). -/
def execCfgWriterStart (s : State) : Host.Outcome State Fault Refusal := .next (cfgWriterStart s)

/-- A field's INIT data written, with check bits in a BM with ECC on (R488). -/
def State.bmInitData (s : State) (f : Nat) (i : FieldImg) : State :=
  i.bmInit.foldl (fun s (b, ws) =>
    let ecc := match i.design.bms.find? (fun e => e.1 == b) with | some (_, g) => g.ecc | none => false
    (ws.zip (List.range ws.length)).foldl (fun s (w, n) =>
      s.bmPut f b n (codeWord w.toNat (if ecc then check8 w.toNat else 0))) s) s

/-- SRC a group's fields record (R494): FLASH from the boot image, GANG, or STORE; a reload keeps its source. -/
def State.srcOf (s : State) (x : CfgGroup) (f : Nat) : Nat :=
  match x.kind with
  | 0 => 2
  | 1 => 3
  | 2 => 1
  | _ => s.rf (fieldPage f) R.CFG_FSTAT_SRC

/-- All of a group's fields written: the boot image waits for its start step, others start (R496, R497). -/
def State.cfgAllWritten (s : State) (x : CfgGroup) : State :=
  if !x.wait.isEmpty || !x.busy.isEmpty then s
  else if x.kind ≤ 1 || x.kind = 6 then
    let s := s.cfgSet { x with pass := 4 }
    if x.kind = 6 then s
    else
      let s := s.setF cfgBlk R.CFG_ENG_STAT_BOOT_DONE
      let s := s.recordO 0x0011 (locator 0 0) (s.rd (cfgBlk + R.CFG_ERR)).toNat
      { s with cfg := { s.cfg with confDone := true, confErrN := true } }
  else if x.done.isEmpty then
    (if x.kind = 3 then s.cfgEnd x 0x11 0 0 else s).cfgDrop x.id
  else if x.kind = 4 then s.cfgSet { x with pass := 4 }
  else s.cfgSet { x with pass := 3, step := 0, since := s.ttc }

/-- A writer completes a field (R492-R495): recorded and held, or failed when its digest or tag does not match. DESIGN CHOICE: the registers of
the MAC blocks keep what they held, since the manual gives them no value after configuration (R68, log entry 34). -/
def cfgWritten (f : Nat) (ok : Bool) (s : State) : State :=
  match s.cfg.groups.find? (fun x => x.busy.contains f) with
  | none => s
  | some x =>
    match x.img f with
    | none => s
    | some i =>
      if ok then
        let s := s.putDesign f i.design
        let s := ((s.bmInitData f i).initCells f).setCfgRec f (some i) (s.srcOf x f)
        let x := { x with busy := x.busy.erase f, done := x.done ++ [f] }
        ((s.setCfgState f 2).cfgSet x).cfgAllWritten x
      else if 3 ≤ x.kind then
        let s := s.reloadFail f x.kind x.site
        let x := { x with busy := x.busy.erase f }
        (s.cfgSet x).cfgAllWritten x
      else
        let s := (s.cfgFailField f).setCfgRec f none 0
        s.cfgFail x 5 0xFFFF 0x12 0

/-- CFG_FIELD_WRITTEN (R493). -/
def execCfgFieldWritten (f : Fin 128) (ok : Bool) (s : State) : Host.Outcome State Fault Refusal := .next (cfgWritten f.val ok s)

/-- Whether a field can be reloaded (R495): a record with a readable source, its key, its clocks within the mode. -/
def State.canReload (s : State) (f : Nat) : Option FieldImg :=
  match s.cfgRec f with
  | none => none
  | some i =>
    let src := s.rf (fieldPage f) R.CFG_FSTAT_SRC
    if (src == 1 || src == 2) && s.cfgKey i.keySel.val && (imgClk i).legal s.fabLimit then some i else none

/-- Fields given to the engine for reload (R495): those that cannot be reloaded fail at once. -/
def State.cfgReload (s : State) (kind site chan : Nat) (fs : List Nat) : State :=
  let good := fs.filterMap (fun f => (s.canReload f).map (fun i => (f, i)))
  let bad := fs.filter (fun f => (s.canReload f).isNone)
  let s := bad.foldl (fun s f => s.reloadFail f kind site) s
  let x : CfgGroup := { id := s.cfg.next, kind := kind, site := site, chan := chan, pass := 2, imgs := good, wait := good.map (·.1) }
  let s := s.cfgAdd x
  if good.isEmpty then s.cfgAllWritten x else s

/-! ### The startup order (R496) -/

/-- A startup step in one field. -/
def State.startField (s : State) (x : CfgGroup) (st f : Nat) : State :=
  match st with
  | 0 =>
    let s := match x.img f with | some i => s.loadClk f (imgClk i) | none => s
    let s := (s.setF (fieldPage f) R.FCK_STAT_LOCKED).clrF (fieldPage f) R.FCK_STAT_SWITCHING
    (s.fieldChange f (fun r => { r with configured := true, ckEn := ((x.img f).map (·.ckEn)).getD 0, pend := none })).ckUpdate f
  | 1 => s.fieldChange f (fun r => { r with io := true })
  | 2 => s.gsrRelease f
  | _ => s.fieldChange f (fun r => { r with we := true })

/-- The next startup step in every field of a group once its DELAY has passed; after the fourth the fields are CONFIGURED (R496). The group
follows the startup order of its first field. -/
def cfgStep (g : Nat) (s : State) : State :=
  match s.cfgGrp g with
  | none => s
  | some x =>
    let sts := ((x.done.head?.bind x.img).map (·.startup)).getD []
    match sts[x.step]? with
    | none => s
    | some (st, d) =>
      if x.pass ≠ 3 || s.ttc < x.since + 10 * d.toNat then s
      else
        let n := x.step + 1
        let s := x.done.foldl (fun s f =>
          ((s.startField x st.val f).setCfgState f (if n = 4 then 4 else 3)).wf (fieldPage f) R.CFG_FSTAT_STEP n) s
        if n = 4 then (s.cfgEnd x 0 0 x.done.length).cfgDrop g else s.cfgSet { x with step := n, since := s.ttc }

/-- CFG_STARTUP_STEP (R496): at LOCK_WAIT, the PLL of every field has locked. -/
def execCfgStartupStep (g : Nat) (s : State) : Host.Outcome State Fault Refusal := .next (cfgStep g s)

/-- A PLL not locked 100 µs into LOCK_WAIT: every field of the group fails (R496). -/
def cfgLockTimeout (g : Nat) (s : State) : State :=
  match s.cfgGrp g with
  | none => s
  | some x =>
    let sts := ((x.done.head?.bind x.img).map (·.startup)).getD []
    match sts[x.step]? with
    | none => s
    | some (st, d) =>
      if x.pass ≠ 3 || st.val ≠ 0 || s.ttc < x.since + 10 * d.toNat + 100000 then s
      else
        let s := x.done.foldl (fun s f => (s.cfgFailField f).setF (fieldPage f) R.CFG_FSTAT_LOCK_TMO) s
        s.cfgFail x 13 0xFFFF 0x10 0

/-- CFG_LOCK_TIMEOUT (R496). -/
def execCfgLockTimeout (g : Nat) (s : State) : Host.Outcome State Fault Refusal := .next (cfgLockTimeout g s)

/-! ### Events that meet a load (R501) -/

/-- A site reset ends the loads and reloads of its fields: answered IN_RESET; fields not completed keep their previous record. -/
def State.cfgSiteAbort (s : State) (n : Nat) : State :=
  (s.cfg.groups.filter (fun x => (x.kind == 2 || x.kind == 3) && x.site == n)).foldl (fun s x =>
    let s := x.done.foldl (fun s f => s.gsrAssert f) s
    (s.cfgEnd x 0x08 0 0).cfgDrop x.id) s

/-! ### Reload store and scrubber (R494, R503) -/

/-- CFG_STORE as an address; 0 means no store. -/
def State.cfgStore (s : State) : Nat := s.rd64 (cfgBlk + R.CFG_STORE_LO)

/-- CFG_STORE_COPY (R494). -/
def execCfgStoreCopy (f : Fin 128) (s : State) : Host.Outcome State Fault Refusal :=
  if s.rf (fieldPage f.val) R.CFG_FSTAT_SRC = 2 ∧ s.cfgStore ≠ 0 ∧ s.dramList ≠ [] then
    let s := s.wf (fieldPage f.val) R.CFG_FSTAT_SRC 1
    .next (if (List.range 128).any (fun g => s.rf (fieldPage g) R.CFG_FSTAT_SRC == 2) then s else s.setF cfgBlk R.CFG_ENG_STAT_COPY_DONE)
  else .next s

/-- What the code of R125 makes of a configuration word whose bits differ by `x` from what was written: the code is linear, so the word decodes as
the differing bits do. -/
def upsetRes (x : BitVec 72) : EccRes := eccRead cols8 8 (natBits x.toNat 63 0) (natBits x.toNat 71 64)

/-- The differing bits of a word of a field's configuration (R502). -/
def State.cfgUpset (s : State) (f w : Nat) : BitVec 72 := tabGet (fun _ => 0) s.fab.upset (f * cfgWords + w)

/-- A word that decodes CE is rewritten with the bit that the code corrects; its other bits stay (R503). -/
def State.cfgCorrect (s : State) (f w : Nat) : State :=
  let r := upsetRes (s.cfgUpset f w)
  if !r.ce then s
  else s.flipCfg f [(w, if cols8.contains r.syn then cols8.idxOf r.syn else 64 + Nat.log2 r.syn)]

/-- The words of a frame. -/
def frameWords (frame : Nat) : List Nat := (List.range 8).map (fun i => 8 * frame + i)

/-- The scrubber decodes one word of a frame (R503): a CE is corrected, counted and reported, a UE counted, captured and reported. -/
def cfgScrubWord (f frame w : Nat) (s : State) : State :=
  let b := fieldPage f
  let r := upsetRes (s.cfgUpset f w)
  if r.ce then
    (((s.cfgCorrect f w).setF b R.CFG_FSTAT_CE).cnt (b + R.CFG_CE_CNT) 1).reportO (locator 8 f) 0x0080 (s.rd (cfgBlk + R.CFG_SCRUB_LAST)).toNat
  else if r.ue then
    let v : Nat := f * 2 ^ 16 + frame
    (((s.setF b R.CFG_FSTAT_UE).cnt (b + R.CFG_UE_CNT) 1).wr (cfgBlk + R.CFG_SCRUB_LAST) (BitVec.ofNat 32 v)).reportO (locator 8 f) 0x0081 v
  else s

/-- The scrubber reads a frame (R503): word by word, and a UE among them brings the action on. Fields neither CONFIGURED nor HELD, and those of a
group in work, are skipped. -/
def cfgScrub (f frame : Nat) (s : State) : State :=
  let st := s.cfgState f
  let res := (frameWords frame).map (fun w => upsetRes (s.cfgUpset f w))
  if !s.flag cfgBlk R.CFG_SCRUB_EN || !(st == 4 || st == 2) || s.cfg.groups.any (fun x => (x.wait ++ x.busy).contains f) then s
  else
    let s := (frameWords frame).foldl (fun s w => cfgScrubWord f frame w s) s
    if !res.any (·.ue) then s
    else
      match s.rf cfgBlk R.CFG_SCRUB_ACTION with
      | 1 => s.cfgReload 5 (s.fieldOwner f) 0 [f]
      | 2 => (s.gsrAssert f).setCfgState f 2
      | _ => s

/-- CFG_SCRUB_READ (R503): `upsets` are bits of the frame's words that have flipped before it is read (R502). -/
def execCfgScrubRead (f : Fin 128) (frame : Fin 17408) (upsets : List (Fin 8 × Fin 72)) (s : State) : Host.Outcome State Fault Refusal :=
  .next (cfgScrub f.val frame.val (s.flipCfg f.val (upsets.map (fun e => (8 * frame.val + e.1.val, e.2.val)))))

/-! ### The xSPI port (R501, R506) -/

/-- The engine reads flash: a boot load's passes, or a reload from a FLASH record. -/
def State.flashBusy (s : State) : Bool :=
  s.cfg.groups.any (fun x => (decide (x.kind ≤ 1) && decide (x.pass ≤ 2)) ||
    (x.wait ++ x.busy).any (fun f => decide (2 ≤ x.kind) && s.rf (fieldPage f) R.CFG_FSTAT_SRC == 2))

/-- A write to CFG_XSPI_CMD (R501, R506). -/
def xspiCmd (v : Word) (s : State) : State :=
  if !natBit v.toNat 31 || s.flag cfgBlk R.CFG_XSPI_STAT_BUSY then s
  else if s.flashBusy then s.setF cfgBlk R.CFG_XSPI_STAT_REFUSED
  else
    let n := min (natBits v.toNat 8 0) 256
    let data := if natBit v.toNat 30 then (List.range ((n + 3) / 4)).map (fun i => s.rd (cfgBlk + R.CFG_XSPI_BUF + 4 * i)) else []
    let s := (s.setF cfgBlk R.CFG_XSPI_STAT_BUSY).emit (.xspi v (s.rd (cfgBlk + R.CFG_XSPI_ADDR)) data)
    { s with cfg := { s.cfg with xspi := some v } }

/-- CFG_XSPI_CMD (R506). -/
def execCfgXspiCmd (r : Req) (v : Word) (s : State) : Host.Outcome State Fault Refusal :=
  .next (s.gated r (cfgBlk + R.CFG_XSPI_CMD) true (xspiCmd v))

/-- A flash command completes: data read stands in the buffer (R506). While PWR_FAIL_N is low a write waits (R525). -/
def xspiDone (data : List Byte) (s : State) : State :=
  match s.cfg.xspi with
  | none => s
  | some v =>
    if s.start.pf && natBit v.toNat 30 then s else
    let n := if natBit v.toNat 30 then 0 else min (natBits v.toNat 8 0) 256
    let s := (List.range n).foldl (fun s i =>
      let a := cfgBlk + R.CFG_XSPI_BUF + i / 4 * 4
      s.wr a (wordSet (s.rd a) (8 * (i % 4) + 7) (8 * (i % 4)) (data.getD i 0).toNat)) s
    let s := (s.clrF cfgBlk R.CFG_XSPI_STAT_BUSY).setF cfgBlk R.CFG_XSPI_STAT_DONE
    { s with cfg := { s.cfg with xspi := none } }

/-- CFG_XSPI_DONE (R506). -/
def execCfgXspiDone (data : List Byte) (s : State) : Host.Outcome State Fault Refusal := .next (xspiDone data s)

end Sys2Proof.Machine
end

