-- ==== Sys2Proof/Machine/DramOps.lean ====
section
/-! DEFINITION. DRAM controllers: stored lines, write queues, fill map, ranks, errors, retirement, row disturbance and set
points (R313-R341): the operations their commands share. -/
namespace Sys2Proof.Machine

/-! ### State of a controller -/

/-- State of controller `c` beside its registers. -/
def State.ddr (s : State) (c : Nat) : DdrSt := tabGet (fun _ => {}) s.dram.ctl c
/-- State of controller `c` replaced. -/
def State.setDdr (s : State) (c : Nat) (x : DdrSt) : State :=
  { s with dram := { s.dram with ctl := tabPut (fun _ => {}) s.dram.ctl c x } }

/-- A status bit of DDR_STAT set; its interrupt is management's (R300, R340). -/
def State.ddrStat (s : State) (c : Nat) (f : Fld) : State := s.setF (ddrBlk c) f

/-- A bit of DRAM_SITE_EVT of a site set, into class DRAM when DRAM_SITE_IE enables it (R341). -/
def State.dramEvt (s : State) (n : Nat) (f : Fld) : State :=
  if n ≥ 64 then s else s.evt n 5 (dramHub + 8 * n) f R.DRAM_SITE_IE f.lo

/-- Sites that own a DRAM granule. -/
def State.dramOwners (s : State) : List Nat := (List.range 64).filter (fun n => (List.range 3072).any (fun g => s.dramOwner g == n))

/-- A bit of DRAM_SITE_EVT of every site that owns DRAM set (R337, R339). -/
def State.dramEvtAll (s : State) (f : Fld) : State := s.dramOwners.foldl (fun s n => s.dramEvt n f) s

/-- Mode code of R25 as DDR_STAT.POSTURE gives it. -/
def modeNo : Mode → Nat
  | .fallow => 0 | .market => 1 | .harvest => 2

/-- DRAM rate of a mode in MT/s, R25. -/
def modeDram : Mode → Nat
  | .harvest => 6400 | .market => 5600 | .fallow => 4800

/-- The mode whose DRAM rate is in force: a change to a lower mode brings the set points down before the mode itself (R519). -/
def State.dramMode (s : State) : Mode := s.start.drams.getD s.mode

/-- Highest rate a channel may run at (R314): mode, devices and DIMM count. -/
def State.ddrLimit (s : State) (c : Nat) : Nat :=
  min (min (modeDram s.dramMode) (s.ddr c).bin) (if s.flag (ddrBlk c) R.DDR_CTRL_DPC2 then 4800 else 6400)

/-- Register block whose DDR_FSP0 is set point `f` (R340). -/
def fspBlk (c f : Nat) : Nat := ddrBlk c + 4 * f

/-- Whether a set point is trained and within the limit of R314. -/
def State.fspOk (s : State) (c f : Nat) : Bool :=
  decide (f < 3) && s.flag (fspBlk c f) R.DDR_FSP0_TRAINED && decide (s.rf (fspBlk c f) R.DDR_FSP0_RATE ≤ s.ddrLimit c)

/-- The highest set point that is trained and allowed, apart from one (R314, R336). -/
def State.fspBest (s : State) (c : Nat) (but : Option Nat) : Option Nat :=
  [0, 1, 2].foldl (fun b f =>
    if !s.fspOk c f || but == some f then b
    else match b with
      | none => some f
      | some g => if s.rf (fspBlk c g) R.DDR_FSP0_RATE < s.rf (fspBlk c f) R.DDR_FSP0_RATE then some f else b) none

/-- STATE of a controller (R340): 2 ACTIVE. -/
def State.ddrState (s : State) (c : Nat) : Nat := s.rf (ddrBlk c) R.DDR_STAT_STATE

/-! ### Ranks (R317, R338, R339) -/

/-- Lines of one rank. -/
def State.rankLines (s : State) (c : Nat) : Nat := s.rf (ddrBlk c) R.DDR_CTRL_RANK_GIB * 2 ^ 24

/-- Register of physical rank `p`. -/
def rankBlk (c p : Nat) : Nat := ddrBlk c + 4 * p
/-- STATE of physical rank `p`. -/
def State.rankState (s : State) (c p : Nat) : Nat := s.rf (rankBlk c p) R.DDR_RANK_STATE

/-- Physical rank that serves a line of the channel (R317, R339): below the pointer of a migration the spare. -/
def State.rankOf (s : State) (c line : Nat) : Nat :=
  let n := s.rankLines c
  let lr := if n = 0 then 0 else line / n
  let p := ((List.range 4).find? (fun p =>
    s.rf (rankBlk c p) R.DDR_RANK_SERVES == lr && (s.rankState c p == 1 || s.rankState c p == 3 || s.rankState c p == 5))).getD 0
  match (s.ddr c).mig with
  | some (src, k) => if p = src ∧ line < lr * n + k then s.rf (ddrBlk c) R.DDR_CTRL_SPARE_RANK else p
  | none => p

/-- A rank meets a retirement condition (R338). DATA of the records is the physical rank (R583). -/
def State.retire (s : State) (c p : Nat) : State :=
  let st := s.rankState c p
  let b := ddrBlk c
  if st = 3 || st = 4 || (st = 2 && (s.ddr c).mig.isSome) then s
  else
    let s := s.ddrStat c R.DDR_STAT_RETIRE
    let sp := s.rf b R.DDR_CTRL_SPARE_RANK
    if s.flag b R.DDR_CTRL_SPARE_EN && s.rankState c sp == 2 && (s.ddr c).mig.isNone && sp != p then
      let s := s.wf (rankBlk c p) R.DDR_RANK_STATE 3
      let s := (s.setDdr c { s.ddr c with mig := some (p, 0) }).wr (b + R.DDR_MIG_PTR) 0
      let s := { s with ledger := s.ledger ++ [LedgerEnt.mk 2 true (c + 16 * p)] }
      ((s.recordO 0x0061 (locator 7 c) p).reportO (locator 7 c) 0x0062 p).dramEvtAll R.DRAM_SITE_EVT_MIGRATE
    else (s.wf (rankBlk c p) R.DDR_RANK_STATE 5).reportO (locator 7 c) 0x0064 p

/-! ### Stored lines and the fill map (R316, R320) -/

/-- Key of a line of a channel. -/
def lineKey (c line : Nat) : Nat := c * 2 ^ 32 + line

/-- Queue of the subchannel a line lies on (R317): bit 6 of the channel offset. -/
def DdrSt.queue (x : DdrSt) (sub : Nat) : List (Nat × DLine) := if sub = 0 then x.q0 else x.q1
/-- Queue of a subchannel replaced. -/
def DdrSt.setQueue (x : DdrSt) (sub : Nat) (q : List (Nat × DLine)) : DdrSt := if sub = 0 then { x with q0 := q } else { x with q1 := q }

/-- What a line holds: the latest write accepted to it (R318), or what is stored; and whether it waits in the queue. -/
def State.lineAt (s : State) (c line : Nat) : DLine × Bool :=
  match ((s.ddr c).queue (line % 2)).reverse.find? (fun e => e.1 == line) with
  | some e => (e.2, true)
  | none => (tabGet (fun _ => {}) s.dram.lines (lineKey c line), false)

/-- A line stored in the devices. -/
def State.storeLine (s : State) (c line : Nat) (x : DLine) : State :=
  { s with dram := { s.dram with lines := tabPut (fun _ => {}) s.dram.lines (lineKey c line) x } }

/-- A line accepted into its write queue (R323). -/
def State.queueLine (s : State) (c line : Nat) (x : DLine) : State :=
  let d := s.ddr c
  s.setDdr c (d.setQueue (line % 2) (d.queue (line % 2) ++ [(line, x)]))

/-- DRAM address of the first byte of a line of a channel, the inverse of R316. -/
def State.lineAddr (s : State) (c line : Nat) : Nat :=
  let l := s.dramList
  (line / 4 * l.length + l.idxOf c) * 256 + line % 4 * 64

/-- Key of a 1 MiB block in a controller's fill map. -/
def fillKey (c blk : Nat) : Nat := c * 2 ^ 22 + blk

/-- The bit of a block in a controller's fill map: set once filled (R320). -/
def State.isFilled (s : State) (c blk : Nat) : Bool := tabGet (fun _ => false) s.dram.filled (fillKey c blk)

/-- The bit of a block set. -/
def State.setFilled (s : State) (c blk : Nat) : State :=
  { s with dram := { s.dram with filled := tabPut (fun _ => false) s.dram.filled (fillKey c blk) true } }

/-- A controller's share of a block filled with zero lines, queued writes to it included, and its bit set (R320). -/
def State.fillBlock (s : State) (c blk : Nat) : State :=
  let inBlk (line : Nat) : Bool := s.lineAddr c line / 2 ^ 20 == blk
  let d := s.ddr c
  let s' := s.setDdr c { d with q0 := d.q0.filter (fun e => !inBlk e.1), q1 := d.q1.filter (fun e => !inBlk e.1) }
  let lines := tabKeep s'.dram.lines (fun k => !(k / 2 ^ 32 == c && inBlk (k % 2 ^ 32)))
  State.setFilled { s' with dram := { s'.dram with lines := lines } } c blk

/-- Every block of a run of granules marked UNFILLED in all twelve controllers (R319, R358). -/
def State.unfill (s : State) (g n : Nat) : State :=
  { s with dram := { s.dram with filled := tabKeep s.dram.filled (fun k =>
      let x := k % 2 ^ 22 / 1024
      !(decide (g ≤ x) && decide (x < g + n))) } }

/-! ### Errors (R329-R331) -/

/-- An uncorrectable read of a line (R330): counted, captured on the first, its rank retired. -/
def State.ddrUe (s : State) (c line mid : Nat) (patrol : Bool) : State :=
  let b := ddrBlk c
  let p := s.rankOf c line
  let s :=
    if s.flag b R.DDR_STAT_UE then s
    else (s.wr64 (b + R.DDR_ERR_ADDR_LO) (line * 64)).wr (b + R.DDR_ERR_SRC)
      (BitVec.ofNat 32 (b2n patrol * 2 ^ 31 + p * 2 ^ 29 + line % 2 * 2 ^ 28 + (if patrol then 0 else mid)))
  ((s.cnt (b + R.DDR_UE_CNT) 1).ddrStat c R.DDR_STAT_UE).retire c p

/-- A correctable read (R330). -/
def State.ddrCe (s : State) (c : Nat) : State := (s.cnt (ddrBlk c + R.DDR_CE_CNT) 1).ddrStat c R.DDR_STAT_CE

/-- A line read from a controller with what the code finds (R329): its data, `none` when uncorrectable. A line still in the write
queue is not read from the devices. -/
def State.readLine (s : State) (c line mid : Nat) (e : DramEcc) (patrol : Bool) : Option Nat × State :=
  let (x, q) := s.lineAt c line
  if x.poison then (none, s.ddrUe c line mid patrol)
  else if q then (some x.data.toNat, s)
  else
    match e with
    | .clean => (some x.data.toNat, s)
    | .ce => (some x.data.toNat, s.ddrCe c)
    | .ue => (none, s.ddrUe c line mid patrol)
    | .silent d => (some (x.data ^^^ d).toNat, s)

/-- The findings left after the first. -/
def eccHead (l : List DramEcc) : DramEcc := l.headD .clean

/-! ### Row disturbance (R327, R328) -/

/-- The MID with the most activations of a bank in its window; the earlier counted of equals. -/
def BankAct.head (x : BankAct) : Option (Nat × Nat) :=
  x.mids.foldl (fun b e => match b with | none => some e | some y => if y.2 < e.2 then some e else b) none

/-- An ACTIVATE counted for its bank and MID; at the threshold the head of the table is throttled, the controller's own
accesses excepted. `bank` is rank * 64 + subchannel * 32 + bank. -/
def State.activate (s : State) (c bank mid : Nat) : State :=
  let d := s.ddr c
  let x := tabGet (fun _ => {}) d.act bank
  let mids := if x.mids.any (fun e => e.1 == mid) then x.mids.map (fun e => if e.1 = mid then (e.1, e.2 + 1) else e)
    else x.mids ++ [(mid, 1)]
  let x : BankAct := ⟨x.n + 1, mids⟩
  let thr := d.thr.map (fun t => if t.bank = bank ∧ t.mid = mid then { t with last := s.now } else t)
  let s := s.setDdr c { d with act := tabPut (fun _ => {}) d.act bank x, thr := thr }
  let b := ddrBlk c
  if x.n ≠ s.rf b R.DDR_RH_THRESH then s
  else
    match x.head with
    | none => s
    | some (m, _) =>
      if m = 0x1E4 + c then s
      else
        let d := s.ddr c
        let s := s.setDdr c { d with thr := d.thr.filter (fun t => !(t.bank == bank && t.mid == m)) ++
          [⟨bank, m, s.now + 32000000, s.now⟩] }
        let s := s.wr (b + R.DDR_RH_LAST) (BitVec.ofNat 32 (bank / 64 * 2 ^ 26 + bank / 32 % 2 * 2 ^ 25 + bank % 32 * 2 ^ 20 + m))
        ((s.cnt (b + R.DDR_THROTTLE_CNT) 1).ddrStat c R.DDR_STAT_THROTTLE).dramEvt (s.midSid m 0x7F) R.DRAM_SITE_EVT_THROTTLE

/-- Bank key of an activation for a line. -/
def State.bankKey (s : State) (c line bank : Nat) : Nat := s.rankOf c line * 64 + line % 2 * 32 + bank

/-- A throttled MID's next ACTIVATE on its bank waits until 1 µs after its last (R327). -/
def State.throttled (s : State) (c bank mid : Nat) : Bool :=
  (s.ddr c).thr.any (fun t => t.bank == bank && t.mid == mid && decide (s.now < t.till) && decide (s.now < t.last + 1000))

/-- The activation and refresh-management commands of an access (R327, R328). -/
def State.devices (s : State) (c line mid : Nat) (act : Option (Fin 32)) (rfm : Nat) : State :=
  let s := match act with | some k => s.activate c (s.bankKey c line k.val) mid | none => s
  if rfm = 0 || !s.flag (ddrBlk c) R.DDR_RH_RFM then s else s.cnt (ddrBlk c + R.DDR_RFM_CNT) rfm

/-! ### Ports (R322, R324) -/

/-- Port a request enters: DRAM_PORTMAP of its SID for its class, 15 for management. -/
def State.dramPort (s : State) (sid cls : Nat) : Nat :=
  if sid ≥ 64 then 15 else natBits (s.rd (dramHub + R.DRAM_PORTMAP + 4 * sid)).toNat (4 * cls + 3) (4 * cls)

/-- Urgency of a request's age against its port's target (R322). -/
def urgency (target age : Nat) : Nat :=
  if age * 2 < target then 0 else if age * 4 < 3 * target then 1 else if age < target then 2 else 3

/-- The longest READ latency of a port recorded (R324). -/
def State.portMax (s : State) (c p ns : Nat) : State :=
  let b := ddrBlk c + 4 * p
  s.wf b R.DDR_PORT_MAX_NS (max (s.rf b R.DDR_PORT_MAX_NS) (min ns 65535))

/-! ### Set points (R336, R337) -/

/-- A set-point change starts: the channel is in its blackout and every site that owns DRAM learns of it. -/
def State.freqStart (s : State) (c f : Nat) : State :=
  ((s.setDdr c { s.ddr c with target := some f }).wf (ddrBlk c) R.DDR_STAT_STATE 3).dramEvtAll R.DRAM_SITE_EVT_FREQ

/-- A write of GO to DDR_FREQ (R337). -/
def State.freqGo (s : State) (c f : Nat) : State :=
  if s.fspOk c f && s.ddrState c == 2 then s.freqStart c f else s.ddrStat c R.DDR_STAT_FREQ_REFUSED

/-- A channel is out of service (R336): accesses to it answer POISONED, and the fault concentrator reports it. -/
def State.ddrOut (s : State) (c : Nat) : State :=
  let s := (s.wf (ddrBlk c) R.DDR_STAT_STATE 4).ddrStat c R.DDR_STAT_TRAIN_FAIL
  s.reportO (locator 7 c) 0x0060 (s.rd (ddrBlk c + R.DDR_STAT)).toNat

/-- A controller goes on at the set point given, as a fallback, or leaves service where there is none (R336). -/
def State.retrainTo (s : State) (c : Nat) (o : Option Nat) : State :=
  match o with
  | some g => ((s.ddrStat c R.DDR_STAT_TRAIN_FAIL).ddrStat c R.DDR_STAT_FSP_FALLBACK).freqStart c g
  | none => s.ddrOut c

/-- Retraining of the set point in force finds no working setting (R336). -/
def State.retrainFail (s : State) (c : Nat) : State :=
  let f := s.rf (ddrBlk c) R.DDR_STAT_FSP
  let s := s.clrF (fspBlk c f) R.DDR_FSP0_TRAINED
  s.retrainTo c (s.fspBest c (some f))

end Sys2Proof.Machine
end

