-- ==== Sys2Proof/Machine/Aes.lean ====
section
/-! DEFINITION. AES-256 as FIPS 197 publishes it (assumption 7: the manual names AES-256 and does not spell it out), the 128-bit
block taken little-endian, byte 0 in bits [7:0] (R8), and the GF(2^64) hash of R349. -/
namespace Sys2Proof.Machine

/-- Product in GF(2^8) with modulus x^8 + x^4 + x^3 + x + 1, over `k` bits of `b`. -/
def gf8 : Nat → Nat → Nat → Nat
  | 0, _, _ => 0
  | k + 1, a, b =>
    let a2 := a * 2 % 256 ^^^ (if a ≥ 128 then 0x1B else 0)
    (if b % 2 = 1 then a else 0) ^^^ gf8 k a2 (b / 2)

/-- Square in GF(2^8). -/
def gfSq (a : Nat) : Nat := gf8 8 a a

/-- Inverse in GF(2^8) as the 254th power; 0 for 0. -/
def gfInv (a : Nat) : Nat :=
  let a2 := gfSq a
  let a4 := gfSq a2
  let a8 := gfSq a4
  let a16 := gfSq a8
  let a32 := gfSq a16
  let a64 := gfSq a32
  let a128 := gfSq a64
  gf8 8 a128 (gf8 8 a64 (gf8 8 a32 (gf8 8 a16 (gf8 8 a8 (gf8 8 a4 a2)))))

/-- Left rotation of a byte. -/
def rol8 (a n : Nat) : Nat := (a * 2 ^ n % 256) ||| (a / 2 ^ (8 - n))

/-- The S-box of a byte. -/
def sbox (a : Nat) : Nat :=
  let b := gfInv a
  b ^^^ rol8 b 1 ^^^ rol8 b 2 ^^^ rol8 b 3 ^^^ rol8 b 4 ^^^ 0x63

/-- The S-box of every byte value. -/
def sboxTab : List Nat := (List.range 256).map sbox

/-- Next four-byte word of the key schedule: `i` is its index, `w` the words so far, newest first. -/
def aesWord (i : Nat) (w : List (List Nat)) : List Nat :=
  let p := w.getD 0 []
  let q := w.getD 7 []
  let sb (x : Nat) : Nat := sboxTab.getD x 0
  let t :=
    if i % 8 = 0 then
      let r := [sb (p.getD 1 0), sb (p.getD 2 0), sb (p.getD 3 0), sb (p.getD 0 0)]
      [r.getD 0 0 ^^^ 2 ^ (i / 8 - 1), r.getD 1 0, r.getD 2 0, r.getD 3 0]
    else if i % 8 = 4 then p.map sb
    else p
  List.zipWith (· ^^^ ·) q t

/-- The 60 words of the AES-256 key schedule, newest first, from the 32 bytes of the key. -/
def aesKeys (key : List Nat) : List (List Nat) :=
  let w0 := (List.range 8).map (fun i => (key.drop (4 * i)).take 4)
  (List.range 52).foldl (fun w i => aesWord (i + 8) w :: w) w0.reverse

/-- Round key `r` as 16 bytes. -/
def roundKey (w : List (List Nat)) (r : Nat) : List Nat :=
  (List.range 4).flatMap (fun i => w.getD (59 - (4 * r + i)) [])

/-- ShiftRows over 16 bytes in column order. -/
def shiftRows (s : List Nat) : List Nat :=
  (List.range 16).map (fun i => s.getD ((i / 4 + i % 4) % 4 * 4 + i % 4) 0)

/-- MixColumns of one column of four bytes. -/
def mixCol (a b c d : Nat) : List Nat :=
  let x2 (v : Nat) : Nat := gf8 8 v 2
  let x3 (v : Nat) : Nat := x2 v ^^^ v
  [x2 a ^^^ x3 b ^^^ c ^^^ d, a ^^^ x2 b ^^^ x3 c ^^^ d, a ^^^ b ^^^ x2 c ^^^ x3 d, x3 a ^^^ b ^^^ c ^^^ x2 d]

/-- MixColumns. -/
def mixCols (s : List Nat) : List Nat :=
  (List.range 4).flatMap (fun i => mixCol (s.getD (4 * i) 0) (s.getD (4 * i + 1) 0) (s.getD (4 * i + 2) 0) (s.getD (4 * i + 3) 0))

/-- AES-256 of a 16-byte block under a 32-byte key. -/
def aesBytes (key blk : List Nat) : List Nat :=
  let w := aesKeys key
  let add (s : List Nat) (r : Nat) : List Nat := List.zipWith (· ^^^ ·) s (roundKey w r)
  let sub (s : List Nat) : List Nat := s.map (fun x => sboxTab.getD x 0)
  let s := (List.range 13).foldl (fun s i => add (mixCols (shiftRows (sub s))) (i + 1)) (add blk 0)
  add (shiftRows (sub s)) 14

/-- Bytes of a number, least significant first. -/
def natBytes (n x : Nat) : List Nat := (List.range n).map (fun i => x / 256 ^ i % 256)

/-- Number of a list of bytes, least significant first. -/
def bytesNat : List Nat → Nat
  | [] => 0
  | b :: bs => b + 256 * bytesNat bs

/-- AES-256 over numbers, both little-endian. -/
def aes256 (key blk : Nat) : Nat := bytesNat (aesBytes (natBytes 32 key) (natBytes 16 blk))

/-- Product in GF(2^64), modulus x^64 + x^4 + x^3 + x + 1, over `k` bits of `b` (R349). -/
def gf64 : Nat → Nat → Nat → Nat
  | 0, _, _ => 0
  | k + 1, a, b =>
    let a2 := a * 2 % 2 ^ 64 ^^^ (if a ≥ 2 ^ 63 then 0x1B else 0)
    (if b % 2 = 1 then a else 0) ^^^ gf64 k a2 (b / 2)

/-- The hash of R349 over 64-bit words. -/
def macHash (h : Nat) (ws : List Nat) : Nat := ws.foldl (fun x w => gf64 64 (x ^^^ w) h) 0

end Sys2Proof.Machine
end

