-- ==== Sys2Proof/Machine/Drbg.lean ====
section
/-! DEFINITION. Entropy and the DRBG: the health tests and the conditioning of raw bits (R444), and CTR_DRBG with AES-256 and a derivation function
(R447), which the manual names by SP 800-90A and 800-90B and does not spell out (assumption 7). -/
namespace Sys2Proof.Machine

/-! ### Raw bits (R444) -/

/-- 256 raw bits conditioned into 128: AES-256 CBC-MAC over their two blocks, the first bit lowest, under a key the manual does not give. -/
def condition (x : Nat) : Nat :=
  let k := Config.conditionKey.toNat
  aes256 k (aes256 k (x % 2 ^ 128) ^^^ x / 2 ^ 128)

/-- The repetition count test on a raw bit: the run it ends, and whether it reaches the cutoff of 41. -/
def repCount (x : Entropy) (b : Bool) : Nat × Bool :=
  let n := if x.last = some b then x.run + 1 else 1
  (n, decide (41 ≤ n))

/-- The adaptive proportion test on a raw bit, of windows of 512 that count their first bit: that bit, bits seen, its count, and whether the count
reaches the cutoff of 410. -/
def adaptProp (x : Entropy) (b : Bool) : Bool × Nat × Nat × Bool :=
  if x.seen = 0 then (b, 1, 1, false)
  else
    let n := x.hits + b2n (b == x.ref)
    (x.ref, (x.seen + 1) % 512, n, decide (410 ≤ n))

/-- A raw bit meets both tests, and the 256th that passes yields 128 conditioned bits. A failure discards all that is not yet used and starts the
tests again (R446). -/
def entropyBit (x : Entropy) (b : Bool) : Entropy × Bool :=
  let r := repCount x b
  let a := adaptProp x b
  if r.2 || a.2.2.2 then ({}, true)
  else
    let y := { x with last := some b, run := r.1, ref := a.1, seen := a.2.1, hits := a.2.2.1 }
    let raw := x.raw + b2n b * 2 ^ x.count
    if x.count = 255 then ({ y with raw := 0, count := 0, pool := x.pool ++ [condition raw] }, false)
    else ({ y with raw := raw, count := x.count + 1 }, false)

/-! ### CTR_DRBG (R447) -/

/-- Big-endian bytes of a number. -/
def beBytes (n x : Nat) : List Nat := (natBytes n x).reverse

/-- Number of big-endian bytes. -/
def beNat (l : List Nat) : Nat := bytesNat l.reverse

/-- `n` blocks of the counter mode from a counter, and the counter after. -/
def ctrBlocks (key : List Nat) : Nat → List Nat → List Nat × List Nat
  | 0, v => ([], v)
  | n + 1, v =>
    let w := beBytes 16 ((beNat v + 1) % 2 ^ 128)
    let r := ctrBlocks key n w
    (aesBytes key w ++ r.1, r.2)

/-- The update function with 48 bytes of input. -/
def Drbg.update (x : Drbg) (inp : List Nat) : Drbg :=
  let t := List.zipWith (· ^^^ ·) (ctrBlocks x.key 3 x.v).1 inp
  { x with key := t.take 32, v := t.drop 32 }

/-- The chained blocks of the derivation function. -/
def bcc (key : List Nat) : Nat → List Nat → List Nat → List Nat
  | 0, _, c => c
  | n + 1, l, c => bcc key n (l.drop 16) (aesBytes key (List.zipWith (· ^^^ ·) c (l.take 16)))

/-- The derivation function: 48 bytes from an input. -/
def drbgDf (inp : List Nat) : List Nat :=
  let l := beBytes 4 inp.length ++ beBytes 4 48 ++ inp ++ [0x80]
  let l := l ++ List.replicate ((16 - l.length % 16) % 16) 0
  let t := (List.range 3).flatMap (fun i =>
    bcc (List.range 32) (l.length / 16 + 1) (beBytes 4 i ++ List.replicate 12 0 ++ l) (List.replicate 16 0))
  (ctrOut (t.take 32) 3 (t.drop 32))
where
  /-- Output blocks, each the last one ciphered again. -/
  ctrOut (key : List Nat) : Nat → List Nat → List Nat
    | 0, _ => []
    | n + 1, x => let y := aesBytes key x; y ++ ctrOut key n y

/-- Instantiation from entropy and a personalisation string. -/
def drbgInit (ent pers : List Nat) : Drbg :=
  { Drbg.update ⟨List.replicate 32 0, List.replicate 16 0, 0⟩ (drbgDf (ent ++ pers)) with calls := 1 }

/-- A reseed. -/
def Drbg.reseed (x : Drbg) (ent : List Nat) : Drbg := { x.update (drbgDf ent) with calls := 1 }

/-- A generate call of `n` bytes. -/
def Drbg.generate (x : Drbg) (n : Nat) : List Nat × Drbg :=
  let r := ctrBlocks x.key ((n + 15) / 16) x.v
  (r.1.take n, { Drbg.update { x with v := r.2 } (List.replicate 48 0) with calls := x.calls + 1 })

/-! ### The DRNG (R445, R447, R448) -/

/-- STATE of the DRNG: 0 STARTUP, 1 READY, 2 RETEST, 3 FAILED. -/
def State.drngState (s : State) : Nat := s.rf secBlk R.SEC_DRNG_STAT_STATE

/-- 384 conditioned bits, the oldest, leave the pool as bytes. -/
def State.takeSeed (s : State) : List Nat × State :=
  let e := s.sec.ent
  ((e.pool.take 3).flatMap (natBytes 16), { s with sec := { s.sec with ent := { e with pool := e.pool.drop 3 } } })

/-- The DRBG is instantiated with 384 conditioned bits and PART_UID. -/
def State.drbgStart (s : State) : State :=
  let t := s.takeSeed
  { t.2 with sec := { t.2.sec with drbg := drbgInit t.1 (natBytes 8 s.part.uid) } }

/-- The DRBG reseeds with 384 fresh conditioned bits. -/
def State.drbgReseed (s : State) : State :=
  let t := s.takeSeed
  { t.2 with sec := { t.2.sec with drbg := t.2.sec.drbg.reseed t.1 } }

/-- A request for key material can be served: READY, and a reseed finds its bits. -/
def State.keyReady (s : State) : Bool := s.drngState == 1 && decide (3 ≤ s.sec.ent.pool.length)

/-- A request for random data can be served: READY, and the reseed that 2^20 generate calls ask for finds its bits. -/
def State.rndReady (s : State) : Bool :=
  s.drngState == 1 && (decide (s.sec.drbg.calls ≤ 2 ^ 20) || decide (3 ≤ s.sec.ent.pool.length))

/-- Bytes of one generate call, after the reseed that is due. -/
def State.draw (s : State) (n : Nat) : List Nat × State :=
  let s := if s.sec.drbg.calls ≤ 2 ^ 20 then s else s.drbgReseed
  let r := s.sec.drbg.generate n
  (r.1, { s with sec := { s.sec with drbg := r.2 } })

end Sys2Proof.Machine
end

