-- ==== Sys2Proof/Machine/EncOps.lean ====
section
/-! DEFINITION. Inline memory encryption (R342-R361): key slots, the layout of a protected region, line encryption and MACs, the
counter tree with its cache, and alarms. -/
namespace Sys2Proof.Machine

/-! ### Slots and regions (R343-R346) -/

/-- STATE of a slot: 0 OFF, 1 ACTIVE, 2 LOCKED. -/
def State.encState (s : State) (n : Nat) : Nat := s.rf (encBlk n) R.ENC_STAT_STATE
/-- First data granule, data granules and metadata granules of a slot. -/
def State.encBase (s : State) (n : Nat) : Nat := s.rf (encBlk n) R.ENC_REGION_BASE
def State.encD (s : State) (n : Nat) : Nat := s.rf (encBlk n) R.ENC_CTRL_DGRAN
def State.encM (s : State) (n : Nat) : Nat := s.rf (encBlk n) R.ENC_REGION_MGRAN

/-- The slot whose region holds a granule. -/
def State.encOf (s : State) (g : Nat) : Option Nat :=
  (List.range 65).find? (fun n =>
    s.encState n != 0 && decide (s.encBase n ≤ g) && decide (g < s.encBase n + s.encD n + s.encM n))

/-- Whether a granule of a slot's region holds metadata. -/
def State.encMeta (s : State) (n g : Nat) : Bool := decide (s.encBase n + s.encD n ≤ g)

/-- A status bit of a slot set: class CRYPTO of its site, management for slot 64 (R360). -/
def State.encEvt (s : State) (n : Nat) (f : Fld) : State := s.evt n 6 (encBlk n) f R.ENC_IE f.lo

/-- A slot's region in one channel (R346), in lines: start and number of data lines, start of metadata, top level. -/
structure EncGeo where
  d0 : Nat
  len : Nat
  m0 : Nat
  top : Nat
  deriving DecidableEq, Repr

/-- Chunks below chunk `x` that lie in the channel of list position `i` (R316). -/
def chunksIn (n i x : Nat) : Nat := if n = 0 then 0 else (x + (n - 1 - i)) / n

/-- n_k of R346: lines of counter level `k`. -/
def levLines (len k : Nat) : Nat := (len + 8 ^ (k + 1) - 1) / 8 ^ (k + 1)

/-- The region of slot `n` in channel `c`. -/
def State.encGeo (s : State) (c n : Nat) : EncGeo :=
  let l := s.dramList
  let i := l.idxOf c
  let at_ (g : Nat) : Nat := chunksIn l.length i (g * 2 ^ 22)
  let d0 := at_ (s.encBase n)
  let m0 := at_ (s.encBase n + s.encD n)
  let len := 4 * (m0 - d0)
  ⟨4 * d0, len, 4 * m0, ((List.range 13).find? (fun k => decide (levLines len k ≤ 8))).getD 12⟩

/-- Line of the channel of entry `i` of a metadata area: 0 MAC area, k + 1 counter level k. -/
def EncGeo.line (g : EncGeo) (area i : Nat) : Nat :=
  if area = 0 then g.m0 + i
  else g.m0 + levLines g.len 0 + ((List.range (area - 1)).map (levLines g.len)).sum + i

/-! ### Ciphers (R347-R349) -/

/-- The IV of R348. -/
def encIv (n c line dom blk ctr : Nat) : Nat := blk + dom * 4 + c * 16 + line % 2 ^ 32 * 256 + ctr % 2 ^ 56 * 2 ^ 64 + n * 2 ^ 120

/-- Secrets of a slot. -/
def State.encKeys (s : State) (n : Nat) : EncKeys := tabGet (fun _ => {}) s.dram.keys n

/-- Keystream of a data line. -/
def encStream (k : EncKeys) (n c line ctr : Nat) : Nat :=
  ((List.range 4).map (fun b => aes256 k.enc.toNat (encIv n c line 0 b ctr) * 2 ^ (128 * b))).sum

/-- MAC of R349 over `w` 64-bit words of a line. -/
def encMac (k : EncKeys) (n c line dom ctr w x : Nat) : Nat :=
  macHash k.h.toNat ((List.range w).map (fun i => x / 2 ^ (64 * i) % 2 ^ 64)) ^^^
    (aes256 k.mac.toNat (encIv n c line dom 0 ctr) % 2 ^ 64)

/-- Counter `i` of a counter line. -/
def ctrGet (x i : Nat) : Nat := x / 2 ^ (56 * i) % 2 ^ 56
/-- Counter `i` of a counter line replaced. -/
def ctrSet (x i v : Nat) : Nat := natSet x (56 * i + 55) (56 * i) v
/-- All eight counters of a line are 0. -/
def ctrZero (x : Nat) : Bool := x % 2 ^ 448 == 0

/-! ### Counter cache and root (R346, R351) -/

/-- Key of a line in the counter cache. -/
def cacheKey (n area i : Nat) : Nat := (n * 16 + area) * 2 ^ 32 + i
/-- A cached line. -/
def State.cached (s : State) (c n area i : Nat) : Option CLine := tabGet (fun _ => none) (s.ddr c).cache (cacheKey n area i)
/-- A cached line replaced, inserted or removed. -/
def State.setCached (s : State) (c n area i : Nat) (x : Option CLine) : State :=
  let d := s.ddr c
  s.setDdr c { d with cache := tabPut (fun _ => none) d.cache (cacheKey n area i) x }
/-- Root counter `i` of a slot in a channel. -/
def State.rootCtr (s : State) (c n i : Nat) : Nat := (tabGet (fun _ => []) (s.ddr c).root n).getD i 0
/-- Root counter replaced. -/
def State.setRoot (s : State) (c n i v : Nat) : State :=
  let d := s.ddr c
  let l := tabGet (fun _ => []) d.root n
  let l := if l.length = 8 then l else [0, 0, 0, 0, 0, 0, 0, 0]
  s.setDdr c { d with root := tabPut (fun _ => []) d.root n (l.set i v) }

/-- Counter of counter line `i` of level `k` in its parent or the root. -/
def State.parentCtr (s : State) (c n : Nat) (g : EncGeo) (k i : Nat) : Nat :=
  if g.top ≤ k then s.rootCtr c n i
  else match s.cached c n (k + 2) (i / 8) with
    | some x => ctrGet x.data.toNat (i % 8)
    | none => 0

/-! ### Alarms (R355, R357) -/

/-- A failed MAC check (R355): counted, captured on the first, recorded; the sixteenth locks the slot (R357). -/
def State.encAlarm (s : State) (c n line lev mid : Nat) : State :=
  let b := encBlk n
  let s :=
    if s.flag b R.ENC_STAT_ALARM then s
    else (s.wr64 (b + R.ENC_ALARM_ADDR_LO) (line * 64)).wr (b + R.ENC_ALARM_SRC) (BitVec.ofNat 32 (c * 2 ^ 28 + lev * 2 ^ 25 + mid))
  let s := s.cnt (b + R.ENC_ALARM_TOTAL) 1
  let k := s.rf b R.ENC_ALARM_CNT_COUNT
  let s := s.wf b R.ENC_ALARM_CNT_COUNT (min (k + 1) 16)
  let s := s.encEvt n R.ENC_STAT_ALARM
  let (v, s) := s.fresh
  let (d, s) := s.fresh
  let s := s.record 0x0023 (locator 12 n) (v % 5) (if n < 64 then n else 0x7F) (d % 2 ^ 64)
  if k + 1 = 16 then (s.wf b R.ENC_STAT_STATE 2).encEvt n R.ENC_STAT_LOCKED_EVT else s

/-! ### The walk (R352) -/

/-- Counter line (k, i) brought into the cache, its parent there or in the root: whether it verifies, and the findings left. -/
def State.bringCtr (s : State) (c n : Nat) (g : EncGeo) (mid k i : Nat) (e : List DramEcc) : Bool × List DramEcc × State :=
  let p := s.parentCtr c n g k i
  if p = 0 then (true, e, s.setCached c n (k + 1) i (some {}))
  else
    let line := g.line (k + 1) i
    match s.readLine c line mid (eccHead e) false with
    | (none, s) => (false, e.tail, s.encEvt n R.ENC_STAT_META_UE)
    | (some x, s) =>
      if encMac (s.encKeys n) n c line 2 p 7 x = x / 2 ^ 448 then
        (true, e.tail, s.setCached c n (k + 1) i (some ⟨BitVec.ofNat 512 x, false⟩))
      else (false, e.tail, s.encAlarm c n line (k + 1) mid)

/-- Levels `m` - 1 down to `lo` above index `j` of the level below `lo` brought in. -/
def State.walkDown (s : State) (c n : Nat) (g : EncGeo) (mid j lo : Nat) : Nat → List DramEcc → Bool × List DramEcc × State
  | 0, e => (true, e, s)
  | m + 1, e =>
    if m < lo then (true, e, s)
    else
      match s.bringCtr c n g mid m (j / 8 ^ (m + 1)) e with
      | (true, e, s) => s.walkDown c n g mid j lo m e
      | r => r

/-- The walk of R352 for data line `j`, down to level `lo`: the cached level nearest below bounds it. -/
def State.encWalk (s : State) (c n : Nat) (g : EncGeo) (mid j lo : Nat) (e : List DramEcc) : Bool × List DramEcc × State :=
  let k := ((List.range (g.top + 1)).find? (fun k => decide (lo ≤ k) && (s.cached c n (k + 1) (j / 8 ^ (k + 1))).isSome)).getD (g.top + 1)
  s.walkDown c n g mid j lo k e

/-- Content of a cached line, zero where it is not cached. -/
def State.cachedVal (s : State) (c n area i : Nat) : Nat := ((s.cached c n area i).map (·.data.toNat)).getD 0

/-- A data access finds its level-0 and MAC lines in the cache, or does not (R361). A MAC line whose level-0 line holds zero counters
reads as zeros and counts as found (DEDUCED from the worked example). -/
def State.encCount (s : State) (c n j : Nat) : State :=
  let hit := match s.cached c n 1 (j / 8) with
    | none => false
    | some x => ctrZero x.data.toNat || (s.cached c n 0 (j / 8)).isSome
  s.cnt (ddrBlk c + (if hit then R.ENC_CACHE_HIT_CNT else R.ENC_CACHE_MISS_CNT)) 1

/-- The MAC line of data line `j`: cached, zeros, or read; `none` when uncorrectable. -/
def State.macLine (s : State) (c n : Nat) (g : EncGeo) (mid j : Nat) (e : List DramEcc) : Option Nat × List DramEcc × State :=
  match s.cached c n 0 (j / 8) with
  | some x => (some x.data.toNat, e, s)
  | none =>
    if ctrZero (s.cachedVal c n 1 (j / 8)) then (some 0, e, s)
    else
      match s.readLine c (g.line 0 (j / 8)) mid (eccHead e) false with
      | (x, s) => (x, e.tail, s)

/-- A protected line read (R352) after the walk: its plain data, `none` where it is POISONED. -/
def State.encReadLine (s : State) (c n : Nat) (g : EncGeo) (mid j : Nat) (e : List DramEcc) : Option Nat × List DramEcc × State :=
  match s.encWalk c n g mid j 0 e with
  | (false, e, s) => (none, e, s)
  | (true, e, s) =>
    let ctr := ctrGet (s.cachedVal c n 1 (j / 8)) (j % 8)
    if ctr = 0 then (some 0, e, s)
    else
      match s.macLine c n g mid j e with
      | (none, e, s) => (none, e, s)
      | (some m, e, s) =>
        let line := g.d0 + j
        match s.readLine c line mid (eccHead e) false with
        | (none, s) => (none, e.tail, s)
        | (some x, s) =>
          let k := s.encKeys n
          if encMac k n c line 1 ctr 8 x = m / 2 ^ (64 * (j % 8)) % 2 ^ 64 then
            let s := if (s.cached c n 0 (j / 8)).isSome then s else s.setCached c n 0 (j / 8) (some ⟨BitVec.ofNat 512 m, false⟩)
            (some (x ^^^ encStream k n c line ctr), e.tail, s)
          else (none, e.tail, s.encAlarm c n line 0 mid)

/-- A protected line written with plain data (R353) once its level-0 line is cached: `false` where it is refused POISONED. -/
def State.encPut (s : State) (c n : Nat) (g : EncGeo) (mid j x : Nat) (e : List DramEcc) : Bool × List DramEcc × State :=
  let l0 := s.cachedVal c n 1 (j / 8)
  let ctr := ctrGet l0 (j % 8)
  if ctr = 2 ^ 56 - 1 then (false, e, s.encEvt n R.ENC_STAT_CTR_EXHAUSTED)
  else
    match s.macLine c n g mid j e with
    | (none, e, s) => (false, e, s)
    | (some m, e, s) =>
      let k := s.encKeys n
      let line := g.d0 + j
      let ct := x ^^^ encStream k n c line (ctr + 1)
      let i := j % 8
      let s := s.setCached c n 1 (j / 8) (some ⟨BitVec.ofNat 512 (ctrSet l0 i (ctr + 1)), true⟩)
      let s := s.setCached c n 0 (j / 8)
        (some ⟨BitVec.ofNat 512 (natSet m (64 * i + 63) (64 * i) (encMac k n c line 1 (ctr + 1) 8 ct)), true⟩)
      let s := s.queueLine c line ⟨BitVec.ofNat 512 ct, false⟩
      (true, e, s.setFilled c (s.lineAddr c line / 2 ^ 20))

/-- Bytes `lo` to `lo` + `n` - 1 of a line replaced. -/
def mergeLine (old new lo n : Nat) : Nat :=
  natSet old (8 * (lo + n) - 1) (8 * lo) (new / 2 ^ (8 * lo))

/-- A write to a protected line (R353): all 64 bytes, or merged into the verified line. -/
def State.encWriteLine (s : State) (c n : Nat) (g : EncGeo) (mid j x lo len : Nat) (e : List DramEcc) : Bool × List DramEcc × State :=
  if len = 64 then
    match s.encWalk c n g mid j 0 e with
    | (false, e, s) => (false, e, s)
    | (true, e, s) => s.encPut c n g mid j x e
  else
    match s.encReadLine c n g mid j e with
    | (none, e, s) => (false, e, s)
    | (some y, e, s) => s.encPut c n g mid j (mergeLine y x lo len) e

/-! ### Write-back (R354) -/

/-- A line evicted (R354): a dirty counter line takes the next value of its counter in the parent and a new MAC; a dirty MAC line goes
back as it stands; the pinned top level of an ACTIVE slot stays. A saturated parent counter refuses it and the line stays. -/
def State.encEvict (s : State) (c n area i : Nat) (e : List DramEcc) : State :=
  let g := s.encGeo c n
  match s.cached c n area i with
  | none => s
  | some x =>
    if area = g.top + 1 && s.encState n == 1 then s
    else if !x.dirty then s.setCached c n area i none
    else if area = 0 then (s.queueLine c (g.line 0 i) ⟨x.data, false⟩).setCached c n 0 i none
    else
      let k := area - 1
      let (ok, _, s) := if g.top ≤ k then (true, e, s) else s.encWalk c n g (0x1E4 + c) (i * 8 ^ (k + 1)) (k + 1) e
      let p := s.parentCtr c n g k i
      if !ok then s
      else if p = 2 ^ 56 - 1 then s.encEvt n R.ENC_STAT_CTR_EXHAUSTED
      else
        let s :=
          if g.top ≤ k then s.setRoot c n i (p + 1)
          else s.setCached c n (area + 1) (i / 8)
            (some ⟨BitVec.ofNat 512 (ctrSet (s.cachedVal c n (area + 1) (i / 8)) (i % 8) (p + 1)), true⟩)
        let line := g.line area i
        let y := x.data.toNat % 2 ^ 448
        let y := y + encMac (s.encKeys n) n c line 2 (p + 1) 7 y * 2 ^ 448
        (s.queueLine c line ⟨BitVec.ofNat 512 y, false⟩).setCached c n area i none

/-! ### Enable and disable (R344, R358) -/

/-- What R344 asks of an enable with `d` data granules, slot OFF; none in SCRAPPED or under sealed fault (R432). -/
def State.encLegal (s : State) (n d : Nat) : Bool :=
  let base := s.encBase n
  let m := s.encM n
  let backed := s.dramList.length * s.rf dramHub R.DRAM_INTLV_CAP_GIB
  let site := if n < 64 then n else 0x7F
  let lc := s.rf secBlk R.SEC_LC_STAT_STATE
  lc != 5 && lc != 7 && s.encState n == 0 && decide (0 < d) && decide (base + d + m ≤ backed) && decide ((27 * d + 99) / 100 ≤ m) &&
    (List.range (d + m)).all (fun i => s.dramOwner (base + i) == site && (s.encOf (base + i)).isNone)

/-- Cache lines and root of a slot discarded in every controller. -/
def State.encDrop (s : State) (n : Nat) : State :=
  (List.range 12).foldl (fun s c =>
    let d := s.ddr c
    s.setDdr c { d with cache := tabKeep d.cache (fun k => k / 2 ^ 36 != n), root := tabPut (fun _ => []) d.root n [] }) s

/-- The three secrets of a slot, drawn after a reseed (R342, R447). DESIGN CHOICE: one generate call each, in the order K_ENC, K_MAC, H, their bytes
least significant first; an H drawn as 0, which R342 rules out, is an open non-zero value (log entry 21). -/
def State.drawKeys (s : State) : EncKeys × State :=
  let a := s.drbgReseed.draw 32
  let b := a.2.draw 32
  let h := b.2.draw 8
  let v := h.2.fresh
  let hk := if BitVec.ofNat 64 (bytesNat h.1) = 0 then BitVec.ofNat 64 (v.1 % (2 ^ 64 - 1) + 1) else BitVec.ofNat 64 (bytesNat h.1)
  (⟨BitVec.ofNat 256 (bytesNat a.1), BitVec.ofNat 256 (bytesNat b.1), hk⟩, v.2)

/-- A slot enabled: fresh secrets in every controller, the root zero (R342, R350). -/
def State.encStart (s : State) (n d : Nat) : State :=
  let (k, s) := s.drawKeys
  let s := State.encDrop { s with dram := { s.dram with keys := tabPut (fun _ => {}) s.dram.keys n k } } n
  ((s.wf (encBlk n) R.ENC_CTRL_DGRAN d).setF (encBlk n) R.ENC_CTRL_EN).wf (encBlk n) R.ENC_STAT_STATE 1

/-- A slot goes OFF: keys zeroised, cache and root gone, the region UNFILLED (R358). -/
def State.encOff (s : State) (n : Nat) : State :=
  let s := State.encDrop { s with dram := { s.dram with keys := tabPut (fun _ => {}) s.dram.keys n {} } } n
  let s := s.unfill (s.encBase n) (s.encD n + s.encM n)
  ((s.clrF (encBlk n) R.ENC_CTRL_EN).wf (encBlk n) R.ENC_STAT_STATE 0).wf (encBlk n) R.ENC_ALARM_CNT_COUNT 0

/-- The write-back of dirty pinned lines at a disable (R354): a root counter at its end is not incremented. -/
def State.encRootFull (s : State) (n : Nat) : Bool :=
  (List.range 12).any (fun c =>
    let t := (s.encGeo c n).top
    (List.range 8).any (fun i =>
      (match s.cached c n (t + 1) i with | some x => x.dirty | none => false) && s.rootCtr c n i == 2 ^ 56 - 1))

end Sys2Proof.Machine
end

