-- ==== Sys2Proof/Machine/Dram.lean ====
section
/-! DEFINITION. Commands on the DRAM controllers (R313-R341) and the key slots (R342-R361). -/
namespace Sys2Proof.Machine

/-! ### Ownership (R319) -/

/-- A write to DRAM_OWN (R319, R345): grant, revoke, or refused with OWN_REFUSED. A site's change to itself changes nothing. -/
def dramOwnWrite (g : Nat) (v : Word) (s : State) : State :=
  let cur := s.dramOwner g
  let new := v.toNat % 128
  if new = cur then s
  else if (cur ≠ 0x7F && new ≠ 0x7F) || (s.encOf g).isSome then s.setF dramHub R.DRAM_HSTAT_OWN_REFUSED
  else
    let s := if new = 0x7F then s else s.unfill g 1
    s.wf (dramHub + 4 * g) R.DRAM_OWN_SITE new

/-- DRAM_OWN_WRITE (R319). -/
def execDramOwnWrite (r : Req) (g : Fin 3072) (v : Word) (s : State) : Host.Outcome State Fault Refusal :=
  .next (s.gatedIf r (dramHub + R.DRAM_OWN + 4 * g.val) (siteCodeOk (v.toNat % 128)) (dramOwnWrite g.val v))

/-! ### Requests (R316-R331) -/

/-- A controller's answer: emitted, and sent where the request waits at its ring stop. WRITE_P is not answered. -/
def State.dramReply (s : State) (c : Nat) (q : DramReq) (op : Nat) (code : Rsp) (data : List Nat) : State :=
  let a := q.addr.toNat
  let s := if q.posted && op != 1 && op != 2 then s else s.emit (.dramDone c q.r a code data)
  let n := ddrStopNo c 0
  let s := s.agentAnswer n q.r.mid.toNat op a (codeNo code) data
  s.agentAnswer (n + 64) q.r.mid.toNat op a (codeNo code) data

/-- Operation number of a request (R146). -/
def dramOp (q : DramReq) (write : Bool) : Nat := if write then if q.posted then 4 else 3 else if q.burst then 2 else 1

/-- Lines of the channel a request reaches, where this controller serves its address (R316, R317). -/
def State.reqLines (s : State) (c : Nat) (q : DramReq) : Option (List Nat) :=
  match s.dramDecode q.addr.toNat with
  | some (d, o) =>
    let a := q.addr.toNat
    if d ≠ c then none
    else if q.burst then if a % 256 = 0 then some [o / 64, o / 64 + 1, o / 64 + 2, o / 64 + 3] else none
    else if a % 64 + q.len.toNat < 64 then some [o / 64] else none
  | none => none

/-- What the controller refuses before it accesses the DRAM (R163, R325, R336, R345, R357; R517 DOZE; R541). -/
def State.dramRefuses (s : State) (c : Nat) (q : DramReq) : Option Rsp × State :=
  let sid := s.midSid q.r.mid.toNat q.r.sid.toNat
  let g := q.addr.toNat / 2 ^ 30
  if !s.ownerPasses sid q.addr.toNat then (some .denied, s)
  else if s.siteInReset sid || s.clk.fb || s.pwrState == 2 then (some .inReset, s)
  else if s.ddrState c = 4 then (some .poisoned, s)
  else
    match s.encOf g with
    | none => (none, s)
    | some n =>
      if s.encMeta n g then (some .denied, s)
      else if s.encState n = 2 then (some .poisoned, s.cnt (encBlk n + R.ENC_POISON_CNT) 1)
      else (none, s)

/-- One line read for a READ: zeros from an UNFILLED block (R320), through the slot of a protected granule, else from the devices. -/
def State.dramLine (s : State) (c : Nat) (slot : Option Nat) (mid line : Nat) (e : List DramEcc) : Option Nat × List DramEcc × State :=
  if !s.isFilled c (s.lineAddr c line / 2 ^ 20) then (some 0, e, s)
  else
    match slot with
    | some n =>
      let g := s.encGeo c n
      (s.encCount c n (line - g.d0)).encReadLine c n g mid (line - g.d0) e
    | none =>
      match s.readLine c line mid (eccHead e) false with
      | (x, s) => (x, e.tail, s)

/-- Lines read in order. -/
def State.dramLines (s : State) (c : Nat) (slot : Option Nat) (mid : Nat) : List Nat → List DramEcc → List (Option Nat) × State
  | [], _ => ([], s)
  | l :: t, e =>
    match s.dramLine c slot mid l e with
    | (x, e, s) => let (xs, s) := s.dramLines c slot mid t e; (x :: xs, s)

/-- The bytes a READ asks for, at their places in the line (R146). -/
def reqMask (q : DramReq) (x : Nat) : Nat :=
  if q.burst then x
  else
    let lo := q.addr.toNat % 64
    x / 2 ^ (8 * lo) % 2 ^ (8 * (q.len.toNat + 1)) * 2 ^ (8 * lo)

/-- A READ or READ_BURST served (R324, R330). A channel not ACTIVE, and a bank throttled for the MID, serve none now. -/
def dramRead (c : Nat) (q : DramReq) (d : DramServe) (s : State) : State :=
  match s.reqLines c q with
  | none => s
  | some ls =>
    let mid := q.r.mid.toNat
    let sid := s.midSid mid q.r.sid.toNat
    match s.dramRefuses c q with
    | (some k, s) =>
      let s := if k = .poisoned then s.dramEvt sid R.DRAM_SITE_EVT_POISON else s
      s.dramReply c q (dramOp q false) k []
    | (none, s) =>
      let line := ls.headD 0
      if s.ddrState c ≠ 2 || (match d.act with | some k => s.throttled c (s.bankKey c line k.val) mid | none => false) then s
      else
        let s := s.devices c line mid d.act d.rfm
        let (xs, s) := s.dramLines c (s.encOf (q.addr.toNat / 2 ^ 30)) mid ls d.ecc
        let s := s.portMax c (s.dramPort sid q.cls.toNat) d.lat
        if xs.any (·.isNone) then (s.dramEvt sid R.DRAM_SITE_EVT_POISON).dramReply c q (dramOp q false) .poisoned []
        else s.dramReply c q (dramOp q false) .ok (xs.map (fun x => reqMask q (x.getD 0)))

/-- DRAM_READ_REQUEST (R324). -/
def execDramReadRequest (c : Fin 12) (q : DramReq) (d : DramServe) (s : State) : Host.Outcome State Fault Refusal :=
  .next (dramRead c.val q d s)

/-- One line written: through its slot, or filled first when its block is UNFILLED (R320), merged when narrow (R331). `false` where it
is refused POISONED. -/
def State.dramPut (s : State) (c : Nat) (slot : Option Nat) (mid line x lo len : Nat) (e : List DramEcc) :
    Bool × List DramEcc × State :=
  match slot with
  | some n =>
    let g := s.encGeo c n
    (s.encCount c n (line - g.d0)).encWriteLine c n g mid (line - g.d0) x lo len e
  | none =>
    let blk := s.lineAddr c line / 2 ^ 20
    let s := if s.isFilled c blk then s else (s.fillBlock c blk).cnt (ddrBlk c + R.DDR_FILL_WAIT_CNT) 1
    if len = 64 then (true, e, s.queueLine c line ⟨BitVec.ofNat 512 x, false⟩)
    else
      match s.readLine c line mid (eccHead e) false with
      | (some y, s) => (true, e.tail, s.queueLine c line ⟨BitVec.ofNat 512 (mergeLine y x lo len), false⟩)
      | (none, s) => (true, e.tail, s.queueLine c line ⟨BitVec.ofNat 512 (mergeLine (s.lineAt c line).1.data.toNat x lo len), true⟩)

/-- Lines written in order; whether all were performed. -/
def State.dramPuts (s : State) (c : Nat) (slot : Option Nat) (mid lo len : Nat) : List (Nat × Nat) → List DramEcc → Bool × State
  | [], _ => (true, s)
  | (l, x) :: t, e =>
    match s.dramPut c slot mid l x lo len e with
    | (ok, e, s) => let (ok2, s) := s.dramPuts c slot mid lo len t e; (ok && ok2, s)

/-- Room in the write queues of 64 lines (R323) for the lines of a request. -/
def State.dramRoom (s : State) (c : Nat) (ls : List Nat) : Bool :=
  [0, 1].all (fun b => decide (((s.ddr c).queue b).length + (ls.filter (fun l => l % 2 == b)).length ≤ 64))

/-- A WRITE or WRITE_P accepted (R318, R320, R331, R353), or left waiting. -/
def dramWrite (c : Nat) (q : DramReq) (d : DramServe) (s : State) : State :=
  match s.reqLines c q with
  | none => s
  | some ls =>
    let mid := q.r.mid.toNat
    match s.dramRefuses c q with
    | (some k, s) => s.dramReply c q (dramOp q true) k []
    | (none, s) =>
      let line := ls.headD 0
      if s.ddrState c ≠ 2 || !s.dramRoom c ls ||
          (match d.act with | some k => s.throttled c (s.bankKey c line k.val) mid | none => false) then s
      else
        let s := s.devices c line mid d.act d.rfm
        let lo := if q.burst then 0 else q.addr.toNat % 64
        let len := if q.burst then 64 else q.len.toNat + 1
        let (ok, s) := s.dramPuts c (s.encOf (q.addr.toNat / 2 ^ 30)) mid lo len (ls.zip (q.data.map (·.toNat) ++ [0, 0, 0, 0])) d.ecc
        s.dramReply c q (dramOp q true) (if ok then .ok else .poisoned) []

/-- DRAM_WRITE_REQUEST (R318). -/
def execDramWriteRequest (c : Fin 12) (q : DramReq) (d : DramServe) (s : State) : Host.Outcome State Fault Refusal :=
  .next (dramWrite c.val q d s)

/-- One burst of a write queue's drain (R323): the oldest lines stored. -/
def dramDrain (c sub n : Nat) (urgent : Bool) (s : State) : State :=
  let x := s.ddr c
  let q := x.queue sub
  if s.ddrState c ≠ 2 || (urgent && decide (q.length < 48)) then s
  else (q.take n).foldl (fun s e => s.storeLine c e.1 e.2) (s.setDdr c (x.setQueue sub (q.drop n)))

/-- DRAM_WRITE_DRAIN (R323): `n` lines, `urgent` when a read of urgency 2 or 3 waits. -/
def execDramWriteDrain (c : Fin 12) (sub : Fin 2) (n : Fin 65) (urgent : Bool) (s : State) : Host.Outcome State Fault Refusal :=
  .next (dramDrain c.val sub.val n.val urgent s)

/-! ### Background work -/

/-- The next block a filler takes from `b` on: neither filled nor protected (R320, R350). -/
def State.nextFill (s : State) (c : Nat) : Nat → Nat → Nat
  | 0, b => b
  | k + 1, b =>
    if s.isFilled c b then s.nextFill c k (b + 1)
    else
      match s.encOf (b / 1024) with
      | some n => s.nextFill c k ((s.encBase n + s.encD n + s.encM n) * 1024)
      | none => b

/-- DRAM_BACKGROUND_FILL (R320). -/
def execDramBackgroundFill (c : Fin 12) (s : State) : Host.Outcome State Fault Refusal :=
  let b := s.nextFill c.val (s.dram.filled.length + 66) 0
  let blocks := s.dramList.length * s.rf dramHub R.DRAM_INTLV_CAP_GIB * 1024
  if s.ddrState c.val = 2 ∧ s.dramList.contains c.val ∧ b < blocks then .next (s.fillBlock c.val b) else .next s

/-- tREFI of a rank in ns (R326). -/
def State.trefi (s : State) (c p : Nat) : Nat := if s.flag (rankBlk c p) R.DDR_RANK_REF_X2 then 1950 else 3900

/-- DRAM_REFRESH (R326): the refresh due on a rank is issued; in self-refresh the devices refresh themselves. -/
def execDramRefresh (c : Fin 12) (rank : Fin 4) (s : State) : Host.Outcome State Fault Refusal :=
  let x := s.ddr c.val
  let last := tabGet (fun _ => 0) x.ref rank.val
  if (s.ddrState c.val = 2 ∨ s.ddrState c.val = 1) ∧ s.rankState c.val rank.val ≠ 0 ∧ last + s.trefi c.val rank.val ≤ s.now then
    .next (s.setDdr c.val { x with ref := tabPut (fun _ => 0) x.ref rank.val s.now })
  else .next s

/-- Thermal status of one rank: a hot device doubles its refresh, two cool reads in a row end it (R326). -/
def tempRank (c : Nat) (hot : Nat) (s : State) (p : Nat) : State :=
  let x := s.ddr c
  let b := rankBlk c p
  if s.rankState c p = 0 then s
  else if natBit hot p then
    let s := s.setDdr c { x with cool := tabPut (fun _ => 0) x.cool p 0 }
    if s.flag b R.DDR_RANK_REF_X2 then s else (s.setF b R.DDR_RANK_REF_X2).ddrStat c R.DDR_STAT_TEMP_HI
  else if !s.flag b R.DDR_RANK_REF_X2 then s
  else
    let n := tabGet (fun _ => 0) x.cool p + 1
    let s := s.setDdr c { x with cool := tabPut (fun _ => 0) x.cool p (if n ≥ 2 then 0 else n) }
    if n ≥ 2 then s.clrF b R.DDR_RANK_REF_X2 else s

/-- DRAM_TEMP_POLL (R326): `hot` and `crit` name the ranks with a device above 85 and 95 degrees. -/
def execDramTempPoll (c : Fin 12) (hot crit : BitVec 4) (s : State) : Host.Outcome State Fault Refusal :=
  let s := [0, 1, 2, 3].foldl (tempRank c.val (hot ||| crit).toNat) s
  if [0, 1, 2, 3].any (fun p => natBit crit.toNat p && s.rankState c.val p != 0) then
    let s := s.ddrStat c.val R.DDR_STAT_TEMP_CRIT
    .next (s.reportO (locator 7 c.val) 0x0063 (s.rd (ddrBlk c.val + R.DDR_STAT)).toNat)
  else .next s

/-- DRAM_RH_WINDOW_END (R327): counts and tables restart; throttles run on. -/
def execDramRhWindowEnd (c : Fin 12) (s : State) : Host.Outcome State Fault Refusal :=
  .next (s.setDdr c.val { s.ddr c.val with act := [] })

/-- DRAM_THROTTLE_EXPIRE (R327). -/
def execDramThrottleExpire (c : Fin 12) (rank : Fin 4) (sub : Fin 2) (bank : Fin 32) (mid : BitVec 12) (s : State) :
    Host.Outcome State Fault Refusal :=
  let k := rank.val * 64 + sub.val * 32 + bank.val
  .next (s.setDdr c.val { s.ddr c.val with thr := (s.ddr c.val).thr.filter (fun t => !(t.bank == k && t.mid == mid.toNat)) })

/-- The patrol's next line (R332): a line of an UNFILLED block is skipped with the rest of its block's chunk. -/
def patrolRead (c : Nat) (e : DramEcc) (act : Option (Fin 32)) (s : State) : State :=
  let b := ddrBlk c
  let x := s.ddr c
  let ranks := ((List.range 4).filter (fun p => s.rankState c p == 1 || s.rankState c p == 3 || s.rankState c p == 5)).length
  let total := ranks * s.rankLines c
  if s.ddrState c ≠ 2 ∨ s.rf b R.DDR_PATROL_PERIOD = 0 ∨ total = 0 then s
  else
    let line := x.patrol % total
    if !s.isFilled c (s.lineAddr c line / 2 ^ 20) then s.setDdr c { x with patrol := (line / 4 * 4 + 4) % total }
    else
      let s := s.setDdr c { x with patrol := (line + 1) % total }
      let s := match act with | some k => s.activate c (s.bankKey c line k.val) (0x1E4 + c) | none => s
      (s.readLine c line 0 e true).2

/-- DRAM_PATROL_READ (R332). -/
def execDramPatrolRead (c : Fin 12) (ecc : DramEcc) (act : Option (Fin 32)) (s : State) : Host.Outcome State Fault Refusal :=
  .next (patrolRead c.val ecc act s)

/-- DRAM_TRACK (R335): drift tracking every 10 ms, impedance calibration every 128 ms; the settings themselves are not state the
manual shows. -/
def execDramTrack (c : Fin 12) (zq : Bool) (s : State) : Host.Outcome State Fault Refusal :=
  let x := s.ddr c.val
  if s.ddrState c.val ≠ 2 then .next s
  else if zq then if x.zq + 128000000 ≤ s.now then .next (s.setDdr c.val { x with zq := s.now }) else .next s
  else if x.dqs + 10000000 ≤ s.now then .next (s.setDdr c.val { x with dqs := s.now })
  else .next s

/-- DRAM_RETRAIN_STEP (R335): 0 more steps to come, 1 the last one, 2 no working setting (R336). Only while the mode in force is above
POSTURE. -/
def execDramRetrainStep (c : Fin 12) (res : Fin 3) (s : State) : Host.Outcome State Fault Refusal :=
  let b := ddrBlk c.val
  if s.ddrState c.val = 2 ∧ s.rf b R.DDR_STAT_POSTURE < modeNo s.mode then
    match res.val with
    | 0 => .next s
    | 1 => .next ((s.wf b R.DDR_STAT_POSTURE (modeNo s.mode)).ddrStat c.val R.DDR_STAT_RETRAINED)
    | _ => .next (s.retrainFail c.val)
  else .next s

/-! ### Set points, parity errors and migration -/

/-- A write to DDR_FREQ (R337, R340): without GO it does nothing. -/
def ddrFreqWrite (c : Nat) (v : Word) (s : State) : State := if natBit v.toNat 31 then s.freqGo c (v.toNat % 4) else s

/-- DDR_FREQ_GO (R337). -/
def execDdrFreqGo (r : Req) (c : Fin 12) (v : Word) (s : State) : Host.Outcome State Fault Refusal :=
  .next (s.gated r (ddrBlk c.val + R.DDR_FREQ) true (ddrFreqWrite c.val v))

/-- DDR_FREQ_DONE (R337). -/
def execDdrFreqDone (c : Fin 12) (s : State) : Host.Outcome State Fault Refusal :=
  match (s.ddr c.val).target with
  | none => .next s
  | some f =>
    let b := ddrBlk c.val
    .next (((s.setDdr c.val { s.ddr c.val with target := none }).wf b R.DDR_STAT_FSP f).wf b R.DDR_STAT_STATE 2)

/-- DRAM_CAPAR_ERROR (R338): the third of a rank within one second retires it. -/
def execDramCaparError (c : Fin 12) (rank : Fin 4) (s : State) : Host.Outcome State Fault Refusal :=
  let x := s.ddr c.val
  let ts := (tabGet (fun _ => []) x.capar rank.val).filter (fun t => decide (s.now < t + 1000000000)) ++ [s.now]
  let s := s.setDdr c.val { x with capar := tabPut (fun _ => []) x.capar rank.val ts }
  let s := (s.cnt (ddrBlk c.val + R.DDR_CAPAR_CNT) 1).ddrStat c.val R.DDR_STAT_CAPAR
  .next (if ts.length ≥ 3 then s.retire c.val rank.val else s)

/-- The end of a migration (R339): the spare serves the rank, the old rank is RETIRED. -/
def State.migEnd (s : State) (c src : Nat) : State :=
  let b := ddrBlk c
  let sp := s.rf b R.DDR_CTRL_SPARE_RANK
  let lr := s.rf (rankBlk c src) R.DDR_RANK_SERVES
  let s := (s.wf (rankBlk c sp) R.DDR_RANK_STATE 1).wf (rankBlk c sp) R.DDR_RANK_SERVES lr
  let s := (s.wf (rankBlk c src) R.DDR_RANK_STATE 4).wf (rankBlk c src) R.DDR_RANK_SERVES 0
  (s.setDdr c { s.ddr c with mig := none }).ddrStat c R.DDR_STAT_MIG_DONE

/-- One line copied into the spare (R339): corrected, poisoned and counted, or zero in an UNFILLED block, whose share is filled with its
last line. -/
def migLine (c : Nat) (e : DramEcc) (s : State) : State :=
  match (s.ddr c).mig with
  | none => s
  | some (src, k) =>
    if s.ddrState c ≠ 2 then s
    else
      let b := ddrBlk c
      let n := s.rankLines c
      if n ≤ k then s.migEnd c src
      else
        let line := s.rf (rankBlk c src) R.DDR_RANK_SERVES * n + k
        let blk := s.lineAddr c line / 2 ^ 20
        let s :=
          if !s.isFilled c blk then if s.lineAddr c (line + 1) / 2 ^ 20 = blk then s else s.fillBlock c blk
          else
            let (x, q) := s.lineAt c line
            if q then s
            else if x.poison || e == .ue then
              (s.storeLine c line { x with poison := true }).cnt (b + R.DDR_MIG_POISON) 1
            else
              match e with
              | .silent d => s.storeLine c line { x with data := x.data ^^^ d }
              | .ce => s.ddrCe c
              | _ => s
        let s := (s.setDdr c { s.ddr c with mig := some (src, k + 1) }).wr (b + R.DDR_MIG_PTR) (BitVec.ofNat 32 ((k + 1) / 1024))
        if n ≤ k + 1 then s.migEnd c src else s

/-- DRAM_MIGRATE_LINE (R339). -/
def execDramMigrateLine (c : Fin 12) (ecc : DramEcc) (s : State) : Host.Outcome State Fault Refusal :=
  .next (migLine c.val ecc s)

/-! ### Key slots (R342-R360) -/

/-- Enable of a slot with `d` data granules (R344), once the DRNG can seed its keys (R342, R447). -/
def State.encEnable (s : State) (n d : Nat) : State :=
  if s.encLegal n d then s.encStart n d else s.encEvt n R.ENC_STAT_REFUSED

/-- A write to ENC_CTRL (R344, R358, R360). -/
def encCtrlWrite (n : Nat) (v : Word) (s : State) : State :=
  let d := natBits v.toNat 11 0
  if natBit v.toNat 31 then
    if s.keyReady then s.encEnable n d
    else { s with dram := { s.dram with wait := s.dram.wait ++ [(n, d)] } }
  else if s.encState n = 0 then s.wf (encBlk n) R.ENC_CTRL_DGRAN d
  else (if s.encRootFull n then s.encEvt n R.ENC_STAT_CTR_EXHAUSTED else s).encOff n

/-- ENC_ENABLE (R344): a write with EN = 1; one with EN = 0 is ENC_DISABLE's. -/
def execEncEnable (r : Req) (n : Fin 65) (v : Word) (s : State) : Host.Outcome State Fault Refusal :=
  .next (s.gated r (encBlk n.val + R.ENC_CTRL) true (encCtrlWrite n.val (v ||| 0x80000000)))

/-- ENC_DISABLE (R358): a write with EN = 0. -/
def execEncDisable (r : Req) (n : Fin 65) (v : Word) (s : State) : Host.Outcome State Fault Refusal :=
  .next (s.gated r (encBlk n.val + R.ENC_CTRL) true (encCtrlWrite n.val (v &&& 0x7FFFFFFF)))

/-- ENC_WRITEBACK (R354). -/
def execEncWriteback (c : Fin 12) (n : Fin 65) (area : Fin 14) (line : Nat) (ecc : List DramEcc) (s : State) :
    Host.Outcome State Fault Refusal :=
  if s.encState n.val = 0 then .next s else .next (s.encEvict c.val n.val area.val line ecc)

end Sys2Proof.Machine
end

