-- ==== Sys2Proof/Machine/Ring.lean ====
section
/-! DEFINITION. Commands on the rings except the arrival of flits: injection, timeouts, credits, the Bell class and the field
ring ports (R147-R167). -/
namespace Sys2Proof.Machine

/-! ### Source stops (R147, R161) -/

/-- Whether a request breaks the forms of R147: reserved OP, bytes past its line, a burst not aligned or to another
region, a Bell packet of more than one flit or of another OP. A write of four lines is a burst. -/
def badForm (q : RingReq) : Bool :=
  let op := q.op.toNat
  let a := q.addr.toNat
  let burst := op == 2 || ((op == 3 || op == 4) && decide (1 < q.data.length))
  let toBurst := match regionOf a with | .dram _ => true | .window _ _ => true | _ => false
  !(op == 1 || op == 2 || op == 3 || op == 4) ||
  (!burst && decide (64 < a % 64 + q.len.toNat + 1)) ||
  (burst && (a % 256 != 0 || !toBurst || (op != 2 && q.data.length != 4))) ||
  (q.cls == 0 && (burst || !(op == 3 || op == 4)))

/-- Ring or lane on which a MID's request to an address starts, for the stop of a DRAM controller (R144). -/
def State.srcRing (s : State) (mid a : Nat) : Nat :=
  match midStop mid 0 with
  | some n => if stopDie n = 0 then s.ringDie a % 2 else stopRing n
  | none => 0

/-- A T die's registers are asked in a class its junction does not carry: JT`k` carries Prompt requests alone (R144). -/
def notPrompt (a cls : Nat) : Bool := match regionOf a with | .regs o => decide (0x5000000 ≤ o) && cls == 2 || decide (0x5000000 ≤ o) && cls == 3 | _ => false

/-- What the source stop finds for a MID's request in a class (R161): the destination, or NOTARGET, a die that cannot be reached included (R558).
DEDUCED: so is a Bulk or Scavenge request to the registers of a T die, which no junction carries (R144, log entry 33). -/
def State.sourceStop (s : State) (mid a cls : Nat) : Option Nat :=
  if natBit s.kelk.unreach (s.ringDie a) || notPrompt a cls then none else s.ringDst a (s.srcRing mid a)

/-- What the source stop of a request finds. -/
def State.sourceDst (s : State) (q : RingReq) : Option Nat := s.sourceStop q.r.mid.toNat q.addr.toNat q.cls.toNat

/-- The flits of a request (R146, R147): MID and SID from the stop's own assignment (R162). -/
def State.reqFlits (s : State) (q : RingReq) (src dst : Nat) : List Flit :=
  let base : Flit :=
    { addr := q.addr.toNat, mid := q.r.mid.toNat, sid := s.midSid q.r.mid.toNat q.r.sid.toNat, cls := q.cls.toNat,
      op := q.op.toNat, tag := q.tag.toNat, dst := dst, src := src, len := if q.op == 2 then 63 else q.len.toNat }
  if q.data.length ≤ 1 then [{ base with data := (q.data.getD 0 0).toNat }]
  else (List.range q.data.length).map (fun i =>
    { base with addr := base.addr + 64 * i, idx := i, last := i + 1 == q.data.length, len := 63,
                data := (q.data.getD i 0).toNat })

/-- A request accepted by its source stop: noted as outstanding where it is answered, and each of its flits waits there for a slot and a credit
(R149-R153). -/
def State.inject (s : State) (q : RingReq) (src dst : Nat) : State :=
  let fs := s.reqFlits q src dst
  let s :=
    if opAnswered q.op.toNat then
      let x := s.stopSt src
      s.setStop src { x with out := x.out ++ [⟨q.r.mid.toNat, s.midSid q.r.mid.toNat q.r.sid.toNat, q.tag.toNat, q.op.toNat,
        q.cls.toNat, q.addr.toNat, q.len.toNat, s.now, []⟩] }
    else s
  fs.foldl (fun s f => s.place src f) s

/-- A request offered at its source stop (R147, R161): refused there, or accepted; a stop in reset takes none (R166). -/
def ringInject (q : RingReq) (s : State) : State :=
  if badForm q then s.refuse q .fault
  else
    match s.sourceDst q with
    | none => s.refuse q .noTarget
    | some dst =>
      match midStop q.r.mid.toNat dst with
      | none => s
      | some src => if s.stopInReset src then s else s.inject q src dst

/-- A stop could put another request of a class on its way at once: none of that class waits there for a slot or a credit. -/
def State.stopReady (s : State) (q : RingReq) : Bool :=
  match s.sourceDst q with
  | none => true
  | some dst =>
    match midStop q.r.mid.toNat dst with
    | none => true
    | some src => !s.stopInReset src && !s.ring.wait.any (fun x => x.cur == src && x.flit.cls == q.cls.toNat && !x.flit.rsp)

/-- RING_REQUEST_INJECT (R161), for the classes Prompt, Bulk and Scavenge; a Bell request follows BELL_REQUEST and is no
case of this command, and changes nothing. -/
def execRingRequestInject (q : RingReq) (s : State) : Host.Outcome State Fault Refusal :=
  if q.cls = 0 then .next s else .next (ringInject q s)

/-- Response timeout of a stop in ns (R149, R168); an agent of a T die has that of its bridge. -/
def State.rspTmo (s : State) (n : Nat) : Nat :=
  match stopRegs n with | some b => 1000 * s.rf b R.RING_RSP_TMO_TMO | none => 0

/-- Stops at which a MID's requests may be outstanding: agents of a T die and DRAM controllers have one on each ring. -/
def midStops (mid : Nat) : List Nat :=
  match midStop mid 0 with
  | none => []
  | some n => if 5 ≤ stopDie n ∨ (0x1E4 ≤ mid ∧ mid < 0x1F0) then [n, n + 64] else [n]

/-- An outstanding request completes POISONED at its stop, JG handing the answer to the guest (R149). DEDUCED: a Bell WRITE that times out no
longer holds back the Bell packet behind it (log entry 10). -/
def State.timeOut (s : State) (n : Nat) (p : Pend) : State :=
  let s :=
    if n = jgStop then
      let x := s.stopSt n
      let q : Flit := { addr := p.addr, mid := p.mid, sid := p.sid, cls := p.cls, op := p.op, tag := p.tag, dst := n, src := n, len := p.len }
      (responses n q 5 []).foldl (fun s f => s.guestResponse f) (s.setStop n { x with out := x.out.erase p })
    else s.complete n p 5 []
  let s := s.stopEvt n R.RING_STAT_TMO (some R.RING_TMO_CNT)
  if p.cls = 0 then s.setStop n { s.stopSt n with bellWait := false } else s

/-- An outstanding request of a MID and tag that has waited RSP_TMO microseconds completes POISONED (R149). -/
def ringTimeout (mid tag : Nat) (s : State) : State :=
  (midStops mid).foldl (fun s n =>
    match (s.stopSt n).out.find? (fun p => p.mid == mid && p.tag == tag && decide (p.time + s.rspTmo n ≤ s.now)) with
    | none => s
    | some p => s.timeOut n p) s

/-- RING_RESPONSE_TIMEOUT (R149). -/
def execRingResponseTimeout (mid : BitVec 12) (tag : BitVec 8) (s : State) : Host.Outcome State Fault Refusal :=
  .next (ringTimeout mid.toNat tag.toNat s)

/-- The point before `n` on the way of a flit from a stop to a destination. -/
def pointBefore (n dst : Nat) : Nat → Nat → Nat
  | 0, c => c
  | k + 1, c => if nextHop c dst = n then c else pointBefore n dst k (nextHop c dst)

/-- Credits of a sender that flits still hold: those on their way to the receiving point, and those in its queues (R150). -/
def State.creditsHeld (s : State) (n receiver cls : Nat) : Nat :=
  let mine (f : Flit) : Bool := !f.rsp && f.cls == cls
  let came (f : Flit) : Bool := mine f && pointBefore receiver f.dst 6 f.src == n
  (s.ring.flight.filter (fun x => x.cur == n && nextHop n x.flit.dst == receiver && mine x.flit)).length +
  (s.ring.wait.filter (fun x => x.cur == receiver && came x.flit)).length +
  ((s.stopSt receiver).inq.filter came).length +
  (match granOfStop receiver with | some g => (((s.grSt g).q.getD 0 [] ++ (s.grSt g).q.getD 5 []).filter (fun q => came q.flit)).length | none => 0) +
  (if receiver = jgStop then (s.guest.toGuest.filter came).length else 0)

/-- Ring directions and lanes onto which flits wait at a stop. -/
def State.waitLinks (s : State) (n : Nat) : List Nat := ((s.ring.wait.filter (fun x => x.cur == n)).map (·.link)).eraseDups

/-- A credit that no flit holds any more returns to its sender on the credit rail, and a flit that waited for it may go (R150). -/
def creditReturn (n receiver cls : Nat) (s : State) : State :=
  let x := s.stopSt n
  let k := receiver * 4 + cls
  if assocGet 0 x.used k ≤ s.creditsHeld n receiver cls then s
  else
    let s := s.setStop n { x with used := assocSet x.used k (assocGet 0 x.used k - 1) }
    (s.waitLinks n).foldl (fun s k => s.ringPump k (linkPos k n)) s

/-- RING_CREDIT_RETURN (R150). -/
def execRingCreditReturn (sender receiver : BitVec 11) (cls : BitVec 2) (s : State) : Host.Outcome State Fault Refusal :=
  .next (creditReturn sender.toNat receiver.toNat cls.toNat s)

/-- An ordinary flit has waited 64 cycles of its stop's clock for injection: 40 ns on a fabric ring, 20 ns on the spine (R154). -/
def State.holdDue (s : State) (n : Nat) : Bool :=
  s.ring.wait.any (fun x => x.cur == n && x.flit.cls != 0 && decide (x.since + (if stopDie n = 0 then 20 else 40) ≤ s.now))

/-- RING_INJECT_HOLD (R154): the stop raises its hold, and the one upstream lets the next empty ordinary slot pass. -/
def execRingInjectHold (stop : BitVec 11) (s : State) : Host.Outcome State Fault Refusal :=
  .next (if s.holdDue stop.toNat then s.setStop stop.toNat { s.stopSt stop.toNat with hold := true } else s)

/-! ### The Bell class (R156, R157) -/

/-- Bell control of a stop: EN and the permitted destination dies; T-die agents have no stop block, and their Bell traffic
is governed at the bridge's. -/
def State.bellAllows (s : State) (src die : Nat) : Bool :=
  match stopRegs src with
  | some b => s.flag b R.RING_BELL_CTRL_EN && natBit (s.rf b R.RING_BELL_CTRL_DEST) die
  | none => false

/-- A Bell request (R147, R156, R157): another OP is answered FAULT; EN and DEST are checked; a full injection queue is not
ready. -/
def bellRequest (q : RingReq) (s : State) : State :=
  let q := { q with cls := 0 }
  if badForm q then s.refuse q .fault
  else
    match s.sourceDst q with
    | none => s.refuse q .noTarget
    | some dst =>
      match midStop q.r.mid.toNat dst with
      | none => s
      | some src =>
        if s.stopInReset src then s
        else if !s.bellAllows src (s.ringDie q.addr.toNat) then
          (s.stopEvt src R.RING_STAT_BELL_DENY (some R.RING_BELL_DENY_CNT)).refuse q .denied
        else
          let x := s.stopSt src
          if x.bellInj.length ≥ 4 then s
          else s.setStop src { x with bellInj := x.bellInj ++ s.reqFlits q src dst }

/-- BELL_REQUEST (R156). -/
def execBellRequest (q : RingReq) (s : State) : Host.Outcome State Fault Refusal := .next (bellRequest q s)

/-- Admission of the oldest waiting Bell packet (R157): 40 ns after the one before it, and 40 ns after the WDONE of a Bell
WRITE. -/
def bellAdmit (n : Nat) (s : State) : State :=
  let x := s.stopSt n
  match x.bellInj with
  | [] => s
  | f :: t =>
    if decide (s.now < x.bellFrom) || x.bellWait then s
    else
      let out := if f.op = 3 then x.out ++ [⟨f.mid, f.sid, f.tag, f.op, 0, f.addr, f.len, s.now, []⟩] else x.out
      (s.setStop n { x with bellInj := t, bellFrom := s.now + 40, bellWait := f.op == 3, out := out }).place n f

/-- BELL_ADMIT (R157). -/
def execBellAdmit (stop : BitVec 11) (s : State) : Host.Outcome State Fault Refusal := .next (bellAdmit stop.toNat s)

/-- Stops whose Bell injection a RING_BELL_CTRL governs: its own, and at a bridge the agents of the T die behind it (R247). -/
def bellStops (n : Nat) : List Nat := if isBridge n then n :: (List.range 40).map (fun i => stopNo (stopDie n + 4) (stopRing n) i) else [n]

/-- Flits waiting for admission at a stop are discarded and counted (R157). -/
def State.bellDiscard (s : State) (b n : Nat) : State :=
  let x := s.stopSt n
  if x.bellInj.isEmpty then s
  else ((s.setStop n { x with bellInj := [] }).cnt (b + R.RING_BELL_DENY_CNT) (x.bellInj.length - 1)).stopEvt n
    R.RING_STAT_BELL_DENY (some R.RING_BELL_DENY_CNT)

/-- A write to RING_BELL_CTRL (R157, R168): DEST bits 5-8 store 0; clearing EN discards the flits waiting for admission,
each counted in RING_BELL_DENY_CNT. -/
def bellCtrl (n b : Nat) (v : Word) (s : State) : State :=
  let s := s.wr (b + R.RING_BELL_CTRL) (v &&& 0x8000021F)
  if natBit v.toNat 31 then s else (bellStops n).foldl (fun s m => s.bellDiscard b m) s

/-- RING_BELL_CTRL_WRITE (R157); a stop number without a stop block decodes to nothing. -/
def execRingBellCtrlWrite (r : Req) (stop : BitVec 11) (v : Word) (s : State) : Host.Outcome State Fault Refusal :=
  match stopRegs stop.toNat with
  | some b =>
    .next (if stopDie stop.toNat ≤ 4 then s.gated r (b + R.RING_BELL_CTRL) true (bellCtrl stop.toNat b v) else s.emit (.rsp r .noTarget []))
  | none => .next (s.emit (.rsp r .noTarget []))

/-! ### Field ring ports (R167) -/

/-- Data lines of beats of 128 bits, four to a line. -/
def beatLines (beats : List (BitVec 128)) : List (BitVec 512) :=
  (List.range ((beats.length + 3) / 4)).map (fun i =>
    BitVec.ofNat 512 ((List.range 4).foldl (fun a j => a + (beats.getD (4 * i + j) 0).toNat * 2 ^ (128 * j)) 0))

/-- An initiator request of a field's design (R167): IQ_READY is low while the image enables no port, the field is in reset
or 16 requests are outstanding. -/
def fieldInitiate (f : Nat) (iq : BitVec 68) (beats : List (BitVec 128)) (s : State) : State :=
  let v := iq.toNat
  let n := fieldStopNo f
  if !s.fieldPort f || !(s.frt f).we || s.fieldInReset f || decide (16 ≤ (s.stopSt n).out.length) then s
  else
    let q : RingReq :=
      { r := ⟨BitVec.ofNat 12 (0x100 + f), BitVec.ofNat 7 (s.fieldOwner f)⟩, op := BitVec.ofNat 4 (natBits v 67 64),
        cls := BitVec.ofNat 2 (natBits v 63 62), len := BitVec.ofNat 6 (natBits v 61 56), tag := BitVec.ofNat 8 (natBits v 55 48),
        addr := BitVec.ofNat 48 v, data := if opIsRead (natBits v 67 64) then [] else beatLines beats }
    if q.cls = 0 then bellRequest q s else ringInject q s

/-- FIELD_RING_INITIATE (R167). -/
def execFieldRingInitiate (f : Fin 128) (iq : BitVec 68) (beats : List (BitVec 128)) (s : State) :
    Host.Outcome State Fault Refusal := .next (fieldInitiate f.val iq beats s)

/-- The design's answer to the first target request still waiting (R167): posted writes ahead of it have been consumed; an
answer whose tag is not that request's answers nothing. DESIGN CHOICE: a TR_CODE of 6 or 7, which are reserved, is passed on as FAULT, so that a
requester meets only the codes of R10 (log entry 33). -/
def fieldRespond (f tag code : Nat) (data : List Nat) (s : State) : State :=
  let n := fieldStopNo f
  let x := s.stopSt n
  if s.fieldInReset f then s
  else
    match x.inq.dropWhile (fun q => !(opAnswered q.op && q.last)) with
    | [] => s
    | q :: t =>
      if q.tag = tag then (s.setStop n { x with inq := t }).respond n q (codeNo (rspOf code)) data else s

/-- FIELD_RING_TARGET_RESPONSE (R167). -/
def execFieldRingTargetResponse (f : Fin 128) (tag : BitVec 8) (code : BitVec 3) (data : List (BitVec 512)) (s : State) :
    Host.Outcome State Fault Refusal := .next (fieldRespond f.val tag.toNat code.toNat (data.map (·.toNat)) s)

end Sys2Proof.Machine
end

