-- ==== Sys2Proof/Machine/Host.lean ====
section
/-! DEFINITION. DMA channels (R375-R382), mailboxes and doorbells (R383-R389) and the end of interrupt of PF0 (R373). -/
namespace Sys2Proof.Machine

/-! ### Doorbells (R387) -/

/-- Unmasked doorbell bits of an endpoint. -/
def State.dbPend (s : State) (e : Nat) : Nat :=
  (s.rd (mbxEp e + R.MBX_DB) &&& ~~~(s.rd (mbxEp e + R.MBX_DBMASK))).toNat

/-- What the unmasked bits that have risen at an endpoint do: PF0 vectors, class MBOX of a site, a doorbell to the guest or a field; the
cores' inputs follow the bits themselves. `c` is the channel. -/
def State.dbRise (s : State) (e old c : Nat) : State :=
  let new := s.dbPend e
  let up := new &&& (old ^^^ 0xFFFFFFFF)
  let s := s.wr (mbxEp e + R.MBX_DBPEND) (BitVec.ofNat 32 new)
  if up = 0 then s
  else if e = 0 then (List.range 32).foldl (fun s v => if natBit up v then s.pf0Raise v else s) s
  else if e ≤ 64 then s.sicRaise (e - 1) 8
  else if e = 67 then s.emit (.mbxBell e 0 (BitVec.ofNat 32 new) c)
  else if e ≥ 68 then s.emit (.mbxBell e (s.rd64 (mbxEp e + R.MBX_FP_ADDR_LO)) (BitVec.ofNat 32 new) c)
  else s

/-- Doorbell bit `b` of endpoint `e` set. -/
def State.doorbell (s : State) (e b c : Nat) : State :=
  let old := s.dbPend e
  (s.wr (mbxEp e + R.MBX_DB) (s.rd (mbxEp e + R.MBX_DB) ||| BitVec.ofNat 32 (2 ^ b))).dbRise e old c

/-! ### Queues (R386) -/

/-- Queues of a channel. -/
def State.mbxQ (s : State) (c : Nat) : MbxQ := tabGet (fun _ => {}) s.host.mbx c

/-- Queues of a channel replaced, with the counts its sides and Commons see (R390). -/
def State.setMbxQ (s : State) (c : Nat) (q : MbxQ) : State :=
  let b := mbxBlk c
  let s := { s with host := { s.host with mbx := tabPut (fun _ => {}) s.host.mbx c q } }
  let s := (s.wf b R.MBX_STAT_A_IN_COUNT q.toA.length).wf b R.MBX_STAT_A_OUT_SPACE (16 - q.toB.length)
  let s := (s.wf b R.MBX_STAT_B_IN_COUNT q.toB.length).wf b R.MBX_STAT_B_OUT_SPACE (16 - q.toA.length)
  let waits := (s.mbxEndA c == 65 && !q.toA.isEmpty) || (s.mbxEndB c == 65 && !q.toB.isEmpty)
  let w := mbxHub + R.MBX_PEND + 4 * (c / 32)
  s.wr w (wordSet (s.rd w) (c % 32) (c % 32) (b2n waits))

/-- Side of a channel a MID is on (R386): A, B, or neither. -/
def State.mbxSide (s : State) (c m : Nat) : Option Bool :=
  if s.mbxAdmits (s.mbxEndA c) m then some false
  else if s.mbxAdmits (s.mbxEndB c) m then some true
  else none

/-- Doorbell of channel `c` at side A or B. -/
def State.chDoorbell (s : State) (c : Nat) (sideB : Bool) : State :=
  if sideB then s.doorbell (s.mbxEndB c) (s.rf (mbxHub + 4 * c) R.MBX_BIND_BIT_B) c
  else s.doorbell (s.mbxEndA c) (s.rf (mbxHub + 4 * c) R.MBX_BIND_BIT_A) c

/-- A word pushed by a side (R386): dropped with TX_OVF into a full queue. -/
def State.mbxPush (s : State) (c : Nat) (sideB : Bool) (v : Word) : State :=
  let q := s.mbxQ c
  let dst := if sideB then q.toA else q.toB
  if dst.length ≥ 16 then s.setF (mbxBlk c) (if sideB then R.MBX_STAT_B_TX_OVF else R.MBX_STAT_A_TX_OVF)
  else (s.setMbxQ c (if sideB then { q with toA := dst ++ [v] } else { q with toB := dst ++ [v] })).chDoorbell c (!sideB)

/-- A word popped by a side (R386): 0 with RX_EMPTY_READ from an empty queue; the other side's doorbell as its outbound queue falls from
16 words. -/
def State.mbxPop (s : State) (c : Nat) (sideB : Bool) : Word × State :=
  let q := s.mbxQ c
  match (if sideB then q.toB else q.toA) with
  | [] => (0, s.setF (mbxBlk c) (if sideB then R.MBX_STAT_B_RX_EMPTY_READ else R.MBX_STAT_A_RX_EMPTY_READ))
  | w :: t =>
    let s := s.setMbxQ c (if sideB then { q with toB := t } else { q with toA := t })
    (w, if t.length = 15 then s.chDoorbell c (!sideB) else s)

/-- An access to a channel's window (R386): DENIED unless one side admits the requester, or where the part answers the host only with its
security and backup blocks (R432), or by the MID windows of HRG (R163); INRESET at a fabric port's channel whose site is in reset (R291, R298). -/
def State.mbxAccess (s : State) (r : Req) (c a : Nat) (write : Bool) (k : Bool → State) : State :=
  if s.deaf then s.answer r a .inReset []
  else if s.recoveryOnly && (isPf r || isDbg r || (decide (0x40 ≤ r.mid.toNat) && decide (r.mid.toNat < 0x80))) then s.answer r a .denied []
  else match s.regDeny r a write with
  | some n => (s.stopEvt n R.RING_STAT_DENY (some R.RING_DENY_CNT)).answer r a .denied []
  | none =>
    match s.mbxSide c r.mid.toNat with
    | none => s.answer r a .denied []
    | some b => if s.siteInReset (s.portChanOwner c) then s.answer r a .inReset [] else k b

/-- MBX_PUSH (R386). -/
def execMbxPush (r : Req) (c : Fin 128) (v : Word) (s : State) : Host.Outcome State Fault Refusal :=
  let a := mbxBlk c.val
  .next (s.mbxAccess r c.val a true (fun b => (s.mbxPush c.val b v).answer r a .ok []))

/-- MBX_POP (R386). -/
def execMbxPop (r : Req) (c : Fin 128) (s : State) : Host.Outcome State Fault Refusal :=
  let a := mbxBlk c.val + 0x40
  .next (s.mbxAccess r c.val a false (fun b => (s.mbxPop c.val b).2.answer r a .ok [(s.mbxPop c.val b).1]))

/-- Every word queued on a channel discarded and counted (R385). -/
def State.mbxDiscard (s : State) (c : Nat) : State :=
  let q := s.mbxQ c
  let n := q.toA.length + q.toB.length
  if n = 0 then s
  else
    let b := mbxBlk c
    let s := (s.cnt (b + R.MBX_DISCARD_CNT_A) n).cnt (b + R.MBX_DISCARD_CNT_B) n
    ((s.setF b R.MBX_STAT_A_DISCARDED).setF b R.MBX_STAT_B_DISCARDED).setMbxQ c {}

/-- A write to MBX_FPBIND of channel 80 + `m` (R385). -/
def fpbindWrite (m : Nat) (v : Word) (s : State) : State :=
  (s.mbxDiscard (80 + m)).wr (mbxHub + R.MBX_FPBIND + 4 * m) (v &&& 0x80000FFF)

/-- MBX_FPBIND_WRITE (R385). -/
def execMbxFpbindWrite (r : Req) (m : Fin 48) (v : Word) (s : State) : Host.Outcome State Fault Refusal :=
  .next (s.gated r (mbxHub + R.MBX_FPBIND + 4 * m.val) true (fpbindWrite m.val v))

/-- MBX_BIND_WRITE (R384): refused once LOCKED. -/
def execMbxBindWrite (r : Req) (c : Fin 128) (v : Word) (s : State) : Host.Outcome State Fault Refusal :=
  .next (s.gated r (mbxHub + 4 * c.val) true (fun s => s.wr (mbxHub + 4 * c.val) (v &&& 0xFFE03FFF)))

/-- MBX_LOCK_SET (R384): W1S. -/
def execMbxLockSet (r : Req) (v : Word) (s : State) : Host.Outcome State Fault Refusal :=
  .next (s.gated r (mbxHub + R.MBX_LOCK) true (fun s => s.setIf (natBit v.toNat 0) mbxHub R.MBX_LOCK_LOCKED))

/-- COMMONS_HB_WRITE (R389): SEQ, and AGE restarts. -/
def hbWrite (v : Word) (s : State) : State :=
  let s := s.wf mbxHub R.COMMONS_HB_SEQ (natBits v.toNat 31 16)
  let s := s.wf mbxHub R.COMMONS_HB_AGE 0
  { s with host := { s.host with hbAt := s.now } }

/-- COMMONS_HB_WRITE (R389). -/
def execCommonsHbWrite (r : Req) (v : Word) (s : State) : Host.Outcome State Fault Refusal :=
  .next (s.gated r (mbxHub + R.COMMONS_HB) true (hbWrite v))

/-! ### PF0 vectors (R373, R595) -/

/-- Condition of a PF0 vector: an unmasked doorbell bit, or an incident valid and not taken. -/
def State.pf0Cond (s : State) (v : Nat) : Bool :=
  if v < 32 then natBit (s.dbPend 0) v
  else if v < 96 then
    s.flag (incBlk (v - 32)) R.INC_STAT_VALID && !s.flag (incBlk (v - 32)) R.INC_STAT_TAKEN
  else false

/-- A write to HOST_EOI: the vector armed again, and issued anew while its condition stands (R301, R373). -/
def hostEoi (v : Nat) (s : State) : State :=
  let a := fnBlk 0 + R.HOST_VSTAT
  if s.vstat a v then
    let s := s.setVstat a v false
    if s.pf0Cond v then s.pf0Raise v else s
  else s

/-- HOST_EOI (R373). -/
def execHostEoi (r : Req) (v : Word) (s : State) : Host.Outcome State Fault Refusal :=
  .next (s.gated r (fnBlk 0 + R.HOST_EOI) true (hostEoi (v.toNat % 256)))

/-! ### DMA channels (R375-R382) -/

/-- Descriptors a channel has fetched. -/
def State.dma (s : State) (ch : Nat) : List DmaDesc := tabGet (fun _ => []) s.host.dma ch
/-- Descriptors replaced. -/
def State.setDma (s : State) (ch : Nat) (l : List DmaDesc) : State :=
  { s with host := { s.host with dma := tabPut (fun _ => []) s.host.dma ch l } }

/-- Slots of a channel's ring. -/
def State.dmaSize (s : State) (ch : Nat) : Nat := 2 ^ s.rf (dmaBlk ch) R.DMA_CTRL_RSIZE
/-- STATE of a channel: 0 IDLE, 1 RUNNING, 2 HALTED, 3 STOPPED. -/
def State.dmaState (s : State) (ch : Nat) : Nat := s.rf (dmaBlk ch) R.DMA_STAT_STATE
/-- STATE replaced. -/
def State.setDmaState (s : State) (ch v : Nat) : State := s.wf (dmaBlk ch) R.DMA_STAT_STATE v
/-- EN of a channel. -/
def State.dmaEn (s : State) (ch : Nat) : Bool := s.flag (dmaBlk ch) R.DMA_CTRL_EN
/-- HEAD and TAIL. -/
def State.dmaHead (s : State) (ch : Nat) : Nat := s.rf (dmaBlk ch) R.DMA_HEAD_HEAD
def State.dmaTail (s : State) (ch : Nat) : Nat := s.rf (dmaBlk ch) R.DMA_TAIL_TAIL

/-- Channel's MID and SID (R375). -/
def dmaReq (ch : Nat) : Req :=
  if ch < 16 then ⟨BitVec.ofNat 12 (0x10 + ch), 0x7F⟩ else ⟨BitVec.ofNat 12 (0x80 + (ch - 16)), BitVec.ofNat 7 (ch - 16)⟩

/-- A descriptor has started; it is complete. -/
def dmaStarted (d : DmaDesc) : Bool := decide (0 < d.next) || d.fail.isSome
def dmaComplete (d : DmaDesc) : Bool := d.out.isEmpty && (decide (d.len ≤ d.next) || d.fail.isSome)

/-- Doorbell of a channel at its function's endpoint (R380). -/
def State.dmaBell (s : State) (ch : Nat) : State :=
  if ch < 16 then s.doorbell 0 (16 + ch) 0 else s.doorbell (ch - 16 + 1) 31 0

/-- A channel with work runs, one without is idle. -/
def State.dmaRun (s : State) (ch : Nat) : State :=
  if s.dmaHead ch = s.dmaTail ch && (s.dma ch).isEmpty then s.setDmaState ch 0 else s.setDmaState ch 1

/-- A channel whose EN is clear enters STOPPED once nothing is outstanding and its oldest descriptor is not complete (R381). -/
def State.dmaSettle (s : State) (ch : Nat) : State :=
  let l := s.dma ch
  if s.dmaEn ch || l.any (fun d => !d.out.isEmpty) || (match l with | d :: _ => dmaComplete d | [] => false) then s
  else (s.setDma ch []).setDmaState ch 3

/-- A write to DMA_CTRL (R379, R381): RSIZE only while EN is 0; EN cleared or set; RESUME of a halted channel. -/
def dmaCtrlWrite (ch : Nat) (v : Word) (s : State) : State :=
  let b := dmaBlk ch
  let en := s.dmaEn ch
  let sz := v.toNat % 32
  let s := if en then s else s.wf b R.DMA_CTRL_RSIZE (if 4 ≤ sz ∧ sz ≤ 16 then sz else 4)
  if natBit v.toNat 31 then
    if !en then ((s.setF b R.DMA_CTRL_EN).setDma ch []).dmaRun ch
    else if natBit v.toNat 30 && s.dmaState ch == 2 then s.dmaRun ch
    else s
  else if en then ((s.clrF b R.DMA_CTRL_EN).setDma ch ((s.dma ch).filter dmaStarted)).dmaSettle ch
  else s

/-- A write to DMA_TAIL (R376). -/
def dmaTailWrite (ch : Nat) (v : Word) (s : State) : State :=
  let b := dmaBlk ch
  if s.dmaSize ch ≤ v.toNat % 2 ^ 16 then s.setF b R.DMA_STAT_TAIL_REFUSED
  else
    let s := s.wf b R.DMA_TAIL_TAIL v.toNat
    if s.dmaEn ch && s.dmaState ch ≤ 1 then s.dmaRun ch else s

/-- A write to DMA_RING_LO (R381). -/
def dmaRingWrite (ch : Nat) (v : Word) (s : State) : State :=
  let b := dmaBlk ch
  if s.dmaEn ch then s
  else ((s.wr (b + R.DMA_RING_LO) (v &&& 0xFFFFF000)).wr (b + R.DMA_HEAD) 0).wr (b + R.DMA_TAIL) 0

/-- DMA_TAIL_WRITE (R376). -/
def execDmaTailWrite (r : Req) (ch : Fin 80) (v : Word) (s : State) : Host.Outcome State Fault Refusal :=
  .next (s.gated r (dmaBlk ch.val + R.DMA_TAIL) true (dmaTailWrite ch.val v))

/-- DMA_RESUME (R379). -/
def execDmaResume (r : Req) (ch : Fin 80) (v : Word) (s : State) : Host.Outcome State Fault Refusal :=
  .next (s.gated r (dmaBlk ch.val + R.DMA_CTRL) true (dmaCtrlWrite ch.val (v ||| 0xC0000000)))

/-- DMA_EN_CLEAR (R381). -/
def execDmaEnClear (r : Req) (ch : Fin 80) (v : Word) (s : State) : Host.Outcome State Fault Refusal :=
  .next (s.gated r (dmaBlk ch.val + R.DMA_CTRL) true (dmaCtrlWrite ch.val (v &&& 0x7FFFFFFF)))

/-- DMA_EN_SET (R381). -/
def execDmaEnSet (r : Req) (ch : Fin 80) (v : Word) (s : State) : Host.Outcome State Fault Refusal :=
  .next (s.gated r (dmaBlk ch.val + R.DMA_CTRL) true (dmaCtrlWrite ch.val (v ||| 0x80000000)))

/-- DMA_RING_WRITE (R381). -/
def execDmaRingWrite (r : Req) (ch : Fin 80) (v : Word) (s : State) : Host.Outcome State Fault Refusal :=
  .next (s.gated r (dmaBlk ch.val + R.DMA_RING_LO) true (dmaRingWrite ch.val v))

/-- A descriptor as fetched (R377): one that breaks the rules, or whose host read failed, has failed at offset 0. -/
def dmaDecode (slot d : Nat) (err : Bool) : DmaDesc :=
  let dev := natBits d 127 64
  let len := natBits d 152 128
  let cls := natBits d 164 163
  let bad := len = 0 || decide (2 ^ 24 < len) || cls = 0 || dev / 2 ^ 48 != 0 || decide (2 ^ 48 < dev + len) || natBits d 159 153 != 0 ||
    natBits d 167 165 != 0 || natBits d 191 168 != 0
  ⟨slot, natBits d 63 0, dev, len, natBits d 162 160, cls, 0, [],
    if err then some (0, 5, true) else if bad then some (0, 1, false) else none⟩

/-- The next slot fetched (R378): up to 8 ahead while the channel runs. -/
def dmaFetch (ch d : Nat) (err : Bool) (s : State) : State :=
  let l := s.dma ch
  let slot := (s.dmaHead ch + l.length) % s.dmaSize ch
  let waiting := (s.dmaTail ch + s.dmaSize ch - s.dmaHead ch) % s.dmaSize ch
  if s.dmaState ch = 1 ∧ s.dmaEn ch ∧ l.length < 8 ∧ l.length < waiting then s.setDma ch (l ++ [dmaDecode slot d err]) else s

/-- DMA_DESC_FETCH (R378). -/
def execDmaDescFetch (ch : Fin 80) (d : BitVec 256) (err : Bool) (s : State) : Host.Outcome State Fault Refusal :=
  .next (dmaFetch ch.val d.toNat err s)

/-- Length of the piece at offset `o` of a descriptor (R366): an aligned burst to DRAM or a field window, else within a line. -/
def dmaPieceLen (d : DmaDesc) (o : Nat) : Nat :=
  let a := d.dev + o
  let left := d.len - o
  let burst := match regionOf a with | .dram _ => true | .window _ _ => true | _ => false
  if burst && a % 256 == 0 && decide (256 ≤ left) then 256 else min (64 - a % 64) left

/-- Index of the descriptor that issues next: every earlier one has issued its last piece, and one with FENCE is the oldest (R377,
R378). -/
def dmaNext : List DmaDesc → Bool → Option Nat
  | [], _ => none
  | d :: t, first =>
    if d.fail.isSome then (dmaNext t false).map (· + 1)
    else if d.next < d.len then if natBit d.flags 2 && !first then none else some 0
    else (dmaNext t false).map (· + 1)

/-- A ring piece issued (R378), its write data read from the host. -/
def dmaIssue (ch : Nat) (data : List (BitVec 512)) (s : State) : State :=
  let l := s.dma ch
  if !(s.dmaState ch == 1 || s.dmaState ch == 2) || (l.map (·.out.length)).sum ≥ 64 then s
  else
    match dmaNext l true with
    | none => s
    | some i =>
      match l[i]? with
      | none => s
      | some d =>
        if (s.dmaState ch ≠ 1 ∨ s.dmaEn ch = false) ∧ dmaStarted d = false then s
        else
          let n := dmaPieceLen d d.next
          let s := s.setDma ch (l.set i { d with next := d.next + n, out := d.out ++ [(d.next, n)] })
          let read := natBit d.flags 0
          ringInject { r := dmaReq ch, op := if read then (if n = 256 then 2 else 1) else 3, cls := BitVec.ofNat 2 d.cls,
                       len := BitVec.ofNat 6 (n - 1), tag := BitVec.ofNat 8 (d.next / 64), addr := BitVec.ofNat 48 (d.dev + d.next),
                       data := if read then [] else data.take (if n = 256 then 4 else 1) } s

/-- DMA_PIECE_ISSUE (R378). -/
def execDmaPieceIssue (ch : Fin 80) (data : List (BitVec 512)) (s : State) : Host.Outcome State Fault Refusal :=
  .next (dmaIssue ch.val data s)

/-- A failing piece against the one recorded: the lower offset stands (R379). -/
def dmaWorst (f : Option (Nat × Nat × Bool)) (o code : Nat) (he : Bool) : Option (Nat × Nat × Bool) :=
  match f with
  | some (p, c, h) => if p ≤ o then some (p, c, h) else some (o, code, he)
  | none => some (o, code, he)

/-- A piece returns (R378, R379): data of a read goes to the host, which does not take it while the link is down (R371). -/
def dmaPieceDone (ch slot o : Nat) (code : Rsp) (he : Bool) (data : List (BitVec 512)) (s : State) : State :=
  let l := s.dma ch
  match l.findIdx? (fun d => d.slot == slot && d.out.any (fun p => p.1 == o)) with
  | none => s
  | some i =>
    match l[i]? with
    | none => s
    | some d =>
      let n := ((d.out.find? (fun p => p.1 == o)).map (·.2)).getD 0
      let toHost := natBit d.flags 0 && code == .ok
      let he := he || (toHost && !s.pcie.linkUp)
      let s := if toHost && !he then s.emit (.hostWrite ch (d.host + o) n (data.map (·.toNat))) else s
      let k := if code ≠ .ok then codeNo code else if he then 5 else 0
      let d := { d with out := d.out.filter (fun p => p.1 != o), fail := if k = 0 then d.fail else dmaWorst d.fail o k he }
      (s.setDma ch (l.set i d)).dmaSettle ch

/-- DMA_PIECE_COMPLETE (R378). -/
def execDmaPieceComplete (ch : Fin 80) (slot : BitVec 16) (ofs : BitVec 25) (code : Rsp) (hostErr : Bool) (data : List (BitVec 512))
    (s : State) : Host.Outcome State Fault Refusal :=
  .next (dmaPieceDone ch.val slot.toNat ofs.toNat code hostErr data s)

/-- Entry into HALTED for a descriptor (R379, R380). -/
def State.dmaHalt (s : State) (ch slot code : Nat) : State :=
  let b := dmaBlk ch
  if s.dmaState ch = 2 then s
  else
    let s := ((s.setF b R.DMA_STAT_ERR).wf b R.DMA_STAT_CODE code).wf b R.DMA_ERR_DESC_DESC slot
    let s := (s.setDmaState ch 2).setDma ch ((s.dma ch).filter dmaStarted)
    s.dmaBell ch

/-- Write-back of the oldest descriptor once it is complete (R378-R380). -/
def dmaWriteback (ch : Nat) (s : State) : State :=
  match s.dma ch with
  | [] => s
  | d :: t =>
    if !dmaComplete d then s
    else
      let b := dmaBlk ch
      let (bytes, code, he) := match d.fail with | some (o, c, h) => (o, c, h) | none => (d.len, 0, false)
      let st := 2 ^ 31 + code * 2 ^ 28 + b2n he * 2 ^ 27 + bytes % 2 ^ 25
      let addr := s.rd64 (b + R.DMA_RING_LO) / 4096 * 4096 + 32 * d.slot + 28
      let s := if s.pcie.linkUp then s.emit (.hostWrite ch addr 4 [st]) else s
      let s := (s.setDma ch t).wf b R.DMA_HEAD_HEAD ((d.slot + 1) % s.dmaSize ch)
      let s := (s.setF b R.DMA_STAT_DONE).setIf he b R.DMA_STAT_HOST_ERR
      let s := if code = 0 then s.cnt64 (b + R.DMA_BYTES_LO) d.len else s
      let s := if natBit d.flags 1 then s.dmaBell ch else s
      let s := if code = 0 then s else s.dmaHalt ch d.slot code
      let s := if s.dmaEn ch && s.dmaState ch == 1 then s.dmaRun ch else s
      s.dmaSettle ch

/-- DMA_WRITEBACK (R379). -/
def execDmaWriteback (ch : Fin 80) (s : State) : Host.Outcome State Fault Refusal := .next (dmaWriteback ch.val s)

/-- A channel stopped by a reset (R303 step 2, R371, R381): STOPPED with EN 0, nothing in flight. -/
def State.dmaStop (s : State) (ch : Nat) : State :=
  ((s.clrF (dmaBlk ch) R.DMA_CTRL_EN).setDma ch []).setDmaState ch 3

end Sys2Proof.Machine
end

