-- ==== Sys2Proof/Machine/Fcu.lean ====
section
/-! DEFINITION. Commands of the fail capture units (R231-R246, R264, R265). -/
namespace Sys2Proof.Machine

/-- FAIL_ENTRY_APPLY (R237, R243): the oldest entry of a link, unless a full lossless queue holds the link back. `ue` says that
its code is uncorrectable, `mue` that it is at the port toward the Mill (R23). -/
def execFailEntryApply (l : Fin 512) (ue mue : Bool) (s : State) : Host.Outcome State Fault Refusal :=
  let x := s.lk l
  match x.failq with
  | [] => .next s
  | e :: t => if s.linkHeldBack l then .next s else .next ((s.setLk l { x with failq := t }).applyEntry l e ue mue)

/-- 512-bit lines of a list of 16-byte entries, four to a line. -/
def entryLines (raws : List Nat) : List (BitVec 512) :=
  (List.range ((raws.length + 3) / 4)).map (fun i =>
    BitVec.ofNat 512 ((List.range 4).foldl (fun a j => a + raws.getD (4 * i + j) 0 * 2 ^ (128 * j)) 0))

/-- A request of an FCU's forwarding agent for a link, with the SID of the link's owner (R246, R247). -/
def State.fcuReq (s : State) (l op addr n : Nat) (data : List (BitVec 512)) : RingReq :=
  { r := ⟨BitVec.ofNat 12 (0x1C0 + fcuOf l), BitVec.ofNat 7 (s.linkOwner l)⟩, op := BitVec.ofNat 4 op, cls := 2,
    len := BitVec.ofNat 6 (n - 1), tag := BitVec.ofNat 8 l, addr := BitVec.ofNat 48 addr, data := data }

/-- Address held by a LO/HI pair of a link's LR block. -/
def State.lrAddr (s : State) (l lo : Nat) : Nat := s.rd64 (lrBlk l + lo) % 2 ^ 48

/-- Entries that pass their code at a forwarding port, bit `i` of `ue` saying that the `i`-th does not; the others are discarded (R23). -/
def State.codePass (s : State) (l ue : Nat) (raws : List Nat) : List Nat × State :=
  raws.zipIdx.foldl (fun (p : List Nat × State) e => if natBit ue e.2 then (p.1, p.2.eccDrop l e.1) else (p.1 ++ [e.1], p.2)) ([], s)

/-- One Bulk WRITE of up to four log entries of a link, in one line, when its stop can take one (R19, R244). -/
def logWrite (l ue : Nat) (s : State) : State :=
  let n := fcuOf l
  let x := s.fcu n
  let mine := x.logq.filter (fun e => e.link == l % 16)
  if mine.isEmpty then s
  else
    let inFly := (x.fly.filter (fun e => e.link == l % 16 && e.live)).foldl (fun a e => a + e.n) 0
    let idx := ((s.rd (lrBlk l + R.LR_LOG_WPTR)).toNat + inFly) % s.logCap l
    let k := min mine.length (4 - idx % 4)
    let take := mine.take k
    if !s.stopReady (s.fcuReq l 3 (s.lrAddr l R.LR_LOG_BASE_LO + 16 * idx) 16 []) then s
    else
      let (raws, s) := (s.setFcu n { x with logq := x.logq.filter (fun e => e.link != l % 16) ++ mine.drop k }).codePass l ue (take.map (·.raw))
      if raws.isEmpty then s
      else
        let s := s.setFcu n { s.fcu n with fly := (s.fcu n).fly ++ [⟨l % 16, raws.length, true⟩] }
        ringInject (s.fcuReq l 3 (s.lrAddr l R.LR_LOG_BASE_LO + 16 * idx) (16 * raws.length) (entryLines raws)) s

/-- FAIL_LOG_WRITE (R244). -/
def execFailLogWrite (l : Fin 512) (ue : BitVec 4) (s : State) : Host.Outcome State Fault Refusal := .next (logWrite l ue.toNat s)

/-- FAIL_LOG_WRITE_DONE (R244): the oldest log write of a link returns. -/
def execFailLogWriteDone (l : Fin 512) (code : Rsp) (s : State) : Host.Outcome State Fault Refusal :=
  let n := fcuOf l
  let x := s.fcu n
  match x.fly.find? (fun e => e.link == l.val % 16) with
  | none => .next s
  | some e =>
    let s := s.setFcu n { x with fly := x.fly.erase e }
    if code = .ok then
      .next (if e.live then s.wr (lrBlk l + R.LR_LOG_WPTR) (s.rd (lrBlk l + R.LR_LOG_WPTR) + BitVec.ofNat 32 e.n) else s)
    else .next ((s.logDrop l e.n).setF (lrBlk l) R.LR_STAT_LOG_ERR)

/-- 1-4 entries of a link over the ring as one Bulk WRITE_P, when its stop can take one: entries wait in their queue, and none is lost
(R19, R243, R246). -/
def fabForward (l ue : Nat) (s : State) : State :=
  let x := s.lk l
  let es := x.fabq.take 4
  if es.isEmpty || !s.lrOn l R.LR_CTRL_FAB_EN || !s.lrOn l R.LR_CTRL_FAB_PATH ||
      !s.stopReady (s.fcuReq l 4 (s.lrAddr l R.LR_FAB_ADDR_LO) 16 []) then s
  else
    let (raws, s) := (s.setLk l { x with fabq := x.fabq.drop 4 }).codePass l ue (es.map (·.raw))
    if raws.isEmpty then s
    else ringInject (s.fcuReq l 4 (s.lrAddr l R.LR_FAB_ADDR_LO) (16 * raws.length) (entryLines raws)) s

/-- FCU_FAB_FORWARD (R246). -/
def execFcuFabForward (l : Fin 512) (ue : BitVec 4) (s : State) : Host.Outcome State Fault Refusal := .next (fabForward l ue.toNat s)

/-- A write to FCU_CLR: with GO, a clear that none under way ignores (R241, R264). -/
def fcuClr (n : Nat) (v : Word) (s : State) : State :=
  let b := fcuBlk n
  let first := natBits v.toNat 8 0
  let last := natBits v.toNat 24 16
  if !natBit v.toNat 31 || s.flag b R.FCU_STAT_CLR_BUSY then s
  else if last < first then s.setF b R.FCU_STAT_CLR_DONE
  else (s.setFcu n { s.fcu n with clr := some (first, last, first, s.now) }).setF b R.FCU_STAT_CLR_BUSY

/-- FCU_CLR (R241): a write with GO = 1. -/
def execFcuClr (r : Req) (n : Fin 32) (v : Word) (s : State) : Host.Outcome State Fault Refusal :=
  .next (s.gated r (fcuBlk n + R.FCU_CLR) true (fcuClr n v))

/-- FCU_CLR_DONE (R241). -/
def execFcuClrDone (n : Fin 32) (s : State) : Host.Outcome State Fault Refusal :=
  let x := s.fcu n
  match x.clr with
  | none => .next s
  | some (_, last, next, _) =>
    let s := (List.range (last + 1 - next)).foldl (fun s i => s.clearGran n (next + i)) s
    .next (((s.setFcu n { x with clr := none }).clrF (fcuBlk n) R.FCU_STAT_CLR_BUSY).setF (fcuBlk n) R.FCU_STAT_CLR_DONE)

/-- A write to FCU_GRAN (R232). -/
def fcuGranWrite (n g : Nat) (v : Word) (s : State) : State :=
  let a := granReg n g
  let old := (s.rd a).toNat
  let site := v.toNat % 128
  if natBit old 7 then (if site = old % 128 then s else s.setF (fcuBlk n) R.FCU_STAT_GRAN_REFUSED)
  else s.wr a (BitVec.ofNat 32 (natSet old 6 0 site))

/-- FCU_GRAN_WRITE (R232, R39). -/
def execFcuGranWrite (r : Req) (n : Fin 32) (g : Fin 512) (v : Word) (s : State) : Host.Outcome State Fault Refusal :=
  .next (s.gatedIf r (granReg n g) (siteCodeOk (v.toNat % 128)) (fcuGranWrite n g v))

/-- Address of a record in its FCU's window (R264). -/
def recAddr (n rn : Nat) : Nat := dieT (n / 8) + 0x800000 + (n % 8) * 0x80000 + 16 * rn

/-- Who may reach a record (R264): management, and the site whose granule holds it, past the MID windows of JT`k` (R163). -/
def State.recGate (s : State) (r : Req) (n rn : Nat) (write : Bool) : Rsp :=
  let d := 5 + n / 8
  if s.recoveryOnly && (isPf r || isDbg r || (decide (0x40 ≤ r.mid.toNat) && decide (r.mid.toNat < 0x80))) then .denied
  else if natBit s.kelk.unreach d then .noTarget
  else if s.dieDown d then .inReset
  else if (s.regDeny r (recAddr n rn) write).isSome then .denied
  else if isMgmt r || s.rf (granReg n (rn / 64)) ⟨0, 6, 0⟩ == r.sid.toNat then .ok else .denied

/-- FCU_RECORD_READ (R240): word 0, which fills the window latch of the requester. -/
def execFcuRecordRead (r : Req) (n : Fin 32) (rn : Fin 32768) (s : State) : Host.Outcome State Fault Refusal :=
  if s.deaf then .next (s.answer r (recAddr n rn) .inReset [])
  else match s.recGate r n rn false with
  | .ok =>
    let s := s.clrTo n
    let v := s.recView n rn
    let x := s.fcu n
    let s := s.setFcu n { x with latch := tabPut (fun _ => []) x.latch (latchSlot r) (v.drop 1) }
    .next (s.answer r (recAddr n rn) .ok [v.getD 0 0])
  | .denied => .next ((s.regDenied r (recAddr n rn) false).answer r (recAddr n rn) .denied [])
  | c => .next (s.answer r (recAddr n rn) c [])

/-- A write to word 1 of a record: INC_TALLY and INC_FWD (R241). -/
def recWrite (n rn : Nat) (v : Word) (s : State) : State :=
  let s := s.clrTo n
  let k := 32768 * n + rn
  let (a, b) := s.recCells k
  s.setRec k (natSet a.toNat 36 35 (natBits v.toNat 13 12)) b.toNat

/-- FCU_RECORD_WRITE (R241). -/
def execFcuRecordWrite (r : Req) (n : Fin 32) (rn : Fin 32768) (v : Word) (s : State) : Host.Outcome State Fault Refusal :=
  if s.deaf then .next (s.answer r (recAddr n rn + 4) .inReset [])
  else match s.recGate r n rn true with
  | .ok => .next ((recWrite n rn v s).answer r (recAddr n rn + 4) .ok [])
  | .denied => .next ((s.regDenied r (recAddr n rn) true).answer r (recAddr n rn + 4) .denied [])
  | c => .next (s.answer r (recAddr n rn + 4) c [])

/-- What LR_CTRL stores (R265): LOG_MODE 3 as 0. -/
def lrCtrlStore (v : Word) : Word :=
  let w := v &&& 0xFFFF000F#32
  if natBits v.toNat 28 27 = 3 then w &&& 0xE7FFFFFF#32 else w

/-- A write to LR_CTRL (R246): FAB_EN = 0 discards the link's fabric queue; a link that stops contributing may complete its
group's step. -/
def lrCtrlWrite (l : Nat) (v : Word) (s : State) : State :=
  let s := s.wr (lrBlk l + R.LR_CTRL) (lrCtrlStore v)
  let x := s.lk l
  let s :=
    if natBit v.toNat 31 || x.fabq.isEmpty then s
    else (s.setLk l { x with fabq := [] }).fcuCnt l R.FCU_FAB_DROP_CNT x.fabq.length
  if s.linkOwner l < 64 then s.tallyCheck (s.linkOwner l) else s

/-- LR_CTRL_WRITE (R246). -/
def execLrCtrlWrite (r : Req) (l : Fin 512) (v : Word) (s : State) : Host.Outcome State Fault Refusal :=
  .next (s.gated r (lrBlk l + R.LR_CTRL) true (lrCtrlWrite l v))

/-- What LR_CFG stores (R265): TX_POLL 0 as 1, LOG_SIZE outside 16-35 as 16. -/
def lrCfgStore (v : Word) : Word :=
  let w := v.toNat
  let z := natBits w 5 0
  BitVec.ofNat 32 (max 1 (natBits w 31 16) * 2 ^ 16 + (if 16 ≤ z ∧ z ≤ 35 then z else 16))

/-- A write to LR_CFG or LR_LOG_BASE (R244, R265): the ring restarts at LR_LOG_RPTR; entries queued and not issued are
dropped; writes issued move no pointer on their return. -/
def lrLogWrite (l a : Nat) (w : Word) (s : State) : State :=
  let n := fcuOf l
  let x := s.fcu n
  let mine := (x.logq.filter (fun e => e.link == l % 16)).length
  let s := s.wr a w
  let s := s.setFcu n { x with
    logq := x.logq.filter (fun e => e.link != l % 16),
    fly := x.fly.map (fun e => if e.link = l % 16 then { e with live := false } else e) }
  (s.wr (lrBlk l + R.LR_LOG_WPTR) (s.rd (lrBlk l + R.LR_LOG_RPTR))).logDrop l mine

/-- The three registers of LR_LOG_CONFIG_WRITE: LR_CFG, LR_LOG_BASE_LO, LR_LOG_BASE_HI, with what each stores. -/
def lrLogReg (w : Nat) (v : Word) : Nat × Word :=
  if w = 0 then (R.LR_CFG, lrCfgStore v) else if w = 1 then (R.LR_LOG_BASE_LO, v) else (R.LR_LOG_BASE_HI, v &&& 0xFFFF#32)

/-- LR_LOG_CONFIG_WRITE (R244). -/
def execLrLogConfigWrite (r : Req) (l : Fin 512) (w : Fin 3) (v : Word) (s : State) : Host.Outcome State Fault Refusal :=
  let a := lrBlk l + (lrLogReg w.val v).1
  .next (s.gated r a true (lrLogWrite l a (lrLogReg w.val v).2))

end Sys2Proof.Machine
end

