-- ==== Sys2Proof/Machine/Tally.lean ====
section
/-! DEFINITION. Commands of the tally tree (R257-R261, R266). -/
namespace Sys2Proof.Machine

/-- MATCH_REPORT_APPLY (R257): the oldest report of a link reaches its FCU. -/
def execMatchReportApply (l : Fin 512) (s : State) : Host.Outcome State Fault Refusal :=
  let x := s.lk l
  match x.mq with
  | [] => .next s
  | p :: t => .next ((s.setLk l { x with mq := t }).matchReport l p)

/-- TALLY_STEP_TIMEOUT (R259). -/
def execTallyStepTimeout (g : Fin 64) (s : State) : Host.Outcome State Fault Refusal :=
  .next (if (s.tally g).isOpen then s.tallyClose g true else s)

/-- A result reaches the link layers of its group and the fabric (R260, R261). -/
def tallyBroadcast (g : Nat) (s : State) : State :=
  let x := s.tally g
  match x.res with
  | [] => s
  | r :: t =>
    let b := tallyBlk g
    let s := s.setTally g { x with res := t }
    let send := !r.tmo && !r.links.isEmpty
    let s := if r.tmo then s else
      r.links.foldl (fun s l => if natBit (s.lk l).caps 1 then s.bellQueue l (matchResult g r) else s) s
    let s := if send then s.wf b R.TALLY_LAT_NS (min 65535 (s.now - r.upd)) else s
    if !s.flag b R.TALLY_CTRL_FAB_EN then s
    else if s.flag b R.TALLY_CTRL_FAB_PATH then
      match r.die with
      | none => s
      | some k => bellRequest { r := ⟨BitVec.ofNat 12 (0x1C0 + 8 * k), BitVec.ofNat 7 g⟩, op := 4, cls := 0, len := 7, tag := 0,
                                addr := BitVec.ofNat 48 (s.rd64 (b + R.TALLY_FAB_ADDR_LO)),
                                data := [BitVec.ofNat 512 (tallyBeat g r)] } s
    else
      match r.port with
      | none => s
      | some l => let y := s.lk l; s.setLk l { y with tallyq := y.tallyq ++ [tallyBeat g r] }

/-- TALLY_RESULT_BROADCAST (R261). -/
def execTallyResultBroadcast (g : Fin 64) (s : State) : Host.Outcome State Fault Refusal := .next (tallyBroadcast g s)

/-- What TALLY_CTRL stores (R266): TMO 0 as 1. -/
def tallyCtrlStore (v : Word) : Word :=
  BitVec.ofNat 32 (natBits v.toNat 31 29 * 2 ^ 29 + max 1 (natBits v.toNat 15 0))

/-- A write to TALLY_CTRL (R266). -/
def tallyCtrlWrite (g : Nat) (v : Word) (s : State) : State :=
  let s := s.wr (tallyBlk g + R.TALLY_CTRL) (tallyCtrlStore v)
  if natBit v.toNat 31 then s else s.tallyAbandon g

/-- TALLY_CTRL_WRITE (R266). -/
def execTallyCtrlWrite (r : Req) (g : Fin 64) (v : Word) (s : State) : Host.Outcome State Fault Refusal :=
  .next (s.gated r (tallyBlk g + R.TALLY_CTRL) true (tallyCtrlWrite g v))

end Sys2Proof.Machine
end

