-- ==== Sys2Proof/Machine/LinkPath.lean ====
section
/-! DEFINITION. Link data paths: direct link ports and ring paths of DATA frames (R247-R255). -/
namespace Sys2Proof.Machine

/-- The link bound to a port of a column-0 field. -/
def State.linkAtPort (s : State) (f p : Nat) : Option Nat :=
  (List.range 128).find? (fun i =>
    let l := 128 * (f / 32) + i
    s.lrOn l R.LR_CTRL_PORT_EN && s.portField l == f && s.lrF l R.LR_CTRL_PORT == p) |>.map (128 * (f / 32) + ·)

/-- DATA frames the transmit buffer holds (R251). -/
def State.txHeld (s : State) (l : Nat) : Nat := ((s.lk l).waitq.filter (fun f => f.ty == 3)).length

/-- A transmitted frame is malformed (R253, R254). -/
def State.txErr (s : State) (l : Nat) : State := (s.cnt (lrBlk l + R.LR_TX_ERR_CNT) 1).setF (lrBlk l) R.LR_STAT_TX_ERR

/-- A DATA frame offered whole (R254): USER, LEN, AT with APPLY, payload bytes; sent, or refused for AT. -/
def State.offerData (s : State) (l user : Nat) (apply : Option Nat) (payload : List Byte) : State :=
  let x := s.lk l
  if apply.isSome && !natBit x.caps 0 then s.atDrop l
  else s.setLk l { x with waitq := x.waitq ++ [⟨3, apply, 0, user, payload⟩] }

/-- The beats of a frame from the port, all arrived (R251, R254). -/
def State.portFrame (s : State) (l : Nat) (beats : List DWord) : State :=
  let d := (beats.getD 0 0).toNat
  let len := natBits d 24 16
  let at_ := natBit d 25
  let n := 1 + b2n at_ + (len + 7) / 8
  if 256 < len || beats.length ≠ n then s.txErr l
  else
    let pay := ((beats.drop (1 + b2n at_)).flatMap (fun w => toBytes 8 w.toNat)).take len
    s.offerData l (natBits d 15 0) (if at_ then some (beats.getD 1 0).toNat else none) pay

/-- A beat at a direct link port (R251): not accepted while no link is bound, the link's DATA_PATH is 1, or the buffer holds
4 frames. Raw-lane modes are RAW_WORD_TX's. -/
def dlpBeat (f p : Nat) (d : DWord) (last : Bool) (s : State) : State :=
  match s.linkAtPort f p with
  | none => s
  | some l =>
    let x := s.lk l
    if s.laneMode l = 1 || s.laneMode l = 2 || s.lrOn l R.LR_CTRL_DATA_PATH || s.fieldInReset f || !(s.frt f).we then s
    else if x.dlpTx.isEmpty && 4 ≤ s.txHeld l then s
    else
      let beats := x.dlpTx ++ [d]
      if last then (s.setLk l { x with dlpTx := [] }).portFrame l beats
      else s.setLk l { x with dlpTx := beats }

/-- DLP_TX_BEAT (R251). -/
def execDlpTxBeat (f : Fin 128) (port : Fin 32) (d : DWord) (last : Bool) (s : State) : Host.Outcome State Fault Refusal :=
  .next (dlpBeat f port d last s)

/-- Beats of a DATA frame on a port or in the lines of the ring path: descriptor, then payload padded with zeros (R251). -/
def dataBeats (f : LFrame) : List DWord :=
  let n := f.payload.length
  BitVec.ofNat 64 (f.tspec % 65536 + n * 65536) ::
    (List.range ((n + 7) / 8)).map (fun i => BitVec.ofNat 64 (leBytes ((f.payload.drop (8 * i)).take 8)))

/-- The next packet of a port, TALLY before FAIL before DATA (R251), and the state without it. -/
def State.portPacket (s : State) (l : Nat) : Option (DlpPkt × State) :=
  let x := s.lk l
  match x.tallyq with
  | b :: t => some (⟨2, [BitVec.ofNat 64 b], false⟩, s.setLk l { x with tallyq := t })
  | [] =>
    match (if s.lrOn l R.LR_CTRL_FAB_EN && !s.lrOn l R.LR_CTRL_FAB_PATH then x.fabq else []) with
    | e :: _ => some (⟨1, [BitVec.ofNat 64 e.raw, BitVec.ofNat 64 (e.raw / 2 ^ 64)], false⟩, s.setLk l { x with fabq := x.fabq.drop 1 })
    | [] =>
      match (if s.lrOn l R.LR_CTRL_DATA_PATH then [] else x.rel) with
      | h :: _ => some (⟨0, dataBeats h.f, h.cred⟩, s.setLk l { x with rel := x.rel.drop 1 })
      | [] => none

/-- The field consumes `n` beats of a packet on the port of a link: a DATA frame is consumed, for its credit, with its last beat (R251, R252). -/
def State.portBeats (s : State) (l n : Nat) (p : DlpPkt) : State :=
  let rest := p.beats.drop n
  let s := s.setLk l { s.lk l with dlpRx := if rest.isEmpty then none else some { p with beats := rest } }
  let s := if n = 0 then s else s.emit (.dlpRx (s.portField l) (s.lrF l R.LR_CTRL_PORT) p.kind (p.beats.take n) rest.isEmpty)
  if rest.isEmpty && p.cred then s.retCredit l 3 else s

/-- A packet is delivered on the port of a link, `n` beats of it consumed now (R250, R251); a FAIL entry that fails its code as it leaves is
discarded (R23); a field in reset has each packet discarded whole and counted. -/
def dlpDeliver (l n : Nat) (ue : Bool) (s : State) : State :=
  if !s.lrOn l R.LR_CTRL_PORT_EN then s
  else
    match (s.lk l).dlpRx with
    | some p => s.portBeats l n p
    | none =>
      match s.portPacket l with
      | none => s
      | some (p, s) =>
        if p.kind = 1 && ue then s.eccDrop l (leBytes (p.beats.flatMap (fun d => toBytes 8 d.toNat)))
        else if s.fieldInReset (s.portField l) then
          let s := s.fcuCnt l R.FCU_FAB_DROP_CNT 1
          if p.cred then s.retCredit l 3 else s
        else s.portBeats l n p

/-- DLP_RX_DELIVER (R250). -/
def execDlpRxDeliver (l : Fin 512) (n : Fin 64) (ue : Bool) (s : State) : Host.Outcome State Fault Refusal := .next (dlpDeliver l n ue s)

/-- A request of a link layer (R247, R252, R253). -/
def State.linkReq (s : State) (l op addr n tag : Nat) (data : List (BitVec 512)) : RingReq :=
  { r := ⟨BitVec.ofNat 12 (0x200 + l), BitVec.ofNat 7 (s.linkOwner l)⟩, op := BitVec.ofNat 4 op, cls := 2,
    len := BitVec.ofNat 6 (n - 1), tag := BitVec.ofNat 8 tag, addr := BitVec.ofNat 48 addr, data := data }

/-- Flits that a link layer has given to the ring and that no field stop has accepted yet. -/
def State.rxOnRing (s : State) (l : Nat) : Nat :=
  let mine (x : Flight) : Bool := x.flit.mid == 0x200 + l && x.flit.op == 4 && !x.flit.rsp
  (s.ring.wait.filter mine).length + (s.ring.flight.filter mine).length

/-- Credits of the frames on the ring whose last flit has been accepted, oldest first; `n` flits are still on their way (R252). -/
def State.rxAccepted (s : State) (l n : Nat) : List (Nat × Bool) → State
  | [] => s
  | (_, c) :: t =>
    if n ≤ t.foldl (fun a e => a + e.1) 0 then
      let s := s.setLk l { s.lk l with owe := t }
      State.rxAccepted (if c then s.retCredit l 3 else s) l n t
    else s

/-- The DATA credits that a link's frames on the ring have set free (R252). -/
def State.rxSettle (s : State) (l : Nat) : State := s.rxAccepted l (s.rxOnRing l) (s.lk l).owe

/-- The oldest released DATA frame as Bulk WRITE_P flits at LR_RX_ADDR + 64 i, when its stop can take them; its credit returns when the field
stop accepts the last (R252). -/
def rxRingWrite (l : Nat) (s : State) : State :=
  let x := s.lk l
  match x.rel with
  | [] => s
  | h :: t =>
    let base := s.lrAddr l R.LR_RX_ADDR_LO
    if !s.lrOn l R.LR_CTRL_DATA_PATH || !s.stopReady (s.linkReq l 4 base 64 0 []) then s
    else
      let bytes := ((dataBeats h.f).flatMap (fun w => toBytes 8 w.toNat)).take (8 + h.f.payload.length)
      let n := (bytes.length + 63) / 64
      let s := s.setLk l { x with rel := t, owe := x.owe ++ [(n, h.cred)] }
      let s := (List.range n).foldl (fun s i =>
        let line := (bytes.drop (64 * i)).take 64
        ringInject (s.linkReq l 4 (base + 64 * i) line.length 0 [BitVec.ofNat 512 (leBytes line)]) s) s
      s.rxSettle l

/-- LINK_RX_RING_WRITE (R252). -/
def execLinkRxRingWrite (l : Fin 512) (s : State) : Host.Outcome State Fault Refusal := .next (rxRingWrite l s)

/-- LINK_TX_FETCH (R253): a READ_BURST to LR_TX_ADDR while fewer than 8 are outstanding, the link is ACTIVE with a DATA credit
and buffer space, and not within TX_POLL of an idle answer. -/
def execLinkTxFetch (l : Fin 512) (s : State) : Host.Outcome State Fault Refusal :=
  let x := s.lk l
  let d := (x.limD + 256 - x.sentD) % 256
  if !s.lrOn l R.LR_CTRL_DATA_PATH || s.linkState l ≠ 2 || 8 ≤ x.reads || d = 0 || 127 < d || 4 ≤ s.txHeld l ||
      s.now < x.pollFrom || s.siteInReset (s.linkOwner l) || !s.stopReady (s.linkReq l 2 (s.lrAddr l R.LR_TX_ADDR_LO) 64 x.txTag []) then .next s
  else
    let s := s.setLk l { x with reads := x.reads + 1, txTag := (x.txTag + 1) % 256 }
    .next (ringInject (s.linkReq l 2 (s.lrAddr l R.LR_TX_ADDR_LO) 64 x.txTag []) s)

/-- A chunk of the ring path (R253): bytes 0-7 descriptor, 8-15 APPLY, 16-255 payload. -/
def State.chunkIn (s : State) (l : Nat) (c : Nat) : State :=
  let x := s.lk l
  let d := c % 2 ^ 64
  let valid := natBit d 31
  let cont := natBit d 30
  let more := natBit d 29
  let at_ := natBit d 25
  let len := natBits d 24 16
  let pay (n : Nat) : List Byte := toBytes n (c / 2 ^ 128)
  let s := s.setLk l { x with form := none }
  if !valid then
    let s := s.setLk l { s.lk l with pollFrom := s.now + 10 * s.lrF l R.LR_CFG_TX_POLL }
    if x.form.isSome then s.txErr l else s
  else
    match x.form, cont with
    | some f, true =>
      let left := natBits f.desc 24 16 - f.got.length
      if more || left > 240 then s.txErr l
      else s.offerData l (natBits f.desc 15 0) f.apply (f.got ++ pay left)
    | form, _ =>
      -- a chunk that continues nothing, or that opens a frame while one is unfinished, is malformed
      let s := if form.isSome || cont then s.txErr l else s
      if cont then s
      else
        let apply := if at_ then some (c / 2 ^ 64 % 2 ^ 64) else none
        if 256 < len || (more != decide (240 < len)) then s.txErr l
        else if more then s.setLk l { s.lk l with form := some ⟨d, apply, pay 240⟩ }
        else s.offerData l (natBits d 15 0) apply (pay len)

/-- LINK_TX_CHUNK (R253): the answer to the oldest READ_BURST; an answer other than OK ends the frame being formed. -/
def execLinkTxChunk (l : Fin 512) (code : Rsp) (data : BitVec 2048) (s : State) : Host.Outcome State Fault Refusal :=
  let x := s.lk l
  if x.reads = 0 then .next s
  else
    let s := s.setLk l { x with reads := x.reads - 1 }
    if code = .ok then .next (s.chunkIn l data.toNat)
    else .next ((s.setLk l { s.lk l with form := none, pollFrom := s.now + 10 * s.lrF l R.LR_CFG_TX_POLL }).txErr l)

end Sys2Proof.Machine
end

