-- ==== Sys2Proof/Machine/MillAlg.lean ====
section
/-! DEFINITION. The repair analysis of the Mill engines: descriptors (R272-R274), cells (R275), the repair problem, early abort,
must-repair and search (R279-R284) and records (R286). -/
namespace Sys2Proof.Machine

/-! ### Descriptors -/

/-- `n` bytes at byte offset `o` of a little-endian value. -/
def fieldAt (d o n : Nat) : Nat := d / 256 ^ o % 256 ^ n

/-- A group of a descriptor (R273). -/
def groupAt (d g : Nat) : MillGroup :=
  let o := 64 + 16 * g
  { col := natBit (fieldAt d o 1) 0, count := fieldAt d (o + 1) 1, weight := fieldAt d (o + 2) 1, rlo := fieldAt d (o + 4) 2,
    rhi := fieldAt d (o + 6) 2, clo := fieldAt d (o + 8) 2, chi := fieldAt d (o + 10) 2 }

/-- A descriptor read from its 256 bytes (R272). -/
def descAt (d : Nat) : MillDesc :=
  { rowMask := fieldAt d 0 8, colMask := fieldAt d 8 8, regMask := fieldAt d 16 8, linkBase := fieldAt d 24 2 % 512,
    links := fieldAt d 26 2 % 256, dpl := fieldAt d 28 2 % 8192, cpd := fieldAt d 30 1, ios := fieldAt d 31 1,
    budget := fieldAt d 32 4, firstFit := natBit (fieldAt d 37 1) 0, allRegions := natBit (fieldAt d 37 1) 1,
    base := fieldAt d 40 8, size := fieldAt d 48 4,
    groups := (List.range (min (fieldAt d 36 1) 8)).map (groupAt d) }

/-- Region bits of a job, RB (R274). -/
def MillDesc.rb (m : MillDesc) : Nat := popCount 64 m.regMask
/-- Regions of a job, NREG (R276). -/
def MillDesc.nreg (m : MillDesc) : Nat := m.links * m.dpl * 2 ^ m.rb

/-- First byte offset with a reserved bit set, RESULT_BASE's alignment at 40 included (row 1 of R274). -/
def descRsv (d : Nat) : Option Nat :=
  let ng := min (fieldAt d 36 1) 8
  (List.range 256).find? (fun o =>
    let b := fieldAt d o 1
    if o = 25 then decide (1 < b) else if o = 27 then b != 0 else if o = 29 then decide (31 < b)
    else if o = 37 then decide (3 < b) else if o = 38 || o = 39 then b != 0
    else if o = 40 then b % 64 != 0
    else if 52 ≤ o ∧ o < 64 then b != 0
    else if 64 ≤ o ∧ o < 192 then
      let g := (o - 64) / 16
      let i := (o - 64) % 16
      decide (g < ng) && (if i = 0 then decide (1 < b) else if i = 3 || 12 ≤ i then b != 0 else false)
    else if 192 ≤ o then b != 0 else false)

/-- First field outside its range (row 2 of R274). -/
def descRange (d : Nat) : Option Nat :=
  let m := descAt d
  let base : List (Nat × Bool) :=
    [ (26, decide (1 ≤ m.links ∧ m.links ≤ 128)), (28, decide (1 ≤ m.dpl ∧ m.dpl ≤ 4096)), (30, decide (m.cpd ≤ 12)),
      (31, decide (m.ios ≤ m.cpd)), (32, decide (1 ≤ m.budget)), (36, decide (1 ≤ fieldAt d 36 1 ∧ fieldAt d 36 1 ≤ 8)),
      (48, decide (64 ≤ m.size)) ]
  let grp : List (Nat × Bool) := (List.range m.groups.length).flatMap (fun g =>
    let x := m.groups.getD g {}
    [ (65 + 16 * g, decide (1 ≤ x.count ∧ x.count ≤ 128)), (66 + 16 * g, decide (1 ≤ x.weight ∧ x.weight ≤ 15)) ])
  ((base ++ grp).find? (fun e => !e.2)).map (·.1)

/-- The group at which the running total of its kind first exceeds 128 (row 9 of R274). -/
def descTotal (gs : List MillGroup) : Option Nat :=
  (List.range gs.length).find? (fun g =>
    decide (128 < (((gs.take (g + 1)).filter (fun x => x.col == (gs.getD g {}).col)).foldl (fun a x => a + x.count) 0)))

/-- Two rectangles share a cell. -/
def groupsMeet (a b : MillGroup) : Bool :=
  a.col == b.col && decide (a.rlo ≤ b.rhi ∧ b.rlo ≤ a.rhi ∧ a.clo ≤ b.chi ∧ b.clo ≤ a.chi)

/-- The checks of R274 in order: the DESC_OFS of the first that fails. -/
def descCheck (d : Nat) : Option Nat :=
  let m := descAt d
  match descRsv d with
  | some o => some o
  | none => match descRange d with
    | some o => some o
    | none =>
      if 16 < popCount 64 m.rowMask then some 0
      else if 16 < popCount 64 m.colMask + m.cpd - m.ios then some 8
      else if 4096 < m.nreg then some 16
      else if 4096 < m.dpl * 2 ^ m.cpd then some 28
      else if 512 < m.linkBase + m.links then some 24
      else match (List.range m.groups.length).find? (fun g => decide ((m.groups.getD g {}).rhi < (m.groups.getD g {}).rlo) ||
          decide ((m.groups.getD g {}).chi < (m.groups.getD g {}).clo)) with
        | some g => some (if (m.groups.getD g {}).rhi < (m.groups.getD g {}).rlo then 68 + 16 * g else 72 + 16 * g)
        | none => match descTotal m.groups with
          | some g => some (65 + 16 * g)
          | none => ((List.range m.groups.length).find? (fun h => (List.range h).any (fun g =>
              groupsMeet (m.groups.getD g {}) (m.groups.getD h {})))).map (fun h => 64 + 16 * h)

/-! ### Cells -/

/-- gather of R275: the bits of `a` where `m` is 1, packed in ascending order. -/
def gather (a m : Nat) : Nat :=
  ((List.range 64).foldl (fun (acc : Nat × Nat) i =>
    if natBit m i then (acc.1 + (if natBit a i then 2 ^ acc.2 else 0), acc.2 + 1) else acc) (0, 0)).1

/-- The cell an entry maps to, or `none` where it is out of the job's range (R275, R276). -/
def millCellOf (m : MillDesc) (raw : Nat) : Option MillCell :=
  let w1 := natBits raw 63 32
  let link := natBits w1 28 20
  let chan := natBits w1 11 0
  let adr := natBits raw 127 64
  let dutIn := chan / 2 ^ m.cpd
  if link < m.linkBase || m.linkBase + m.links ≤ link || m.dpl ≤ dutIn then none
  else
    let dut := (link - m.linkBase) * m.dpl + dutIn
    let io := chan % 2 ^ m.cpd
    some ⟨dut * 2 ^ m.rb + gather adr m.regMask, gather adr m.rowMask, gather adr m.colMask * 2 ^ (m.cpd - m.ios) + io / 2 ^ m.ios⟩

/-! ### The repair problem (R279) -/

/-- A line: a column line or a row line, its group, its address, taken by the must-repair pass. -/
structure MLine where
  col : Bool
  g : Nat
  addr : Nat
  must : Bool := false
  deriving DecidableEq, Repr

/-- Key of a line in the order of item 4 of R279. -/
def MLine.key (l : MLine) : Nat := (if l.col then 2 ^ 19 else 0) + l.g * 2 ^ 16 + l.addr

/-- A failing cell of a region: row and column key, with its row line and its column line where they exist. -/
structure FCell where
  row : Nat
  col : Nat
  rl : Option MLine
  cl : Option MLine
  deriving DecidableEq, Repr

/-- The line of a kind through a cell (R273). -/
def lineOf (gs : List MillGroup) (col : Bool) (r c : Nat) : Option MLine :=
  ((List.range gs.length).find? (fun g =>
    let x := gs.getD g {}
    x.col == col && decide (x.rlo ≤ r ∧ r ≤ x.rhi ∧ x.clo ≤ c ∧ c ≤ x.chi))).map (fun g => ⟨col, g, if col then c else r, false⟩)

/-- Insertion in canonical order without repeats (R279, R281). -/
def cellIns (x : Nat × Nat) : List (Nat × Nat) → List (Nat × Nat)
  | [] => [x]
  | y :: t => if x = y then y :: t else if x.1 < y.1 || (x.1 == y.1 && decide (x.2 < y.2)) then x :: y :: t else y :: cellIns x t

/-- F of a region in canonical order. -/
def failSet (gs : List MillGroup) (cells : List MillCell) : List FCell :=
  (cells.foldl (fun a c => cellIns (c.row, c.col) a) []).map (fun (r, c) => ⟨r, c, lineOf gs false r c, lineOf gs true r c⟩)

/-- The line of a cell that has a line's key. -/
def onLine (l : MLine) (c : FCell) : Bool :=
  (match c.rl with | some x => x.key == l.key | none => false) || (match c.cl with | some x => x.key == l.key | none => false)

/-- A partial solution: lines taken, cells not covered, spares left by group. -/
structure MSol where
  taken : List MLine
  unc : List FCell
  left : List Nat
  deriving DecidableEq, Repr

/-- A line's group has a spare left; a line of an uncovered cell has not been taken. -/
def MSol.usable (m : MSol) (l : Option MLine) : Bool := match l with | some x => decide (0 < m.left.getD x.g 0) | none => false

/-- A line taken. -/
def MSol.take (m : MSol) (l : MLine) : MSol :=
  { taken := m.taken ++ [l], unc := m.unc.filter (fun c => !onLine l c), left := m.left.set l.g (m.left.getD l.g 0 - 1) }

/-- A dead cell. -/
def MSol.dead (m : MSol) (c : FCell) : Bool := !m.usable c.rl && !m.usable c.cl

/-- K of R281: cells kept when none of their lines is a line of a cell already kept. -/
def indepK (cs : List FCell) : Nat :=
  (cs.foldl (fun (a : Nat × List Nat) c =>
    let ks := (match c.rl with | some x => [x.key] | none => []) ++ (match c.cl with | some x => [x.key] | none => [])
    if ks.any (fun k => a.2.contains k) then a else (a.1 + 1, ks ++ a.2)) (0, [])).1

/-! ### The must-repair pass (R282) -/

/-- First half of a pass: cells in canonical order. `none` when a cell is dead. -/
def mustCells : List FCell → MSol → Option MSol
  | [], m => some m
  | c :: t, m =>
    if !m.unc.contains c then mustCells t m
    else if m.dead c then none
    else
      match m.usable c.rl, m.usable c.cl, c.rl, c.cl with
      | true, false, some l, _ => mustCells t (m.take { l with must := true })
      | false, true, _, some l => mustCells t (m.take { l with must := true })
      | _, _, _, _ => mustCells t m

/-- Insertion of a line in the scan order of R282: row lines first, ascending address, then group. -/
def lineIns (l : MLine) : List MLine → List MLine
  | [] => [l]
  | x :: t =>
    let k (y : MLine) : Nat := (if y.col then 2 ^ 20 else 0) + y.addr * 8 + y.g
    if k l = k x then x :: t else if k l < k x then l :: x :: t else x :: lineIns l t

/-- Lines through uncovered cells in scan order. -/
def linesOf (cs : List FCell) : List MLine :=
  cs.foldl (fun a c =>
    let a := match c.rl with | some l => lineIns l a | none => a
    match c.cl with | some l => lineIns l a | none => a) []

/-- A line is forced: some group of the other kind would need more spares than it has left. -/
def MSol.forced (m : MSol) (l : MLine) : Bool :=
  (List.range m.left.length).any (fun h =>
    decide (m.left.getD h 0 < (m.unc.filter (fun c => onLine l c &&
      (match (if l.col then c.rl else c.cl) with | some x => x.g == h | none => false))).length))

/-- Second half of a pass. The outcome names a proof of no repair. -/
def mustLines : List MLine → MSol → Option MSol × MSol
  | [], m => (some m, m)
  | l :: t, m =>
    if m.forced l then
      if m.left.getD l.g 0 = 0 then (none, m) else mustLines t (m.take { l with must := true })
    else mustLines t m

/-- The pass, repeated until nothing changes: the state reached, and whether a proof of no repair was found. -/
def mustRepair : Nat → MSol → MSol × Bool
  | 0, m => (m, false)
  | n + 1, m =>
    match mustCells m.unc m with
    | none => (mustCellsStop m.unc m, true)
    | some m1 =>
      match mustLines (linesOf m1.unc) m1 with
      | (none, m2) => (m2, true)
      | (some m2, _) => if m2.taken.length = m.taken.length then (m2, false) else mustRepair n m2
where
  /-- The lines taken up to the dead cell. -/
  mustCellsStop : List FCell → MSol → MSol
    | [], m => m
    | c :: t, m =>
      if !m.unc.contains c then mustCellsStop t m
      else if m.dead c then m
      else
        match m.usable c.rl, m.usable c.cl, c.rl, c.cl with
        | true, false, some l, _ => mustCellsStop t (m.take { l with must := true })
        | false, true, _, some l => mustCellsStop t (m.take { l with must := true })
        | _, _, _, _ => mustCellsStop t m

/-! ### The search (R283) -/

/-- COST of a list of lines. -/
def costOf (gs : List MillGroup) (ls : List MLine) : Nat := ls.foldl (fun a l => a + (gs.getD l.g {}).weight) 0

/-- Keys of a list of lines in order. -/
def sortedLines (ls : List MLine) : List MLine :=
  ls.foldl (fun a l => ins l a) []
where
  /-- Insertion by key. -/
  ins (l : MLine) : List MLine → List MLine
    | [] => [l]
    | x :: t => if l.key ≤ x.key then l :: x :: t else x :: ins l t

/-- First difference of two key lists. -/
def keysLess : List Nat → List Nat → Bool
  | a :: s, b :: t => if a < b then true else if b < a then false else keysLess s t
  | _, _ => false

/-- S is better than T (R279). -/
def better (gs : List MillGroup) (a b : List MLine) : Bool :=
  let ca := costOf gs a; let cb := costOf gs b
  if ca ≠ cb then decide (ca < cb)
  else if a.length ≠ b.length then decide (a.length < b.length)
  else
    let ra := (a.filter (fun l => !l.col)).length; let rb := (b.filter (fun l => !l.col)).length
    if ra ≠ rb then decide (rb < ra)
    else keysLess ((sortedLines a).map (·.key)) ((sortedLines b).map (·.key))

/-- Least WEIGHT among groups with a spare left. -/
def minWeight (gs : List MillGroup) (left : List Nat) : Nat :=
  (List.range gs.length).foldl (fun a g => if 0 < left.getD g 0 then (if a = 0 then (gs.getD g {}).weight else min a (gs.getD g {}).weight) else a) 0

/-- pruned of R283. -/
def pruned (gs : List MillGroup) (best : Option (List MLine)) (c : MSol) : Bool :=
  let k := indepK c.unc
  let w := minWeight gs c.left
  c.unc.any c.dead || decide (c.left.foldl (· + ·) 0 < k) ||
    match best with
    | none => false
    | some b =>
      let x := costOf gs c.taken + k * w; let y := c.taken.length + k
      decide (costOf gs b < x) || (x == costOf gs b && decide (b.length < y))

/-- State of the search: nodes counted, best repair, best partial, and why it stopped (0 not, 1 budget, 2 first fit). -/
structure MSearch where
  nodes : Nat
  best : Option (List MLine)
  partial_ : MSol
  stop : Nat
  deriving DecidableEq, Repr

/-- Lines a node branches on: the row line and the column line of its first uncovered cell. -/
def branches (n : MSol) : List MLine :=
  match n.unc with
  | [] => []
  | c :: _ => (match c.rl with | some l => [l] | none => []) ++ (match c.cl with | some l => [l] | none => [])

/-- The depth-first search over a stack of nodes with the lines still to try. The fuel, four steps a node of the budget,
never runs out. -/
def millSearch (gs : List MillGroup) (budget : Nat) (ff : Bool) : Nat → List (MSol × List MLine) → MSearch → MSearch
  | 0, _, st => st
  | _ + 1, [], st => st
  | k + 1, (_, []) :: rest, st => millSearch gs budget ff k rest st
  | k + 1, (n, l :: ls) :: rest, st =>
    if !n.usable (some l) then millSearch gs budget ff k ((n, ls) :: rest) st
    else if st.nodes = budget then { st with stop := 1 }
    else
      let c := n.take l
      let st := { st with nodes := st.nodes + 1, partial_ := if c.unc.length < st.partial_.unc.length then c else st.partial_ }
      if c.unc.isEmpty then
        let st := match st.best with
          | none => { st with best := some c.taken }
          | some b => if better gs c.taken b then { st with best := some c.taken } else st
        if ff then { st with stop := 2 } else millSearch gs budget ff k ((n, ls) :: rest) st
      else if pruned gs st.best c then millSearch gs budget ff k ((n, ls) :: rest) st
      else millSearch gs budget ff k ((c, branches c) :: (n, ls) :: rest) st

/-! ### Verdicts and records (R284, R286) -/

/-- What the analysis of a region yields. -/
structure MResult where
  verdict : Nat
  optimal : Bool
  reason : Nat
  lines : List MLine
  must : Nat
  nodes : Nat
  deriving DecidableEq, Repr

/-- Analysis of F with no storage error (R281-R284). -/
def analyseSet (m : MillDesc) (f : List FCell) : MResult :=
  let gs := m.groups
  let left := gs.map (·.count)
  if f.any (fun c => c.rl.isNone && c.cl.isNone) then ⟨2, false, 1, [], 0, 0⟩
  else if left.foldl (· + ·) 0 < indepK f then ⟨2, false, 2, [], 0, 0⟩
  else
    let (mr, noRepair) := mustRepair 300 ⟨[], f, left⟩
    let must := mr.taken.length
    if noRepair then ⟨2, false, 3, mr.taken, must, 0⟩
    else if mr.unc.isEmpty then ⟨1, true, 0, mr.taken, must, 1⟩
    else
      let st0 : MSearch := ⟨1, none, mr, 0⟩
      let st := if pruned gs none mr then st0 else millSearch gs m.budget m.firstFit (4 * m.budget + 8) [(mr, branches mr)] st0
      match st.best, st.stop with
      | none, 1 => ⟨3, false, 8, st.partial_.taken, must, st.nodes⟩
      | none, _ => ⟨2, false, 4, mr.taken, must, st.nodes⟩
      | some b, 0 => ⟨1, true, 0, b, must, st.nodes⟩
      | some b, 1 => ⟨1, false, 8, b, must, st.nodes⟩
      | some b, _ => ⟨1, false, 10, b, must, st.nodes⟩

/-- Analysis of a region's stored cells with its OVF mark and a storage error (R278, R284). -/
def analyseRegion (m : MillDesc) (cells : List MillCell) (ovf ue : Bool) : MResult :=
  if cells.isEmpty then (if ovf then ⟨3, false, 9, [], 0, 0⟩ else ⟨0, false, 0, [], 0, 0⟩)
  else if ue then ⟨3, false, 11, [], 0, 0⟩
  else
    let r := analyseSet m (failSet m.groups cells)
    if ovf && r.verdict == 1 then { r with verdict := 3, optimal := false, reason := 9 } else r

/-- The record of a region (R286). -/
def millRecord (m : MillDesc) (region : Nat) (cells : List MillCell) (ovf : Bool) (r : MResult) : List Byte :=
  let f := failSet m.groups cells
  let ls := sortedLines r.lines
  let uncovered := (f.filter (fun c => !ls.any (fun l => onLine l c))).length
  let word (l : MLine) : List Byte := toBytes 4 (l.addr % 65536 + l.g * 2 ^ 16 + b2n l.col * 2 ^ 19 + b2n l.must * 2 ^ 20)
  let n := ls.length
  toBytes 2 region ++ toBytes 2 (r.verdict + 4 * b2n r.optimal + 8 * b2n ovf + 16 * r.reason) ++ toBytes 2 n ++
    toBytes 2 (costOf m.groups r.lines) ++ toBytes 4 r.must ++ toBytes 4 f.length ++ toBytes 4 uncovered ++
    toBytes 4 (min r.nodes 0xFFFFFFFF) ++ toBytes 4 cells.length ++ toBytes 4 0 ++ ls.flatMap word ++
    List.replicate (16 * ((n + 3) / 4) - 4 * n) 0

/-- The terminator (R286). -/
def millTerm : List Byte := toBytes 16 0xFFFF

end Sys2Proof.Machine
end

