-- ==== Sys2Proof/Machine/Mill.lean ====
section
/-! DEFINITION. Commands of the Mill engines (R267-R290). -/
namespace Sys2Proof.Machine

/-- State number of an engine (R268): 0 IDLE, 1 LOAD, 2 COLLECT, 3 ANALYSE, 4 DONE, 5 ERROR. -/
def State.millState (s : State) (e : Nat) : Nat := s.rf (millBlk e) R.MILL_STAT_STATE

/-- A W1C bit of MILL_STAT, with the MILL interrupt of the owner (R290, R299). -/
def State.millEvt (s : State) (e : Nat) (f : Fld) : State := s.evt (s.millOwner e) 2 (millBlk e) f R.MILL_IE f.lo

/-- A job counter. -/
def State.millCnt (s : State) (e c n : Nat) : State := s.cnt (millBlk e + c) n

/-- A job ends in ERROR (R268, R270, R289); one that leaves LOAD or COLLECT has its forwarded entries discarded. -/
def State.millError (s : State) (e err : Nat) : State :=
  let b := millBlk e
  let st := s.millState e
  let s := if st = 1 || st = 2 then s.millFlush e else s
  let s := (s.wf b R.MILL_STAT_ERR err).wf b R.MILL_STAT_STATE 5
  (s.wf b R.MILL_PROGRESS_REGION (s.millE e).next).millEvt e R.MILL_STAT_ERROR

/-- A request of an engine, in the Bulk class with the owner's SID (R267). -/
def State.millReq (s : State) (e op addr : Nat) (data : List (BitVec 512)) : RingReq :=
  { r := ⟨BitVec.ofNat 12 (0x180 + e), BitVec.ofNat 7 (s.millOwner e)⟩, op := BitVec.ofNat 4 op, cls := 2, len := 63, tag := 0,
    addr := BitVec.ofNat 48 addr, data := data }

/-- Counters that START clears (R290). -/
def millCounters : List Nat :=
  [R.MILL_TAKEN_CNT, R.MILL_MERGED_CNT, R.MILL_RANGE_CNT, R.MILL_OVF_DROP_CNT, R.MILL_STORED, R.MILL_N_REPAIRED, R.MILL_N_UNREP,
   R.MILL_N_UNDEC, R.MILL_RES_BYTES, R.MILL_INTAKE_UE_CNT, R.MILL_NODES_LO, R.MILL_NODES_HI]

/-- START accepted (R269, R272): LOAD, with the descriptor read on its way. -/
def State.millStart (s : State) (e : Nat) (src : Bool) : State :=
  let b := millBlk e
  let s := millCounters.foldl (fun s c => s.wr (b + c) 0) s
  let s := ((s.wf b R.MILL_STAT_ERR 0).wf b R.MILL_STAT_DESC_OFS 0).wf b R.MILL_STAT_STATE 1
  let s := (s.wf b R.MILL_PROGRESS_REGION 0).setMill e { src := src }
  ringInject (s.millReq e 2 (s.rd64 (b + R.MILL_DESC_LO)) []) s

/-- A write to MILL_CTRL (R269): SRC is stored; START, CLOSE and ABORT act on the state before the write. -/
def millCtrl (e : Nat) (v : Word) (s : State) : State :=
  let b := millBlk e
  let w := v.toNat
  let s := s.wf b R.MILL_CTRL_SRC (w % 2)
  let st := s.millState e
  let n := natBits w 31 31 + natBits w 30 30 + natBits w 29 29
  let m := s.millE e
  if n = 0 then s
  else if 1 < n then s.millEvt e R.MILL_STAT_REFUSED
  else if natBit w 31 then
    if st = 0 || st = 4 || st = 5 then s.millStart e (natBit w 0) else s.millEvt e R.MILL_STAT_REFUSED
  else if natBit w 30 then
    if st = 2 && !m.src then s.setMill e { m with closed := true } else s.millEvt e R.MILL_STAT_REFUSED
  else if st = 1 || st = 2 || st = 3 then s.millError e 6
  else s

/-- A MILL_CTRL write with a bit set. -/
def State.millCtrlCmd (s : State) (r : Req) (e : Nat) (v : Word) : State := s.gated r (millBlk e + R.MILL_CTRL) true (millCtrl e v)

/-- MILL_CTRL_START (R269). -/
def execMillCtrlStart (r : Req) (e : Fin 64) (v : Word) (s : State) : Host.Outcome State Fault Refusal :=
  .next (s.millCtrlCmd r e (v ||| 0x80000000#32))
/-- MILL_CTRL_CLOSE (R270). -/
def execMillCtrlClose (r : Req) (e : Fin 64) (v : Word) (s : State) : Host.Outcome State Fault Refusal :=
  .next (s.millCtrlCmd r e (v ||| 0x40000000#32))
/-- MILL_CTRL_ABORT (R269). -/
def execMillCtrlAbort (r : Req) (e : Fin 64) (v : Word) (s : State) : Host.Outcome State Fault Refusal :=
  .next (s.millCtrlCmd r e (v ||| 0x20000000#32))

/-- The next burst of the memory source is asked for, or ANALYSE entered when every entry has been read (R271). -/
def State.millSrcNext (s : State) (e : Nat) : State :=
  let b := millBlk e
  let m := s.millE e
  if m.srcNext < (s.rd (b + R.MILL_SRC_CNT)).toNat then
    ringInject (s.millReq e 2 (s.rd64 (b + R.MILL_SRC_LO) + 16 * m.srcNext) []) s
  else s.wf b R.MILL_STAT_STATE 3

/-- The descriptor read returns OK (R274): validated, then COLLECT, or the memory source. No progress while the Mill clock is off (R545). -/
def millDescLoaded (e : Nat) (d : Nat) (s : State) : State :=
  let b := millBlk e
  let m := s.millE e
  if s.millState e ≠ 1 || m.desc != {} || !s.flag (clkBlk + 4 * (16 + e / 16)) R.CLK_GATE_READY then s
  else
    match descCheck d with
    | some o => (s.wf b R.MILL_STAT_DESC_OFS o).millError e 1
    | none =>
      let s := s.setMill e { m with desc := descAt d }
      if m.src then s.millSrcNext e else s.wf b R.MILL_STAT_STATE 2

/-- MILL_DESC_LOADED (R274). -/
def execMillDescLoaded (e : Fin 64) (d : BitVec 2048) (s : State) : Host.Outcome State Fault Refusal :=
  .next (millDescLoaded e d.toNat s)

/-- Cells storage holds (R277). -/
def millCap : Nat := 131072

/-- One entry taken (R275-R277): mapped to a cell, merged with the last of its link, stored, or discarded. -/
def State.millTake (s : State) (e raw : Nat) : State :=
  let m := s.millE e
  match millCellOf m.desc raw with
  | none => (s.millCnt e R.MILL_RANGE_CNT 1).millEvt e R.MILL_STAT_RANGE
  | some c =>
    let link := natBits raw 60 52
    let s := s.millCnt e R.MILL_TAKEN_CNT 1
    if (m.last.find? (fun x => x.1 == link)).map (·.2) = some c then s.millCnt e R.MILL_MERGED_CNT 1
    else
      let last := (link, c) :: m.last.filter (fun x => x.1 != link)
      if millCap ≤ m.cells.length then
        let s := s.setMill e { m with last := last, ovf := if m.ovf.contains c.reg then m.ovf else c.reg :: m.ovf }
        (s.millCnt e R.MILL_OVF_DROP_CNT 1).millEvt e R.MILL_STAT_OVF
      else (s.setMill e { m with last := last, cells := c :: m.cells }).wr (millBlk e + R.MILL_STORED) (BitVec.ofNat 32 (m.cells.length + 1))

/-- MILL_SRC_READ (R271): a burst of 16 entries of the memory source, or what is left of it. -/
def execMillSrcRead (e : Fin 64) (d : BitVec 2048) (s : State) : Host.Outcome State Fault Refusal :=
  let m := s.millE e
  if s.millState e ≠ 1 || !m.src || m.desc == {} then .next s
  else
    let n := min 16 ((s.rd (millBlk e + R.MILL_SRC_CNT)).toNat - m.srcNext)
    let s := (List.range n).foldl (fun s i => s.millTake e (d.toNat / 2 ^ (128 * i) % 2 ^ 128)) s
    let m := s.millE e
    .next ((s.setMill e { m with srcNext := m.srcNext + n }).millSrcNext e)

/-- MILL_INTAKE_ENTRY (R277, R278): the oldest entry of the intake queue; `ue` says that its code is uncorrectable. -/
def execMillIntakeEntry (e : Fin 64) (ue : Bool) (s : State) : Host.Outcome State Fault Refusal :=
  let m := s.millE e
  match m.intake with
  | [] => .next s
  | (raw, _) :: t =>
    if s.millState e ≠ 2 then .next s
    else
      let s := s.setMill e { m with intake := t }
      let s := if ue then (s.millCnt e R.MILL_INTAKE_UE_CNT 1).millEvt e R.MILL_STAT_INTAKE_UE else s.millTake e raw
      .next (s.millPump e)

/-- MILL_INTAKE_DRAINED (R270). -/
def execMillIntakeDrained (e : Fin 64) (s : State) : Host.Outcome State Fault Refusal :=
  let m := s.millE e
  let waiting := (List.range 128).any (fun i => (s.lk (128 * (e / 16) + i)).millq.any (fun q => q.1 == e.val))
  .next (if s.millState e = 2 && m.closed && m.intake.isEmpty && !waiting then s.wf (millBlk e) R.MILL_STAT_STATE 3 else s)

/-- Counter of a verdict. -/
def verdictCnt : Nat → Option Nat
  | 1 => some R.MILL_N_REPAIRED | 2 => some R.MILL_N_UNREP | 3 => some R.MILL_N_UNDEC | _ => none

/-- The next region is analysed and its record formed (R280, R286). `ue` says that a stored cell of it reads uncorrectable. -/
def millAnalyse (e : Nat) (ue : Bool) (s : State) : State :=
  let m := s.millE e
  let b := millBlk e
  if s.millState e ≠ 3 || m.pend.isSome || m.fin || m.desc.nreg ≤ m.next then s
  else
    let cells := m.cells.filter (fun c => c.reg == m.next)
    let ovf := m.ovf.contains m.next
    let r := analyseRegion m.desc cells ovf ue
    let s := s.wf b R.MILL_PROGRESS_REGION m.next
    if r.verdict = 0 && !m.desc.allRegions then s.setMill e { m with next := m.next + 1 }
    else
      let s := s.setMill e { m with pend := some (millRecord m.desc m.next cells ovf r) }
      let s := match verdictCnt r.verdict with | some c => s.millCnt e c 1 | none => s
      s.cnt64 (b + R.MILL_NODES_LO) r.nodes

/-- MILL_REGION_ANALYSE (R280). -/
def execMillRegionAnalyse (e : Fin 64) (ue : Bool) (s : State) : Host.Outcome State Fault Refusal := .next (millAnalyse e ue s)

/-- Gathered bytes issued as 64-byte Bulk WRITEs, whole lines only, or with the last line padded (R287). -/
def State.millIssue (s : State) (e : Nat) (pad : Bool) : State :=
  let m := s.millE e
  let n := if pad then (m.buf.length + 63) / 64 else m.buf.length / 64
  let s := (List.range n).foldl (fun s i =>
    let line := (m.buf.drop (64 * i)).take 64
    ringInject (s.millReq e 3 (m.desc.base + 64 * (m.lines + i)) [BitVec.ofNat 512 (leBytes line)]) s) s
  (s.setMill e { s.millE e with buf := m.buf.drop (64 * n), lines := m.lines + n }).wr (millBlk e + R.MILL_RES_BYTES)
    (BitVec.ofNat 32 (64 * (m.lines + n)))

/-- The terminator is written (R286, R287). -/
def State.millTerminate (s : State) (e : Nat) : State :=
  let m := s.millE e
  (s.setMill e { m with buf := m.buf ++ millTerm, pend := none, fin := true }).millIssue e true

/-- A record is written where it and a terminator still fit, or the job ends with RESULT_FULL; after the last region, the
terminator (R287). -/
def millWrite (e : Nat) (s : State) : State :=
  let m := s.millE e
  if s.millState e ≠ 3 || m.fin then s
  else
    match m.pend with
    | some rec_ =>
      if 64 * m.lines + m.buf.length + rec_.length + 16 ≤ m.desc.size then
        (s.setMill e { m with buf := m.buf ++ rec_, pend := none, next := m.next + 1 }).millIssue e false
      else (s.millTerminate e).millError e 5
    | none => if m.desc.nreg ≤ m.next then s.millTerminate e else s

/-- MILL_RECORD_WRITE (R287). -/
def execMillRecordWrite (e : Fin 64) (s : State) : Host.Outcome State Fault Refusal := .next (millWrite e s)

/-- MILL_JOB_DONE (R287): every write has returned OK. -/
def execMillJobDone (e : Fin 64) (s : State) : Host.Outcome State Fault Refusal :=
  .next (if s.millState e = 3 && (s.millE e).fin then (s.wf (millBlk e) R.MILL_STAT_STATE 4).millEvt e R.MILL_STAT_DONE else s)

/-- MILL_WRITE_ERROR (R289): the descriptor read (0), a source read (1) or a result write (2) returned other than OK; `region` is
the region whose record failed. -/
def execMillWriteError (e : Fin 64) (what : Fin 3) (region : BitVec 12) (s : State) : Host.Outcome State Fault Refusal :=
  let st := s.millState e
  if what.val = 2 then
    .next (if st = 3 then (s.millError e 4).wf (millBlk e) R.MILL_PROGRESS_REGION region.toNat else s)
  else .next (if st = 1 then s.millError e (what.val + 2) else s)

/-- The owning site enters reset (R289): the job ends, its stored cells discarded. -/
def State.millSiteReset (s : State) (e : Nat) : State :=
  let st := s.millState e
  if st = 1 || st = 2 || st = 3 then
    let s := s.millError e 7
    s.setMill e { s.millE e with cells := [], last := [] }
  else s

end Sys2Proof.Machine
end

