-- ==== Sys2Proof/Machine/Sites.lean ====
section
/-! DEFINITION. Sites: ownership of fields and granaries (R291-R296), the site interrupt controller (R299-R301), the site reset
(R302-R307) and the resets of the PCIe port (R371, R374). -/
namespace Sys2Proof.Machine

/-! ### Levels of the site interrupt controller (R299) -/

/-- An enabled status bit at `b` is set. -/
def State.live (s : State) (b stat ie : Nat) : Bool := (s.rd (b + stat) &&& s.rd (b + ie)) != 0

/-- The stop of a resource has an enabled bit set (R168). -/
def State.stopLive (s : State) (n : Nat) : Bool :=
  match stopRegs n with | some b => s.live b R.RING_STAT R.RING_IE | none => false

/-- Level of a field's instance. -/
def State.fieldLvl (s : State) (f : Nat) : Bool :=
  [0, 1, 2, 3].any (fun e => s.live (fieldEdge f e) R.STILE_STAT R.STILE_IE) || s.live (fieldPage f) R.BM_STAT R.BM_IE || s.stopLive (fieldStopNo f)

/-- Level of a granary's instance. -/
def State.granLvl (s : State) (g : Nat) : Bool := s.live (granBlk g) R.GR_STAT R.GR_IE || s.stopLive (granStopNo g)

/-- Level of an engine's instance. -/
def State.millLvl (s : State) (e : Nat) : Bool := s.live (millBlk e) R.MILL_STAT R.MILL_IE || s.stopLive (millStopNo e)

/-- Level of a link's instance. -/
def State.linkLvl (s : State) (l : Nat) : Bool :=
  s.live (linkBlk l) R.LINK_STAT R.LINK_IE || s.live (laneBlk l) R.LANE_STAT R.LANE_IE ||
    (s.flag (linkBlk l) R.LINK_CTRL_STAT_DONE && s.flag (linkBlk l) R.LINK_IE_IE_CTRL)

/-- Level of a class of a site (R299). -/
def State.sicLevel (s : State) (n cls : Nat) : Bool :=
  match cls with
  | 0 => (List.range 128).any (fun f => s.fieldOwner f == n && s.fieldLvl f)
  | 1 => (List.range 32).any (fun g => s.granOwner g == n && s.granLvl g)
  | 2 => (List.range 64).any (fun e => s.millOwner e == n && s.millLvl e)
  | 3 => (List.range 512).any (fun l => s.linkOwner l == n && s.linkLvl l)
  | 4 => s.live (tallyBlk n) R.TALLY_STAT R.TALLY_IE
  | 5 => s.live (dramHub + 8 * n) R.DRAM_SITE_EVT R.DRAM_SITE_IE
  | 6 => s.live (encBlk n) R.ENC_STAT R.ENC_IE
  | 7 => s.live (siteBlk n) R.SITE_STAT R.SITE_IE
  | 8 => s.dbPend (n + 1) != 0
  | _ => false

/-- Every class of a site that is high raises its vector if that is armed (R301). -/
def State.sicEval (s : State) (n : Nat) : State :=
  if n ≥ 64 ∨ s.siteInReset n then s
  else (List.range 9).foldl (fun s c =>
    if natBit (s.rf (siteBlk n) R.SIC_EN_EN) c && s.sicLevel n c then s.sicRaise n c else s) s

/-- A write to SIC_EOI (R301): no effect on an armed vector. -/
def sicEoi (n v : Nat) (s : State) : State :=
  let a := siteBlk n + R.SIC_VSTAT_LO
  if s.vstat a v then
    (List.range 9).foldl (fun s c =>
      if s.sicRoute n c = v && natBit (s.rf (siteBlk n) R.SIC_EN_EN) c && s.sicLevel n c then s.sicRaise n c else s)
      (s.setVstat a v false)
  else s

/-- SIC_EOI (R301). -/
def execSicEoi (r : Req) (n : Fin 64) (v : Word) (s : State) : Host.Outcome State Fault Refusal :=
  .next (s.gated r (siteBlk n.val + R.SIC_EOI) true (sicEoi n.val (v.toNat % 64)))

/-- Every PF0 vector whose condition is 1 (R373, R374). -/
def State.pf0Eval (s : State) : State := (List.range 256).foldl (fun s v => if s.pf0Cond v then s.pf0Raise v else s) s

/-- Identity of a function (R363). -/
def State.fnIdent (s : State) (fn : Nat) : FnIdent :=
  { vendor := Config.vendorId, device := if fn = 0 then 0x9400 else 0x9401, cls := 0x120000, rev := if s.part.stepB then 0x0B else 0x0A,
    subsys := s.pcie.subsys, pages := if fn = 0 then [4096, 65536] else [] }

/-- A VF that the host uses exists: VF Enable is set and NumVFs covers it; the table has no row that sets them (DESIGN CHOICE,
assumption 8). -/
def State.fnHere (s : State) (fn : Nat) : State :=
  if fn = 0 || (s.pcie.vfEn && decide (fn ≤ s.pcie.numVfs)) then s
  else
    let old := if s.pcie.vfEn then s.pcie.numVfs else 0
    let s := { s with pcie := { s.pcie with vfEn := true, numVfs := max s.pcie.numVfs fn } }
    (List.range 64).foldl (fun s i => if old ≤ i && i < s.pcie.numVfs then s.emit (.pcieIdent (i + 1) (s.fnIdent (i + 1))) else s) s

/-- MSI-X Enable of a function set (R374). -/
def msixEnable (fn : Nat) (s : State) : State :=
  let s := { s with pcie := { s.pcie with msixEn := tabPut (fun _ => false) s.pcie.msixEn fn true } }
  if fn = 0 then s.pf0Eval else (s.fnHere fn).sicEval (fn - 1)

/-- MSIX_ENABLE (R374). -/
def execMsixEnable (fn : Fin 65) (s : State) : Host.Outcome State Fault Refusal := .next (msixEnable fn.val s)

/-- An entry unmasked: its pending message is issued (R301). -/
def msixUnmask (fn v : Nat) (s : State) : State :=
  let k := fn * 256 + v
  let p := tabGet (fun _ => false) s.pcie.msixPend k
  let s := { s with pcie := { s.pcie with msixUnmask := tabPut (fun _ => false) s.pcie.msixUnmask k true,
                                          msixPend := tabPut (fun _ => false) s.pcie.msixPend k false } }
  if p then s.emit (.msix fn v) else s

/-- MSIX_UNMASK (R301): entries 0-63 of a VF, 0-255 of PF0. -/
def execMsixUnmask (fn : Fin 65) (v : Fin 256) (s : State) : Host.Outcome State Fault Refusal :=
  .next (msixUnmask fn.val (if fn.val = 0 then v.val else v.val % 64) s)

/-! ### Grant and revoke (R293, R295, R296) -/

/-- A GPIO bank changes owner (R567): registers at reset, pins high impedance, OWN_CHG. -/
def State.bankReset (s : State) (b : Nat) : State :=
  let a := gpioBlk b
  let s := s.regsLost (inBlk a 0x1000)
  State.setF { s with gpio := tabPut (fun _ => {}) s.gpio b {} } a R.GPIO_STAT_OWN_CHG

/-- Bank anchored to a field (R566). -/
def bankOfField (f : Nat) : Option Nat := if 25 ≤ f % 32 ∧ f % 32 < 31 then some (6 * (f / 32) + (f % 32 - 25)) else none

/-- Fields of a site. -/
def State.siteFields (s : State) (n : Nat) : List Nat := (List.range 128).filter (fun f => s.fieldOwner f == n)

/-- TCRIT_USED follows the site's fields (R312). -/
def State.tcritCount (s : State) (n : Nat) : State :=
  if n ≥ 64 then s
  else s.wf (siteBlk n) R.SITE_RIGHTS_TCRIT_USED
    ((s.siteFields n).filter (fun f => s.flag (fieldPage f) R.FCK_TCRIT_TCRIT)).length

/-- A field's owner replaced, with what follows it: the stile fences (R99), the granary port (R120), its bank (R567). -/
def State.setFieldOwner (s : State) (f n : Nat) : State :=
  let s := (s.wf (ownBlk + 4 * f) R.FLD_OWN_SITE n).stileUpdateField f
  match bankOfField f with | some b => s.bankReset b | none => s

/-- A field without image: unconfigured, its record cleared. -/
def State.fieldBlank (s : State) (f : Nat) : State := ((s.unconfigure f).setCfgState f 0).setCfgRec f none 0

/-- A field granted (R295): BMs zero, unconfigured; in reset with a site in reset (R296). -/
def State.fieldGrant (s : State) (f n : Nat) : State :=
  let s := (List.range 96).foldl (fun s b => s.bmZero f b) s
  let s := ((s.gsrAssert f).fieldBlank f).setFieldOwner f n
  let s := if s.siteInReset n then s.setSiteHold f true else s
  (s.siteStat n R.SITE_STAT_GRANT_CHG).sicEval n

/-- A field revoked (R295): global set/reset, unconfigured, FCK_TCRIT cleared; it leaves a site reset (R296). -/
def State.fieldRevoke (s : State) (f : Nat) : State :=
  let o := s.fieldOwner f
  let s := ((s.gsrAssert f).fieldBlank f).clrF (fieldPage f) R.FCK_TCRIT_TCRIT
  let s := (s.setFieldOwner f 0x7F).setSiteHold f false
  (s.tcritCount o).siteStat o R.SITE_STAT_GRANT_CHG

/-- A granary granted or revoked (R295). -/
def State.granChange (s : State) (g n : Nat) : State :=
  let o := s.granOwner g
  let s := if n < 64 then s.grFill g else s
  let s := s.wf (ownBlk + 4 * g) R.GRAN_OWN_SITE n
  ((s.siteStat o R.SITE_STAT_GRANT_CHG).siteStat n R.SITE_STAT_GRANT_CHG).sicEval n

/-- A write to an ownership entry, and whether a grant now waits for its fill: site to site refused, a grant waits, a revoke at once (R293). -/
def State.ownStore (s : State) (r : Req) (gran : Bool) (i n : Nat) : Bool × State :=
  let o := if gran then s.granOwner i else s.fieldOwner i
  if o = n then (false, s)
  else if o < 64 ∧ n < 64 then (false, s.setF ownBlk R.OWN_STAT_OWN_REFUSED)
  else if n < 64 then (true, State.setF { s with fills := s.fills ++ [{ gran := gran, idx := i, site := n, req := some r }] } ownBlk R.OWN_STAT_BUSY)
  else (false, if gran then s.granChange i n else s.fieldRevoke i)

/-- A write to an ownership entry: it completes at once unless a grant waits for its fill (R293); a later one of a requester whose grant is under
way cannot yet take effect unless it queues behind it (R33). -/
def ownWrite (r : Req) (gran : Bool) (i n a : Nat) (s : State) : State :=
  match s.ownStore r gran i n with
  | (true, t) => t
  | (false, t) => if s.grantWaits r a then s else t.answer r a .ok []

/-- FLD_OWN_WRITE (R292, R293). -/
def execFldOwnWrite (r : Req) (f : Fin 128) (v : Word) (s : State) : Host.Outcome State Fault Refusal :=
  let a := ownBlk + R.FLD_OWN + 4 * f.val
  .next (s.gatedBy r a true (fun s =>
    if siteCodeOk (v.toNat % 128) then ownWrite r false f.val (v.toNat % 128) a s else s.answer r a .fault []))

/-- GRAN_OWN_WRITE (R292, R293). -/
def execGranOwnWrite (r : Req) (g : Fin 32) (v : Word) (s : State) : Host.Outcome State Fault Refusal :=
  let a := ownBlk + R.GRAN_OWN + 4 * g.val
  .next (s.gatedBy r a true (fun s =>
    if siteCodeOk (v.toNat % 128) then ownWrite r true g.val (v.toNat % 128) a s else s.answer r a .fault []))

/-- The oldest grant's fill is done (R293): the new owner everywhere, the write completes (also at the hub register
agent's stop, where a flit brought it), BUSY falls when no other waits. -/
def grantFillDone (s : State) : State :=
  match s.fills with
  | [] => s
  | x :: t =>
    let s := { s with fills := t }
    let s := if (if x.gran then s.granOwner x.idx else s.fieldOwner x.idx) = 0x7F then
        if x.gran then s.granChange x.idx x.site else s.fieldGrant x.idx x.site
      else s
    let s := if t.isEmpty then s.clrF ownBlk R.OWN_STAT_BUSY else s
    match x.req with
    | none => s
    | some r =>
      let a := ownBlk + (if x.gran then R.GRAN_OWN else R.FLD_OWN) + 4 * x.idx
      (s.answer r a .ok []).answerBy 11
        (fun q => q.mid == r.mid.toNat && q.op == 3 && decide (q.addr ≤ 0x1F0000000000 + a) && decide (0x1F0000000000 + a ≤ q.addr + q.len)) 0 []

/-! ### Site reset (R302-R306) -/

/-- Links of a site. -/
def State.siteLinks (s : State) (n : Nat) : List Nat := (List.range 512).filter (fun l => s.linkOwner l == n)

/-- Step 3 of R303: messages not yet issued discarded and counted, vectors armed, SIC_EN cleared; what would have been sent is counted from
here. -/
def State.sicDiscard (s : State) (n : Nat) : State :=
  let b := siteBlk n
  let fn := n + 1
  let pend := (s.pcie.msixPend.filter (fun e => e.1 / 256 == fn)).length
  let x := s.srt n
  let s := s.setSrt n { x with shadowEn := s.rf b R.SIC_EN_EN, shadowRoute := (List.range 9).map (s.sicRoute n),
                               shadowSent := s.rd64 (b + R.SIC_VSTAT_LO) }
  let s := { s with pcie := { s.pcie with msixPend := tabKeep s.pcie.msixPend (fun k => k / 256 != fn) } }
  let s := if pend = 0 then s else s.cnt (b + R.SIC_DISCARD_CNT) pend
  (s.wr64 (b + R.SIC_VSTAT_LO) 0).wf b R.SIC_EN_EN 0

/-- Step 4 of R303: fields, engines, tally group, capture, links and key slot of the site. -/
def State.siteQuiet (s : State) (n : Nat) : State :=
  let s := (s.siteFields n).foldl (fun s f => (s.setSiteHold f true).gsrAssert f) s
  let s := (List.range 32).foldl (fun s g => if s.granOwner g = n then s.stopReset (granStopNo g) else s) s
  let s := (List.range 64).foldl (fun s e => if s.millOwner e = n then (s.millSiteReset e).stopReset (millStopNo e) else s) s
  let s := (s.tallyAbandon n).cfgSiteAbort n
  let s := (s.siteLinks n).foldl (fun s l => (s.fcuSiteReset l).ctrlDown l) s
  if s.encState n = 2 then (s.wf (encBlk n) R.ENC_STAT_STATE 1).wf (encBlk n) R.ENC_ALARM_CNT_COUNT 0 else s

/-- A reset request of a site with its CAUSE (R302): steps 1 to 4, or absorbed while a reset is in progress (R306). An ABSENT site has nothing
to reset. -/
def State.siteReset (s : State) (n cause : Nat) : State :=
  let b := siteBlk n
  let st := s.siteState n
  if st = 0 then s
  else
    let s := s.cnt (b + R.SITE_RST_CNT) 1
    if st = 2 then s.siteStat n R.SITE_STAT_MERGED
    else
      let reload := cause ≠ 4 && s.flag b R.SITE_RST_CFG_FIELD_ACTION
      let s := s.setSrt n { step := 5, reload := reload }
      let s := ((s.wf b R.SITE_STAT_STATE 2).wf b R.SITE_STAT_CAUSE cause).clrF b R.SITE_STAT_HELD
      ((s.dmaStop (16 + n)).sicDiscard n).siteQuiet n

/-- RUN (R305): the held fields that have an image start by their startup order. -/
def State.siteRun (s : State) (n : Nat) : State :=
  let b := siteBlk n
  if s.siteState n ≠ 1 ∨ !s.flag b R.SITE_STAT_HELD then s
  else
    let s := s.clrF b R.SITE_STAT_HELD
    let imgs := (s.siteFields n).filterMap (fun f => if s.cfgState f = 2 then (s.cfgRec f).map (fun i => (f, i)) else none)
    if imgs.isEmpty then s
    else s.cfgAdd { id := 0, kind := 7, site := n, chan := 0, pass := 3, imgs := imgs, done := imgs.map (·.1), since := s.ttc }

/-- A write to SITE_CMD (R302, R305, R306): a reset wins over RUN. -/
def siteCmd (r : Req) (n : Nat) (v : Word) (s : State) : State :=
  if natBit v.toNat 31 then s.siteReset n (if isMgmt r then 3 else 2)
  else if natBit v.toNat 30 then s.siteRun n else s

/-- SITE_CMD_RESET (R302, R303). -/
def execSiteCmdReset (r : Req) (n : Fin 64) (v : Word) (s : State) : Host.Outcome State Fault Refusal :=
  .next (s.gated r (siteBlk n.val + R.SITE_CMD) true (siteCmd r n.val (v ||| 0x80000000)))

/-- SITE_CMD_RUN (R305). -/
def execSiteCmdRun (r : Req) (n : Fin 64) (v : Word) (s : State) : Host.Outcome State Fault Refusal :=
  .next (s.gated r (siteBlk n.val + R.SITE_CMD) true (siteCmd r n.val ((v ||| 0x40000000) &&& 0x7FFFFFFF)))

/-- The end of the drain (R303 steps 5 and 6): by timeout where an owned ACTIVE link still has frames unacknowledged. -/
def siteDrainEnd (n : Nat) (s : State) : State :=
  let x := s.srt n
  if x.step ≠ 5 then s
  else
    let late := (s.siteLinks n).any (fun l => s.linkState l == 2 && !(s.lk l).replay.isEmpty)
    let s := if late then s.siteStat n R.SITE_STAT_DRAIN_TMO else s
    let s := s.setSrt n { s.srt n with step := 6 }
    if x.reload then s.cfgReload 4 n 0 (s.siteFields n)
    else (s.siteFields n).foldl (fun s f => if (s.frt f).configured && (s.cfgRec f).isSome then s.setCfgState f 2 else s) s

/-- SITE_RESET_DRAIN_END (R303). -/
def execSiteResetDrainEnd (n : Fin 64) (s : State) : Host.Outcome State Fault Refusal := .next (siteDrainEnd n.val s)

/-- Step 7 (R303), once the reloads are done: LIVE, RESET_DONE, reloaded fields into their startup order, held fields with HELD. -/
def siteResetDone (n : Nat) (s : State) : State :=
  let b := siteBlk n
  let x := s.srt n
  if x.step ≠ 6 || s.cfg.groups.any (fun y => y.kind == 4 && y.site == n && y.pass != 4) then s
  else
    let s := s.setSrt n {}
    let s := s.wf b R.SITE_STAT_STATE 1
    let s := if x.reload then s else s.setF b R.SITE_STAT_HELD
    let s := (s.siteFields n).foldl (fun s f => s.setSiteHold f false) s
    let s := (s.cfg.groups.filter (fun y => y.kind == 4 && y.site == n)).foldl (fun s y => s.cfgSet { y with pass := 3, step := 0, since := s.ttc }) s
    s.siteStat n R.SITE_STAT_RESET_DONE

/-- SITE_RESET_COMPLETE (R303). -/
def execSiteResetComplete (n : Fin 64) (s : State) : Host.Outcome State Fault Refusal := .next (siteResetDone n.val s)

/-! ### Resets of the port (R371) -/

/-- A function's MSI-X table and aperture registers at their reset values, MSI-X disabled. -/
def State.fnReset (s : State) (fn : Nat) : State :=
  let s := { s with pcie := { s.pcie with
    msixEn := tabPut (fun _ => false) s.pcie.msixEn fn false, msixUnmask := tabKeep s.pcie.msixUnmask (fun k => k / 256 != fn),
    msixPend := tabKeep s.pcie.msixPend (fun k => k / 256 != fn), msixTab := tabKeep s.pcie.msixTab (fun k => k / 1024 != fn) } }
  (List.range 16).foldl (fun s i => s.wr (fnBlk fn + R.HOST_AP + 4 * i) 0) s

/-- FLR of a VF: its site reset, and its configuration state at reset values. -/
def vfFlr (n : Nat) (s : State) : State := (s.siteReset n 1).fnReset (n + 1)

/-- VF_FLR (R371). -/
def execVfFlr (n : Fin 64) (s : State) : Host.Outcome State Fault Refusal := .next (vfFlr n.val s)

/-- VF Enable cleared, or NumVFs lowered to `m`: an FLR of each VF that stops existing. -/
def vfCut (m : Nat) (s : State) : State :=
  let old := if s.pcie.vfEn then s.pcie.numVfs else 0
  let s := (List.range old).foldl (fun s n => if m ≤ n then vfFlr n s else s) s
  { s with pcie := { s.pcie with vfEn := s.pcie.vfEn && decide (m ≠ 0), numVfs := min m s.pcie.numVfs } }

/-- VF_ENABLE_CLEAR (R371); 0 clears VF Enable. -/
def execVfEnableClear (numVfs : Fin 65) (s : State) : Host.Outcome State Fault Refusal := .next (vfCut numVfs.val s)

/-- FLR of PF0. -/
def pfFlr (s : State) : State :=
  let s := (List.range 16).foldl (fun s c => s.dmaStop c) s
  vfCut 0 ((s.fnReset 0).wr (fnBlk 0 + R.HOST_FN_ERR) 0)

/-- PF_FLR (R371). -/
def execPfFlr (s : State) : Host.Outcome State Fault Refusal := .next (pfFlr s)

/-- PCIE_LINK_LOSS (R371): as an FLR of PF0, with the link down. -/
def execPcieLinkLoss (s : State) : Host.Outcome State Fault Refusal :=
  .next { pfFlr s with pcie := { (pfFlr s).pcie with linkUp := false } }

/-- PCIE_LINK_UP (R371): the host finds PF0 by its identity (R363). -/
def execPcieLinkUp (s : State) : Host.Outcome State Fault Refusal :=
  .next (State.emit { s with pcie := { s.pcie with linkUp := true } } (.pcieIdent 0 (s.fnIdent 0)))

end Sys2Proof.Machine
end

