-- ==== Sys2Proof/Machine/Clocks.lean ====
section
/-! DEFINITION. Clocks: reference judgement and monitoring, fallback, root switching, gating, CLKMON and the test time counter
(R533-R549). -/
namespace Sys2Proof.Machine

/-! ### References (R533-R536, R540) -/

/-- STABLE of an input, 0 A and 1 B. -/
def refStableF (i : Nat) : Fld := if i = 0 then R.CLK_REF_STAT_A_STABLE else R.CLK_REF_STAT_B_STABLE
/-- CLASS of an input. -/
def refClassF (i : Nat) : Fld := if i = 0 then R.CLK_REF_STAT_A_CLASS else R.CLK_REF_STAT_B_CLASS
/-- BASE and CNT of an input. -/
def refBaseF (i : Nat) : Fld := if i = 0 then R.CLK_MON_A_BASE_COUNT else R.CLK_MON_B_BASE_COUNT
def refCntF (i : Nat) : Fld := if i = 0 then R.CLK_MON_A_CNT_COUNT else R.CLK_MON_B_CNT_COUNT

/-- The judging counts of an input replaced. -/
def State.setWin (s : State) (i : Nat) (l : List Nat) : State :=
  { s with clk := if i = 0 then { s.clk with winA := l } else { s.clk with winB := l } }

/-- CLASS of the mean of a triple whose counts sum to `t` (R533, R535): ranges in 0.1 MHz at 200 MHz INT, a bound belonging to the class
below it. -/
def refClass (t : Nat) : Nat :=
  let f (x : Nat) : Bool := decide (t * 2000 ≤ x * 3 * 65536)
  if !f 4472 || decide (t * 2000 < 895 * 3 * 65536) then 0
  else if f 1118 then 1 else if f 1398 then 2 else if f 1768 then 3 else if f 2236 then 4 else if f 2795 then 5 else if f 3536 then 6 else 7

/-- A judging triple passes (R535). -/
def refTriple (a b c : Nat) : Bool :=
  let lo := min a (min b c)
  let hi := max a (max b c)
  decide ((hi - lo) * 1000 ≤ lo) && refClass (a + b + c) != 0

/-- The end of a judging window (R535, R540). The judgement has no time base once INT has failed (R543). -/
def refJudge (i n : Nat) (s : State) : State :=
  if s.clk.dead then s
  else
    match (if i = 0 then s.clk.winA else s.clk.winB) with
    | [b, c] =>
      let s := s.setWin i [n, b]
      if refTriple n b c then
        let s := if s.flag clkBlk (refStableF i) then s else s.wf clkBlk (refBaseF i) ((n + b + c) / 24)
        (s.setF clkBlk (refStableF i)).wf clkBlk (refClassF i) (refClass (n + b + c))
      else s.clrF clkBlk (refStableF i)
    | l => s.setWin i (n :: l)

/-- REF_JUDGE_WINDOW (R535). -/
def execRefJudgeWindow (i : Fin 2) (n : BitVec 20) (s : State) : Host.Outcome State Fault Refusal := .next (refJudge i.val n.toNat s)

/-! ### Fallback (R541) -/

/-- DATA of a clock report: CLK_REF_STAT (R583). -/
def State.refStat (s : State) : Nat := (s.rd (clkBlk + R.CLK_REF_STAT)).toNat

/-- The root falls back to INT: fields take the fallback floor, DRAM holds, lanes go DOWN with cause REFCLK, the PCIe link is lost and every LIVE
site is reset with CAUSE FLR. -/
def State.fallback (s : State) (nmi : Bool) : State :=
  let ref := s.rf clkBlk R.CLK_ROOT_SEL
  let s := ((s.wf clkBlk R.CLK_ROOT_SEL 2).wf clkBlk R.CLK_ROOT_ACTIVE 2).setF clkBlk R.CLK_ROOT_SWITCHING
  let s := (s.setF clkBlk R.CLK_REF_STAT_FALLBACK).setF clkBlk R.CLK_REF_STAT_TTC_FREE
  let s := { s with clk := { s.clk with fb := true, ref := ref } }
  let s := if nmi then s.emit .reeveNmi else s
  let s := s.reportO (locator 1 ref) 0x0040 s.refStat
  let s := s.stretchAll
  let s := (List.range 512).foldl (fun s l => if s.laneState l = 0 then s else s.laneDown l 4) s
  let s := pfFlr s
  let s := (List.range 64).foldl (fun s n => if s.siteState n = 1 then s.siteReset n 1 else s) s
  { s with pcie := { s.pcie with linkUp := false } }

/-- LOSS or DEV of a monitored input: STABLE cleared until a new triple; the selected input's starts a fallback, the other's is reported
(R540, R541). -/
def State.refBad (s : State) (i : Nat) (f : Fld) : State :=
  let s := ((s.setF clkBlk f).clrF clkBlk (refStableF i)).setWin i []
  if s.rf clkBlk R.CLK_ROOT_SEL = i then s.fallback true
  else
    let (v, s) := s.fresh
    s.reportSites (locator 1 i) 0x0041 (locator 1 i) (v % 5) s.refStat 0

/-- The monitor checks an input (R540, R543). -/
def State.refMonitored (s : State) (i : Nat) : Bool :=
  s.flag clkBlk R.CLK_MON_CFG_EN && s.flag clkBlk (refStableF i) && !s.clk.dead

/-- REF_LOSS (R540). -/
def execRefLoss (i : Fin 2) (s : State) : Host.Outcome State Fault Refusal :=
  .next (if s.refMonitored i.val then s.refBad i.val (if i.val = 0 then R.CLK_REF_STAT_A_LOSS else R.CLK_REF_STAT_B_LOSS) else s)

/-- The end of a short monitor window (R540). -/
def refDevWindow (i n : Nat) (s : State) : State :=
  if s.refMonitored i then
    let base := s.rf clkBlk (refBaseF i)
    let s := s.wf clkBlk (refCntF i) n
    if (max n base - min n base) * 1000 > s.rf clkBlk R.CLK_MON_CFG_DEV * base then
      s.refBad i (if i = 0 then R.CLK_REF_STAT_A_DEV else R.CLK_REF_STAT_B_DEV)
    else s
  else s

/-- REF_DEV_WINDOW (R540). -/
def execRefDevWindow (i : Fin 2) (n : BitVec 17) (s : State) : Host.Outcome State Fault Refusal :=
  .next (refDevWindow i.val n.toNat s)

/-! ### The root (R538, R539, R542-R544) -/

/-- W1C bits of a register cleared where a write has 1. -/
def State.w1c (s : State) (a : Nat) (mask v : Word) : State := s.wr a (s.rd a &&& ~~~(v &&& mask))

/-- A write to CLK_ROOT (R542): W1C from any management requester; SEL from the Reeve. Once INT has failed the root is not switched any more
(R543), to INT neither. -/
def clkRootWrite (r : Req) (v : Word) (s : State) : State :=
  let s := s.w1c (clkBlk + R.CLK_ROOT) 6 v
  let sel := natBits v.toNat 31 30
  let act := s.rf clkBlk R.CLK_ROOT_SEL
  if !isReeve r || sel = act then s
  else if sel = 3 || s.clk.dead || (decide (sel < 2) && !s.flag clkBlk (refStableF sel)) then s.setF clkBlk R.CLK_ROOT_SEL_REFUSED
  else if s.flag clkBlk R.CLK_ROOT_SWITCHING then s.setF clkBlk R.CLK_ROOT_SWITCH_IGNORED
  else if sel = 2 then s.fallback false
  else (s.wf clkBlk R.CLK_ROOT_SEL sel).setF clkBlk R.CLK_ROOT_SWITCHING

/-- CLK_ROOT_WRITE (R542). -/
def execClkRootWrite (r : Req) (v : Word) (s : State) : Host.Outcome State Fault Refusal :=
  .next (s.gated r (clkBlk + R.CLK_ROOT) true (clkRootWrite r v))

/-- A switch of the root completes and the tree settles (R538, R542): on an input the fallback ends. -/
def clockSwitchDone (s : State) : State :=
  if s.flag clkBlk R.CLK_ROOT_SWITCHING then
    let sel := s.rf clkBlk R.CLK_ROOT_SEL
    let s := (s.wf clkBlk R.CLK_ROOT_ACTIVE sel).clrF clkBlk R.CLK_ROOT_SWITCHING
    if sel < 2 then
      State.stretchAll { s.clrF clkBlk R.CLK_REF_STAT_TTC_FREE with clk := { s.clk with fb := false, ref := sel } }
    else s
  else s

/-- CLOCK_SWITCH_DONE (R538). -/
def execClockSwitchDone (s : State) : Host.Outcome State Fault Refusal := .next (clockSwitchDone s)

/-- INT_FAIL (R543): while the root runs on an input. -/
def execIntFail (s : State) : Host.Outcome State Fault Refusal :=
  .next (if s.rf clkBlk R.CLK_ROOT_ACTIVE < 2 then
      State.emit { s.setF clkBlk R.CLK_REF_STAT_INT_FAIL with clk := { s.clk with dead := true } } .reeveNmi
    else s)

/-- The asynchronous safe state (R544): commands in flight and the write queues are lost, the TTC stops; lanes idle, pins safe. -/
def State.safeState (s : State) : State :=
  let s := (List.range 12).foldl (fun s c => s.setDdr c { s.ddr c with q0 := [], q1 := [] }) s
  let s := (List.range 512).foldl (fun s l => if s.laneState l = 0 || s.laneState l = 7 then s else s.sendLane l .idle) s
  { s with clk := { s.clk with safe := true } }

/-- ROOT_STOP (R544). -/
def execRootStop (s : State) : Host.Outcome State Fault Refusal := .next s.safeState

/-! ### Gating (R545) -/

/-- Parent of a node Commons gates. -/
def nodeParent (n : Nat) : Nat := if n < 20 then 4 + (n - 16) else if n < 32 then 4 + (n - 20) / 3 else 8 + (n - 32)

/-- A node Commons gates has an enabled child. -/
def State.nodeChild (s : State) (n : Nat) : Bool :=
  if n < 20 then (List.range 16).any (fun i => let st := s.millState (16 * (n - 16) + i); st == 1 || st == 2 || st == 3)
  else if n < 32 then s.flag (ddrBlk (n - 20)) R.DDR_CTRL_EN
  else (List.range 128).any (fun i => s.laneState (128 * (n - 32) + i) != 0)

/-- A write to CLK_GATE (R545). -/
def clkGateWrite (n : Nat) (v : Word) (s : State) : State :=
  let b := clkBlk + 4 * n
  let on := natBit v.toNat 31
  if n < 16 || (!on && s.nodeChild n) || (on && !s.flag (clkBlk + 4 * nodeParent n) R.CLK_GATE_ON) then
    (if s.flag clkBlk R.CLK_GSTAT_GATE_REFUSED then s else s.wf clkBlk R.CLK_GSTAT_REFUSED_NODE n).setF clkBlk R.CLK_GSTAT_GATE_REFUSED
  else if on then s.setF b R.CLK_GATE_ON
  else (s.clrF b R.CLK_GATE_ON).clrF b R.CLK_GATE_READY

/-- CLK_GATE_WRITE (R545). -/
def execClkGateWrite (r : Req) (n : Fin 36) (v : Word) (s : State) : Host.Outcome State Fault Refusal :=
  .next (s.gated r (clkBlk + R.CLK_GATE + 4 * n.val) true (clkGateWrite n.val v))

/-- CLK_GATE_READY (R545). -/
def execClkGateReady (n : Fin 36) (s : State) : Host.Outcome State Fault Refusal :=
  .next (s.setIf (s.flag (clkBlk + 4 * n.val) R.CLK_GATE_ON) (clkBlk + 4 * n.val) R.CLK_GATE_READY)

/-! ### CLKMON (R546) -/

/-- Nominal frequency of a class in units of 10 kHz (R533). -/
def classFreq : Nat → Nat
  | 1 => 10000 | 2 => 12500 | 3 => 15625 | 4 => 20000 | 5 => 25000 | 6 => 31250 | 7 => 40000 | _ => 0

/-- Mill clock of a mode in MHz (R267). -/
def modeMill : Mode → Nat
  | .harvest => 1200 | .market => 900 | .fallow => 600

/-- Frequency of a CLKMON source as a fraction (numerator in units of 10 kHz, denominator); none for a reserved source or an index that
names nothing. -/
def State.monFreq (s : State) (src idx : Nat) : Option (Nat × Nat) :=
  let act := s.rf clkBlk R.CLK_ROOT_ACTIVE
  match src with
  | 0 => some (if act < 2 then classFreq (s.rf clkBlk (refClassF act)) else 20000, 1)
  | 1 => some (classFreq (s.rf clkBlk (refClassF 0)), 1)
  | 2 => some (classFreq (s.rf clkBlk (refClassF 1)), 1)
  | 3 => some (20000, 1)
  | 4 => some (100000, 1)
  | 5 => if idx < 4 then some (10000, 1) else none
  | 6 => if idx < 4 then some (160000, 1) else none
  | 7 => if idx < 4 then some (100 * modeMill s.mode, 1) else none
  | 8 => if idx < 12 then some (50 * s.rf (fspBlk idx (s.rf (ddrBlk idx) R.DDR_STAT_FSP)) R.DDR_FSP0_RATE, 1) else none
  | 9 =>
    let f := idx % 128
    some (10000 * s.rf (fieldPage f) R.FCK_CTRL_MULT, max 1 (s.rf (fieldPage f + 4 * (idx / 128)) R.FCK_DIV_DIV))
  | _ => none

/-- A write to CLKMON_CTRL (R546): W1C from management; the setting from Commons and PF0, ignored when it would exceed 500 MHz or selects
nothing. -/
def clkmonWrite (r : Req) (v : Word) (s : State) : State :=
  let a := clkBlk + R.CLKMON_CTRL
  let s := s.w1c a 0x40000000 v
  if !(isCommons r || isPf r) then s
  else
    let div := if v.toNat % 4096 = 0 then 4096 else v.toNat % 4096
    let ok := match s.monFreq (natBits v.toNat 27 24) (natBits v.toNat 20 12) with
      | none => false
      | some (n, d) => !natBit v.toNat 31 || decide (n ≤ 50000 * d * div)
    if ok then s.wr a ((s.rd a &&& 0x40000000) ||| (v &&& 0x8F1FFFFF)) else s.setF clkBlk R.CLKMON_CTRL_CLKMON_REFUSED

/-- CLKMON_CTRL_WRITE (R546). -/
def execClkmonCtrlWrite (r : Req) (v : Word) (s : State) : Host.Outcome State Fault Refusal :=
  .next (s.gated r (clkBlk + R.CLKMON_CTRL) true (clkmonWrite r v))

/-! ### Test time counter (R548) -/

/-- TTC_SYNC_MEASURE (R548): the copy of a released die is set. -/
def execTtcSyncMeasure (die : Fin 9) (s : State) : Host.Outcome State Fault Refusal :=
  let d := die.val
  .next (if d = 0 || s.dieDown d then s
    else s.wr (clkBlk + R.TTC_SYNC) (s.rd (clkBlk + R.TTC_SYNC) ||| BitVec.ofNat 32 (2 ^ d)))

end Sys2Proof.Machine
end

