-- ==== Sys2Proof/Machine/Gpio.lean ====
section
/-! DEFINITION. GPIO banks, pin functions and the board-management buses (R566-R580). -/
namespace Sys2Proof.Machine

/-! ### Pins -/

/-- Run state of a bank. -/
def State.bank (s : State) (b : Nat) : BankSt := tabGet (fun _ => {}) s.gpio b
/-- Run state of a bank replaced. -/
def State.setBank (s : State) (b : Nat) (x : BankSt) : State := { s with gpio := tabPut (fun _ => {}) s.gpio b x }

/-- A function a pin may take (R568). -/
def State.funcOk (s : State) (b p func : Nat) : Bool :=
  let mgmt := s.bankOwner b == 0x7F
  match func with
  | 2 => mgmt && decide (p < 4)
  | 3 => mgmt && decide (4 ≤ p ∧ p < 8)
  | 4 => mgmt && decide (8 ≤ p ∧ p < 12)
  | _ => decide (func ≤ 10)

/-- GP_IRQ of a bank (R574): any enabled interrupt status bit. -/
def State.gpIrq (s : State) (b : Nat) : Bool := (s.rd (gpioBlk b + R.GPIO_ISTAT) &&& s.rd (gpioBlk b + R.GPIO_IE)) != 0

/-- Level modes set their status bit while the level holds (R577). -/
def State.gpioLevels (s : State) (b : Nat) : State :=
  (List.range 16).foldl (fun s p =>
    let m := s.pinF b p R.IO_PIN_IMODE
    if (m = 4 ∧ s.pinBit b R.GPIO_IN p = true) ∨ (m = 5 ∧ s.pinBit b R.GPIO_IN p = false) then s.setPinBit b R.GPIO_ISTAT p true
    else s) s

/-- A write to IO_PIN (R568): refused as a whole, or taken with IMODE 6 and 7 stored as 0. -/
def ioPinWrite (b p : Nat) (v : Word) (s : State) : State :=
  if !s.funcOk b p (wordBits v 3 0) then s.setF (gpioBlk b) R.GPIO_STAT_MUX_REFUSED
  else
    let w := v &&& 0x7EFF1FFF
    let w := if wordBits w 12 10 ≥ 6 then wordSet w 12 10 0 else w
    (s.wr (gpioBlk b + R.IO_PIN + 4 * p) w).gpioLevels b

/-- IO_PIN_WRITE (R568). -/
def execIoPinWrite (r : Req) (b : Fin 24) (p : Fin 16) (v : Word) (s : State) : Host.Outcome State Fault Refusal :=
  .next (s.gated r (gpioBlk b.val + R.IO_PIN + 4 * p.val) true (ioPinWrite b.val p.val v))

/-! ### GPIO (R575-R577) -/

/-- OUT changed by SET, CLR and TGL. -/
def gpioOut (b : Nat) (g : Word → Word) (s : State) : State :=
  s.wr (gpioBlk b + R.GPIO_OUT) (g (s.rd (gpioBlk b + R.GPIO_OUT)) &&& 0xFFFF)
/-- A write to GPIO_SET. -/
def gpioSet (b : Nat) (v : Word) (s : State) : State := gpioOut b (fun w => w ||| v) s
/-- A write to GPIO_CLR. -/
def gpioClr (b : Nat) (v : Word) (s : State) : State := gpioOut b (fun w => w &&& ~~~v) s
/-- A write to GPIO_TGL. -/
def gpioTgl (b : Nat) (v : Word) (s : State) : State := gpioOut b (fun w => w ^^^ v) s

/-- GPIO_SET (R575). -/
def execGpioSet (r : Req) (b : Fin 24) (v : Word) (s : State) : Host.Outcome State Fault Refusal :=
  .next (s.gated r (gpioBlk b.val + R.GPIO_SET) true (gpioSet b.val v))
/-- GPIO_CLR (R575). -/
def execGpioClr (r : Req) (b : Fin 24) (v : Word) (s : State) : Host.Outcome State Fault Refusal :=
  .next (s.gated r (gpioBlk b.val + R.GPIO_CLR) true (gpioClr b.val v))
/-- GPIO_TGL (R575). -/
def execGpioTgl (r : Req) (b : Fin 24) (v : Word) (s : State) : Host.Outcome State Fault Refusal :=
  .next (s.gated r (gpioBlk b.val + R.GPIO_TGL) true (gpioTgl b.val v))

/-- A filtered input takes a new value (R576, R577). -/
def gpioInput (b p : Nat) (v : Bool) (s : State) : State :=
  if s.dieDown (1 + b / 6) then s
  else
    let old := s.pinBit b R.GPIO_IN p
    let s := (s.setPinBit b R.GPIO_RAW p v).setPinBit b R.GPIO_IN p v
    let m := s.pinF b p R.IO_PIN_IMODE
    let edge := (v && !old && (m == 1 || m == 3)) || (!v && old && (m == 2 || m == 3))
    (if edge then s.setPinBit b R.GPIO_ISTAT p true else s).gpioLevels b

/-- GPIO_INPUT_CHANGE (R576, R577). -/
def execGpioInputChange (b : Fin 24) (p : Fin 16) (v : Bool) (s : State) : Host.Outcome State Fault Refusal :=
  .next (gpioInput b.val p.val v s)

/-- TRIG_IN_EDGE (R573): the edge of a filtered input that stands high. -/
def execTrigInEdge (b : Fin 24) (p : Fin 16) (s : State) : Host.Outcome State Fault Refusal :=
  let b := b.val
  let p := p.val
  let c := s.pinF b p R.IO_PIN_ARG
  .next (if s.pinFunc b p == 5 && s.pinBit b R.GPIO_IN p && decide (c < 16) && !s.dieDown (1 + b / 6) then s.xtFireBy c (s.bankOwner b)
    else s)

/-- Pulses of the TRIG_OUT pins of a channel (R573). -/
def State.trigOut (s : State) (c : Nat) : State :=
  (List.range 384).foldl (fun s i =>
    let b := i / 16
    let p := i % 16
    if s.pinFunc b p == 6 && s.pinF b p R.IO_PIN_ARG == c && s.bankOwner b == s.xtOwner c && s.pinShows b p == .low then
      s.emit (.pinPulse b p)
    else s) s

/-! ### I2C (R570) -/

/-- A write to I2C_CMD. -/
def i2cGo (b : Nat) (v : Word) (s : State) : State :=
  let a := gpioBlk b
  if !natBit v.toNat 31 || s.flag a R.I2C_STAT_BUSY || !s.flag a R.I2C_CTRL_EN then s
  else
    let nrd := wordBits v 12 8
    let nwr := wordBits v 4 0
    if nrd > 16 ∨ nwr > 16 ∨ nrd + nwr = 0 then s.setF a R.I2C_STAT_REFUSED
    else
      let tx := (List.range nwr).map (fun i =>
        BitVec.ofNat 8 ((s.rd (a + R.I2C_TXBUF + 4 * (i / 4))).toNat / 256 ^ (i % 4)))
      ((s.setBank b { s.bank b with i2c := some v }).setF a R.I2C_STAT_BUSY).emit (.i2c b v tx)

/-- I2C_GO (R570). -/
def execI2cGo (r : Req) (b : Fin 24) (v : Word) (s : State) : Host.Outcome State Fault Refusal :=
  .next (s.gated r (gpioBlk b.val + R.I2C_CMD) true (i2cGo b.val v))

/-- Byte `i` of a buffer of registers replaced. -/
def State.bufByte (s : State) (a i : Nat) (d : Byte) : State :=
  let w := a + 4 * (i / 4)
  s.wr w (wordSet (s.rd w) (8 * (i % 4) + 7) (8 * (i % 4)) d.toNat)

/-- Bytes put into a buffer from its start. -/
def State.bufBytes (s : State) (a : Nat) (l : List Byte) : State :=
  (List.range l.length).foldl (fun s i => s.bufByte a i (l.getD i 0)) s

/-- The end of a transaction: `n` bytes written and read, and the bytes read. A count of 32 does not fit I2C_CNT, and R570 states no value for
it: a free value (log entry 23). -/
def i2cEnd (b : Nat) (f : Option Fld) (n : Nat) (rx : List Byte) (s : State) : State :=
  match (s.bank b).i2c with
  | none => s
  | some v =>
    let a := gpioBlk b
    let nwr := wordBits v 4 0
    let n := min n (nwr + wordBits v 12 8)
    let x := if n = 32 then s.fresh.1 % 32 else n
    let s := if n = 32 then s.fresh.2 else s
    let s := ((s.setBank b { s.bank b with i2c := none }).clrF a R.I2C_STAT_BUSY).wf a R.I2C_CNT_COUNT x
    let s := s.bufBytes (a + R.I2C_RXBUF) (rx.take (n - nwr))
    let s := match f with | some f => s.setF a f | none => s
    s.setF a R.I2C_STAT_DONE

/-- I2C_DONE (R570): a normal end has transferred every byte. -/
def execI2cDone (b : Fin 24) (e : I2cEnd) (n : Fin 33) (rx : List Byte) (s : State) : Host.Outcome State Fault Refusal :=
  .next (match e with
    | .ok => i2cEnd b.val none 32 rx s
    | .nackAddr => i2cEnd b.val (some R.I2C_STAT_NACK_ADDR) n.val rx s
    | .nackData => i2cEnd b.val (some R.I2C_STAT_NACK_DATA) n.val rx s
    | .arbLost => i2cEnd b.val (some R.I2C_STAT_ARB_LOST) n.val rx s
    | .busStuck => i2cEnd b.val (some R.I2C_STAT_BUS_STUCK) n.val rx s)

/-- I2C_STRETCH_TIMEOUT (R570). -/
def execI2cStretchTimeout (b : Fin 24) (n : Fin 33) (rx : List Byte) (s : State) : Host.Outcome State Fault Refusal :=
  .next (i2cEnd b.val (some R.I2C_STAT_TIMEOUT) n.val rx s)

/-! ### SPI (R571) -/

/-- A write to SPI_CMD. -/
def spiGo (b : Nat) (v : Word) (s : State) : State :=
  let a := gpioBlk b
  let len := wordBits v 6 0
  if !natBit v.toNat 31 then s
  else if len = 0 ∨ len > 64 ∨ s.flag a R.SPI_STAT_BUSY = true then s.setF a R.SPI_STAT_REFUSED
  else if !s.flag a R.SPI_CTRL_EN then s
  else
    let tx := (List.range len).map (fun i => BitVec.ofNat 8 ((s.rd (a + R.SPI_BUF + 4 * (i / 4))).toNat / 256 ^ (i % 4)))
    ((s.setBank b { s.bank b with spi := some v, csLow := true }).setF a R.SPI_STAT_BUSY).emit (.spi b tx)

/-- SPI_GO (R571). -/
def execSpiGo (r : Req) (b : Fin 24) (v : Word) (s : State) : Host.Outcome State Fault Refusal :=
  .next (s.gated r (gpioBlk b.val + R.SPI_CMD) true (spiGo b.val v))

/-- SPI_DONE (R571): the bytes of MISO stand in SPI_BUF. -/
def execSpiDone (b : Fin 24) (rx : List Byte) (s : State) : Host.Outcome State Fault Refusal :=
  .next (match (s.bank b.val).spi with
    | none => s
    | some v =>
      let a := gpioBlk b.val
      let s := s.setBank b.val { s.bank b.val with spi := none, csLow := natBit v.toNat 30 }
      ((s.bufBytes (a + R.SPI_BUF) ((rx ++ List.replicate 64 0).take (wordBits v 6 0))).clrF a R.SPI_STAT_BUSY).setF a R.SPI_STAT_DONE)

/-! ### UART (R572) -/

/-- A bank's UART state stored, with the levels it shows. -/
def State.setUart (s : State) (b : Nat) (x : BankSt) : State :=
  let a := gpioBlk b
  let s := ((s.setBank b x).wf a R.UART_STAT_TX_LEVEL x.tx.length).wf a R.UART_STAT_RX_LEVEL x.rx.length
  (s.wf a R.UART_STAT_TX_EMPTY (b2n x.tx.isEmpty)).wf a R.UART_STAT_RX_AVAIL (b2n !x.rx.isEmpty)

/-- The next byte starts unless the UART sends, is off or flow control holds it. -/
def uartStart (b : Nat) (s : State) : State :=
  let x := s.bank b
  let a := gpioBlk b
  match x.tx, x.sending with
  | d :: t, none =>
    if s.flag a R.UART_CTRL_EN && !(s.flag a R.UART_CTRL_FLOW && x.ctsHigh) then
      (s.setUart b { x with tx := t, sending := some d }).emit (.uartTx b d)
    else s
  | _, _ => s

/-- A write to UART_TX. -/
def uartTx (b : Nat) (v : Word) (s : State) : State :=
  let x := s.bank b
  if x.tx.length ≥ 32 then s.setF (gpioBlk b) R.UART_STAT_TX_OVF
  else uartStart b (s.setUart b { x with tx := x.tx ++ [BitVec.ofNat 8 v.toNat] })

/-- UART_TX (R572). -/
def execUartTx (r : Req) (b : Fin 24) (v : Word) (s : State) : Host.Outcome State Fault Refusal :=
  .next (s.gated r (gpioBlk b.val + R.UART_TX) true (uartTx b.val v))

/-- UART_TX_BYTE_SENT (R572). -/
def execUartTxByteSent (b : Fin 24) (s : State) : Host.Outcome State Fault Refusal :=
  .next (if (s.bank b.val).sending.isSome then uartStart b.val (s.setBank b.val { s.bank b.val with sending := none }) else s)

/-- A received byte with its flags. -/
def uartRxWord (d : Byte) (fe pe brk : Bool) : Word :=
  BitVec.ofNat 32 (b2n brk * 2 ^ 11 + b2n pe * 2 ^ 10 + b2n fe * 2 ^ 9 + 2 ^ 8 + (if brk then 0 else d.toNat))

/-- A frame received. -/
def uartRx (b : Nat) (d : Byte) (fe pe brk : Bool) (s : State) : State :=
  let a := gpioBlk b
  let x := s.bank b
  if !s.flag a R.UART_CTRL_EN then s
  else
    let pe := pe && s.rf a R.UART_CTRL_PARITY != 0
    let s := ((s.setIf fe a R.UART_STAT_FRAME_ERR).setIf pe a R.UART_STAT_PARITY_ERR).setIf brk a R.UART_STAT_BREAK
    if x.rx.length ≥ 32 then s.setF a R.UART_STAT_RX_OVF
    else s.setUart b { x with rx := x.rx ++ [uartRxWord d fe pe brk] }

/-- UART_RX_BYTE (R572). -/
def execUartRxByte (b : Fin 24) (d : Byte) (frameErr parityErr brk : Bool) (s : State) : Host.Outcome State Fault Refusal :=
  .next (uartRx b.val d frameErr parityErr brk s)

/-- A read of UART_RX: the oldest byte popped, 0 from an empty FIFO. -/
def State.uartPop (s : State) (b : Nat) : Word × State :=
  match (s.bank b).rx with
  | [] => (0, s)
  | w :: t => (w, s.setUart b { s.bank b with rx := t })

/-- UART_RX (R572). -/
def execUartRx (r : Req) (b : Fin 24) (s : State) : Host.Outcome State Fault Refusal :=
  let a := gpioBlk b.val + R.UART_RX
  .next (s.gatedBy r a false (fun s => let (w, s) := s.uartPop b.val; s.answer r a .ok [w]))

/-- CTS_N_CHANGE (R572). -/
def execCtsNChange (b : Fin 24) (v : Bool) (s : State) : Host.Outcome State Fault Refusal :=
  .next (uartStart b.val (s.setBank b.val { s.bank b.val with ctsHigh := v }))

/-- A management bank's enabled status bits (R569, R577). -/
def State.bankIrq (s : State) (b : Nat) : Bool :=
  let a := gpioBlk b
  let on (x y : Nat) : Bool := (s.rd (a + x) &&& s.rd (a + y)) != 0
  s.bankOwner b == 0x7F && !s.dieDown (1 + b / 6) &&
    (s.gpIrq b || on R.I2C_STAT_DONE.ofs R.I2C_IE || on R.SPI_STAT_DONE.ofs R.SPI_IE || on R.UART_STAT_TX_EMPTY.ofs R.UART_IE)

end Sys2Proof.Machine
end

