-- ==== Sys2Proof/Machine/Cores.lean ====
section
/-! DEFINITION. Management cores: register windows, traps, interrupts, Commons restarts and the Reeve's watchdog (R415-R430), and the run
control of Commons cores (R476). -/
namespace Sys2Proof.Machine

/-! ### Cores -/

/-- Register block of core `c`. -/
def coreBlk (c : Nat) : Nat := mgmtBlk + 0x10 * c
/-- A core. -/
def State.core (s : State) (c : Nat) : CoreSt := tabGet (fun _ => {}) s.cores.core c
/-- A core replaced. -/
def State.setCore (s : State) (c : Nat) (x : CoreSt) : State :=
  { s with cores := { s.cores with core := tabPut (fun _ => {}) s.cores.core c x } }
/-- STATE of a core (R431): 0 RESET, 1 RUN, 2 WAIT, 3 HALT_DEBUG, 4 HALT_DTRAP, 5 HELD. -/
def State.coreState (s : State) (c : Nat) : Nat := s.rf (coreBlk c) R.CMN_CORE_STAT_STATE
/-- A core that executes. -/
def State.coreRuns (s : State) (c : Nat) : Bool := s.coreState c == 1 || s.coreState c == 2
/-- A core in HALT_DEBUG suspends the watchdogs (R476). -/
def State.coreHeldByDebug (s : State) : Bool := [0, 1, 2, 3].any (fun c => s.coreState c == 3)
/-- Trap depth and window pointer. -/
def State.coreTd (s : State) (c : Nat) : Bool := s.flag (coreBlk c) R.CMN_CORE_STAT_TD
def State.coreWp (s : State) (c : Nat) : Nat := s.rf (coreBlk c) R.CMN_CORE_STAT_WP
/-- State of Commons (R389): 0 NOT_STARTED, 1 RUNNING, 2 RESTARTING, 3 HALTED. -/
def State.hbState (s : State) : Nat := s.rf mbxHub R.COMMONS_HB_STATE
/-- The session is at level L3 (R462). -/
def State.atL3 (s : State) : Bool := s.rf dlocBlk R.DBG_SESSION_LEVEL == 3

/-- A core's halt recorded, with the event it gives a mapped channel (R469, R476). -/
def State.coreHalt (s : State) (c st : Nat) : State :=
  let b := coreBlk c
  let s := (s.wf b R.CMN_CORE_STAT_STATE st).wr64 (b + R.CMN_CORE_PC_LO) (s.core c).pc.toNat
  s.xtFireMgmt (s.flag dbgBlk R.DBG_CORE_XT_OUT_EN) (s.rf dbgBlk R.DBG_CORE_XT_OUT_CH)

/-! ### Restarts (R423-R425) -/

/-- The image slots (R426): 0 A, 1 B. -/
def State.slotOf (s : State) (n : Nat) : SlotSt := if n = 0 then s.cores.slotA else s.cores.slotB

/-- DATA of a Commons record (R583). -/
def State.cmnData (s : State) (core : Nat) : Nat :=
  (s.rd (mgmtBlk + R.CMN_RST_STAT)).toNat + (s.rd (coreBlk core + R.CMN_CORE_PC_LO)).toNat * 2 ^ 32

/-- A cause of a restart (R423-R425). A restart in progress absorbs it; HALTED is left only by DEBUG. The fourth restart of an image within
60 s runs the other slot or leaves Commons halted. -/
def State.cmnRestart (s : State) (cause core : Nat) : State :=
  if s.hbState = 0 then s
  else if s.hbState = 2 then s.cnt (mgmtBlk + R.CMN_RESTART_CNT) 1
  else if s.hbState = 3 ∧ cause ≠ 5 then s
  else
    let b := mgmtBlk
    let times := if s.hbState = 3 then [] else s.cores.times.filter (fun t => decide (s.now ≤ t + 60000000000))
    let fourth := decide (3 ≤ times.length)
    let other := 1 - s.rf b R.CMN_RST_STAT_SLOT
    let fall := fourth && !s.flag b R.CMN_RST_STAT_FALLBACK && (s.slotOf other).valid
    let s := (s.wf b R.CMN_RST_STAT_LAST_CAUSE cause).wf b R.CMN_RST_STAT_CORE core
    let s := if cause = 1 then s.wf b R.CMN_RST_STAT_HALT_CODE (s.rf (coreBlk core) R.CMN_CORE_STAT_HALT_CODE) else s
    let s := if fall then (s.setF b R.CMN_RST_STAT_FALLBACK).wf b R.CMN_RST_STAT_SLOT other else s
    let s := { s with cores := { s.cores with times := if fall then [] else times ++ [s.now] } }
    let s := s.cnt (b + R.CMN_RESTART_CNT) 1
    let s := [0, 1, 2, 3].foldl (fun s c => if s.coreRuns c then s.wf (coreBlk c) R.CMN_CORE_STAT_STATE 5 else s) s
    if fourth && !fall then
      let s := [0, 1, 2, 3].foldl (fun s c => s.wf (coreBlk c) R.CMN_CORE_STAT_STATE 5) s
      (s.wf mbxHub R.COMMONS_HB_STATE 3).recordO 0x0031 (locator 11 0) (s.cmnData core)
    else (s.wf mbxHub R.COMMONS_HB_STATE 2).recordO 0x0030 (locator 11 0) (s.cmnData core)

/-! ### Traps (R419-R421) -/

/-- Trap types of R420. -/
def trapTypes : List Nat := [1, 2, 3, 4, 5, 6, 8, 0x10, 0x11]

/-- A trap taken (R419), or, at TD = 1, the double trap of R421. -/
def State.coreTrap (s : State) (c typ : Nat) (pc : DWord) : State :=
  let b := coreBlk c
  let x := s.core c
  if s.coreTd c then
    let s := (s.setCore c { x with pc := pc }).wf b R.CMN_CORE_STAT_HALT_CODE (x.typ * 256 + typ)
    ((s.coreHalt c 4).emit .reeveNmi).cmnRestart 1 c
  else
    let s := s.setCore c { x with tpc := pc, tst := x.st, twp := s.coreWp c, tmask := x.mask, mask := true, typ := typ,
                                  pc := BitVec.ofNat 64 (Config.trapVector typ) }
    (s.setF b R.CMN_CORE_STAT_TD).wf b R.CMN_CORE_STAT_WP 7

/-- The instruction at `pc` has completed: the core goes on behind it. -/
def CoreSt.past (x : CoreSt) (pc : DWord) : CoreSt := { x with pc := pc + BitVec.ofNat 64 Config.coreInstrLen }

/-- WIN.ENTER (R419). -/
def winEnter (c : Nat) (pc : DWord) (s : State) : State :=
  if s.coreState c ≠ 1 then s
  else
    let x := s.core c
    let wp := s.coreWp c
    let base := if wp = 7 then x.twp else wp
    let next := (base + 1) % 7
    if x.live.contains next then s.coreTrap c 1 pc
    else
      let live := if x.live.contains base || base == 7 then x.live else x.live ++ [base]
      (s.setCore c ({ x with live := live ++ [next] }.past pc)).wf (coreBlk c) R.CMN_CORE_STAT_WP next

/-- WIN_ENTER (R419). -/
def execWinEnter (c : Fin 4) (pc : DWord) (s : State) : Host.Outcome State Fault Refusal := .next (winEnter c.val pc s)

/-- WIN.LEAVE (R419): a window entered from window 7 leads back to it. -/
def winLeave (c : Nat) (pc : DWord) (s : State) : State :=
  if s.coreState c ≠ 1 then s
  else
    let x := s.core c
    let wp := s.coreWp c
    if wp = 7 then s.setCore c (x.past pc)
    else
      let freed := { x with live := x.live.filter (fun w => w != wp) }.past pc
      if s.coreTd c && wp == (x.twp + 1) % 7 then (s.setCore c freed).wf (coreBlk c) R.CMN_CORE_STAT_WP 7
      else
        let p := (wp + 6) % 7
        if !x.live.contains p && !x.stack.isEmpty then s.coreTrap c 2 pc
        else (s.setCore c freed).wf (coreBlk c) R.CMN_CORE_STAT_WP p

/-- WIN_LEAVE (R419). -/
def execWinLeave (c : Fin 4) (pc : DWord) (s : State) : Host.Outcome State Fault Refusal := .next (winLeave c.val pc s)

/-- CORE_TRAP (R419, R421, R428, R476): a breakpoint halts its core at L3 and is passed over below it. -/
def execCoreTrap (c : Fin 4) (typ : BitVec 8) (pc : DWord) (s : State) : Host.Outcome State Fault Refusal :=
  let t := typ.toNat
  .next (if s.coreState c.val != 1 || !trapTypes.contains t then s
    else if t = 0x10 ∧ (s.coreTd c.val || (s.core c.val).mask) = true then s
    else if t = 8 then
      if s.atL3 then (s.setCore c.val { s.core c.val with pc := pc }).coreHalt c.val 3
      else s.cnt (mgmtBlk + R.PATCH_TRAP_SKIP) 1
    else s.coreTrap c.val t pc)

/-- Registers of a window. -/
def CoreSt.frame (x : CoreSt) (w : Nat) : List DWord := (List.range 16).map (fun i => tabGet (fun _ => 0) x.win (16 * w + i))

/-- A frame put back into a window. -/
def CoreSt.unframe (x : CoreSt) (w : Nat) (f : List DWord) : CoreSt :=
  { x with win := (List.range 16).foldl (fun t i => tabPut (fun _ => 0) t (16 * w + i) (f.getD i 0)) x.win }

/-- What the handler of a trap type did before it leaves (R419): the spill handler wrote the oldest live frame to the memory stack and freed
its window; the fill handler read the newest frame back into the window below. -/
def CoreSt.handled (x : CoreSt) : CoreSt :=
  if x.typ = 1 then
    match x.live with
    | w :: l => { x with stack := x.frame w :: x.stack, live := l }
    | [] => x
  else if x.typ = 2 then
    let p := (x.twp + 6) % 7
    match x.stack with
    | f :: k => { x.unframe p f with stack := k, live := p :: x.live }
    | [] => x
  else x

/-- TRAP.RET (R419). -/
def trapRet (c : Nat) (s : State) : State :=
  if s.coreState c ≠ 1 ∨ s.coreTd c = false then s
  else
    let x := s.core c
    let y := x.handled
    let s := s.setCore c { y with pc := x.tpc, st := x.tst, mask := x.tmask, typ := 0 }
    (s.clrF (coreBlk c) R.CMN_CORE_STAT_TD).wf (coreBlk c) R.CMN_CORE_STAT_WP x.twp

/-- TRAP_RET (R419). -/
def execTrapRet (c : Fin 4) (s : State) : Host.Outcome State Fault Refusal := .next (trapRet c.val s)

/-! ### Interrupts (R422) -/

/-- Any block that interrupts management has an enabled status bit set (R300, R422, R569): FCUs, DRAM controllers, junctions, bridges, management's
GPIO banks and key slot (R360), and the lanes, whose LANE_IE raises Commons' interrupt too (R179). -/
def State.blockIrq (s : State) : Bool :=
  let on (a b : Nat) : Bool := (s.rd a &&& s.rd b) != 0
  (List.range 32).any (fun n => on (fcuBlk n + R.FCU_STAT) (fcuBlk n + R.FCU_IE)) ||
  (List.range 24).any (fun b => s.bankIrq b) ||
  (List.range 512).any (fun l => on (laneBlk l + R.LANE_STAT) (laneBlk l + R.LANE_IE)) ||
  on (encBlk 64 + R.ENC_STAT) (encBlk 64 + R.ENC_IE) ||
  (List.range 12).any (fun c => on (ddrBlk c + R.DDR_STAT_CE.ofs) (ddrBlk c + R.DDR_IE)) ||
  junctionPos.any (fun p => on (spineBlk p + R.RING_STAT_DENY.ofs) (spineBlk p + R.RING_IE)) ||
  (List.range 8).any (fun i => [17, 2, 28, 33].any (fun p =>
    on (stopBlk (i / 2) (i % 2) p + R.RING_STAT_DENY.ofs) (stopBlk (i / 2) (i % 2) p + R.RING_IE)))

/-- Level of an interrupt source. The core's timer is no state of the manual's: its expiry is the command. -/
def State.coreSource (s : State) (n : Nat) : Bool :=
  match n with
  | 0 => s.dbPend 65 != 0
  | 1 => (List.range 64).any (fun i => s.flag (incBlk i) R.INC_STAT_VALID && !s.flag (incBlk i) R.INC_STAT_TAKEN) 
  | 2 => s.blockIrq
  | _ => true

/-- Core a source is routed to. -/
def State.irqRoute (s : State) (n : Nat) : Nat := natBits (s.rd (mgmtBlk + R.CMN_IRQ_ROUTE)).toNat (2 * n + 1) (2 * n)

/-- CORE_INTERRUPT (R419, R422). -/
def execCoreInterrupt (c src : Fin 4) (pc : DWord) (s : State) : Host.Outcome State Fault Refusal :=
  .next (if s.coreRuns c.val && !s.coreTd c.val && !(s.core c.val).mask && s.irqRoute src.val == c.val && s.coreSource src.val then
      (s.wf (coreBlk c.val) R.CMN_CORE_STAT_STATE 1).coreTrap c.val 0x10 pc
    else s)

/-! ### Watchdogs (R423, R430, R476) -/

/-- A core's watchdog refreshed. -/
def coreKick (c : Nat) (s : State) : State := s.setCore c { s.core c with kick := s.now }

/-- CMN_CORE_KICK (R423). -/
def execCmnCoreKick (r : Req) (c : Fin 4) (_v : Word) (s : State) : Host.Outcome State Fault Refusal :=
  .next (s.gated r (coreBlk c.val + R.CMN_CORE_KICK) true (coreKick c.val))

/-- CORE_WDT_EXPIRE (R423, R424, R476). -/
def execCoreWdtExpire (c : Fin 4) (s : State) : Host.Outcome State Fault Refusal :=
  .next (if s.flag mgmtBlk R.CMN_WDT_CORE_WDT_EN && s.hbState == 1 && s.coreRuns c.val && !s.coreHeldByDebug &&
      decide ((s.core c.val).kick + 1000000 * s.rf mgmtBlk R.CMN_WDT_CORE_LIMIT ≤ s.now) then s.cmnRestart 3 c.val else s)

/-- AGE of COMMONS_HB (R389): tens of µs since SEQ last changed, saturating. -/
def State.hbAge (s : State) : Nat := min 16383 ((s.now - s.host.hbAt) / 10000)

/-- HB_WDT_EXPIRE (R423, R476). -/
def execHbWdtExpire (s : State) : Host.Outcome State Fault Refusal :=
  .next (if s.hbState == 1 && !s.coreHeldByDebug && decide (100 * s.rf mgmtBlk R.CMN_WDT_HB_LIMIT < s.hbAge) then s.cmnRestart 2 0
    else s)

/-- REEVE_WDT_EXPIRE (R430). -/
def execReeveWdtExpire (s : State) : Host.Outcome State Fault Refusal :=
  .next (if s.start.hold || s.rf mgmtBlk R.REEVE_STAT_STATE == 2 then s
    else (s.wf mgmtBlk R.REEVE_STAT_STATE 2).cntF mgmtBlk R.REEVE_STAT_RESTART_CNT 1)

/-- REEVE_RESTART_DONE (R430). -/
def execReeveRestartDone (s : State) : Host.Outcome State Fault Refusal :=
  .next (if s.rf mgmtBlk R.REEVE_STAT_STATE == 2 then
      (s.wf mgmtBlk R.REEVE_STAT_STATE 1).recordO 0x0032 (locator 11 0) (s.cmnData 0)
    else s)

/-! ### Run control (R476) -/

/-- A core halted by debug. -/
def State.dbgCoreHalt (s : State) (c : Nat) : State := if s.coreRuns c then s.coreHalt c 3 else s

/-- A core run. The first core run after a held start makes Commons RUNNING. -/
def State.dbgCoreRun (s : State) (c : Nat) : State :=
  if s.coreState c ≠ 3 then s
  else
    let s := (s.wf (coreBlk c) R.CMN_CORE_STAT_STATE 1).setCore c { s.core c with kick := s.now }
    if s.hbState = 0 then { s.wf mbxHub R.COMMONS_HB_STATE 1 with host := { s.host with hbAt := s.now } } else s

/-- A core stepped: the program counter it stops at is open. -/
def State.dbgCoreStep (s : State) (c : Nat) : State :=
  if s.coreState c ≠ 3 then s
  else
    let (v, s) := s.fresh
    let pc := BitVec.ofNat 64 v
    (s.setCore c { s.core c with pc := pc }).wr64 (coreBlk c + R.CMN_CORE_PC_LO) pc.toNat

/-- A write to DBG_CORE_CMD: of the bits of one core, HALT acts before RUN and RUN before STEP. -/
def coreCmd (v : Word) (s : State) : State :=
  [0, 1, 2, 3].foldl (fun s c =>
    if natBit v.toNat c then s.dbgCoreHalt c
    else if natBit v.toNat (4 + c) then s.dbgCoreRun c
    else if natBit v.toNat (8 + c) then s.dbgCoreStep c
    else s) s

/-- DBG_CORE_HALT (R476). -/
def execDbgCoreHalt (r : Req) (v : Word) (s : State) : Host.Outcome State Fault Refusal :=
  .next (s.gated r (dbgBlk + R.DBG_CORE_CMD) true (coreCmd v))
/-- DBG_CORE_RUN (R476). -/
def execDbgCoreRun (r : Req) (v : Word) (s : State) : Host.Outcome State Fault Refusal :=
  .next (s.gated r (dbgBlk + R.DBG_CORE_CMD) true (coreCmd v))
/-- DBG_CORE_STEP (R476). -/
def execDbgCoreStep (r : Req) (v : Word) (s : State) : Host.Outcome State Fault Refusal :=
  .next (s.gated r (dbgBlk + R.DBG_CORE_CMD) true (coreCmd v))

/-! ### Patches (R428, R429) -/

/-- A record the Reeve refuses beside its signature (R429). -/
def patchBad (l : List PatchEnt) : Bool :=
  decide (32 < l.length) ||
  !(decide ((l.map (fun e => (e.commons, e.word))).Nodup)) ||
  !(decide (((l.filter (fun e => !e.trap)).map (·.slot)).Nodup))

/-- Entries of an accepted record in force, replacing all others (R429). -/
def State.patchLoad (s : State) (level : Nat) (l : List PatchEnt) (ram : List (BitVec 256)) : State :=
  let ent (e : PatchEnt) : Word :=
    BitVec.ofNat 32 (2 ^ 31 + b2n e.commons * 2 ^ 30 + b2n e.trap * 2 ^ 29 + e.slot.val * 2 ^ 24 + e.word.toNat)
  let s := (List.range 32).foldl (fun s i => s.wr (mgmtBlk + R.PATCH_ENT + 4 * i) (((l[i]?).map ent).getD 0)) s
  let s := (s.wf mgmtBlk R.PATCH_STAT_VALID l.length).wf mgmtBlk R.PATCH_STAT_LEVEL level
  { s with cores := { s.cores with pram := (List.range 32).foldl (fun t i => tabPut (fun _ => 0) t i (ram.getD i 0)) [] } }

end Sys2Proof.Machine
end

