-- ==== Sys2Proof/Machine/Parish.lean ====
section
/-! DEFINITION. Meanings of the parish register's and fault concentrator's commands (chapter "Parish register and fault
concentrator"). -/
namespace Sys2Proof.Machine

/-! ### Staging by firmware (R591) -/

/-- GO in a PAR_IN set: stage its record with TIME from the calendar, REPEAT 1 and SPAN 0. -/
def parInGo (m : Nat) (v : Word) (s : State) : State :=
  if !natBit v.toNat 31 then s
  else
    let b := parishBlk + 0x20 * m
    s.record (s.rf b R.PAR_IN_A_CODE) (s.rf b R.PAR_IN_A_SOURCE) (s.rf b R.PAR_IN_B_SEVERITY) (s.rf b R.PAR_IN_B_SITE)
      (s.rd64 (b + R.PAR_IN_D_LO))

/-- PAR_IN_GO (R591); set m accepts writes only from MID m (R599). -/
def execParInGo (r : Req) (m : Fin 5) (v : Word) (s : State) : Host.Outcome State Fault Refusal :=
  .next (s.gated r (parishBlk + 0x20 * m.val + R.PAR_IN_GO) true (parInGo m.val v))

/-! ### Flash (R586-R588) -/

/-- A flash slot. -/
def State.slot (s : State) (i : Nat) : FlashSlot := tabGet (fun _ => FlashSlot.erased) s.par.flash (i % 8388608)

/-- Erase a block (R587): its records are no longer held; those after PAR_MARK are counted as lost. -/
def State.eraseBlock (s : State) (b : Nat) : State :=
  let mark := (s.rd (parishBlk + R.PAR_MARK)).toNat
  let inB (k : Nat) : Bool := k / 2048 == b
  let lost := (s.par.flash.filter (fun e => inB e.1 && (match e.2 with
    | .held r => seqAfter r.seq mark | _ => false))).length
  let s := { s with par := { s.par with flash := tabKeep s.par.flash (fun k => !inB k) } }
  if lost = 0 then s
  else (s.cnt (parishBlk + R.PAR_UNREAD_LOST_CNT) lost).setF parishBlk R.PAR_STAT_UNREAD_LOST

/-- A slot programmed. -/
def State.putSlot (s : State) (r : PRec) : State :=
  { s with par := { s.par with
      flash := tabPut (fun _ => FlashSlot.erased) s.par.flash (r.seq % 8388608) (.held r) } }

/-- Write one record; the first event record of a block is preceded by the erase of the next block and by the block's
header, whose DATA holds its own sequence and PAR_MARK (R583, R586, R587). -/
def flushRec (s : State) (r : PRec) : State :=
  let s :=
    if r.seq % 2048 = 1 then
      let blk := (r.seq % 8388608) / 2048
      let s := s.eraseBlock ((blk + 1) % 4096)
      let old := (s.rd (parishBlk + R.PAR_SEQ_OLD)).toNat
      let s := if seqAfter ((r.seq + 2 ^ 32 - 8382464 - 1) % 2 ^ 32) old
               then s.wf parishBlk R.PAR_SEQ_OLD_SEQ ((r.seq + 2 ^ 32 - 8384512 - 1 + 2048) % 2 ^ 32) else s
      let h := (r.seq + 2 ^ 32 - 1) % 2 ^ 32
      s.putSlot ⟨h, s.calTime, s.calTime, 0x0001, locator 14 0, 0, 0x7F, 1,
        h + (s.rd (parishBlk + R.PAR_MARK)).toNat * 2 ^ 32⟩
    else s
  (s.putSlot r).wf parishBlk R.PAR_SEQ_FLASH_SEQ ((r.seq + 1) % 2 ^ 32)

/-- Flush staging to flash (R585, R588): a failed program or erase sets FLASH_ERR and keeps the records; before the scan
nothing is written; without an area the records stay in the hub ring alone. -/
def State.flush (s : State) (fail : Bool) : State :=
  if s.par.area && !s.par.scanned then s
  else if s.par.area && fail && !s.par.staging.isEmpty then s.setF parishBlk R.PAR_STAT_FLASH_ERR
  else
    let l := s.par.staging
    let s := if s.par.area then l.foldl flushRec s else s
    ({ s with par := { s.par with staging := [] } }).wf parishBlk R.PAR_STAGED_COUNT 0

/-- PARISH_FLUSH (R585). -/
def execParishFlush (fail : Bool) (s : State) : Host.Outcome State Fault Refusal := .next (s.flush fail)

/-- Latest valid block header in flash (R588). -/
def latestHeader (t : Tab FlashSlot) : Option PRec :=
  t.foldl (fun best e => match e.2 with
    | .held r =>
      if e.1 % 2048 = 0 && r.code == 1 then
        match best with
        | none => some r
        | some o => if seqAfter r.seq o.seq then some r else best
      else best
    | _ => best) none

/-- Earliest valid block header in flash. -/
def earliestHeader (t : Tab FlashSlot) : Option PRec :=
  t.foldl (fun best e => match e.2 with
    | .held r =>
      if e.1 % 2048 = 0 && r.code == 1 then
        match best with
        | none => some r
        | some o => if seqAfter o.seq r.seq then some r else best
      else best
    | _ => best) none

/-- Read a block in slot order up to its first erased slot: slots passed, and torn slots among them (R588). -/
def scanSlots (s : State) (base : Nat) : Nat → Nat → Nat → Nat × Nat
  | 0, i, torn => (i, torn)
  | n + 1, i, torn =>
    match s.slot (base + i) with
    | .erased => (i, torn)
    | .torn => scanSlots s base n (i + 1) (torn + 1)
    | .held _ => scanSlots s base n (i + 1) torn

/-- Give the staged records their sequences after the scan, with the hub ring. -/
def renumber (s : State) (l : List PRec) : State :=
  l.foldl (fun s r =>
    let r := { r with seq := recSeq s.par.next }
    ({ s with par := { s.par with
        next := (r.seq + 1) % 2 ^ 32, ring := ringPut s.par.ring r, staging := s.par.staging ++ [r] } }).wf
      parishBlk R.PAR_SEQ_NEW_SEQ r.seq) s

/-- The scan of R588: find the newest block and PAR_MARK, count torn slots, and continue the sequence after the last
slot used. Records staged before the scan take the sequences that follow. -/
def parishScan (s : State) : State :=
  if !s.par.area then s.setF parishBlk R.PAR_STAT_NO_AREA
  else
    let staged := s.par.staging
    let s :=
      match latestHeader s.par.flash with
      | none => { s with par := { s.par with next := 0 } }
      | some h =>
        let base := (h.seq % 8388608)
        let (n, torn) := scanSlots s base 2048 0 0
        let next := (h.seq + n) % 2 ^ 32
        let oldest := match earliestHeader s.par.flash with | some o => o.seq | none => h.seq
        let s := ((s.wf parishBlk R.PAR_MARK_SEQ (h.data / 2 ^ 32)).wf parishBlk R.PAR_SEQ_FLASH_SEQ next).wf parishBlk
          R.PAR_SEQ_OLD_SEQ oldest
        let s := if torn = 0 then s else (s.cnt (parishBlk + R.PAR_TORN_CNT) torn).setF parishBlk R.PAR_STAT_TORN
        { s with par := { s.par with next := next, any := true } }
    renumber { s with par := { s.par with staging := [], ring := [], scanned := true } } staged

/-- PARISH_SCAN (R588). -/
def execParishScan (s : State) : Host.Outcome State Fault Refusal := .next (parishScan s)

/-! ### Incidents (R592-R597) -/

/-- Whether the key of an open incident contains the key of a report (R593). Bundles and groups touch dies as R14 and the
Kelk chapter number them. -/
def keyContains (inc key : Nat) : Bool :=
  let ik := inc / 4096
  let ii := inc % 4096
  let k := key / 4096
  let i := key % 4096
  match ik with
  | 1 => k == 6 || k == 7
  | 2 => decide (3 ≤ k) && decide (k ≤ 9)
  | 3 =>
    if ii ≥ 5 then (k == 6 && i / 128 == ii - 5) || (k == 4 && kelkSTouches i ii)
    else if ii ≥ 1 then
      (k == 8 && i / 32 == ii - 1) || (k == 7 && i / 3 == ii - 1) || (k == 4 && kelkSTouches i ii) ||
      (k == 5 && kelkWTouches i ii)
    else (k == 4 && kelkSTouches i ii) || (k == 5 && kelkWTouches i ii)
  | _ => false

/-- Whether entry `e` holds an open incident. -/
def State.incOpen (s : State) (e : Nat) : Bool := s.flag (incBlk e) R.INC_STAT_OPEN

/-- Key of an incident entry. -/
def State.incKey (s : State) (e : Nat) : Nat := locator (s.rf (incBlk e) R.INC_STAT_KIND) (s.rf (incBlk e) R.INC_STAT_INDEX)

/-- The lowest-numbered open incident a report joins (R593). -/
def State.incMatch (s : State) (key : Nat) : Option Nat :=
  (List.range 64).find? (fun e => s.incOpen e && e != 63 && (s.incKey e == key || keyContains (s.incKey e) key))

/-- The lowest entry of 0-62 that is not valid, or closed with TAKEN = 1 (R594). -/
def State.incFree (s : State) : Option Nat :=
  (List.range 63).find? (fun e =>
    !s.flag (incBlk e) R.INC_STAT_VALID || (!s.incOpen e && s.flag (incBlk e) R.INC_STAT_TAKEN))

/-- Sites that a report newly adds to an incident: INCIDENT is set and SITE_INCIDENT written, once per site (R595). -/
def State.incSites (s : State) (e sites : Nat) : State :=
  let b := incBlk e
  let have_ := s.rd64 (b + R.INC_SITES_LO)
  let code := s.rf b R.INC_CODE_CODE
  let s := (List.range 64).foldl (fun s n =>
    if natBit sites n && !natBit have_ n then
      ((s.wf (siteBlk n) R.SITE_INCIDENT_EVENT code).wf (siteBlk n) R.SITE_INCIDENT_INDEX e).siteStat n R.SITE_STAT_INCIDENT
    else s) s
  s.wr64 (b + R.INC_SITES_LO) (have_ ||| sites)

/-- A report joins entry `e`. -/
def State.incJoin (s : State) (e : Nat) (r : Report) : State :=
  let b := incBlk e
  let s := s.cnt (b + R.INC_COUNT) 1
  let s := s.wf b R.INC_STAT_SEVERITY (max (s.rf b R.INC_STAT_SEVERITY) r.sev)
  let x := tabGet (fun _ => ({} : IncRt)) s.par.inc e
  let s := { s with par := { s.par with inc := tabPut (fun _ => {}) s.par.inc e { x with last := s.now } } }
  s.incSites e r.sites

/-- A report opens entry `e` under a key: GEN advances, TAKEN clears, and the entry raises PF0 vector 32 + entry
(R594, R595). -/
def State.incOpenNew (s : State) (e key : Nat) (r : Report) : State :=
  let b := incBlk e
  let gen := (s.rf b R.INC_STAT_GEN + 1) % 256
  let s := s.wr (b + R.INC_STAT) (BitVec.ofNat 32 ((key / 4096) * 2 ^ 28 + (key % 4096) * 2 ^ 16 + gen * 256 + 0xC0 + r.sev * 4))
  let s := s.wr (b + R.INC_CODE) (BitVec.ofNat 32 (r.source * 65536 + r.code))
  let s := s.wr (b + R.INC_COUNT) 1
  let s := (s.wr64 (b + R.INC_SITES_LO) 0).wr64 (b + R.INC_TTC_LO) s.ttc
  let s := { s with par := { s.par with inc := tabPut (fun _ => {}) s.par.inc e ⟨s.cal, s.now, s.now⟩ } }
  (s.incSites e r.sites).pf0Raise (32 + e)

/-- One report handled by the concentrator (R593-R595). -/
def State.fcReport (s : State) (r : Report) : State :=
  match s.incMatch r.key with
  | some e => s.incJoin e r
  | none =>
    match s.incFree with
    | some e => s.incOpenNew e r.key r
    | none =>
      let s := s.setF parishBlk R.PAR_STAT_INC_OVF
      if s.incOpen 63 then s.incJoin 63 r else s.incOpenNew 63 (locator 15 0) r

/-- The report handled first among those waiting: ascending key locator, then ascending source (R597). -/
def firstReport : List Report → Option Report
  | [] => none
  | r :: l =>
    match firstReport l with
    | none => some r
    | some o => if r.key < o.key ∨ (r.key = o.key ∧ r.source ≤ o.source) then some r else some o

/-- FC_REPORT (R593): the concentrator handles the first of the reports that have reached it; with none it does nothing. -/
def execFcReport (s : State) : Host.Outcome State Fault Refusal :=
  match firstReport s.par.reports with
  | none => .next s
  | some r => .next (({ s with par := { s.par with reports := s.par.reports.erase r } }).fcReport r)

/-- Close an incident and stage its record (R594, R596). -/
def State.incClose (s : State) (e : Nat) : State :=
  if !s.incOpen e then s
  else
    let b := incBlk e
    let s := s.clrF b R.INC_STAT_OPEN
    let sites := s.rd64 (b + R.INC_SITES_LO)
    let single := (List.range 64).find? (fun n => sites == 2 ^ n)
    let x := tabGet (fun _ => ({} : IncRt)) s.par.inc e
    let s := s.stage ⟨0, x.first, x.first, s.rf b R.INC_CODE_CODE, s.incKey e, s.rf b R.INC_STAT_SEVERITY,
      single.getD 0x7F, min (s.rd (b + R.INC_COUNT)).toNat 65535, sites⟩
    let seq := match s.par.staging.getLast? with | some r => r.seq | none => (s.par.next + 2 ^ 32 - 1) % 2 ^ 32
    s.wf b R.INC_SEQ_SEQ seq

/-- INCIDENT_CLOSE (R594, R596); no effect on an entry whose incident is not open. -/
def execIncidentClose (e : Fin 64) (s : State) : Host.Outcome State Fault Refusal := .next (s.incClose e.val)

/-- FC_ACK with the entry's current GEN sets TAKEN (R595). -/
def fcAck (v : Word) (s : State) : State :=
  let b := incBlk (v.toNat % 64)
  if s.rf b R.INC_STAT_GEN == natBits v.toNat 15 8 && s.flag b R.INC_STAT_VALID then s.setF b R.INC_STAT_TAKEN else s

/-- FC_ACK (R595); accepted from MIDs 0x001-0x004 (R599). -/
def execFcAck (r : Req) (v : Word) (s : State) : Host.Outcome State Fault Refusal :=
  .next (s.gated r (parishBlk + R.FC_ACK) true (fcAck v))

end Sys2Proof.Machine
end

