-- ==== Sys2Proof/Machine/Security.lean ====
section
/-! DEFINITION. Life cycle, entropy and the backup domain (R432-R456): the operations, and the commands that need no other block. -/
namespace Sys2Proof.Machine

/-! ### Fuse copies (R436-R438) -/

/-- Group `g` of a copy. -/
def lcGroup (c : BitVec 40) (g : Nat) : Nat := natBits c.toNat (8 * g + 7) (8 * g)

/-- Value of a copy: none when it is not intact (R436). -/
def lcValue (c : BitVec 40) : Option Nat :=
  (List.range 6).find? (fun v => (List.range 5).all (fun g => lcGroup c g == if g < v then 255 else 0))

/-- The most advanced intact copy (R438); 7 when none is intact (R439). -/
def lcWinner (l : List (BitVec 40)) : Nat :=
  match (l.filterMap lcValue) with
  | [] => 7
  | v :: t => t.foldl max v

/-- A copy with every group below `v` blown. -/
def lcFill (v : Nat) (c : BitVec 40) : BitVec 40 := BitVec.ofNat 40 (c.toNat ||| (2 ^ (8 * v) - 1))

/-- SEC_LC_STAT as the copies give it, with the state in force. -/
def State.lcLoad (s : State) (st : Nat) : State :=
  let v (i : Nat) : Nat := (lcValue (s.sec.lc.getD i 0)).getD 15
  let ok (i : Nat) : Nat := b2n (lcValue (s.sec.lc.getD i 0)).isSome
  s.wr (secBlk + R.SEC_LC_STAT) (BitVec.ofNat 32 (b2n (st == 7) * 2 ^ 31 + (ok 0 + 2 * ok 1 + 4 * ok 2) * 2 ^ 24 + v 2 * 2 ^ 16 +
    v 1 * 2 ^ 12 + v 0 * 2 ^ 8 + st))

/-- Life-cycle state in force (R432). -/
def State.lc (s : State) : Nat := s.rf secBlk R.SEC_LC_STAT_STATE

/-- The part runs its recovery path alone (R432). -/
def State.lcDead (s : State) : Bool := s.lc == 5 || s.lc == 7

/-- Fuses sensed at a start (R438, R440): copies completed, key rows checked. -/
def State.senseFuses (s : State) : State :=
  let v := lcWinner s.sec.lc
  let torn := s.sec.lc.filter (fun c => lcValue c ≠ some v)
  let s := if v = 7 then s else { s with sec := { s.sec with lc := s.sec.lc.map (lcFill v) } }
  let s := s.lcLoad v
  let s := (s.wf secBlk R.SEC_KEY_STAT_PRESENT (s.sec.present &&& (255 ^^^ s.sec.bad))).wf secBlk R.SEC_KEY_STAT_BAD s.sec.bad
  let s := if s.sec.bbkey.isSome then (s.setF secBlk R.SEC_KEY_STAT_BBKEY_VALID).setF bkBlk R.BK_STAT_BBKEY_VALID else s
  let s := if v = 7 || torn.isEmpty then s else s.recordO 0x0020 (locator 11 0) (s.rd (secBlk + R.SEC_LC_STAT)).toNat
  (List.range 8).foldl (fun s i => if natBit s.sec.bad i then s.recordO 0x0021 (locator 11 0) i else s) s

/-- Fuses of a group of three copies blown one after another (R437), as far as `t` ns from the first allow: 10 µs a fuse that is not yet
blown, 5 µs a sense. -/
def lcBlowFuses (g : Nat) : List Nat → BitVec 40 → Nat → BitVec 40 × Nat
  | [], c, t => (c, t - 5000)
  | i :: l, c, t =>
    if natBit c.toNat (8 * g + i) then lcBlowFuses g l c t
    else if t < 10000 then (c, 0)
    else lcBlowFuses g l (BitVec.ofNat 40 (c.toNat ||| 2 ^ (8 * g + i))) (t - 10000)

/-- The copies after `t` ns of a change that blows group `g`. -/
def lcBlow (g : Nat) : List (BitVec 40) → Nat → List (BitVec 40)
  | [], _ => []
  | c :: l, t =>
    let (c, t) := lcBlowFuses g (List.range 8) c t
    c :: lcBlow g l t

/-- A change in progress as an interruption leaves it (R433, R437, R438). -/
def State.lcTorn (s : State) : State :=
  match s.sec.change with
  | none => s
  | some x => { s with sec := { s.sec with lc := lcBlow (x.dst - 1) s.sec.lc (s.now - x.since), change := none } }

/-! ### Debug session (R449, R458) -/

/-- Level without authentication. -/
def baseLevel (st : Nat) : Nat := match st with | 0 => 3 | 1 => 1 | 2 => 1 | 4 => 1 | _ => 0

/-- The session lowered to the unauthenticated level. -/
def State.sessionBase (s : State) : State :=
  let b := baseLevel s.lc
  ((s.wf dlocBlk R.DBG_SESSION_LEVEL b).wf dlocBlk R.DBG_SESSION_BASE b).wf dlocBlk R.DBG_SESSION_METHOD 0

/-! ### Zeroisation and the backup log (R450-R454) -/

/-- BBKEY zeroised. -/
def State.zeroise (s : State) : State :=
  let s := { s with sec := { s.sec with bbkey := none } }
  (s.clrF secBlk R.SEC_KEY_STAT_BBKEY_VALID).clrF bkBlk R.BK_STAT_BBKEY_VALID

/-- Every key slot disabled (R358). -/
def State.encOffAll (s : State) : State := (List.range 65).foldl (fun s n => if s.encState n = 0 then s else s.encOff n) s

/-- Seconds and sub-seconds of the RTC (R451). -/
def State.rtcSec (s : State) : Nat := s.rtc / 1000000000 % 2 ^ 34
def State.rtcSub (s : State) : Nat := s.rtc % 1000000000 * 32768 / 1000000000

/-- An entry appended to the backup log, or counted when it is full (R454). -/
def State.bkLog (s : State) (cause : Nat) : State :=
  let n := s.rf bkBlk R.BK_LOG_CNT_USED
  if 16 ≤ n then s.cntF bkBlk R.BK_LOG_CNT_OVF 1
  else
    let s := s.wr (bkBlk + R.BK_LOG_LO + 8 * n) (BitVec.ofNat 32 s.rtcSec)
    let s := s.wr (bkBlk + R.BK_LOG_HI + 8 * n) (BitVec.ofNat 32 (2 ^ 31 + cause * 2 ^ 27 + s.rtcSub * 2 ^ 12 + s.rtcSec / 2 ^ 32))
    s.wf bkBlk R.BK_LOG_CNT_USED (n + 1)

/-- A backup alarm (R453, R454): BBKEY zeroised and the log written whether or not the hub runs; a running hub's Reeve copies the entry, and
`all` disables every key slot. -/
def State.bkAlarm (s : State) (cause : Nat) (all : Bool) : State :=
  let s := s.zeroise.bkLog cause
  if s.start.hold then s
  else
    let s := s.stage ⟨0, s.rtc, s.rtc, 0x0026, locator 10 0, 4, 0x7F, 1, cause⟩
    let s := (s.setF bkBlk R.BK_STAT_ALARM).report (locator 10 0) 0x0026 4 cause
    if all then s.encOffAll else s

/-- TAMPER_ALARM (R452): an input that raises alarms. -/
def execTamperAlarm (i : Fin 2) (s : State) : Host.Outcome State Fault Refusal :=
  let f := bkBlk + 4 * i.val
  .next (if s.flag f R.BK_TAMPER0_EN then s.bkAlarm (1 + i.val) (s.flag f R.BK_TAMPER0_ALL) else s)

/-- VBAT_LOW (R453). -/
def execVbatLow (s : State) : Host.Outcome State Fault Refusal :=
  .next ((s.clrF bkBlk R.BK_STAT_VBAT_OK).bkAlarm 3 false)

/-- OSC_STOP (R451, R453). -/
def execOscStop (s : State) : Host.Outcome State Fault Refusal :=
  .next ((s.clrF bkBlk R.BK_STAT_RTC_VALID).bkAlarm 4 false)

/-- BACKUP_DOMAIN_RESET (R450): BBKEY, log, tamper settings and RTC_VALID cleared. -/
def execBackupDomainReset (s : State) : Host.Outcome State Fault Refusal :=
  let s := s.zeroise
  let s := s.regsLost (inBlk bkBlk 0x1000)
  .next { s with rtc := 0, sec := { s.sec with rtcSet := false } }

/-- The log cleared. -/
def bkLogClr (v : Word) (s : State) : State :=
  if natBit v.toNat 0 then
    { s with regs := tabKeep s.regs (fun k => decide (k < bkBlk + R.BK_LOG_LO) || decide (bkBlk + R.BK_LOG_CNT < k)) }
  else s

/-- BK_LOG_CLR (R454). -/
def execBkLogClr (r : Req) (v : Word) (s : State) : Host.Outcome State Fault Refusal :=
  .next (s.gated r (bkBlk + R.BK_LOG_CLR) true (bkLogClr v))

/-- A write to BK_RTC_CMD: the new time waits for the crystal tick (R451). -/
def rtcSetCmd (v : Word) (s : State) : State :=
  if natBit v.toNat 0 then { s with sec := { s.sec with rtcSet := true } } else s

/-- BK_RTC_SET (R451). -/
def execBkRtcSet (r : Req) (v : Word) (s : State) : Host.Outcome State Fault Refusal :=
  .next (s.gated r (bkBlk + R.BK_RTC_CMD) true (rtcSetCmd v))

/-- The crystal tick at which a set RTC takes its value: recorded with the old and new seconds (R451, R583). -/
def State.rtcLoad (s : State) : State :=
  let old := s.rtcSec
  let hi := (s.rd (bkBlk + R.BK_RTC_SET_HI)).toNat
  let sec := (s.rd (bkBlk + R.BK_RTC_SET_LO)).toNat + hi % 4 * 2 ^ 32
  let s := { s with rtc := sec * 1000000000 + natBits hi 30 16 * 1000000000 / 32768, sec := { s.sec with rtcSet := false } }
  (s.setF bkBlk R.BK_STAT_RTC_VALID).recordO 0x0025 (locator 11 0) (old % 2 ^ 32 + sec % 2 ^ 32 * 2 ^ 32)

/-! ### Entropy (R445, R446) -/

/-- A health-test failure: RETEST, or FAILED at the third within 1 s. -/
def drngFail (s : State) : State :=
  let st := s.rf secBlk R.SEC_DRNG_STAT_STATE
  if st = 3 then s
  else
    let fails := (s.sec.fails.filter (fun t => decide (s.now ≤ t + 1000000000))) ++ [s.now]
    let s := { s with sec := { s.sec with fails := fails } }
    let s := (s.cnt (secBlk + R.SEC_DRNG_FAIL_CNT) 1).setF secBlk R.SEC_DRNG_STAT_HEALTH_EVT
    let s := s.recordO 0x0022 (locator 11 0) fails.length
    if fails.length ≥ 3 then
      ((s.wf secBlk R.SEC_DRNG_STAT_STATE 3).setF secBlk R.SEC_DRNG_STAT_FAILED_EVT).recordO 0x0022 (locator 11 0) fails.length
    else if st = 1 then s.wf secBlk R.SEC_DRNG_STAT_STATE 2 else s

/-- The key-slot enables that wait are performed, oldest first, while a reseed finds its bits (R342, R447). -/
def encServe : Nat → State → State
  | 0, s => s
  | n + 1, s =>
    match if s.keyReady then s.dram.wait else [] with
    | [] => s
    | (k, d) :: t => encServe n (State.encEnable { s with dram := { s.dram with wait := t } } k d)

/-- The start-up tests have passed (R445): READY with the DRBG instantiated; after RETEST the DRBG goes on (R446). -/
def State.drngPass (s : State) : State :=
  let st := s.drngState
  let s := if st = 0 then s.drbgStart else s
  if st = 0 || st = 2 then (s.wf secBlk R.SEC_DRNG_STAT_STATE 1).setF secBlk R.SEC_DRNG_STAT_READY_EVT else s

/-- Conditioned bits have come: 1,024 of them end the start-up tests (R445), and what waits is served (R447). -/
def State.drngBits (s : State) : State :=
  let s := if (s.drngState = 0 || s.drngState = 2) && decide (8 ≤ s.sec.ent.pool.length) then s.drngPass else s
  encServe s.dram.wait.length s

/-- A raw bit of the noise source (R444-R446). In FAILED none is taken. -/
def State.drngBit (s : State) (b : Bool) : State :=
  if s.drngState = 3 then s
  else
    let x := entropyBit s.sec.ent b
    let s := { s with sec := { s.sec with ent := x.1 } }
    if x.2 then drngFail s else if x.1.count = 0 then s.drngBits else s

/-- Raw bits, oldest first. -/
def drngRaw (l : List Bool) (s : State) : State := l.foldl (fun s b => s.drngBit b) s

/-- DRNG_READY (R445): raw bits come, among which those that end the start-up tests. -/
def execDrngReady (raw : List Bool) (s : State) : Host.Outcome State Fault Refusal := .next (drngRaw raw s)

/-- DRNG_HEALTH_FAIL (R446): raw bits come, among which one that fails a test. -/
def execDrngHealthFail (raw : List Bool) (s : State) : Host.Outcome State Fault Refusal := .next (drngRaw raw s)

/-! ### Life-cycle changes (R433, R434, R437) -/

/-- Row whose hash signs the change out of a state, as a bit of PRESENT (R433). -/
def lcSigner (st : Nat) : Nat := if st = 2 ∨ st = 3 then 2 else 0

/-- A key row in use: provisioned and not failed (R440). -/
def State.rowOk (s : State) (i : Nat) : Bool := natBit s.sec.present i && !natBit s.sec.bad i

/-- Content of a key row. -/
def State.row (s : State) (i : Nat) : Nat := tabGet (fun _ => 0) s.sec.rows i

/-- An authorisation passes the checks of R434 that precede its signature. -/
def State.lcAuthOk (s : State) (a : LcAuth) : Bool :=
  let st := s.lc
  let i := lcSigner st
  a.magic == 0x4C434131 && a.uid.toNat == s.part.uid && a.src.toNat == st && a.provLen.toNat == (if st = 1 then 304 else 0) &&
    s.rowOk i && s.row i == a.signer.toNat

/-- An operation given to the public-key engine (R442): it runs in arrival order. -/
def State.pkeStart (s : State) (op : Nat) (w : PkeWhy) : State :=
  State.setF { s with sec := { s.sec with pke := s.sec.pke ++ [(op, w)] } } secBlk R.SEC_PKE_STAT_BUSY

/-- The end of a LIFECYCLE request, for its answer. -/
def State.lcEnd (s : State) (chan st d : Nat) : State := { s with sec := { s.sec with ends := s.sec.ends ++ [(chan, st, d)] } }

/-- The owner rows blown from a provisioning block (R433, R435, R440). -/
def State.provBlow (s : State) (p : LcProv) : State :=
  let opt (i v : Nat) (t : Tab Nat) : Tab Nat := if v = 0 then t else tabPut (fun _ => 0) t i v
  let rows := opt 6 p.fr.toNat (opt 5 p.pwd.toNat (tabPut (fun _ => 0) (tabPut (fun _ => 0) (tabPut (fun _ => 0) s.sec.rows 2 p.img.toNat) 3
    p.dbg.toNat) 4 p.fkey.toNat))
  let bits := 0x1C + (if p.pwd = 0 then 0 else 0x20) + (if p.fr = 0 then 0 else 0x40)
  let s := { s with sec := { s.sec with rows := rows, present := s.sec.present ||| bits, flags := p.flags &&& 3 } }
  s.wf secBlk R.SEC_KEY_STAT_PRESENT (s.sec.present &&& (255 ^^^ s.sec.bad))

/-- The effects of a change, before its first fuse is blown (R433), and the change begun. -/
def State.lcApply (s : State) (dst chan : Nat) (p : LcProv) : State :=
  let go (s : State) : State := { s with sec := { s.sec with change := some ⟨dst, chan, s.now⟩ } }
  match dst with
  | 2 => if !p.tagOk then s.lcEnd chan 0x12 0 else if !p.rowsOk then (s.provBlow p).lcEnd chan 0x10 1 else go (s.provBlow p)
  | 4 => go s.encOffAll.zeroise
  | _ => go s

/-- The fuses of the new group are blown in the three copies (R437); `sensed` gives the group as each copy reads back. A copy not intact is
recorded; the debug session is lowered as the change takes effect (R458). -/
def lcChangeDone (sensed : List (BitVec 8)) (s : State) : State :=
  match s.sec.change with
  | none => s
  | some x =>
    let g := x.dst - 1
    let lc := (List.range 3).map (fun i =>
      BitVec.ofNat 40 (natSet (s.sec.lc.getD i 0).toNat (8 * g + 7) (8 * g) (sensed.getD i 0xFF).toNat))
    let s := { s with sec := { s.sec with lc := lc, change := none } }
    let s := s.lcLoad (lcWinner lc)
    let s := (List.range 3).foldl (fun s i =>
      if (lcValue (lc.getD i 0)).isSome then s
      else s.recordO 0x0020 (locator 11 0) (i + (lc.getD i 0).toNat * 2 ^ 8)) s
    s.sessionBase.lcEnd x.chan 0 0

/-- LIFECYCLE_CHANGE_DONE (R437). -/
def execLifecycleChangeDone (sensed : List (BitVec 8)) (s : State) : Host.Outcome State Fault Refusal :=
  .next (lcChangeDone sensed s)

end Sys2Proof.Machine
end

