-- ==== Sys2Proof/Machine/Debug.lean ====
section
/-! DEFINITION. The debug domain, authentication, cross-trigger events and the run control of fields (R457-R477). -/
namespace Sys2Proof.Machine

/-! ### TAP (R457-R459) -/

/-- The IDCODE register (R459). -/
def State.idcode (s : State) : Word :=
  BitVec.ofNat 32 (b2n s.part.stepB * 2 ^ 28 + 0x9400 * 2 ^ 12 + Config.jedecId.toNat * 2 + 1)

/-- Instruction a code selects (R459). -/
def tapInstr (code : Nat) : Nat := if [0, 1, 2, 8, 9, 0x20].contains code then code else 0xFF

/-- Hold of the covered pins by an instruction (R579): 1 the boundary register drives, 2 high impedance. -/
def tapPins (code : Nat) : Nat := match code with | 0 => 1 | 9 => 1 | 8 => 2 | _ => 0

/-- TAP_INSTRUCTION (R459, R579); while OFF the TAP is held in Test-Logic-Reset (R458). -/
def execTapInstruction (code : BitVec 8) (s : State) : Host.Outcome State Fault Refusal :=
  let i := if s.pwrState = 4 then 1 else tapInstr code.toNat
  .next { s with dbg := { s.dbg with ir := i, pins := tapPins i } }

/-- DEBUG_DOMAIN_RESET (R457): the TAP, the session, the buffer, the filter and the bus master's request logic. -/
def execDebugDomainReset (s : State) : Host.Outcome State Fault Refusal :=
  let s := s.regsLost (inBlk dlocBlk 0x1000)
  let s := { s with dbg := { s.dbg with ir := 1, pins := 0, acc := none, code := 0, data := 0, overrun := false, chal := none,
                                        chalWait := false, wait := false },
                    sec := { s.sec with pke := s.sec.pke.filter (fun j => match j.2 with | .lifecycle _ _ _ => true | _ => false) } }
  .next s.sessionBase

/-! ### Authentication (R464-R468) -/

/-- The end of an authentication command: STATE and RESULT of DBG_AUTH_STAT. -/
def State.authEnd (s : State) (st res : Nat) : State := (s.wf dlocBlk R.DBG_AUTH_STAT_STATE st).wf dlocBlk R.DBG_AUTH_STAT_RESULT res

/-- A failed authentication (R466). -/
def State.authFail (s : State) : State :=
  let s := (s.authEnd 4 1).cntF dlocBlk R.DBG_AUTH_STAT_AUTH_FAIL_CNT 1
  { s with dbg := { s.dbg with wait := true } }

/-- A refused command. -/
def State.authRefuse (s : State) (res : Nat) : State := s.authEnd 4 res

/-- Byte `i` of DBG_AUTH_BUF. -/
def State.authByte (s : State) (i : Nat) : Nat := (s.rd (dlocBlk + R.DBG_AUTH_BUF + 4 * (i / 4))).toNat / 256 ^ (i % 4) % 256

/-- Bytes `i` onward of the buffer as a little-endian number. -/
def State.authNum (s : State) (i n : Nat) : Nat := (List.range n).foldl (fun a k => a + s.authByte (i + k) * 256 ^ k) 0

/-- Bytes of the buffer from `i` set to a little-endian number. -/
def State.setAuth (s : State) (i n v : Nat) : State :=
  (List.range n).foldl (fun s k => s.bufByte (dlocBlk + R.DBG_AUTH_BUF) (i + k) (BitVec.ofNat 8 (v / 256 ^ k))) s

/-- Row of the debug key of a life-cycle state, and the highest level it gives (R449). -/
def debugKey (lc : Nat) : Option (Nat × Nat) :=
  match lc with
  | 1 => some (1, 3)
  | 4 => some (1, 3)
  | 2 => some (3, 2)
  | 3 => some (3, 2)
  | _ => none

/-- CHALLENGE. -/
def State.authChallenge (s : State) : State :=
  if s.dbg.wait then s.authEnd 5 0
  else if (debugKey s.lc).isNone then s.authRefuse 2
  else State.authEnd { s with dbg := { s.dbg with chal := none, chalWait := true } } 1 0

/-- RESPOND: a challenge serves one. -/
def State.authRespond (s : State) (a : AuthIn) : State :=
  match s.dbg.chal, debugKey s.lc with
  | some _, some (row, top) =>
    let s := { s with dbg := { s.dbg with chal := none } }
    let want := s.authByte 96
    if s.rowOk row && s.row row == a.signer.toNat && decide (1 ≤ want) && decide (want ≤ 3) then
      (s.authEnd 1 0).pkeStart 3 (.respond a.tagOk (min want top))
    else s.authFail
  | _, _ => s.authRefuse 2

/-- PASSWORD (R465). -/
def State.authPassword (s : State) : State :=
  if s.dbg.wait then s.authEnd 5 0
  else if s.lc = 2 ∧ s.rowOk 5 = true ∧ natBit s.sec.flags.toNat 1 = true then
    if s.authNum 0 16 = s.row 5 then
      ((s.wf dlocBlk R.DBG_SESSION_LEVEL 2).wf dlocBlk R.DBG_SESSION_METHOD 3).authEnd 3 0
    else s.authFail
  else s.authRefuse 2

/-- LOAD_BBKEY (R441, R467). -/
def State.authLoadKey (s : State) (a : AuthIn) : State :=
  if s.lc = 4 ∨ s.lc = 5 ∨ s.lc = 7 then s.authRefuse 2
  else if s.rf dlocBlk R.DBG_SESSION_LEVEL < 2 then s.authRefuse 3
  else if s.authNum 0 4 = 0x42424B31 ∧ s.authNum 4 8 = s.part.uid ∧ s.rowOk 2 = true ∧ s.row 2 = a.signer.toNat then
    (s.authEnd 1 0).pkeStart 2 (.bbkey false a.tagOk a.key)
  else s.authFail

/-- One more than the highest group with a blown fuse in any copy (R439). -/
def lcReached (l : List (BitVec 40)) : Nat := (List.range 5).foldl (fun a g => if l.any (fun c => lcGroup c g != 0) then g + 1 else a) 0

/-- RECOVER (R439, R468). -/
def State.authRecover (s : State) (a : AuthIn) : State :=
  if s.lc ≠ 7 then s.authRefuse 2
  else
    let dst := s.authByte 13
    if s.authNum 0 4 = 0x4C434131 ∧ s.authNum 4 8 = s.part.uid ∧ s.authByte 12 = 7 ∧ lcReached s.sec.lc ≤ dst ∧ dst ≤ 5 ∧
        s.authNum 16 4 = 0 ∧ s.rowOk 0 = true ∧ s.row 0 = a.signer.toNat then
      (s.authEnd 1 0).pkeStart 2 (.recover dst)
    else s.authFail

/-- A write to DBG_AUTH_CMD (R464-R468, R482). While the Reeve works at a command, the next one waits for nothing and is ignored, LOCK
apart. -/
def State.authCmd (s : State) (n : Nat) (a : AuthIn) : State :=
  let busy := s.sec.pke.any (fun j => match j.2 with | .lifecycle _ _ _ => false | _ => true)
  if n = 4 then s.sessionBase
  else if busy then s
  else
    match n with
    | 1 => s.authChallenge
    | 2 => s.authRespond a
    | 3 => s.authPassword
    | 5 => s.authLoadKey a
    | 6 => s.authRecover a
    | _ => s

/-- A command that carries nothing from outside. -/
def noAuth : AuthIn := ⟨0, false, 0⟩

/-- CHALLENGE (R464). -/
def execChallenge (s : State) : Host.Outcome State Fault Refusal := .next (s.authCmd 1 noAuth)
/-- RESPOND (R464). -/
def execRespond (auth : AuthIn) (s : State) : Host.Outcome State Fault Refusal := .next (s.authCmd 2 auth)
/-- PASSWORD (R465). -/
def execPassword (s : State) : Host.Outcome State Fault Refusal := .next (s.authCmd 3 noAuth)
/-- LOCK (R465). -/
def execLock (s : State) : Host.Outcome State Fault Refusal := .next (s.authCmd 4 noAuth)
/-- LOAD_BBKEY (R467). -/
def execLoadBbkey (auth : AuthIn) (s : State) : Host.Outcome State Fault Refusal := .next (s.authCmd 5 auth)
/-- RECOVER (R468). -/
def execRecover (auth : AuthIn) (s : State) : Host.Outcome State Fault Refusal := .next (s.authCmd 6 auth)

/-- The challenge drawn and written (R464 step 2), its scalar after a reseed (R447). The point E is an open value. -/
def challengeReady (s : State) : State :=
  if s.dbg.chalWait && s.keyReady then
    let e := s.drbgReseed.draw 48
    let d := e.2.draw 32
    let n := bytesNat d.1
    let (pt, s) := d.2.fresh
    let s := ((s.setAuth 0 96 pt).setAuth 96 32 n).setAuth 128 8 s.part.uid
    let s := s.setAuth 136 1 s.lc
    State.authEnd { s with dbg := { s.dbg with chal := some (bytesNat e.1, n), chalWait := false } } 2 0
  else s

/-- CHALLENGE_READY (R464). -/
def execChallengeReady (s : State) : Host.Outcome State Fault Refusal := .next (challengeReady s)

/-- AUTH_FAIL_WAIT_END (R466). -/
def execAuthFailWaitEnd (s : State) : Host.Outcome State Fault Refusal :=
  let s := { s with dbg := { s.dbg with wait := false } }
  .next (if s.rf dlocBlk R.DBG_AUTH_STAT_STATE == 5 then s.wf dlocBlk R.DBG_AUTH_STAT_STATE 0 else s)

/-! ### Halts of fields (R472-R475) -/

/-- STATE of DBG_FLD_STAT: 0 RUNNING, 1 HALTED, 2 STEPPING. -/
def State.fldState (s : State) (f : Nat) : Nat := s.rf (fieldPage f) R.DBG_FLD_STAT_STATE

/-- A field's clocks stopped by a halt, and the halt recorded (R472). -/
def State.fieldStop (s : State) (f src ch : Nat) : State :=
  let b := fieldPage f
  let s := { s with dbg := { s.dbg with halt := s.dbg.halt.filter (fun e => e.1 != f), step := tabErase s.dbg.step f } }
  let s := ((s.setF b R.FCK_STAT_HALTED).wf b R.DBG_FLD_STAT_STATE 1).setF b R.DBG_FLD_STAT_HALT_EVT
  let s := (s.wf b R.DBG_FLD_STAT_HALT_SRC src).wf b R.DBG_FLD_STAT_HALT_CH ch
  (s.wr64 (b + R.DBG_FLD_HALT_TTC_LO) s.ttc).ckUpdate f

/-- A halt reaches a field: at once where no clock is enabled, else within the bound of R470. `src` 1 is a command, 2 a channel. -/
def State.fieldHaltReq (s : State) (f src ch : Nat) : State :=
  if s.fldState f = 1 ∨ s.dbg.halt.any (fun e => e.1 == f) = true then s
  else if (s.frt f).ckEn = 0 ∨ (s.frt f).configured = false then s.fieldStop f src ch
  else { s with dbg := { s.dbg with halt := s.dbg.halt ++ [(f, src, ch)] } }

/-- RUN of a halted field (R473). -/
def State.fieldRun (s : State) (f : Nat) : State :=
  if s.fldState f = 1 then ((s.clrF (fieldPage f) R.FCK_STAT_HALTED).wf (fieldPage f) R.DBG_FLD_STAT_STATE 0).ckUpdate f else s

/-- STEP (R474); the table holds the edges left and one more. -/
def State.fieldStepN (s : State) (f n : Nat) : State :=
  let b := fieldPage f
  if s.fldState f ≠ 1 then s.setF b R.DBG_FLD_STAT_CMD_REFUSED
  else
    let s := { s with dbg := { s.dbg with step := tabPut (fun _ => 0) s.dbg.step f ((if n = 0 then 256 else n) + 1) } }
    ((s.clrF b R.FCK_STAT_HALTED).wf b R.DBG_FLD_STAT_STATE 2).ckUpdate f

/-- A write to DBG_FLD_CMD: HALT wins over RUN (R475). -/
def fldCmd (f : Nat) (v : Word) (s : State) : State :=
  if natBit v.toNat 31 then s.fieldHaltReq f 1 0
  else if natBit v.toNat 30 then s.fieldRun f
  else if natBit v.toNat 29 then s.fieldStepN f (wordBits v 7 0)
  else s

/-- DBG_FLD_HALT (R472). -/
def execDbgFldHalt (r : Req) (f : Fin 128) (v : Word) (s : State) : Host.Outcome State Fault Refusal :=
  .next (s.gated r (fieldPage f.val + R.DBG_FLD_CMD) true (fldCmd f.val v))
/-- DBG_FLD_RUN (R473). -/
def execDbgFldRun (r : Req) (f : Fin 128) (v : Word) (s : State) : Host.Outcome State Fault Refusal :=
  .next (s.gated r (fieldPage f.val + R.DBG_FLD_CMD) true (fldCmd f.val v))
/-- DBG_FLD_STEP (R474). -/
def execDbgFldStep (r : Req) (f : Fin 128) (v : Word) (s : State) : Host.Outcome State Fault Refusal :=
  .next (s.gated r (fieldPage f.val + R.DBG_FLD_CMD) true (fldCmd f.val v))

/-- FIELD_HALT_STOP (R472). -/
def execFieldHaltStop (f : Fin 128) (s : State) : Host.Outcome State Fault Refusal :=
  .next (match s.dbg.halt.find? (fun e => e.1 == f.val) with
    | some (_, src, ch) => s.fieldStop f.val src ch
    | none => s)

/-- STEP_DONE (R474): the last edge has been given. -/
def execStepDone (f : Fin 128) (s : State) : Host.Outcome State Fault Refusal :=
  .next (if tabGet (fun _ => 0) s.dbg.step f.val = 1 then
      let b := fieldPage f.val
      let s := { s with dbg := { s.dbg with step := tabErase s.dbg.step f.val } }
      ((s.wf b R.DBG_FLD_STAT_STATE 1).setF b R.FCK_STAT_HALTED).setF b R.DBG_FLD_STAT_STEP_DONE
    else s)

/-- A write to DBG_FLD_RB (R477). -/
def fldCapture (f : Nat) (v : Word) (s : State) : State :=
  if !natBit v.toNat 31 then s
  else s.setF (fieldPage f) (if s.fldState f = 1 then R.DBG_FLD_STAT_RB_BUSY else R.DBG_FLD_STAT_RB_REFUSED)

/-- DBG_FLD_CAPTURE (R477). -/
def execDbgFldCapture (r : Req) (f : Fin 128) (v : Word) (s : State) : Host.Outcome State Fault Refusal :=
  .next (s.gated r (fieldPage f.val + R.DBG_FLD_RB) true (fldCapture f.val v))

/-- The shadow of a field takes its flip-flops and MAC outputs (R477). -/
def State.shadowCopy (s : State) (f : Nat) : State :=
  let q := tabKeep s.dbg.q (fun k => k / 262144 != f)
  let p := tabKeep s.dbg.p (fun k => k / 64 != f)
  { s with dbg := { s.dbg with
      q := (tabKeep s.fab.q (fun k => k / 262144 == f)).foldl (fun t e => tabPut (fun _ => false) t e.1 e.2) q,
      p := (List.range 64).foldl (fun t m => tabPut (fun _ => 0) t (f * 64 + m) (s.macAt f m).p) p } }

/-- CAPTURE_DONE (R477). -/
def execCaptureDone (f : Fin 128) (s : State) : Host.Outcome State Fault Refusal :=
  let b := fieldPage f.val
  .next (if s.flag b R.DBG_FLD_STAT_RB_BUSY then ((s.shadowCopy f.val).clrF b R.DBG_FLD_STAT_RB_BUSY).setF b R.DBG_FLD_STAT_RB_DONE
    else s)

/-! ### Cross-trigger (R469-R471) -/

/-- Tap `t` of a mapping register: its channel while it is mapped. -/
def State.tapMap (s : State) (a t : Nat) : Option Nat :=
  let w := (s.rd a).toNat
  if natBit w (8 * t + 7) then some (natBits w (8 * t + 3) (8 * t)) else none

/-- Channels a field's mappings name. -/
def State.fieldChans (s : State) (f : Nat) : List Nat :=
  let b := fieldPage f
  let m := s.rf b R.DBG_FLD_TRIG_HALT_MASK ||| s.rf b R.DBG_FLD_TRIG_RUN_MASK
  (List.range 16).filter (fun c => natBit m c) ++
    ([0, 1, 2, 3].filterMap (fun t => s.tapMap (b + R.DBG_FLD_TAPOUT) t)) ++
    ([0, 1, 2, 3].filterMap (fun t => s.tapMap (b + R.DBG_FLD_TAPIN) t))

/-- XT_FENCED of a field whose mappings name a channel of another owner (R471). -/
def State.xtFence (s : State) (f : Nat) : State :=
  if (s.fieldChans f).any (fun c => s.xtOwner c != s.fieldOwner f) then s.setF (fieldPage f) R.DBG_FLD_STAT_XT_FENCED else s

/-- Channels a requester's write to DBG_XT_PULSE fires (R471). -/
def xtPulse (r : Req) (v : Word) (s : State) : State :=
  (List.range 16).foldl (fun s c =>
    if natBit v.toNat c && (isMgmt r || s.xtOwner c == r.sid.toNat) then s.xtFire c else s) s

/-- DBG_XT_PULSE (R469, R471). -/
def execDbgXtPulse (r : Req) (v : Word) (s : State) : Host.Outcome State Fault Refusal :=
  .next (s.gated r (dbgBlk + R.DBG_XT_PULSE) true (xtPulse r v))

/-- XT_TIME_COMPARE (R469): an armed channel whose compare value the TTC has reached. -/
def execXtTimeCompare (c : Fin 16) (s : State) : Host.Outcome State Fault Refusal :=
  let b := dbgBlk + 0x20 * c.val
  .next (if s.flag b R.DBG_XT_TCTRL_ARM && s.ttc == s.rd64 (b + R.DBG_XT_TIME_LO) then (s.clrF b R.DBG_XT_TCTRL_ARM).xtFire c.val
    else s)

/-- TRIGGER_TAP_OUT (R469). -/
def execTriggerTapOut (f : Fin 128) (t : Fin 4) (s : State) : Host.Outcome State Fault Refusal :=
  .next (match s.tapMap (fieldPage f.val + R.DBG_FLD_TAPOUT) t.val with
    | some c =>
      if (s.designOf f.val).taps && !s.fieldInReset f.val && !s.fieldHalted f.val then s.xtFireBy c (s.fieldOwner f.val) else s
    | none => s)

/-- An event at the fields of its channel's owner: halt wins over run (R475). -/
def State.xtFields (s : State) (c : Nat) : State :=
  let o := s.xtOwner c
  (List.range 128).foldl (fun s f =>
    if s.fieldOwner f != o then s
    else
      let b := fieldPage f
      let s := if natBit (s.rf b R.DBG_FLD_TRIG_HALT_MASK) c then s.fieldHaltReq f 2 c
        else if natBit (s.rf b R.DBG_FLD_TRIG_RUN_MASK) c then s.fieldRun f else s
      if (s.designOf f).taps then
        [0, 1, 2, 3].foldl (fun s t => if s.tapMap (b + R.DBG_FLD_TAPIN) t = some c then s.emit (.tapIn f t) else s) s
      else s) s

/-- Address of a probe's control register: probe `i` in the order of R481. -/
def prbCtrl (i : Nat) : Nat := spineBlk (([0, 5, 13, 9, 15, 6, 14, 8, 7] : List Nat).getD (i / 4) 0) + 0x180 + 0x20 * (i % 4)

/-- An event at the probes, the cores and the pins of its channel (R469, R471). -/
def State.xtOthers (s : State) (c : Nat) : State :=
  let s :=
    if s.xtOwner c = 0x7F then
      let s := (List.range 36).foldl (fun s i =>
        let a := dbgBlk + 4 * i
        if s.flag a R.DBG_PRB_XT_IN_EN && s.rf a R.DBG_PRB_XT_IN_CH == c then
          s.wr (prbCtrl i) (wordSet (s.rd (prbCtrl i)) 30 30 (s.rf a R.DBG_PRB_XT_IN_START))
        else s) s
      if natBit (s.rf dbgBlk R.DBG_CORE_XT_HALT_MASK) c then [0, 1, 2, 3].foldl (fun s k => s.dbgCoreHalt k) s else s
    else s
  s.trigOut c

/-- The oldest event on its way along a channel, taken off it. -/
def dropFirst (c : Nat) : List (Nat × Nat) → List (Nat × Nat)
  | [] => []
  | e :: t => if e.1 = c then t else e :: dropFirst c t

/-- XT_EVENT_ARRIVE (R469-R471). -/
def execXtEventArrive (c : Fin 16) (s : State) : Host.Outcome State Fault Refusal :=
  .next (if s.dbg.xt.any (fun e => e.1 == c.val) then
      (State.xtFields { s with dbg := { s.dbg with xt := dropFirst c.val s.dbg.xt } } c.val).xtOthers c.val
    else s)

end Sys2Proof.Machine
end

