-- ==== Sys2Proof/Machine/StartOps.lean ====
section
/-! DEFINITION. What a start keeps and clears (R507, R511, R524), and what its steps do to DRAM and Commons (R333-R338, R316, R426). -/
namespace Sys2Proof.Machine

/-! ### Mode -/

/-- Power cap of a mode in W, R25. -/
def modeCap : Mode → Nat
  | .harvest => 650 | .market => 480 | .fallow => 320

/-- Mode of a code. -/
def modeOf (n : Nat) : Mode := match n with | 0 => .fallow | 2 => .harvest | _ => .market

/-- The operating mode in force, with its cap. -/
def State.setMode (s : State) (m : Mode) : State := State.wf { s with mode := m } startBlk R.PWR_CAP_CAP_W (modeCap m)

/-! ### Cold starts (R507, R524) -/

/-- Register `k` survives a cold start: the backup and debug domains (R450, R457), and DBG_BOOT, which the next start reads (R476). -/
def coldKept (k : Nat) : Bool :=
  match blkOfAddr k with
  | some (.bk, _) => true
  | some (.dloc, _) => true
  | some (.dbg, o) => o == R.DBG_BOOT
  | _ => false

/-- A Kelk record's fuses alone. -/
def kelkFuses (t : Tab KelkBnd) : Tab KelkBnd :=
  t.foldl (fun u e => tabPut (fun _ => {}) u e.1 { copies := e.2.copies }) []

/-- Security state that lies in fuses and on VBAT. -/
def SecSt.kept (x : SecSt) : SecSt := { x with change := none, ends := [], fails := [], ent := {}, drbg := {}, pke := [] }

/-- Debug state of the debug domain. -/
def DbgSt.kept (x : DbgSt) : DbgSt := { x with q := [], p := [], xt := [], halt := [], step := [] }

/-- The calendar as a start loads it (R451). -/
def State.calLoad (s : State) : Nat := if s.flag bkBlk R.BK_STAT_RTC_VALID then s.rtc else 0

/-- Everything but fuses, flash, the backup and the debug domain lost. -/
def State.coldClear (s : State) : State :=
  let s := s.lcTorn
  { State.reset with
    pending := s.pending, part := s.part, now := s.now, rtc := s.rtc, cal := s.calLoad, free := s.free, outs := s.outs,
    regs := tabKeep s.regs coldKept,
    par := { flash := s.par.flash },
    kelk := { s := kelkFuses s.kelk.s, w := kelkFuses s.kelk.w },
    ledger := s.ledger,
    cfg := { gang := s.cfg.gang, gangId := s.cfg.gangId },
    sec := s.sec.kept, dbg := s.dbg.kept }

/-- START_CAUSE, START_CFG and the run state of a start that begins. -/
def State.startRegs (s : State) (warm denied : Bool) (cause : Nat) (boot : Word) (chans : List Nat) : State :=
  let s := { s with start := { warm := warm, cause := cause, boot := boot, chans := chans } }
  let s := (s.wf startBlk R.START_CAUSE_CAUSE cause).wf startBlk R.START_CAUSE_WARM_DENIED (b2n denied)
  let s := s.wr (startBlk + R.START_CFG) (boot &&& 0xE0000003)
  s.setIf warm startBlk R.START_STAT_WARM

/-- A cold start begins (R507): the mode is START_CFG's; after a thermal trip THERM is reported (R523). -/
def State.coldStart (s : State) (cause : Nat) (denied : Bool) : State :=
  let boot := s.start.boot
  let s := (s.coldClear.startRegs false denied cause boot []).setMode (modeOf (wordBits boot 1 0))
  if cause = 4 then s.wf startBlk R.START_STAT_CODE 8 else s

/-! ### Warm starts (R511) -/

/-- Register `k` survives a warm start; `mig` names the channels whose migration continues (R339). -/
def warmKept (mig : List Nat) (k : Nat) : Bool :=
  coldKept k ||
  match blkOfAddr k with
  | some (.own, o) => decide (o < 0x280)
  | some (.dramhub, o) => decide (0x1000 ≤ o ∧ o < 0x4000)
  | some (.link, o) => o == R.LINK_OWNER
  | some (.mill, o) => o == R.MILL_OWNER
  | some (.fcu, o) => decide (0x1000 ≤ o ∧ o < 0x1800)
  | some (.site, o) => o == 0 || o == R.SITE_RIGHTS
  | some (.enc, o) => decide (o < 0xC)
  | some (.field, o) => o == R.CFG_FSTAT || o == R.CFG_FIMG
  | some (.mbxhub, o) => decide (o ≤ 0x400)
  | some (.ddr, o) => decide (0x20 ≤ o ∧ o < 0x38) && mig.contains (3 * (k / 0x1000000 - 1) + instOf k 0x200000 0x10000)
  | _ => false

/-- A controller as a warm start keeps it: counter caches, roots and a migration (R339, R358). -/
def DdrSt.kept (x : DdrSt) : DdrSt := { cache := x.cache, root := x.root, mig := x.mig }

/-- A link's retained grant (R204). -/
def LinkSt.keptGrant (x : LinkSt) : LinkSt := if x.grant.isSome then { grant := x.grant, granted := x.granted } else {}

/-- The kept registers whose fields do not all survive: site states LIVE where a reset was in progress, the key slots' lock, the fields'
records, and what is counted again. -/
def State.warmRegs (s : State) : State :=
  let s := (List.range 64).foldl (fun s n =>
    let st := s.siteState n
    (s.wr (siteBlk n) 0).wf (siteBlk n) R.SITE_STAT_STATE (if st = 2 then 1 else st)) s
  let s := (List.range 64).foldl (fun s n => s.tcritCount n) s
  let s := (List.range 65).foldl (fun s n =>
    let st := s.rf (encBlk n) R.ENC_STAT_STATE
    (s.wr (encBlk n + R.ENC_STAT_STATE.ofs) 0).wf (encBlk n) R.ENC_STAT_STATE (min st 1)) s
  let s := (List.range 128).foldl (fun s f =>
    let src := s.rf (fieldPage f) R.CFG_FSTAT_SRC
    (s.wr (fieldPage f + R.CFG_FSTAT) 0).wf (fieldPage f) R.CFG_FSTAT_SRC src) s
  s.wf parishBlk R.PAR_STAGED_COUNT s.par.staging.length

/-- A spare whose copy a warm start interrupts (R135): stored with the poisoned check of R130. -/
def State.remapTorn (s : State) (k : Nat) (v : Word) : State :=
  if !natBit v.toNat 30 then s
  else
    match blkOfAddr k with
    | some (.field, o) =>
      let f := 32 * (k / 0x1000000 - 1) + instOf k 0x800000 0x10000
      if R.BM_REMAP ≤ o ∧ o < R.BM_REMAP + 1536 then
        let i := f * 384 + (o - R.BM_REMAP) / 4
        let d := (tabGet (fun _ => 0) s.mem.bmSpare i).toNat % 2 ^ 64
        { s with mem := { s.mem with bmSpare := tabPut (fun _ => 0) s.mem.bmSpare i (codeWord d (check8 d ^^^ 3)) } }
      else s
    | some (.gran, o) =>
      let g := 8 * (k / 0x1000000 - 1) + instOf k 0x600000 0x10000
      if R.GR_REMAP ≤ o ∧ o < R.GR_REMAP + 64 then
        (List.range 4).foldl (fun s j =>
          let i := (g * 16 + (o - R.GR_REMAP) / 4) * 4 + j
          let d := (tabGet (fun _ => 0) s.mem.grSpare i).toNat % 2 ^ 128
          { s with mem := { s.mem with grSpare := tabPut (fun _ => 0) s.mem.grSpare i (codeQuarter d (check9 d ^^^ 3)) } }) s
      else s
    | _ => s

/-- The remap tables loaded from the ledger, without copying, each memory's entries in ledger order (R135). -/
def State.remapLoad (s : State) : State :=
  s.ledger.foldl (fun s e =>
    if e.kind = 0 then
      let f := e.loc % 16384 / 96
      let b := e.loc % 16384 % 96
      match [0, 1, 2, 3].find? (fun i => !natBit (s.bmRemap f b i) 31) with
      | some i => s.wr (fieldPage f + R.BM_REMAP + 4 * (4 * b + i)) (BitVec.ofNat 32 (2 ^ 31 + natBits e.loc 25 16))
      | none => s
    else if e.kind = 1 then
      let g := e.loc % 32
      match (List.range 16).find? (fun i => !natBit (s.grRemap g i) 31) with
      | some i => s.wr (granBlk g + R.GR_REMAP + 4 * i) (BitVec.ofNat 32 (2 ^ 31 + natBits e.loc 22 8))
      | none => s
    else s) s

/-- A warm start begins. -/
def State.warmStart (s : State) (cause : Nat) : State :=
  let s := s.regs.foldl (fun s e => s.remapTorn e.1 e.2) s
  let c := s.coldClear
  let mig := (List.range 12).filter (fun k => (s.ddr k).mig.isSome)
  let keep {α : Type} [DecidableEq α] (d : α) (t : Tab α) (g : α → α) : Tab α :=
    t.foldl (fun u e => tabPut (fun _ => d) u e.1 (g e.2)) []
  let s := { c with
    regs := tabKeep s.regs (warmKept mig),
    mode := s.mode,
    fab := { design := s.fab.design, upset := s.fab.upset },
    mem := { s.mem with bmSt := [], grSt := [], patrol := [] },
    cap := { recs := s.cap.recs },
    llp := { link := keep {} s.llp.link LinkSt.keptGrant },
    dram := { s.dram with ctl := keep {} s.dram.ctl DdrSt.kept, wait := [] },
    par := { s.par with reports := [], inc := [], scanned := false, area := false },
    cfg := { c.cfg with recs := s.cfg.recs },
    com := { dest := s.com.dest },
    start := { s.start with chans := s.dramList } }
  let boot := s.start.boot
  let chans := s.start.chans
  ((s.startRegs true false cause boot chans).setMode s.mode).warmRegs

/-! ### DRAM at a start -/

/-- What physical rank `p` becomes at a start: `n` ranks, spare rank `spare`, retired rank `used` that the spare replaces, `ranks` the
physical ranks in logical order. -/
def State.rankInit (s : State) (c n : Nat) (spare used : Option Nat) (ranks : List Nat) (p : Nat) : State :=
  let a := rankBlk c p
  let s := s.wr (a + R.DDR_RANK_STATE.ofs) 0
  if n ≤ p then s
  else if spare == some p then
    match used with
    | some g => (s.wf a R.DDR_RANK_STATE 1).wf a R.DDR_RANK_SERVES (ranks.findIdx (· == g))
    | none => s.wf a R.DDR_RANK_STATE 2
  else if used == some p then s.wf a R.DDR_RANK_STATE 4
  else (s.wf a R.DDR_RANK_STATE 1).wf a R.DDR_RANK_SERVES (ranks.findIdx (· == p))

/-- Physical ranks that serve the logical ranks in order (R317, R338), and what each physical rank becomes: a retired rank's addresses are
the spare's. -/
def State.rankSetup (s : State) (c : Nat) : State :=
  if (s.ddr c).mig.isSome then s
  else
    let b := ddrBlk c
    let n := s.rf b R.DDR_CTRL_RANKS + 1
    let spare := if s.flag b R.DDR_CTRL_SPARE_EN then some (s.rf b R.DDR_CTRL_SPARE_RANK) else none
    let ranks := (List.range n).filter (fun p => some p != spare)
    let gone := ranks.find? (fun p => s.ledger.any (fun e => e.kind == 2 && e.loc == c + 16 * p))
    let used := match spare with | some p => if p < n then gone else none | none => none
    [0, 1, 2, 3].foldl (fun s p => s.rankInit c n spare used ranks p) s

/-- Capacity of a channel in GiB, without a spare rank (R316). -/
def State.chanCap (s : State) (c : Nat) : Nat :=
  let b := ddrBlk c
  (s.rf b R.DDR_CTRL_RANKS + 1 - b2n (s.flag b R.DDR_CTRL_SPARE_EN)) * s.rf b R.DDR_CTRL_RANK_GIB

/-- A trained controller enters service at the set point given; one with none has failed (R315, R333, R334). -/
def State.trainAt (s : State) (c : Nat) (o : Option Nat) : State :=
  let b := ddrBlk c
  match o with
  | some f => ((s.wf b R.DDR_STAT_FSP f).wf b R.DDR_STAT_STATE 2).rankSetup c
  | none =>
    let s := (s.wf b R.DDR_STAT_STATE 4).setF b R.DDR_STAT_TRAIN_FAIL
    s.recordO 0x0060 (locator 7 c) (s.rd (b + R.DDR_STAT_STATE.ofs)).toNat

/-- Training or restoration of a channel (R315, R333, R334): its configuration, the set points trained, the one in force, the posture. -/
def State.trainChan (s : State) (x : ChanStart) : State :=
  let c := x.c.val
  let b := ddrBlk c
  let s := s.wr (b + R.DDR_CTRL_EN.ofs) (x.ctrl &&& 0xFF00FF00)
  let s := (x.rates.zip [0, 1, 2]).foldl (fun s e => s.wf (fspBlk c e.2) R.DDR_FSP0_RATE e.1.toNat) s
  let s := s.setDdr c { s.ddr c with bin := x.bin.toNat }
  let s := s.wf b R.DDR_RH_RFM (b2n x.rfm)
  if !s.flag b R.DDR_CTRL_EN then s
  else
    let s := [0, 1, 2].foldl (fun s f => s.wf (fspBlk c f) R.DDR_FSP0_TRAINED (b2n (natBit x.trained.toNat f))) s
    let s := s.wf b R.DDR_STAT_POSTURE (if x.restored then x.posture.val else modeNo s.mode)
    s.trainAt c (s.fspBest c none)

/-- Channels in service after training. -/
def State.trainedChans (s : State) : List Nat := (List.range 12).filter (fun c => s.ddrState c == 2)

/-- DRAM_INTLV built over the channels in service (R316). -/
def State.buildIntlv (s : State) : State :=
  let l := s.trainedChans
  let cap := (l.map s.chanCap).foldl min 511
  let mask := l.foldl (fun a c => a + 2 ^ c) 0
  s.wr (dramHub + R.DRAM_INTLV) (if l.isEmpty then 0 else BitVec.ofNat 32 (cap * 2 ^ 23 + (l.length - 1) * 2 ^ 12 + mask))

/-- Step 10: the interleave; every block UNFILLED at a cold start, and at a warm start whose channel list has changed, when every key slot
is disabled and a record staged whose code the manual does not give (R512). -/
def State.step10 (s : State) : State :=
  let s := s.buildIntlv
  if !s.start.warm then { s with dram := { s.dram with filled := [] } }
  else if s.dramList = s.start.chans then s
  else
    let s := { s.encOffAll with dram := { s.encOffAll.dram with filled := [] } }
    let (v, s) := s.fresh
    s.recordO (v % 65536) (locator 0 0) (s.rd (dramHub + R.DRAM_INTLV)).toNat

/-! ### Commons at a start (R426, R476) -/

/-- A slot as verified (R426). -/
def State.slotCheck (s : State) (x : SlotIn) : SlotSt :=
  ⟨x.ok && decide (s.sec.svnMin ≤ x.svn.toNat), x.seq.toNat, x.svn.toNat, x.ver.toNat⟩

/-- The slot that runs: the valid one with the higher SEQ, A when equal. -/
def slotPick (a b : SlotSt) : Option Nat :=
  if a.valid && b.valid then (if a.seq < b.seq then some 1 else some 0)
  else if a.valid then some 0 else if b.valid then some 1 else none

/-- Every core released at the image entry point: WP 0, TD 0, every ring window free (R423 step 4); held by debug with HOLD_COMMONS. -/
def State.coresRelease (s : State) (hold : Bool) : State :=
  let s := { s with cores := { s.cores with core := [] } }
  [0, 1, 2, 3].foldl (fun s c =>
    (s.wr (coreBlk c + R.CMN_CORE_STAT) 0).wf (coreBlk c) R.CMN_CORE_STAT_STATE (if hold then 3 else 1) |>.setCore c { kick := s.now }) s

/-- Commons released (step 13). -/
def State.commonsStart (s : State) (slot : Nat) : State :=
  let hold := s.flag dbgBlk R.DBG_BOOT_HOLD_COMMONS
  let s := (s.wf mgmtBlk R.CMN_RST_STAT_SLOT slot).coresRelease hold
  let s := { s with host := { s.host with hbAt := s.now } }
  if hold then s else s.wf mbxHub R.COMMONS_HB_STATE 1

end Sys2Proof.Machine
end

