-- ==== Sys2Proof/Machine/Start.lean ====
section
/-! DEFINITION. Cold and warm starts, their steps and what stops them (R507-R513, R536), rails and brown-out (R515, R603). -/
namespace Sys2Proof.Machine

/-! ### The start's own record -/

/-- Last step completed. -/
def State.stepNo (s : State) : Nat := s.rf startBlk R.START_STAT_STEP

/-- The START record (R583). -/
def State.startRecord (s : State) : State :=
  s.recordO 0x0010 (locator 0 0) (s.rd64 (startBlk + R.START_STAT))

/-- A start that cannot continue (R513). -/
def State.startStop (s : State) (code arg : Nat) : State :=
  let s := (s.wf startBlk R.START_STAT_CODE code).wf startBlk R.START_STAT_ARG arg
  State.startRecord { s with start := { s.start with run := false, posture := none } }

/-- A step completed. -/
def State.stepDone (s : State) (n : Nat) : State := s.wf startBlk R.START_STAT_STEP n

/-- The boot image, the gang load and the warm reload have been written or have failed (R497, R509 step 11). -/
def State.bootWritten (s : State) : Bool :=
  s.cfg.groups.all (fun x => !(x.kind == 0 || x.kind == 1 || x.kind == 6) || decide (4 ≤ x.pass))

/-- The step that follows the last one (R509; at a start in gang mode R510, while the way out of HIBERNATE keeps the order of R517). Step 11
overlaps steps 8 to 10; it counts where it ends before step 12. -/
def State.nextStep (s : State) : Nat :=
  let n := s.stepNo
  let gang := s.cfg.gang && s.start.target.isNone
  if gang && n = 4 then 6
  else if gang && n = 7 then 5
  else if gang && n = 5 then 8
  else if n = 10 && !s.bootWritten then 12
  else n + 1

/-! ### Steps 2-8 -/

/-- Step 2: fuses; recovery alone in SCRAPPED and under sealed fault (R432, R438, R440). -/
def startFuses (s : State) : State :=
  let s := s.senseFuses
  let s := if s.start.warm then s else s.sessionBase
  if s.lcDead then s.startStop 3 s.lc else s.stepDone 2

/-- Step 3: the references; A is preferred when both are stable (R536). The step waits while none is. -/
def startRefs (s : State) : State :=
  let go (i : Nat) : State :=
    let s := ((s.wf clkBlk R.CLK_ROOT_SEL i).wf clkBlk R.CLK_ROOT_ACTIVE i).clrF clkBlk R.CLK_REF_STAT_TTC_FREE
    State.stepDone { s with ttc := 0, clk := { s.clk with ref := i } } 3
  if s.flag clkBlk (refStableF 0) then go 0 else if s.flag clkBlk (refStableF 1) then go 1 else s

/-- Steps 4 and 7 are performed: a cold start, or SCRUB_ON_WARM. -/
def State.scrubs (s : State) : Bool := !s.start.warm || s.flag startBlk R.START_CFG_SCRUB_ON_WARM

/-- Step 4: hub SRAM zero-filled, with the parish staging and ring in it (R585). -/
def startSram (s : State) : State :=
  let s := if s.scrubs then State.wf { s with par := { s.par with staging := [], ring := [] } } parishBlk R.PAR_STAGED_COUNT 0 else s
  s.stepDone 4

/-- The backup log copied into the parish register and cleared (R454). -/
def State.logCopy (s : State) : State :=
  let n := s.rf bkBlk R.BK_LOG_CNT_USED
  let ovf := s.rf bkBlk R.BK_LOG_CNT_OVF
  let s := s.setIf (decide (0 < n)) bkBlk R.BK_STAT_LOG_NEW
  let s := (List.range n).foldl (fun s i =>
    let lo := (s.rd (bkBlk + R.BK_LOG_LO + 8 * i)).toNat
    let hi := (s.rd (bkBlk + R.BK_LOG_HI + 8 * i)).toNat
    let t := (lo + hi % 4 * 2 ^ 32) * 1000000000 + natBits hi 26 12 * 1000000000 / 32768
    s.stage ⟨0, t, t, 0x0026, locator 10 0, 4, 0x7F, 1, natBits hi 30 27⟩) s
  let s := if 0 < ovf then s.recordO 0x0027 (locator 10 0) ovf else s
  bkLogClr 1 s

/-- The stored patch record loaded, or recorded when it is refused (R429, R513). -/
def State.patchStart (s : State) (p : Option PatchRec) : State :=
  match p with
  | none => s
  | some p => if p.sigOk && !patchBad p.ents then s.patchLoad p.level.toNat p.ents p.ram else s.recordO 0x0033 (locator 11 0) 0

/-- The binding table written at a cold start and locked (R384). -/
def State.bindTable (s : State) (l : List Word) : State :=
  let s := if s.start.warm then s else (l.zip (List.range 128)).foldl (fun s e => s.wr (mbxHub + 4 * e.2) e.1) s
  s.setF mbxHub R.MBX_LOCK_LOCKED

/-- The fields a warm start reloads: those with a record, but for those the gang load took (R495, R510). -/
def State.warmReload (s : State) : State :=
  s.cfgReload 6 0x7F 0 ((List.range 128).filter (fun f =>
    (s.cfgRec f).isSome && !(s.cfg.gang && s.rf (fieldPage f) R.CFG_FSTAT_SRC == 3)))

/-! ### The flash directory (R484, R485) -/

/-- Field of a directory copy: `n` bytes from byte `o`. -/
def dirField (bs : List Byte) (o n : Nat) : Nat := leBytes ((bs.drop o).take n)

/-- Entry `e` of a directory copy (R484). -/
def dirEntry (bs : List Byte) (e : Nat) : DirEntry :=
  let o := 16 + 16 * e
  ⟨dirField bs o 1, dirField bs (o + 1) 1 % 2, dirField bs (o + 4) 4, dirField bs (o + 8) 4⟩

/-- A directory copy, where its MAGIC is correct and its CRC passes (R484, R485). -/
def dirParse (bs : List Byte) : Option FlashDir :=
  if bs.length = 4096 && dirField bs 0 4 == 0x44495247 && dirField bs 4092 4 == crc32 (bs.take 4092) then
    some { seq := dirField bs 4 4, bus := dirField bs 8 1 % 4, addr4 := natBit (dirField bs 8 1) 2, mhz := dirField bs 9 1,
           readOp := dirField bs 10 1, dummy := dirField bs 11 1, entries := (List.range 32).map (dirEntry bs) }
  else none

/-- The copy in use: the valid one with the higher SEQ, copy A where they are equal (R485). -/
def dirPick (a b : Option FlashDir) : Option FlashDir :=
  match a, b with
  | some x, some y => if x.seq < y.seq then some y else some x
  | some x, none => some x
  | none, y => y

/-- The area of a TYPE: the lower-numbered entry of two (R485). -/
def State.dirArea (s : State) (ty : Nat) : Option DirEntry :=
  match s.cfg.dir with
  | some d => d.entries.find? (fun e => e.ty == ty)
  | none => none

/-- The directory has an area of a TYPE: 1 the boot image, 2 the Reeve boot configuration, 3 and 4 Commons slots A and B, 5 and 6 the training cache,
8 the patch record, 9 the parish area (R484). -/
def State.hasArea (s : State) (ty : Nat) : Bool := (s.dirArea ty).isSome

/-- Step 5: the flash directory and what is read from it (R384, R429, R452, R454, R484, R485), of the areas that it has. A gang member waits for the
gang's CONF_DONE. -/
def startFlash (x : StartIn) (s : State) : State :=
  if s.cfg.gang && !(s.start.gangDone && s.bootWritten && x.gangUp) then s
  else
    let s := { s with cfg := { s.cfg with dir := dirPick (dirParse x.dirA) (dirParse x.dirB) }, pcie := { s.pcie with subsys := x.subsys } }
    let ok := x.cfgOk && s.hasArea 2
    let s := match if s.hasArea 5 || s.hasArea 6 then x.boot else none with
      | none => s
      | some b =>
        let s := State.wr { s with start := { s.start with boot := b } } (startBlk + R.START_CFG) (b &&& 0xE0000003)
        if s.start.warm then s else s.setMode (modeOf (wordBits b 1 0))
    if !ok && (s.lc == 2 || s.lc == 3) then s.startStop 4 0
    else
      let s := s.bindTable (if ok then x.bind else [])
      let s := (s.wr (bkBlk + R.BK_TAMPER0) (if ok then x.tamper0 else 0)).wr (bkBlk + R.BK_TAMPER1) (if ok then x.tamper1 else 0)
      let s := s.logCopy.patchStart (if s.hasArea 8 then x.patch else none)
      let s := { s with par := { s.par with area := s.hasArea 9 }, start := { s.start with loading := s.hasArea 1 } }
      let s := if s.cfg.gang && s.start.warm then s.warmReload else s
      s.stepDone 5

/-- Kelk spare selection (R554, R555); on option G the guest port trains (R562). -/
def startDiesUp (x : StartIn) (s : State) : State :=
  let s := s.kelkSelect (!s.start.warm) x.wiresS x.wiresW
  if s.part.optionG then s.wf guestBlk R.GST_STAT_STATE 1 else s

/-- A die that cannot be reached stops the start, with every fabric and transceiver die held in reset: no partial part runs (R13, R513, R555). -/
def State.kelkStop (s : State) (d : Nat) : State := State.startStop { s with diesDown := 0x1FE } 5 d

/-- The end of step 6: the dies are released, unless the selection cut one off (R13, R513, R555). -/
def State.startKelk (s : State) (cut : List Nat) : State :=
  match cut with
  | d :: _ => s.kelkStop d
  | [] => State.stepDone { s with diesDown := 0 } 6

/-- Step 6: the rails checked, then the dies and the Kelk selection (R515, R554, R555). -/
def startDies (x : StartIn) (s : State) : State :=
  match x.rail with
  | some g => s.startStop 1 g.val
  | none => (startDiesUp x s).startKelk (startDiesUp x s).cutList

/-- Step 7: on-chip memories and configuration memory zero-filled (R124, R239); the boot image or the reloads go to the engine (R491, R495,
R497), but not on the way out of HIBERNATE (R517). -/
def startFill (s : State) : State :=
  let s := if s.scrubs then
      { s with mem := {}, cap := { s.cap with recs := [] }, fab := { s.fab with design := [], upset := [] }, dbg := { s.dbg with q := [], p := [] } }
    else s
  let s :=
    if s.cfg.gang || s.start.target.isSome then s
    else if s.start.warm then s.warmReload
    else if s.start.loading then s.cfgAdd { id := 0, kind := 0, site := 0x7F, chan := 0, pass := 1 }
    else s
  s.remapLoad.stepDone 7

/-! ### Steps 9-14 -/

/-- The end of step 9. DEDUCED: a die that the verification cuts off stops the start as one at step 6 does, since R13 and R555 speak of the start
as a whole (log entry 19). -/
def State.startVerified (s : State) (cut : List Nat) : State :=
  match cut with
  | d :: _ => s.kelkStop d
  | [] => s.stepDone 9

/-- Kelk verification under the posture (R554). -/
def State.startVerify (s : State) (x : StartIn) : State :=
  let s := (s.kelkVerify x.wiresS x.wiresW).selectCrossings
  s.startVerified s.cutList

/-- Step 8: the threshing posture is raised to the load of the selected mode (R516). -/
def startPosture (s : State) : State :=
  State.stepDone { s with start := { s.start with posture := if s.start.warm then none else some s.mode } } 8

/-- Step 12: the posture is released (R509). -/
def startRelease (s : State) : State := State.stepDone { s with start := { s.start with posture := none } } 12

/-- The lanes whose partners are present adapt under the posture (R186): their equalisers hold the settings found at its load. -/
def startAdapt (l : List LaneStart) (s : State) : State :=
  if s.start.posture.isNone then s
  else l.foldl (fun s x => (s.wf (laneBlk x.lane) R.LANE_RXEQ_CTLE x.ctle.toNat).wf (laneBlk x.lane) R.LANE_RXEQ_DFE1 x.dfe.toNat) s

/-- Step 9: every channel trained or restored; one that fails stops the start, or is left out in degraded boot (R315, R333, R334, R336);
Kelk verification (R554); the lanes adapt (R186). -/
def startTrain (x : StartIn) (s : State) : State :=
  let s := startAdapt x.lanes s
  let s := x.chans.foldl (fun s c => s.trainChan c) s
  match (List.range 12).find? (fun c => s.ddrState c != 2) with
  | some c =>
    if s.flag startBlk R.START_CFG_DEGRADED_EN then
      (s.setF startBlk R.START_STAT_DEGRADED).startVerify x
    else s.startStop 6 c
  | none => s.startVerify x

/-- Step 13: Commons verified and released (R426); without a boot image CONF_DONE and CONF_ERR_N are released (R498). -/
def startCommons (x : StartIn) (s : State) : State :=
  let a := s.slotCheck { x.slotA with ok := x.slotA.ok && s.hasArea 3 }
  let b := s.slotCheck { x.slotB with ok := x.slotB.ok && s.hasArea 4 }
  let s := { s with cores := { s.cores with slotA := a, slotB := b } }
  match slotPick a b with
  | none => s.startStop 7 0
  | some n =>
    let s := (s.commonsStart n).wf mgmtBlk R.REEVE_STAT_STATE 1
    let s := if s.start.warm || s.start.loading || s.cfg.gang then s
      else { s with cfg := { s.cfg with confDone := true, confErrN := true } }
    s.stepDone 13

/-- The written groups of a start begin their startup order (R496, R509 step 14). -/
def State.startGroups (s : State) : State :=
  s.cfg.groups.foldl (fun s x =>
    if (x.kind == 0 || x.kind == 1 || x.kind == 6) && x.pass == 4 then
      if x.done.isEmpty then s.cfgDrop x.id else s.cfgSet { x with pass := 3, step := 0, since := s.ttc }
    else s) s

/-- Step 14: fields start, DONE. -/
def startEnd (s : State) : State :=
  if !s.bootWritten then s
  else
    let s := ((s.startGroups.stepDone 14).setF startBlk R.START_STAT_DONE).startRecord
    { s with start := { s.start with run := false } }

/-- A step completes, with what it found (R509). -/
def startStep (x : StartIn) (s : State) : State :=
  if !s.start.run || s.start.ret || s.deaf then s
  else match s.nextStep with
  | 2 => startFuses s
  | 3 => startRefs s
  | 4 => startSram s
  | 5 => startFlash x s
  | 6 => startDies x s
  | 7 => startFill s
  | 8 => startPosture s
  | 9 => startTrain x s
  | 10 => s.step10.stepDone 10
  | 12 => startRelease s
  | 13 => startCommons x s
  | 14 => startEnd s
  | n => s.stepDone n

/-- START_STEP_COMPLETE (R509, R513). -/
def execStartStepComplete (x : StartIn) (s : State) : Host.Outcome State Fault Refusal := .next (startStep x s)

/-- REFCLK_WAIT_TIMEOUT (R536): step 3 has found no stable reference. -/
def execRefclkWaitTimeout (s : State) : Host.Outcome State Fault Refusal :=
  .next (if s.start.run && !s.deaf && s.stepNo == 2 && !s.flag clkBlk (refStableF 0) && !s.flag clkBlk (refStableF 1) then s.startStop 2 0 else s)

/-- GANG_BOOT_LOAD (R500, R510): after step 7 the gang load's first pass begins. -/
def execGangBootLoad (s : State) : Host.Outcome State Fault Refusal :=
  .next (if s.start.run && !s.deaf && s.cfg.gang && s.stepNo == 7 && !s.start.gangDone then
      State.cfgAdd { s with start := { s.start with gangDone := true } } { id := 0, kind := 1, site := 0x7F, chan := 0, pass := 1 }
    else s)

/-! ### What begins a start -/

/-- The start that follows a reset (R507, R508): warm where it is allowed. WARM_DENIED tells of a WARM command alone. -/
def State.startBegin (s : State) : State :=
  let c := s.start.cause
  let ok := s.flag startBlk R.START_CFG_WARM_EN && !s.start.railBad && !s.start.trip
  if (c = 1 || c = 3) && ok then s.warmStart c else s.coldStart c (c = 3)

/-- The hub held in reset, and every other die with it. -/
def State.holdHub (s : State) : State :=
  let s := s.lcTorn.tearRecords
  { s with start := { s.start with hold := true, ret := false, run := false }, diesDown := 0x1FE }

/-- The retention step begins (R508, R585); in the safe state it completes at once (R544). -/
def State.retain (s : State) (cause : Nat) : State :=
  let c := if s.start.trip then s.start.cause else cause
  let s := { s with start := { s.start with cause := c } }
  if s.clk.safe then s.holdHub else { s.flush false with start := { (s.flush false).start with ret := true } }

/-- RESET_N_FALL (R508). -/
def resetFall (s : State) : State :=
  if s.start.pinLow then s
  else
    let s := { s with start := { s.start with pinLow := true } }
    if s.start.hold || s.start.ret then s else s.retain 1

/-- RESET_N_FALL (R508): RESET_N has been low for 1 µs. -/
def execResetNFall (s : State) : Host.Outcome State Fault Refusal := .next (resetFall s)

/-- A start begins when RESET_N is high and the retention step has completed (R508); not from OFF, nor out of a brown-out (R517, R603). -/
def State.startIfReady (s : State) : State :=
  if s.start.hold && !s.start.pinLow && s.start.cause != 0 && s.pwrState != 4 then s.startBegin else s

/-- RESET_N_RISE (R508). -/
def execResetNRise (s : State) : Host.Outcome State Fault Refusal :=
  .next (State.startIfReady { s with start := { s.start with pinLow := false } })

/-- Write queues completed into the devices. -/
def State.drainAll (s : State) : State :=
  (List.range 12).foldl (fun s c =>
    let x := s.ddr c
    let s := (x.q0 ++ x.q1).foldl (fun s e => s.storeLine c e.1 e.2) s
    s.setDdr c { x with q0 := [], q1 := [] }) s

/-- The retention step ends (R508): the hub resets; a request for OFF leaves it so (R518). -/
def retentionDone (s : State) : State :=
  if !s.start.ret then s
  else
    let s := s.drainAll.holdHub
    if s.start.target == some 4 then
      State.wf { s with start := { s.start with target := none, cause := 0 } } startBlk R.PWR_STATE_STATE 4
    else s.startIfReady

/-- RETENTION_DONE (R508). -/
def execRetentionDone (s : State) : Host.Outcome State Fault Refusal := .next (retentionDone s)

/-- A write to START_CMD (R507, R531): both bits are ignored; COLD flushes staging first (R585); WARM runs the retention step. -/
def startCmd (v : Word) (s : State) : State :=
  match natBits v.toNat 1 0 with
  | 1 => (s.flush false).coldStart 2 false
  | 2 => if s.start.ret then s else s.retain 3
  | _ => s

/-- START_CMD_COLD (R507). -/
def execStartCmdCold (r : Req) (v : Word) (s : State) : Host.Outcome State Fault Refusal :=
  .next (s.gated r (startBlk + R.START_CMD) true (startCmd v))

/-- START_CMD_WARM (R507). -/
def execStartCmdWarm (r : Req) (v : Word) (s : State) : Host.Outcome State Fault Refusal :=
  .next (s.gated r (startBlk + R.START_CMD) true (startCmd v))

/-- POWER_ON (R507, R515): every rail is in range and RESET_N is high; the gang pins, VBAT and the boot settings in flash are as found. -/
def execPowerOn (vbat gang : Bool) (gangId : Fin 16) (boot : Word) (s : State) : Host.Outcome State Fault Refusal :=
  let s := { s with cfg := { s.cfg with gang := gang, gangId := gangId.val }, start := { s.start with boot := boot } }
  .next ((s.coldStart 0 false).wf bkBlk R.BK_STAT_VBAT_OK (b2n vbat))

/-- BROWN_OUT (R603): the hub is held until the rails are back, which POWER_ON tells. -/
def execBrownOut (s : State) : Host.Outcome State Fault Refusal :=
  .next { s.holdHub with start := { s.holdHub.start with cause := 0, railBad := true } }

/-- A trip (R515, R523): the asynchronous safe state until RESET_N, and a cold start after it. -/
def State.tripHold (s : State) (cause : Nat) : State :=
  let s := s.safeState
  { s with start := { s.start with trip := true, cause := cause, railBad := s.start.railBad || cause == 5 } }

/-- RAIL_OUT_OF_RANGE (R508, R515): a rail of group `g`; group 3 or 4 after step 6 trips the part. -/
def execRailOutOfRange (g : Fin 5) (s : State) : Host.Outcome State Fault Refusal :=
  .next (if g.val = 0 || s.start.hold then s
    else if 3 ≤ g.val && 6 ≤ s.stepNo && !s.clk.safe then s.tripHold 5
    else { s with start := { s.start with railBad := true } })

end Sys2Proof.Machine
end

