-- ==== Sys2Proof/Machine/Auth.lean ====
section
/-! DEFINITION. What follows an operation of the public-key engine (R434, R435, R442, R464, R467, R468). -/
namespace Sys2Proof.Machine

/-- The operation a request waits for has passed. -/
def State.pkePass (s : State) : PkeWhy → State
  | .lifecycle dst chan p => if dst = 2 && s.rf secBlk R.SEC_PKE_STAT_LAST_OP = 2 then s.pkeStart 3 (.lifecycle dst chan p) else s.lcApply dst chan p
  | .respond ok level =>
    if ok then
      let m := match debugKey s.lc with | some (row, _) => if row = 1 then 1 else 2 | none => 0
      ((s.wf dlocBlk R.DBG_SESSION_LEVEL level).wf dlocBlk R.DBG_SESSION_METHOD m).authEnd 3 0
    else s.authFail
  | .bbkey ver ok key =>
    if !ver then s.pkeStart 3 (.bbkey true ok key)
    else if ok then
      let s := { s with sec := { s.sec with bbkey := some key } }
      let s := (s.setF secBlk R.SEC_KEY_STAT_BBKEY_VALID).setF bkBlk R.BK_STAT_BBKEY_VALID
      (s.recordO 0x0024 (locator 11 0) 0).authEnd 3 0
    else s.authFail
  | .recover dst =>
    State.coldStart { s with sec := { s.sec with lc := s.sec.lc.map (lcFill dst) } } 2 false

/-- The operation has failed: what was asked is refused (R443). -/
def State.pkeDeny (s : State) : PkeWhy → State
  | .lifecycle _ chan _ => s.lcEnd chan 0x12 0
  | _ => s.authFail

/-- An operation ends (R442): the next in the queue runs. One that no request of the queue waits for served the verification of an image, a
patch or a Commons slot, whose outcome its own command brings. -/
def pkeDone (op res : Nat) (s : State) : State :=
  if op = 0 then s
  else
    let s := (s.wf secBlk R.SEC_PKE_STAT_LAST_OP op).wf secBlk R.SEC_PKE_STAT_LAST_RESULT res
    match s.sec.pke with
    | (o, w) :: t =>
      if o = op then
        let s := { s with sec := { s.sec with pke := t } }
        let s := if res = 0 then s.pkePass w else s.pkeDeny w
        s.wf secBlk R.SEC_PKE_STAT_BUSY (b2n !s.sec.pke.isEmpty)
      else s
    | [] => s

/-- PKE_OP_DONE (R442). -/
def execPkeOpDone (op res : Fin 6) (s : State) : Host.Outcome State Fault Refusal := .next (if s.deaf then s else pkeDone op.val res.val s)

end Sys2Proof.Machine
end

