-- ==== Sys2Proof/Machine/CommonsOps.lean ====
section
/-! DEFINITION. The Commons command protocol: messages, senders, responses, buffers, ordering and the journal (R391-R400, R423). -/
namespace Sys2Proof.Machine

/-! ### Channels of Commons and their senders (R384, R395) -/

/-- Side of a channel Commons is on: true for B. -/
def State.cmnSide (s : State) (c : Nat) : Option Bool :=
  if s.mbxEndB c == 65 then some true else if s.mbxEndA c == 65 then some false else none

/-- The other endpoint of a channel of Commons. -/
def State.cmnPeer (s : State) (c : Nat) : Nat := if s.mbxEndB c == 65 then s.mbxEndA c else s.mbxEndB c

/-- The field a fabric-port channel is bound to (R385). -/
def State.fpField (s : State) (m : Nat) : Option Nat :=
  let b := mbxHub + 4 * m
  let k := s.rf b R.MBX_FPBIND_MID
  if s.flag b R.MBX_FPBIND_VALID && decide (0x100 ≤ k) && decide (k < 0x180) then some (k - 0x100) else none

/-- The site a fabric-port channel serves, 0x7F for none. -/
def State.fpOwner (s : State) (m : Nat) : Nat := match s.fpField m with | some f => s.fieldOwner f | none => 0x7F

/-- Whose rights the messages of an endpoint take; none for the Reeve's private channels. -/
def State.senderOf (s : State) (e : Nat) : Option Sender :=
  if e = 0 then some .p
  else if e ≤ 64 then some (.s (e - 1))
  else if e = 67 then some .g
  else if 68 ≤ e ∧ e < 116 then some (.s (s.fpOwner (e - 68)))
  else none

/-- Bit of a sender's class: 1 P, 2 S, 4 G. -/
def Sender.bit : Sender → Nat
  | .p => 1 | .s _ => 2 | .g => 4

/-! ### Requests (R391, R392, R400) -/

/-- The journalled request of a channel. -/
def State.cmdReq (s : State) (c : Nat) : Option CmdReq := tabGet (fun _ => none) s.com.req c
/-- It replaced, or cleared. -/
def State.setReq (s : State) (c : Nat) (q : Option CmdReq) : State :=
  { s with com := { s.com with req := tabPut (fun _ => none) s.com.req c q } }

/-- Header fields. -/
def CmdReq.group (q : CmdReq) : Nat := wordBits q.hdr 31 24
def CmdReq.cmd (q : CmdReq) : Nat := wordBits q.hdr 23 16
def CmdReq.tag (q : CmdReq) : Nat := wordBits q.hdr 15 8
def CmdReq.len (q : CmdReq) : Nat := wordBits q.hdr 7 0

/-- Word Wi of a request, from W1. -/
def CmdReq.w (q : CmdReq) (i : Nat) : Nat := (q.args.getD (i - 1) 0).toNat

/-- The commands of R401-R414: group, code, lengths and sender classes. -/
def cmdTable : List (Nat × Nat × List Nat × Nat) :=
  [(1, 1, [0, 1, 2, 3, 4, 5, 6, 7, 8, 9, 10, 11, 12, 13, 14], 7), (1, 2, [0], 7), (1, 3, [1], 1), (1, 4, [0], 7),
   (2, 1, [1], 1), (2, 2, [1], 1), (2, 3, [2], 1), (2, 4, [2], 1), (2, 5, [1], 3), (2, 6, [2], 1), (2, 7, [4], 3), (2, 8, [1], 3),
   (3, 1, [4], 3), (3, 2, [1], 3), (3, 3, [2], 1), (3, 4, [3], 1),
   (4, 1, [2], 3), (4, 2, [1], 3), (4, 3, [1], 3), (4, 4, [2], 3),
   (5, 1, [2], 3), (5, 2, [3], 3), (5, 3, [1], 3), (5, 4, [1], 3),
   (6, 1, [3], 3), (6, 2, [1], 3)] ++
  [(7, 1, [3, 6], 3), (7, 2, [1], 3), (7, 3, [1], 3), (7, 4, [1], 3),
   (8, 1, [3], 1), (8, 2, [0], 3), (8, 3, [1], 1), (8, 4, [1], 1),
   (9, 1, [3], 3), (9, 2, [1], 3), (9, 3, [1], 7), (9, 4, [4], 1),
   (10, 1, [1], 7), (10, 2, [1], 1), (10, 3, [0], 7),
   (11, 1, [5], 3), (11, 2, [1], 1), (11, 3, [0], 1),
   (12, 1, [0], 7), (12, 2, [4], 1), (12, 3, [1], 1), (12, 4, [3], 1)]

/-- Row of a command. -/
def cmdRow (g k : Nat) : Option (List Nat × Nat) := (cmdTable.find? (fun e => e.1 == g && e.2.1 == k)).map (·.2.2)

/-! ### Responses (R393) -/

/-- Words Commons may push on a channel. -/
def State.cmnSpace (s : State) (c : Nat) : Nat :=
  match s.cmnSide c with
  | some true => 16 - (s.mbxQ c).toA.length
  | some false => 16 - (s.mbxQ c).toB.length
  | none => 16

/-- A response sent whole once there is room for it, and the journal entry cleared (R400). -/
def State.cmnSend (s : State) (c : Nat) (q : CmdReq) : State :=
  match q.resp with
  | none => s
  | some ws =>
    if ws.length ≤ s.cmnSpace c then
      State.setReq (match s.cmnSide c with | some b => ws.foldl (fun s w => s.mbxPush c b w) s | none => s) c none
    else s.setReq c (some q)

/-- A response of group `g`, command `k` and a tag: STATUS `st` with DETAIL `d`, and result words with OK only (R393). -/
def respWords (g k tag st d : Nat) (ws : List Word) : List Word :=
  let ws := if st = 0 then ws else []
  BitVec.ofNat 32 (g * 2 ^ 24 + (k ||| 0x80) * 2 ^ 16 + tag * 2 ^ 8 + (ws.length + 1)) :: BitVec.ofNat 32 (d % 2 ^ 16 * 2 ^ 16 + st) :: ws

/-- A request answered. -/
def State.cmnReply (s : State) (c : Nat) (q : CmdReq) (st d : Nat) (ws : List Word) : State :=
  s.cmnSend c { q with resp := some (respWords q.group q.cmd q.tag st d ws) }

/-! ### Popping (R392) -/

/-- Commons pops a word of a channel. -/
def State.cmnPop (s : State) (c : Nat) : Option (Word × State) :=
  match s.cmnSide c with
  | none => none
  | some b => if (if b then (s.mbxQ c).toB else (s.mbxQ c).toA).isEmpty then none else some (s.mbxPop c b)

/-- The words of a request popped as far as they have arrived. -/
def cmnWords (c : Nat) : Nat → CmdReq → State → CmdReq × State
  | 0, q, s => (q, s)
  | n + 1, q, s =>
    match s.cmnPop c with
    | some (w, s) => cmnWords c n { q with args := q.args ++ [w] } s
    | none => (q, s)

/-- Every word waiting on a channel popped and discarded. -/
def cmnDrain (c : Nat) : Nat → State → State
  | 0, s => s
  | n + 1, s => match s.cmnPop c with | some (_, s) => cmnDrain c n s | none => s

/-- A complete request: refused for its group, command or length, or ready to run (R392). -/
def State.cmnCheck (s : State) (c : Nat) (q : CmdReq) : State :=
  if q.group = 0 || 12 < q.group then s.cmnReply c q 3 0 []
  else
    match cmdRow q.group q.cmd with
    | none => s.cmnReply c q 4 0 []
    | some (ls, _) => if ls.contains q.len then s.setReq c (some { q with whole := true }) else s.cmnReply c q 5 0 []

/-- Words of a request taken, and the request checked once it is whole. -/
def State.cmnTake (s : State) (c : Nat) (q : CmdReq) : State :=
  let (q, s) := cmnWords c (q.len - q.args.length) q s
  if q.args.length = q.len then s.cmnCheck c q else s.setReq c (some q)

/-- Commons at a channel (R392, R397): a response that waits for room is sent; a request that lacks words takes them; with no request in
hand the next header is popped and journalled. -/
def headerPop (c : Nat) (s : State) : State :=
  if s.deaf || s.hbState != 1 then s
  else
    match s.cmdReq c, s.senderOf (s.cmnPeer c) with
    | some q, _ => if q.resp.isSome then s.cmnSend c q else if q.whole then s else s.cmnTake c q
    | none, none => s
    | none, some snd =>
      match s.cmnPop c with
      | none => s
      | some (h, s) =>
        let q : CmdReq := { snd := snd, hdr := h, seq := s.com.next }
        let s := { s with com := { s.com with next := s.com.next + 1 } }
        if q.group = 0 || q.group = 0xFF || 15 < q.len then
          (cmnDrain c 16 s).cmnSend c { q with resp := some (respWords 0 0x80 0 2 0 []) }
        else s.cmnTake c q

/-- COMMONS_HEADER_POP (R392). -/
def execCommonsHeaderPop (c : Fin 128) (s : State) : Host.Outcome State Fault Refusal := .next (headerPop c.val s)

/-- Words missing 10 ms after the header: BAD_LENGTH (R392). -/
def lengthTimeout (c : Nat) (s : State) : State :=
  match s.cmdReq c with
  | some q => if s.deaf || s.hbState != 1 || q.whole || q.resp.isSome then s else s.cmnReply c q 5 0 []
  | none => s

/-- COMMONS_LENGTH_TIMEOUT (R392). -/
def execCommonsLengthTimeout (c : Fin 128) (s : State) : Host.Outcome State Fault Refusal := .next (lengthTimeout c.val s)

/-! ### Ordering (R398) -/

/-- DRAM granules of the buffer named by three words from Wi, as keys. -/
def CmdReq.bufKeys (q : CmdReq) (i : Nat) : List Nat :=
  let a := q.w i + q.w (i + 1) % 2 ^ 16 * 2 ^ 32
  let n := q.w (i + 2)
  if n = 0 || 2 ^ 24 < n || 3072 * 2 ^ 30 ≤ a then []
  else (List.range ((a + n - 1) / 2 ^ 30 - a / 2 ^ 30 + 1)).map (fun g => 5 * 65536 + a / 2 ^ 30 + g)

/-- Resources a request acts on, as type * 65536 + index: the types of R403, 8 blocks of the whole part, 9 tally groups, 10 key slots, 11 sensor
channels. -/
def State.cmdKeys (s : State) (q : CmdReq) : List Nat :=
  let w1 := q.w 1
  match q.group, q.cmd with
  | 2, 3 | 2, 4 => (List.range (natBits w1 31 16)).map (fun i => natBits w1 11 8 * 65536 + natBits (q.w 2) 15 0 + i)
  | 2, 7 => q.bufKeys 2
  | 2, 8 => [natBits w1 14 8]
  | 3, 1 => (List.range 128).filter (fun f => s.fieldOwner f == w1 % 128) ++ q.bufKeys 2
  | 3, 2 => [natBits w1 14 8]
  | 3, 3 => [8 * 65536]
  | 3, 4 => q.bufKeys 1
  | 4, _ | 5, _ => [2 * 65536 + natBits w1 8 0]
  | 6, _ => [9 * 65536 + w1 % 128]
  | 7, _ => [4 * 65536 + w1 % 64]
  | 8, 1 | 8, 3 | 8, 4 => [8 * 65536 + 1]
  | 9, 1 | 9, 2 => [10 * 65536 + w1 % 128]
  | 9, 4 => q.bufKeys 2
  | 10, 2 => [11 * 65536 + w1 % 256]
  | 11, 1 => q.bufKeys 3
  | 12, 2 => (8 * 65536 + 3) :: q.bufKeys 2
  | 12, 4 => (8 * 65536 + 4) :: q.bufKeys 1
  | _, _ => []

/-- A request waits (R398): an earlier one on the same resource, an earlier SITE command, or, for a REVOKE, any command begun that uses the
resource is still to be answered. -/
def State.cmdBlocked (s : State) (c : Nat) (q : CmdReq) : Bool :=
  s.com.req.any (fun e =>
    match e.2 with
    | some o =>
      e.1 != c && (o.whole || o.resp.isSome) && (decide (o.seq < q.seq) || (q.group == 2 && q.cmd == 4 && o.phase != 0)) &&
        ((q.group == 2 && o.group == 2) || (s.cmdKeys o).any (fun k => (s.cmdKeys q).contains k))
    | none => false)

/-! ### Running a command -/

/-- What a command comes to: it waits, or is answered with STATUS, DETAIL and result words. -/
inductive Ans where
  | wait | done (st d : Nat) (ws : List Word)
  deriving DecidableEq, Repr

/-- A command answered without results. -/
def Ans.ok : Ans := .done 0 0 []

/-- The request of a channel run as command `k` of group `g` by `f` (R397, R398): only the complete request of that command, once nothing
blocks it; a sender whose class may not use it is DENIED (R395). -/
def State.runCmd (s : State) (c g k : Nat) (f : CmdReq → State → Ans × State) : State :=
  match s.cmdReq c with
  | none => s
  | some q =>
    if s.deaf || s.hbState != 1 || q.group != g || q.cmd != k || !q.whole || q.resp.isSome || s.cmdBlocked c q then s
    else if (match cmdRow g k with | some (_, m) => m &&& q.snd.bit | none => 0) = 0 then s.cmnReply c q 7 0 []
    else
      match f q s with
      | (.wait, s) => s
      | (.done st d ws, s) => s.cmnReply c q st d ws

/-- How far the request of a channel has gone, and what it keeps: from phase 1 on it is ACTED (R400). -/
def State.setPhase (s : State) (c n : Nat) (m : List Nat) : State :=
  match s.cmdReq c with
  | some q => s.setReq c (some { q with phase := n, mem := m })
  | none => s

/-- Checks in order, as (fails, STATUS, DETAIL); the first that fails is the answer, and nothing changes. -/
def checked (l : List (Bool × Nat × Nat)) (s : State) (k : Ans × State) : Ans × State :=
  match l.find? (·.1) with
  | some (_, st, d) => (.done st d [], s)
  | none => k

/-- Bits set outside a mask in word Wi: BAD_PARAM (R394). -/
def CmdReq.rsv (q : CmdReq) (i mask : Nat) : Bool × Nat × Nat := ((q.w i &&& (0xFFFFFFFF ^^^ mask)) != 0, 6, i)

/-- The sender is a site other than `n`, or a fabric port whose field no site owns any more, which acts for nobody. -/
def CmdReq.notSite (q : CmdReq) (n : Nat) : Bool := match q.snd with | .s m => m != n || decide (64 ≤ m) | _ => false

/-- The SITE argument of a request (R395, R399, R394): another site's DENIED; a site in reset IN_RESET unless `quiet`; out of range; ABSENT.
Management is admitted where `mgmt`. -/
def State.siteArg (s : State) (q : CmdReq) (n : Nat) (mgmt quiet : Bool) : List (Bool × Nat × Nat) :=
  [(q.notSite n, 7, 0), (!quiet && s.siteInReset n, 8, 0), (decide (64 ≤ n) && !(mgmt && n == 0x7F), 6, 1),
   (decide (n < 64) && s.siteState n == 0, 9, 0)]

/-- A resource's owner `o` against the sender: NOT_OWNED for another site's; IN_RESET while its site is in reset. -/
def State.ownArg (s : State) (q : CmdReq) (o : Nat) : List (Bool × Nat × Nat) := [(q.notSite o, 11, 0), (s.siteInReset o, 8, 0)]

/-- A register access to die `d` would fail: HW_ERROR with NOTARGET, or IN_RESET (R394). -/
def State.dieArg (s : State) (d : Nat) : List (Bool × Nat × Nat) := [(natBit s.kelk.unreach d, 15, 2), (s.dieDown d, 8, 0)]

/-- A buffer access that failed: IN_RESET, or HW_ERROR with the code (R394). -/
def busErr (b : Rsp) : List (Bool × Nat × Nat) :=
  [(b == .inReset, 8, 0), (b != .ok, 15, match b with | .fault => 1 | .noTarget => 2 | .denied => 3 | .inReset => 4 | _ => 5)]

/-- Bytes from `a` lie in DRAM granules of owner `o`. -/
def State.dramHeld (s : State) (a n o : Nat) : Bool :=
  decide (a + n ≤ 3072 * 2 ^ 30) &&
    (List.range ((a + n - 1) / 2 ^ 30 - a / 2 ^ 30 + 1)).all (fun g => s.dramOwner (a / 2 ^ 30 + g) == o)

/-- Address and length of the buffer named from Wi. -/
def CmdReq.buf (q : CmdReq) (i : Nat) : Nat × Nat := (q.w i + q.w (i + 1) * 2 ^ 32, q.w (i + 2))

/-- The rules of R396 for the buffer named from Wi. -/
def State.bufArg (s : State) (q : CmdReq) (i : Nat) : List (Bool × Nat × Nat) :=
  let (a, n) := q.buf i
  let inGran := decide (0x100000000000 ≤ a) && decide (a + n ≤ 0x100004000000) && (a / 0x200000 == (a + n - 1) / 0x200000)
  let placed := match q.snd with
    | .s m => decide (m < 64) && s.dramHeld a n m
    | _ => decide (a + n ≤ 3072 * 2 ^ 30) || inGran
  [(q.w i % 64 != 0, 14, i), (q.w (i + 1) / 2 ^ 16 != 0, 14, i + 1), (decide (n < 1) || decide (2 ^ 24 < n), 14, i + 2), (!placed, 14, i)]

/-! ### The end of a Commons restart (R400, R423) -/

/-- The ends of loads whose requests a restart answers are nobody's (R424, R501). -/
def CfgSt.forget (x : CfgSt) : CfgSt :=
  { x with ends := [], groups := x.groups.map (fun (y : CfgGroup) => if y.kind = 2 ∨ y.kind = 3 then { y with chan := 128 } else y) }

/-- And those of life-cycle changes. -/
def PkeWhy.forget : PkeWhy → PkeWhy
  | .lifecycle d _ p => .lifecycle d 128 p
  | w => w
def SecSt.forget (x : SecSt) : SecSt :=
  { x with ends := [], change := x.change.map (fun (y : LcChange) => { y with chan := 128 }),
           pke := x.pke.map (fun (e : Nat × PkeWhy) => (e.1, e.2.forget)) }

/-- Step 5 of R423: the cores run, SEQ is written, STATE reads RUNNING, and every journalled request is answered RESTARTED. -/
def restartComplete (seq : Nat) (s : State) : State :=
  if s.deaf || s.hbState != 2 then s
  else
    let s : State := s.coresRelease false
    let s : State := (hbWrite (BitVec.ofNat 32 (seq % 65536 * 65536)) s).wf mbxHub R.COMMONS_HB_STATE 1
    let s : State := { s with cfg := s.cfg.forget, sec := s.sec.forget }
    s.com.req.foldl (fun (s : State) (e : Nat × Option CmdReq) =>
      match e.2 with
      | some q => if q.resp.isSome then s.cmnSend e.1 q else s.cmnReply e.1 q 1 (b2n (q.phase != 0)) []
      | none => s) s

/-- COMMONS_RESTART_COMPLETE (R423). -/
def execCommonsRestartComplete (seq : BitVec 16) (s : State) : Host.Outcome State Fault Refusal := .next (restartComplete seq.toNat s)

end Sys2Proof.Machine
end

