-- ==== Sys2Proof/Machine/Link.lean ====
section
/-! DEFINITION. Commands of the Limzan Lane Protocol link layers (R193-R230, R619, R620). -/
namespace Sys2Proof.Machine

/-- COM_WATCHDOG (R198, R200 row 5). -/
def execComWatchdog (l : Fin 512) (s : State) : Host.Outcome State Fault Refusal :=
  .next (if s.linkOpen l then (s.toHelloWait l 2).linkEvt l R.LINK_STAT_REMOVED else s)

/-- SKP_RECEIVE (R194): a run of K28.6, after a K28.5 or not; a misplaced run is counted once and makes the open structures bad. -/
def execSkpReceive (l : Fin 512) (afterCom : Bool) (run : Nat) (o : RxOpen) (s : State) : Host.Outcome State Fault Refusal :=
  .next (if s.linkOpen l && !(afterCom && (run == 2 || run == 4 || run == 6)) then (s.linkCnt l R.FRAME_ERR_CNT 1).spoil l o else s)

/-- A LINK ordered set (R200, R207, R210, R211). -/
def linkSetIn (l : Nat) (set : Nat) (s : State) : State :=
  let bs := toBytes 5 set
  let st := s.linkState l
  if !(s.linkOpen l || st == 4) then s
  else if crc8 bs ≠ set / 2 ^ 40 then s.linkCnt l R.FRAME_ERR_CNT 1
  else if natBit set 13 then (s.toHelloWait l 4).linkEvt l R.LINK_STAT_PEER_RST_EVT
  else if st = 4 then s
  else
    let ack := natBits set 11 0
    let runs := (s.lk l).runs
    let s := (s.ackSeq l ack).limitsIn l (natBits set 23 16) (natBits set 39 32)
    if natBit set 12 then s.nakIn l ack runs else s

/-- A received ordered set acts unless it is bad under R196. -/
def setIn (l : Nat) (bad inFrame : Bool) (k : State → State) (s : State) : State :=
  if (s.innerEnds l bad inFrame).1 then (s.innerEnds l bad inFrame).2 else k (s.innerEnds l bad inFrame).2

/-- LINK_SET_RECEIVE (R210): a set that is bad under R196 is ignored. -/
def execLinkSetReceive (l : Fin 512) (set : BitVec 48) (bad inFrame : Bool) (s : State) : Host.Outcome State Fault Refusal :=
  .next (setIn l bad inFrame (linkSetIn l set.toNat) s)

/-- The TIME exchange fails (R221). -/
def State.timeFail (s : State) (l : Nat) : State :=
  ((s.setLk l { s.lk l with exch := none }).linkCnt l R.TIME_TMO_CNT 1).linkEvt l R.LINK_STAT_TIME_ERR

/-- A TIME ordered set (R220, R221): `ph` is the part of a ns past the link's TTC copy, in 1/256 ns, as its K28.2 reaches the link layer, and `wait`
how much later the SET's leaves it. T4 is that instant less the receive latency, T5 the SET's plus the transmit latency (R183). -/
def timeSetIn (l : Nat) (set ph wait : Nat) (s : State) : State :=
  if !s.linkOpen l then s
  else if crc8 (toBytes 11 set) ≠ set / 2 ^ 88 then s.linkCnt l R.FRAME_ERR_CNT 1
  else
    let x := s.lk l
    match x.exch with
    | none => s
    | some t1 =>
      if set % 4 ≠ 1 || natBits set 15 8 ≠ x.tseq then s
      else
        let hold := natBits set 79 16 * 256 + natBits set 87 80
        let now := 256 * s.ttcLink l + ph
        let from_ := t1 + hold + s.rxLat l
        if now < from_ || from_ + 2560000 < now then s.timeFail l
        else
          let rtt := now - from_
          let s := (s.setLk l { x with exch := none }).wr (linkBlk l + R.LINK_TIME_RTT) (BitVec.ofNat 32 rtt)
          s.sendItem l (.timeSet (timeSetBytes 2 x.tseq (now + wait + s.txLat l + rtt / 2)))

/-- TIME_SET_RECEIVE (R221): a set that is bad under R196 is ignored. -/
def execTimeSetReceive (l : Fin 512) (set : BitVec 96) (bad inFrame : Bool) (ph : Fin 256) (wait : Nat) (s : State) :
    Host.Outcome State Fault Refusal := .next (setIn l bad inFrame (timeSetIn l set.toNat ph.val wait) s)

/-- A normal frame ends in EOF: bad where it arrived so or was made so (R196, R206). -/
def frameRx (l : Nat) (f : RxFrame) (s : State) : State :=
  if s.linkOpen l then (s.frameEnds l).2.frameIn l { f with bad := f.bad || (s.frameEnds l).1 } else s

/-- NORMAL_FRAME_RECEIVE (R206, R208, R619). -/
def execNormalFrameReceive (l : Fin 512) (f : RxFrame) (s : State) : Host.Outcome State Fault Refusal := .next (frameRx l f s)

/-- The FCU grants channels for an acceptable HELLO (R204, R233): the retained grant kept, or returned and a new one made
with its records cleared; the link becomes ACTIVE. -/
def helloGrant (l : Nat) (s : State) : State :=
  let x := s.lk l
  match x.hello with
  | [] => s
  | (pid, ch, caps) :: t =>
    let s := s.setLk l { x with hello := t }
    if s.linkState l = 2 then s.helloAck l x.granted 5 x.kept
    else if s.linkState l ≠ 1 then s
    else
      let b := linkBlk l
      let s := s.wr64 (b + R.LINK_PID_LO) pid
      let keep := x.grant == some (pid, ch) && decide (0 < x.granted)
      let n := fcuOf l
      let s :=
        if keep then s.setLk l { s.lk l with kept := true, caps := caps }
        else
          let s := s.returnGrans l
          let gs := (s.poolGrans n (s.linkOwner l)).take ((ch + 63) / 64)
          let s := (List.range gs.length).foldl (fun s i =>
            let g := gs.getD i 0
            (s.wr (granReg n g) (BitVec.ofNat 32 (s.linkOwner l + 2 ^ 7 + (l % 16) * 2 ^ 8 + i * 2 ^ 12))).clearGran n g) s
          let granted := min ch (64 * gs.length)
          s.setLk l { s.lk l with grant := some (pid, ch), granted := granted, kept := false, caps := caps, tl := {} }
      let g := (s.lk l).granted
      let s := s.wf b R.LINK_HELLO_GRANTED g
      let s := s.helloAck l g (if g = ch then 0 else if 0 < g then 1 else 2) keep
      (s.wf b R.LINK_STAT_STATE 2).linkEvt l R.LINK_STAT_ACTIVE_EVT

/-- HELLO_GRANT (R204). -/
def execHelloGrant (l : Fin 512) (s : State) : Host.Outcome State Fault Refusal := .next (helloGrant l s)

/-- FRAME_ABORT_RECEIVE (R206). -/
def execFrameAbortReceive (l : Fin 512) (s : State) : Host.Outcome State Fault Refusal :=
  .next (if s.linkOpen l then (s.frameEnds l).2.linkCnt l R.ABORT_RX_CNT 1 else s)

/-- STRAY_SYMBOL_RECEIVE (R193, R619): a symbol that starts no structure while none is open, or a K28.0, K28.4 or K28.7, which makes the open
structures bad: counted once. -/
def execStraySymbolReceive (l : Fin 512) (o : RxOpen) (s : State) : Host.Outcome State Fault Refusal :=
  .next (if s.linkOpen l then (s.linkCnt l R.FRAME_ERR_CNT 1).spoil l o else s)

/-- A Bell copy meets the LAST rule; a bad one makes the normal frame around it bad (R196, R214). -/
def State.bellEnds (s : State) (l : Nat) (f : RxFrame) (inFrame : Bool) : State :=
  (if bellBad f && inFrame then s.spoil l ⟨true, false⟩ else s).bellCheck l f

/-- A Bell copy arrives, through the receive-side injector (R225): one choice for the two copies of a frame. -/
def bellIn (l : Nat) (f : RxFrame) (second inFrame : Bool) (s : State) : State :=
  if s.fiBell l R.LINK_FI_RX then
    let x := s.lk l
    let (fi, hit) := if second then (x.fiRx, x.bellPick) else s.fiStep l R.LINK_FI_RX x.fiRx
    let s := s.setLk l { x with fiRx := fi, bellPick := hit }
    let s := if hit && !second then s.linkCnt l R.FI_RX_CNT 1 else s
    if hit && natBit (s.fiCopy l R.LINK_FI_RX) (b2n second) then
      if s.fiAction l R.LINK_FI_RX = 4 then s else s.bellEnds l (alterRx f (s.fiAlt l R.LINK_FI_RX f.bytes.length)) inFrame
    else s.bellEnds l f inFrame
  else s.bellEnds l f inFrame

/-- A Bell copy ends: bad where it arrived so or was made so (R196). -/
def bellRx (l : Nat) (f : RxFrame) (second inFrame : Bool) (s : State) : State :=
  if s.linkOpen l then
    bellIn l { f with bad := (s.innerEnds l f.bad inFrame).1 } second inFrame (s.innerEnds l f.bad inFrame).2
  else s

/-- BELL_COPY_RECEIVE (R214). -/
def execBellCopyReceive (l : Fin 512) (f : RxFrame) (second inFrame : Bool) (s : State) : Host.Outcome State Fault Refusal :=
  .next (bellRx l f second inFrame s)

/-- Whether a waiting frame may start (R199, R210, R211, R219): the state, replay-buffer room, a credit of its type, no frame
in progress, and no frame of a site in reset. -/
def State.mayStart (s : State) (l : Nat) (f : LFrame) : Bool :=
  let x := s.lk l
  let avail (lim sent : Nat) : Bool := let d := (lim + 256 - sent) % 256; decide (1 ≤ d) && decide (d ≤ 127)
  decide (x.replay.length < 64) && decide (x.txUntil ≤ s.now) &&
    (if f.ty = 2 then s.linkOpen l
     else s.linkState l == 2 && !s.siteInReset (s.linkOwner l) &&
       (if f.ty = 3 then avail x.limD x.sentD else avail x.limC x.sentC))

/-- A frame waits with an APPLY for a partner that did not set AT_RX (R223). -/
def State.atRefused (s : State) (l : Nat) (f : LFrame) : Bool :=
  f.ty == 3 && f.apply.isSome && s.linkState l == 2 && !natBit (s.lk l).caps 0

/-- A new normal frame starts (R210, R211): it takes the next SEQ and a credit, and enters the replay buffer. One that the partner's AT_RX does not
allow is discarded as R254 discards one offered so. -/
def frameStart (l ty : Nat) (s : State) : State :=
  let x := s.lk l
  match x.waitq.find? (fun f => f.ty == ty) with
  | none => s
  | some f =>
    if s.atRefused l f then (s.setLk l { x with waitq := x.waitq.erase f }).atDrop l
    else if s.mayStart l f then
      let g := { f with seq := x.txNext }
      let s := s.setLk l { x with
        waitq := x.waitq.erase f, replay := x.replay ++ [g], txNext := (x.txNext + 1) % 4096,
        sentD := if ty = 3 then (x.sentD + 1) % 256 else x.sentD, sentC := if ty = 5 then (x.sentC + 1) % 256 else x.sentC }
      s.sendFrame l g
    else s

/-- NORMAL_FRAME_TRANSMIT (R211): the oldest waiting frame of a type starts. -/
def execNormalFrameTransmit (l : Fin 512) (ty : BitVec 4) (s : State) : Host.Outcome State Fault Refusal :=
  .next (frameStart l ty.toNat s)

/-- BELL_FRAME_TRANSMIT (R215). -/
def execBellFrameTransmit (l : Fin 512) (s : State) : Host.Outcome State Fault Refusal := .next (s.bellSend l)

/-- SKP_TRANSMIT (R197), in the states that send SKP sets (R199): a due set goes behind one waiting Bell pair and before any further one. -/
def execSkpTransmit (l : Fin 512) (s : State) : Host.Outcome State Fault Refusal :=
  .next (if s.linkOpen l || s.linkState l == 4 then (s.bellSend l).sendLane l .skp else s)

/-- LINK_SET_TRANSMIT (R209); in RESYNC the sets carry RST = 1 (R199). -/
def execLinkSetTransmit (l : Fin 512) (s : State) : Host.Outcome State Fault Refusal :=
  .next (if s.linkOpen l then s.sendLinkSet l false else if s.linkState l = 3 then s.sendRst l else s)

/-- NAK_REPEAT (R208). -/
def execNakRepeat (l : Fin 512) (s : State) : Host.Outcome State Fault Refusal :=
  .next (if s.linkOpen l && (s.lk l).naked then s.sendLinkSet l true else s)

/-- REPLAY_TIMEOUT (R210). -/
def execReplayTimeout (l : Fin 512) (s : State) : Host.Outcome State Fault Refusal :=
  .next (if s.linkOpen l && !(s.lk l).replay.isEmpty then s.replayNow l else s)

/-- What LINK_CFG stores (R226): TIME_PERIOD 0 as 1, REPLAY_TMO below 1,024 as 1,024. -/
def linkCfgStore (v : Word) : Word :=
  let w := v.toNat
  BitVec.ofNat 32 (natBits w 30 30 * 2 ^ 30 + max 1 (natBits w 23 16) * 2 ^ 16 + max 1024 (natBits w 15 0))

/-- A write to LINK_CFG (R200 row 3, R226). -/
def linkCfgWrite (l : Nat) (v : Word) (s : State) : State :=
  let s := s.wr (linkBlk l + R.LINK_CFG) (linkCfgStore v)
  let st := s.linkState l
  if natBit v.toNat 31 && (st == 1 || st == 2 || st == 4) then s.toResync l 5 else s

/-- LINK_RESTART (R200): a write to LINK_CFG with RESTART = 1. -/
def execLinkRestart (r : Req) (l : Fin 512) (v : Word) (s : State) : Host.Outcome State Fault Refusal :=
  .next (s.gated r (linkBlk l + R.LINK_CFG) true (linkCfgWrite l (v ||| 0x80000000#32)))

/-- RESYNC_PERIOD_END (R200 rows 8 and 9). -/
def execResyncPeriodEnd (l : Fin 512) (s : State) : Host.Outcome State Fault Refusal :=
  if s.linkState l ≠ 3 then .next s
  else if 4 ≤ ((s.lk l).resyncs.filter (fun t => decide (s.now < t + 1000000000))).length then
    .next ((s.linkMove l 4 0).linkEvt l R.LINK_STAT_FAILED_EVT)
  else .next (s.toHelloWait l 0)

/-- TIME_EXCHANGE_DUE (R221): REQ with the part's stamp T1, the link's TTC copy with `ph` 1/256 ns and the transmit latency (R183, R220). -/
def execTimeExchangeDue (l : Fin 512) (ph : Fin 256) (s : State) : Host.Outcome State Fault Refusal :=
  let x := s.lk l
  let t1 := 256 * s.ttcLink l + ph.val + s.txLat l
  if s.linkState l = 2 && natBit x.caps 2 && s.flag (linkBlk l) R.LINK_CFG_TIME_EN && x.exch.isNone then
    let q := (x.tseq + 1) % 256
    .next ((s.setLk l { x with tseq := q, exch := some t1 }).sendItem l (.timeSet (timeSetBytes 0 q t1)))
  else .next s

/-- TIME_RSP_TIMEOUT (R221). -/
def execTimeRspTimeout (l : Fin 512) (s : State) : Host.Outcome State Fault Refusal :=
  .next (if (s.lk l).exch.isSome then s.timeFail l else s)

/-- The head of the hold queue whose APPLY has been reached is released, and heads behind it that pass at once (R223). -/
def holdRelease (l : Nat) (s : State) : State :=
  match (s.lk l).hold with
  | [] => s
  | h :: t =>
    match h.f.apply with
    | some a =>
      if a ≤ s.ttcLink l then
        let s := (s.setLk l { s.lk l with hold := t }).releaseFrame l h
        drainHold t.length l s
      else drainHold (t.length + 1) l s
    | none => drainHold (t.length + 1) l s

/-- HOLD_QUEUE_RELEASE (R223). -/
def execHoldQueueRelease (l : Fin 512) (s : State) : Host.Outcome State Fault Refusal := .next (holdRelease l s)

/-- A write to LINK_CTRL_CMD (R218, R229, R230). -/
def ctrlGo (l : Nat) (v : Word) (s : State) : State :=
  let b := linkBlk l
  let w := v.toNat
  let wr := natBit w 30
  let m1 := natBits w 21 16
  if !natBit w 31 || s.flag b R.LINK_CTRL_STAT_BUSY then s
  else if wr && m1 = 63 then s.ctrlDone l 1
  else if s.linkState l ≠ 2 then s.ctrlDone l 7
  else
    let tag := (s.rf b R.LINK_CTRL_STAT_TAG + 1) % 256
    let addr := (s.rd (b + R.LINK_CTRL_ADDR)).toNat
    let pay := toBytes 4 addr ++ (if wr then (List.range (m1 + 1)).flatMap (fun i => toBytes 4 (s.rd (b + R.LINK_CTRL_DATA + 4 * i)).toNat) else [])
    let x := s.lk l
    let s := s.setLk l { x with ctrl := some (tag, !wr, m1 + 1),
                                waitq := x.waitq ++ [⟨5, none, 0, tag + b2n wr * 2 ^ 8 + m1 * 2 ^ 16, pay⟩] }
    (s.setF b R.LINK_CTRL_STAT_BUSY).wf b R.LINK_CTRL_STAT_TAG tag

/-- LINK_CTRL_GO (R229). -/
def execLinkCtrlGo (r : Req) (l : Fin 512) (v : Word) (s : State) : Host.Outcome State Fault Refusal :=
  .next (s.gated r (linkBlk l + R.LINK_CTRL_CMD) true (ctrlGo l (v ||| 0x80000000#32)))

/-- LINK_CTRL_TIMEOUT (R230). -/
def execLinkCtrlTimeout (l : Fin 512) (s : State) : Host.Outcome State Fault Refusal :=
  .next (if (s.lk l).ctrl.isSome then s.ctrlDone l 6 else s)

/-- Frames an injector holds leave it (R224): the transmit side's is sent, the receive side's meets the sequence check. -/
def State.releaseHeld (s : State) (l : Nat) : State :=
  let x := s.lk l
  (s.afterFrame l x.heldTx).afterRx l x.heldRx

/-- A write to LINK_OWNER (R224): clearing INJ disables both injectors. -/
def linkOwnerWrite (l : Nat) (v : Word) (s : State) : State :=
  let s := s.wr (linkBlk l + R.LINK_OWNER) (v &&& 0x8000007F#32)
  if natBit v.toNat 31 then s
  else ((s.clrF (linkBlk l) R.LINK_FI_TX_EN).clrF (linkBlk l) R.LINK_FI_RX_EN).releaseHeld l

/-- LINK_OWNER_WRITE (R224, R39). -/
def execLinkOwnerWrite (r : Req) (l : Fin 512) (v : Word) (s : State) : Host.Outcome State Fault Refusal :=
  .next (s.gatedIf r (linkBlk l + R.LINK_OWNER) (siteCodeOk (v.toNat % 128)) (linkOwnerWrite l v))

/-- What LINK_FI_TX and LINK_FI_RX store (R228): ACTION 6-7, SEL 2-3 and KIND 3 as 0, COPY 0 as 3. -/
def fiStore (v : Word) : Word :=
  let w := v.toNat
  let z (x top : Nat) : Nat := if x ≤ top then x else 0
  let copy := if natBits w 25 24 = 0 then 3 else natBits w 25 24
  BitVec.ofNat 32 (natBits w 31 31 * 2 ^ 31 + z (natBits w 30 28) 5 * 2 ^ 28 + z (natBits w 27 26) 1 * 2 ^ 26 + copy * 2 ^ 24 +
    z (natBits w 23 22) 2 * 2 ^ 22 + natBits w 15 12 * 2 ^ 12 + natBits w 5 1 * 2)

/-- A write to LINK_FI_TX or LINK_FI_RX (R225, R228): the LFSR is loaded and candidates are counted anew when EN rises. -/
def fiWrite (l fi : Nat) (v : Word) (s : State) : State :=
  let was := natBit (s.rd (linkBlk l + fi)).toNat 31
  let s := s.wr (linkBlk l + fi) (fiStore v)
  if natBit v.toNat 31 && !was then
    let x := s.lk l
    let f : FiSt := ⟨0, s.rd (linkBlk l + R.LINK_FI_SEED)⟩
    s.setLk l (if fi = R.LINK_FI_TX then { x with fiTx := f } else { x with fiRx := f })
  else s

/-- A write to an injector register while INJ is 0 is DENIED for every requester (R224). -/
def State.gatedFi (s : State) (r : Req) (l fi : Nat) (k : State → State) : State :=
  s.gatedBy r (linkBlk l + fi) true (fun s =>
    if s.flag (linkBlk l) R.LINK_OWNER_INJ then (k s).answer r (linkBlk l + fi) .ok [] else s.answer r (linkBlk l + fi) .denied [])

/-- LINK_FI_TX_WRITE (R228). -/
def execLinkFiTxWrite (r : Req) (l : Fin 512) (v : Word) (s : State) : Host.Outcome State Fault Refusal :=
  .next (s.gatedFi r l R.LINK_FI_TX (fiWrite l R.LINK_FI_TX v))

/-- LINK_FI_RX_WRITE (R228). -/
def execLinkFiRxWrite (r : Req) (l : Fin 512) (v : Word) (s : State) : Host.Outcome State Fault Refusal :=
  .next (s.gatedFi r l R.LINK_FI_RX (fiWrite l R.LINK_FI_RX v))

/-- REORDER_HOLD_EXPIRE (R225): 1,024 symbols have passed with no normal frame behind the held one. -/
def execReorderHoldExpire (l : Fin 512) (s : State) : Host.Outcome State Fault Refusal :=
  .next (s.afterFrame l (s.lk l).heldTx)

end Sys2Proof.Machine
end

