-- ==== Sys2Proof/Machine/Power.lean ====
section
/-! DEFINITION. Power states, the operating mode, the power cap, temperature, power failure and the sensors (R517-R530). -/
namespace Sys2Proof.Machine

/-! ### Power states (R517, R518) -/

/-- Field PLLs off, or locked again where the field is configured and no apply waits (R517). -/
def State.pllsOff (s : State) : State := (List.range 128).foldl (fun s f => s.clrF (fieldPage f) R.FCK_STAT_LOCKED) s
def State.pllsOn (s : State) : State :=
  (List.range 128).foldl (fun s f =>
    let x := s.frt f
    s.setIf (x.configured && (match x.pend with | none => true | some p => p.mult == s.rf (fieldPage f) R.FCK_CTRL_MULT))
      (fieldPage f) R.FCK_STAT_LOCKED) s

/-- The clocks of every field as the state now makes them. -/
def State.ckUpdateAll (s : State) : State := (List.range 128).foldl (fun s f => s.ckUpdate f) s

/-- Every lane held OFF with its EN kept; links go to IDLE with their grants (R517). -/
def State.lanesHold (s : State) : State :=
  (List.range 512).foldl (fun s l => if s.laneState l = 0 then s else s.laneTo l 0) s

/-- Lanes with EN start their bring-up (R180, R517), or are DOWN during a reference fallback (R174). -/
def State.lanesGo (s : State) : State :=
  (List.range 512).foldl (fun s l =>
    if !s.flag (laneBlk l) R.LANE_CTRL_EN then s else if s.refFallback then s.laneDown l 4 else s.laneWait l) s

/-- The fabric and transceiver dies unpowered (R517): key slots off, everything on them lost, every field unconfigured. -/
def State.hibernate (s : State) : State :=
  let s := s.encOffAll
  let s := s.regsLost (fun k => (decide (0x1000000 ≤ k) && decide (k < 0x9000000)) ||
    (decide (0x200000000 ≤ k) && k / 0x1000000 % 16 != 0))
  { s with
    fab := {}, mem := {},
    ring := { s.ring with stop := tabKeep s.ring.stop (fun n => stopDie n = 0), flight := s.ring.flight.filter (fun x => stopDie x.cur = 0) }, llp := {}, cap := {}, mill := {}, gpio := [],
    dram := {}, cfg := { s.cfg with groups := [], recs := [] },
    dbg := { s.dbg with q := [], p := [], halt := [], step := [] }, diesDown := 0x1FE }

/-- PWR_STATE takes a value, and every LIVE site learns of it (R518). -/
def State.enterPwr (s : State) (st : Nat) : State := (s.wf startBlk R.PWR_STATE_STATE st).reportO (locator 0 0) 0x00A4 st

/-- A write to PWR_CMD (R518). -/
def pwrCmd (v : Word) (s : State) : State :=
  let t := natBits v.toNat 2 0
  let c := s.pwrState
  let ok := (c == 0 && decide (1 ≤ t ∧ t ≤ 4)) || (decide (1 ≤ c ∧ c ≤ 3) && t == 0)
  if !ok || s.start.run || s.start.ret || s.start.mode.isSome || s.start.target.isSome ||
      (List.range 64).any s.siteInReset || (t == 3 && (List.range 64).any (fun n => s.siteState n != 0)) then
    s.setF startBlk R.PWR_STAT_STATE_REFUSED
  else
    let s := { s with start := { s.start with target := some t } }
    if t = 4 then s.retain 0
    else if c = 3 then State.stepDone { s with start := { s.start with run := true, warm := false } } 5
    else s

/-- PWR_CMD (R518). -/
def execPwrCmd (r : Req) (v : Word) (s : State) : Host.Outcome State Fault Refusal :=
  .next (s.gated r (startBlk + R.PWR_CMD) true (pwrCmd v))

/-- A change of power state completes (R517); an exit from HIBERNATE once step 12 is done. -/
def powerDone (s : State) : State :=
  match s.start.target with
  | none => s
  | some t =>
    let c := s.pwrState
    let fin (s : State) : State := State.enterPwr { s with start := { s.start with target := none } } t
    match t with
    | 0 =>
      if c = 3 then
        if s.stepNo < 12 then s else fin { s with start := { s.start with run := false } }
      else
        let s := (fin s).pllsOn.ckUpdateAll
        if c = 2 then s.lanesGo else s
    | 1 => (fin s).pllsOff.ckUpdateAll
    | 2 => ((fin s.drainAll).pllsOff.ckUpdateAll).lanesHold
    | 3 => (fin s).hibernate
    | _ => s

/-- POWER_STATE_CHANGE_DONE (R517). -/
def execPowerStateChangeDone (s : State) : Host.Outcome State Fault Refusal :=
  .next (if s.deaf || s.start.ret then s else powerDone s)

/-! ### The operating mode (R519, R520) -/

/-- The set point a channel takes: the highest trained one that R314 allows, where it differs from the one in force. -/
def State.fspMove (s : State) (c : Nat) : Option Nat :=
  if s.ddrState c ≠ 2 then none
  else
    match s.fspBest c none with
    | some f => if f = s.rf (ddrBlk c) R.DDR_STAT_FSP then none else some f
    | none => none

/-- What refuses a lower mode (R520), as STATUS and DETAIL: more fast lanes than it allows, or a timing-critical field above its cap. -/
def State.modeRefused (s : State) (m : Mode) : Option (Nat × Nat) :=
  if modeNo s.mode ≤ modeNo m then none
  else if laneLimit m < s.fastLanes then some (0x0C, s.fastLanes)
  else
    let hot (f : Nat) : Bool := s.flag (fieldPage f) R.FCK_TCRIT_TCRIT && State.modeFloor { s with mode := m } f != 0
    match (List.range 128).find? hot with
    | some f => some (0x0D, 256 + f)
    | none => none

/-- A mode change is waiting for startups in progress (R519). -/
def State.startupsRun (s : State) : Bool := s.cfg.groups.any (fun x => x.pass == 3)

/-- A mode change begins (R519): raising, the caps are raised at once and the lane limit stays for last; lowering, the lane limit and the
DRAM rate are those of the new mode at once and the caps hold once the set points are down. -/
def State.modeBegin (s : State) (m : Mode) (chan : Nat) : State :=
  let up := decide (modeNo s.mode < modeNo m)
  let old := s.mode
  let s := if up then (s.setMode m).stretchAll else s
  { s with start := { s.start with mode := some (m, chan, 0), lanes := some (if up then old else m), drams := some m } }

/-- Set points moved one channel at a time (R337, R519): from channel `i` on, until one is in its blackout. -/
def State.modeWalk (s : State) : Nat → Nat → State × Nat
  | 0, i => (s, i)
  | k + 1, i =>
    if 12 ≤ i then (s, 12)
    else if (0 < i && s.ddrState (i - 1) == 3) || s.ddrState i == 3 then (s, i)
    else
      match s.fspMove i with
      | some f => (s.freqStart i f, i + 1)
      | none => s.modeWalk k (i + 1)

/-- A mode change goes on (R519); after the last channel the mode is in force and MODE_DONE is set. -/
def State.modeAdvance (s : State) : State :=
  match s.start.mode with
  | none => s
  | some (m, chan, i) =>
    let (s, i) := s.modeWalk 13 i
    if i < 12 || s.ddrState 11 == 3 then { s with start := { s.start with mode := some (m, chan, i) } }
    else
      let s := (s.setMode m).stretchAll
      State.setF { s with start := { s.start with mode := none, lanes := none, drams := none } } startBlk R.PWR_STAT_MODE_DONE

/-! ### The power cap (R521, R522) -/

/-- A comparison of the power-cap controller (R521): `mw` is the measured power. -/
def capTick (mw : Nat) (s : State) : State :=
  let s := s.wr (startBlk + R.PWR_MEAS) (BitVec.ofNat 32 mw)
  let cap := 1000 * s.rf startBlk R.PWR_CAP_CAP_W
  let n := s.rf startBlk R.PWR_CAP_S_CAP
  let x := s.start
  if s.start.hot then { s with start := { x with low := 0, above := if cap < mw then min 101 (x.above + 1) else 0 } }
  else if cap < mw then
    let s := { s with start := { x with low := 0, above := if n = 32 then min 101 (x.above + 1) else 0 } }
    (s.wf startBlk R.PWR_CAP_S_CAP (min 32 (n + 1))).stretchAll
  else if mw * 100 < 98 * cap then
    if x.low + 1 < 10 then { s with start := { x with low := x.low + 1, above := 0 } }
    else (State.wf { s with start := { x with low := 0, above := 0 } } startBlk R.PWR_CAP_S_CAP (n - 1)).stretchAll
  else { s with start := { x with low := 0, above := 0 } }

/-- POWER_CAP_TICK (R521). -/
def execPowerCapTick (mw : Word) (s : State) : Host.Outcome State Fault Refusal := .next (if s.deaf then s else capTick mw.toNat s)

/-- CAP_LIMIT (R522): the cap has not been held for 10 ms at S_CAP 32. -/
def execCapLimit (s : State) : Host.Outcome State Fault Refusal :=
  .next (if s.deaf || s.start.above < 100 then s
    else
      let mw := (s.rd (startBlk + R.PWR_MEAS)).toNat
      let s := { s with start := { s.start with above := 0 } }
      ((s.setF startBlk R.PWR_STAT_CAP_LIMIT).reportO (locator 0 0) 0x00A2 mw).recordO 0x00A2 (locator 0 0) mw)

/-! ### Temperature (R523) -/

/-- A 16-bit pattern as a signed number. -/
def signed16 (n : Nat) : Int := if n < 32768 then (n : Int) else (n : Int) - 65536

/-- The hottest of channels 0 to 95: its channel and value in 1/128 degree (R523). -/
def State.junction (s : State) : Nat × Int :=
  (List.range 96).foldl (fun b n =>
    let v := signed16 (wordBits (s.rd (monBlk + R.MON_SMP + 4 * n)) 15 0)
    if b.2 < v then (n, v) else b) (0, signed16 (wordBits (s.rd (monBlk + R.MON_SMP)) 15 0))

/-- The junction is below a temperature in 1/128 degree. -/
def State.junctionBelow (s : State) (t : Int) : Bool := decide (s.junction.2 < t)

/-- CHANNEL and VALUE of the hottest channel, as DATA (R583). -/
def State.junctionData (s : State) : Nat := wordBits (s.rd (monBlk + R.MON_SMP + 4 * s.junction.1)) 23 0

/-- THERM_WARN (R523): junction at 105 degrees. -/
def thermWarn (s : State) : State :=
  if s.deaf || s.start.hot || s.junctionBelow 13440 then s
  else
    let s := State.setF { s with start := { s.start with hot := true } } startBlk R.PWR_STAT_THERM_WARN
    ((s.wf startBlk R.PWR_CAP_S_CAP 32).stretchAll).reportO (locator 0 0) 0x00A0 s.junctionData

/-- THERM_WARN (R523). -/
def execThermWarn (s : State) : Host.Outcome State Fault Refusal := .next (thermWarn s)

/-- THERM_TRIP (R523): junction at 115 degrees for 100 µs; a record is staged and flushed, and the part is in the safe state. -/
def execThermTrip (s : State) : Host.Outcome State Fault Refusal :=
  .next (if s.deaf || s.junctionBelow 14720 then s
    else ((s.recordO 0x00A1 (locator 0 0) s.junctionData).flush false).tripHold 4)

/-! ### Power failure (R525) -/

/-- PWR_FAIL_FALL (R525). -/
def execPwrFailFall (s : State) : Host.Outcome State Fault Refusal :=
  .next (if s.deaf || s.start.pf then s
    else
      let s := State.setF { s with start := { s.start with pf := true } } startBlk R.PWR_STAT_PWR_FAIL
      let (v, s) := s.fresh
      (s.reportSites (locator 0 0) 0x00A3 (locator 0 0) (v % 5) (s.rd (startBlk + R.PWR_MEAS)).toNat 0).flush false)

/-- PWR_FAIL_RISE (R525). -/
def execPwrFailRise (s : State) : Host.Outcome State Fault Refusal := .next { s with start := { s.start with pf := false } }

/-! ### The sensors (R526-R530) -/

/-- Converter of a channel (R526). -/
def convOf (n : Nat) : Nat := if n < 64 then 0 else if n < 128 then 1 else if n < 144 then 2 else 3

/-- A converter's state. -/
def State.conv (s : State) (k : Nat) : ConvSt := tabGet (fun _ => {}) s.start.conv k
/-- A converter's state replaced. -/
def State.setConv (s : State) (k : Nat) (x : ConvSt) : State :=
  { s with start := { s.start with conv := tabPut (fun _ => {}) s.start.conv k x } }

/-- EN, GAIN and OSR of a channel. -/
def State.monCh (s : State) (n : Nat) (f : Fld) : Nat := s.rf (monBlk + 4 * n) f

/-- Enabled channels of a converter, ascending. -/
def State.convChans (s : State) (k : Nat) : List Nat := (List.range 148).filter (fun n => convOf n == k && s.monCh n R.MON_CH_EN != 0)

/-- The converter as it takes its next sample (R527, R529): on its visit, or on the next enabled channel when the visit is over or its channel
is no longer enabled. The very first visit counts as a switch of channel. -/
def State.convVisit (s : State) (k : Nat) : Option ConvSt :=
  let x := s.conv k
  let l := s.convChans k
  if l.contains x.chan && (0 < x.settle || 0 < x.dwell) then some x
  else
    match (l.find? (fun n => x.chan < n && x.chan < 148)).or l.head? with
    | none => none
    | some n =>
      let g := s.monCh n R.MON_CH_GAIN
      let dwell := s.rf (monBlk + 0x10 * k) R.MON_CONV_DWELL
      if n = x.chan then some { x with dwell := dwell }
      else
        let c := if x.chan < 148 && x.gain != g then 4 else 3
        some { x with chan := n, gain := g, settle := c, run := c, dwell := dwell }

/-- VALUE of a sample, and whether it lies outside its range (R528): supplies are unsigned, the others signed. -/
def sampleValue (n : Nat) (v : Int) : Nat × Bool :=
  let lo : Int := if 96 ≤ n ∧ n < 144 then 0 else -32768
  let hi : Int := if 96 ≤ n ∧ n < 144 then 65535 else 32767
  let c := if v < lo then lo else if hi < v then hi else v
  ((c % 65536).toNat, decide (v < lo) || decide (hi < v))

/-- S_CAP is released once the junction reads below 100 degrees (R523). -/
def State.coolDown (s : State) : State :=
  if s.start.hot && s.junctionBelow 12800 then { s with start := { s.start with hot := false } } else s

/-- A sample pushed into a converter's FIFO, or counted when it is full (R530). -/
def State.convPush (s : State) (k : Nat) (x : ConvSt) (w : Word) : State :=
  let b := monBlk + 0x10 * k
  if x.fifo.length < 256 then
    (s.setConv k { x with fifo := x.fifo ++ [w] }).wf b R.MON_CONV_LEVEL (min 255 (x.fifo.length + 1))
  else (s.setConv k x).cntF b R.MON_CONV_OVF_CNT 1

/-- A sample (R528-R530): `v` the converted value, `satur` a saturated modulator, whose value is held at the limit of its sign. -/
def sensorSample (k : Nat) (v : Int) (satur : Bool) (s : State) : State :=
  match s.convVisit k with
  | none => s
  | some x =>
    let n := x.chan
    let (val, out) := sampleValue n (if satur then if 0 ≤ v then 65536 else -65536 else v)
    let tag := if 0 < x.settle then 1 else if out then 2 else 0
    let seq := tabGet (fun _ => 0) s.start.seq n
    let w : Word := BitVec.ofNat 32 (tag * 2 ^ 30 + seq * 2 ^ 24 + n * 2 ^ 16 + val)
    let x := if 0 < x.settle then { x with settle := x.settle - 1 } else { x with dwell := x.dwell - 1 }
    let s := { s with start := { s.start with seq := tabPut (fun _ => 0) s.start.seq n ((seq + 1) % 64) } }
    let s := s.wr (monBlk + R.MON_SMP + 4 * n) w
    (s.convPush k x w).coolDown

/-- SENSOR_SAMPLE (R528). -/
def execSensorSample (k : Fin 4) (v : BitVec 17) (satur : Bool) (s : State) : Host.Outcome State Fault Refusal :=
  .next (if s.deaf then s else sensorSample k.val v.toInt satur s)

/-- The oldest sample of a converter popped (R530). -/
def State.monPop (s : State) (k : Nat) : Word × State :=
  let x := s.conv k
  match x.fifo with
  | [] => (0, s)
  | w :: t => (w, (s.setConv k { x with fifo := t }).wf (monBlk + 0x10 * k) R.MON_CONV_LEVEL (min 255 t.length))

/-- MON_FIFO_POP (R530, R532). -/
def execMonFifoPop (r : Req) (k : Fin 4) (s : State) : Host.Outcome State Fault Refusal :=
  let a := monBlk + R.MON_FIFO + 0x10 * k.val
  .next (s.gatedBy r a false (fun s => let (w, s) := s.monPop k.val; s.answer r a .ok [w]))

/-- What MON_CH stores (R526, R532): OSR 3 becomes 1; GAIN is fixed but on channels 144 to 147. -/
def monChStore (n : Nat) (v : Word) : Word :=
  let w := v &&& 0x8000000F
  let w := if wordBits w 1 0 = 3 then wordSet w 1 0 1 else w
  if n < 144 then wordSet w 3 2 0 else w

/-- A channel's configuration written (R529): on the channel being visited a change of OSR or gain starts settling anew, at the larger of
the counts. -/
def monChWrite (n : Nat) (v : Word) (s : State) : State :=
  let a := monBlk + 4 * n
  let o := s.rd a
  let w := monChStore n v
  let s := s.wr a w
  let k := convOf n
  let x := s.conv k
  if x.chan ≠ n then s
  else
    let c := if wordBits o 3 2 ≠ wordBits w 3 2 then 4 else if wordBits o 1 0 ≠ wordBits w 1 0 then 3 else 0
    if c = 0 then s
    else
      let c := if 0 < x.settle then max c x.run else c
      s.setConv k { x with settle := c, run := c, gain := wordBits w 3 2 }

end Sys2Proof.Machine
end

