-- ==== Sys2Proof/Machine/CmdSite.lean ====
section
/-! DEFINITION. Commons commands of the groups SYS, SITE and CONF (R401-R405, with R295-R297, R308, R519). -/
namespace Sys2Proof.Machine

/-- The two words of a 64-bit value, low half first. -/
def words64 (x : Nat) : List Word := [BitVec.ofNat 32 x, BitVec.ofNat 32 (x / 2 ^ 32)]

/-! ### SYS (R401) -/

/-- SYS_PING. -/
def execSysPing (c : Fin 128) (s : State) : Host.Outcome State Fault Refusal :=
  .next (s.runCmd c 1 1 (fun q s => (.done 0 0 q.args, s)))

/-- Version of the Commons image that runs. -/
def State.cmnVersion (s : State) : Word := BitVec.ofNat 32 (s.slotOf (s.rf mgmtBlk R.CMN_RST_STAT_SLOT)).ver

/-- SYS_IDENTIFY. -/
def execSysIdentify (c : Fin 128) (s : State) : Host.Outcome State Fault Refusal :=
  .next (s.runCmd c 1 2 (fun _ s =>
    let w4 := (if s.part.stepB then 0x42 else 0x41) + s.part.grade % 16 * 2 ^ 8 + b2n s.part.optionG * 2 ^ 12 + s.lc % 256 * 2 ^ 16
    (.done 0 0 (words64 s.part.uid ++ [BitVec.ofNat 32 w4, s.cmnVersion, Config.reeveLevel (s.rf mgmtBlk R.PATCH_STAT_LEVEL),
      BitVec.ofNat 32 (modeNo s.mode)]), s)))

/-- SYS MODE (R519, R520): it waits for startups in progress, is refused, or runs its steps to the end. -/
def sysMode (c : Nat) (q : CmdReq) (s : State) : Ans × State :=
  let m := q.w 1 % 4
  let fin (s : State) : Ans × State :=
    if s.start.mode.isSome then (.wait, s) else (.done 0 0 [BitVec.ofNat 32 (modeNo s.mode)], s)
  if q.phase ≠ 0 then fin s
  else
    checked [q.rsv 1 3, (m == 3, 6, 1), (s.start.mode.isSome, 13, 0)] s
      (if s.startupsRun then (.wait, s)
       else
        match s.modeRefused (modeOf m) with
        | some (st, d) => (.done st d [], s)
        | none => fin ((s.modeBegin (modeOf m) c).modeAdvance.setPhase c 1 []))

/-- SYS_MODE; a change whose command a restart has answered goes on. -/
def execSysMode (c : Fin 128) (s : State) : Host.Outcome State Fault Refusal :=
  .next (State.runCmd (if s.deaf then s else s.modeAdvance) c 1 3 (sysMode c))

/-- Bytes 0-7 of a parish record for a calendar time in ns (R581). -/
def timeWord (ns : Nat) : Nat := ns % 1000000000 + ns / 1000000000 * 2 ^ 30

/-- SYS_TIME. -/
def execSysTime (c : Fin 128) (s : State) : Host.Outcome State Fault Refusal :=
  .next (s.runCmd c 1 4 (fun _ s => (.done 0 0 (words64 s.ttc ++ words64 (timeWord s.cal)), s)))

/-! ### Bell and injection rights (R155-R158, R308) -/

/-- The nine junctions, by spine position (R168). -/
def junctions : List Nat := [0, 5, 13, 9, 15, 6, 14, 8, 7]

/-- Ring share of a site, as the junctions hold it (R155). -/
def State.share (s : State) (n : Nat) : Nat := s.rf (spineBlk 0 + 4 * n) R.RING_SHARE_SHARE
/-- A ring share written to every junction. -/
def State.setShare (s : State) (n v : Nat) : State := junctions.foldl (fun s p => s.wf (spineBlk p + 4 * n) R.RING_SHARE_SHARE v) s

/-- Bell DEST of a site. -/
def State.bellDest (s : State) (n : Nat) : Nat := tabGet (fun _ => 0) s.com.dest n

/-- RING_BELL_CTRL of a stop as its owner's rights stand; a stop of no site has EN 0. -/
def State.bellFor (s : State) (stop b o : Nat) : State :=
  let on := decide (o < 64) && s.flag (siteBlk o) R.SITE_RIGHTS_BELL
  bellCtrl stop b (if on then BitVec.ofNat 32 (2 ^ 31 + s.bellDest o) else 0) s

/-- Dies of a Bell DEST that are fabric dies, but for die `d`. -/
def destDies (dest d : Nat) : List Nat := [1, 2, 3, 4].filter (fun x => natBit dest x && x != d)

/-- All four directions of the rings of a fabric die. -/
def dieLinks (d : Nat) : List Nat := [0, 1, 2, 3].map (fun i => 1 + 4 * (d - 1) + i)

/-- Ring directions and spine lanes (as `linkOf` numbers them) that the Bell requests of a stop on ring `r` of die `d`, position `p`, or their
answers can traverse (R158): both directions of its ring, where the targets lie on both sides; the other ring of its die beyond the junction;
its ring's lane out and, back, the lane of the ring or hub stop that answers, and the rings of the dies it reaches. -/
def ringLoads (d r p dest : Nat) : List Nat :=
  let jf := stopNo 0 0 (jfPos (d - 1))
  let far := destDies dest d
  let out := linkOf (stopNo d r p) jf 0
  let back := linkOf jf (stopNo d r p) 0
  let both (l : Nat) : List Nat := [17 + 2 * l, 18 + 2 * l]
  (if natBit dest d then dieLinks d else []) ++
  (if far.isEmpty && !natBit dest 0 && !natBit dest 9 then [] else [out, back]) ++
  far.flatMap (fun x => let j := stopNo 0 0 (jfPos (x - 1)); linkOf jf j r :: linkOf j jf 0 :: linkOf j jf 1 :: dieLinks x) ++
  (if natBit dest 0 then both r ++ both (d % 2) else []) ++
  (if natBit dest 9 then [linkOf jf (stopNo 0 0 7) r, linkOf (stopNo 0 0 7) jf d] else [])

/-- The same for a stop of the spine (R144, R158). -/
def spineLoads (p dest : Nat) : List Nat :=
  let a := stopNo 0 0 p
  (destDies dest 0).flatMap (fun x => let j := stopNo 0 0 (jfPos (x - 1)); linkOf a j x :: linkOf j a 0 :: linkOf j a 1 :: dieLinks x) ++
  (if natBit dest 0 then [17, 18] else []) ++ (if natBit dest 9 then [linkOf a (stopNo 0 0 7) 0, linkOf (stopNo 0 0 7) a 0] else [])

/-- Ring directions and lanes that a Bell source loads, each once; a bridge stands for the one agent behind it that sends Bell packets (R260). -/
def bellLoads (n dest : Nat) : List Nat :=
  (if stopDie n = 0 then spineLoads (stopPos n) dest else ringLoads (stopDie n) (stopRing n) (stopPos n) dest).eraseDups

/-- Every stop with a RING_BELL_CTRL: those of the fabric rings beside their junctions, and those of the spine (R168). -/
def bellSources : List Nat :=
  ([1, 2, 3, 4].flatMap (fun d => [0, 1].flatMap (fun r => (List.range 33).map (fun p => stopNo d r (p + 1))))) ++ (List.range 16).map (stopNo 0 0)

/-- Bell DEST in force at a stop, where its EN is 1. -/
def State.bellAt (s : State) (n : Nat) : Option Nat :=
  match stopRegs n with
  | some b => if s.flag b R.RING_BELL_CTRL_EN then some (s.rf b R.RING_BELL_CTRL_DEST) else none
  | none => none

/-- Condition B of R158 with the stops of a list admitted toward `dest` beside those admitted now: at most 16 sources on a ring direction, 32 on
a spine lane. -/
def State.condB (s : State) (stops : List Nat) (dest : Nat) : Bool :=
  let loads := bellSources.flatMap (fun n =>
    if stops.contains n then bellLoads n dest else match s.bellAt n with | some d => bellLoads n d | none => [])
  (List.range 20).all (fun i => decide ((loads.filter (· == i + 1)).length ≤ if i < 16 then 16 else 32))

/-- Stops of a site that its Bell right covers: its fields' and Mill engines'. -/
def State.siteBellStops (s : State) (n : Nat) : List Nat :=
  (((List.range 128).filter (fun f => s.fieldOwner f == n)).map fieldStopNo) ++ (((List.range 64).filter (fun e => s.millOwner e == n)).map millStopNo)

/-! ### Resources (R403) -/

/-- Number of resources of a type; FIRST runs below it. -/
def typeCount (t : Nat) : Nat := [128, 32, 512, 16384, 64, 3072, 128].getD t 0

/-- Owner of a resource. -/
def State.resourceOwner (s : State) (t i : Nat) : Nat :=
  match t with
  | 0 => s.fieldOwner i
  | 1 => s.granOwner i
  | 2 => s.linkOwner i
  | 3 => s.rf (granReg (i / 512) (i % 512)) ⟨0, 6, 0⟩
  | 4 => s.millOwner i
  | 5 => s.dramOwner i
  | _ => s.fpOwner (i - 80)

/-- Die whose registers a resource's grant touches; the hub's for what has none. -/
def resourceDie (t i : Nat) : Nat :=
  match t with
  | 0 => 1 + i / 32 | 1 => 1 + i / 8 | 2 => 5 + i / 128 | 3 => 5 + i / 4096 | 4 => 1 + i / 16 | _ => 0

/-- A resource given to a site (R295); one it owns already stays as it is. -/
def State.giveOne (s : State) (t i n arg : Nat) : State :=
  if t = 6 then fpbindWrite (i - 80) (BitVec.ofNat 32 (2 ^ 31 + 0x100 + arg)) s
  else if s.resourceOwner t i = n then s
  else
    match t with
    | 0 => (s.fieldGrant i n).bellFor (fieldStopNo i) (Sys2Proof.Machine.fieldStop i) n
    | 1 => s.granChange i n
    | 2 => ((linkOwnerWrite i (BitVec.ofNat 32 (n + s.rf (siteBlk n) R.SITE_RIGHTS_INJ * 2 ^ 31)) s).siteStat n R.SITE_STAT_GRANT_CHG).sicEval n
    | 3 => fcuGranWrite (i / 512) (i % 512) (BitVec.ofNat 32 n) s
    | 4 => (s.wf (millBlk i) R.MILL_OWNER_SITE n).bellFor (millStopNo i) (millStop i) n |>.sicEval n
    | _ => dramOwnWrite i (BitVec.ofNat 32 n) s

/-- A resource taken from a site (R295, R345). -/
def State.takeOne (s : State) (t i : Nat) : State :=
  match t with
  | 0 => (s.fieldRevoke i).bellFor (fieldStopNo i) (Sys2Proof.Machine.fieldStop i) 0x7F
  | 1 => s.granChange i 0x7F
  | 2 =>
    let o := s.linkOwner i
    let s := laneCtrlWrite i (s.rd (laneBlk i + R.LANE_CTRL) &&& 0x7FFFFFFF) s
    let s := (s.returnGrans i).setLk i { s.lk i with grant := none, granted := 0 }
    (linkOwnerWrite i 0x7F s).siteStat o R.SITE_STAT_GRANT_CHG
  | 3 => fcuGranWrite (i / 512) (i % 512) 0x7F s
  | 4 => (State.wf (millCtrl i (BitVec.ofNat 32 (2 ^ 29 + s.rf (millBlk i) R.MILL_CTRL_SRC)) s) (millBlk i) R.MILL_OWNER_SITE 0x7F).bellFor
      (millStopNo i) (millStop i) 0x7F
  | 5 => dramOwnWrite i 0x7F (match s.encOf i with | some k => s.encOff k | none => s)
  | _ => fpbindWrite (i - 80) 0 s

/-! ### CREATE, DESTROY, GRANT, REVOKE (R402) -/

/-- SITE_CREATE: held while the site is in reset (R296). -/
def execSiteCreate (c : Fin 128) (s : State) : Host.Outcome State Fault Refusal :=
  .next (s.runCmd c 2 1 (fun q s =>
    let n := q.w 1 % 128
    checked [q.rsv 1 0x7F, (decide (64 ≤ n), 6, 1)] s
      (if s.siteInReset n then (.wait, s)
       else if s.siteState n ≠ 0 then (.done 13 0 [], s)
       else (.ok, (s.wf (siteBlk n) R.SITE_STAT_STATE 1)))))

/-- Everything a site owns as its destroy begins revoked in the order of R297, its rights and share cleared, and the site ABSENT. A fabric-port
channel is the site's by the field it is bound to, which goes first. -/
def State.strip (s : State) (n : Nat) : State :=
  let own (t i : Nat) : Bool := (t != 6 || decide (80 ≤ i)) && s.resourceOwner t i == n
  let s := [4, 2, 3, 0, 1, 6, 5].foldl (fun s t => (List.range (typeCount t)).foldl (fun s i => if own t i then s.takeOne t i else s) s) s
  let s := (s.wr (siteBlk n + R.SITE_RIGHTS) 0).setShare n 0
  let s := { s with com := { s.com with dest := tabPut (fun _ => 0) s.com.dest n 0 } }
  (s.clrF (siteBlk n) R.SITE_STAT_HELD).wf (siteBlk n) R.SITE_STAT_STATE 0

/-- DESTROY (R297): held while the site is in reset; then a reset with HOLD, and the rest once STATE reads LIVE. -/
def siteDestroy (c : Nat) (q : CmdReq) (s : State) : Ans × State :=
  let n := q.w 1 % 128
  let fin (s : State) : Ans × State := if s.siteState n = 1 then (.ok, s.strip n) else (.wait, s)
  if q.phase ≠ 0 then fin s
  else
    checked [q.rsv 1 0x7F, (decide (64 ≤ n), 6, 1), (s.siteState n == 0, 9, 0)] s
      (if s.siteInReset n then (.wait, s) else fin ((s.siteReset n 4).setPhase c 1 []))

/-- SITE_DESTROY. -/
def execSiteDestroy (c : Fin 128) (s : State) : Host.Outcome State Fault Refusal := .next (s.runCmd c 2 2 (siteDestroy c))

/-- Fields of a GRANT or REVOKE: site, type, count, first, argument. -/
def CmdReq.span (q : CmdReq) : Nat × Nat × Nat × Nat × Nat :=
  (q.w 1 % 128, natBits (q.w 1) 11 8, natBits (q.w 1) 31 16, q.w 2 % 2 ^ 16, natBits (q.w 2) 31 16)

/-- Checks of the words of a GRANT or REVOKE (R402, R403). -/
def State.spanArg (s : State) (q : CmdReq) : List (Bool × Nat × Nat) :=
  let (n, t, cnt, first, _) := q.span
  [q.rsv 1 0xFFFF0F7F, (decide (64 ≤ n), 6, 1), (decide (7 ≤ t), 6, 1), (decide (cnt < 1) || decide (4096 < cnt) || (t == 6 && cnt != 1), 6, 1),
   (decide (typeCount t < first + cnt) || (t == 6 && decide (first < 80)), 6, 2), (s.siteState n == 0, 9, 0)]

/-- The dies a range lies on can be reached. -/
def State.spanDies (s : State) (t first cnt : Nat) : List (Bool × Nat × Nat) :=
  ((List.range cnt).map (fun i => resourceDie t (first + i))).eraseDups.flatMap s.dieArg

/-- Stops that a GRANT to a site would admit to the Bell class. -/
def State.grantBell (s : State) (n t first cnt : Nat) : List Nat :=
  if !s.flag (siteBlk n) R.SITE_RIGHTS_BELL then []
  else if t = 0 then (List.range cnt).map (fun i => fieldStopNo (first + i))
  else if t = 4 then (List.range cnt).map (fun i => millStopNo (first + i)) else []

/-- GRANT (R295, R402): all or none. DEDUCED: a grant to a site with the Bell right that would break condition B of R158 is refused as SERVICE
refuses it (log entry 33). -/
def siteGrant (q : CmdReq) (s : State) : Ans × State :=
  let (n, t, cnt, first, arg) := q.span
  let stuck (i : Nat) : Bool := s.resourceOwner t i != n &&
    ((t == 3 && natBit (s.rd (granReg (i / 512) (i % 512))).toNat 7) || (t == 5 && (s.encOf i).isSome))
  checked (s.spanArg q ++ [(t != 6 && arg != 0, 6, 2), (decide (128 ≤ arg), 6, 2)] ++ s.spanDies t first cnt ++
      [(t == 6 && s.fieldOwner arg != n, 11, 0)]) s
    (match (List.range cnt).find? (fun i => let o := s.resourceOwner t (first + i); o != n && o != 0x7F) with
     | some i => (.done 10 i [], s)
     | none =>
       match (List.range cnt).find? (fun i => stuck (first + i)) with
       | some i => (.done 13 i [], s)
       | none =>
         let new := s.grantBell n t first cnt
         if !new.isEmpty && !s.condB new (s.bellDest n) then (.done 12 2 [], s)
         else (.ok, (List.range cnt).foldl (fun s i => s.giveOne t (first + i) n arg) s))

/-- SITE_GRANT. -/
def execSiteGrant (c : Fin 128) (s : State) : Host.Outcome State Fault Refusal := .next (s.runCmd c 2 3 siteGrant)

/-- REVOKE (R295, R402): all or none. -/
def siteRevoke (q : CmdReq) (s : State) : Ans × State :=
  let (n, t, cnt, first, arg) := q.span
  checked (s.spanArg q ++ [(arg != 0, 6, 2)] ++ s.spanDies t first cnt) s
    (match (List.range cnt).find? (fun i => s.resourceOwner t (first + i) != n) with
     | some i => (.done 11 i [], s)
     | none =>
       match (List.range cnt).find? (fun i => t == 3 && natBit (s.rd (granReg ((first + i) / 512) ((first + i) % 512))).toNat 7) with
       | some i => (.done 13 i [], s)
       | none => (.ok, (List.range cnt).foldl (fun s i => s.takeOne t (first + i)) s))

/-- SITE_REVOKE. -/
def execSiteRevoke (c : Fin 128) (s : State) : Host.Outcome State Fault Refusal := .next (s.runCmd c 2 4 siteRevoke)

/-! ### RESET, SERVICE, QUERY, TCRIT (R402, R404) -/

/-- RESET: SITE_RST_CFG where asked, then RESET or RUN of SITE_CMD; with WAIT it answers when STATE reads LIVE. -/
def cmdSiteReset (c : Nat) (q : CmdReq) (s : State) : Ans × State :=
  let w := q.w 1
  let n := w % 128
  let done (s : State) : Ans × State := (.done 0 0 [s.rd (siteBlk n + R.SITE_STAT)], s)
  let fin (s : State) : Ans × State := if s.siteState n = 1 then done s else (.wait, s)
  if q.phase ≠ 0 then fin s
  else
    checked (s.siteArg q n false true ++ [q.rsv 1 0xF7F]) s
      (let s := if natBit w 8 then s.wf (siteBlk n) R.SITE_RST_CFG_FIELD_ACTION (natBits w 9 9) else s
       let s := if natBit w 11 then s.siteRun n else s.siteReset n 3
       if natBit w 10 then fin (s.setPhase c 1 []) else done s)

/-- SITE_RESET. -/
def execSiteReset (c : Fin 128) (s : State) : Host.Outcome State Fault Refusal := .next (s.runCmd c 2 5 (cmdSiteReset c))

/-- SERVICE (R308): all or none; held while the site is in reset. -/
def siteService (q : CmdReq) (s : State) : Ans × State :=
  let w := q.w 1
  let n := w % 128
  let b := siteBlk n
  let share := natBits w 15 8
  let dest := q.w 2 &&& 0x21F
  let bell := natBit w 16
  let others := ((List.range 64).map (fun m => if m = n then 0 else s.share m)).sum
  checked [q.rsv 1 0xFF0FFF7F, q.rsv 2 0x3FF, (decide (64 ≤ n), 6, 1), (natBits w 19 18 == 3, 6, 1), (decide (128 < natBits w 31 24), 6, 1),
      (s.siteState n == 0, 9, 0)] s
    (if s.siteInReset n then (.wait, s)
     else
      checked [(decide (192 < others + share), 12, 1), (bell && !s.condB (s.siteBellStops n) dest, 12, 2),
          (decide (natBits w 31 24 < s.rf b R.SITE_RIGHTS_TCRIT_USED), 12, 3)] s
        (let s := s.setShare n share
         let s := ((s.wf b R.SITE_RIGHTS_BELL (b2n bell)).wf b R.SITE_RIGHTS_INJ (natBits w 17 17)).wf b R.SITE_RIGHTS_DEBUG (natBits w 19 18)
         let s := s.wf b R.SITE_RIGHTS_TCRIT_MAX (natBits w 31 24)
         let s := { s with com := { s.com with dest := tabPut (fun _ => 0) s.com.dest n (if bell then dest else 0) } }
         let s := (s.siteFields n).foldl (fun s f => s.bellFor (fieldStopNo f) (fieldStop f) n) s
         let s := ((List.range 64).filter (fun e => s.millOwner e == n)).foldl (fun s e => s.bellFor (millStopNo e) (millStop e) n) s
         (.ok, (s.siteLinks n).foldl (fun s l => linkOwnerWrite l (BitVec.ofNat 32 (n + natBits w 17 17 * 2 ^ 31)) s) s)))

/-- SITE_SERVICE. -/
def execSiteService (c : Fin 128) (s : State) : Host.Outcome State Fault Refusal := .next (s.runCmd c 2 6 siteService)

/-- A bitmap of `n` resources (R404). -/
def bitmap (n : Nat) (p : Nat → Bool) : List Byte :=
  (List.range (n / 8)).map (fun j => BitVec.ofNat 8 ((List.range 8).foldl (fun a i => a + b2n (p (8 * j + i)) * 2 ^ i) 0))

/-- The layout of R404. -/
def State.queryBytes (s : State) (n : Nat) : List Byte :=
  bitmap 128 (fun i => s.fieldOwner i == n) ++ bitmap 32 (fun i => s.granOwner i == n) ++ bitmap 64 (fun i => s.millOwner i == n) ++
  bitmap 512 (fun i => s.linkOwner i == n) ++ bitmap 3072 (fun i => s.dramOwner i == n) ++
  (List.range 32).flatMap (fun k => toBytes 2 ((List.range 512).filter (fun g => s.resourceOwner 3 (512 * k + g) == n)).length) ++
  bitmap 48 (fun i => s.fpOwner i == n) ++ toBytes 2 0 ++ toBytes 4 (s.rd (siteBlk n + R.SITE_RIGHTS)).toNat ++ toBytes 4 (s.share n)

/-- QUERY: `bus` is the response to the writes of the buffer. -/
def siteQuery (bus : Rsp) (q : CmdReq) (s : State) : Ans × State :=
  let n := q.w 1 % 128
  let (a, len) := q.buf 2
  checked ([(q.notSite n, 7, 0), q.rsv 1 0x7F, (decide (64 ≤ n), 6, 1)] ++ s.bufArg q 2 ++ [(decide (len < 556), 14, 4)] ++ busErr bus) s
    (.done 0 0 [BitVec.ofNat 32 (s.siteState n), 556], s.emit (.bufWrite a (s.queryBytes n)))

/-- SITE_QUERY. -/
def execSiteQuery (c : Fin 128) (bus : Rsp) (s : State) : Host.Outcome State Fault Refusal := .next (s.runCmd c 2 7 (siteQuery bus))

/-- TCRIT (R85, R308). -/
def siteTcrit (q : CmdReq) (s : State) : Ans × State :=
  let w := q.w 1
  let n := w % 128
  let f := natBits w 14 8
  let on := natBit w 16
  let used := s.rf (siteBlk n) R.SITE_RIGHTS_TCRIT_USED
  let was := s.flag (fieldPage f) R.FCK_TCRIT_TCRIT
  checked (s.siteArg q n false false ++ [q.rsv 1 0x17F7F, (s.fieldOwner f != n, 11, 0)] ++ s.dieArg (1 + f / 32) ++
      [(on && !was && decide (s.rf (siteBlk n) R.SITE_RIGHTS_TCRIT_MAX < used + 1), 12, 0)]) s
    (let s := ((s.wf (fieldPage f) R.FCK_TCRIT_TCRIT (b2n on)).tcritCount n).stretchField f
     (.done 0 0 [BitVec.ofNat 32 (s.rf (siteBlk n) R.SITE_RIGHTS_TCRIT_USED)], s))

/-- SITE_TCRIT. -/
def execSiteTcrit (c : Fin 128) (s : State) : Host.Outcome State Fault Refusal := .next (s.runCmd c 2 8 siteTcrit)

/-! ### CONF (R405) -/

/-- The end of the load or reload of a channel's request, if the engine has brought it. -/
def State.confEnd (s : State) (c : Nat) (load : Bool) : Ans × State :=
  match s.cfg.ends.find? (fun e => e.1 == c) with
  | some (_, st, d, n) =>
    (.done st d (if load then [BitVec.ofNat 32 n, 0] else []),
      { s with cfg := { s.cfg with ends := s.cfg.ends.filter (fun e => e.1 != c) } })
  | none => (.wait, s)

/-- LOAD: the engine verifies the image and writes its fields. -/
def confLoad (c : Nat) (q : CmdReq) (s : State) : Ans × State :=
  if q.phase ≠ 0 then s.confEnd c true
  else
    let n := q.w 1 % 128
    checked (s.siteArg q n true false ++ [q.rsv 1 0x7F] ++ s.bufArg q 2) s
      (let s := s.cfgAdd { id := 0, kind := 2, site := n, chan := c, pass := 1 }
       (.wait, s.setPhase c 1 []))

/-- CONF_LOAD. -/
def execConfLoad (c : Fin 128) (s : State) : Host.Outcome State Fault Refusal := .next (s.runCmd c 3 1 (confLoad c))

/-- RELOAD. -/
def confReload (c : Nat) (q : CmdReq) (s : State) : Ans × State :=
  if q.phase ≠ 0 then s.confEnd c false
  else
    let n := q.w 1 % 128
    let f := natBits (q.w 1) 14 8
    checked (s.siteArg q n true false ++ [q.rsv 1 0x7F7F, (s.fieldOwner f != n, 11, 0)] ++ s.dieArg (1 + f / 32) ++
        [((s.cfgRec f).isNone, 17, 0)]) s
      (State.confEnd ((s.cfgReload 3 n c [f]).setPhase c 1 []) c false)

/-- CONF_RELOAD. -/
def execConfReload (c : Fin 128) (s : State) : Host.Outcome State Fault Refusal := .next (s.runCmd c 3 2 (confReload c))

/-- A free entry of the memory a remap names, and how many it has free; for a rank, whether the unused spare is there. -/
def State.remapFree (s : State) (kind loc : Nat) : List Nat :=
  match kind with
  | 0 => [0, 1, 2, 3].filter (fun i => !natBit (s.bmRemap (loc % 16384 / 96) (loc % 16384 % 96) i) 31)
  | 1 => (List.range 16).filter (fun i => !natBit (s.grRemap (loc % 32) i) 31)
  | _ =>
    let b := ddrBlk (loc % 16)
    let sp := s.rf b R.DDR_CTRL_SPARE_RANK
    if s.flag b R.DDR_CTRL_SPARE_EN && s.rankState (loc % 16) sp == 2 && (s.ddr (loc % 16)).mig.isNone then [sp] else []

/-- The word, line or rank a remap names is remapped already, or cannot be (R134, R338). -/
def State.remapHeld (s : State) (kind loc : Nat) : Bool :=
  match kind with
  | 0 => [0, 1, 2, 3].any (fun i =>
      let x := s.bmRemap (loc % 16384 / 96) (loc % 16384 % 96) i; natBit x 31 && natBits x 9 0 == natBits loc 25 16)
  | 1 => (List.range 16).any (fun i => let x := s.grRemap (loc % 32) i; natBit x 31 && natBits x 14 0 == natBits loc 22 8)
  | _ =>
    let p := natBits loc 5 4
    let st := s.rankState (loc % 16) p
    st == 2 || st == 3 || st == 4 || p == s.rf (ddrBlk (loc % 16)) R.DDR_CTRL_SPARE_RANK

/-- REMAP (R135, R338): the ledger entry, then the register, or the rank's retirement. `ok`: the flash takes the entry. -/
def confRemap (ok : Bool) (q : CmdReq) (s : State) : Ans × State :=
  let kind := q.w 1 % 4
  let loc := q.w 2
  let free := s.remapFree kind loc
  let die := match kind with | 0 => 1 + loc % 16384 / 3072 | 1 => 1 + loc % 32 / 8 | _ => 0
  checked ([q.rsv 1 3, (kind == 3, 6, 1), q.rsv 2 (match kind with | 0 => 0x3FF3FFF | 1 => 0x7FFF1F | _ => 0x3F),
      (kind == 0 && decide (12288 ≤ loc % 16384), 6, 2), (kind == 2 && decide (12 ≤ loc % 16), 6, 2)] ++ s.dieArg die ++
      [(s.remapHeld kind loc, 13, 0), (free.isEmpty, 12, 0), (!ok, 20, 0)]) s
    (let left := [BitVec.ofNat 32 (free.length - 1)]
     let i := free.headD 0
     let led := { s with ledger := s.ledger ++ [LedgerEnt.mk kind true loc] }
     match kind with
     | 0 =>
       let f := loc % 16384 / 96
       (.done 0 0 left, bmRemapWrite f (4 * (loc % 16384 % 96) + i) (BitVec.ofNat 32 (2 ^ 31 + natBits loc 25 16)) led)
     | 1 => (.done 0 0 left, grRemapWrite (loc % 32) i (BitVec.ofNat 32 (2 ^ 31 + natBits loc 22 8)) led)
     | _ => (.done 0 0 left, s.retire (loc % 16) (natBits loc 5 4)))

/-- CONF_REMAP. -/
def execConfRemap (c : Fin 128) (flashOk : Bool) (s : State) : Host.Outcome State Fault Refusal := .next (s.runCmd c 3 3 (confRemap flashOk))

/-- LEDGER: as many entries as the buffer holds. -/
def confLedger (bus : Rsp) (q : CmdReq) (s : State) : Ans × State :=
  let (a, len) := q.buf 1
  let es := s.ledger.take (len / 8)
  checked (s.bufArg q 1 ++ busErr bus) s
    (.done 0 0 [BitVec.ofNat 32 es.length],
      s.emit (.bufWrite a (es.flatMap (fun e => toBytes 4 (e.kind + b2n e.runtime * 2 ^ 8) ++ toBytes 4 e.loc))))

/-- CONF_LEDGER. -/
def execConfLedger (c : Fin 128) (bus : Rsp) (s : State) : Host.Outcome State Fault Refusal := .next (s.runCmd c 3 4 (confLedger bus))

end Sys2Proof.Machine
end

