-- ==== Sys2Proof/Machine/CmdSys.lean ====
section
/-! DEFINITION. Commons commands of the groups SEC, MON, PARISH and FW (R411-R414). -/
namespace Sys2Proof.Machine

/-- A command Commons passes to the Reeve: it waits while the Reeve does not serve requests (R411, R430). -/
def State.byReeve (s : State) (k : Ans × State) : Ans × State := if s.rf mgmtBlk R.REEVE_STAT_STATE = 1 then k else (.wait, s)

/-! ### SEC (R411) -/

/-- Key slot a SITE argument names: 64 for management's. -/
def slotArg (n : Nat) : Nat := if n = 0x7F then 64 else n

/-- Rule of R344 an enable of slot `k` with `d` data granules would break: 1 range, 2 MGRAN, 3 ownership, 4 overlap. -/
def State.encRule (s : State) (k base d m : Nat) : Option Nat :=
  let backed := s.dramList.length * s.rf dramHub R.DRAM_INTLV_CAP_GIB
  let o := if k < 64 then k else 0x7F
  if d = 0 || backed < base + d + m then some 1
  else if m < (27 * d + 99) / 100 then some 2
  else if (List.range (d + m)).any (fun i => s.dramOwner (base + i) != o) then some 3
  else if (List.range (d + m)).any (fun i => (s.encOf (base + i)).isSome) then some 4
  else none

/-- ENC_ON (R342, R344): it waits for the DRNG; a rule broken sets REFUSED. -/
def secEncOn (q : CmdReq) (s : State) : Ans × State :=
  let n := q.w 1 % 128
  let k := slotArg n
  let w := q.w 2
  let d := q.w 3 % 4096
  checked (s.siteArg q n true false ++ [q.rsv 1 0x7F, q.rsv 2 0xFFF0FFF, q.rsv 3 0xFFF, (s.encState k != 0, 13, 0)]) s
    (s.byReeve (if !s.keyReady then (.wait, s)
     else
      match s.encRule k (w % 4096) d (natBits w 27 16) with
      | some i => (.done 12 i [], s.encEvt k R.ENC_STAT_REFUSED)
      | none =>
        let s := (s.wf (encBlk k) R.ENC_REGION_BASE (w % 4096)).wf (encBlk k) R.ENC_REGION_MGRAN (natBits w 27 16)
        (.ok, encCtrlWrite k (BitVec.ofNat 32 (2 ^ 31 + d)) s)))

/-- SEC_ENC_ON. -/
def execSecEncOn (c : Fin 128) (s : State) : Host.Outcome State Fault Refusal := .next (s.runCmd c 9 1 secEncOn)

/-- SEC_ENC_OFF (R358). -/
def execSecEncOff (c : Fin 128) (s : State) : Host.Outcome State Fault Refusal :=
  .next (s.runCmd c 9 2 (fun q s =>
    let n := q.w 1 % 128
    let k := slotArg n
    checked (s.siteArg q n true false ++ [q.rsv 1 0x7F]) s
      (s.byReeve (.ok, if s.encState k = 0 then s else encCtrlWrite k (s.rd (encBlk k + R.ENC_CTRL) &&& 0x7FFFFFFF) s))))

/-- Words of one generate call of the DRBG (R447), their bytes least significant first. -/
def drbg (n : Nat) (s : State) : List Word × State :=
  let r := s.draw (4 * n)
  ((List.range n).map (fun i => BitVec.ofNat 32 (bytesNat ((r.1.drop (4 * i)).take 4))), r.2)

/-- SEC_RANDOM: it waits for the DRNG. -/
def execSecRandom (c : Fin 128) (s : State) : Host.Outcome State Fault Refusal :=
  .next (s.runCmd c 9 3 (fun q s =>
    let n := q.w 1 % 16
    checked [q.rsv 1 0xF, (decide (n < 1) || decide (13 < n), 6, 1)] s
      (s.byReeve (if !s.rndReady then (.wait, s)
       else
        let (ws, s) := drbg n s
        (.done 0 0 ws, s)))))

/-- LIFECYCLE (R433, R434): `a` is the authorisation the buffer holds, `bus` the response to its reads. It waits while another change is in
progress, and then for the public-key engine and the fuses. -/
def secLifecycle (c : Nat) (a : LcAuth) (bus : Rsp) (q : CmdReq) (s : State) : Ans × State :=
  let fin (s : State) : Ans × State :=
    match s.sec.ends.find? (fun e => e.1 == c) with
    | some (_, st, d) =>
      (.done st d (if st = 0 then [BitVec.ofNat 32 s.lc] else []), { s with sec := { s.sec with ends := s.sec.ends.filter (fun e => e.1 != c) } })
    | none => (.wait, s)
  if q.phase ≠ 0 then fin s
  else
    let t := q.w 1
    checked ([q.rsv 1 0xFF, (t != s.lc + 1, 6, 1)] ++ s.bufArg q 2) s
      (s.byReeve (if s.sec.change.isSome || s.sec.pke.any (fun e => match e.2 with | .lifecycle _ _ _ => true | _ => false) then (.wait, s)
       else
        checked (busErr bus ++ [(a.dst.toNat != t, 6, 1), (!s.lcAuthOk a, 18, 0)]) s
          (.wait, (s.setPhase c 1 []).pkeStart 2 (.lifecycle t c a.prov))))

/-- SEC_LIFECYCLE. -/
def execSecLifecycle (c : Fin 128) (auth : LcAuth) (bus : Rsp) (s : State) : Host.Outcome State Fault Refusal :=
  .next (s.runCmd c 9 4 (secLifecycle c auth bus))

/-! ### MON (R412) -/

/-- MON_READ: the latest samples. -/
def execMonRead (c : Fin 128) (s : State) : Host.Outcome State Fault Refusal :=
  .next (s.runCmd c 10 1 (fun q s =>
    let w := q.w 1
    let first := w % 256
    let n := natBits w 11 8 + 1
    checked [q.rsv 1 0xFFF, (decide (13 < n) || decide (148 < first + n), 6, 1)] s
      (.done 0 0 ((List.range n).map (fun i => s.rd (monBlk + R.MON_SMP + 4 * (first + i)))), s)))

/-- MON_CONFIG: a gain on a channel without one is out of range. -/
def execMonConfig (c : Fin 128) (s : State) : Host.Outcome State Fault Refusal :=
  .next (s.runCmd c 10 2 (fun q s =>
    let w := q.w 1
    let n := w % 256
    checked [q.rsv 1 0xFFF, (decide (148 ≤ n) || natBits w 9 8 == 3 || (decide (n < 144) && natBits w 11 10 != 0), 6, 1)] s
      (.ok, monChWrite n (BitVec.ofNat 32 (s.rf (monBlk + 4 * n) R.MON_CH_EN * 2 ^ 31 + natBits w 11 10 * 4 + natBits w 9 8)) s)))

/-- MON_POWER. -/
def execMonPower (c : Fin 128) (s : State) : Host.Outcome State Fault Refusal :=
  .next (s.runCmd c 10 3 (fun _ s =>
    let n := ((List.range 128).filter (fun f => s.rf (fieldPage f) R.FCK_STAT_STRETCH != 0)).length
    (.done 0 0 [s.rd (startBlk + R.PWR_MEAS), BitVec.ofNat 32 (1000 * s.rf startBlk R.PWR_CAP_CAP_W), BitVec.ofNat 32 (n + modeNo s.mode * 2 ^ 8)],
      s)))

/-! ### PARISH (R413, R589) -/

/-- The 32 bytes of a parish record (R581). -/
def recBytes (r : PRec) : List Byte :=
  let b := toBytes 8 (timeWord r.time) ++ toBytes 2 r.code ++ toBytes 2 r.source ++ toBytes 1 r.sev ++ toBytes 1 r.site ++ toBytes 2 r.rep ++
    toBytes 8 r.data ++ toBytes 4 (recSpan r)
  b ++ toBytes 4 (crc32 b)

/-- A record into a list in sequence order from `base`, once. -/
def recIns (base : Nat) (r : PRec) : List PRec → List PRec
  | [] => [r]
  | o :: t =>
    let k (x : PRec) : Nat := (x.seq + 2 ^ 32 - base) % 2 ^ 32
    if k r < k o then r :: o :: t else if k r = k o then o :: t else o :: recIns base r t

/-- Event records held from a sequence on, in order (R589): staged, in the hub ring, in flash. -/
def State.heldFrom (s : State) (base : Nat) : List PRec :=
  let ring := s.par.ring.filterMap (·.2)
  let flash := s.par.flash.filterMap (fun e => match e.2 with | .held r => some r | _ => none)
  let all := (s.par.staging ++ ring ++ flash).filter (fun r => r.code != 1 && (r.seq == base || seqAfter r.seq base))
  all.foldl (fun l r => recIns base r l) []

/-- READ: records from the later of the first sequence asked for and the oldest held, as many as are wanted and fit; a site's own for a site. -/
def parishRead (bus : Rsp) (q : CmdReq) (s : State) : Ans × State :=
  let (a, len) := q.buf 3
  let want := min (q.w 2) (len / 32)
  checked (q.rsv 2 0xFFFF :: s.bufArg q 3 ++ busErr bus) s
    (let start := if s.par.any then seqMax (s.rd (parishBlk + R.PAR_SEQ_OLD)).toNat (q.w 1) else q.w 1
     let rs := (s.heldFrom start).filter (fun r => match q.snd with | .s n => r.site == n | _ => true)
     let got := rs.take want
     let last := ((s.rd (parishBlk + R.PAR_SEQ_NEW)).toNat + 1) % 2 ^ 32
     let after :=
       if want = 0 then start
       else if got.length < want then (if s.par.any && (last == start || seqAfter last start) then last else start)
       else match got.getLast? with | some r => (r.seq + 1) % 2 ^ 32 | none => start
     (.done 0 0 [BitVec.ofNat 32 got.length, BitVec.ofNat 32 after], if got.isEmpty then s else s.emit (.bufWrite a (got.flatMap recBytes))))

/-- PARISH_READ. -/
def execParishRead (c : Fin 128) (bus : Rsp) (s : State) : Host.Outcome State Fault Refusal := .next (s.runCmd c 11 1 (parishRead bus))

/-- PARISH_MARK (R589): a sequence that no record held has is NOT_FOUND. -/
def execParishMark (c : Fin 128) (s : State) : Host.Outcome State Fault Refusal :=
  .next (s.runCmd c 11 2 (fun q s =>
    let n := q.w 1
    checked [(!((s.heldFrom n).any (fun r => r.seq == n)), 17, 0)] s
      (let m := seqMax (s.rd (parishBlk + R.PAR_MARK)).toNat n
       (.ok, (s.wr (parishBlk + R.PAR_MARK) (BitVec.ofNat 32 m)).recordO 0x0002 (locator 11 0) m))))

/-- PARISH_STATUS. -/
def execParishStatus (c : Fin 128) (s : State) : Host.Outcome State Fault Refusal :=
  .next (s.runCmd c 11 3 (fun _ s =>
    (.done 0 0 [s.rd (parishBlk + R.PAR_SEQ_OLD), s.rd (parishBlk + R.PAR_SEQ_NEW), s.rd (parishBlk + R.PAR_STAGED)], s)))

/-! ### FW (R414) -/

/-- FW_VERSION. -/
def execFwVersion (c : Fin 128) (s : State) : Host.Outcome State Fault Refusal :=
  .next (s.runCmd c 12 1 (fun _ s =>
    (.done 0 0 [BitVec.ofNat 32 (s.rf mgmtBlk R.CMN_RST_STAT_SLOT), BitVec.ofNat 32 s.cores.slotA.seq, BitVec.ofNat 32 s.cores.slotB.seq,
      s.cmnVersion, BitVec.ofNat 32 (s.rf mgmtBlk R.PATCH_STAT_LEVEL)], s)))

/-- UPDATE (R426, R427): `x` is the image the buffer holds. A write of the flash that fails leaves a slot that is not valid. -/
def fwUpdate (x : SlotIn) (bus : Rsp) (flashOk : Bool) (q : CmdReq) (s : State) : Ans × State :=
  let n := q.w 1 % 2
  let put (s : State) (y : SlotSt) : State :=
    { s with cores := if n = 0 then { s.cores with slotA := y } else { s.cores with slotB := y } }
  checked ([q.rsv 1 1, (n == s.rf mgmtBlk R.CMN_RST_STAT_SLOT, 13, 0)] ++ s.bufArg q 2 ++ busErr bus) s
    (s.byReeve (checked [(!(s.slotCheck x).valid, 18, 0)] s
      (if flashOk then
        let seq := (max s.cores.slotA.seq s.cores.slotB.seq + 1) % 2 ^ 32
        (.done 0 0 [BitVec.ofNat 32 seq], put s { s.slotCheck x with seq := seq })
       else (.done 20 0 [], put s { s.slotOf n with valid := false }))))

/-- FW_UPDATE. -/
def execFwUpdate (c : Fin 128) (img : SlotIn) (bus : Rsp) (flashOk : Bool) (s : State) : Host.Outcome State Fault Refusal :=
  .next (s.runCmd c 12 2 (fwUpdate img bus flashOk))

/-- RESTART: answered, and then Commons restarts (R423), from the slot named where USE_SLOT asks for it and it is valid. -/
def fwRestart (c : Nat) (s : State) : State :=
  match s.cmdReq c with
  | none => s
  | some q =>
    let t := s.runCmd c 12 3 (fun q s => checked [q.rsv 1 3] s (s.byReeve (.ok, s.setPhase c 2 [])))
    let w := q.w 1
    let ran := q.group == 12 && q.cmd == 3 && q.whole && q.resp.isNone && q.phase == 0 && q.snd == .p && decide (w < 4) &&
      (match t.cmdReq c with | some r => r.resp.isSome | none => true)
    if !ran then t
    else
      let old := t.rf mgmtBlk R.CMN_RST_STAT_SLOT
      let t := t.cmnRestart 4 0
      if natBit w 1 && (t.slotOf (w % 2)).valid && t.hbState == 2 && w % 2 != old then
        State.wf { t with cores := { t.cores with times := [] } } mgmtBlk R.CMN_RST_STAT_SLOT (w % 2)
      else t

/-- FW_RESTART. -/
def execFwRestart (c : Fin 128) (s : State) : Host.Outcome State Fault Refusal := .next (fwRestart c.val s)

/-- PATCH (R429): `p` is the record the buffer holds. -/
def fwPatch (p : PatchRec) (bus : Rsp) (q : CmdReq) (s : State) : Ans × State :=
  checked (s.bufArg q 1 ++ busErr bus) s
    (s.byReeve (checked [(!p.sigOk || patchBad p.ents || decide (p.level.toNat ≤ s.rf mgmtBlk R.PATCH_STAT_LEVEL), 18, 0)] s
      (.done 0 0 [BitVec.ofNat 32 p.ents.length], s.patchLoad p.level.toNat p.ents p.ram)))

/-- FW_PATCH. -/
def execFwPatch (c : Fin 128) (p : PatchRec) (bus : Rsp) (s : State) : Host.Outcome State Fault Refusal := .next (s.runCmd c 12 4 (fwPatch p bus))

end Sys2Proof.Machine
end

