-- ==== Sys2Proof/Machine/Guest.lean ====
section
/-! DEFINITION. The guest port: states, fencing and reset, and guest flits (R559-R565). -/
namespace Sys2Proof.Machine

/-- STATE replaced. -/
def State.setGst (s : State) (v : Nat) : State := s.wf guestBlk R.GST_STAT_STATE v
/-! ### Toward the guest (R560, R561) -/

/-- A request to the guest that JG has admitted (R562): carried while UP, INRESET while RESETTING, NOTARGET otherwise. -/
def State.guestTarget (s : State) (f : Flit) : State :=
  if s.gstState = 2 then s.toGuest f
  else if opAnswered f.op && f.last then s.respond jgStop f (if s.gstState = 3 then 4 else 2) [] else s

/-! ### States (R562, R563) -/

/-- Requests queued or outstanding at JG answered with a code; responses and posted writes discarded and counted. -/
def State.guestCut (s : State) (code : Nat) : State :=
  let g := s.guest
  let ans (f : Flit) : Bool := !f.rsp && opAnswered f.op && f.idx == 0
  let drop := (g.toGuest.filter (fun f => f.rsp || f.op == 4)).length
  let s := { s with guest := {} }
  let s := (g.gone ++ g.toGuest.filter ans).foldl (fun s f => s.respond jgStop f code []) s
  s.cnt (guestBlk + R.GST_DROP_CNT) drop

/-- FENCED (R563). -/
def State.guestFence (s : State) : State := ((s.guestCut 2).setGst 0).wf guestBlk R.GST_STAT_RATE 0

/-- FENCED by other means than FENCE: a parish record, and an incident keyed to the guest (R563). -/
def State.guestFail (s : State) : State :=
  let s := s.guestFence
  let d := (s.rd (guestBlk + R.GST_STAT)).toNat
  (s.recordO 0x00B0 (locator 9 0) d).reportO (locator 9 0) 0x00B0 d

/-- A write to GST_CTRL (R562, R563, R565): FENCE wins. -/
def gstCtrl (v : Word) (s : State) : State :=
  let v := v.toNat
  if natBit v 30 then if s.gstState = 0 then s else s.guestFence
  else
    let s :=
      if natBit v 29 && s.gstState == 2 then ((s.guestCut 4).setGst 3).emit (.guestTx 4 0) else s
    if natBit v 31 then
      if s.part.optionG && s.gstState == 0 then s.setGst 1 else s.setF guestBlk R.GST_STAT_REFUSED
    else s

/-- GST_UNFENCE (R562). -/
def execGstUnfence (r : Req) (v : Word) (s : State) : Host.Outcome State Fault Refusal :=
  .next (s.gated r (guestBlk + R.GST_CTRL) true (gstCtrl v))
/-- GST_FENCE (R563). -/
def execGstFence (r : Req) (v : Word) (s : State) : Host.Outcome State Fault Refusal :=
  .next (s.gated r (guestBlk + R.GST_CTRL) true (gstCtrl v))
/-- GST_RESET (R563). -/
def execGstReset (r : Req) (v : Word) (s : State) : Host.Outcome State Fault Refusal :=
  .next (s.gated r (guestBlk + R.GST_CTRL) true (gstCtrl v))

/-- GUEST_TRAIN_DONE (R559, R562): 0 trained at 4, 1 at 8, 2 at 16 GT/s. -/
def execGuestTrainDone (rate : Fin 3) (s : State) : Host.Outcome State Fault Refusal :=
  .next (if s.gstState = 1 then (State.setGst { s with guest := {} } 2).wf guestBlk R.GST_STAT_RATE (rate.val + 1) else s)

/-- GUEST_TRAIN_TIMEOUT (R562). -/
def execGuestTrainTimeout (s : State) : Host.Outcome State Fault Refusal :=
  .next (if s.gstState = 1 then (s.setF guestBlk R.GST_STAT_TRAIN_FAIL).guestFail else s)

/-- GUEST_RESET_TIMEOUT (R563). -/
def execGuestResetTimeout (s : State) : Host.Outcome State Fault Refusal :=
  .next (if s.gstState = 3 then (s.setF guestBlk R.GST_STAT_RST_TMO).guestFail else s)

/-- GUEST_LINK_DOWN (R563). -/
def execGuestLinkDown (s : State) : Host.Outcome State Fault Refusal :=
  .next (if s.gstState = 0 then s else s.guestFail)

/-! ### Flits from the guest (R560, R561) -/

/-- A request of the guest lies in an enabled window that permits its operation. -/
def State.gstWindow (s : State) (f : Flit) : Bool :=
  (List.range 8).any (fun n =>
    let b := guestBlk + 8 * n
    s.flag b R.GST_WIN_A_EN && (if opIsRead f.op then s.flag b R.GST_WIN_A_R else s.flag b R.GST_WIN_A_W) &&
      decide (s.rf b R.GST_WIN_A_BASE ≤ f.addr / 2 ^ 30) && decide (f.addr / 2 ^ 30 ≤ s.rf b R.GST_WIN_B_LIMIT))

/-- A flit of a guest's request that breaks the forms of R147. -/
def guestBad (f : Flit) : Bool :=
  let single := f.last && f.idx == 0
  let toBurst (a : Nat) : Bool := match regionOf a with | .dram _ => true | .window _ _ => true | _ => false
  !(f.op == 1 || f.op == 2 || f.op == 3 || f.op == 4) ||
  (f.cls == 0 && (opIsRead f.op || !single)) ||
  (if f.op == 2 then f.addr % 256 != 0 || !toBurst f.addr || !single
   else if single then decide (64 < f.addr % 64 + f.len + 1)
   else opIsRead f.op || f.addr % 256 != 64 * f.idx || f.len != 63 || !toBurst f.addr || f.last != (f.idx == 3))

/-- JG answers a request of the guest itself. -/
def State.guestRefuse (s : State) (f : Flit) (code : Nat) : State :=
  if f.last then (responses jgStop f code []).foldl (fun s r => s.toGuest r) s else s

/-- A request of guest master `m` enters the spine, or is refused (R147, R156, R161, R561). With the Bell queue full, it waits at the guest. -/
def State.guestRequest (s : State) (m : Nat) (f : Flit) : State :=
  let mid := 0xC0 + m
  let f := { f with mid := mid, sid := s.midSid mid 0, src := jgStop }
  if !s.flag (guestBlk + 4 * m) R.GST_MSTR_EN || !s.gstWindow f then (s.guestRefuse f 3).cnt (guestBlk + R.GST_DENY_CNT) 1
  else if guestBad f then s.guestRefuse f 1
  else
    match s.sourceStop mid f.addr f.cls with
    | none => s.guestRefuse f 2
    | some dst =>
      let f := { f with dst := dst }
      if f.cls = 0 then
        if !s.bellAllows jgStop (s.ringDie f.addr) then
          (s.stopEvt jgStop R.RING_STAT_BELL_DENY (some R.RING_BELL_DENY_CNT)).guestRefuse f 3
        else
          let x := s.stopSt jgStop
          if x.bellInj.length ≥ 4 then s else s.setStop jgStop { x with bellInj := x.bellInj ++ [f] }
      else
        let s :=
          if opAnswered f.op && f.idx == 0 then
            let x := s.stopSt jgStop
            s.setStop jgStop { x with out := x.out ++ [⟨f.mid, f.sid, f.tag, f.op, f.cls, f.addr, f.len, s.now, []⟩] }
          else s
        s.place jgStop f

/-- A FLIT of the guest (R148, R561): checked at JG, a request admitted, a response sent on to its requester. DESIGN CHOICE: a CODE of 6 or 7, which
are reserved, is passed on as FAULT, so that a requester meets only the codes of R10 (log entry 33). -/
def State.guestFlit (s : State) (m raw : Nat) : State :=
  match flitCheck raw with
  | none => s.stopEvt jgStop R.RING_STAT_HDR_DROP (some R.RING_HDR_DROP_CNT)
  | some (f, ce, bad) =>
    let s := if ce then s.stopEvt jgStop R.RING_STAT_HDR_CE (some R.RING_HDR_CE_CNT) else s
    let s := if bad then s.stopEvt jgStop R.RING_STAT_CRC_ERR (some R.RING_CRC_CNT) else s
    let f := if bad then { f with code := 5, data := 0 } else f
    if f.rsp then
      let gone := if f.last then s.guest.gone.filter (fun q => !(q.mid == f.mid && q.tag == f.tag && q.src == f.dst)) else s.guest.gone
      State.place { s with guest := { s.guest with gone := gone } } jgStop { f with src := jgStop, code := codeNo (rspOf f.code) }
    else s.guestRequest m f

/-- A CREDIT of the guest (R211, R560): a limit that goes back is ignored. -/
def State.guestCredit (s : State) (b : Nat) : State :=
  let lim := (List.range 8).map (fun v =>
    let o := s.guest.limit.getD v 0
    let n := natBits b (8 * (2 + v) + 7) (8 * (2 + v))
    if 127 < (n + 256 - o) % 256 then o else n)
  guestPump { s with guest := { s.guest with limit := lim } }

/-- A guest flit as its 96 bytes, byte 0 lowest (R560). -/
def guestReceive (b : Nat) (s : State) : State :=
  let st := s.gstState
  if st < 2 then s
  else if crc16 (natBits b 751 0) 752 != natBits b 767 752 then s.cnt (guestBlk + R.GST_CRC_CNT) 1
  else
    let kind := b % 256
    if 6 ≤ kind then s.cnt (guestBlk + R.GST_PROTO_CNT) 1
    else if kind = 2 then s.guestCredit b
    else if st = 3 then
      if kind = 5 then State.setGst { s with guest := {} } 2 else s
    else if kind = 1 then s.guestFlit (natBits b 11 8) (natBits b 671 16)
    else s

/-- GUEST_FLIT_RECEIVE (R560, R561). -/
def execGuestFlitReceive (bytes : BitVec 768) (s : State) : Host.Outcome State Fault Refusal := .next (guestReceive bytes.toNat s)

end Sys2Proof.Machine
end

