-- ==== Sys2Proof/Machine/RegAccess.lean ====
section
/-! DEFINITION. Accesses to device registers: where they lie, width and alignment, split accesses, pair latches, staged counter halves, collisions
with hardware and what each register's write does (R31-R47). -/
namespace Sys2Proof.Machine

/-! ### Where a word lies (R31, R240, R477, R590) -/

/-- What lies at a word of the device-register region: a register by its key, word `w` of a record of an FCU, of a probe's trace, of a slot of
the hub ring, bytes of a field's readback shadow by page offset, the windows of a mailbox channel, the Reeve's private set. -/
inductive Loc where
  | reg (k : Nat) | record (n rn w : Nat) | trace (p w : Nat) | ring (j w : Nat) | shadow (f o : Nat)
  | tx (c : Nat) | rx (c : Nat) | priv
  deriving DecidableEq, Repr

/-- Decoding of a region address, for the SID whose REGBUS instance an access reaches (R46). -/
def locOf (r : Req) (a : Nat) : Loc :=
  let d := a / 0x1000000
  let o := a % 0x1000000
  if 0xF000 ≤ o ∧ o < 0xF010 then .reg (regbusBlk d (regbusIdx r.sid.toNat) + o % 16)
  else if 5 ≤ d ∧ 0x800000 ≤ o ∧ o < 0xC00000 then
    let x := o - 0x800000
    .record (8 * (d - 5) + x / 0x80000) (x % 0x80000 / 16) (x % 16 / 4)
  else if 1 ≤ d ∧ d ≤ 4 ∧ 0x800000 ≤ o ∧ o < 0xA00000 ∧ (0x8000 ≤ o % 0x10000 ∨ (0x7C00 ≤ o % 0x10000 ∧ o % 0x10000 < 0x7E00)) then
    .shadow (32 * (d - 1) + (o - 0x800000) / 0x10000) (o % 0x10000)
  else if d = 0 ∧ 0x740000 ≤ o ∧ o < 0x860000 then .trace ((o - 0x740000) / 0x8000) ((o - 0x740000) % 0x8000 / 4)
  else if d = 0 ∧ 0x960000 ≤ o ∧ o < 0x980000 then .ring ((o - 0x960000) / 32) (o % 32 / 4)
  else if d = 0 ∧ 0xD00000 ≤ o ∧ o < 0xD08000 ∧ o % 0x100 < 0x40 then .tx ((o - 0xD00000) / 0x100)
  else if d = 0 ∧ 0xD00000 ≤ o ∧ o < 0xD08000 ∧ o % 0x100 < 0x80 then .rx ((o - 0xD00000) / 0x100)
  else if d = 0 ∧ 0xF00000 ≤ o then .priv
  else .reg a

/-- The register, its block and its offset in the block, at a key; the stores of side B of a mailbox channel have no address of their own. -/
def regHere (k : Nat) : Option (Blk × RegSpec × Nat) :=
  match regAt k, blkOfAddr k with
  | some (b, spec), some (_, o) => if b == .mbxch && (o == 0xA0 || o == 0xA4) then none else some (b, spec, o)
  | _, _ => none

/-- Pair kind at a key. -/
def pairAt (k : Nat) : PairKind := match regHere k with | some (_, spec, _) => spec.pair | none => .none

/-- An address is the _LO offset of a declared pair (R35). -/
def isPairLo (r : Req) (a : Nat) : Bool :=
  match locOf r a with | .reg k => pairAt k == .lo || pairAt k == .ctrLo | _ => false

/-- Response code of an access to a word before it acts: that of `gate`, and for a window its own access rule. -/
def State.locGate (s : State) (r : Req) (a : Nat) (write : Bool) : Rsp :=
  let d := a / 0x1000000
  let host := isPf r || isDbg r || (decide (0x40 ≤ r.mid.toNat) && decide (r.mid.toNat < 0x80))
  let win (ok : Bool) (owner : Nat) : Rsp :=
    if s.recoveryOnly && host then .denied else if (s.regDeny r a write).isSome then .denied else if !ok then .denied else if s.siteInReset owner then .inReset else .ok
  if 9 ≤ d then .noTarget
  else if natBit s.kelk.unreach d then .noTarget
  else if s.dieDown d then .inReset
  else
    match locOf r a with
    | .reg k => if k ≥ 0x200000000 then win true 0x7F else if (regHere k).isNone then .noTarget else s.gate r k write
    | .record n rn _ => s.recGate r n rn write
    | .trace _ _ => win (isMgmt r) 0x7F
    | .ring _ _ => win (isMgmt r) 0x7F
    | .shadow f _ => win (s.debugAllows r (s.fieldOwner f) write) (s.fieldOwner f)
    | .tx c | .rx c => win (s.mbxSide c r.mid.toNat).isSome (s.portChanOwner c)
    | .priv => s.gate r a write

/-! ### What a register shows -/

/-- Sum of the bits of a list of truth values. -/
def lvlBits (l : List Bool) : Nat := bitsVal l

/-- A word of SIC_LVL (R312): instances of the site that are high. -/
def State.sicLvl (s : State) (n i : Nat) : Nat :=
  if i < 4 then lvlBits ((List.range 32).map (fun j => s.fieldOwner (32 * i + j) == n && s.fieldLvl (32 * i + j)))
  else if i = 4 then lvlBits ((List.range 32).map (fun g => s.granOwner g == n && s.granLvl g))
  else if i < 7 then lvlBits ((List.range 32).map (fun j => s.millOwner (32 * (i - 5) + j) == n && s.millLvl (32 * (i - 5) + j)))
  else if i = 7 then lvlBits ([4, 5, 6, 7, 8].map (fun c => s.sicLevel n c))
  else lvlBits ((List.range 32).map (fun j => s.linkOwner (32 * (i - 8) + j) == n && s.linkLvl (32 * (i - 8) + j)))

/-- Credits shown in LINK_CRED (R226). -/
def availOf (limit sent : Nat) : Nat := let x := (limit + 256 - sent) % 256; if x < 128 then x else 0

/-- Key of the register a requester sees: its own side of a mailbox channel (R390). -/
def State.seenKey (s : State) (r : Req) (k : Nat) (b : Blk) : Nat :=
  match b with
  | .mbxch => if s.mbxSide ((k - 0xD00000) / 0x100) r.mid.toNat = some true then k + 0x20 else k
  | _ => k

/-- The word a register shows a requester; registers that follow other state are worked out from it. -/
def State.view (s : State) (r : Req) (k : Nat) (b : Blk) (reg o : Nat) : Word :=
  let w := s.rd (s.seenKey r k b)
  let d := k / 0x1000000
  match b with
  | .field =>
    if reg = R.STILE_STAT then
      BitVec.ofNat 32 (natBits w.toNat 5 4 * 16 + w.toNat % 2 + s.stileStatLive (32 * (d - 1) + instOf k 0x800000 0x10000) ((o - 0x100) / 0x10))
    else if reg = R.STILE_IE && stileChans (32 * (d - 1) + instOf k 0x800000 0x10000) ((o - 0x100) / 0x10) == 0 then 0
    else w
  | .gran =>
    let g := 8 * (d - 1) + instOf k 0x600000 0x10000
    if reg = R.GR_STAT then wordSet w 11 8 (s.grFencedBits g)
    else if reg = R.GR_PORT_EN then BitVec.ofNat 32 (s.grPortBits g) else w
  | .link =>
    let x := s.lk (128 * (d - 5) + instOf k 0x100000 0x200)
    if reg = R.LINK_SEQ then BitVec.ofNat 32 (x.rxNext % 4096 * 2 ^ 20 + x.txNext % 4096 * 2 ^ 8 + x.replay.length)
    else if reg = R.LINK_CRED then BitVec.ofNat 32 (availOf x.limC x.sentC * 256 + availOf x.limD x.sentD)
    else if reg = R.LINK_BSEQ then BitVec.ofNat 32 (b2n x.bellLast.isSome * 2 ^ 16 + x.bellLast.getD 0 * 256 + x.bseq % 256)
    else w
  | .site => if reg = R.SIC_LVL then BitVec.ofNat 32 (s.sicLvl (instOf k 0xA00000 0x1000) ((o - 0x100) / 4)) else w
  | .mbxhub => if reg = R.COMMONS_HB then wordSet w 13 0 s.hbAge else w
  | .bk =>
    if reg = R.BK_RTC_LO then BitVec.ofNat 32 s.rtcSec
    else if reg = R.BK_RTC_HI then BitVec.ofNat 32 (s.rtcSub * 2 ^ 16 + s.rtcSec / 2 ^ 32) else w
  | .dbg =>
    if reg = R.DBG_SESSION_M then s.rd (dlocBlk + R.DBG_SESSION)
    else if reg = R.DBG_XT_STAT && !isMgmt r then
      BitVec.ofNat 32 (bitsVal ((List.range 16).map (fun c => natBit w.toNat c && s.xtOwner c == r.sid.toNat)))
    else w
  | .guest => if reg = R.GST_STAT then wordSet w 28 28 (b2n s.part.optionG) else w
  | .clk =>
    if reg = R.TTC_LO then BitVec.ofNat 32 s.ttc else if reg = R.TTC_HI then BitVec.ofNat 32 (s.ttc / 2 ^ 32) else w
  | _ => w

/-! ### Collisions with hardware (R43-R45) -/

/-- Bits of the fields with given access types. -/
def RegSpec.mask (x : RegSpec) (p : Acc → Bool) : Word :=
  BitVec.ofNat 32 (x.fields.foldl (fun a f => if p f.acc then a + (2 ^ (f.hi + 1) - 2 ^ f.lo) else a) 0)

/-- A field's bits counting events, saturating. -/
def countFld (w : Word) (f : FieldSpec) (n : Nat) : Word :=
  wordSet w f.hi f.lo (satAdd (2 ^ (f.hi + 1 - f.lo) - 1) (wordBits w f.hi f.lo) n)

/-- The field of a register that counts events: the one cleared by a read, else its first. -/
def RegSpec.counter (x : RegSpec) : Option FieldSpec := (x.fields.find? (fun f => f.acc == .rc)).orElse (fun _ => x.fields.head?)

/-- Self-clearing start bits that software writes and hardware clears on completion (R43, R132, R482). -/
def startBits (b : Blk) (reg : Nat) : Word :=
  match b with
  | .field => if reg = R.BM_FLIP_CTRL then 0x80000000 else 0
  | .gran => if reg = R.GR_FLIP_CTRL then 0x80000000 else 0
  | .dbg => if reg = R.DBG_XT_TCTRL then 0x80000000 else 0
  | _ => 0

/-- A hardware update of a register's word: a count goes to the register's counting field. -/
def hwApply (x : RegSpec) (w : Word) : HwUpd → Word
  | .setBits m => w ||| m
  | .clrBits m => w &&& ~~~m
  | .count n => match x.counter with | some f => countFld w f n | none => w
  | .write hi lo v => wordSet w hi lo v

/-- What is left of a software value beside a hardware update of the same cycle (R43), and whether a write was dropped: a set bit wins over its
clear; a counter's field holds the value and the events; a control bit cleared by hardware stays clear, but a start bit written 1 (`start`) starts
anew; in any other field that hardware writes, hardware wins. -/
def hwBeat (x : RegSpec) (start v : Word) : HwUpd → Word × Bool
  | .setBits m =>
    let rw := x.mask (· == .rw) &&& m
    ((v &&& ~~~(x.mask (· == .w1c) &&& m)) ||| rw, rw &&& ~~~v != 0)
  | .clrBits m => (v &&& ~~~(x.mask (· == .rw) &&& m &&& ~~~start), false)
  | .count n => match x.counter with | some f => (if f.acc == .rw then countFld v f n else v, false) | none => (v, false)
  | .write hi lo u =>
    let rw := x.mask (· == .rw) &&& BitVec.ofNat 32 (2 ^ (hi + 1) - 2 ^ lo)
    ((v &&& ~~~rw) ||| (wordSet 0 hi lo u &&& rw), rw != 0)

/-- Hardware updates that an operand names for a register. -/
def hwAt (hw : List (Nat × HwUpd)) (k : Nat) : List HwUpd := (hw.filter (fun e => e.1 == k)).map (·.2)

/-- A software write to a register's fields by their access types (R9, R38, R44). -/
def RegSpec.store (x : RegSpec) (old v : Word) : Word :=
  let rw := x.mask (· == .rw)
  (((old &&& ~~~rw) ||| (v &&& rw)) &&& ~~~(v &&& x.mask (· == .w1c))) ||| (v &&& x.mask (· == .w1s))

/-! ### What each register's write does -/

/-- Place of the field named SITE of a register that R39 covers. -/
def siteLow (b : Blk) (reg : Nat) : Option Nat :=
  match b with
  | .fcu => if reg = R.FCU_GRAN then some 0 else none
  | .link => if reg = R.LINK_OWNER then some 0 else none
  | .mill => if reg = R.MILL_OWNER then some 0 else none
  | .dramhub => if reg = R.DRAM_OWN then some 0 else none
  | .own => if reg = R.FLD_OWN ∨ reg = R.GRAN_OWN then some 0 else none
  | .guest => if reg = R.GST_MSTR then some 0 else none
  | .dbg => if reg = R.DBG_XT_OWN then some 0 else none
  | .parish => if reg = R.PAR_IN_B then some 8 else none
  | _ => none

/-- A write that stores a SITE code of 64-126 (R39). -/
def badSite (b : Blk) (reg : Nat) (v : Word) : Bool :=
  match siteLow b reg with | some lo => !siteCodeOk (natBits v.toNat (lo + 6) lo) | none => false

/-- A RATE of DDR_FSP as stored: a step of 400 MT/s from 3200 to 6400, the next below, or 3200 (R337, R340). -/
def rateStore (v : Nat) : Nat := if v < 3200 then 3200 else min 6400 (v / 400 * 400)

/-- Values that a register stores otherwise than written, as its map gives them (R168, R226, R312, R340, R390, R431, R504, R533, R549, R570-R572). -/
def normWord (b : Blk) (reg : Nat) (w : Word) : Word :=
  let x := w.toNat
  match b with
  | .stop | .spine => if reg = R.RING_RSP_TMO then BitVec.ofNat 32 (max 1 x) else w
  | .link =>
    if reg = R.LINK_FI_TX_N ∨ reg = R.LINK_FI_RX_N then wordSet w 15 0 (max 2 (x % 65536))
    else if reg = R.LINK_FI_SEED then BitVec.ofNat 32 (max 1 x) else w
  | .site => if reg = R.SITE_RST_CFG then wordSet w 9 0 (min 1000 (max 1 (x % 1024))) else w
  | .ddr =>
    if reg = R.DDR_FSP0 ∨ reg = R.DDR_FSP1 ∨ reg = R.DDR_FSP2 then wordSet w 15 0 (rateStore (x % 65536))
    else if reg = R.DDR_RH then wordSet w 15 0 (max 256 (x % 65536))
    else if reg = R.DDR_PORT then wordSet w 15 0 (max 400 (x % 65536)) else w
  | .fn => if reg = R.HOST_WEIGHT then BitVec.ofNat 32 (max 1 x) else w
  | .mgmt =>
    if reg = R.CMN_WDT then
      let h := x % 256
      wordSet (wordSet w 23 16 (max 1 (natBits x 23 16))) 7 0 (if 10 ≤ h ∧ h ≤ 160 then h else 50)
    else w
  | .cfg =>
    if reg = R.CFG_SCRUB then
      wordSet (if natBits x 29 28 = 3 then wordSet w 29 28 0 else w) 7 0 (max 10 (x % 256))
    else w
  | .mon => if reg = R.MON_CONV then wordSet w 3 0 (max 1 (x % 16)) else w
  | .clk => if reg = R.CLK_MON_CFG then wordSet w 7 0 (min 80 (max 10 (x % 256))) else w
  | .gpio =>
    if reg = R.I2C_CTRL then if natBits x 29 28 = 3 then wordSet w 29 28 0 else w
    else if reg = R.UART_CTRL then wordSet (if natBits x 29 28 = 3 then wordSet w 29 28 0 else w) 15 0 (max 1 (x % 65536))
    else w
  | _ => w

/-- Site whose interrupt controller a register's enables, routes or status feed. -/
def State.irqSite (s : State) (k : Nat) (b : Blk) (o : Nat) : Nat :=
  match b with
  | .site => instOf k 0xA00000 0x1000
  | .dramhub => if 0x200 ≤ o ∧ o < 0x400 then (o - 0x200) / 8 else 0x7F
  | .stop | .field | .gran | .mill | .link | .lane | .tally | .enc => s.regOwner k
  | .mbxep => let e := instOf k 0xD80000 0x40; if 1 ≤ e ∧ e ≤ 64 then e - 1 else 0x7F
  | _ => 0x7F

/-- A plain store by the fields' access types. -/
def State.plain (s : State) (k : Nat) (b : Blk) (spec : RegSpec) (v : Word) : State :=
  s.wr k (normWord b spec.ofs (spec.store (s.rd k) v))

/-- Write to a register of a field's control page. -/
def State.writeField (s : State) (f i : Nat) (k : Nat) (spec : RegSpec) (v : Word) : State :=
  let reg := spec.ofs
  let s' := s.plain k .field spec v
  if reg = R.FCK_APPLY then fckApply f v s
  else if reg = R.FCK_TCRIT then (s'.tcritCount (s.fieldOwner f)).stretchField f
  else if reg = R.BM_REWRITE then bmRewrite f v s
  else if reg = R.BM_FLIP_CTRL then bmFlipArm f v s
  else if reg = R.BM_REMAP then bmRemapWrite f i v s
  else if reg = R.DBG_FLD_CMD then fldCmd f v s
  else if reg = R.DBG_FLD_RB then fldCapture f v s
  else if reg = R.DBG_FLD_TRIG ∨ reg = R.DBG_FLD_TAPOUT ∨ reg = R.DBG_FLD_TAPIN then s'.xtFence f
  else s'

/-- Write to a register of a DRAM controller (R340): what only STATE OFF admits is otherwise ignored. -/
def State.writeDdr (s : State) (c : Nat) (k : Nat) (spec : RegSpec) (v : Word) : State :=
  let reg := spec.ofs
  if reg = R.DDR_FREQ then ddrFreqWrite c v s
  else if (reg = R.DDR_CTRL ∨ reg = R.DDR_FSP0 ∨ reg = R.DDR_FSP1 ∨ reg = R.DDR_FSP2) ∧ s.ddrState c ≠ 0 then s
  else s.plain k .ddr spec v

/-- Write to a register of a link's block; those of the injectors have been admitted. -/
def State.writeLink (s : State) (l : Nat) (k : Nat) (spec : RegSpec) (v : Word) : State :=
  let reg := spec.ofs
  if reg = R.LINK_CFG then linkCfgWrite l v s
  else if reg = R.LINK_OWNER then linkOwnerWrite l v s
  else if reg = R.LINK_CTRL_CMD then ctrlGo l v s
  else if reg = R.LINK_FI_TX ∨ reg = R.LINK_FI_RX then fiWrite l reg v s
  else s.plain k .link spec v

/-- Write to a register of an FCU, its granules and links' blocks. -/
def State.writeFcu (s : State) (n i : Nat) (k : Nat) (spec : RegSpec) (v : Word) : State :=
  let reg := spec.ofs
  let l := 16 * n + i
  if reg = R.FCU_CLR then fcuClr n v s
  else if reg = R.FCU_GRAN then fcuGranWrite n i v s
  else if reg = R.LR_CTRL then lrCtrlWrite l v s
  else if reg = R.LR_CFG then lrLogWrite l k (lrCfgStore v) s
  else if reg = R.LR_LOG_BASE_LO then lrLogWrite l k v s
  else if reg = R.LR_LOG_BASE_HI then lrLogWrite l k (v &&& 0xFFFF) s
  else s.plain k .fcu spec v

/-- An aperture's write (R366): EN with a BASE over the register region is ignored. -/
def State.writeAp (s : State) (f : Nat) (k : Nat) (spec : RegSpec) (v : Word) : State :=
  let a := natBits v.toNat 17 0 * 2 ^ 30
  if natBit v.toNat 31 && decide (0x1F0000000000 ≤ a) && decide (a ≤ 0x1F00FFFFFFFF) then s.setF (fnBlk f) R.HOST_FN_ERR_AP_REFUSED
  else s.plain k .fn spec v

/-- Write to a register of a bank. -/
def State.writeGpio (s : State) (g i : Nat) (k : Nat) (spec : RegSpec) (v : Word) : State :=
  let reg := spec.ofs
  let a := gpioBlk g
  let s' := s.plain k .gpio spec v
  if reg = R.IO_PIN then ioPinWrite g i v s
  else if reg = R.GPIO_SET then gpioSet g v s
  else if reg = R.GPIO_CLR then gpioClr g v s
  else if reg = R.GPIO_TGL then gpioTgl g v s
  else if reg = R.GPIO_ISTAT then s'.gpioLevels g
  else if reg = R.I2C_CMD then i2cGo g v s
  else if reg = R.SPI_CMD then spiGo g v s
  else if reg = R.SPI_BUF then if s.flag a R.SPI_STAT_BUSY then s.setF a R.SPI_STAT_REFUSED else s'
  else if reg = R.UART_TX then uartTx g v s
  else if reg = R.UART_CTRL then uartStart g s'
  else s'

/-- Write to a register of the hub's debug block: a site's bits act for its own channels only (R471). -/
def State.writeDbg (s : State) (r : Req) (k : Nat) (spec : RegSpec) (v : Word) : State :=
  let reg := spec.ofs
  if reg = R.DBG_XT_PULSE then xtPulse r v s
  else if reg = R.DBG_XT_STAT then
    s.plain k .dbg spec (BitVec.ofNat 32 (bitsVal ((List.range 16).map (fun c => natBit v.toNat c && (isMgmt r || s.xtOwner c == r.sid.toNat)))))
  else if reg = R.DBG_CORE_CMD then coreCmd v s
  else if reg = R.DBG_XT_OWN then (List.range 128).foldl (fun s f => s.xtFence f) (s.plain k .dbg spec v)
  else s.plain k .dbg spec v

/-- A doorbell register's write (R387): MBX_DBPEND follows, and bits that rise act; `was` are the bits that were up, but for those cleared by the
same write, so that one set by hardware in its cycle rises again (R44). -/
def State.writeMbxEp (s : State) (e was : Nat) (k : Nat) (spec : RegSpec) (v : Word) : State :=
  let s' := s.plain k .mbxep spec v
  if spec.ofs = R.MBX_DB ∨ spec.ofs = R.MBX_DBMASK then s'.dbRise e was 0 else s'

/-- What a write that its gate and R39 let through does, block by block: the operation of the register's own row where it has one; `was` are an
endpoint's doorbell bits that count as up before it. -/
def State.writeOp (s : State) (r : Req) (k : Nat) (b : Blk) (spec : RegSpec) (o was : Nat) (v : Word) : State :=
  let d := k / 0x1000000
  let i := (o - spec.ofs) / spec.stride
  let reg := spec.ofs
  let p := s.plain (s.seenKey r k b) b spec v
  match b with
  | .field => s.writeField (32 * (d - 1) + instOf k 0x800000 0x10000) i k spec v
  | .gran =>
    let g := 8 * (d - 1) + instOf k 0x600000 0x10000
    if reg = R.GR_REWRITE then grRewrite g v s else if reg = R.GR_FLIP_CTRL then grFlipArm g v s
    else if reg = R.GR_REMAP then grRemapWrite g i v s else p
  | .ddr => s.writeDdr (3 * (d - 1) + instOf k 0x200000 0x10000) k spec v
  | .mill => if reg = R.MILL_CTRL then millCtrl (16 * (d - 1) + instOf k 0x300000 0x10000) v s else p
  | .stop => if reg = R.RING_BELL_CTRL then
      let x := k % 0x1000000 - 0x700000
      bellCtrl (stopNo d (x / 0x8000) (x % 0x8000 / 0x200)) (k - R.RING_BELL_CTRL) v s
    else p
  | .spine => if reg = R.RING_BELL_CTRL then bellCtrl (stopNo 0 0 ((k - 0x700000) / 0x200)) (k - R.RING_BELL_CTRL) v s else p
  | .gpio => s.writeGpio (6 * (d - 1) + instOf k 0xA00000 0x1000) i k spec v
  | .link => s.writeLink (128 * (d - 5) + instOf k 0x100000 0x200) k spec v
  | .lane =>
    let l := 128 * (d - 5) + instOf k 0x400000 0x100
    if reg = R.LANE_CTRL then laneCtrlWrite l v s else if reg = R.LANE_CMD then laneCmd l (v.toNat % 16) s
    else if reg = R.LANE_TXEQ then s.wr k (txeqStore v) else p
  | .quad => if reg = R.QPLL_CTRL then qpllWrite (32 * (d - 5) + instOf k 0x500000 0x100) v s else p
  | .fcu => s.writeFcu (8 * (d - 5) + instOf k 0x600000 0x10000) i k spec v
  | .tally => if reg = R.TALLY_CTRL then tallyCtrlWrite (instOf k 0x900000 0x40) v s else p
  | .parish => if reg = R.FC_ACK then fcAck v s else if reg = R.PAR_IN_GO then parInGo i v s else p
  | .site =>
    let n := instOf k 0xA00000 0x1000
    if reg = R.SITE_CMD then siteCmd r n v s else if reg = R.SIC_EOI then sicEoi n (v.toNat % 64) s else p
  | .dramhub =>
    if reg = R.DRAM_OWN then dramOwnWrite i v s
    else if reg = R.DRAM_PORTMAP ∧ [0, 4, 8, 12].any (fun j => natBits v.toNat (j + 3) j == 15) then s else p
  | .enc =>
    let n := instOf k 0xB10000 0x40
    if reg = R.ENC_CTRL then encCtrlWrite n v s
    else if reg = R.ENC_REGION ∧ s.flag (encBlk n) R.ENC_CTRL_EN then s else p
  | .fn =>
    let f := instOf k 0xC00000 0x1000
    if reg = R.HOST_AP then s.writeAp f k spec v
    else if reg = R.HOST_EOI then if f = 0 then hostEoi (v.toNat % 256) s else s else p
  | .dma =>
    let c := instOf k 0xC80000 0x100
    if reg = R.DMA_CTRL then dmaCtrlWrite c v s else if reg = R.DMA_TAIL then dmaTailWrite c v s
    else if reg = R.DMA_RING_LO then dmaRingWrite c v s
    else if reg = R.DMA_RING_HI ∧ s.dmaEn c then s else p
  | .mbxep => s.writeMbxEp (instOf k 0xD80000 0x40) was k spec v
  | .mbxhub => if reg = R.MBX_FPBIND then fpbindWrite i v s else if reg = R.COMMONS_HB then hbWrite v s else p
  | .mgmt => if reg = R.CMN_CORE_KICK then coreKick i s else p
  | .bk => if reg = R.BK_LOG_CLR then bkLogClr v s else if reg = R.BK_RTC_CMD then rtcSetCmd v s else p
  | .dbg => s.writeDbg r k spec v
  | .cfg => if reg = R.CFG_XSPI_CMD then xspiCmd v s else p
  | .start => if reg = R.START_CMD then startCmd v s else if reg = R.PWR_CMD then pwrCmd v s else p
  | .mon => if reg = R.MON_CH then monChWrite i v s else p
  | .clk =>
    if reg = R.CLK_ROOT then clkRootWrite r v s else if reg = R.CLK_GATE then clkGateWrite i v s
    else if reg = R.CLKMON_CTRL then clkmonWrite r v s else p
  | .guest => if reg = R.GST_CTRL then gstCtrl v s else p
  | _ => p

/-! ### Pairs (R40-R42) -/

/-- Key of a pair's latch or staged half for a requester. -/
def pairKey (lo : Nat) (r : Req) : Nat := lo * 8192 + latchSlot r

/-- The low half of a counter pair is staged (R42). -/
def State.stageLo (s : State) (r : Req) (lo : Nat) (v : Word) : State :=
  { s with staged := tabPut (fun _ => none) s.staged (pairKey lo r) (some v) }

/-- A write to the high half of a counter pair takes effect with the half staged, and the events of its cycle are kept (R42, R43). -/
def State.counterHi (s : State) (r : Req) (lo : Nat) (v : Word) (events : Nat) : State :=
  let s' := { s with staged := tabPut (fun _ => none) s.staged (pairKey lo r) none }
  match tabGet (fun _ => none) s.staged (pairKey lo r) with
  | some x => s'.wr64 lo ((v.toNat * 2 ^ 32 + x.toNat + events) % 2 ^ 64)
  | none => s'.wr64 lo ((v.toNat * 2 ^ 32 + (s.rd lo).toNat + events) % 2 ^ 64)

/-- Events that an operand counts in a register. -/
def hwCount (l : List HwUpd) : Nat := l.foldl (fun a u => match u with | .count n => a + n | _ => a) 0

/-! ### One register access -/

/-- Doorbell bits of an endpoint that count as up before a write of the word `v` to its block: those pending, but for those it clears (R44). -/
def doorbellWas (s : State) (k : Nat) (b : Blk) (spec : RegSpec) (v : Word) : Nat :=
  if b == .mbxep then
    let e := instOf k 0xD80000 0x40
    if spec.ofs = R.MBX_DB then (BitVec.ofNat 32 (s.dbPend e) &&& ~~~v).toNat else s.dbPend e
  else 0

/-- A word's register write, once its gate passed: FAULT for a SITE code of 64-126 (R39), DENIED for an injector register while INJ is 0 (R224),
else the register's effect beside the hardware updates of the cycle (R43), with a dropped write recorded (R46). -/
def State.writeReg (s : State) (r : Req) (a k : Nat) (b : Blk) (spec : RegSpec) (o : Nat) (v : Word) (hw : List (Nat × HwUpd)) : Rsp × State :=
  let us := hwAt hw k
  let isFi := b == .link && decide (0xC0 ≤ o) && decide (o ≤ 0xD0)
  if badSite b spec.ofs v then (.fault, s)
  else if isFi && !s.flag (k - o) R.LINK_OWNER_INJ then (.denied, s)
  else if spec.pair = .ctrLo ∧ spec.mask (· == .rw) ≠ 0 then (.ok, (if us.isEmpty then s else s.cnt64 k (hwCount us)).stageLo r k v)
  else if spec.pair = .ctrHi ∧ spec.mask (· == .rw) ≠ 0 then (.ok, s.counterHi r (k - 4) v (hwCount (hwAt hw (k - 4))))
  else
    let was := doorbellWas s k b spec v
    let (v, drop) := us.foldl (fun (x : Word × Bool) u => let (w, d) := hwBeat spec (startBits b spec.ofs) x.1 u; (w, x.2 || d)) (v, false)
    let s := if us.isEmpty then s else s.wr k (us.foldl (hwApply spec) (s.rd k))
    let s := if drop then s.regbusDrop a r else s
    let site := s.irqSite k b o
    if b == .own && (spec.ofs == R.FLD_OWN || spec.ofs == R.GRAN_OWN) then
      let n := (s.ownStore r (spec.ofs == R.GRAN_OWN) ((o - spec.ofs) / 4) (v.toNat % 128))
      (.ok, n.2)
    else (.ok, (s.writeOp r k b spec o was v).sicEval site)

/-- A word written: its response code, and what it does. -/
def State.writeWord (s : State) (r : Req) (a : Nat) (v : Word) (hw : List (Nat × HwUpd)) : Rsp × State :=
  match s.locGate r a true with
  | .ok =>
    match locOf r a with
    | .reg k =>
      match regHere k with
      | some (b, spec, o) => s.writeReg r a k b spec o v hw
      | none => (.noTarget, s)
    | .record n rn w => (.ok, if w = 1 then recWrite n rn v s else s)
    | .tx c =>
      match s.mbxSide c r.mid.toNat with
      | some side => (.ok, s.mbxPush c side v)
      | none => (.denied, s)
    | _ => (.ok, s)
  | .denied => (.denied, s.regDenied r a true)
  | c => (c, s)

/-- A register's word read, with its side effects unless the reader leaves them out (R40, R45, R461). -/
def State.readReg (s : State) (r : Req) (k : Nat) (b : Blk) (spec : RegSpec) (o : Nat) (peek : Bool) (hw : List (Nat × HwUpd)) : Word × State :=
  let kk := s.seenKey r k b
  let w := s.view r k b spec.ofs o
  let us := hwAt hw k
  if b == .gpio && spec.ofs == R.UART_RX then
    let g := 6 * (k / 0x1000000 - 1) + instOf k 0xA00000 0x1000
    if peek then ((s.bank g).rx.headD 0, s) else s.uartPop g
  else if b == .mon && spec.ofs == R.MON_FIFO then
    let c := (o - R.MON_FIFO) / 16
    if peek then ((s.conv c).fifo.headD 0, s) else s.monPop c
  else
    let s := if peek then s else
      let rc := spec.mask (· == .rc)
      if rc = 0 then s else s.wr kk (s.rd kk &&& ~~~rc)
    let s := if us.isEmpty then s else s.wr kk (us.foldl (hwApply spec) (s.rd kk))
    match spec.pair with
    | .lo | .ctrLo =>
      let h := match regHere (k + 4) with | some (b', sp, o') => s.view r (k + 4) b' sp.ofs o' | none => 0
      (w, { s with latch := tabPut (fun _ => 0) s.latch (pairKey k r) h })
    | .hi | .ctrHi => (tabGet (fun _ => 0) s.latch (pairKey (k - 4) r), s)
    | .none => (w, s)

/-- A word of a field's readback shadow at a page offset (R477). -/
def State.shadowWord (s : State) (f o : Nat) : Word :=
  if o < 0x8000 then
    let p := (tabGet (fun _ => 0) s.dbg.p (f * 64 + (o - 0x7C00) / 8)).toNat
    BitVec.ofNat 32 (p / 2 ^ (32 * (o / 4 % 2)))
  else BitVec.ofNat 32 (bitsVal ((List.range 32).map (fun i => tabGet (fun _ => false) s.dbg.q (f * 262144 + 8 * (o - 0x8000) + i))))

/-- A word of a slot of the hub ring (R590): zero until a record arrives. -/
def State.ringWord (s : State) (j w : Nat) : Word :=
  match tabGet (fun _ => none) s.par.ring j with
  | none => 0
  | some x => BitVec.ofNat 32 (leBytes ((recBytes x).drop (4 * w) |>.take 4))

/-- A word read: its response code, its value, and what the read does. -/
def State.readWord (s : State) (r : Req) (a : Nat) (peek : Bool) (hw : List (Nat × HwUpd)) : Rsp × Word × State :=
  match s.locGate r a false with
  | .ok =>
    match locOf r a with
    | .reg k =>
      match regHere k with
      | some (b, spec, o) => (.ok, s.readReg r k b spec o peek hw)
      | none => (.noTarget, 0, s)
    | .record n rn w =>
      let s := s.clrTo n
      let x := s.fcu n
      if w = 0 then
        let v := s.recView n rn
        (.ok, v.getD 0 0, s.setFcu n { x with latch := tabPut (fun _ => []) x.latch (latchSlot r) (v.drop 1) })
      else (.ok, (tabGet (fun _ => []) x.latch (latchSlot r)).getD (w - 1) 0, s)
    | .trace p w => (.ok, BitVec.ofNat 32 ((tabGet (fun _ => 0) s.ring.trace (p * 1024 + w / 8)).toNat / 2 ^ (32 * (w % 8))), s)
    | .ring j w => (.ok, s.ringWord j w, s)
    | .shadow f o => (.ok, s.shadowWord f o, s)
    | .rx c =>
      match s.mbxSide c r.mid.toNat with
      | some side =>
        if peek then (.ok, (if side then (s.mbxQ c).toB else (s.mbxQ c).toA).headD 0, s)
        else (.ok, s.mbxPop c side)
      | none => (.denied, 0, s)
    | .tx _ => (.ok, 0, s)
    | .priv => let (x, s) := s.fresh; (.ok, BitVec.ofNat 32 x, s)
  | .denied => (.denied, 0, s.regDenied r a false)
  | c => (c, 0, s)

/-! ### Width, alignment and splitting (R35-R37) -/

/-- An access crosses the 16 MiB boundary of its die. -/
def crossesDie (a n : Nat) : Bool := decide (0x1000000 < a % 0x1000000 + n)

/-- An access is aligned and of a length that R36 admits. -/
def accessOk (r : Req) (a n : Nat) (write : Bool) : Bool :=
  !crossesDie a n &&
  (if n = 1 ∨ n = 2 then !write && a % n == 0
   else if n = 4 then a % 4 == 0
   else if n = 8 then a % 8 == 0 || (a % 4 == 0 && isPairLo r a)
   else decide (12 ≤ n) && decide (n ≤ 64) && n % 4 == 0 && a % 4 == 0)

/-- Reads of a probe's trace take 8 bytes or a multiple of 8, those of the hub ring 8 or more (R169, R590). -/
def windowOk (r : Req) (a n : Nat) : Bool :=
  match locOf r a with
  | .trace _ _ => n % 8 == 0
  | .ring _ _ => decide (8 ≤ n)
  | _ => true

/-- The parts of a split write in ascending order: the first code other than OK ends it (R37). -/
def State.writeParts (s : State) (r : Req) (hw : List (Nat × HwUpd)) : List (Nat × Word) → Rsp × State
  | [] => (.ok, s)
  | (a, v) :: t =>
    match s.writeWord r a v hw with
    | (.ok, s) => s.writeParts r hw t
    | x => x

/-- Words of a list of bytes. -/
def wordsOf (l : List Byte) : List Word := (List.range (l.length / 4)).map (fun i => BitVec.ofNat 32 (leBytes ((l.drop (4 * i)).take 4)))

/-- A write access: its code, and what it does. -/
def State.writeAccess (s : State) (r : Req) (a : Nat) (data : List Byte) (hw : List (Nat × HwUpd)) : Rsp × State :=
  if !accessOk r a data.length true then (.fault, s)
  else
    let ws := wordsOf data
    s.writeParts r hw ((List.range ws.length).map (fun i => (a + 4 * i, ws.getD i 0)))

/-- The parts of a split read: words after the first code other than OK read zero (R37). -/
def State.readParts (s : State) (r : Req) (peek : Bool) (hw : List (Nat × HwUpd)) : List Nat → Rsp × List Word × State
  | [] => (.ok, [], s)
  | a :: t =>
    match s.readWord r a peek hw with
    | (.ok, w, s) => let (c, l, s) := s.readParts r peek hw t; (c, w :: l, s)
    | (c, _, s) => (c, 0 :: t.map (fun _ => 0), s)

/-- A read access: its code, its words (of 1 or 2 bytes, those bytes alone), and what it does. -/
def State.readAccess (s : State) (r : Req) (a n : Nat) (peek : Bool) (hw : List (Nat × HwUpd)) : Rsp × List Word × State :=
  if !accessOk r a n false || !windowOk r a n then (.fault, [], s)
  else if n < 4 then
    let (c, w, s) := s.readWord r (a - a % 4) peek hw
    (c, [BitVec.ofNat 32 (w.toNat / 256 ^ (a % 4) % 256 ^ n)], s)
  else s.readParts r peek hw ((List.range (n / 4)).map (fun i => a + 4 * i))

/-- Offset in the device-register region of a ring address; the rest of the address space holds no register (R31). -/
def regionOfs (a : Nat) : Nat := if 0x1F0000000000 ≤ a ∧ a < 0x1F0100000000 then a - 0x1F0000000000 else 0x9000000

/-- An access answered, with the grants it left under way: the last of them answers it when its fill is complete (R293). -/
def State.answerOwn (s : State) (r : Req) (a before : Nat) (code : Rsp) : State :=
  let n := s.fills.length
  if n ≤ before ∨ code ≠ .ok then
    let l := s.fills.take before ++ (s.fills.drop before).map (fun (x : OwnFill) => { x with req := none })
    State.answer { s with fills := l } r (if a < 0x9000000 then a else 0) code []
  else
    let l := s.fills.take before ++
      (s.fills.drop before).mapIdx (fun i (x : OwnFill) => if before + i + 1 = n then x else { x with req := none })
    { s with fills := l }

/-- A register write access to a region offset performed and answered (R34), held back while an earlier grant of its requester is under way in
the hub (R33). -/
def State.regWriteAt (s : State) (r : Req) (o : Nat) (data : List Byte) (hw : List (Nat × HwUpd)) : State :=
  if s.deaf then s.emit (.rsp r .inReset [])
  else if s.grantWaits r o then s.holdAcc r (.write o data hw)
  else
    let (c, t) := s.writeAccess r o data hw
    t.answerOwn r o s.fills.length c

/-- A register write access to a ring address. -/
def State.regWrite (s : State) (r : Req) (a : Nat) (data : List Byte) (hw : List (Nat × HwUpd)) : State := s.regWriteAt r (regionOfs a) data hw

/-- REGISTER_WRITE (R33, R36, R43). -/
def execRegisterWrite (r : Req) (a : BitVec 48) (data : List Byte) (hw : List (Nat × HwUpd)) (s : State) :
    Host.Outcome State Fault Refusal := .next (s.regWrite r a.toNat data hw)

/-- A register read access to a region offset performed and answered (R34), after the earlier grants of its requester in the hub (R33). -/
def State.regReadAt (s : State) (r : Req) (o n : Nat) (hw : List (Nat × HwUpd)) : State :=
  if s.deaf then s.emit (.rsp r .inReset [])
  else if s.grantWaits r o then s.holdAcc r (.read o n hw)
  else
    let (c, l, t) := s.readAccess r o n (isDbg r) hw
    t.answer r (if o < 0x9000000 then o else 0) c l

/-- A register read access to a ring address. -/
def State.regRead (s : State) (r : Req) (a n : Nat) (hw : List (Nat × HwUpd)) : State := s.regReadAt r (regionOfs a) n hw

/-- RC_REGISTER_READ (R36, R45): every read of registers beside a pair's. -/
def execRcRegisterRead (r : Req) (a : BitVec 48) (len : Nat) (hw : List (Nat × HwUpd)) (s : State) :
    Host.Outcome State Fault Refusal := .next (s.regRead r a.toNat len hw)

/-- PAIR_LO_READ (R40): a read of a _LO register alone or of its pair; an address of no pair is no such command. -/
def execPairLoRead (r : Req) (a : BitVec 48) (wide : Bool) (s : State) : Host.Outcome State Fault Refusal :=
  if isPairLo r (regionOfs a.toNat) then .next (s.regRead r a.toNat (if wide then 8 else 4) []) else .next s

/-- Pair kind at a ring address. -/
def pairOf (r : Req) (a : Nat) : PairKind := match locOf r (regionOfs a) with | .reg k => pairAt k | _ => .none

/-- COUNTER_PAIR_LO_WRITE (R42). -/
def execCounterPairLoWrite (r : Req) (a : BitVec 48) (v : Word) (s : State) : Host.Outcome State Fault Refusal :=
  if pairOf r a.toNat = .ctrLo then .next (s.regWrite r a.toNat (toBytes 4 v.toNat) []) else .next s

/-- COUNTER_PAIR_HI_WRITE (R42): `events` are counted in the cycle in which it takes effect. -/
def execCounterPairHiWrite (r : Req) (a : BitVec 48) (v : Word) (events : Nat) (s : State) : Host.Outcome State Fault Refusal :=
  if pairOf r a.toNat = .ctrHi then .next (s.regWrite r a.toNat (toBytes 4 v.toNat) [(regionOfs a.toNat - 4, .count events)]) else .next s

end Sys2Proof.Machine
end

