-- ==== Sys2Proof/Machine/RingArrive.lean ====
section
/-! DEFINITION. The arrival of a flit at a junction or a consuming stop: checks, firewalls, forwarding, targets and requesters (R144-R166). -/
namespace Sys2Proof.Machine

/-! ### What a stop finds (R148, R163, R165) -/

/-- Stop whose block counts what a junction finds: its own from the spine, its position-0 block from a ring (R168). -/
def checkStop (n cur : Nat) : Nat := if stopDie n = 0 && decide (1 ≤ stopDie cur ∧ stopDie cur ≤ 4) then stopNo (stopDie cur) (stopRing cur) 0 else n

/-- The resource at an address is known at a junction to be in reset: its die, or its owner's site (R165). -/
def State.resInReset (s : State) (a dst : Nat) : Bool :=
  s.dieDown (stopDie dst) || match s.resOwner a with | some o => s.siteInReset o | none => false

/-- A target in reset (R165), or a field or DRAM in DOZE (R517). The debug window of a BM needs no running field. -/
def State.targetInReset (s : State) (n a : Nat) : Bool :=
  match regionOf a with
  | .window f _ => s.resInReset a n || s.fieldInReset f || s.pwrState == 2
  | .dram _ | .bm _ _ => s.resInReset a n || s.pwrState == 2
  | .regs _ => s.dieDown (stopDie n)
  | _ => s.resInReset a n

/-- A request refused on its way (R163, R165): answered once, at the last flit of its packet; a posted one disappears. DESIGN CHOICE: a junction's
own response travels on the lane of the request it refuses; R144 gives lanes to flits that leave a fabric ring and to those of hub stops and JG
(log entry 33). -/
def State.turnBack (s : State) (n lane : Nat) (f : Flit) (code : Nat) : State :=
  if f.last then (responses n f code []).foldl (fun s r => s.placeLane n lane 0 r) s else s

/-! ### Junctions (R144, R163) -/

/-- A flit enters a die from the spine, or crosses between its rings, and is therefore checked (R163). -/
def crosses (cur nx : Nat) : Bool :=
  decide (1 ≤ stopDie nx ∧ stopDie nx ≤ 4) && (stopDie cur == 0 || stopDie cur != stopDie nx || stopRing cur != stopRing nx)

/-- Finding of a junction's firewall: DENIED, INRESET, or 0. -/
def State.junctionCode (s : State) (cur nx : Nat) (f : Flit) : Nat :=
  if f.rsp || !crosses cur nx then 0
  else if !s.ownerPasses f.sid f.addr then 3
  else if s.resInReset f.addr f.dst then 4 else 0

/-- Bell flits of a ring direction or lane that wait at a stop. -/
def State.bellWaiting (s : State) (n port : Nat) : Nat :=
  (s.ring.wait.filter (fun x => x.cur == n && x.port == port && x.flit.cls == 0)).length

/-- A flit that goes on from a junction or a bridge waits at its output; a Bell flit that finds the 32 places of its Bell queue full is discarded
and counted at the point that found it (R152, R155). -/
def State.sendOn (s : State) (n at_ lane port : Nat) (f : Flit) : State :=
  if f.cls = 0 && decide (32 ≤ s.bellWaiting n port) then s.stopEvt at_ R.RING_STAT_BELL_DROP (some R.RING_BELL_DROP_CNT)
  else s.placeLane n lane port f

/-- A junction refuses a flit or sends it on. -/
def State.junctionFlit (s : State) (n cur lane port : Nat) (f : Flit) : State :=
  let c := s.junctionCode cur (nextHop n f.dst) f
  if c = 0 then s.sendOn n (checkStop n cur) lane port f
  else
    let s := if c = 3 then s.stopEvt (checkStop n cur) R.RING_STAT_DENY (some R.RING_DENY_CNT) else s
    s.turnBack n lane f c

/-! ### Targets -/

/-- Requester of a flit. -/
def Flit.req (f : Flit) : Req := ⟨BitVec.ofNat 12 f.mid, BitVec.ofNat 7 f.sid⟩

/-- Write data of a flit: the bytes from ADDR[5:0]. -/
def Flit.bytes (f : Flit) : List Byte := toBytes (f.len + 1) (f.data / 2 ^ (8 * (f.addr % 64)))

/-- A register access that a flit brings (R33, R144): performed and answered; a grant is answered when its fill is done, and what comes from the
same requester after it waits. -/
def State.regFlit (s : State) (n : Nat) (f : Flit) (o : Nat) : State :=
  let r := f.req
  if s.grantWaits r o then s.holdAcc r (.flit n o f)
  else if opIsRead f.op then
    let (c, l, s) := s.readAccess r o (f.len + 1) (isDbg r) []
    let s := if c == .fault then s.regbusFault (o / 0x1000000) r else s
    let x := l.zipIdx.foldl (fun (a : Nat) (e : Word × Nat) => a + e.1.toNat * 2 ^ (32 * e.2)) 0
    s.respond n f (codeNo c) [x * 2 ^ (8 * (f.addr % 64))]
  else
    let before := s.fills.length
    let (c, s) := s.writeAccess r o f.bytes []
    let s := if c == .fault then s.regbusFault (o / 0x1000000) r else s
    let waits := c == .ok && decide (before < s.fills.length) && f.op == 3
    let m := s.fills.length
    let l := s.fills.take before ++ (s.fills.drop before).mapIdx (fun i (x : OwnFill) =>
      if waits && before + i + 1 == m then x else { x with req := none })
    let s := { s with fills := l }
    if waits then s.setStop n { s.stopSt n with inq := (s.stopSt n).inq ++ [f] } else s.respond n f (codeNo c) []

/-- An access that waited for its requester's grant takes effect (R33). -/
def State.runAcc (s : State) (r : Req) : HubAcc → State
  | .write a data hw => s.regWriteAt r a data hw
  | .read a n hw => s.regReadAt r a n hw
  | .flit n o f => s.regFlit n f o

/-- GRANT_FILL_DONE (R293): the oldest grant takes effect, and then what its requester asked of the hub after it (R33). -/
def execGrantFillDone (s : State) : Host.Outcome State Fault Refusal :=
  match s.fills with
  | { req := some r, later := l, .. } :: _ => .next (l.foldl (fun s x => s.runAcc r x) (grantFillDone s))
  | _ => .next (grantFillDone s)

/-- A ring request to a granary (R118, R122): quarters with their byte enables, queued at ring port 0. DEDUCED: an access of Commons or of the
debug bus master is a debug access, as at the window of a BM (R136, R137, log entry 34). -/
def State.granFlit (s : State) (f : Flit) (g o : Nat) : State :=
  let lo := f.addr % 64
  let q0 := lo / 16
  let n := (lo + f.len) / 16 - q0 + 1
  let be := (2 ^ (f.len + 1) - 1) * 2 ^ lo
  let beats := (List.range n).map (fun i =>
    (BitVec.ofNat 128 (f.data / 2 ^ (128 * (q0 + i))), BitVec.ofNat 16 (be / 2 ^ (16 * (q0 + i)))))
  let q : GrReq := { wr := !opIsRead f.op, qaddr := o / 16, n := n, tag := f.tag, beats := if opIsRead f.op then [] else beats, flit := f }
  s.setGrSt g ((s.grSt g).push (if isCommons f.req || isDbg f.req then 5 else 0) q)

/-- A ring request to the debug window of a BM (R136). DESIGN CHOICE: one that is no aligned access of 4 or 8 bytes is answered FAULT (log
entry 10). -/
def State.bmFlit (s : State) (n : Nat) (f : Flit) (i o : Nat) : State :=
  let whole := f.len == 7 && o % 8 == 0
  if !(whole || (f.len == 3 && o % 4 == 0)) then (s.regbusFault (stopDie n) f.req).respond n f 1 []
  else
    let v := BitVec.ofNat 64 (leBytes f.bytes)
    let (c, l, s) := s.bmDebugRun f.req (i / 96) (i % 96) (o / 8) (if whole then none else some (o % 8 == 4)) (if opIsRead f.op then none else some v)
    let x := l.zipIdx.foldl (fun (a : Nat) (e : Word × Nat) => a + e.1.toNat * 2 ^ (32 * e.2)) 0
    s.respond n f (codeNo c) [x * 2 ^ (8 * (f.addr % 64))]

/-- A request for an agent that answers by commands of its own: its flits are handed over once the packet is whole, one poisoned among them
answered instead (R148). A READ or a WRITE waits there for its answer; a posted write waits only at a halted field (R479). -/
def State.agentFlit (s : State) (n : Nat) (f : Flit) : State :=
  let x := s.stopSt n
  let same := x.inq.filter (fun q => samePacket q f && !q.last)
  let pk := same.drop (same.length - f.idx) ++ [f]
  let halted := match fieldOfStop n with | some d => s.fieldHalted d | none => false
  if !f.last then s.setStop n { x with inq := x.inq ++ [f] }
  else if pk.any (fun q => q.code == 5) then
    (s.setStop n { x with inq := x.inq.filter (fun q => !pk.contains q) }).respond n f 5 []
  else
    let s := if opAnswered f.op || halted then s.setStop n { x with inq := x.inq ++ [f] }
      else s.setStop n { x with inq := x.inq.filter (fun q => !pk.contains q) }
    pk.foldl (fun s q => s.emit (.ringIn n q)) s

/-- A Bell flit for a field reaches its design as a WRITE_P (R167). DEDUCED: the field's stop then answers a Bell WRITE itself (log entry 33). -/
def State.fieldBell (s : State) (n : Nat) (f : Flit) : State :=
  if f.code = 5 then s.respond n f 5 []
  else
    let s := s.agentFlit n { f with op := 4 }
    if f.op = 3 then s.respond n f 0 [] else s

/-- A target serves a request that its checks let through. -/
def State.serve (s : State) (n : Nat) (f : Flit) : State :=
  match regionOf f.addr with
  | .dram _ => s.agentFlit n f
  | .window _ _ => if f.cls = 0 then s.fieldBell n f else s.agentFlit n f
  | .regs o => if f.code = 5 then s.respond n f 5 [] else s.regFlit n f o
  | .gran g o => if f.code = 5 then s.respond n f 5 [] else s.granFlit f g o
  | .bm i o => if f.code = 5 then s.respond n f 5 [] else s.bmFlit n f i o
  | .guest _ => if f.code = 5 then s.respond n f 5 [] else s.guestTarget f
  | .undecoded => s

/-- The Bell queues of a target, one for each ring direction or spine lane it receives from (R152): the consumer has taken the oldest `drained`
flits, this one included where it reaches so far; a flit that finds 32 waiting in its queue is discarded and counted. -/
def State.bellFlit (s : State) (n port drained : Nat) (f : Flit) : State :=
  let q := (s.stopSt n).bellQ
  let rest := q.drop drained
  let s := s.setStop n { s.stopSt n with bellQ := rest }
  let s := (q.take drained).foldl (fun s x => s.serve n x.2) s
  if q.length < drained then s.serve n f
  else if 32 ≤ (rest.filter (fun x => x.1 == port)).length then s.stopEvt n R.RING_STAT_BELL_DROP (some R.RING_BELL_DROP_CNT)
  else s.setStop n { s.stopSt n with bellQ := rest ++ [(port, f)] }

/-- A request at its target stop (R163, R165): owner, MID windows, reset, then served. -/
def State.target (s : State) (n port drained : Nat) (f : Flit) : State :=
  let b := (stopRegs n).getD 0
  if !(s.ownerPasses f.sid f.addr && s.midPasses b f.mid f.op f.cls) then
    (s.stopEvt n R.RING_STAT_DENY (some R.RING_DENY_CNT)).turnBack n (laneOf n f.src) f 3
  else if s.targetInReset n f.addr then s.turnBack n (laneOf n f.src) f 4
  else if f.cls = 0 then s.bellFlit n port drained f
  else s.serve n f

/-! ### Requesters (R148, R149, R166) -/

/-- Response data of an outstanding request with one more flit; a poisoned one is marked by bit 512. -/
def gotFlit (p : Pend) (f : Flit) : List Nat := p.got ++ [if f.code = 0 then f.data else 2 ^ 512]

/-- Code of a whole response: that of a single flit, or POISONED where a flit of four arrived poisoned. -/
def gotCode (l : List Nat) (f : Flit) : Nat := if f.code ≠ 0 then f.code else if l.any (fun x => decide (2 ^ 512 ≤ x)) then 5 else 0

/-- A response answers a request issued before a reset of its requester's stop, which cleared it; after RSP_TMO none is awaited (R149, R166). -/
def State.staleFor (s : State) (n : Nat) (f : Flit) : Option Pend :=
  (s.stopSt n).stale.find? (fun p => p.mid == f.mid && p.tag == f.tag && p.addr == f.addr && decide (s.now < p.time + s.rspTmo n))

/-- A response at its requester's stop: discarded in reset, and after it where it answers a request from before; late without an outstanding
request, else it completes that request with its last flit; a Bell WRITE lets the next Bell packet in 40 ns later (R149, R157, R166). -/
def State.requester (s : State) (n : Nat) (f : Flit) : State :=
  if s.stopInReset n then s.stopEvt n R.RING_STAT_RST_DROP (some R.RING_RST_DROP_CNT)
  else
    let x := s.stopSt n
    match s.staleFor n f with
    | some p =>
      (s.setStop n (if f.last then { x with stale := x.stale.erase p } else x)).stopEvt n R.RING_STAT_RST_DROP (some R.RING_RST_DROP_CNT)
    | none =>
    match x.out.find? (fun p => p.mid == f.mid && p.tag == f.tag) with
    | none => s.stopEvt n R.RING_STAT_LATE (some R.RING_LATE_CNT)
    | some p =>
      let l := gotFlit p f
      if !f.last then s.setStop n { x with out := x.out.map (fun y => if y == p then { p with got := l } else y) }
      else
        let c := gotCode l f
        let s := if f.cls = 0 then s.setStop n { x with bellFrom := s.now + 40, bellWait := false } else s
        if n = jgStop then
          let y := s.stopSt n
          (s.setStop n { y with out := y.out.erase p }).guestResponse f
        else s.complete n p c (if c = 0 then l else [])

/-- A response flit of a burst for a guest passes on as it comes. -/
def State.response (s : State) (n : Nat) (f : Flit) : State :=
  if n = jgStop && !f.last then s.guestResponse f else s.requester n f

/-! ### Arrival -/

/-- The flit's checks (R148), counted at the stop that makes them, and in the Kelk-S bundle that delivered it (R556). -/
def State.flitChecks (s : State) (at_ : Nat) (ce bad : Bool) (bundle : Option Nat) : State :=
  let s := if ce then s.stopEvt at_ R.RING_STAT_HDR_CE (some R.RING_HDR_CE_CNT) else s
  if bad then
    let s := s.stopEvt at_ R.RING_STAT_CRC_ERR (some R.RING_CRC_CNT)
    match bundle with | some b => s.kelkSErr b | none => s
  else s

/-- An earlier flit of the same class, virtual channel, source and destination still waits at the same point (R145). -/
def State.behind (s : State) (i : Nat) (x : Flight) : Bool :=
  let f := x.flit
  (s.ring.flight.take i).any (fun y =>
    let g := y.flit
    y.cur == x.cur && g.cls == f.cls && g.rsp == f.rsp && g.src == f.src && g.dst == f.dst)

/-- A flit leaves its slot, which travels on from the stop it has reached (R153). -/
def State.takeFlight (s : State) (i : Nat) (x : Flight) : State :=
  let n := nextHop x.cur x.flit.dst
  State.ringPump { s with ring := { s.ring with flight := s.ring.flight.eraseIdx i } } x.link (downPos x.link (linkPos x.link n) 1)

/-- A bridge sends a flit on between its ring and its T die, with the bits it has (R141, R148). -/
def State.bridgeFlit (s : State) (n : Nat) (x : Flight) (raw : Nat) : State :=
  let f := x.flit
  if f.cls = 0 && decide (32 ≤ s.bellWaiting n x.link) then s.stopEvt n R.RING_STAT_BELL_DROP (some R.RING_BELL_DROP_CNT)
  else
    let k := linkOf n (nextHop n f.dst) x.lane
    State.ringPump { s with ring := { s.ring with
      wait := s.ring.wait ++ [{ cur := n, lane := x.lane, link := k, port := x.link, since := s.now, raw := BitVec.ofNat 656 raw }] } } k (linkPos k n)

/-- Flit `i` on its way reaches its next point with the bits of `flips` in error. -/
def ringArrive (i flips : Nat) (bundle : Option Nat) (drained : Nat) (s : State) : State :=
  match s.ring.flight[i]? with
  | none => s
  | some x =>
    let dst := x.flit.dst
    let n := nextHop x.cur dst
    let raw := x.raw.toNat ^^^ flips
    if s.deaf || s.behind i x then s
    else if isBridge n then (s.takeFlight i x).bridgeFlit n x raw
    else
      let at_ := checkStop n x.cur
      match flitCheck raw with
      | none => (s.takeFlight i x).stopEvt at_ R.RING_STAT_HDR_DROP (some R.RING_HDR_DROP_CNT)
      | some (g, ce, bad) =>
        let f := if bad then { g with code := 5, data := 0 } else g
        let s := (s.takeFlight i x).flitChecks at_ ce bad bundle
        let s := if stopDie n = 0 then s.probe n (portOf x.cur x.lane) false bad f else s
        if n ≠ f.dst then s.junctionFlit n x.cur x.lane x.link f
        else if f.rsp then s.response n f
        else s.target n x.link drained f

/-- The link layer whose DATA frame a flit belongs to learns what the rings have taken (R252). -/
def State.rxCredit (s : State) (i : Option Nat) : State :=
  match i with
  | some m => if 0x200 ≤ m ∧ m < 0x400 then s.rxSettle (m - 0x200) else s
  | none => s

/-- RING_FLIT_ARRIVE (R144-R166): `i` its index among the flits on their way, `flips` the bits that arrive wrong, `bundle` the Kelk-S bundle it
crossed, `drained` what the target's consumer has taken from its Bell queue. -/
def execRingFlitArrive (i : Nat) (flips : BitVec 656) (bundle : Option (Fin 160)) (drained : Nat) (s : State) :
    Host.Outcome State Fault Refusal :=
  .next ((ringArrive i flips.toNat (bundle.map (·.val)) drained s).rxCredit ((s.ring.flight[i]?).map (fun x => x.flit.mid)))

end Sys2Proof.Machine
end

