-- ==== Sys2Proof/Machine/Bar.lean ====
section
/-! DEFINITION. Host accesses through the BARs of a function: the register window, the apertures and the MSI-X table (R364-R370). -/
namespace Sys2Proof.Machine

/-- MID and SID of a function's BAR accesses (R367). -/
def fnReq (f : Nat) : Req := if f = 0 then ⟨0x20, 0x7F⟩ else ⟨BitVec.ofNat 12 (0x40 + (f - 1)), BitVec.ofNat 7 (f - 1)⟩

/-- Ring address at an offset of BAR0 or BAR2 of a function, where there is one (R365, R366). -/
def State.barAddr (s : State) (f bar o : Nat) : Option Nat :=
  if bar = 0 then if o < 0x9000000 then some (0x1F0000000000 + o) else none
  else
    let i := o / 2 ^ 30
    let b := fnBlk f + 4 * i
    if decide (i < if f = 0 then 16 else 4) && s.flag b R.HOST_AP_EN then some (s.rf b R.HOST_AP_BASE * 2 ^ 30 + o % 2 ^ 30) else none

/-- Bytes of the piece of an aperture TLP at an offset (R366): an aligned burst to DRAM or a field window, else within a line. -/
def State.barPiece (s : State) (f o left : Nat) : Nat :=
  let burst := match (s.barAddr f 1 o).map regionOf with | some (.dram _) => true | some (.window _ _) => true | _ => false
  if burst && o % 256 == 0 && decide (256 ≤ left) then 256 else min (64 - o % 64) left

/-- The pieces of an aperture TLP in address order: offset and length (R366). The first argument bounds their number. -/
def State.barPieces (s : State) (f : Nat) : Nat → Nat → Nat → List (Nat × Nat)
  | 0, _, _ => []
  | k + 1, o, left =>
    if left = 0 then [] else let n := s.barPiece f o left; (o, n) :: s.barPieces f k (o + n) (left - n)

/-- Code of a piece that its source stop or a firewall refuses (R161, R163, R165), else that which its target answered. -/
def State.pieceCode (s : State) (r : Req) (a : Nat) (write : Bool) (got : Rsp) : Rsp :=
  if natBit s.kelk.unreach (s.ringDie a) then .noTarget
  else match s.ringDst a 0 with
  | none => .noTarget
  | some d =>
    if !s.ownerPasses r.sid.toNat a then .denied else if s.resInReset a d then .inReset
    else if !s.midPasses ((stopRegs d).getD 0) r.mid.toNat (if write then 3 else 1) 1 then .denied else got

/-- The ring request of a piece. -/
def pieceReq (r : Req) (a n : Nat) (data : Option (List Byte)) : RingReq :=
  let lines (l : List Byte) : List (BitVec 512) := (List.range ((n + 63) / 64)).map (fun i =>
    BitVec.ofNat 512 (leBytes ((l.drop (64 * i)).take 64) * (if n = 256 then 1 else 2 ^ (8 * (a % 64)))))
  { r := r, op := (match data with | none => if n = 256 then 2 else 1 | some _ => 3), cls := 1, len := BitVec.ofNat 6 (n - 1),
    tag := BitVec.ofNat 8 (a / 64), addr := BitVec.ofNat 48 a, data := (match data with | none => [] | some l => lines l) }

/-! ### Reads (R368) -/

/-- One piece of an aperture read: its code and bytes, those of the operand where the target answers. -/
def State.barReadPiece (s : State) (f o n : Nat) (got : Rsp × List Byte) : Rsp × List Byte × State :=
  match s.barAddr f 1 o with
  | none => (.noTarget, [], s)
  | some a =>
    let r := fnReq f
    match s.pieceCode r a false got.1 with
    | .noTarget => (.noTarget, [], s)
    | c => (c, toBytes n (leBytes got.2), ringInject (pieceReq r a n none) s)

/-- The pieces of an aperture read: the first code other than OK, and the bytes. -/
def State.barReads (s : State) (f : Nat) : List (Nat × Nat) → List (Rsp × List Byte) → Rsp × List Byte × State
  | [], _ => (.ok, [], s)
  | (o, n) :: t, res =>
    let (c, b, s) := s.barReadPiece f o n (res.headD (.ok, []))
    let (c', b', s) := s.barReads f t (res.drop 1)
    (if c = .ok then c' else c, b ++ b', s)

/-- Bytes of words, of a part of one where fewer than 4 are asked for. -/
def wordBytes (n : Nat) (l : List Word) : List Byte := (l.flatMap (fun w => toBytes 4 w.toNat)).take n

/-- Die whose REGBUS block counts a FAULT of an access to a region offset: the hub's where it decodes to no die (R46). -/
def regDie (o : Nat) : Nat := if o < 0x9000000 then o / 0x1000000 else 0

/-- A BAR0 read (R365): one register access. -/
def State.bar0Read (s : State) (f o n : Nat) : Rsp × List Byte × State :=
  let r := fnReq f
  if 64 < n then (.fault, [], s.regbusFault (regDie o) r)
  else if 0x9000000 ≤ o then (.noTarget, [], s)
  else
    let (c, l, s) := s.readAccess r o n false []
    (c, wordBytes n l, if c == .fault then s.regbusFault (o / 0x1000000) r else s)

/-- A read's completion toward the host (R368): the code of the first piece not OK, kept in RCODE; a poisoned one carries zeros. -/
def State.barCpl (s : State) (f n : Nat) (c : Rsp) (l : List Byte) : State :=
  let b := fnBlk f
  let s := if c = .ok then s else (s.setF b R.HOST_FN_ERR_RERR).wf b R.HOST_FN_ERR_RCODE (codeNo c)
  s.emit (.hostCpl f c (match c with | .ok => l.map (·.toNat) | .poisoned => List.replicate n 0 | _ => []))

/-! ### The MSI-X table (R364) -/

/-- Vectors of a function. -/
def fnVectors (f : Nat) : Nat := if f = 0 then 256 else 64

/-- A word of BAR4 (R364; PRESUMED the PCIe layout, assumption 8): an entry's address, data and control, and from 0x8000 the pending bits. -/
def State.msixWord (s : State) (f o : Nat) : Nat :=
  let v := o % 0x8000 / 16
  if 0x8000 ≤ o then
    let i := (o - 0x8000) / 4
    if i < fnVectors f / 32 then bitsVal ((List.range 32).map (fun j => tabGet (fun _ => false) s.pcie.msixPend (f * 256 + 32 * i + j))) else 0
  else if fnVectors f ≤ v then 0
  else if o % 16 / 4 = 3 then b2n (!tabGet (fun _ => false) s.pcie.msixUnmask (f * 256 + v))
  else (tabGet (fun _ => 0) s.pcie.msixTab (f * 1024 + 4 * v + o % 16 / 4)).toNat

/-- A word of the MSI-X table written: an entry unmasked issues its pending message (R301). -/
def msixPut (f o w : Nat) (s : State) : State :=
  let v := o / 16
  if fnVectors f ≤ v ∨ 0x8000 ≤ o then s
  else if o % 16 / 4 = 3 then
    if w % 2 = 0 then msixUnmask f v s
    else { s with pcie := { s.pcie with msixUnmask := tabPut (fun _ => false) s.pcie.msixUnmask (f * 256 + v) false } }
  else { s with pcie := { s.pcie with msixTab := tabPut (fun _ => 0) s.pcie.msixTab (f * 1024 + 4 * v + o % 16 / 4) (BitVec.ofNat 32 w) } }

/-- A host read completes (R368); none exists while the link is down (R371). -/
def barRead (f bar o n : Nat) (res : List (Rsp × List Byte)) (s : State) : State :=
  if s.deaf || !s.pcie.linkUp then s
  else
    let s := s.fnHere f
    if bar = 2 then
      let l := (List.range ((o % 4 + n + 3) / 4)).flatMap (fun i => toBytes 4 (s.msixWord f (o - o % 4 + 4 * i)))
      s.barCpl f n .ok ((l.drop (o % 4)).take n)
    else
      let (c, l, s) := if bar = 0 then s.bar0Read f o n else s.barReads f (s.barPieces f n o n) res
      s.barCpl f n c l

/-- BAR_READ (R368): BAR0, BAR2 or BAR4 (0, 1, 2) of PF0 or a VF; `res` is what the targets of an aperture's pieces answer, in order. -/
def execBarRead (f : Fin 65) (bar : Fin 3) (ofs : BitVec 40) (len : Fin 4097) (res : List (Rsp × List Byte)) (s : State) :
    Host.Outcome State Fault Refusal := .next (barRead f.val bar.val ofs.toNat len.val res s)

/-! ### Writes (R369) -/

/-- A write piece that failed (R369): counted, and the first captured, by ring address or by offset in its BAR. -/
def State.werr (s : State) (f bar o : Nat) (a : Option Nat) (c : Rsp) : State :=
  let b := fnBlk f
  let first := !s.flag b R.HOST_FN_ERR_WERR
  let s := (s.setF b R.HOST_FN_ERR_WERR).cnt (b + R.HOST_FN_WERR_CNT) 1
  if !first then s
  else
    let s := (s.wf b R.HOST_FN_ERR_WCODE (codeNo c)).wf b R.HOST_FN_ERR_WOFS (b2n a.isNone)
    let s := if a.isNone then s.wf b R.HOST_FN_ERR_WBAR bar else s
    s.wr64 (b + R.HOST_FN_WADDR_LO) (a.getD o)

/-- One piece of an aperture write. -/
def State.barWritePiece (s : State) (f o : Nat) (data : List Byte) (got : Rsp) : State :=
  match s.barAddr f 1 o with
  | none => s.werr f 1 o none .noTarget
  | some a =>
    let r := fnReq f
    let c := s.pieceCode r a true got
    let s := if c = .noTarget then s else ringInject (pieceReq r a data.length (some data)) s
    if c = .ok then s else s.werr f 1 o (some a) c

/-- The pieces of an aperture write, each performed whatever the one before it returned (R369). -/
def State.barWrites (s : State) (f base : Nat) (data : List Byte) : List (Nat × Nat) → List Rsp → State
  | [], _ => s
  | (o, n) :: t, res => (s.barWritePiece f o ((data.drop (o - base)).take n) (res.headD .ok)).barWrites f base data t (res.drop 1)

/-- A BAR0 write (R365, R369): one register access, posted, so that a grant is not waited for. -/
def State.bar0Write (s : State) (f o : Nat) (data : List Byte) : State :=
  let r := fnReq f
  let a := 0x1F0000000000 + o
  if 64 < data.length then (s.regbusFault (regDie o) r).werr f 0 o (if o < 0x9000000 then some a else none) .fault
  else if 0x9000000 ≤ o then s.werr f 0 o none .noTarget
  else
    let before := s.fills.length
    let (c, s) := s.writeAccess r o data []
    let s := if c == .fault then s.regbusFault (o / 0x1000000) r else s
    let l := s.fills.take before ++ (s.fills.drop before).map (fun (x : OwnFill) => { x with req := none })
    let s := { s with fills := l }
    if c = .ok then s else s.werr f 0 o (some a) c

/-- A host write (R369); none exists while the link is down (R371). -/
def barWrite (f bar o : Nat) (data : List Byte) (res : List Rsp) (s : State) : State :=
  if s.deaf || !s.pcie.linkUp then s
  else
    let s := s.fnHere f
    if bar = 2 then
      if o % 4 = 0 ∧ data.length % 4 = 0 then
        (wordsOf data).zipIdx.foldl (fun s (e : Word × Nat) => msixPut f (o + 4 * e.2) e.1.toNat s) s
      else s
    else if bar = 0 then s.bar0Write f o data
    else s.barWrites f o data (s.barPieces f data.length o data.length) res

/-- BAR_WRITE (R369): `res` is what the targets of an aperture's pieces answer, in order. -/
def execBarWrite (f : Fin 65) (bar : Fin 3) (ofs : BitVec 40) (data : List Byte) (res : List Rsp) (s : State) :
    Host.Outcome State Fault Refusal := .next (barWrite f.val bar.val ofs.toNat data res s)

end Sys2Proof.Machine
end

