-- ==== Sys2Proof/Machine/CmdTest.lean ====
section
/-! DEFINITION. Commons commands of the groups LINK, FCU, TALLY, MILL and DRAM (R406-R410). -/
namespace Sys2Proof.Machine

/-! ### LINK (R406) -/

/-- Checks every command on a link makes: its owner, and its die. -/
def State.linkArg (s : State) (q : CmdReq) : List (Bool × Nat × Nat) :=
  let l := q.w 1 % 512
  s.ownArg q (s.linkOwner l) ++ s.dieArg (5 + l / 128)

/-- W2 of LINK UP and LINK EQ: reserved bits, and PRE and POST in range (R184). -/
def CmdReq.eqArg (q : CmdReq) : List (Bool × Nat × Nat) :=
  [q.rsv 2 0x801F0F07, (decide (10 < natBits (q.w 2) 11 8) || decide (20 < natBits (q.w 2) 20 16), 6, 2)]

/-- Equalisation of a lane as W2 gives it. -/
def State.setEq (s : State) (l w : Nat) : State :=
  State.wf (s.wr (laneBlk l + R.LANE_TXEQ) (txeqStore (BitVec.ofNat 32 w))) (laneBlk l) R.LANE_RXEQ_FREEZE (natBits w 31 31)

/-- UP: the PLL, the equalisation, then LANE_CTRL with EN = 1. A lane whose own PLL setting must change is taken through OFF first. The search
of R182 that follows consists of writes to LANE_CMD, which are commands of their own. -/
def linkUp (q : CmdReq) (s : State) : Ans × State :=
  let w := q.w 1
  let l := w % 512
  let mode := natBits w 10 9
  let pll := natBit w 11
  let n := natBits w 31 16
  let k := quadOf l
  let raw := (mode == 1 || mode == 2) && (!s.lrOn l R.LR_CTRL_PORT_EN || s.fieldOwner (s.portField l) != s.linkOwner l)
  let other := (List.range 4).any (fun i =>
    let m := 4 * k + i
    m != l && s.laneState m != 0 && s.flag (laneBlk m) R.LANE_CTRL_PLL == pll)
  let on := s.flag (quadBlk k) (if pll then R.QPLL_CTRL_EN1 else R.QPLL_CTRL_EN0)
  let change := s.pllN k pll != n || !on
  let ctrl := 2 ^ 31 + mode * 2 ^ 29 + b2n pll * 2 ^ 28 + natBits w 13 12 * 2 ^ 26
  let own := b2n (s.laneState l != 0 && s.fastCfg l (s.rd (laneBlk l + R.LANE_CTRL)).toNat)
  let fast := b2n (decide (160 * 2 ^ natBits w 13 12 < n))
  checked (s.linkArg q ++ [q.rsv 1 0xFFFF3FFF] ++ q.eqArg ++ [(decide (n < 160) || decide (320 < n), 6, 1), (raw, 7, 0),
      (decide (s.laneCap < s.fastLanes - own + fast) && decide (own < fast), 12, s.fastLanes), (change && other, 13, 0)]) s
    (let s := if change then
        let s := if s.laneState l != 0 && s.flag (laneBlk l) R.LANE_CTRL_PLL == pll then
            laneCtrlWrite l (s.rd (laneBlk l + R.LANE_CTRL) &&& 0x7FFFFFFF) s else s
        let o := (s.rd (quadBlk k + R.QPLL_CTRL)).toNat
        qpllWrite k (BitVec.ofNat 32 (if pll then natSet (natSet o 24 16 n) 31 31 1 else natSet (natSet o 8 0 n) 15 15 1)) s
      else s
     let s := laneCtrlWrite l (BitVec.ofNat 32 ctrl) (s.setEq l (q.w 2))
     (.done 0 0 [s.rd (laneBlk l + R.LANE_STAT)], s))

/-- LINK_UP. -/
def execLinkUp (c : Fin 128) (s : State) : Host.Outcome State Fault Refusal := .next (s.runCmd c 4 1 linkUp)

/-- LINK_DOWN: EN to 0; the channel grant stays (R204). -/
def execLinkDown (c : Fin 128) (s : State) : Host.Outcome State Fault Refusal :=
  .next (s.runCmd c 4 2 (fun q s =>
    let l := q.w 1 % 512
    checked (s.linkArg q ++ [q.rsv 1 0x1FF]) s (.ok, laneCtrlWrite l (s.rd (laneBlk l + R.LANE_CTRL) &&& 0x7FFFFFFF) s)))

/-- LINK_STATUS. -/
def execLinkStatus (c : Fin 128) (s : State) : Host.Outcome State Fault Refusal :=
  .next (s.runCmd c 4 3 (fun q s =>
    let l := q.w 1 % 512
    checked (s.linkArg q ++ [q.rsv 1 0x1FF]) s
      (.done 0 0 [s.rd (laneBlk l + R.LANE_STAT), s.rd (linkBlk l + R.LINK_STAT), s.rd (linkBlk l + R.LINK_HELLO), s.rd (laneBlk l + R.LANE_EYE)], s)))

/-- LINK_EQ. -/
def execLinkEq (c : Fin 128) (s : State) : Host.Outcome State Fault Refusal :=
  .next (s.runCmd c 4 4 (fun q s => checked (s.linkArg q ++ [q.rsv 1 0x1FF] ++ q.eqArg) s (.ok, s.setEq (q.w 1 % 512) (q.w 2))))

/-! ### FCU (R407) -/

/-- ROUTE: the binding of a port must be to a free one of a field the link's owner owns (R249), Mill forwarding to an engine it owns. -/
def fcuRoute (q : CmdReq) (s : State) : Ans × State :=
  let l := q.w 1 % 512
  let v := q.w 2
  let o := s.linkOwner l
  let d := l / 128
  let bound := natBit v 23
  let taken := bound && (List.range 128).any (fun i =>
    let m := 128 * d + i
    m != l && s.lrOn m R.LR_CTRL_PORT_EN && s.lrF m R.LR_CTRL_PORT_FIELD == natBits v 22 21 && s.lrF m R.LR_CTRL_PORT == natBits v 20 16)
  checked (s.linkArg q ++ [q.rsv 1 0x1FF, (natBits v 15 4 != 0, 6, 2), (taken, 13, 0),
      (bound && s.fieldOwner (32 * d + 8 * natBits v 22 21) != o, 11, 0), (natBit v 29 && s.millOwner (16 * d + v % 16) != o, 11, 0)]) s
    (let s := lrCtrlWrite l (BitVec.ofNat 32 v) s
     (.done 0 0 [s.rd (lrBlk l + R.LR_CTRL)], s))

/-- FCU_ROUTE. -/
def execFcuRoute (c : Fin 128) (s : State) : Host.Outcome State Fault Refusal := .next (s.runCmd c 5 1 fcuRoute)

/-- A field window of a field of owner `o` (R160). -/
def State.windowOf (s : State) (a o : Nat) : Bool := match regionOf a with | .window f _ => s.fieldOwner f == o | _ => false

/-- ADDR. -/
def fcuAddr (q : CmdReq) (s : State) : Ans × State :=
  let w := q.w 1
  let l := w % 512
  let which := natBits w 11 9
  let size := natBits w 21 16
  let a := q.w 2 + q.w 3 * 2 ^ 32
  let o := s.linkOwner l
  let b := lrBlk l
  let good := if which < 3 then s.windowOf a o else a % 2 ^ size == 0 && s.dramHeld a (2 ^ size) o
  let pair (lo : Nat) (s : State) : State := s.wr64 (b + lo) a
  checked (s.linkArg q ++ [q.rsv 1 0x3F0FFF, q.rsv 3 0xFFFF, (decide (3 < which), 6, 1),
      (which == 3 && (decide (size < 16) || decide (35 < size)), 6, 1), (!good, 14, 2)]) s
    (.ok, match which with
      | 0 => pair R.LR_FAB_ADDR_LO s
      | 1 => pair R.LR_RX_ADDR_LO s
      | 2 => pair R.LR_TX_ADDR_LO s
      | _ =>
        let s := lrLogWrite l (b + R.LR_CFG) (wordSet (s.rd (b + R.LR_CFG)) 5 0 size) s
        let s := lrLogWrite l (b + R.LR_LOG_BASE_LO) (BitVec.ofNat 32 a) s
        lrLogWrite l (b + R.LR_LOG_BASE_HI) (BitVec.ofNat 32 (a / 2 ^ 32)) s)

/-- FCU_ADDR. -/
def execFcuAddr (c : Fin 128) (s : State) : Host.Outcome State Fault Refusal := .next (s.runCmd c 5 2 fcuAddr)

/-- Runs of consecutive numbers of an ascending list, flattened as first, last, first, last, ... -/
def runsOf : List Nat → List Nat
  | [] => []
  | x :: t =>
    match runsOf t with
    | a :: b :: r => if a = x + 1 then x :: b :: r else x :: x :: a :: b :: r
    | _ => [x, x]

/-- CLEAR (R241): FCU_CLR over each run in turn; TIMEOUT after 1 ms. -/
def fcuClear (c : Nat) (q : CmdReq) (s : State) : Ans × State :=
  let l := q.w 1 % 512
  let n := fcuOf l
  let go (s : State) (t0 total : Nat) (runs : List Nat) : Ans × State :=
    if s.flag (fcuBlk n) R.FCU_STAT_CLR_BUSY then
      (if t0 + 1000000 < s.now then (.done 16 0 [], s) else (.wait, s))
    else
      match runs with
      | a :: b :: r => (.wait, (fcuClr n (BitVec.ofNat 32 (2 ^ 31 + b * 2 ^ 16 + a)) s).setPhase c 1 (t0 :: total :: r))
      | _ => (.done 0 0 [BitVec.ofNat 32 total], s)
  match q.phase, q.mem with
  | 0, _ =>
    checked (s.linkArg q ++ [q.rsv 1 0x1FF]) s
      (let gs := s.heldGrans l
       go (s.setPhase c 1 (s.now :: gs.length :: runsOf gs)) s.now gs.length (runsOf gs))
  | _, t0 :: total :: runs => go s t0 total runs
  | _, _ => (.wait, s)

/-- FCU_CLEAR. -/
def execFcuClear (c : Fin 128) (s : State) : Host.Outcome State Fault Refusal := .next (s.runCmd c 5 3 (fcuClear c))

/-- FCU_LOGRST. -/
def execFcuLogrst (c : Fin 128) (s : State) : Host.Outcome State Fault Refusal :=
  .next (s.runCmd c 5 4 (fun q s =>
    let l := q.w 1 % 512
    let b := lrBlk l
    checked (s.linkArg q ++ [q.rsv 1 0x1FF]) s
      (.ok, lrLogWrite l (b + R.LR_LOG_BASE_LO) (s.rd (b + R.LR_LOG_BASE_LO)) (s.wr (b + R.LR_LOG_RPTR) 0))))

/-! ### TALLY (R408) -/

/-- CONFIG. -/
def tallyConfig (q : CmdReq) (s : State) : Ans × State :=
  let w := q.w 1
  let n := w % 128
  let a := q.w 2 + q.w 3 * 2 ^ 32
  let path := natBit w 10
  checked (s.siteArg q n false false ++ [q.rsv 1 0xFFFF077F, q.rsv 3 0xFFFF, (path && !s.windowOf a n, 14, 2),
      (path && !s.flag (siteBlk n) R.SITE_RIGHTS_BELL, 7, 0)]) s
    (.ok, tallyCtrlWrite n (BitVec.ofNat 32 (natBits w 8 8 * 2 ^ 31 + natBits w 9 9 * 2 ^ 30 + natBits w 10 10 * 2 ^ 29 + natBits w 31 16))
      (s.wr64 (tallyBlk n + R.TALLY_FAB_ADDR_LO) a))

/-- TALLY_CONFIG. -/
def execTallyConfig (c : Fin 128) (s : State) : Host.Outcome State Fault Refusal := .next (s.runCmd c 6 1 tallyConfig)

/-- TALLY_STATUS. -/
def execTallyStatus (c : Fin 128) (s : State) : Host.Outcome State Fault Refusal :=
  .next (s.runCmd c 6 2 (fun q s =>
    let b := tallyBlk (q.w 1 % 64)
    checked (s.siteArg q (q.w 1 % 128) false false ++ [q.rsv 1 0x7F]) s
      (.done 0 0 [s.rd (b + R.TALLY_RES_LO), s.rd (b + R.TALLY_RES_HI), s.rd (b + R.TALLY_STAT), s.rd (b + R.TALLY_LAT)], s)))

/-! ### MILL (R409) -/

/-- Checks every command on an engine makes. -/
def State.millArg (s : State) (q : CmdReq) : List (Bool × Nat × Nat) :=
  let e := q.w 1 % 64
  s.ownArg q (s.millOwner e) ++ s.dieArg (1 + e / 16)

/-- START. -/
def cmdMillStart (q : CmdReq) (s : State) : Ans × State :=
  let w := q.w 1
  let e := w % 64
  let src := natBit w 8
  let o := s.millOwner e
  let b := millBlk e
  let d := q.w 2 + q.w 3 * 2 ^ 32
  let a := q.w 4 + q.w 5 * 2 ^ 32
  let st := s.millState e
  let srcArg := if src then [q.rsv 4 0xFFFFFF00, q.rsv 5 0xFFFF] else []
  checked (s.millArg q ++ [q.rsv 1 0x13F, (src != (q.len == 6), 6, 1), q.rsv 2 0xFFFFFF00, q.rsv 3 0xFFFF] ++ srcArg ++
      [(!s.dramHeld d 256 o, 14, 2), (src && !s.dramHeld a (max 1 (16 * q.w 6)) o, 14, 4), (st != 0 && st != 4 && st != 5, 13, 0)]) s
    (let s := s.wr64 (b + R.MILL_DESC_LO) d
     let s := if src then (s.wr64 (b + R.MILL_SRC_LO) a).wr (b + R.MILL_SRC_CNT) (BitVec.ofNat 32 (q.w 6)) else s
     (.ok, millCtrl e (BitVec.ofNat 32 (2 ^ 31 + b2n src)) s))

/-- MILL_START. -/
def execMillStart (c : Fin 128) (s : State) : Host.Outcome State Fault Refusal := .next (s.runCmd c 7 1 cmdMillStart)

/-- An action bit of MILL_CTRL with SRC kept. -/
def State.millBit (s : State) (e bit : Nat) : State :=
  millCtrl e (BitVec.ofNat 32 (2 ^ bit + s.rf (millBlk e) R.MILL_CTRL_SRC)) s

/-- MILL_CLOSE. -/
def execMillClose (c : Fin 128) (s : State) : Host.Outcome State Fault Refusal :=
  .next (s.runCmd c 7 2 (fun q s =>
    let e := q.w 1 % 64
    checked (s.millArg q ++ [q.rsv 1 0x3F, (s.millState e != 2 || (s.millE e).src, 13, 0)]) s (.ok, s.millBit e 30)))

/-- MILL_ABORT. -/
def execMillAbort (c : Fin 128) (s : State) : Host.Outcome State Fault Refusal :=
  .next (s.runCmd c 7 3 (fun q s =>
    let e := q.w 1 % 64
    checked (s.millArg q ++ [q.rsv 1 0x3F]) s
      (let s := s.millBit e 29
       (.done 0 0 [s.rd (millBlk e + R.MILL_STAT)], s))))

/-- MILL_STATUS. -/
def execMillStatus (c : Fin 128) (s : State) : Host.Outcome State Fault Refusal :=
  .next (s.runCmd c 7 4 (fun q s =>
    let b := millBlk (q.w 1 % 64)
    checked (s.millArg q ++ [q.rsv 1 0x3F]) s
      (.done 0 0 ([R.MILL_STAT, R.MILL_PROGRESS, R.MILL_N_REPAIRED, R.MILL_N_UNREP, R.MILL_N_UNDEC, R.MILL_RES_BYTES].map (fun o => s.rd (b + o))),
        s)))

/-! ### DRAM (R410) -/

/-- PORTS (R324): DRAM_PORTMAP of the site, and DDR_PORT of the port in every controller. -/
def dramPorts (q : CmdReq) (s : State) : Ans × State :=
  let n := q.w 1 % 128
  let m := q.w 2
  let w := q.w 3
  let p := w % 16
  let resv := natBits w 9 4
  let sum (c : Nat) : Nat := ((List.range 16).map (fun i => if i = p then resv else s.rf (ddrBlk c + 4 * i) R.DDR_PORT_RESV)).sum
  checked (s.siteArg q n false false ++ [q.rsv 1 0x7F, q.rsv 2 0xFFFF, q.rsv 3 0xFFFF03FF,
      ([0, 4, 8, 12].any (fun i => natBits m (i + 3) i == 15), 6, 2), (p == 15, 6, 3)] ++ [1, 2, 3, 4].flatMap s.dieArg) s
    (match (List.range 12).find? (fun c => decide (48 < sum c)) with
     | some c => (.done 12 c [], s)
     | none =>
       let s := s.wr (dramHub + R.DRAM_PORTMAP + 4 * n) (BitVec.ofNat 32 m)
       (.ok, (List.range 12).foldl (fun s c =>
         (s.wf (ddrBlk c + 4 * p) R.DDR_PORT_RESV resv).wf (ddrBlk c + 4 * p) R.DDR_PORT_TARGET (max 400 (natBits w 31 16))) s))

/-- DRAM_PORTS. -/
def execDramPorts (c : Fin 128) (s : State) : Host.Outcome State Fault Refusal := .next (s.runCmd c 8 1 dramPorts)

/-- DRAM_STATUS. -/
def execDramStatus (c : Fin 128) (s : State) : Host.Outcome State Fault Refusal :=
  .next (s.runCmd c 8 2 (fun q s =>
    let hurt (k : Nat) : Bool := [0, 1, 2, 3].any (fun p => s.rankState k p == 3 || s.rankState k p == 5)
    let mask := (List.range 12).foldl (fun a k => a + b2n (hurt k) * 2 ^ k) 0
    let evt := match q.snd with | .s n => if n < 64 then s.rd (dramHub + R.DRAM_SITE_EVT + 8 * n) else 0 | _ => 0
    (.done 0 0 [s.rd (dramHub + R.DRAM_INTLV), BitVec.ofNat 32 mask, evt], s)))

/-- The channels of a mask from `i` on moved to a set point one at a time (R337, R410): those done so far, and the first refusal. -/
def freqWalk (c f mask : Nat) : Nat → Nat → Nat → State → Ans × State
  | 0, _, _, s => (.wait, s)
  | k + 1, i, done, s =>
    if 12 ≤ i then (.done 0 0 [BitVec.ofNat 32 done], s)
    else if !natBit mask i then freqWalk c f mask k (i + 1) done s
    else if natBit done i then
      if s.ddrState i == 3 then (.wait, s.setPhase c 1 [i, done]) else freqWalk c f mask k (i + 1) done s
    else
      if s.fspOk i f && s.ddrState i == 2 then (.wait, (s.freqGo i f).setPhase c 1 [i, done + 2 ^ i]) else (.done 13 i [], s.freqGo i f)

/-- FREQ. -/
def dramFreq (c : Nat) (q : CmdReq) (s : State) : Ans × State :=
  let w := q.w 1
  let f := w % 4
  match q.phase, q.mem with
  | 0, _ => checked [q.rsv 1 0xFFF0003, (f == 3, 6, 1)] s (freqWalk c f (natBits w 27 16) 14 0 0 s)
  | _, i :: done :: _ => freqWalk c f (natBits w 27 16) 14 i done s
  | _, _ => (.wait, s)

/-- DRAM_FREQ. -/
def execDramFreq (c : Fin 128) (s : State) : Host.Outcome State Fault Refusal := .next (s.runCmd c 8 3 (dramFreq c))

/-- DRAM_PATROL. -/
def execDramPatrol (c : Fin 128) (s : State) : Host.Outcome State Fault Refusal :=
  .next (s.runCmd c 8 4 (fun q s =>
    let w := q.w 1
    let cs := (List.range 12).filter (fun k => natBit w (16 + k))
    checked (q.rsv 1 0xFFF01FF :: cs.flatMap (fun k => s.dieArg (1 + k / 3))) s
      (.ok, cs.foldl (fun s k => (s.wf (ddrBlk k) R.DDR_PATROL_PERIOD (w % 256)).wf (ddrBlk k) R.DDR_PATROL_FIX (natBits w 8 8)) s)))

end Sys2Proof.Machine
end

