-- ==== Sys2Proof/Machine/DbgAccess.lean ====
section
/-! DEFINITION. DBG_ACCESS: the debug domain's registers, the level filter and the debug bus master (R459-R462, R482). -/
namespace Sys2Proof.Machine

/-- Requester of the debug bus master (R461). -/
def dbgReq : Req := ⟨8, 0x7F⟩

/-- A hub junction's probe registers lie at an offset of the device-register region (R169). -/
def isProbeReg (o : Nat) : Bool :=
  match blkOfAddr o with
  | some (.spine, x) => decide (0x180 ≤ x ∧ x < 0x200) && (probeBase ((o - 0x700000) / 0x200)).isSome
  | _ => false

/-- The Reeve's private set. -/
def isPrivate (o : Nat) : Bool := decide (0xF00000 ≤ o ∧ o < 0x1000000)

/-- The level filter (R462). -/
def dbgPermits (level a : Nat) (write : Bool) : Bool :=
  match regionOf a with
  | .regs o =>
    if write then decide (2 ≤ level) || (level == 1 && isProbeReg o)
    else if level = 0 then (match blkOfAddr o with | some (.sec, _) => true | some (.bk, _) => true | _ => false)
    else level == 3 || !isPrivate o
  | .undecoded => write && decide (2 ≤ level)
  | _ => decide (2 ≤ level)

/-- What Capture-DR loads (R460). -/
def State.dbgWord (s : State) : BitVec 82 :=
  BitVec.ofNat 82 (b2n s.dbg.acc.isSome + s.dbg.code % 8 * 2 + s.dbg.data.toNat * 16 + b2n s.dbg.overrun * 2 ^ 36)

/-- An access ends with a code and data. -/
def State.dbgEnd (s : State) (code : Nat) (data : Word) : State := { s with dbg := { s.dbg with acc := none, code := code, data := data } }

/-- An access of OP = LOCAL (R460, R482): it returns the register's value and gives one that can be written its data. DESIGN CHOICE: OP does
not say which of the two a LOCAL access does, so it does both (log entry 18). -/
def State.dbgLocal (s : State) (o : Nat) (v : Word) (a : AuthIn) : State :=
  let w := s.rd (dlocBlk + o)
  if o = R.DBG_SESSION ∨ o = R.DBG_AUTH_STAT then s.dbgEnd 0 w
  else if o = R.DBG_DENY_CNT then (s.wr (dlocBlk + o) 0).dbgEnd 0 w
  else if o = R.DBG_AUTH_CMD then (s.authCmd (v.toNat % 16) a).dbgEnd 0 0
  else if 0x200 ≤ o ∧ o < 0x400 then (s.wr (dlocBlk + o) v).dbgEnd 0 w
  else s.dbgEnd 2 0

/-- An access starts (R460-R462): misaligned, LOCAL, refused by the level filter, or out on the ring. -/
def State.dbgStart (s : State) (cmd : Nat) (au : AuthIn) : State :=
  let op := cmd % 4
  let a := natBits cmd 49 2
  let v := BitVec.ofNat 32 (natBits cmd 81 50)
  if op = 0 then s
  else if a % 4 ≠ 0 then (s.regbusFault (s.faultDie a) dbgReq).dbgEnd 1 0
  else if op = 3 then s.dbgLocal (a % 4096) v au
  else if !dbgPermits (s.rf dlocBlk R.DBG_SESSION_LEVEL) a (op == 2) then (s.cnt (dlocBlk + R.DBG_DENY_CNT) 1).dbgEnd 3 0
  else
    let s := { s with dbg := { s.dbg with acc := some cmd } }
    match regionOf a with
    | .regs _ | .undecoded => s
    | _ => ringInject (pieceReq dbgReq a 4 (if op = 2 then some (toBytes 4 v.toNat) else none)) s

/-- A scan of the DBG_ACCESS register (R460): Capture-DR, which clears OVERRUN, and Update-DR, which starts an access or drops the command. -/
def dbgAccess (cmd : Nat) (au : AuthIn) (s : State) : State :=
  if s.dbg.ir ≠ 0x20 ∨ s.pwrState = 4 then s
  else
    let s := s.emit (.dbgCapture s.dbgWord)
    let s := { s with dbg := { s.dbg with overrun := false } }
    if s.dbg.acc.isSome then { s with dbg := { s.dbg with overrun := s.dbg.overrun || cmd % 4 != 0 } }
    else s.dbgStart cmd au

/-- DBG_ACCESS (R460): `auth` is what an authentication command finds (R464-R468). -/
def execDbgAccess (cmd : BitVec 82) (auth : AuthIn) (s : State) : Host.Outcome State Fault Refusal := .next (dbgAccess cmd.toNat auth s)

/-- The debug bus master's access completes (R460, R461): at a register it is performed here, elsewhere `code` and `data` are the target's answer
where no firewall refuses it. -/
def dbgComplete (code : Rsp) (data : Word) (s : State) : State :=
  match s.dbg.acc with
  | none => s
  | some cmd =>
    let a := natBits cmd 49 2
    let v := natBits cmd 81 50
    if s.deaf then s
    else
      match regionOf a with
      | .regs o =>
        if cmd % 4 = 2 then
          let (c, s) := s.writeAccess dbgReq o (toBytes 4 v) []
          (if c == .fault then s.regbusFault (o / 0x1000000) dbgReq else s).dbgEnd (codeNo c) 0
        else
          let (c, l, s) := s.readAccess dbgReq o 4 true []
          (if c == .fault then s.regbusFault (o / 0x1000000) dbgReq else s).dbgEnd (codeNo c) (if c = .ok then l.headD 0 else 0)
      | .undecoded => s.dbgEnd 2 0
      | _ =>
        let c := s.pieceCode dbgReq a (cmd % 4 == 2) code
        s.dbgEnd (codeNo c) (if c = .ok ∧ cmd % 4 = 1 then data else 0)

/-- DBG_ACCESS_COMPLETE (R460). -/
def execDbgAccessComplete (code : Rsp) (data : Word) (s : State) : Host.Outcome State Fault Refusal := .next (dbgComplete code data s)

end Sys2Proof.Machine
end

