-- ==== Sys2Proof/Machine/Dispatch.lean ====
section
/-! DEFINITION. The dispatch of a command to its meaning: one arm per constructor of Instr. -/
namespace Sys2Proof.Machine

def exec (i : Instr) (s : State) : Host.Outcome State Fault Refusal :=
  match i with
  | .registerWrite r a data hw => Sys2Proof.Machine.execRegisterWrite r a data hw s
  | .rcRegisterRead r a len hw => Sys2Proof.Machine.execRcRegisterRead r a len hw s
  | .pairLoRead r a wide => Sys2Proof.Machine.execPairLoRead r a wide s
  | .counterPairLoWrite r a v => Sys2Proof.Machine.execCounterPairLoWrite r a v s
  | .counterPairHiWrite r a v events => Sys2Proof.Machine.execCounterPairHiWrite r a v events s
  | .fckApply r f v => Sys2Proof.Machine.execFckApply r f v s
  | .fieldClockRestart f => Sys2Proof.Machine.execFieldClockRestart f s
  | .stileSend f e c w => Sys2Proof.Machine.execStileSend f e c w s
  | .stileWordArrive f e c k => Sys2Proof.Machine.execStileWordArrive f e c k s
  | .stileConsume f e c => Sys2Proof.Machine.execStileConsume f e c s
  | .stileCreditReturn f e c => Sys2Proof.Machine.execStileCreditReturn f e c s
  | .levelStileChange f e l v => Sys2Proof.Machine.execLevelStileChange f e l v s
  | .bmPortRead f b portB addr regce rsto rmw coll => Sys2Proof.Machine.execBmPortRead f b portB addr regce rsto rmw coll s
  | .bmPortWrite f b portB addr din bwe regce rsto rmw coll => Sys2Proof.Machine.execBmPortWrite f b portB addr din bwe regce rsto rmw coll s
  | .bmQueuePush f b din => Sys2Proof.Machine.execBmQueuePush f b din s
  | .bmQueuePop f b regce rsto => Sys2Proof.Machine.execBmQueuePop f b regce rsto s
  | .queueFlagUpdate f b writeSide => Sys2Proof.Machine.execQueueFlagUpdate f b writeSide s
  | .qrst f b high cyclesA cyclesB => Sys2Proof.Machine.execQrst f b high cyclesA cyclesB s
  | .granaryRequest f gq beats => Sys2Proof.Machine.execGranaryRequest f gq beats s
  | .granaryBankAccess g bank => Sys2Proof.Machine.execGranaryBankAccess g bank s
  | .granaryReadBeat f => Sys2Proof.Machine.execGranaryReadBeat f s
  | .bmPatrolRead f => Sys2Proof.Machine.execBmPatrolRead f s
  | .grPatrolRead g => Sys2Proof.Machine.execGrPatrolRead g s
  | .patrolLate e => Sys2Proof.Machine.execPatrolLate e s
  | .bmRewrite r f v => Sys2Proof.Machine.execBmRewrite r f v s
  | .grRewrite r g v => Sys2Proof.Machine.execGrRewrite r g v s
  | .bmFlipArm r f v => Sys2Proof.Machine.execBmFlipArm r f v s
  | .grFlipArm r g v => Sys2Proof.Machine.execGrFlipArm r g v s
  | .bmRemapWrite r f j v => Sys2Proof.Machine.execBmRemapWrite r f j v s
  | .bmRemapCopyDone f j => Sys2Proof.Machine.execBmRemapCopyDone f j s
  | .grRemapWrite r g j v => Sys2Proof.Machine.execGrRemapWrite r g j v s
  | .grRemapCopyDone g j => Sys2Proof.Machine.execGrRemapCopyDone g j s
  | .bmDebugAccess r f b word hi4 wr => Sys2Proof.Machine.execBmDebugAccess r f b word hi4 wr s
  | .bmDebugForcedStall f => Sys2Proof.Machine.execBmDebugForcedStall f s
  | .grDebugSteal g bank => Sys2Proof.Machine.execGrDebugSteal g bank s
  | .ringRequestInject q => Sys2Proof.Machine.execRingRequestInject q s
  | .ringFlitArrive k flips bundle drained => Sys2Proof.Machine.execRingFlitArrive k flips bundle drained s
  | .ringResponseTimeout mid tag => Sys2Proof.Machine.execRingResponseTimeout mid tag s
  | .ringCreditReturn sender receiver cls => Sys2Proof.Machine.execRingCreditReturn sender receiver cls s
  | .ringInjectHold stop => Sys2Proof.Machine.execRingInjectHold stop s
  | .bellRequest q => Sys2Proof.Machine.execBellRequest q s
  | .bellAdmit stop => Sys2Proof.Machine.execBellAdmit stop s
  | .ringBellCtrlWrite r stop v => Sys2Proof.Machine.execRingBellCtrlWrite r stop v s
  | .fieldRingInitiate f iq beats => Sys2Proof.Machine.execFieldRingInitiate f iq beats s
  | .fieldRingTargetResponse f tag code data => Sys2Proof.Machine.execFieldRingTargetResponse f tag code data s
  | .qpllCtrlWrite r q v => Sys2Proof.Machine.execQpllCtrlWrite r q v s
  | .qpllLock q pll1 => Sys2Proof.Machine.execQpllLock q pll1 s
  | .laneCtrlWrite r l v => Sys2Proof.Machine.execLaneCtrlWrite r l v s
  | .laneSignalDetect l => Sys2Proof.Machine.execLaneSignalDetect l s
  | .laneSignalLoss l => Sys2Proof.Machine.execLaneSignalLoss l s
  | .laneCdrLock l => Sys2Proof.Machine.execLaneCdrLock l s
  | .laneLossOfLock l => Sys2Proof.Machine.execLaneLossOfLock l s
  | .laneAdaptDone l width height ctle dfe => Sys2Proof.Machine.execLaneAdaptDone l width height ctle dfe s
  | .laneDownRearm l => Sys2Proof.Machine.execLaneDownRearm l s
  | .slip l src => Sys2Proof.Machine.execSlip l src s
  | .slipSettle l => Sys2Proof.Machine.execSlipSettle l s
  | .winStart l src => Sys2Proof.Machine.execWinStart l src s
  | .alignWindowClose l com err => Sys2Proof.Machine.execAlignWindowClose l com err s
  | .alignDone l src => Sys2Proof.Machine.execAlignDone l src s
  | .alignFail l src => Sys2Proof.Machine.execAlignFail l src s
  | .laneRxSymbol l sym reads o => Sys2Proof.Machine.execLaneRxSymbol l sym reads o s
  | .laneCheckDone l => Sys2Proof.Machine.execLaneCheckDone l s
  | .laneTxeqWrite r l v => Sys2Proof.Machine.execLaneTxeqWrite r l v s
  | .laneEqTrack l up down dfe => Sys2Proof.Machine.execLaneEqTrack l up down dfe s
  | .laneEyeRefresh l width height => Sys2Proof.Machine.execLaneEyeRefresh l width height s
  | .rawWordTx l w => Sys2Proof.Machine.execRawWordTx l w s
  | .rawWordRx l w reads => Sys2Proof.Machine.execRawWordRx l w reads s
  | .comWatchdog l => Sys2Proof.Machine.execComWatchdog l s
  | .skpReceive l afterCom run o => Sys2Proof.Machine.execSkpReceive l afterCom run o s
  | .linkSetReceive l set bad inFrame => Sys2Proof.Machine.execLinkSetReceive l set bad inFrame s
  | .timeSetReceive l set bad inFrame ph wait => Sys2Proof.Machine.execTimeSetReceive l set bad inFrame ph wait s
  | .normalFrameReceive l f => Sys2Proof.Machine.execNormalFrameReceive l f s
  | .helloGrant l => Sys2Proof.Machine.execHelloGrant l s
  | .frameAbortReceive l => Sys2Proof.Machine.execFrameAbortReceive l s
  | .straySymbolReceive l o => Sys2Proof.Machine.execStraySymbolReceive l o s
  | .bellCopyReceive l f second inFrame => Sys2Proof.Machine.execBellCopyReceive l f second inFrame s
  | .normalFrameTransmit l ty => Sys2Proof.Machine.execNormalFrameTransmit l ty s
  | .bellFrameTransmit l => Sys2Proof.Machine.execBellFrameTransmit l s
  | .skpTransmit l => Sys2Proof.Machine.execSkpTransmit l s
  | .linkSetTransmit l => Sys2Proof.Machine.execLinkSetTransmit l s
  | .nakRepeat l => Sys2Proof.Machine.execNakRepeat l s
  | .replayTimeout l => Sys2Proof.Machine.execReplayTimeout l s
  | .linkRestart r l v => Sys2Proof.Machine.execLinkRestart r l v s
  | .resyncPeriodEnd l => Sys2Proof.Machine.execResyncPeriodEnd l s
  | .timeExchangeDue l ph => Sys2Proof.Machine.execTimeExchangeDue l ph s
  | .timeRspTimeout l => Sys2Proof.Machine.execTimeRspTimeout l s
  | .holdQueueRelease l => Sys2Proof.Machine.execHoldQueueRelease l s
  | .linkCtrlGo r l v => Sys2Proof.Machine.execLinkCtrlGo r l v s
  | .linkCtrlTimeout l => Sys2Proof.Machine.execLinkCtrlTimeout l s
  | .linkOwnerWrite r l v => Sys2Proof.Machine.execLinkOwnerWrite r l v s
  | .linkFiTxWrite r l v => Sys2Proof.Machine.execLinkFiTxWrite r l v s
  | .linkFiRxWrite r l v => Sys2Proof.Machine.execLinkFiRxWrite r l v s
  | .reorderHoldExpire l => Sys2Proof.Machine.execReorderHoldExpire l s
  | .failEntryApply l ue mue => Sys2Proof.Machine.execFailEntryApply l ue mue s
  | .failLogWrite l ue => Sys2Proof.Machine.execFailLogWrite l ue s
  | .failLogWriteDone l code => Sys2Proof.Machine.execFailLogWriteDone l code s
  | .fcuFabForward l ue => Sys2Proof.Machine.execFcuFabForward l ue s
  | .fcuClr r n v => Sys2Proof.Machine.execFcuClr r n v s
  | .fcuClrDone n => Sys2Proof.Machine.execFcuClrDone n s
  | .fcuGranWrite r n g v => Sys2Proof.Machine.execFcuGranWrite r n g v s
  | .fcuRecordRead r n rn => Sys2Proof.Machine.execFcuRecordRead r n rn s
  | .fcuRecordWrite r n rn v => Sys2Proof.Machine.execFcuRecordWrite r n rn v s
  | .lrCtrlWrite r l v => Sys2Proof.Machine.execLrCtrlWrite r l v s
  | .lrLogConfigWrite r l w v => Sys2Proof.Machine.execLrLogConfigWrite r l w v s
  | .matchReportApply l => Sys2Proof.Machine.execMatchReportApply l s
  | .tallyStepTimeout g => Sys2Proof.Machine.execTallyStepTimeout g s
  | .tallyResultBroadcast g => Sys2Proof.Machine.execTallyResultBroadcast g s
  | .tallyCtrlWrite r g v => Sys2Proof.Machine.execTallyCtrlWrite r g v s
  | .dlpTxBeat f port d last => Sys2Proof.Machine.execDlpTxBeat f port d last s
  | .dlpRxDeliver l n ue => Sys2Proof.Machine.execDlpRxDeliver l n ue s
  | .linkRxRingWrite l => Sys2Proof.Machine.execLinkRxRingWrite l s
  | .linkTxFetch l => Sys2Proof.Machine.execLinkTxFetch l s
  | .linkTxChunk l code data => Sys2Proof.Machine.execLinkTxChunk l code data s
  | .millCtrlStart r e v => Sys2Proof.Machine.execMillCtrlStart r e v s
  | .millCtrlClose r e v => Sys2Proof.Machine.execMillCtrlClose r e v s
  | .millCtrlAbort r e v => Sys2Proof.Machine.execMillCtrlAbort r e v s
  | .millDescLoaded e d => Sys2Proof.Machine.execMillDescLoaded e d s
  | .millSrcRead e d => Sys2Proof.Machine.execMillSrcRead e d s
  | .millIntakeEntry e ue => Sys2Proof.Machine.execMillIntakeEntry e ue s
  | .millIntakeDrained e => Sys2Proof.Machine.execMillIntakeDrained e s
  | .millRegionAnalyse e ue => Sys2Proof.Machine.execMillRegionAnalyse e ue s
  | .millRecordWrite e => Sys2Proof.Machine.execMillRecordWrite e s
  | .millJobDone e => Sys2Proof.Machine.execMillJobDone e s
  | .millWriteError e what region => Sys2Proof.Machine.execMillWriteError e what region s
  | .fldOwnWrite r f v => Sys2Proof.Machine.execFldOwnWrite r f v s
  | .granOwnWrite r g v => Sys2Proof.Machine.execGranOwnWrite r g v s
  | .grantFillDone => Sys2Proof.Machine.execGrantFillDone s
  | .siteCmdReset r n v => Sys2Proof.Machine.execSiteCmdReset r n v s
  | .siteResetDrainEnd n => Sys2Proof.Machine.execSiteResetDrainEnd n s
  | .siteResetComplete n => Sys2Proof.Machine.execSiteResetComplete n s
  | .siteCmdRun r n v => Sys2Proof.Machine.execSiteCmdRun r n v s
  | .sicEoi r n v => Sys2Proof.Machine.execSicEoi r n v s
  | .msixEnable fn => Sys2Proof.Machine.execMsixEnable fn s
  | .msixUnmask fn v => Sys2Proof.Machine.execMsixUnmask fn v s
  | .dramOwnWrite r g v => Sys2Proof.Machine.execDramOwnWrite r g v s
  | .dramReadRequest c q d => Sys2Proof.Machine.execDramReadRequest c q d s
  | .dramWriteRequest c q d => Sys2Proof.Machine.execDramWriteRequest c q d s
  | .dramWriteDrain c sub n urgent => Sys2Proof.Machine.execDramWriteDrain c sub n urgent s
  | .dramBackgroundFill c => Sys2Proof.Machine.execDramBackgroundFill c s
  | .dramRefresh c rank => Sys2Proof.Machine.execDramRefresh c rank s
  | .dramTempPoll c hot crit => Sys2Proof.Machine.execDramTempPoll c hot crit s
  | .dramRhWindowEnd c => Sys2Proof.Machine.execDramRhWindowEnd c s
  | .dramThrottleExpire c rank sub bank mid => Sys2Proof.Machine.execDramThrottleExpire c rank sub bank mid s
  | .dramPatrolRead c ecc act => Sys2Proof.Machine.execDramPatrolRead c ecc act s
  | .dramTrack c zq => Sys2Proof.Machine.execDramTrack c zq s
  | .dramRetrainStep c res => Sys2Proof.Machine.execDramRetrainStep c res s
  | .ddrFreqGo r c v => Sys2Proof.Machine.execDdrFreqGo r c v s
  | .ddrFreqDone c => Sys2Proof.Machine.execDdrFreqDone c s
  | .dramCaparError c rank => Sys2Proof.Machine.execDramCaparError c rank s
  | .dramMigrateLine c ecc => Sys2Proof.Machine.execDramMigrateLine c ecc s
  | .encEnable r n v => Sys2Proof.Machine.execEncEnable r n v s
  | .encDisable r n v => Sys2Proof.Machine.execEncDisable r n v s
  | .encWriteback c n area line ecc => Sys2Proof.Machine.execEncWriteback c n area line ecc s
  | .barRead f bar ofs len res => Sys2Proof.Machine.execBarRead f bar ofs len res s
  | .barWrite f bar ofs data res => Sys2Proof.Machine.execBarWrite f bar ofs data res s
  | .vfFlr n => Sys2Proof.Machine.execVfFlr n s
  | .pfFlr => Sys2Proof.Machine.execPfFlr s
  | .pcieLinkLoss => Sys2Proof.Machine.execPcieLinkLoss s
  | .vfEnableClear numVfs => Sys2Proof.Machine.execVfEnableClear numVfs s
  | .hostEoi r v => Sys2Proof.Machine.execHostEoi r v s
  | .dmaTailWrite r ch v => Sys2Proof.Machine.execDmaTailWrite r ch v s
  | .dmaDescFetch ch d err => Sys2Proof.Machine.execDmaDescFetch ch d err s
  | .dmaPieceIssue ch data => Sys2Proof.Machine.execDmaPieceIssue ch data s
  | .dmaPieceComplete ch slot ofs code hostErr data => Sys2Proof.Machine.execDmaPieceComplete ch slot ofs code hostErr data s
  | .dmaWriteback ch => Sys2Proof.Machine.execDmaWriteback ch s
  | .dmaResume r ch v => Sys2Proof.Machine.execDmaResume r ch v s
  | .dmaEnClear r ch v => Sys2Proof.Machine.execDmaEnClear r ch v s
  | .dmaEnSet r ch v => Sys2Proof.Machine.execDmaEnSet r ch v s
  | .dmaRingWrite r ch v => Sys2Proof.Machine.execDmaRingWrite r ch v s
  | .mbxPush r c v => Sys2Proof.Machine.execMbxPush r c v s
  | .mbxPop r c => Sys2Proof.Machine.execMbxPop r c s
  | .mbxFpbindWrite r m v => Sys2Proof.Machine.execMbxFpbindWrite r m v s
  | .mbxBindWrite r c v => Sys2Proof.Machine.execMbxBindWrite r c v s
  | .mbxLockSet r v => Sys2Proof.Machine.execMbxLockSet r v s
  | .commonsHbWrite r v => Sys2Proof.Machine.execCommonsHbWrite r v s
  | .commonsHeaderPop c => Sys2Proof.Machine.execCommonsHeaderPop c s
  | .commonsLengthTimeout c => Sys2Proof.Machine.execCommonsLengthTimeout c s
  | .sysPing c => Sys2Proof.Machine.execSysPing c s
  | .sysIdentify c => Sys2Proof.Machine.execSysIdentify c s
  | .sysMode c => Sys2Proof.Machine.execSysMode c s
  | .sysTime c => Sys2Proof.Machine.execSysTime c s
  | .siteCreate c => Sys2Proof.Machine.execSiteCreate c s
  | .siteDestroy c => Sys2Proof.Machine.execSiteDestroy c s
  | .siteGrant c => Sys2Proof.Machine.execSiteGrant c s
  | .siteRevoke c => Sys2Proof.Machine.execSiteRevoke c s
  | .siteReset c => Sys2Proof.Machine.execSiteReset c s
  | .siteService c => Sys2Proof.Machine.execSiteService c s
  | .siteQuery c bus => Sys2Proof.Machine.execSiteQuery c bus s
  | .siteTcrit c => Sys2Proof.Machine.execSiteTcrit c s
  | .confLoad c => Sys2Proof.Machine.execConfLoad c s
  | .confReload c => Sys2Proof.Machine.execConfReload c s
  | .confRemap c flashOk => Sys2Proof.Machine.execConfRemap c flashOk s
  | .confLedger c bus => Sys2Proof.Machine.execConfLedger c bus s
  | .linkUp c => Sys2Proof.Machine.execLinkUp c s
  | .linkDown c => Sys2Proof.Machine.execLinkDown c s
  | .linkStatus c => Sys2Proof.Machine.execLinkStatus c s
  | .linkEq c => Sys2Proof.Machine.execLinkEq c s
  | .fcuRoute c => Sys2Proof.Machine.execFcuRoute c s
  | .fcuAddr c => Sys2Proof.Machine.execFcuAddr c s
  | .fcuClear c => Sys2Proof.Machine.execFcuClear c s
  | .fcuLogrst c => Sys2Proof.Machine.execFcuLogrst c s
  | .tallyConfig c => Sys2Proof.Machine.execTallyConfig c s
  | .tallyStatus c => Sys2Proof.Machine.execTallyStatus c s
  | .millStart c => Sys2Proof.Machine.execMillStart c s
  | .millClose c => Sys2Proof.Machine.execMillClose c s
  | .millAbort c => Sys2Proof.Machine.execMillAbort c s
  | .millStatus c => Sys2Proof.Machine.execMillStatus c s
  | .dramPorts c => Sys2Proof.Machine.execDramPorts c s
  | .dramStatus c => Sys2Proof.Machine.execDramStatus c s
  | .dramFreq c => Sys2Proof.Machine.execDramFreq c s
  | .dramPatrol c => Sys2Proof.Machine.execDramPatrol c s
  | .secEncOn c => Sys2Proof.Machine.execSecEncOn c s
  | .secEncOff c => Sys2Proof.Machine.execSecEncOff c s
  | .secRandom c => Sys2Proof.Machine.execSecRandom c s
  | .secLifecycle c auth bus => Sys2Proof.Machine.execSecLifecycle c auth bus s
  | .monRead c => Sys2Proof.Machine.execMonRead c s
  | .monConfig c => Sys2Proof.Machine.execMonConfig c s
  | .monPower c => Sys2Proof.Machine.execMonPower c s
  | .parishRead c bus => Sys2Proof.Machine.execParishRead c bus s
  | .parishMark c => Sys2Proof.Machine.execParishMark c s
  | .parishStatus c => Sys2Proof.Machine.execParishStatus c s
  | .fwVersion c => Sys2Proof.Machine.execFwVersion c s
  | .fwUpdate c img bus flashOk => Sys2Proof.Machine.execFwUpdate c img bus flashOk s
  | .fwRestart c => Sys2Proof.Machine.execFwRestart c s
  | .fwPatch c p bus => Sys2Proof.Machine.execFwPatch c p bus s
  | .winEnter c pc => Sys2Proof.Machine.execWinEnter c pc s
  | .winLeave c pc => Sys2Proof.Machine.execWinLeave c pc s
  | .coreTrap c typ pc => Sys2Proof.Machine.execCoreTrap c typ pc s
  | .trapRet c => Sys2Proof.Machine.execTrapRet c s
  | .coreInterrupt c src pc => Sys2Proof.Machine.execCoreInterrupt c src pc s
  | .cmnCoreKick r c v => Sys2Proof.Machine.execCmnCoreKick r c v s
  | .coreWdtExpire c => Sys2Proof.Machine.execCoreWdtExpire c s
  | .hbWdtExpire => Sys2Proof.Machine.execHbWdtExpire s
  | .commonsRestartComplete seq => Sys2Proof.Machine.execCommonsRestartComplete seq s
  | .reeveWdtExpire => Sys2Proof.Machine.execReeveWdtExpire s
  | .reeveRestartDone => Sys2Proof.Machine.execReeveRestartDone s
  | .lifecycleChangeDone sensed => Sys2Proof.Machine.execLifecycleChangeDone sensed s
  | .pkeOpDone op res => Sys2Proof.Machine.execPkeOpDone op res s
  | .drngReady raw => Sys2Proof.Machine.execDrngReady raw s
  | .drngHealthFail raw => Sys2Proof.Machine.execDrngHealthFail raw s
  | .tamperAlarm j => Sys2Proof.Machine.execTamperAlarm j s
  | .vbatLow => Sys2Proof.Machine.execVbatLow s
  | .oscStop => Sys2Proof.Machine.execOscStop s
  | .backupDomainReset => Sys2Proof.Machine.execBackupDomainReset s
  | .bkRtcSet r v => Sys2Proof.Machine.execBkRtcSet r v s
  | .bkLogClr r v => Sys2Proof.Machine.execBkLogClr r v s
  | .dbgAccess cmd auth => Sys2Proof.Machine.execDbgAccess cmd auth s
  | .dbgAccessComplete code data => Sys2Proof.Machine.execDbgAccessComplete code data s
  | .debugDomainReset => Sys2Proof.Machine.execDebugDomainReset s
  | .tapInstruction code => Sys2Proof.Machine.execTapInstruction code s
  | .challenge => Sys2Proof.Machine.execChallenge s
  | .challengeReady => Sys2Proof.Machine.execChallengeReady s
  | .respond auth => Sys2Proof.Machine.execRespond auth s
  | .password => Sys2Proof.Machine.execPassword s
  | .lock => Sys2Proof.Machine.execLock s
  | .loadBbkey auth => Sys2Proof.Machine.execLoadBbkey auth s
  | .recover auth => Sys2Proof.Machine.execRecover auth s
  | .authFailWaitEnd => Sys2Proof.Machine.execAuthFailWaitEnd s
  | .dbgXtPulse r v => Sys2Proof.Machine.execDbgXtPulse r v s
  | .xtTimeCompare c => Sys2Proof.Machine.execXtTimeCompare c s
  | .triggerTapOut f t => Sys2Proof.Machine.execTriggerTapOut f t s
  | .xtEventArrive c => Sys2Proof.Machine.execXtEventArrive c s
  | .dbgFldHalt r f v => Sys2Proof.Machine.execDbgFldHalt r f v s
  | .fieldHaltStop f => Sys2Proof.Machine.execFieldHaltStop f s
  | .dbgFldRun r f v => Sys2Proof.Machine.execDbgFldRun r f v s
  | .dbgFldStep r f v => Sys2Proof.Machine.execDbgFldStep r f v s
  | .stepDone f => Sys2Proof.Machine.execStepDone f s
  | .dbgFldCapture r f v => Sys2Proof.Machine.execDbgFldCapture r f v s
  | .captureDone f => Sys2Proof.Machine.execCaptureDone f s
  | .dbgCoreHalt r v => Sys2Proof.Machine.execDbgCoreHalt r v s
  | .dbgCoreRun r v => Sys2Proof.Machine.execDbgCoreRun r v s
  | .dbgCoreStep r v => Sys2Proof.Machine.execDbgCoreStep r v s
  | .cfgPass1Done g img rd => Sys2Proof.Machine.execCfgPass1Done g img rd s
  | .cfgWriterStart => Sys2Proof.Machine.execCfgWriterStart s
  | .cfgFieldWritten f ok => Sys2Proof.Machine.execCfgFieldWritten f ok s
  | .cfgStartupStep g => Sys2Proof.Machine.execCfgStartupStep g s
  | .cfgLockTimeout g => Sys2Proof.Machine.execCfgLockTimeout g s
  | .cfgStoreCopy f => Sys2Proof.Machine.execCfgStoreCopy f s
  | .cfgScrubRead f frame upsets => Sys2Proof.Machine.execCfgScrubRead f frame upsets s
  | .cfgXspiCmd r v => Sys2Proof.Machine.execCfgXspiCmd r v s
  | .cfgXspiDone data => Sys2Proof.Machine.execCfgXspiDone data s
  | .powerOn vbat gang gangId boot => Sys2Proof.Machine.execPowerOn vbat gang gangId boot s
  | .resetNFall => Sys2Proof.Machine.execResetNFall s
  | .resetNRise => Sys2Proof.Machine.execResetNRise s
  | .startCmdCold r v => Sys2Proof.Machine.execStartCmdCold r v s
  | .startCmdWarm r v => Sys2Proof.Machine.execStartCmdWarm r v s
  | .retentionDone => Sys2Proof.Machine.execRetentionDone s
  | .startStepComplete x => Sys2Proof.Machine.execStartStepComplete x s
  | .gangBootLoad => Sys2Proof.Machine.execGangBootLoad s
  | .railOutOfRange g => Sys2Proof.Machine.execRailOutOfRange g s
  | .brownOut => Sys2Proof.Machine.execBrownOut s
  | .pwrCmd r v => Sys2Proof.Machine.execPwrCmd r v s
  | .powerStateChangeDone => Sys2Proof.Machine.execPowerStateChangeDone s
  | .powerCapTick mw => Sys2Proof.Machine.execPowerCapTick mw s
  | .capLimit => Sys2Proof.Machine.execCapLimit s
  | .thermWarn => Sys2Proof.Machine.execThermWarn s
  | .thermTrip => Sys2Proof.Machine.execThermTrip s
  | .pwrFailFall => Sys2Proof.Machine.execPwrFailFall s
  | .pwrFailRise => Sys2Proof.Machine.execPwrFailRise s
  | .sensorSample k v satur => Sys2Proof.Machine.execSensorSample k v satur s
  | .monFifoPop r k => Sys2Proof.Machine.execMonFifoPop r k s
  | .refJudgeWindow j n => Sys2Proof.Machine.execRefJudgeWindow j n s
  | .refclkWaitTimeout => Sys2Proof.Machine.execRefclkWaitTimeout s
  | .refLoss j => Sys2Proof.Machine.execRefLoss j s
  | .refDevWindow j n => Sys2Proof.Machine.execRefDevWindow j n s
  | .clkRootWrite r v => Sys2Proof.Machine.execClkRootWrite r v s
  | .clockSwitchDone => Sys2Proof.Machine.execClockSwitchDone s
  | .intFail => Sys2Proof.Machine.execIntFail s
  | .rootStop => Sys2Proof.Machine.execRootStop s
  | .clkGateWrite r n v => Sys2Proof.Machine.execClkGateWrite r n v s
  | .clkGateReady n => Sys2Proof.Machine.execClkGateReady n s
  | .clkmonCtrlWrite r v => Sys2Proof.Machine.execClkmonCtrlWrite r v s
  | .ttcSyncMeasure die => Sys2Proof.Machine.execTtcSyncMeasure die s
  | .kelkSRetestDone b found => Sys2Proof.Machine.execKelkSRetestDone b found s
  | .kelkWRetestDone w found => Sys2Proof.Machine.execKelkWRetestDone w found s
  | .kelkWCrossingRestart f e => Sys2Proof.Machine.execKelkWCrossingRestart f e s
  | .gstUnfence r v => Sys2Proof.Machine.execGstUnfence r v s
  | .gstFence r v => Sys2Proof.Machine.execGstFence r v s
  | .gstReset r v => Sys2Proof.Machine.execGstReset r v s
  | .guestTrainDone rate => Sys2Proof.Machine.execGuestTrainDone rate s
  | .guestTrainTimeout => Sys2Proof.Machine.execGuestTrainTimeout s
  | .guestFlitReceive bytes => Sys2Proof.Machine.execGuestFlitReceive bytes s
  | .guestResetTimeout => Sys2Proof.Machine.execGuestResetTimeout s
  | .guestLinkDown => Sys2Proof.Machine.execGuestLinkDown s
  | .ioPinWrite r b p v => Sys2Proof.Machine.execIoPinWrite r b p v s
  | .gpioSet r b v => Sys2Proof.Machine.execGpioSet r b v s
  | .gpioClr r b v => Sys2Proof.Machine.execGpioClr r b v s
  | .gpioTgl r b v => Sys2Proof.Machine.execGpioTgl r b v s
  | .gpioInputChange b p v => Sys2Proof.Machine.execGpioInputChange b p v s
  | .trigInEdge b p => Sys2Proof.Machine.execTrigInEdge b p s
  | .i2cGo r b v => Sys2Proof.Machine.execI2cGo r b v s
  | .i2cDone b e n rx => Sys2Proof.Machine.execI2cDone b e n rx s
  | .i2cStretchTimeout b n rx => Sys2Proof.Machine.execI2cStretchTimeout b n rx s
  | .spiGo r b v => Sys2Proof.Machine.execSpiGo r b v s
  | .spiDone b rx => Sys2Proof.Machine.execSpiDone b rx s
  | .uartTx r b v => Sys2Proof.Machine.execUartTx r b v s
  | .uartTxByteSent b => Sys2Proof.Machine.execUartTxByteSent b s
  | .uartRxByte b d frameErr parityErr brk => Sys2Proof.Machine.execUartRxByte b d frameErr parityErr brk s
  | .uartRx r b => Sys2Proof.Machine.execUartRx r b s
  | .parInGo r m v => Sys2Proof.Machine.execParInGo r m v s
  | .parishFlush fail => Sys2Proof.Machine.execParishFlush fail s
  | .parishScan => Sys2Proof.Machine.execParishScan s
  | .fcReport => Sys2Proof.Machine.execFcReport s
  | .incidentClose e => Sys2Proof.Machine.execIncidentClose e s
  | .fcAck r v => Sys2Proof.Machine.execFcAck r v s
  | .activeClockEdge f edges ext lateCells lateSr lateMacs upsets => Sys2Proof.Machine.execActiveClockEdge f edges ext lateCells lateSr lateMacs upsets s
  | .prbsCheck l bits => Sys2Proof.Machine.execPrbsCheck l bits s
  | .ctsNChange b v => Sys2Proof.Machine.execCtsNChange b v s
  | .pcieLinkUp => Sys2Proof.Machine.execPcieLinkUp s

end Sys2Proof.Machine
end

