-- ==== Sys2Proof/Machine/Tick.lean ====
section
/-! DEFINITION. One nanosecond with no command waiting (DESIGN CHOICE, log entry 2): the test time counter, the calendar and the RTC (R451,
R547), and watchdogs that debug suspends (R476). -/
namespace Sys2Proof.Machine

/-- Whether the test time counter counts: from step 3 of a start on, while its clock runs (R544, R547). -/
def State.ttcRuns (s : State) : Bool := decide (3 ≤ s.rf startBlk R.START_STAT_STEP) && !s.deaf

/-- What one tick adds to the counter: on INT its rate is open within 8 %, so that in every thirteenth tick it adds 0, 1 or 2 (R547). -/
def State.ttcStep (s : State) : Nat × State :=
  if s.ttcRuns then
    if s.flag clkBlk R.CLK_REF_STAT_TTC_FREE && s.now % 13 == 0 then let (x, s) := s.fresh; (x % 3, s) else (1, s)
  else (0, s)

/-- The calendar advanced with the counter, and slewed toward the RTC by 1 ns in 10,000, 100 ppm, while the RTC is valid (R451). -/
def State.calStep (s : State) (d : Nat) : Nat :=
  let c := s.cal + d
  if s.ttcRuns && s.flag bkBlk R.BK_STAT_RTC_VALID && s.now % 10000 == 0 then
    if c < s.rtc then c + 1 else if s.rtc < c then c - 1 else c
  else c

/-- A tick of the 32.768 kHz crystal falls in the ns that ends at a time of the RTC (R451). -/
def crystalTick (t : Nat) : Bool := t * 32768 / 1000000000 != (t - 1) * 32768 / 1000000000

/-- One nanosecond passes. -/
def State.tick (s : State) : State :=
  let (d, s) := s.ttcStep
  let s := { s with now := s.now + 1, ttc := (s.ttc + d) % 2 ^ 64, cal := s.calStep d, rtc := s.rtc + 1 }
  let s := if s.coreHeldByDebug then
      (List.range 4).foldl (fun s c => s.setCore c { s.core c with kick := (s.core c).kick + 1 }) s
    else s
  if s.sec.rtcSet && crystalTick s.rtc then s.rtcLoad else s

end Sys2Proof.Machine
end

