-- ==== Sys2Proof/Safety.lean ====
section
/-! DEFINITION. What holds of every state a step can reach from a state that has it: the canonical form of the stored tables, what was ordered,
and what stays of the record of outputs. -/
namespace Sys2Proof.Machine

/-- The canonical form of the block memories and granaries: addresses strictly rising and no entry equal to what an unlisted address reads as,
a zero word (R104, R117, R133). -/
def MemSt.wf (m : MemSt) : Bool :=
  tabWf (fun _ => 0) m.bm && tabWf (fun _ => 0) m.bmSpare && tabWf (fun _ => 0) m.gr && tabWf (fun _ => 0) m.grSpare

/-- The canonical form of the stored DRAM lines, whose unlisted line is a zero line (R320). -/
def DramSt.wf (d : DramSt) : Bool := tabWf (fun _ => {}) d.lines

/-- The canonical form of the registers, the pair latches and the staged halves (R31, R40, R42): no register is listed at its reset value. -/
def State.regsWf (s : State) : Bool :=
  tabWf regReset s.regs && tabWf (fun _ => 0) s.latch && tabWf (fun _ => none) s.staged

/-- Every stored table has its one canonical form, so that equal contents are equal data. -/
def State.Inv (s : State) : Prop := s.regsWf = true ∧ s.mem.wf = true ∧ s.dram.wf = true

/-- `t` is a possible later state of `s`: what was ordered is as it was (R2-R5), every output stands, newest first, and no free value is used
twice. -/
def State.Later (s t : State) : Prop := t.part = s.part ∧ (∃ l, t.outs = l ++ s.outs) ∧ s.free ≤ t.free

/-- The pieces of the state, by the names of its fields. -/
inductive Place where
  | pending | part | mode | now | ttc | cal | rtc | free | outs | regs | latch | staged
  | diesDown | fab | mem | site | pcie | par | kelk | ring | llp | cap | clk | mill
  | dram | host | cfg | sec | dbg | fills | gpio | start | cores | guest | com | ledger
  deriving DecidableEq, Repr

/-- A piece of the state is the same in two states. -/
def Place.same (p : Place) (s t : State) : Prop :=
  match p with
  | .pending => t.pending = s.pending
  | .part => t.part = s.part
  | .mode => t.mode = s.mode
  | .now => t.now = s.now
  | .ttc => t.ttc = s.ttc
  | .cal => t.cal = s.cal
  | .rtc => t.rtc = s.rtc
  | .free => t.free = s.free
  | .outs => t.outs = s.outs
  | .regs => t.regs = s.regs
  | .latch => t.latch = s.latch
  | .staged => t.staged = s.staged
  | .diesDown => t.diesDown = s.diesDown
  | .fab => t.fab = s.fab
  | .mem => t.mem = s.mem
  | .site => t.site = s.site
  | .pcie => t.pcie = s.pcie
  | .par => t.par = s.par
  | .kelk => t.kelk = s.kelk
  | .ring => t.ring = s.ring
  | .llp => t.llp = s.llp
  | .cap => t.cap = s.cap
  | .clk => t.clk = s.clk
  | .mill => t.mill = s.mill
  | .dram => t.dram = s.dram
  | .host => t.host = s.host
  | .cfg => t.cfg = s.cfg
  | .sec => t.sec = s.sec
  | .dbg => t.dbg = s.dbg
  | .fills => t.fills = s.fills
  | .gpio => t.gpio = s.gpio
  | .start => t.start = s.start
  | .cores => t.cores = s.cores
  | .guest => t.guest = s.guest
  | .com => t.com = s.com
  | .ledger => t.ledger = s.ledger

/-- Every piece of the state but those listed is unchanged. -/
def Frame (l : List Place) (s t : State) : Prop := ∀ p, p ∉ l → p.same s t

/-- Every register but those at the keys listed is unchanged. -/
def RegsBut (l : List Nat) (s t : State) : Prop := ∀ k, k ∉ l → t.rd k = s.rd k

/-- The registers by which the device gives notice of an event: the Parish log, the site blocks and the function block of PF0 (R299-R301, R373,
R599, R600). -/
abbrev noticeReg (k : Nat) : Prop := (0x940000 ≤ k ∧ k < 0x950000) ∨ (0xA00000 ≤ k ∧ k < 0xA40000) ∨ (0xC00000 ≤ k ∧ k < 0xC01000)

/-- Every register is unchanged but those at the keys listed and those that give notice. -/
def RegsBeside (l : List Nat) (s t : State) : Prop := ∀ k, k ∉ l → ¬ noticeReg k → t.rd k = s.rd k

/-- The port of a block memory. -/
def bmPortOf (g : BmCfg) (portB : Bool) : BmPort := if portB then g.pb else g.pa

/-- What a checked or unchecked read of a block memory word gives, with no effect (R125-R127). -/
def State.bmSees (s : State) (g : BmCfg) (f b w : Nat) : EccRes := (s.bmRead f b w 0 g.ecc).1

/-- Block memory words other than the one named read as they did. -/
def BmWordsBut (f b w : Nat) (s t : State) : Prop :=
  ∀ f' b' w', b' < 96 → w' < 1024 → (f', b', w') ≠ (f, b, w) → t.bmWord f' b' w' = s.bmWord f' b' w'

/-- Every block memory word reads as it did. -/
def BmWordsSame (s t : State) : Prop := ∀ f b w, t.bmWord f b w = s.bmWord f b w

/-- The ECC status, capture and count registers of a field's block memories (R138). -/
def bmErrRegs (f : Nat) : List Nat :=
  [fieldPage f + R.BM_STAT, fieldPage f + R.BM_CE_ADDR, fieldPage f + R.BM_UE_ADDR, fieldPage f + R.BM_CE_CNT, fieldPage f + R.BM_UE_CNT]

/-- A command meets a block that answers and an access its requester may make, with no grant of its own under way in the hub (R33, R34, R38, R39):
what follows is the command's own effect. -/
abbrev State.Allows (s : State) (r : Req) (a : Nat) (write : Bool) : Prop :=
  s.deaf = false ∧ s.gate r a write = .ok ∧ s.grantWaits r a = false

/-- The state after an access the firewall may refuse: the refusal is counted at the stop that refuses, other codes count nothing (R34, R163). -/
def State.counted (s : State) (r : Req) (a : Nat) (write : Bool) : State := if s.gate r a write = .denied then s.regDenied r a write else s

/-- The command answers a next state, and it is one of which `P` holds. -/
def Gives (c : Instr) (s : State) (P : State → Prop) : Prop := ∃ t, exec c s = .next t ∧ P t

/-! ### What the statements say of a next state -/

/-- A 32-bit counter register has counted `n` events, saturating (R43). -/
def Counted (k n : Nat) (s t : State) : Prop := t.rd k = BitVec.ofNat 32 (satAdd 0xFFFFFFFF (s.rd k).toNat n)

/-- What a checked read of a granary quarter gives, with no effect (R126). -/
def State.grSees (s : State) (g q : Nat) : EccRes := (s.grRead g q 0).1

/-- What a checked or unchecked read of stored block memory bits gives (R125-R127). -/
def eccOf (g : BmCfg) (x : BitVec 72) : EccRes :=
  if g.ecc then eccRead cols8 8 (natBits x.toNat 63 0) (natBits x.toNat 71 64) else ⟨natBits x.toNat 63 0, 0, false, false⟩

/-- A port's clock runs no faster than its row of R111. -/
abbrev State.inRow (s : State) (f : Nat) (g : BmCfg) (p : BmPort) : Prop := s.ckAbove f p.ck.ck.val (portLimit s.part.grade g p) = false

/-- Granary quarters other than those that pass a test read as they did. -/
def GrQuartersBut (p : Nat → Nat → Prop) (s t : State) : Prop :=
  ∀ g q, q < 131072 → ¬ p g q → t.grQuarter g q = s.grQuarter g q

/-- The ECC status, capture and count registers of a granary (R139). -/
def grErrRegs (g : Nat) : List Nat :=
  [granBlk g + R.GR_STAT, granBlk g + R.GR_CE_ADDR, granBlk g + R.GR_UE_ADDR, granBlk g + R.GR_CE_CNT, granBlk g + R.GR_UE_CNT]

/-- A LANE_CMD command with no bit beside its own comes from a source that may give it (R181, R255). -/
def State.laneSrcOk (s : State) (l : Nat) : LaneSrc → Prop
  | .reg r o => o = 0 ∧ s.Allows r (laneBlk l + R.LANE_CMD) true
  | .port o => o = 0 ∧ (s.laneMode l = 1 ∨ s.laneMode l = 2) ∧ s.lrOn l R.LR_CTRL_PORT_EN = true

/-- A flit waits at an output of a stop or is on its way from it (R144, R153). -/
def State.leaves (t : State) (n : Nat) (f : Flit) : Prop := ∃ x, (x ∈ t.ring.wait ∨ x ∈ t.ring.flight) ∧ x.cur = n ∧ x.raw = f.encode

/-- Flits waiting at outputs and on their way. -/
def State.flits (s : State) : Nat := s.ring.wait.length + s.ring.flight.length

/-- A FAULT of a request to a ring address is counted in the requester's REGBUS instance of the die addressed (R46). -/
def FaultCounted (r : Req) (die : Nat) (s t : State) : Prop :=
  Counted (regbusBlk die (regbusIdx r.sid.toNat) + R.REGBUS_FAULT_CNT) 1 s t ∧
  t.flag (regbusBlk die (regbusIdx r.sid.toNat)) R.REGBUS_STAT_FAULT_SEEN = true ∧
  RegsBut [regbusBlk die (regbusIdx r.sid.toNat) + R.REGBUS_FAULT_CNT, regbusBlk die (regbusIdx r.sid.toNat) + R.REGBUS_STAT] s t

/-- Items that leave a lane one after another from a running disparity, newest first (R175). -/
def laneOuts (l : Nat) : List LaneItem → Bool → List Output
  | [], _ => []
  | i :: is, rd => laneOuts l is (lineSymbols i rd).2 ++ [.laneTx l i rd]

/-- What a lane's transmitter emits for items: nothing in the asynchronous safe state (R174). -/
def State.sent (s : State) (l : Nat) (is : List LaneItem) : List Output := if s.clk.safe then [] else laneOuts l is (s.lane l).rdTx

/-- A lane's registers, of which these hold its state and its alignment (R190). -/
def laneRegs (l : Nat) : List Nat := [laneBlk l + R.LANE_STAT, laneBlk l + R.LANE_ALIGN]

/-- The queue of a channel toward Commons on side `b`, and the one from it (R384). -/
def State.cmnIn (s : State) (c : Nat) (b : Bool) : List Word := if b then (s.mbxQ c).toB else (s.mbxQ c).toA
def State.cmnOut (s : State) (c : Nat) (b : Bool) : List Word := if b then (s.mbxQ c).toA else (s.mbxQ c).toB

/-- Commons runs and holds from channel `c` a complete request `q` for command `k` of group `g`, which nothing earlier keeps waiting (R391, R397,
R398). -/
def State.Runs (s : State) (c : Fin 128) (g k : Nat) (q : CmdReq) : Prop :=
  s.deaf = false ∧ s.hbState = 1 ∧ s.cmdReq c = some q ∧ q.group = g ∧ q.cmd = k ∧ q.whole = true ∧ q.resp = none ∧ s.cmdBlocked c q = false

/-- The request is answered with STATUS, DETAIL and result words from a state of which `P` holds (R393). -/
def Answered (c : Fin 128) (q : CmdReq) (st d : Nat) (ws : List Word) (P : State → Prop) (t : State) : Prop :=
  ∃ u, P u ∧ t = u.cmnReply c q st d ws

/-- None of the checks on a request's words finds a fault. -/
def Passes (l : List (Bool × Nat × Nat)) : Prop := ∀ x ∈ l, x.1 = false

/-- The journal of Commons holds one entry for a channel. -/
def State.journals (s : State) (c : Nat) (q : CmdReq) : Prop := s.com.req.filter (fun e => e.1 == c) = [(c, some q)]

/-- A start is running and its step `n` is the one that completes next (R509, R510). -/
def State.starts (s : State) (n : Nat) : Prop := s.start.run = true ∧ s.start.ret = false ∧ s.deaf = false ∧ s.nextStep = n

/-- A start that stops with CODE and ARG (R513). -/
def StartStopped (code arg : Nat) (s t : State) : Prop :=
  t.start.run = false ∧ t.start.posture = none ∧ t.rf startBlk R.START_STAT_CODE = code ∧ t.rf startBlk R.START_STAT_ARG = arg ∧ t.stepNo = s.stepNo

/-- The registers a start writes for itself as it begins (R507, R531). -/
def startRegKeys : List Nat := [startBlk + R.START_STAT, startBlk + R.START_CAUSE, startBlk + R.START_CFG, startBlk + R.PWR_CAP]

/-- A start has begun: its cause, its settings as read from flash, no step done (R507, R531). -/
def Begun (warm : Bool) (cause : Nat) (s t : State) : Prop :=
  t.start.run = true ∧ t.start.hold = false ∧ t.start.ret = false ∧ t.start.warm = warm ∧ t.rf startBlk R.START_CAUSE_CAUSE = cause ∧
  t.rd (startBlk + R.START_CFG) = s.start.boot &&& 0xE0000003 ∧ t.stepNo = 0 ∧ t.flag startBlk R.START_STAT_WARM = warm ∧
  t.flag startBlk R.START_STAT_DONE = false ∧ t.diesDown = 0x1FE ∧ t.ttc = 0

/-- What a cold start leaves (R507): the backup and debug domains, fuses, flash and the ledger; every other register and memory as at reset. -/
def ColdLeaves (s t : State) : Prop :=
  t.mode = modeOf (wordBits s.start.boot 1 0) ∧ (∀ k, coldKept k = true → t.rd k = s.rd k) ∧
  (∀ k, coldKept k = false → k ∉ startRegKeys → t.rd k = regReset k) ∧ t.sec.lc = s.lcTorn.sec.lc ∧ t.sec.bbkey = s.sec.bbkey ∧ t.rtc = s.rtc ∧
  t.ledger = s.ledger ∧ t.par.staging = [] ∧ t.par.ring = [] ∧ t.mem = {} ∧ t.dram = {} ∧ t.site = {} ∧ t.cfg.recs = [] ∧ t.cfg.groups = [] ∧
  t.fab = {} ∧ t.llp = {} ∧ t.ring = {} ∧ t.cores = {} ∧ t.gpio = []

/-- One report has been sent, keyed to `key`, with CODE, DATA and the sites it concerns (R583, R592). -/
def Reported (key code data sites : Nat) (s t : State) : Prop :=
  ∃ x, t.par.reports = s.par.reports ++ [x] ∧ x.key = key ∧ x.code = code ∧ x.source = key ∧ x.data = data ∧ x.sites = sites

/-- Every field's STRETCH is the one R84 gives it, but for a configured field that is halted, whose change waits (R473). -/
def Stretched (t : State) : Prop :=
  ∀ f, f < 128 → t.rf (fieldPage f) R.FCK_STAT_STRETCH = t.stretchOf f ∨ ((t.frt f).configured = true ∧ t.fieldHalted f = true)

/-- A temperature channel's latest reading in 1/128 degree (R528). -/
def State.tempOf (s : State) (n : Nat) : Int := signed16 (wordBits (s.rd (monBlk + R.MON_SMP + 4 * n)) 15 0)

/-- The FCK_STAT registers. -/
def fckStats : List Nat := (List.range 128).map (fun f => fieldPage f + R.FCK_STAT)

/-- The judging counts of a reference input, newest first (R535). -/
def State.refWin (s : State) (i : Nat) : List Nat := if i = 0 then s.clk.winA else s.clk.winB

/-- The bounds of a class in 0.1 MHz (R533). -/
def classBounds : List (Nat × Nat × Nat) :=
  [(1, 895, 1118), (2, 1118, 1398), (3, 1398, 1768), (4, 1768, 2236), (5, 2236, 2795), (6, 2795, 3536), (7, 3536, 4472)]

/-- The root has fallen back from input `i` to INT (R541). -/
def FellBack (nmi : Bool) (i : Nat) (s t : State) : Prop :=
  t.rf clkBlk R.CLK_ROOT_SEL = 2 ∧ t.rf clkBlk R.CLK_ROOT_ACTIVE = 2 ∧ t.flag clkBlk R.CLK_ROOT_SWITCHING = true ∧
  t.flag clkBlk R.CLK_REF_STAT_FALLBACK = true ∧ t.flag clkBlk R.CLK_REF_STAT_TTC_FREE = true ∧ t.clk.fb = true ∧ (nmi = true → Output.reeveNmi ∈ t.outs) ∧
  (∃ x l, t.par.reports = s.par.reports ++ x :: l ∧ x.key = locator 1 i ∧ x.code = 0x0040 ∧ x.sites = s.liveSites) ∧
  (∀ f, f < 128 → (s.frt f).configured = true → (t.frt f).configured = true → s.fieldHalted f = false → 6 ≤ t.rf (fieldPage f) R.FCK_STAT_STRETCH) ∧
  (∀ l, l < 512 → if s.laneState l = 0 then t.laneState l = 0 else t.laneState l = 7 ∧ t.rf (laneBlk l) R.LANE_STAT_DOWN_CAUSE = 4) ∧
  t.pcie.linkUp = false ∧ t.pcie.vfEn = false ∧ t.pcie.numVfs = 0 ∧
  (∀ n, n < 64 → s.siteState n = 1 → t.siteState n = 2 ∧ t.rf (siteBlk n) R.SITE_STAT_CAUSE = 1) ∧
  Frame [.free, .outs, .regs, .fab, .mem, .site, .pcie, .par, .ring, .llp, .cap, .clk, .mill, .host, .cfg, .dbg] s t

/-- The level that a pin's IMODE names holds (R577). -/
def State.pinLevel (s : State) (b p : Nat) : Bool :=
  (s.pinF b p R.IO_PIN_IMODE == 4 && s.pinBit b R.GPIO_IN p) || (s.pinF b p R.IO_PIN_IMODE == 5 && !s.pinBit b R.GPIO_IN p)

/-- Byte `i` of a buffer of registers, lowest first (R570, R571). -/
def State.byteAt (s : State) (a i : Nat) : Byte := BitVec.ofNat 8 ((s.rd (a + 4 * (i / 4))).toNat / 256 ^ (i % 4))

/-- The UART's levels as its FIFOs give them (R572). -/
def UartShows (b : Nat) (t : State) : Prop := (t.bank b).tx.length ≤ 32 → (t.bank b).rx.length ≤ 32 →
  t.rf (gpioBlk b) R.UART_STAT_TX_LEVEL = (t.bank b).tx.length ∧ t.rf (gpioBlk b) R.UART_STAT_RX_LEVEL = (t.bank b).rx.length ∧
  t.flag (gpioBlk b) R.UART_STAT_TX_EMPTY = (t.bank b).tx.isEmpty ∧ t.flag (gpioBlk b) R.UART_STAT_RX_AVAIL = !(t.bank b).rx.isEmpty

/-- The record that a GO of PAR_IN set `m` stages (R581, R591). -/
def State.parInRec (s : State) (m : Nat) : PRec :=
  let b := parishBlk + 0x20 * m
  ⟨recSeq s.par.next, s.cal, s.cal, s.rf b R.PAR_IN_A_CODE, s.rf b R.PAR_IN_A_SOURCE, s.rf b R.PAR_IN_B_SEVERITY, s.rf b R.PAR_IN_B_SITE, 1,
    s.rd64 (b + R.PAR_IN_D_LO)⟩

/-- The records of a flash block that are after PAR_MARK (R587). -/
def State.unreadIn (s : State) (b : Nat) : Nat :=
  (s.par.flash.filter (fun e => e.1 / 2048 == b && (match e.2 with
    | .held r => seqAfter r.seq (s.rd (parishBlk + R.PAR_MARK)).toNat | _ => false))).length

/-- The newest valid block header of the flash area (R588). -/
def State.newestHeader (s : State) (h : PRec) : Prop :=
  (∃ i, (i, FlashSlot.held h) ∈ s.par.flash ∧ i % 2048 = 0) ∧ h.code = 1 ∧
  ∀ j o, (j, FlashSlot.held o) ∈ s.par.flash → j % 2048 = 0 → o.code = 1 → o = h ∨ seqAfter h.seq o.seq = true

/-- The registers of the parish block that staging writes (R599). -/
def stageRegs : List Nat :=
  [parishBlk + R.PAR_SEQ_NEW, parishBlk + R.PAR_STAGED, parishBlk + R.PAR_SEQ_OLD, parishBlk + R.PAR_STAT, parishBlk + R.PAR_STAGE_DROP_CNT]

/-- Sites of a set see an incident that they were not in before: INCIDENT, and the entry in SITE_INCIDENT (R595). -/
def Sees (have_ sites code e : Nat) (t : State) : Prop :=
  ∀ n, n < 64 → natBit sites n = true → natBit have_ n = false → t.flag (siteBlk n) R.SITE_STAT_INCIDENT = true ∧
    t.rf (siteBlk n) R.SITE_INCIDENT_EVENT = code ∧ t.rf (siteBlk n) R.SITE_INCIDENT_INDEX = e

end Sys2Proof.Machine
end

