-- ==== Sys2Proof/Certificates/Slice0/Obligations.lean ====
section
/-! DEFINITION. The statements for the provers: for every family of commands what its commands do and what they leave unchanged, and what holds of
every step. -/
open Sys2Proof Sys2Proof.Machine

/-- A step takes the command at the front of the queue and performs it on the state with the queue's rest. -/
def Obligations.StepTakesFrontCommand : Prop :=
  ∀ (s : State) (c : Instr) (q : List Instr), step { s with pending := c :: q } = exec c { s with pending := q }

/-- On an empty queue a step is one nanosecond of the model's time (the model's choice, log entry 2). With no RTC value waiting and no core
under debug control, only the time counters move: the test time counter by at most 2 and not at all while it does not run, the RTC by one. -/
def Obligations.EmptyQueueTicks : Prop :=
  (∀ s : State, s.pending = [] → s.sec.rtcSet = false → s.coreHeldByDebug = false →
    ∃ t, step s = .next t ∧ t.now = s.now + 1 ∧ t.rtc = s.rtc + 1 ∧ Frame [.now, .ttc, .cal, .rtc, .free] s t ∧
      (s.ttcRuns = false → t.ttc = s.ttc % 2 ^ 64 ∧ t.cal = s.cal) ∧
      (s.ttcRuns = true → s.flag clkBlk R.CLK_REF_STAT_TTC_FREE = false → t.ttc = (s.ttc + 1) % 2 ^ 64 ∧ t.free = s.free) ∧
      (∃ d, d ≤ 2 ∧ t.ttc = (s.ttc + d) % 2 ^ 64)) ∧
  (∀ s : State, s.pending = [] → ∃ t, step s = .next t ∧ t.now = s.now + 1 ∧ t.outs = s.outs ∧ t.pending = [] ∧ t.mem = s.mem ∧ t.dram = s.dram ∧
    t.ring = s.ring ∧ t.llp = s.llp)

/-- The machine right after reset: no command waits, the device dies beside the hub are down (R13), the mode is Market, no register is listed
apart from its reset value, no memory word, channel record, queue entry or transaction is held, and nothing has been put out. The values of a
register the spec gives no reset for are the model's (log entry 4). -/
def Obligations.ResetState : Prop :=
  State.reset.pending = [] ∧ State.reset.mode = .market ∧ State.reset.outs = [] ∧
  (∀ k, State.reset.rd k = regReset k) ∧
  (∀ d, 1 ≤ d → d ≤ 8 → State.reset.dieDown d = true) ∧ State.reset.dieDown 0 = false ∧
  (∀ f b w, State.reset.bmWord f b w = 0) ∧ (∀ f, f < 128 → State.reset.fieldInReset f = true) ∧
  State.reset.fieldOwner 0 = 0x7F ∧ State.reset.rf startBlk R.START_STAT_STEP = 0 ∧ State.reset.rd (fieldPage 37 + R.FCK_CTRL) = 0x202000

/-- At reset every stored table has its canonical form. -/
def Obligations.ResetCanonical : Prop := State.reset.Inv

/-- Every step keeps the canonical form of the registers, of the pair latches and staged halves, of the block memories and granaries and of the
stored DRAM lines, whatever command it takes and from whatever state. -/
def Obligations.StepKeepsCanonical : Prop := ∀ s t : State, s.Inv → step s = .next t → t.Inv

/-- Every step answers a next state. It takes the front command and no other from the queue, leaves what was ordered as it was, withdraws no
output, and uses no free value twice. -/
def Obligations.StepTotal : Prop :=
  ∀ s : State, ∃ t, step s = .next t ∧ t.pending = s.pending.tail ∧ s.Later t

/-- A register command whose requester or target the access rules refuse is answered with the code of that refusal, once, and has no other
effect but the count and the status of the stop whose firewall refuses; while the hub is held in reset or the asynchronous safe state stops every
clock, it is answered INRESET (R34); while an earlier grant of the same requester is under way in the hub, it cannot occur yet (the model's
choice, log entry 33). The commands named stand for every family that has registers. -/
def Obligations.RefusedRegisterCommands : Prop :=
  (∀ (r : Req) (v : Word) (f : Fin 128) (g : Fin 24) (n : Fin 64) (l : Fin 512) (q : Fin 128) (m : Fin 4) (ch : Fin 80) (k : Fin 65) (u : Fin 32)
    (c : Instr) (a : Nat) (s : State),
    (c, a) ∈ [(Instr.fckApply r f v, fieldPage f.val + R.FCK_APPLY), (.bmRewrite r f v, fieldPage f.val + R.BM_REWRITE),
      (.dbgFldHalt r f v, fieldPage f.val + R.DBG_FLD_CMD), (.grRewrite r u v, granBlk u.val + R.GR_REWRITE),
      (.qpllCtrlWrite r q v, quadBlk q.val + R.QPLL_CTRL), (.laneCtrlWrite r l v, laneBlk l.val + R.LANE_CTRL),
      (.linkRestart r l v, linkBlk l.val + R.LINK_CFG), (.lrCtrlWrite r l v, lrBlk l.val + R.LR_CTRL), (.fcuClr r u v, fcuBlk u.val + R.FCU_CLR),
      (.tallyCtrlWrite r n v, tallyBlk n.val + R.TALLY_CTRL), (.sicEoi r n v, siteBlk n.val + R.SIC_EOI),
      (.siteCmdReset r n v, siteBlk n.val + R.SITE_CMD), (.dmaTailWrite r ch v, dmaBlk ch.val + R.DMA_TAIL),
      (.encEnable r k v, encBlk k.val + R.ENC_CTRL), (.cmnCoreKick r m v, coreBlk m.val + R.CMN_CORE_KICK), (.bkRtcSet r v, bkBlk + R.BK_RTC_CMD),
      (.cfgXspiCmd r v, cfgBlk + R.CFG_XSPI_CMD), (.startCmdCold r v, startBlk + R.START_CMD), (.clkRootWrite r v, clkBlk + R.CLK_ROOT),
      (.gstUnfence r v, guestBlk + R.GST_CTRL), (.gpioSet r g v, gpioBlk g.val + R.GPIO_SET), (.fcAck r v, parishBlk + R.FC_ACK)] →
    (s.grantWaits r a = true → Gives c s (fun t => Frame [] s t)) ∧
    (s.deaf = true → s.grantWaits r a = false → Gives c s (fun t => t.outs = .rsp r .inReset [] :: s.outs ∧ Frame [.outs] s t)) ∧
    (s.deaf = false → s.grantWaits r a = false → s.gate r a true ≠ .ok →
      (s.gate r a true ≠ .denied ∨ s.regDeny r a true = none →
        Gives c s (fun t => t.outs = .rsp r (s.gate r a true) [] :: s.outs ∧ Frame [.outs] s t)) ∧
      (∀ n b : Nat, s.gate r a true = .denied → s.regDeny r a true = some n → stopRegs n = some b →
        Gives c s (fun t => t.outs.head? = some (.rsp r .denied []) ∧ Counted (b + R.RING_DENY_CNT) 1 s t ∧
          t.flag (statRegs n b) R.RING_STAT_DENY = true ∧ RegsBeside [b + R.RING_DENY_CNT, statRegs n b + R.RING_STAT] s t ∧
          Frame [.outs, .regs, .site, .pcie] s t)))) ∧
  (∀ (r : Req) (g : Fin 512) (l : Fin 512) (d : Fin 3072) (u : Fin 32) (v : Word) (c : Instr) (a : Nat) (s : State),
    (c, a) ∈ [(Instr.linkOwnerWrite r l v, linkBlk l.val + R.LINK_OWNER), (.fcuGranWrite r u g v, fcuBlk u.val + R.FCU_GRAN + 4 * g.val),
      (.dramOwnWrite r d v, dramHub + R.DRAM_OWN + 4 * d.val)] →
    s.Allows r a true → 64 ≤ v.toNat % 128 → v.toNat % 128 ≤ 126 →
    Gives c s (fun t => t.outs = .rsp r .fault [] :: s.outs ∧
      RegsBut [regbusBlk (a / 0x1000000) (regbusIdx r.sid.toNat) + R.REGBUS_FAULT_CNT,
        regbusBlk (a / 0x1000000) (regbusIdx r.sid.toNat) + R.REGBUS_STAT] s t ∧
      t.rf (regbusBlk (a / 0x1000000) (regbusIdx r.sid.toNat)) R.REGBUS_STAT_FAULT_SEEN = 1 ∧ Frame [.outs, .regs] s t))

/-- Register accesses (R33, R35-R37, R40, R42-R47). A word written to a register that only stores gives each field what its access type takes;
a status bit that hardware sets in the cycle of its clear stays set (here REGBUS_STAT); a misaligned access returns FAULT and reaches no
register; a read of a register clears its RC fields alone; a read of a _LO register fills the requester's latch with the high half; a write to
the _LO of a counter pair waits, and the write to _HI takes effect with it and with the events of its cycle. An access to the hub whose requester
has an earlier grant under way there waits for it, unanswered (R33); an access in a part that does not run is answered INRESET (R34). -/
def Obligations.RegisterAccessCommands : Prop :=
  (∀ (r : Req) (a : BitVec 48) (v : Word) (k : Nat) (b : Blk) (spec : RegSpec) (o : Nat) (s : State),
    s.deaf = false → s.grantWaits r (regionOfs a.toNat) = false →
    regionOfs a.toNat % 4 = 0 → s.locGate r (regionOfs a.toNat) true = .ok → locOf r (regionOfs a.toNat) = .reg k → regHere k = some (b, spec, o) →
    b ∈ [.sec, .kelk, .regbus, .dloc] → spec.pair = .none →
    Gives (.registerWrite r a (toBytes 4 v.toNat) []) s (fun t => t.outs = .rsp r .ok [] :: s.outs ∧ t.rd k = spec.store (s.rd k) v ∧
      RegsBut [k] s t ∧ Frame [.outs, .regs] s t)) ∧
  (∀ (r : Req) (d : Fin 9) (v m : Word) (s : State), s.deaf = false →
    s.grantWaits r (d.val * 0x1000000 + 0xF000) = false → s.locGate r (d.val * 0x1000000 + 0xF000) true = .ok →
    Gives (.registerWrite r (BitVec.ofNat 48 (0x1F0000000000 + d.val * 0x1000000 + 0xF000)) (toBytes 4 v.toNat)
        [(regbusBlk d.val (regbusIdx r.sid.toNat), .setBits m)]) s
      (fun t => t.rd (regbusBlk d.val (regbusIdx r.sid.toNat)) &&& (m &&& 7) = m &&& 7 ∧
        t.rd (regbusBlk d.val (regbusIdx r.sid.toNat)) &&& (v &&& 7 &&& ~~~m) = 0 ∧ t.outs = .rsp r .ok [] :: s.outs)) ∧
  (∀ (r : Req) (a : BitVec 48) (data : List Byte) (s : State), s.deaf = false →
    s.grantWaits r (regionOfs a.toNat) = false → 0x1F0000000000 ≤ a.toNat → a.toNat < 0x1F0009000000 → a.toNat % 4 ≠ 0 →
    Gives (.registerWrite r a data []) s (fun t => t.outs = .rsp r .fault [] :: s.outs ∧
      t.flag (regbusBlk (regionOfs a.toNat / 0x1000000) (regbusIdx r.sid.toNat)) R.REGBUS_STAT_FAULT_SEEN = true ∧
      (∀ k, k < 0x200000000 → t.rd k = s.rd k) ∧ Frame [.outs, .regs] s t)) ∧
  (∀ (r : Req) (a : BitVec 48) (k : Nat) (b : Blk) (spec : RegSpec) (o : Nat) (s : State),
    s.deaf = false → isDbg r = false → s.grantWaits r (regionOfs a.toNat) = false →
    regionOfs a.toNat % 4 = 0 → s.locGate r (regionOfs a.toNat) false = .ok → locOf r (regionOfs a.toNat) = .reg k → regHere k = some (b, spec, o) →
    b ∉ [.gpio, .mon] → spec.pair = .none →
    Gives (.rcRegisterRead r a 4 []) s (fun t => t.outs = .rsp r .ok [s.view r k b spec.ofs o] :: s.outs ∧
      t.rd (s.seenKey r k b) = s.rd (s.seenKey r k b) &&& ~~~(spec.mask (· == .rc)) ∧ RegsBut [s.seenKey r k b] s t ∧
      Frame [.outs, .regs] s t)) ∧
  (∀ (r : Req) (a : BitVec 48) (k : Nat) (b b' : Blk) (spec sp : RegSpec) (o o' : Nat) (s : State),
    s.deaf = false → isDbg r = false → s.grantWaits r (regionOfs a.toNat) = false →
    regionOfs a.toNat % 4 = 0 → s.locGate r (regionOfs a.toNat) false = .ok → locOf r (regionOfs a.toNat) = .reg k → regHere k = some (b, spec, o) →
    spec.pair = .lo ∨ spec.pair = .ctrLo → spec.mask (· == .rc) = 0 → regHere (k + 4) = some (b', sp, o') →
    Gives (.pairLoRead r a false) s (fun t => t.outs = .rsp r .ok [s.view r k b spec.ofs o] :: s.outs ∧
      tabGet (fun _ => 0) t.latch (pairKey k r) = s.view r (k + 4) b' sp.ofs o' ∧ (∀ j, t.rd j = s.rd j) ∧ Frame [.outs, .latch] s t)) ∧
  (∀ (r : Req) (a : BitVec 48) (v : Word) (k : Nat) (b : Blk) (spec : RegSpec) (o : Nat) (s : State),
    s.deaf = false → s.grantWaits r (regionOfs a.toNat) = false →
    regionOfs a.toNat % 4 = 0 → s.locGate r (regionOfs a.toNat) true = .ok → locOf r (regionOfs a.toNat) = .reg k → regHere k = some (b, spec, o) →
    spec.pair = .ctrLo → spec.mask (· == .rw) ≠ 0 → b ∉ [.link, .own] →
    Gives (.counterPairLoWrite r a v) s (fun t => t.outs = .rsp r .ok [] :: s.outs ∧
      tabGet (fun _ => none) t.staged (pairKey k r) = some v ∧ Frame [.outs, .staged] s t)) ∧
  (∀ (r : Req) (a : BitVec 48) (v : Word) (n k : Nat) (b : Blk) (spec : RegSpec) (o : Nat) (s : State),
    s.deaf = false → s.grantWaits r (regionOfs a.toNat) = false →
    regionOfs a.toNat % 4 = 0 → s.locGate r (regionOfs a.toNat) true = .ok → locOf r (regionOfs a.toNat) = .reg k → regHere k = some (b, spec, o) →
    spec.pair = .ctrHi → spec.mask (· == .rw) ≠ 0 → k = regionOfs a.toNat →
    Gives (.counterPairHiWrite r a v n) s (fun t => t.outs = .rsp r .ok [] :: s.outs ∧
      (∀ x, tabGet (fun _ => none) s.staged (pairKey (k - 4) r) = some x → t.rd64 (k - 4) = (v.toNat * 2 ^ 32 + x.toNat + n) % 2 ^ 64) ∧
      (tabGet (fun _ => none) s.staged (pairKey (k - 4) r) = none →
        t.rd64 (k - 4) = (v.toNat * 2 ^ 32 + (s.rd (k - 4)).toNat + n) % 2 ^ 64) ∧
      tabGet (fun _ => none) t.staged (pairKey (k - 4) r) = none ∧ RegsBut [k - 4, k] s t ∧ Frame [.outs, .regs, .staged] s t)) ∧
  (∀ (r : Req) (a : BitVec 48) (data : List Byte) (hw : List (Nat × HwUpd)) (s : State),
    (s.deaf = true → Gives (.registerWrite r a data hw) s (fun t => t.outs = .rsp r .inReset [] :: s.outs ∧ Frame [.outs] s t)) ∧
    (s.deaf = false → s.grantWaits r (regionOfs a.toNat) = true → Gives (.registerWrite r a data hw) s (fun t => Frame [.fills] s t ∧
      t.fills = s.fills.map (fun y => if y.req == some r then { y with later := y.later ++ [.write (regionOfs a.toNat) data hw] } else y)))) ∧
  (∀ (r : Req) (a : BitVec 48) (n : Nat) (hw : List (Nat × HwUpd)) (s : State),
    (s.deaf = true → Gives (.rcRegisterRead r a n hw) s (fun t => t.outs = .rsp r .inReset [] :: s.outs ∧ Frame [.outs] s t)) ∧
    (s.deaf = false → s.grantWaits r (regionOfs a.toNat) = true → Gives (.rcRegisterRead r a n hw) s (fun t => Frame [.fills] s t ∧
      t.fills = s.fills.map (fun y => if y.req == some r then { y with later := y.later ++ [.read (regionOfs a.toNat) n hw] } else y))))

/-- The field clock unit (R78-R80): an accepted FCK_APPLY holds the staged settings and stops the clocks with SWITCHING set; a GO with settings
that break a limit, or during SWITCHING, sets REFUSED and changes no setting; the restart puts the settings in force and clears SWITCHING. -/
def Obligations.FieldClockCommands : Prop :=
  (∀ (r : Req) (f : Fin 128) (v : Word) (s : State), s.Allows r (fieldPage f.val + R.FCK_APPLY) true → natBit v.toNat 0 = true →
    s.flag (fieldPage f.val) R.FCK_STAT_SWITCHING = false → (s.staged_ f.val).legal s.fabLimit = true →
    Gives (.fckApply r f v) s (fun t => (t.outs.head? = some (.rsp r .ok []) ∧ (t.frt f.val).pend = some (s.staged_ f.val) ∧
      t.flag (fieldPage f.val) R.FCK_STAT_SWITCHING = true ∧ t.rf (fieldPage f.val) R.FCK_STAT_CK_ON = 0 ∧
      RegsBeside [fieldPage f.val + R.FCK_STAT] s t) ∧ Frame [.outs, .regs, .fab, .site, .pcie] s t)) ∧
  (∀ (r : Req) (f : Fin 128) (v : Word) (s : State), s.Allows r (fieldPage f.val + R.FCK_APPLY) true → natBit v.toNat 0 = true →
    (s.flag (fieldPage f.val) R.FCK_STAT_SWITCHING = true ∨ (s.staged_ f.val).legal s.fabLimit = false) →
    Gives (.fckApply r f v) s (fun t => (t.outs = .rsp r .ok [] :: s.outs ∧ t.flag (fieldPage f.val) R.FCK_STAT_REFUSED = true ∧
      t.fab = s.fab ∧ RegsBut [fieldPage f.val + R.FCK_STAT] s t) ∧ Frame [.outs, .regs, .fab, .site, .pcie] s t)) ∧
  (∀ (f : Fin 128) (s : State) (x : ClkSet), (s.frt f.val).pend = some x →
    Gives (.fieldClockRestart f) s (fun t => ((t.frt f.val).pend = none ∧ (t.frt f.val).ckEn = x.en ∧
      t.flag (fieldPage f.val) R.FCK_STAT_SWITCHING = false ∧ t.flag (fieldPage f.val) R.FCK_STAT_LOCKED = true ∧
      t.rf (fieldPage f.val) R.FCK_CTRL_MULT = x.mult % 256) ∧ Frame [.outs, .regs, .fab, .site, .pcie] s t))

/-- Stile channels (R94-R98): a word accepted with a credit sets out and one offered without a credit does not; the oldest word in transit
arrives; consumption presents the word and frees its place; a side whose clock does not run accepts nothing; a returned credit is available again; a level reaches the receiver. Over a Kelk-W
group a corrected word arrives and is counted, and an uncorrectable one takes the crossing down (R552, R557). -/
def Obligations.StileCommands : Prop :=
  (∀ (f : Fin 128) (e : Fin 4) (c : Fin 256) (w : DWord) (s : State), s.crossOpen f.val e.val = true → s.fieldHalted f.val = false →
    (s.frt f.val).we = true → c.val < stileChans f.val e.val → 0 < s.stileWidth f.val e.val c.val →
    s.stileTxRuns f.val e.val c.val = true → 0 < (s.chan f.val e.val c.val).credits →
    Gives (.stileSend f e c w) s (fun t => ((t.chan f.val e.val c.val).credits = (s.chan f.val e.val c.val).credits - 1 ∧
      (t.chan f.val e.val c.val).transit = (s.chan f.val e.val c.val).transit ++ [BitVec.ofNat 64 (w.toNat % 2 ^ s.stileWidth f.val e.val c.val)]) ∧
      Frame [.fab] s t)) ∧
  (∀ (f : Fin 128) (e : Fin 4) (c : Fin 256) (w : DWord) (s : State), (s.chan f.val e.val c.val).credits = 0 →
    exec (.stileSend f e c w) s = .next s) ∧
  (∀ (f : Fin 128) (e : Fin 4) (c : Fin 256) (w : DWord) (s : State), s.stileTxRuns f.val e.val c.val = false →
    exec (.stileSend f e c w) s = .next s) ∧
  (∀ (f : Fin 128) (e : Fin 4) (c : Fin 256) (w : DWord) (l : List DWord) (s : State), (s.chan f.val e.val c.val).transit = w :: l →
    Gives (.stileWordArrive f e c .clean) s (fun t => ((t.chan f.val e.val c.val).transit = l ∧
      (t.chan f.val e.val c.val).buf = (s.chan f.val e.val c.val).buf ++ [w] ∧ t.regs = s.regs ∧ t.outs = s.outs) ∧
      Frame [.free, .outs, .regs, .fab, .site, .pcie, .par, .kelk] s t)) ∧
  (∀ (f : Fin 128) (e : Fin 4) (c : Fin 256) (g : Fin 1792) (w : DWord) (l : List DWord) (s : State), (groupServes g.val).2.2 = (f.val, e.val) →
    (s.chan f.val e.val c.val).transit = w :: l →
    Gives (.stileWordArrive f e c (.ce g)) s (fun t => ((t.chan f.val e.val c.val).transit = l ∧
      (t.chan f.val e.val c.val).buf = (s.chan f.val e.val c.val).buf ++ [w] ∧
      t.rf (kelkBlk + 4 * g.val) R.KELK_W_ERR = satAdd (2 ^ (R.KELK_W_ERR.hi + 1 - R.KELK_W_ERR.lo) - 1) (s.rf (kelkBlk + 4 * g.val) R.KELK_W_ERR) 1) ∧
      Frame [.free, .outs, .regs, .fab, .site, .pcie, .par, .kelk] s t)) ∧
  (∀ (f : Fin 128) (e : Fin 4) (c : Fin 256) (g : Fin 1792) (s : State), (groupServes g.val).2.2 = (f.val, e.val) →
    (stilePeer f.val e.val).isSome = true →
    Gives (.stileWordArrive f e c (.ue g)) s (fun t => (t.crossLost f.val e.val = true ∧
      t.flag (kelkBlk + 4 * g.val) R.KELK_W_UE_EVT = true ∧ (s.grpState g.val = 0 → t.grpState g.val = 1)) ∧
      Frame [.free, .outs, .regs, .fab, .site, .pcie, .par, .kelk] s t)) ∧
  (∀ (f : Fin 128) (e : Fin 4) (c : Fin 256) (g h n k : Nat) (w : DWord) (l : List DWord) (s : State), stilePeer f.val e.val = some (g, h, n, k) →
    s.fieldInReset g = false → s.fieldHalted g = false → s.stileRxRuns g h c.val = true → (s.chan f.val e.val c.val).buf = w :: l →
    Gives (.stileConsume f e c) s (fun t => (t.outs = .stileWord f.val e.val c.val w :: s.outs ∧ (t.chan f.val e.val c.val).buf = l ∧
      (t.chan f.val e.val c.val).ret = (s.chan f.val e.val c.val).ret + 1) ∧ Frame [.outs, .fab] s t)) ∧
  (∀ (f : Fin 128) (e : Fin 4) (c : Fin 256) (s : State), s.crossOpen f.val e.val = true → 0 < (s.chan f.val e.val c.val).ret →
    Gives (.stileCreditReturn f e c) s (fun t => ((t.chan f.val e.val c.val).credits = (s.chan f.val e.val c.val).credits + 1 ∧
      (t.chan f.val e.val c.val).ret = (s.chan f.val e.val c.val).ret - 1) ∧ Frame [.fab] s t)) ∧
  (∀ (f : Fin 128) (e : Fin 4) (l : Fin 64) (v : Bool) (s : State), s.crossOpen f.val e.val = true → s.fieldHalted f.val = false →
    l.val < stileLevels f.val e.val →
    Gives (.levelStileChange f e l v) s (fun t => (t.outs = .stileLevel f.val e.val l.val v :: s.outs ∧
      tabGet (fun _ => false) t.fab.level ((f.val * 4 + e.val) * 256 + l.val) = v) ∧ Frame [.outs, .fab] s t))

/-- Block memory ports (R106-R108, R111, R129, R130): a read of a port clocked within its row presents the entry its address names, corrected where
ECC is on, with the old entry at an edge shared with the other port's write and one of the two within t_COLL; a write stores the bits its mask names; no other word changes. -/
def Obligations.BmPortCommands : Prop :=
  (∀ (f : Fin 128) (b : Fin 96) (portB : Bool) (addr : BitVec 16) (regce rmw : Bool) (coll : Coll) (g : BmCfg) (s : State),
    s.bmLive f.val b.val = some g → g.queue = false → (rmw && (s.bmSt f.val b.val).narrow portB) = false → (bmPortOf g portB).dir.val ≠ 2 →
    (bmPortOf g portB).oreg = false → s.inRow f.val g (bmPortOf g portB) →
    Gives (.bmPortRead f b portB addr regce false rmw coll) s (fun t =>
      ((∃ x : BitVec 72, t.outs.head? = some (.bmDout f.val b.val portB (BitVec.ofNat 64 (natBits (eccOf g x).data
            (portBit (bmPortOf g portB) addr.toNat % 64 + portW (bmPortOf g portB) - 1) (portBit (bmPortOf g portB) addr.toNat % 64)))
            ((eccOf g x).ue && uePresented g portB)) ∧
          ((s.bmSt f.val b.val).other portB (portBit (bmPortOf g portB) addr.toNat / 64) coll = none →
            x = s.bmWord f.val b.val (portBit (bmPortOf g portB) addr.toNat / 64)) ∧
          (∀ l, (s.bmSt f.val b.val).other portB (portBit (bmPortOf g portB) addr.toNat / 64) coll = some l →
            x = l.was ∨ coll = .within ∧ x = s.bmWord f.val b.val (portBit (bmPortOf g portB) addr.toNat / 64))) ∧
        BmWordsSame s t ∧ RegsBeside (bmErrRegs f.val) s t) ∧
      Frame [.free, .outs, .regs, .mem, .site, .pcie] s t)) ∧
  (∀ (f : Fin 128) (b : Fin 96) (portB : Bool) (addr : BitVec 16) (din : DWord) (bwe : BitVec 8) (regce rsto rmw : Bool) (g : BmCfg) (s : State),
    s.bmLive f.val b.val = some g → g.queue = false → (rmw && (s.bmSt f.val b.val).narrow portB) = false → (bmPortOf g portB).dir.val ≠ 1 →
    (s.frt f.val).we = true → s.flag (fieldPage f.val) R.BM_FLIP_CTRL_ARM = false →
    Gives (.bmPortWrite f b portB addr din bwe regce rsto rmw .apart) s (fun t =>
      (∀ w m d, w = portBit (bmPortOf g portB) addr.toNat / 64 → m = portMask (bmPortOf g portB) addr.toNat bwe.toNat →
        d = mergeBits (s.bmSees g f.val b.val w).data
          (din.toNat % 2 ^ portW (bmPortOf g portB) * 2 ^ (portBit (bmPortOf g portB) addr.toNat % 64)) m →
        t.bmWord f.val b.val w = codeWord d (if g.ecc then check8 d ^^^ (if m ≠ 2 ^ 64 - 1 ∧ (s.bmSees g f.val b.val w).ue then 3 else 0)
          else natBits (s.bmWord f.val b.val w).toNat 71 64) ∧
        BmWordsBut f.val b.val w s t) ∧
      RegsBeside (bmErrRegs f.val) s t ∧ Frame [.free, .outs, .regs, .mem, .site, .pcie] s t)) ∧
  (∀ (f : Fin 128) (b : Fin 96) (portB : Bool) (addr : BitVec 16) (regce rsto : Bool) (coll : Coll) (g : BmCfg) (s : State),
    s.bmLive f.val b.val = some g → g.queue = false → (s.bmSt f.val b.val).narrow portB = true →
    Gives (.bmPortRead f b portB addr regce rsto true coll) s (fun t => (t.flag (fieldPage f.val) R.BM_STAT_RMW_COLL = true ∧ t.outs.length ≤ s.outs.length + 1 ∧
      BmWordsSame s t) ∧ Frame [.free, .outs, .regs, .mem, .site, .pcie] s t))

/-- Block memory queues (R112-R115): a push adds an entry and one into a full queue is lost with QOVF; a pop takes the oldest and presents it on
port B, and one from an empty queue sets QUNF; a count reaches the other side; QRST empties the queue and holds it. -/
def Obligations.BmQueueCommands : Prop :=
  (∀ (f : Fin 128) (b : Fin 96) (din : DWord) (g : BmCfg) (s : State), s.bmLive f.val b.val = some g → g.queue = true →
    (s.bmSt f.val b.val).held = false → (s.frt f.val).we = true → (s.bmSt f.val b.val).wcount < qCap g →
    Gives (.bmQueuePush f b din) s (fun t => ((t.bmSt f.val b.val).count = (s.bmSt f.val b.val).count + 1 ∧
      (t.bmSt f.val b.val).wcount = (s.bmSt f.val b.val).wcount + 1 ∧ (t.bmSt f.val b.val).head = (s.bmSt f.val b.val).head ∧
      RegsBeside ((fieldPage f.val + R.BM_FLIP_CTRL) :: bmErrRegs f.val) s t) ∧ Frame [.outs, .regs, .mem, .site, .pcie] s t)) ∧
  (∀ (f : Fin 128) (b : Fin 96) (din : DWord) (g : BmCfg) (s : State), s.bmLive f.val b.val = some g → g.queue = true →
    (s.bmSt f.val b.val).held = false → (s.frt f.val).we = true → qCap g ≤ (s.bmSt f.val b.val).wcount →
    Gives (.bmQueuePush f b din) s (fun t => (t.flag (fieldPage f.val) R.BM_STAT_QOVF = true ∧ t.mem = s.mem ∧
      RegsBeside [fieldPage f.val + R.BM_STAT, fieldPage f.val + R.BM_EVT_IDX] s t) ∧ Frame [.outs, .regs, .mem, .site, .pcie] s t)) ∧
  (∀ (f : Fin 128) (b : Fin 96) (regce : Bool) (g : BmCfg) (s : State), s.bmLive f.val b.val = some g → g.queue = true →
    (s.bmSt f.val b.val).held = false → 0 < (s.bmSt f.val b.val).rcount → g.pb.oreg = false → s.inRow f.val g g.pb →
    Gives (.bmQueuePop f b regce false) s (fun t => (t.outs.head? = some (.bmDout f.val b.val true (BitVec.ofNat 64
        (natBits (s.bmSees g f.val b.val ((s.bmSt f.val b.val).head % qCap g * portW g.pb / 64)).data
          ((s.bmSt f.val b.val).head % qCap g * portW g.pb % 64 + portW g.pb - 1) ((s.bmSt f.val b.val).head % qCap g * portW g.pb % 64)))
        ((s.bmSees g f.val b.val ((s.bmSt f.val b.val).head % qCap g * portW g.pb / 64)).ue && uePresented g true)) ∧
      (t.bmSt f.val b.val).head = ((s.bmSt f.val b.val).head + 1) % qCap g ∧
      (t.bmSt f.val b.val).count = (s.bmSt f.val b.val).count - 1 ∧ (t.bmSt f.val b.val).rcount = (s.bmSt f.val b.val).rcount - 1 ∧
      BmWordsSame s t ∧ RegsBeside (bmErrRegs f.val) s t) ∧ Frame [.free, .outs, .regs, .mem, .site, .pcie] s t)) ∧
  (∀ (f : Fin 128) (b : Fin 96) (regce rsto : Bool) (g : BmCfg) (s : State), s.bmLive f.val b.val = some g → g.queue = true →
    (s.bmSt f.val b.val).held = false → (s.bmSt f.val b.val).rcount = 0 →
    Gives (.bmQueuePop f b regce rsto) s (fun t => (t.flag (fieldPage f.val) R.BM_STAT_QUNF = true ∧ t.mem = s.mem ∧
      RegsBeside [fieldPage f.val + R.BM_STAT, fieldPage f.val + R.BM_EVT_IDX] s t) ∧ Frame [.outs, .regs, .mem, .site, .pcie] s t)) ∧
  (∀ (f : Fin 128) (b : Fin 96) (writeSide : Bool) (s : State),
    Gives (.queueFlagUpdate f b writeSide) s (fun t => ((writeSide = true → (t.bmSt f.val b.val).wcount = (s.bmSt f.val b.val).count) ∧
      (writeSide = false → (t.bmSt f.val b.val).rcount = (s.bmSt f.val b.val).count) ∧ BmWordsSame s t) ∧ Frame [.mem] s t)) ∧
  (∀ (f : Fin 128) (b : Fin 96) (high : Bool) (ca cb : Nat) (s : State),
    Gives (.qrst f b high ca cb) s (fun t => ((high = true → (t.bmSt f.val b.val).count = 0 ∧ (t.bmSt f.val b.val).empty = true ∧
        (t.bmSt f.val b.val).holdA = 3 ∧ (t.bmSt f.val b.val).holdB = 3) ∧
      (high = false → (t.bmSt f.val b.val).qrst = false ∧ (t.bmSt f.val b.val).holdA = (s.bmSt f.val b.val).holdA - ca ∧
        (t.bmSt f.val b.val).holdB = (s.bmSt f.val b.val).holdB - cb) ∧ BmWordsSame s t) ∧ Frame [.mem] s t))

/-- Care of block memories (R131-R136): the patrol pointer advances and no word changes; a rewrite stores the corrected word; an armed flip mask
is held; a remap entry is taken or refused, and its copy makes it active; the debug window reads and writes words; a forced stall is counted. -/
def Obligations.BmCareCommands : Prop :=
  (∀ (f : Fin 128) (s : State), s.rf (fieldPage f.val) R.BM_PATROL_PERIOD ≠ 0 → s.eccBms f.val ≠ [] →
    Gives (.bmPatrolRead f) s (fun t => (tabGet (fun _ => 0) t.mem.patrol f.val =
        (tabGet (fun _ => 0) s.mem.patrol f.val % ((s.eccBms f.val).length * 1024) + 1) % ((s.eccBms f.val).length * 1024) ∧
      BmWordsSame s t ∧ RegsBeside (bmErrRegs f.val) s t) ∧ Frame [.outs, .regs, .mem, .site, .pcie] s t)) ∧
  (∀ (r : Req) (f : Fin 128) (v : Word) (g : BmCfg) (s : State), s.Allows r (fieldPage f.val + R.BM_REWRITE) true →
    natBit v.toNat 31 = true → s.bmCfg f.val (natBits v.toNat 16 10) = some g → g.ecc = true → natBits v.toNat 16 10 < 96 →
    s.flag (fieldPage f.val) R.BM_FLIP_CTRL_ARM = false →
    Gives (.bmRewrite r f v) s (fun t => (t.bmWord f.val (natBits v.toNat 16 10) (natBits v.toNat 9 0) =
        codeWord (s.bmSees g f.val (natBits v.toNat 16 10) (natBits v.toNat 9 0)).data
          (check8 (s.bmSees g f.val (natBits v.toNat 16 10) (natBits v.toNat 9 0)).data ^^^
            (if (s.bmSees g f.val (natBits v.toNat 16 10) (natBits v.toNat 9 0)).ue then 3 else 0)) ∧
      BmWordsBut f.val (natBits v.toNat 16 10) (natBits v.toNat 9 0) s t ∧ t.outs.head? = some (.rsp r .ok []) ∧
      RegsBeside (bmErrRegs f.val) s t) ∧ Frame [.outs, .regs, .mem, .site, .pcie] s t)) ∧
  (∀ (r : Req) (f : Fin 128) (v : Word) (s : State), s.Allows r (fieldPage f.val + R.BM_FLIP_CTRL) true →
    Gives (.bmFlipArm r f v) s (fun t => (t.rd (fieldPage f.val + R.BM_FLIP_CTRL) = v &&& 0x8000007F ∧ t.outs = .rsp r .ok [] :: s.outs ∧
      RegsBut [fieldPage f.val + R.BM_FLIP_CTRL] s t) ∧ Frame [.outs, .regs] s t)) ∧
  (∀ (r : Req) (f : Fin 128) (i : Fin 384) (v : Word) (s : State), s.Allows r (fieldPage f.val + R.BM_REMAP + 4 * i.val) true →
    natBit (s.bmRemap f.val (i.val / 4) (i.val % 4)) 31 = false →
    (∀ e, e < 4 → e ≠ i.val % 4 → natBit (s.bmRemap f.val (i.val / 4) e) 31 = true → natBits (s.bmRemap f.val (i.val / 4) e) 9 0 ≠ natBits v.toNat 9 0) →
    Gives (.bmRemapWrite r f i v) s (fun t => (t.rd (fieldPage f.val + R.BM_REMAP + 4 * i.val) =
        BitVec.ofNat 32 (natBits v.toNat 9 0 + (if natBit v.toNat 31 then 0xC0000000 else 0)) ∧ t.outs = .rsp r .ok [] :: s.outs ∧
      RegsBut [fieldPage f.val + R.BM_REMAP + 4 * i.val] s t) ∧ Frame [.outs, .regs, .site, .pcie] s t)) ∧
  (∀ (r : Req) (f : Fin 128) (i : Fin 384) (v : Word) (s : State), s.Allows r (fieldPage f.val + R.BM_REMAP + 4 * i.val) true →
    natBit (s.bmRemap f.val (i.val / 4) (i.val % 4)) 31 = true ∨
      (∃ e, e < 4 ∧ e ≠ i.val % 4 ∧ natBit (s.bmRemap f.val (i.val / 4) e) 31 = true ∧
        natBits (s.bmRemap f.val (i.val / 4) e) 9 0 = natBits v.toNat 9 0) →
    Gives (.bmRemapWrite r f i v) s (fun t => (t.flag (fieldPage f.val) R.BM_STAT_REMAP_REFUSED = true ∧
      RegsBeside [fieldPage f.val + R.BM_STAT, fieldPage f.val + R.BM_EVT_IDX] s t) ∧ Frame [.outs, .regs, .site, .pcie] s t)) ∧
  (∀ (f : Fin 128) (i : Fin 384) (g : BmCfg) (s : State), natBit (s.bmRemap f.val (i.val / 4) (i.val % 4)) 30 = true →
    s.bmCfg f.val (i.val / 4) = some g → g.ecc = true →
    Gives (.bmRemapCopyDone f i) s (fun t => (t.rd (fieldPage f.val + R.BM_REMAP + 4 * i.val) =
        BitVec.ofNat 32 (s.bmRemap f.val (i.val / 4) (i.val % 4) - 2 ^ 30) ∧
      tabGet (fun _ => 0) t.mem.bmSpare (bmIdx f.val (i.val / 4) * 4 + i.val % 4) =
        codeWord (s.bmSees g f.val (i.val / 4) (natBits (s.bmRemap f.val (i.val / 4) (i.val % 4)) 9 0)).data
          (check8 (s.bmSees g f.val (i.val / 4) (natBits (s.bmRemap f.val (i.val / 4) (i.val % 4)) 9 0)).data ^^^
            (if (s.bmSees g f.val (i.val / 4) (natBits (s.bmRemap f.val (i.val / 4) (i.val % 4)) 9 0)).ue then 3 else 0)) ∧
      RegsBeside ((fieldPage f.val + R.BM_REMAP + 4 * i.val) :: bmErrRegs f.val) s t) ∧ Frame [.outs, .regs, .mem, .site, .pcie] s t)) ∧
  (∀ (r : Req) (f : Fin 128) (b : Fin 96) (w : Fin 1024) (hi4 : Option Bool) (v : DWord) (g : BmCfg) (s : State), (isCommons r || isDbg r) = true →
    s.dieDown (1 + f.val / 32) = false → s.bmCfg f.val b.val = some g → g.ecc = true → s.flag (fieldPage f.val) R.BM_FLIP_CTRL_ARM = false →
    Gives (.bmDebugAccess r f b w hi4 (some v)) s (fun t => ((∀ d, d = (match hi4 with
          | none => v.toNat
          | some true => mergeBits (s.bmSees g f.val b.val w.val).data (v.toNat % 2 ^ 32 * 2 ^ 32) (2 ^ 64 - 2 ^ 32)
          | some false => mergeBits (s.bmSees g f.val b.val w.val).data (v.toNat % 2 ^ 32) (2 ^ 32 - 1)) →
        t.bmWord f.val b.val w.val = codeWord d (check8 d ^^^ (if hi4.isSome ∧ (s.bmSees g f.val b.val w.val).ue then 3 else 0))) ∧
      BmWordsBut f.val b.val w.val s t ∧ t.outs.head? = some (.rsp r .ok []) ∧ RegsBeside (bmErrRegs f.val) s t) ∧
      Frame [.free, .outs, .regs, .mem, .site, .pcie] s t)) ∧
  (∀ (r : Req) (f : Fin 128) (b : Fin 96) (w : Fin 1024) (hi4 : Option Bool) (g : BmCfg) (s : State), (isCommons r || isDbg r) = true →
    s.dieDown (1 + f.val / 32) = false → s.bmCfg f.val b.val = some g →
    Gives (.bmDebugAccess r f b w hi4 none) s (fun t => ((∀ d l, d = (s.bmSees g f.val b.val w.val).data → l = (match hi4 with
          | none => [BitVec.ofNat 32 d, BitVec.ofNat 32 (d / 2 ^ 32)]
          | some true => [BitVec.ofNat 32 (d / 2 ^ 32)]
          | some false => [BitVec.ofNat 32 d]) →
        t.outs.head? = some (if (s.bmSees g f.val b.val w.val).ue then .rsp r .poisoned (l.map (fun _ => 0)) else .rsp r .ok l)) ∧
      BmWordsSame s t ∧ RegsBeside (bmErrRegs f.val) s t) ∧ Frame [.outs, .regs, .mem, .site, .pcie] s t)) ∧
  (∀ (r : Req) (f : Fin 128) (b : Fin 96) (w : Fin 1024) (hi4 : Option Bool) (wr : Option DWord) (s : State), (isCommons r || isDbg r) = false →
    exec (.bmDebugAccess r f b w hi4 wr) s = .next (s.emit (.rsp r .denied []))) ∧
  (∀ (f : Fin 128) (s : State), s.flag (fieldPage f.val) R.FCK_STAT_HALTED = false →
    Gives (.bmDebugForcedStall f) s (fun t => (t.rd (fieldPage f.val + R.BM_STEAL_CNT) =
        BitVec.ofNat 32 (satAdd 0xFFFFFFFF (s.rd (fieldPage f.val + R.BM_STEAL_CNT)).toNat 1) ∧
      RegsBut [fieldPage f.val + R.BM_STEAL_CNT] s t) ∧ Frame [.regs] s t))

/-- Granary ports, banks and maintenance (R119, R122, R128, R131, R132, R134, R137): a ready port queues a request; a bank serves one port in
round-robin order; a whole quarter written is stored with its check; beats leave in order; the patrol and the rewrite visit a quarter, which
the rewrite stores corrected; a remap entry is taken, then holds the line's contents; a debug access that has waited 64 busy cycles of its bank
takes the bank's next cycle, and is counted. -/
def Obligations.GranaryCommands : Prop :=
  (∀ (f : Fin 128) (gq : Word) (beats : List (BitVec 128 × BitVec 16)) (s : State),
    (s.designOf f.val).granPort = true → s.ckRuns f.val (s.designOf f.val).granCk.val = true → (s.frt f.val).we = true → s.fieldInReset f.val = false → s.grFenced f.val = false →
    (s.grSt (granOfField f.val)).reads.getD (f.val % 4) 0 < 8 → natBits gq.toNat 31 30 < 2 →
    natBits gq.toNat 16 0 % 4 + natBits gq.toNat 29 28 ≤ 3 →
    Gives (.granaryRequest f gq beats) s (fun t => (∀ x : GrSt,
        x = (s.grSt (granOfField f.val)).push (f.val % 4 + 1) ⟨natBits gq.toNat 31 30 == 1, natBits gq.toNat 16 0,
          natBits gq.toNat 29 28 + 1, natBits gq.toNat 27 23,
          if natBits gq.toNat 31 30 = 1 then beats.take (natBits gq.toNat 29 28 + 1) else [], {}, false⟩ →
        (natBits gq.toNat 31 30 = 1 → t.grSt (granOfField f.val) = x) ∧
        (natBits gq.toNat 31 30 = 0 → t.grSt (granOfField f.val) =
          { x with reads := x.reads.set (f.val % 4) (x.reads.getD (f.val % 4) 0 + 1) })) ∧
      GrQuartersBut (fun _ _ => False) s t ∧ Frame [.mem] s t)) ∧
  (∀ (g : Fin 32) (bank : Fin 4) (p : Nat) (q : GrReq) (rest : List GrReq) (s : State), (s.grSt g.val).winner bank.val = some p →
    (s.grSt g.val).q.getD p [] = q :: rest →
    Gives (.granaryBankAccess g bank) s (fun t => ((t.grSt g.val).q = (s.grSt g.val).q.set p rest ∧
      (t.grSt g.val).rr = (if p = 5 then (s.grSt g.val).rr else (s.grSt g.val).rr.set bank.val p) ∧
      (∀ d be, q.wr = true → q.qaddr < 131072 → q.beats = [(d, be)] → q.n = 1 → be = 0xFFFF#16 → s.flag (granBlk g.val) R.GR_FLIP_CTRL_ARM = false →
        t.grQuarter g.val q.qaddr = codeQuarter d.toNat (check9 d.toNat) ∧ GrQuartersBut (fun g' q' => g' = g.val ∧ q' = q.qaddr) s t) ∧
      (q.wr = false → GrQuartersBut (fun _ _ => False) s t)) ∧
      Frame [.free, .outs, .regs, .mem, .site, .pcie, .ring, .dbg] s t)) ∧
  (∀ (f : Fin 128) (b : GrBeat) (rest : List GrBeat) (s : State), s.ckRuns f.val (s.designOf f.val).granCk.val = true →
    (s.grSt (granOfField f.val)).beats.getD (f.val % 4) [] = b :: rest →
    Gives (.granaryReadBeat f) s (fun t => t.outs = .grBeat f.val b.d b.tag b.last b.ue :: s.outs ∧
      (t.grSt (granOfField f.val)).beats = (s.grSt (granOfField f.val)).beats.set (f.val % 4) rest ∧
      GrQuartersBut (fun _ _ => False) s t ∧ Frame [.outs, .mem] s t)) ∧
  (∀ (g : Fin 32) (s : State), s.rf (granBlk g.val) R.GR_PATROL_PERIOD ≠ 0 → (s.grSt g.val).winner ((s.grSt g.val).patrol % 131072 / 4 % 4) = none →
    Gives (.grPatrolRead g) s (fun t => ((t.grSt g.val).patrol = ((s.grSt g.val).patrol % 131072 + 1) % 131072 ∧
      ((t.grSt g.val).patrol = 0 → t.flag (granBlk g.val) R.GR_STAT_PATROL_DONE = true) ∧
      GrQuartersBut (fun _ _ => False) s t ∧ RegsBeside (grErrRegs g.val) s t) ∧ Frame [.outs, .regs, .mem, .site, .pcie] s t)) ∧
  (∀ (g : Fin 32) (s : State), Gives (.patrolLate (.granary g)) s (fun t => (t.flag (granBlk g.val) R.GR_STAT_PATROL_LATE = true ∧
      RegsBeside [granBlk g.val + R.GR_STAT] s t) ∧ Frame [.outs, .regs, .site, .pcie] s t)) ∧
  (∀ (f : Fin 128) (s : State), Gives (.patrolLate (.field f)) s (fun t => (t.flag (fieldPage f.val) R.BM_STAT_PATROL_LATE = true ∧
      RegsBeside [fieldPage f.val + R.BM_STAT] s t) ∧ Frame [.outs, .regs, .site, .pcie] s t)) ∧
  (∀ (r : Req) (g : Fin 32) (v : Word) (s : State), s.Allows r (granBlk g.val + R.GR_REWRITE) true → natBit v.toNat 31 = true →
    s.flag (granBlk g.val) R.GR_FLIP_CTRL_ARM = false →
    Gives (.grRewrite r g v) s (fun t => (t.outs.head? = some (.rsp r .ok []) ∧
      (∀ x : EccRes, x = s.grSees g.val (natBits v.toNat 16 0) → t.grQuarter g.val (natBits v.toNat 16 0) =
        codeQuarter x.data (check9 x.data ^^^ (if x.ue then 3 else 0))) ∧
      GrQuartersBut (fun g' q' => g' = g.val ∧ q' = natBits v.toNat 16 0) s t ∧ RegsBeside (grErrRegs g.val) s t) ∧
      Frame [.outs, .regs, .mem, .site, .pcie] s t)) ∧
  (∀ (r : Req) (g : Fin 32) (v : Word) (s : State), s.Allows r (granBlk g.val + R.GR_FLIP_CTRL) true →
    Gives (.grFlipArm r g v) s (fun t => t.outs = .rsp r .ok [] :: s.outs ∧ t.flag (granBlk g.val) R.GR_FLIP_CTRL_ARM = natBit v.toNat 31 ∧
      RegsBut [granBlk g.val + R.GR_FLIP_CTRL] s t ∧ Frame [.outs, .regs] s t)) ∧
  (∀ (r : Req) (g : Fin 32) (j : Fin 16) (v : Word) (s : State), s.Allows r (granBlk g.val + R.GR_REMAP + 4 * j.val) true →
    natBit v.toNat 31 = true → natBit (s.grRemap g.val j.val) 31 = false →
    (∀ e, e < 16 → e ≠ j.val → natBit (s.grRemap g.val e) 31 = true → natBits (s.grRemap g.val e) 14 0 ≠ natBits v.toNat 14 0) →
    Gives (.grRemapWrite r g j v) s (fun t => t.outs = .rsp r .ok [] :: s.outs ∧
      t.grRemap g.val j.val = natBits v.toNat 14 0 + 0xC0000000 ∧ RegsBut [granBlk g.val + R.GR_REMAP + 4 * j.val] s t ∧
      GrQuartersBut (fun _ _ => False) s t ∧ Frame [.outs, .regs] s t)) ∧
  (∀ (r : Req) (g : Fin 32) (j : Fin 16) (v : Word) (s : State), s.Allows r (granBlk g.val + R.GR_REMAP + 4 * j.val) true →
    natBit (s.grRemap g.val j.val) 31 = true ∨
      (∃ e, e < 16 ∧ e ≠ j.val ∧ natBit (s.grRemap g.val e) 31 = true ∧ natBits (s.grRemap g.val e) 14 0 = natBits v.toNat 14 0) →
    Gives (.grRemapWrite r g j v) s (fun t => t.flag (granBlk g.val) R.GR_STAT_REMAP_REFUSED = true ∧
      RegsBeside [granBlk g.val + R.GR_STAT] s t ∧ Frame [.outs, .regs, .site, .pcie] s t)) ∧
  (∀ (g : Fin 32) (j : Fin 16) (s : State), natBit (s.grRemap g.val j.val) 30 = true →
    Gives (.grRemapCopyDone g j) s (fun t => (t.grRemap g.val j.val = s.grRemap g.val j.val - 2 ^ 30 ∧
      (∀ i, i < 4 → ∀ x : EccRes, x = s.grSees g.val (natBits (s.grRemap g.val j.val) 14 0 * 4 + i) →
        tabGet (fun _ => 0) t.mem.grSpare ((g.val * 16 + j.val) * 4 + i) = codeQuarter x.data (check9 x.data ^^^ (if x.ue then 3 else 0))) ∧
      t.mem.gr = s.mem.gr ∧ RegsBeside ((granBlk g.val + R.GR_REMAP + 4 * j.val) :: grErrRegs g.val) s t) ∧
      Frame [.outs, .regs, .mem, .site, .pcie] s t)) ∧
  (∀ (g : Fin 32) (bank : Fin 4) (q : GrReq) (rest : List GrReq) (s : State), (s.grSt g.val).steals bank.val = true →
    (s.grSt g.val).q.getD 5 [] = q :: rest →
    Gives (.grDebugSteal g bank) s (fun t => (exec (.granaryBankAccess g bank) s = .next t ∧ Counted (granBlk g.val + R.GR_STEAL_CNT) 1 s t ∧
      (t.grSt g.val).q = (s.grSt g.val).q.set 5 rest ∧ (t.grSt g.val).rr = (s.grSt g.val).rr ∧
      (t.grSt g.val).busy = (s.grSt g.val).busy.set bank.val 0) ∧ Frame [.free, .outs, .regs, .mem, .site, .pcie, .ring, .dbg] s t)) ∧
  (∀ (g : Fin 32) (bank : Fin 4) (s : State), (s.grSt g.val).steals bank.val = false → Gives (.grDebugSteal g bank) s (fun t => Frame [] s t))

/-- The code of a stored block memory word (R125): its columns, its check byte, and the places of data and check in the 72 bits. -/
def Obligations.BlockMemoryCode : Prop :=
  cols8.length = 64 ∧ (∀ i j, i < j → j < 64 → cols8.getD i 0 < cols8.getD j 0) ∧
  (∀ c, c ∈ cols8 → c < 256 ∧ popCount 8 c ∈ [3, 5, 7]) ∧
  (∀ c, c < 256 → popCount 8 c ∈ [3, 5, 7] → c ∉ cols8 → cols8.getD 63 0 < c) ∧
  cols8.take 8 = [0x07, 0x0B, 0x0D, 0x0E, 0x13, 0x15, 0x16, 0x19] ∧
  (∀ d, check8 d = (List.range 64).foldl (fun a i => if natBit d i then a ^^^ cols8.getD i 0 else a) 0) ∧
  (∀ d k, natBits (codeWord d k).toNat 63 0 = d % 2 ^ 64 ∧ natBits (codeWord d k).toNat 71 64 = k % 256) ∧
  (∀ d j, d < 2 ^ 64 → j < 8 → eccRead cols8 8 d (check8 d ^^^ 2 ^ j) = ⟨d, 2 ^ j, true, false⟩)

/-- The codes of block memories and granaries correct every single-bit error and detect every double-bit error of data (R125-R127), and a flit
that arrives as its stop sent it, or with one bit of the covered header or of its check wrong, is read with every field as sent, the latter
noted as corrected (R146, R148). -/
def Obligations.CodesCorrect : Prop :=
  (∀ d, d < 2 ^ 64 → eccRead cols8 8 d (check8 d) = ⟨d, 0, false, false⟩ ∧
    (∀ i, i < 64 → eccRead cols8 8 (d ^^^ 2 ^ i) (check8 d) = ⟨d, cols8.getD i 0, true, false⟩) ∧
    (∀ i j, i < 64 → j < 64 → i ≠ j → (eccRead cols8 8 (d ^^^ 2 ^ i ^^^ 2 ^ j) (check8 d)).ue = true)) ∧
  (∀ d, d < 2 ^ 128 → eccRead cols9 9 d (check9 d) = ⟨d, 0, false, false⟩ ∧
    (∀ i, i < 128 → eccRead cols9 9 (d ^^^ 2 ^ i) (check9 d) = ⟨d, cols9.getD i 0, true, false⟩) ∧
    (∀ i j, i < 128 → j < 128 → i ≠ j → (eccRead cols9 9 (d ^^^ 2 ^ i ^^^ 2 ^ j) (check9 d)).ue = true)) ∧
  (∀ f : Flit, f.addr < 2 ^ 48 → f.mid < 2 ^ 12 → f.sid < 2 ^ 7 → f.cls < 4 → f.op < 16 → f.tag < 256 → f.dst < 2 ^ 11 → f.src < 2 ^ 11 →
    f.len < 64 → f.idx < 4 → f.code < 8 → f.data < 2 ^ 512 →
    flitCheck f.encode.toNat = some (f, false, false) ∧
    (∀ i, (48 ≤ i ∧ i < 116) ∨ (120 ≤ i ∧ i < 128) → flitCheck (f.encode.toNat ^^^ 2 ^ i) = some (f, true, false)))

/-- Ring requests and the Bell class (R147, R149-R151, R153, R154, R156, R157, R161, R167): a well-formed request to a decoded address is outstanding
with its flits at its stop's output or on their way, and with no other flit waiting one with a slot and a credit leaves at once; one that is
malformed or undecoded is answered at its own stop; one that has waited RSP_TMO completes POISONED; a credit that no flit holds returns; a stop
whose flit has waited 64 cycles raises its hold; Bell packets wait, are admitted one at a time, and are denied where RING_BELL_CTRL says so; a
field's design starts requests of its own MID and answers those that wait for it. -/
def Obligations.RingCommands : Prop :=
  (∀ (q : RingReq) (src dst : Nat) (s : State), q.cls ≠ 0 → badForm q = false → s.sourceDst q = some dst → midStop q.r.mid.toNat dst = some src →
    s.stopInReset src = false →
    Gives (.ringRequestInject q) s (fun t => ((∀ f ∈ s.reqFlits q src dst, t.leaves src f) ∧ t.flits = s.flits + (s.reqFlits q src dst).length ∧
      (t.stopSt src).out = (s.stopSt src).out ++ (if opAnswered q.op.toNat then
        [⟨q.r.mid.toNat, s.midSid q.r.mid.toNat q.r.sid.toNat, q.tag.toNat, q.op.toNat, q.cls.toNat, q.addr.toNat, q.len.toNat, s.now, []⟩] else []) ∧
      t.outs = s.outs) ∧ Frame [.free, .outs, .regs, .ring, .dbg] s t)) ∧
  (∀ (q : RingReq) (src dst k : Nat) (f : Flit) (s : State), q.cls ≠ 0 → badForm q = false → s.sourceDst q = some dst →
    midStop q.r.mid.toNat dst = some src → s.stopInReset src = false → s.reqFlits q src dst = [f] → s.ring.wait = [] →
    k = linkOf src (nextHop src dst) (laneOf src dst) → s.slotFree k false = true → s.hasCredit src (nextHop src dst) q.cls.toNat = true →
    Gives (.ringRequestInject q) s (fun t => t.ring.wait = [] ∧ t.ring.flight = s.ring.flight ++ [⟨src, laneOf src dst, k, false, 0, s.now, f.encode⟩] ∧
      assocGet 0 (t.stopSt src).used (nextHop src dst * 4 + q.cls.toNat) =
        assocGet 0 (s.stopSt src).used (nextHop src dst * 4 + q.cls.toNat) + 1)) ∧
  (∀ (q : RingReq) (s : State), q.cls ≠ 0 → badForm q = true →
    Gives (.ringRequestInject q) s (fun t => t.outs = .rsp q.r .fault [] :: s.outs ∧ FaultCounted q.r (s.faultDie q.addr.toNat) s t ∧
      Frame [.outs, .regs] s t)) ∧
  (∀ (q : RingReq) (s : State), badForm q = false → q.cls ≠ 0 → s.sourceDst q = none →
    Gives (.ringRequestInject q) s (fun t => t.outs = .rsp q.r .noTarget [] :: s.outs ∧ Frame [.outs] s t)) ∧
  (∀ (mid : BitVec 12) (tag : BitVec 8) (n : Nat) (p : Pend) (s : State), n ∈ midStops mid.toNat → n ≠ jgStop →
    (s.stopSt n).out.find? (fun p => p.mid == mid.toNat && p.tag == tag.toNat && decide (p.time + s.rspTmo n ≤ s.now)) = some p →
    Gives (.ringResponseTimeout mid tag) s (fun t => ((t.stopSt n).out = (s.stopSt n).out.erase p ∧ .ringDone n p.mid p.tag 5 [] ∈ t.outs ∧
      (p.cls = 0 → (t.stopSt n).bellWait = false) ∧
      (∀ b, stopRegs n = some b → t.flag (statRegs n b) R.RING_STAT_TMO = true ∧
        (midStops mid.toNat = [n] → Counted (b + R.RING_TMO_CNT) 1 s t ∧ RegsBeside [statRegs n b + R.RING_STAT, b + R.RING_TMO_CNT] s t))) ∧
      Frame [.outs, .regs, .site, .pcie, .ring, .guest] s t)) ∧
  (∀ (mid : BitVec 12) (tag : BitVec 8) (s : State),
    (∀ n, n ∈ midStops mid.toNat → ∀ p, p ∈ (s.stopSt n).out → p.mid = mid.toNat → p.tag = tag.toNat → s.now < p.time + s.rspTmo n) →
    Gives (.ringResponseTimeout mid tag) s (fun t => Frame [] s t)) ∧
  (∀ (sender receiver : BitVec 11) (cls : BitVec 2) (k : Nat) (s : State), k = receiver.toNat * 4 + cls.toNat →
    (s.creditsHeld sender.toNat receiver.toNat cls.toNat < assocGet 0 (s.stopSt sender.toNat).used k →
      Gives (.ringCreditReturn sender receiver cls) s (fun t => t.flits = s.flits ∧ t.outs = s.outs ∧
        ((∀ x, x ∈ s.ring.wait → x.cur ≠ sender.toNat) → assocGet 0 (t.stopSt sender.toNat).used k = assocGet 0 (s.stopSt sender.toNat).used k - 1 ∧
          (∀ j, j ≠ k → assocGet 0 (t.stopSt sender.toNat).used j = assocGet 0 (s.stopSt sender.toNat).used j) ∧
          (∀ m, m ≠ sender.toNat → t.stopSt m = s.stopSt m) ∧ t.ring.flight = s.ring.flight ∧ Frame [.ring] s t) ∧
        Frame [.free, .regs, .ring, .dbg] s t)) ∧
    (assocGet 0 (s.stopSt sender.toNat).used k ≤ s.creditsHeld sender.toNat receiver.toNat cls.toNat →
      Gives (.ringCreditReturn sender receiver cls) s (fun t => Frame [] s t))) ∧
  (∀ (stop : BitVec 11) (s : State),
    (s.holdDue stop.toNat = true → Gives (.ringInjectHold stop) s (fun t => t.stopSt stop.toNat = { s.stopSt stop.toNat with hold := true } ∧
      (∀ m, m ≠ stop.toNat → t.stopSt m = s.stopSt m) ∧ t.ring.flight = s.ring.flight ∧ t.ring.wait = s.ring.wait ∧ Frame [.ring] s t)) ∧
    (s.holdDue stop.toNat = false → Gives (.ringInjectHold stop) s (fun t => Frame [] s t))) ∧
  (∀ (q : RingReq) (src dst : Nat) (s : State), badForm { q with cls := 0 } = false → s.sourceDst { q with cls := 0 } = some dst →
    midStop q.r.mid.toNat dst = some src → s.stopInReset src = false → s.bellAllows src (s.ringDie q.addr.toNat) = true →
    (s.stopSt src).bellInj.length < 4 →
    Gives (.bellRequest q) s (fun t => (t.stopSt src).bellInj = (s.stopSt src).bellInj ++ s.reqFlits { q with cls := 0 } src dst ∧
      t.ring.flight = s.ring.flight ∧ t.ring.wait = s.ring.wait ∧ Frame [.ring] s t)) ∧
  (∀ (q : RingReq) (src dst : Nat) (s : State), badForm { q with cls := 0 } = false → s.sourceDst { q with cls := 0 } = some dst →
    midStop q.r.mid.toNat dst = some src → s.stopInReset src = false → s.bellAllows src (s.ringDie q.addr.toNat) = false →
    Gives (.bellRequest q) s (fun t => t.outs.head? = some (.rsp q.r .denied []) ∧
      (∀ b, stopRegs src = some b → t.flag (statRegs src b) R.RING_STAT_BELL_DENY = true ∧ Counted (b + R.RING_BELL_DENY_CNT) 1 s t ∧
        RegsBeside [statRegs src b + R.RING_STAT, b + R.RING_BELL_DENY_CNT] s t) ∧
      t.ring = s.ring ∧ Frame [.outs, .regs, .site, .pcie, .ring] s t)) ∧
  (∀ (stop : BitVec 11) (f : Flit) (rest : List Flit) (s : State), (s.stopSt stop.toNat).bellInj = f :: rest →
    (s.stopSt stop.toNat).bellFrom ≤ s.now → (s.stopSt stop.toNat).bellWait = false →
    Gives (.bellAdmit stop) s (fun t => ((t.stopSt stop.toNat).bellInj = rest ∧ (t.stopSt stop.toNat).bellFrom = s.now + 40 ∧
      (t.stopSt stop.toNat).bellWait = (f.op == 3) ∧ t.leaves stop.toNat f ∧ t.flits = s.flits + 1) ∧ Frame [.free, .regs, .ring, .dbg] s t)) ∧
  (∀ (r : Req) (stop : BitVec 11) (v : Word) (b : Nat) (s : State), stopRegs stop.toNat = some b → stopDie stop.toNat ≤ 4 →
    s.Allows r (b + R.RING_BELL_CTRL) true →
    Gives (.ringBellCtrlWrite r stop v) s (fun t => (t.rd (b + R.RING_BELL_CTRL) = v &&& 0x8000021F ∧
      (natBit v.toNat 31 = true → RegsBut [b + R.RING_BELL_CTRL] s t ∧ t.outs = .rsp r .ok [] :: s.outs ∧ t.ring = s.ring) ∧
      (natBit v.toNat 31 = false → ∀ m, m ∈ bellStops stop.toNat → (t.stopSt m).bellInj = [] ∧
        ((s.stopSt m).bellInj ≠ [] → t.flag (statRegs m b) R.RING_STAT_BELL_DENY = true))) ∧ Frame [.outs, .regs, .site, .pcie, .ring] s t)) ∧
  (∀ (f : Fin 128) (iq : BitVec 68) (beats : List (BitVec 128)) (q : RingReq) (s : State), s.fieldPort f.val = true → (s.frt f.val).we = true →
    s.fieldInReset f.val = false → (s.stopSt (fieldStopNo f.val)).out.length < 16 →
    q = ⟨⟨BitVec.ofNat 12 (0x100 + f.val), BitVec.ofNat 7 (s.fieldOwner f.val)⟩, BitVec.ofNat 4 (natBits iq.toNat 67 64),
      BitVec.ofNat 2 (natBits iq.toNat 63 62), BitVec.ofNat 6 (natBits iq.toNat 61 56), BitVec.ofNat 8 (natBits iq.toNat 55 48),
      BitVec.ofNat 48 iq.toNat, if opIsRead (natBits iq.toNat 67 64) then [] else beatLines beats⟩ →
    Gives (.fieldRingInitiate f iq beats) s (fun t =>
      exec (if q.cls = 0 then .bellRequest q else .ringRequestInject q) s = .next t ∧ Frame [.free, .outs, .regs, .site, .pcie, .ring, .dbg] s t)) ∧
  (∀ (f : Fin 128) (tag : BitVec 8) (code : BitVec 3) (data : List (BitVec 512)) (q : Flit) (rest : List Flit) (s : State),
    s.fieldInReset f.val = false →
    (s.stopSt (fieldStopNo f.val)).inq.dropWhile (fun q => !(opAnswered q.op && q.last)) = q :: rest → q.tag = tag.toNat →
    Gives (.fieldRingTargetResponse f tag code data) s (fun t => ((t.stopSt (fieldStopNo f.val)).inq = rest ∧
      (∀ c, c = (if code.toNat < 6 then code.toNat else 1) →
        (∀ g ∈ responses (fieldStopNo f.val) q c (data.map (·.toNat)), t.leaves (fieldStopNo f.val) g) ∧
        t.flits = s.flits + (responses (fieldStopNo f.val) q c (data.map (·.toNat))).length) ∧ t.outs = s.outs) ∧
      Frame [.free, .regs, .ring, .dbg] s t))

/-- The arrival of a flit (R144, R148, R152, R163, R165, R166): a bridge passes it on as it is; one whose header cannot be corrected is dropped and
counted; a junction sends on what its checks let through; a request whose SID is not the owner's is counted and answered DENIED at its target; a
READ of a granary waits at its ring port; a response completes the request that waits for it. -/
def Obligations.FlitArrival : Prop :=
  (∀ (k : Nat) (flips : BitVec 656) (bundle : Option (Fin 160)) (drained : Nat) (x : Flight) (n : Nat) (s : State),
    s.ring.flight[k]? = some x → s.deaf = false → s.behind k x = false → n = nextHop x.cur x.flit.dst → isBridge n = true →
    (x.flit.cls ≠ 0 ∨ s.bellWaiting n x.link < 32) →
    Gives (.ringFlitArrive k flips bundle drained) s (fun t => (∃ y, (y ∈ t.ring.wait ∨ y ∈ t.ring.flight) ∧ y.cur = n ∧ y.lane = x.lane ∧
      y.raw = x.raw ^^^ flips) ∧ t.flits = s.flits ∧ Frame [.free, .regs, .ring, .llp, .dbg] s t)) ∧
  (∀ (k : Nat) (flips : BitVec 656) (bundle : Option (Fin 160)) (drained : Nat) (x : Flight) (n b : Nat) (s : State),
    s.ring.flight[k]? = some x → s.deaf = false → s.behind k x = false → n = nextHop x.cur x.flit.dst → isBridge n = false →
    flitCheck (x.raw ^^^ flips).toNat = none → stopRegs (checkStop n x.cur) = some b →
    Gives (.ringFlitArrive k flips bundle drained) s (fun t => t.flits + 1 = s.flits ∧ t.flag (statRegs (checkStop n x.cur) b) R.RING_STAT_HDR_DROP = true ∧
      Counted (b + R.RING_HDR_DROP_CNT) 1 s t ∧
      (s.ring.wait = [] → RegsBeside [statRegs (checkStop n x.cur) b + R.RING_STAT, b + R.RING_HDR_DROP_CNT] s t) ∧
      Frame [.free, .outs, .regs, .site, .pcie, .ring, .llp, .dbg] s t)) ∧
  (∀ (k : Nat) (bundle : Option (Fin 160)) (drained : Nat) (x : Flight) (f : Flit) (n : Nat) (s : State),
    s.ring.flight[k]? = some x → s.deaf = false → s.behind k x = false → flitCheck x.raw.toNat = some (f, false, false) →
    n = nextHop x.cur f.dst → isBridge n = false → n ≠ f.dst → (f.cls ≠ 0 ∨ s.bellWaiting n x.link < 32) →
    s.junctionCode x.cur (nextHop n f.dst) f = 0 →
    Gives (.ringFlitArrive k 0 bundle drained) s (fun t => t.leaves n f ∧ t.flits = s.flits ∧ Frame [.free, .regs, .ring, .llp, .dbg] s t)) ∧
  (∀ (k : Nat) (bundle : Option (Fin 160)) (drained : Nat) (x : Flight) (f : Flit) (n b : Nat) (s : State),
    s.ring.flight[k]? = some x → s.deaf = false → s.behind k x = false → flitCheck x.raw.toNat = some (f, false, false) →
    n = nextHop x.cur f.dst → isBridge n = false → n = f.dst → f.rsp = false → f.last = true → stopRegs n = some b → 1 ≤ stopDie n →
    s.ownerPasses f.sid f.addr = false →
    Gives (.ringFlitArrive k 0 bundle drained) s (fun t => t.flag (statRegs n b) R.RING_STAT_DENY = true ∧ Counted (b + R.RING_DENY_CNT) 1 s t ∧
      (∀ g ∈ responses n f 3 [], t.leaves n g) ∧ t.flits + 1 = s.flits + (responses n f 3 []).length ∧
      (s.ring.wait = [] → RegsBeside [statRegs n b + R.RING_STAT, b + R.RING_DENY_CNT] s t) ∧
      Frame [.free, .outs, .regs, .site, .pcie, .ring, .llp, .dbg] s t)) ∧
  (∀ (k : Nat) (bundle : Option (Fin 160)) (drained : Nat) (x : Flight) (f : Flit) (n g o p : Nat) (s : State),
    s.ring.flight[k]? = some x → s.deaf = false → s.behind k x = false → flitCheck x.raw.toNat = some (f, false, false) →
    n = nextHop x.cur f.dst → isBridge n = false → n = f.dst → f.rsp = false → 1 ≤ stopDie n → f.cls ≠ 0 → f.op = 1 → f.code = 0 →
    regionOf f.addr = .gran g o → s.ownerPasses f.sid f.addr = true → s.midPasses ((stopRegs n).getD 0) f.mid f.op f.cls = true →
    s.targetInReset n f.addr = false → p = (if isCommons f.req || isDbg f.req then 5 else 0) →
    Gives (.ringFlitArrive k 0 bundle drained) s (fun t => t.flits + 1 = s.flits ∧
      t.grSt g = (s.grSt g).push p ⟨false, o / 16, (f.addr % 64 + f.len) / 16 - f.addr % 64 / 16 + 1, f.tag, [], f, false⟩ ∧
      GrQuartersBut (fun _ _ => False) s t ∧ (s.ring.wait = [] → RegsBut [] s t) ∧ Frame [.free, .regs, .mem, .ring, .llp, .dbg] s t)) ∧
  (∀ (k : Nat) (bundle : Option (Fin 160)) (drained : Nat) (x : Flight) (f : Flit) (n : Nat) (p : Pend) (s : State),
    s.ring.flight[k]? = some x → s.deaf = false → s.behind k x = false → flitCheck x.raw.toNat = some (f, false, false) →
    n = nextHop x.cur f.dst → isBridge n = false → n = f.dst → f.rsp = true → f.last = true → n ≠ jgStop → 1 ≤ stopDie n → s.stopInReset n = false →
    s.staleFor n f = none → (s.stopSt n).out.find? (fun p => p.mid == f.mid && p.tag == f.tag) = some p → p.got = [] →
    Gives (.ringFlitArrive k 0 bundle drained) s (fun t => t.flits + 1 = s.flits ∧
      (t.stopSt n).out = (s.stopSt n).out.erase p ∧
      t.outs = .ringDone n p.mid p.tag f.code (if f.code = 0 then [f.data] else []) :: s.outs ∧ (s.ring.wait = [] → RegsBut [] s t) ∧
      Frame [.free, .outs, .regs, .ring, .llp, .dbg] s t))

/-- Lane bring-up (R172-R174, R176, R178-R180): PLL and lane settings are taken as a whole or refused; signal, lock, adaptation, check and their
losses move the lane through its states, and DOWN is recorded with its cause. -/
def Obligations.LaneStateCommands : Prop :=
  (∀ (r : Req) (q : Fin 128) (v : Word) (s : State), s.Allows r (quadBlk q.val + R.QPLL_CTRL) true →
    160 ≤ natBits v.toNat 8 0 → natBits v.toNat 8 0 ≤ 320 → 160 ≤ natBits v.toNat 24 16 → natBits v.toNat 24 16 ≤ 320 →
    s.pllBusy q.val false = false → s.pllBusy q.val true = false →
    Gives (.qpllCtrlWrite r q v) s (fun t => t.rd (quadBlk q.val + R.QPLL_CTRL) = v &&& 0x81FF81FF ∧ t.outs = .rsp r .ok [] :: s.outs ∧
      RegsBut [quadBlk q.val + R.QPLL_CTRL, quadBlk q.val + R.QPLL_STAT] s t ∧ Frame [.outs, .regs] s t)) ∧
  (∀ (r : Req) (q : Fin 128) (v : Word) (s : State), s.Allows r (quadBlk q.val + R.QPLL_CTRL) true →
    (natBits v.toNat 8 0 < 160 ∨ 320 < natBits v.toNat 24 16) →
    Gives (.qpllCtrlWrite r q v) s (fun t => t.flag (quadBlk q.val) R.QPLL_STAT_REFUSED = true ∧ RegsBut [quadBlk q.val + R.QPLL_STAT] s t ∧
      Frame [.outs, .regs] s t)) ∧
  (∀ (q : Fin 128) (p : Bool) (s : State), s.flag (quadBlk q.val) (if p then R.QPLL_CTRL_EN1 else R.QPLL_CTRL_EN0) = true →
    Gives (.qpllLock q p) s (fun t => t.pllLocked q.val p = true ∧ RegsBut [quadBlk q.val + R.QPLL_STAT] s t ∧ Frame [.regs] s t)) ∧
  (∀ (r : Req) (l : Fin 512) (v : Word) (s : State), s.Allows r (laneBlk l.val + R.LANE_CTRL) true → s.fastLanes + 1 ≤ s.laneCap →
    Gives (.laneCtrlWrite r l v) s (fun t => (t.rd (laneBlk l.val + R.LANE_CTRL) = v &&& 0xFC000000 ∧
      (natBit v.toNat 31 = false → t.laneState l.val = 0) ∧
      (natBit v.toNat 31 = true → s.laneStarts l.val (s.rd (laneBlk l.val + R.LANE_CTRL)).toNat v.toNat = true → s.pwrState ≠ 2 →
        s.refFallback = false → t.laneState l.val = if s.flag (laneBlk l.val) R.LANE_STAT_SIG_DET then 2 else 1) ∧
      (natBit v.toNat 31 = true → s.laneStarts l.val (s.rd (laneBlk l.val + R.LANE_CTRL)).toNat v.toNat = true → s.pwrState ≠ 2 →
        s.refFallback = true → t.laneState l.val = 7 ∧ t.rf (laneBlk l.val) R.LANE_STAT_DOWN_CAUSE = 4) ∧
      (natBit v.toNat 31 = true → s.laneStarts l.val (s.rd (laneBlk l.val + R.LANE_CTRL)).toNat v.toNat = false ∨ s.pwrState = 2 →
        t.laneState l.val = s.laneState l.val ∧ RegsBut [laneBlk l.val + R.LANE_CTRL] s t ∧ t.llp = s.llp)) ∧
      Frame [.free, .outs, .regs, .site, .pcie, .par, .llp, .cap] s t)) ∧
  (∀ (r : Req) (l : Fin 512) (v : Word) (s : State), s.Allows r (laneBlk l.val + R.LANE_CTRL) true → s.laneState l.val = 0 →
    natBit v.toNat 31 = true → s.fastCfg l.val v.toNat = true → s.laneCap ≤ s.fastLanes →
    Gives (.laneCtrlWrite r l v) s (fun t => t.flag (laneBlk l.val) R.LANE_STAT_RATE_REFUSED = true ∧
      RegsBeside [laneBlk l.val + R.LANE_STAT] s t ∧ t.llp = s.llp)) ∧
  (∀ (l : Fin 512) (s : State), Gives (.laneSignalDetect l) s (fun t => (t.flag (laneBlk l.val) R.LANE_STAT_SIG_DET = true ∧
      (s.laneState l.val = 1 → t.laneState l.val = 2) ∧ (s.laneState l.val ≠ 1 → t.laneState l.val = s.laneState l.val) ∧
      RegsBut [laneBlk l.val + R.LANE_STAT] s t ∧ t.outs = s.outs) ∧ Frame [.free, .outs, .regs, .site, .pcie, .par, .llp, .cap] s t)) ∧
  (∀ (l : Fin 512) (s : State), Gives (.laneSignalLoss l) s (fun t => (t.flag (laneBlk l.val) R.LANE_STAT_SIG_DET = false ∧
      t.flag (laneBlk l.val) R.LANE_STAT_CDR_LOCK = false ∧
      t.laneState l.val = (if s.laneState l.val = 0 ∨ s.laneState l.val = 7 then s.laneState l.val else 1)) ∧
      Frame [.free, .outs, .regs, .site, .pcie, .par, .llp, .cap] s t)) ∧
  (∀ (l : Fin 512) (s : State), s.laneState l.val = 2 → s.pllLocked (quadOf l.val) (s.flag (laneBlk l.val) R.LANE_CTRL_PLL) = true →
    Gives (.laneCdrLock l) s (fun t => (t.laneState l.val = 3 ∧ t.flag (laneBlk l.val) R.LANE_STAT_CDR_LOCK = true ∧
      t.rf (laneBlk l.val) R.LANE_ALIGN_SLIPS = 0 ∧ t.flag (laneBlk l.val) R.LANE_ALIGN_SLIP_BUSY = false ∧ RegsBut (laneRegs l.val) s t) ∧
      Frame [.free, .outs, .regs, .site, .pcie, .par, .llp, .cap] s t)) ∧
  (∀ (l : Fin 512) (s : State), s.laneState l.val ∈ [3, 4, 5, 6, 8] →
    Gives (.laneLossOfLock l) s (fun t => (t.laneState l.val = (if s.flag (laneBlk l.val) R.LANE_STAT_SIG_DET then 2 else 1) ∧
      t.flag (laneBlk l.val) R.LANE_STAT_CDR_LOCK = false ∧
      (s.flag (laneBlk l.val) R.LANE_STAT_CDR_LOCK = true → t.flag (laneBlk l.val) R.LANE_STAT_LOL = true)) ∧
      Frame [.free, .outs, .regs, .site, .pcie, .par, .llp, .cap] s t)) ∧
  (∀ (l : Fin 512) (w : BitVec 6) (h : BitVec 10) (c : BitVec 4) (d : BitVec 8) (s : State), s.laneState l.val = 3 →
    Gives (.laneAdaptDone l w h c d) s (fun t => (t.rd (laneBlk l.val + R.LANE_EYE) = BitVec.ofNat 32 (2 ^ 31 + w.toNat * 2 ^ 16 + h.toNat) ∧
      (h.toNat < 25 ∨ w.toNat < 16 → t.laneState l.val = 7 ∧ t.rf (laneBlk l.val) R.LANE_STAT_DOWN_CAUSE = 3 ∧
        t.flag (laneBlk l.val) R.LANE_STAT_DOWN_EVT = true) ∧
      (25 ≤ h.toNat → 16 ≤ w.toNat → s.laneMode l.val = 3 → t.laneState l.val = 8) ∧
      (25 ≤ h.toNat → 16 ≤ w.toNat → s.laneMode l.val ≠ 3 → t.laneState l.val = 4 ∧ t.flag (laneBlk l.val) R.LANE_STAT_ALIGN_REQ = true) ∧
      (s.flag (laneBlk l.val) R.LANE_RXEQ_FREEZE = false → t.rf (laneBlk l.val) R.LANE_RXEQ_CTLE = c.toNat ∧
        t.rf (laneBlk l.val) R.LANE_RXEQ_DFE1 = d.toNat) ∧
      RegsBeside [laneBlk l.val + R.LANE_STAT, laneBlk l.val + R.LANE_EYE, laneBlk l.val + R.LANE_RXEQ] s t) ∧
      Frame [.free, .outs, .regs, .site, .pcie, .par, .llp, .cap] s t)) ∧
  (∀ (l : Fin 512) (s : State), s.laneState l.val = 7 → s.rf (laneBlk l.val) R.LANE_STAT_DOWN_CAUSE ≠ 4 →
    Gives (.laneDownRearm l) s (fun t => (t.laneState l.val = 1 ∧ t.flag (laneBlk l.val) R.LANE_STAT_SIG_DET = false ∧
      RegsBut [laneBlk l.val + R.LANE_STAT] s t ∧ (t.lane l.val).rdTx = false ∧ t.outs = (match s.laneFill l.val 1 with
        | some i => if s.clk.safe then s.outs else .laneTx l.val i false :: s.outs | none => s.outs)) ∧
      Frame [.free, .outs, .regs, .site, .pcie, .par, .llp, .cap] s t)) ∧
  (∀ (l : Fin 512) (s : State), s.laneState l.val = 5 →
    Gives (.laneCheckDone l) s (fun t => (t.laneState l.val = 6 ∧ t.flag (laneBlk l.val) R.LANE_STAT_UP_EVT = true ∧
      (s.laneMode l.val = 0 → s.linkState l.val = 0 → t.linkState l.val = 1) ∧
      (s.laneMode l.val ≠ 0 → RegsBeside [laneBlk l.val + R.LANE_STAT] s t)) ∧ Frame [.free, .outs, .regs, .site, .pcie, .par, .llp, .cap] s t))

/-- Lane alignment, equalisation, raw and PRBS modes (R175, R177, R181, R182, R184, R185, R187, R189, R255, R618): what SLIP, WIN_START,
ALIGN_DONE and ALIGN_FAIL do in ALIGNING, and that elsewhere they are flagged as ignored; counting of a window and of errors; the settings the
receiver and the transmitter keep; raw words in both directions; the pattern checker. -/
def Obligations.LaneAlignmentCommands : Prop :=
  (∀ (l : Fin 512) (src : LaneSrc) (s : State), s.laneSrcOk l.val src → s.laneState l.val = 4 →
    s.flag (laneBlk l.val) R.LANE_ALIGN_SLIP_BUSY = false →
    Gives (.slip l src) s (fun t => (t.flag (laneBlk l.val) R.LANE_ALIGN_SLIP_BUSY = true ∧
      t.rf (laneBlk l.val) R.LANE_ALIGN_SLIPS = (s.rf (laneBlk l.val) R.LANE_ALIGN_SLIPS + 1) % 10 ∧
      RegsBut [laneBlk l.val + R.LANE_ALIGN] s t) ∧ Frame [.free, .outs, .regs, .site, .pcie, .par, .llp, .cap] s t)) ∧
  (∀ (l : Fin 512) (src : LaneSrc) (s : State), s.laneSrcOk l.val src → s.laneState l.val = 4 →
    Gives (.winStart l src) s (fun t => (t.flag (laneBlk l.val) R.LANE_ALIGN_WIN_DONE = false ∧
      (s.flag (laneBlk l.val) R.LANE_ALIGN_SLIP_BUSY = true → (t.lane l.val).winWait = true ∧ (t.lane l.val).winOpen = false) ∧
      (s.flag (laneBlk l.val) R.LANE_ALIGN_SLIP_BUSY = false → (t.lane l.val).winOpen = true ∧ t.rf (laneBlk l.val) R.LANE_ALIGN_COM_WIN = 0 ∧
        t.rf (laneBlk l.val) R.LANE_ALIGN_ERR_WIN = 0) ∧ RegsBut [laneBlk l.val + R.LANE_ALIGN] s t) ∧
      Frame [.free, .outs, .regs, .site, .pcie, .par, .llp, .cap] s t)) ∧
  (∀ (l : Fin 512) (src : LaneSrc) (s : State), s.laneSrcOk l.val src → s.laneState l.val = 4 →
    Gives (.alignDone l src) s (fun t => ((s.laneMode l.val = 0 → t.laneState l.val = 5 ∧ RegsBut [laneBlk l.val + R.LANE_STAT] s t) ∧
      (s.laneMode l.val ≠ 0 → t.laneState l.val = 6 ∧ t.flag (laneBlk l.val) R.LANE_STAT_UP_EVT = true ∧
        RegsBeside [laneBlk l.val + R.LANE_STAT] s t)) ∧ Frame [.free, .outs, .regs, .site, .pcie, .par, .llp, .cap] s t)) ∧
  (∀ (l : Fin 512) (src : LaneSrc) (s : State), s.laneSrcOk l.val src → s.laneState l.val = 4 →
    Gives (.alignFail l src) s (fun t => (t.laneState l.val = 7 ∧ t.rf (laneBlk l.val) R.LANE_STAT_DOWN_CAUSE = 1 ∧
      t.flag (laneBlk l.val) R.LANE_STAT_DOWN_EVT = true ∧ RegsBeside [laneBlk l.val + R.LANE_STAT] s t) ∧
      Frame [.free, .outs, .regs, .site, .pcie, .par, .llp, .cap] s t)) ∧
  (∀ (l : Fin 512) (src : LaneSrc) (c : Instr) (s : State), s.laneSrcOk l.val src → s.laneState l.val ≠ 4 →
    c ∈ [Instr.slip l src, .winStart l src, .alignDone l src, .alignFail l src] →
    Gives c s (fun t => (t.flag (laneBlk l.val) (if c = .slip l src then R.LANE_STAT_SLIP_IGNORED else R.LANE_STAT_CMD_IGNORED) = true ∧
      t.laneState l.val = s.laneState l.val ∧ RegsBeside [laneBlk l.val + R.LANE_STAT] s t ∧ t.llp = s.llp))) ∧
  (∀ (l : Fin 512) (s : State), s.flag (laneBlk l.val) R.LANE_ALIGN_SLIP_BUSY = true →
    Gives (.slipSettle l) s (fun t => t.flag (laneBlk l.val) R.LANE_ALIGN_SLIP_BUSY = false ∧
      ((s.lane l.val).winWait = true → s.laneState l.val = 4 → (t.lane l.val).winOpen = true) ∧
      RegsBut [laneBlk l.val + R.LANE_ALIGN] s t ∧ Frame [.outs, .regs, .llp] s t)) ∧
  (∀ (l : Fin 512) (com err : Fin 1025) (s : State), (s.lane l.val).winOpen = true →
    Gives (.alignWindowClose l com err) s (fun t => t.flag (laneBlk l.val) R.LANE_ALIGN_WIN_DONE = true ∧ (t.lane l.val).winOpen = false ∧
      t.rf (laneBlk l.val) R.LANE_ALIGN_COM_WIN = min 1024 (s.rf (laneBlk l.val) R.LANE_ALIGN_COM_WIN + com.val) ∧
      t.rf (laneBlk l.val) R.LANE_ALIGN_ERR_WIN = min 1024 (s.rf (laneBlk l.val) R.LANE_ALIGN_ERR_WIN + err.val) ∧
      RegsBut [laneBlk l.val + R.LANE_ALIGN] s t ∧ Frame [.outs, .regs, .llp] s t)) ∧
  (∀ (l : Fin 512) (sym : BitVec 10) (reads : Fin 3) (o : RxOpen) (d : Dec10) (s : State), d = dec10 sym.toNat (s.lane l.val).rdRx →
    s.laneState l.val ∈ [4, 5, 6] →
    s.flag (laneBlk l.val) R.LANE_ALIGN_SLIP_BUSY = false →
    Gives (.laneRxSymbol l sym reads o) s (fun t => ((t.lane l.val).rdRx = d.rd ∧
      (reads = 0 → (t.lane l.val).eb = ((s.lane l.val).eb.push (ebSym sym.toNat d)).1) ∧
      (s.laneState l.val = 4 → (s.lane l.val).winOpen = true → d.val = some (true, byteK285) →
        t.rf (laneBlk l.val) R.LANE_ALIGN_COM_WIN = min 1024 (s.rf (laneBlk l.val) R.LANE_ALIGN_COM_WIN + 1)) ∧
      (s.laneState l.val ≠ 4 → d.val = none → t.rd (laneBlk l.val + R.LANE_CV_CNT) =
        BitVec.ofNat 32 (satAdd 0xFFFFFFFF (s.rd (laneBlk l.val + R.LANE_CV_CNT)).toNat 1)) ∧
      (s.laneState l.val = 5 → (d.val = none ∨ d.disp = true) → t.laneState l.val = 7 ∧ t.rf (laneBlk l.val) R.LANE_STAT_DOWN_CAUSE = 2) ∧
      (s.laneState l.val = 6 → s.laneMode l.val = 0 → (d.val = none ∨ d.disp = true) →
        (o.frame = true → (t.lk l.val).spoilF = true) ∧ (o.inner = true → (t.lk l.val).spoilB = true)) ∧
      RegsBeside [laneBlk l.val + R.LANE_STAT, laneBlk l.val + R.LANE_ALIGN, laneBlk l.val + R.LANE_CV_CNT, laneBlk l.val + R.LANE_DISP_CNT] s t) ∧
      Frame [.free, .outs, .regs, .site, .pcie, .par, .llp, .cap] s t)) ∧
  (∀ (r : Req) (l : Fin 512) (v : Word) (s : State), s.Allows r (laneBlk l.val + R.LANE_TXEQ) true →
    Gives (.laneTxeqWrite r l v) s (fun t => t.rf (laneBlk l.val) R.LANE_TXEQ_POST = min 20 (natBits v.toNat 20 16) ∧
      t.rf (laneBlk l.val) R.LANE_TXEQ_PRE = min 10 (natBits v.toNat 11 8) ∧ t.rf (laneBlk l.val) R.LANE_TXEQ_AMP = natBits v.toNat 2 0 ∧
      t.outs = .rsp r .ok [] :: s.outs ∧ RegsBut [laneBlk l.val + R.LANE_TXEQ] s t ∧ Frame [.outs, .regs] s t)) ∧
  (∀ (l : Fin 512) (up down : Bool) (dfe : BitVec 8) (s : State), s.flag (laneBlk l.val) R.LANE_RXEQ_FREEZE = false → 4 ≤ s.laneState l.val →
    s.laneState l.val ≠ 7 →
    Gives (.laneEqTrack l up down dfe) s (fun t => t.rf (laneBlk l.val) R.LANE_RXEQ_DFE1 = dfe.toNat ∧
      t.rf (laneBlk l.val) R.LANE_RXEQ_CTLE ≤ s.rf (laneBlk l.val) R.LANE_RXEQ_CTLE + 1 ∧
      s.rf (laneBlk l.val) R.LANE_RXEQ_CTLE ≤ t.rf (laneBlk l.val) R.LANE_RXEQ_CTLE + 1 ∧ RegsBut [laneBlk l.val + R.LANE_RXEQ] s t ∧
      Frame [.regs] s t)) ∧
  (∀ (l : Fin 512) (w : BitVec 6) (h : BitVec 10) (s : State), 4 ≤ s.laneState l.val → s.laneState l.val ≠ 7 →
    Gives (.laneEyeRefresh l w h) s (fun t => t.rf (laneBlk l.val) R.LANE_EYE_WIDTH = w.toNat ∧ t.rf (laneBlk l.val) R.LANE_EYE_HEIGHT = h.toNat ∧
      t.flag (laneBlk l.val) R.LANE_EYE_VALID = true ∧ RegsBut [laneBlk l.val + R.LANE_EYE] s t ∧ Frame [.regs] s t)) ∧
  (∀ (l : Fin 512) (w : BitVec 80) (s : State), s.laneMode l.val = 2 → s.laneState l.val ≠ 0 → s.laneState l.val ≠ 7 → s.clk.safe = false →
    Gives (.rawWordTx l (some w)) s (fun t => t.outs = .laneTx l.val (.raw w) (s.lane l.val).rdTx :: s.outs ∧ RegsBut [] s t ∧ Frame [.outs, .regs, .llp] s t)) ∧
  (∀ (l : Fin 512) (w : Option (BitVec 80)) (s : State), s.laneMode l.val = 1 → s.laneState l.val ≠ 0 → s.laneState l.val ≠ 7 →
    Gives (.rawWordTx l w) s (fun t => (s.clk.safe = false → ∃ x, t.outs = .laneTx l.val (.raw x) (s.lane l.val).rdTx :: s.outs ∧
        (∀ v, w = some v → s.laneState l.val = 6 → x.toNat % 1024 = (enc10 (natBit v.toNat 8) (v.toNat % 256) (s.lane l.val).rdTx).1) ∧
        (w = none ∨ s.laneState l.val ≠ 6 → x.toNat % 1024 = (enc10 true byteK285 (s.lane l.val).rdTx).1)) ∧
      (s.clk.safe = true → t.outs = s.outs) ∧
      (w = none → s.laneState l.val = 6 → t.rd (laneBlk l.val + R.TX_FILL_CNT) =
        BitVec.ofNat 32 (satAdd 0xFFFFFFFF (s.rd (laneBlk l.val + R.TX_FILL_CNT)).toNat 8)) ∧
      RegsBut [laneBlk l.val + R.TX_FILL_CNT] s t ∧ Frame [.outs, .regs, .llp] s t)) ∧
  (∀ (l : Fin 512) (w : BitVec 80) (v : Nat) (s : State), s.laneMode l.val = 1 ∨ s.laneMode l.val = 2 → s.laneState l.val = 6 →
    s.lrOn l.val R.LR_CTRL_PORT_EN = true → (s.lane l.val).eb.run = true → (s.lane l.val).word = [] → 8 ≤ (s.lane l.val).eb.q.length →
    (s.lane l.val).eb.q.length ≤ 24 → v = wordOf (s.laneMode l.val == 1) ((s.lane l.val).eb.q.take 8) →
    Gives (.rawWordRx l w 8) s (fun t => t.outs.take 2 =
        [.dlpRx (32 * (l.val / 128) + 8 * s.lrF l.val R.LR_CTRL_PORT_FIELD) (s.lrF l.val R.LR_CTRL_PORT + 1) 3 [BitVec.ofNat 64 (v / 2 ^ 64)] false,
         .dlpRx (32 * (l.val / 128) + 8 * s.lrF l.val R.LR_CTRL_PORT_FIELD) (s.lrF l.val R.LR_CTRL_PORT) 3 [BitVec.ofNat 64 v] false] ∧
      t.laneState l.val = 6 ∧
      RegsBut [laneBlk l.val + R.LANE_CV_CNT, laneBlk l.val + R.LANE_DISP_CNT] s t)) ∧
  (∀ (l : Fin 512) (s : State), s.laneState l.val = 8 → ∀ bits : List Bool,
    Gives (.prbsCheck l bits) s (fun t => (∃ n, n ≤ bits.length ∧ t.rd64 (laneBlk l.val + R.LANE_PRBS_ERR_LO) =
        (s.rd64 (laneBlk l.val + R.LANE_PRBS_ERR_LO) + n) % 2 ^ 64) ∧
      (s.flag (laneBlk l.val) R.LANE_PRBS_CHK_LOCK = false → bits.length < 64 → (s.lane l.val).prbs.run = 0 →
        t.flag (laneBlk l.val) R.LANE_PRBS_CHK_LOCK = false) ∧
      RegsBut [laneBlk l.val + R.LANE_PRBS, laneBlk l.val + R.LANE_PRBS_ERR_LO, laneBlk l.val + R.LANE_PRBS_ERR_LO + 4] s t ∧ Frame [.regs, .llp] s t))

/-- Link states and their timers (R198-R201, R204, R210, R221, R229, R230): the COM watchdog and a received RST return the link to HELLO_WAIT
fresh; a restart and the fourth replay in a row lead to RESYNC and from there to HELLO_WAIT or FAILED; a grant makes the link ACTIVE; the TIME
exchange and the CTRL engine start, complete and time out. -/
def Obligations.LinkStateCommands : Prop :=
  (∀ (l : Fin 512) (s : State), s.linkState l.val = 1 ∨ s.linkState l.val = 2 →
    Gives (.comWatchdog l) s (fun t => (t.linkState l.val = 1 ∧ t.rf (linkBlk l.val) R.LINK_STAT_CAUSE = 2 ∧
      t.flag (linkBlk l.val) R.LINK_STAT_REMOVED = true ∧ (t.lk l.val).rxNext = 0 ∧ (t.lk l.val).txNext = 0 ∧ (t.lk l.val).replay = []) ∧
      Frame [.free, .outs, .regs, .site, .pcie, .par, .llp, .cap] s t)) ∧
  (∀ (l : Fin 512) (set : BitVec 48) (inFrame : Bool) (s : State), s.linkOpen l.val = true ∨ s.linkState l.val = 4 →
    (s.lk l.val).spoilB = false →
    crc8 (toBytes 5 set.toNat) = set.toNat / 2 ^ 40 → natBit set.toNat 13 = true →
    Gives (.linkSetReceive l set false inFrame) s (fun t => (t.linkState l.val = 1 ∧ t.flag (linkBlk l.val) R.LINK_STAT_PEER_RST_EVT = true ∧
      (s.linkOpen l.val = true → t.rf (linkBlk l.val) R.LINK_STAT_CAUSE = 4) ∧ (t.lk l.val).rxNext = 0 ∧ (t.lk l.val).replay = []) ∧
      Frame [.free, .outs, .regs, .site, .pcie, .par, .llp, .cap] s t)) ∧
  (∀ (r : Req) (l : Fin 512) (v : Word) (s : State), s.Allows r (linkBlk l.val + R.LINK_CFG) true → s.linkState l.val ∈ [1, 2, 4] →
    Gives (.linkRestart r l v) s (fun t => (t.linkState l.val = 3 ∧ t.rd (linkBlk l.val + R.LINK_CFG) = linkCfgStore (v ||| 0x80000000) ∧
      t.flag (linkBlk l.val) R.LINK_STAT_RESYNC_EVT = true ∧ (s.linkState l.val ≠ 4 → t.rf (linkBlk l.val) R.LINK_STAT_CAUSE = 5)) ∧
      Frame [.free, .outs, .regs, .site, .pcie, .par, .llp, .cap] s t)) ∧
  (∀ (l : Fin 512) (s : State), s.linkState l.val = 3 →
    Gives (.resyncPeriodEnd l) s (fun t => (
      (4 ≤ ((s.lk l.val).resyncs.filter (fun t => decide (s.now < t + 1000000000))).length → t.linkState l.val = 4 ∧
        t.flag (linkBlk l.val) R.LINK_STAT_FAILED_EVT = true) ∧
      (((s.lk l.val).resyncs.filter (fun t => decide (s.now < t + 1000000000))).length < 4 → t.linkState l.val = 1 ∧ (t.lk l.val).rxNext = 0) ∧
      RegsBeside [linkBlk l.val + R.LINK_STAT, linkBlk l.val + R.TX_DISCARD_CNT] s t) ∧
      Frame [.free, .outs, .regs, .site, .pcie, .par, .llp, .cap] s t)) ∧
  (∀ (l : Fin 512) (s : State), s.linkOpen l.val = true → (s.lk l.val).replay ≠ [] →
    Gives (.replayTimeout l) s (fun t => (Counted (linkBlk l.val + R.REPLAY_CNT) 1 s t ∧
      ((s.lk l.val).runs + 1 < 4 → t.linkState l.val = s.linkState l.val ∧ (t.lk l.val).replay = (s.lk l.val).replay ∧
        (t.lk l.val).runs = (s.lk l.val).runs + 1) ∧
      (4 ≤ (s.lk l.val).runs + 1 → s.linkState l.val = 2 → t.linkState l.val = 3 ∧ t.rf (linkBlk l.val) R.LINK_STAT_CAUSE = 3)) ∧
      Frame [.free, .outs, .regs, .site, .pcie, .par, .llp, .cap] s t)) ∧
  (∀ (l : Fin 512) (pid ch caps : Nat) (rest : List (Nat × Nat × Nat)) (s : State), (s.lk l.val).hello = (pid, ch, caps) :: rest →
    s.linkState l.val = 1 →
    Gives (.helloGrant l) s (fun t => (t.linkState l.val = 2 ∧ t.flag (linkBlk l.val) R.LINK_STAT_ACTIVE_EVT = true ∧
      (t.lk l.val).hello = rest ∧ (t.lk l.val).caps = caps ∧ (t.lk l.val).grant = some (pid, ch) ∧
      (∃ pay, (t.lk l.val).waitq = (s.lk l.val).waitq ++ [⟨2, none, 0, 0, pay⟩]) ∧
      t.rf (linkBlk l.val) R.LINK_HELLO_GRANTED = (t.lk l.val).granted % 2 ^ 13 ∧
      ((s.lk l.val).grant = some (pid, ch) → 0 < (s.lk l.val).granted → (t.lk l.val).granted = (s.lk l.val).granted ∧
        t.rf (linkBlk l.val) R.LINK_HELLO2_KEPT = 1) ∧
      ((s.lk l.val).grant ≠ some (pid, ch) → (t.lk l.val).granted ≤ ch ∧ t.rf (linkBlk l.val) R.LINK_HELLO2_KEPT = 0)) ∧
      Frame [.outs, .regs, .site, .pcie, .llp, .cap] s t)) ∧
  (∀ (l : Fin 512) (ph : Fin 256) (t1 : Nat) (s : State), s.linkState l.val = 2 → natBit (s.lk l.val).caps 2 = true →
    s.flag (linkBlk l.val) R.LINK_CFG_TIME_EN = true → (s.lk l.val).exch = none → (s.lk l.val).bellq = [] →
    t1 = 256 * s.ttcLink l.val + ph.val + s.txLat l.val →
    Gives (.timeExchangeDue l ph) s (fun t => (t.lk l.val).exch = some t1 ∧ (t.lk l.val).tseq = ((s.lk l.val).tseq + 1) % 256 ∧
      t.outs = s.sent l.val [.timeSet (timeSetBytes 0 (((s.lk l.val).tseq + 1) % 256) t1)] ++ s.outs ∧ Frame [.outs, .llp] s t)) ∧
  (∀ (l : Fin 512) (s : State), (s.lk l.val).exch.isSome = true →
    Gives (.timeRspTimeout l) s (fun t => (t.lk l.val).exch = none ∧ Counted (linkBlk l.val + R.TIME_TMO_CNT) 1 s t ∧
      t.flag (linkBlk l.val) R.LINK_STAT_TIME_ERR = true ∧ RegsBeside [linkBlk l.val + R.LINK_STAT, linkBlk l.val + R.TIME_TMO_CNT] s t ∧
      Frame [.outs, .regs, .site, .pcie, .llp] s t)) ∧
  (∀ (l : Fin 512) (set : BitVec 96) (inFrame : Bool) (ph : Fin 256) (wait t1 t4 t5 hold : Nat) (s : State), s.linkOpen l.val = true →
    (s.lk l.val).spoilB = false → (s.lk l.val).bellq = [] → 256 * s.ttcLink l.val + ph.val = t4 + s.rxLat l.val →
    t5 = 256 * s.ttcLink l.val + ph.val + wait + s.txLat l.val →
    crc8 (toBytes 11 set.toNat) = set.toNat / 2 ^ 88 → (s.lk l.val).exch = some t1 → set.toNat % 4 = 1 → natBits set.toNat 15 8 = (s.lk l.val).tseq →
    hold = natBits set.toNat 79 16 * 256 + natBits set.toNat 87 80 → t1 + hold ≤ t4 → t4 ≤ t1 + hold + 2560000 →
    Gives (.timeSetReceive l set false inFrame ph wait) s (fun t => t.rd (linkBlk l.val + R.LINK_TIME_RTT) = BitVec.ofNat 32 (t4 - t1 - hold) ∧
      (t.lk l.val).exch = none ∧ t.outs = s.sent l.val [.timeSet (timeSetBytes 2 (s.lk l.val).tseq (t5 + (t4 - t1 - hold) / 2))] ++ s.outs ∧
      RegsBut [linkBlk l.val + R.LINK_TIME_RTT] s t ∧ Frame [.outs, .regs, .site, .pcie, .llp] s t)) ∧
  (∀ (r : Req) (l : Fin 512) (v : Word) (s : State), s.Allows r (linkBlk l.val + R.LINK_CTRL_CMD) true →
    s.flag (linkBlk l.val) R.LINK_CTRL_STAT_BUSY = false → s.linkState l.val = 2 → (natBit v.toNat 30 = false ∨ natBits v.toNat 21 16 ≠ 63) →
    Gives (.linkCtrlGo r l v) s (fun t => (t.flag (linkBlk l.val) R.LINK_CTRL_STAT_BUSY = true ∧
      t.rf (linkBlk l.val) R.LINK_CTRL_STAT_TAG = (s.rf (linkBlk l.val) R.LINK_CTRL_STAT_TAG + 1) % 256 ∧ (t.lk l.val).ctrl.isSome = true ∧
      (∃ f, f.ty = 5 ∧ (t.lk l.val).waitq = (s.lk l.val).waitq ++ [f]) ∧ RegsBut [linkBlk l.val + R.LINK_CTRL_STAT] s t) ∧
      Frame [.outs, .regs, .site, .pcie, .llp] s t)) ∧
  (∀ (r : Req) (l : Fin 512) (v : Word) (s : State), s.Allows r (linkBlk l.val + R.LINK_CTRL_CMD) true →
    s.flag (linkBlk l.val) R.LINK_CTRL_STAT_BUSY = false → s.linkState l.val ≠ 2 → (natBit v.toNat 30 = false ∨ natBits v.toNat 21 16 ≠ 63) →
    Gives (.linkCtrlGo r l v) s (fun t => t.rf (linkBlk l.val) R.LINK_CTRL_CODE_CODE = 7 ∧ t.flag (linkBlk l.val) R.LINK_CTRL_STAT_DONE = true ∧
      (t.lk l.val).waitq = (s.lk l.val).waitq)) ∧
  (∀ (l : Fin 512) (s : State), (s.lk l.val).ctrl.isSome = true →
    Gives (.linkCtrlTimeout l) s (fun t => (t.rf (linkBlk l.val) R.LINK_CTRL_CODE_CODE = 6 ∧ t.flag (linkBlk l.val) R.LINK_CTRL_STAT_DONE = true ∧
      t.flag (linkBlk l.val) R.LINK_CTRL_STAT_BUSY = false ∧ (t.lk l.val).ctrl = none ∧
      RegsBeside [linkBlk l.val + R.LINK_CTRL_STAT, linkBlk l.val + R.LINK_CTRL_CODE] s t) ∧ Frame [.outs, .regs, .site, .pcie, .llp] s t)) ∧
  (∀ (r : Req) (l : Fin 512) (v : Word) (s : State), s.Allows r (linkBlk l.val + R.LINK_OWNER) true → siteCodeOk (v.toNat % 128) = true →
    Gives (.linkOwnerWrite r l v) s (fun t => (t.rd (linkBlk l.val + R.LINK_OWNER) = v &&& 0x8000007F ∧
      (natBit v.toNat 31 = true → RegsBut [linkBlk l.val + R.LINK_OWNER] s t) ∧
      (natBit v.toNat 31 = false → t.flag (linkBlk l.val) R.LINK_FI_TX_EN = false ∧ t.flag (linkBlk l.val) R.LINK_FI_RX_EN = false)) ∧
      Frame [.outs, .regs, .site, .pcie, .llp] s t)) ∧
  (∀ (r : Req) (l : Fin 512) (v : Word) (c : Instr) (fi : Nat) (s : State),
    (c, fi) ∈ [(Instr.linkFiTxWrite r l v, R.LINK_FI_TX), (.linkFiRxWrite r l v, R.LINK_FI_RX)] → s.Allows r (linkBlk l.val + fi) true →
    Gives c s (fun t => (s.flag (linkBlk l.val) R.LINK_OWNER_INJ = true → t.rd (linkBlk l.val + fi) = fiStore v ∧
        t.outs = .rsp r .ok [] :: s.outs ∧ RegsBut [linkBlk l.val + fi] s t) ∧
      (s.flag (linkBlk l.val) R.LINK_OWNER_INJ = false → t.outs = .rsp r .denied [] :: s.outs ∧ RegsBut [] s t ∧ t.llp = s.llp) ∧
      Frame [.outs, .regs, .llp] s t))

/-- Frames and ordered sets on a link (R194, R196-R199, R206-R211, R213-R215, R223, R225, R619): what is counted, acknowledged, released and
sent. With no injector active on it, a frame received in sequence advances the sequence, and one that fails its checks is answered with a NAK; a
new frame takes the next SEQ, a credit and a place in the replay buffer. -/
def Obligations.LinkTransferCommands : Prop :=
  (∀ (l : Fin 512) (afterCom : Bool) (run : Nat) (o : RxOpen) (s : State), s.linkOpen l.val = true →
    Gives (.skpReceive l afterCom run o) s (fun t => ((afterCom = true ∧ run ∈ [2, 4, 6]) → Frame [] s t) ∧
      (¬ (afterCom = true ∧ run ∈ [2, 4, 6]) → Counted (linkBlk l.val + R.FRAME_ERR_CNT) 1 s t ∧ RegsBut [linkBlk l.val + R.FRAME_ERR_CNT] s t ∧
        t.lk l.val = { s.lk l.val with spoilF := (s.lk l.val).spoilF || o.frame, spoilB := (s.lk l.val).spoilB || o.inner }) ∧
      Frame [.regs, .llp] s t)) ∧
  (∀ (l : Fin 512) (s : State), s.linkOpen l.val = true →
    Gives (.frameAbortReceive l) s (fun t => Counted (linkBlk l.val + R.ABORT_RX_CNT) 1 s t ∧ RegsBut [linkBlk l.val + R.ABORT_RX_CNT] s t ∧
      t.lk l.val = { s.lk l.val with spoilF := false } ∧ Frame [.regs, .llp] s t)) ∧
  (∀ (l : Fin 512) (o : RxOpen) (s : State), s.linkOpen l.val = true →
    Gives (.straySymbolReceive l o) s (fun t => Counted (linkBlk l.val + R.FRAME_ERR_CNT) 1 s t ∧ RegsBut [linkBlk l.val + R.FRAME_ERR_CNT] s t ∧
      t.lk l.val = { s.lk l.val with spoilF := (s.lk l.val).spoilF || o.frame, spoilB := (s.lk l.val).spoilB || o.inner } ∧
      Frame [.regs, .llp] s t)) ∧
  (∀ (l : Fin 512) (set : BitVec 48) (inFrame : Bool) (x : LinkSt) (n : Nat) (s : State), s.linkOpen l.val = true → x = s.lk l.val → x.spoilB = false →
    crc8 (toBytes 5 set.toNat) = set.toNat / 2 ^ 40 → natBit set.toNat 13 = false → natBit set.toNat 12 = false →
    n = (natBits set.toNat 11 0 + 1 + 4096 - (x.txNext + 4096 - x.replay.length) % 4096) % 4096 → n ≤ x.replay.length →
    Gives (.linkSetReceive l set false inFrame) s (fun t => ((t.lk l.val).replay = x.replay.drop n ∧ (0 < n → (t.lk l.val).runs = 0) ∧
      (t.lk l.val).limD = (limitIn x.limD (natBits set.toNat 23 16)).1 ∧ (t.lk l.val).limC = (limitIn x.limC (natBits set.toNat 39 32)).1 ∧
      RegsBeside [linkBlk l.val + R.LINK_STAT, linkBlk l.val + R.CREDIT_ERR_CNT] s t ∧ t.linkState l.val = s.linkState l.val) ∧
      Frame [.free, .outs, .regs, .site, .pcie, .par, .llp, .cap] s t)) ∧
  (∀ (l : Fin 512) (c : Instr) (set : BitVec 48) (set2 : BitVec 96) (bad inFrame : Bool) (ph : Fin 256) (wait : Nat) (s : State),
    bad = true ∨ (s.lk l.val).spoilB = true → c ∈ [Instr.linkSetReceive l set bad inFrame, .timeSetReceive l set2 bad inFrame ph wait] →
    Gives c s (fun t => t.lk l.val = { s.lk l.val with spoilB := false, spoilF := (s.lk l.val).spoilF || inFrame } ∧ Frame [.llp] s t)) ∧
  (∀ (l : Fin 512) (f : RxFrame) (s : State), s.linkOpen l.val = true → (s.lk l.val).heldRx = none → (s.lk l.val).spoilF = false →
    s.fiFrame l.val R.LINK_FI_RX (natBits (hdrOf f.bytes) 3 0) = false → classify f = 0 → (frameOf f.bytes).seq = (s.lk l.val).rxNext →
    Gives (.normalFrameReceive l f) s (fun t => ((t.lk l.val).rxNext = ((s.lk l.val).rxNext + 1) % 4096 ∧ (t.lk l.val).naked = false ∧
      t.linkState l.val = s.linkState l.val) ∧ Frame [.outs, .regs, .site, .pcie, .llp] s t)) ∧
  (∀ (l : Fin 512) (f : RxFrame) (x : LinkSt) (k : Nat) (s : State), s.linkOpen l.val = true → x = s.lk l.val → x.heldRx = none → x.bellq = [] →
    s.fiFrame l.val R.LINK_FI_RX (natBits (hdrOf f.bytes) 3 0) = false → x.naked = false →
    (classify { f with bad := f.bad || x.spoilF }, k) ∈ [(1, R.FRAME_ERR_CNT), (2, R.CRC_ERR_CNT)] →
    Gives (.normalFrameReceive l f) s (fun t => (Counted (linkBlk l.val + k) 1 s t ∧ Counted (linkBlk l.val + R.NAK_TX_CNT) 1 s t ∧
      (t.lk l.val).naked = true ∧ (t.lk l.val).rxNext = x.rxNext ∧ (t.lk l.val).spoilF = false ∧
      t.outs = s.sent l.val [.linkSet (linkSetBytes ((x.rxNext + 4095) % 4096) true false x.rlD x.rlF x.rlC)] ++ s.outs ∧
      RegsBut [linkBlk l.val + k, linkBlk l.val + R.NAK_TX_CNT] s t) ∧ Frame [.outs, .regs, .site, .pcie, .llp] s t)) ∧
  (∀ (l : Fin 512) (f0 f : RxFrame) (second inFrame : Bool) (s : State), s.linkOpen l.val = true → s.fiBell l.val R.LINK_FI_RX = false →
    f = { f0 with bad := f0.bad || (s.lk l.val).spoilB } →
    Gives (.bellCopyReceive l f0 second inFrame) s (fun t => ((t.lk l.val).spoilB = false ∧
      (t.lk l.val).spoilF = ((s.lk l.val).spoilF || (bellBad f && inFrame)) ∧
      (bellBad f = true → Counted (linkBlk l.val + R.BELL_CRC_CNT) 1 s t ∧ (t.lk l.val).bellBad = true ∧ (t.lk l.val).mq = (s.lk l.val).mq) ∧
      (bellBad f = false → (s.lk l.val).bellLast = some (f.bytes.getD 0 0).toNat → Counted (linkBlk l.val + R.BELL_DUP_CNT) 1 s t ∧
        (t.lk l.val).bellBad = false ∧ (t.lk l.val).mq = (s.lk l.val).mq ∧ RegsBut [linkBlk l.val + R.BELL_DUP_CNT] s t) ∧
      (bellBad f = false → (s.lk l.val).bellLast ≠ some (f.bytes.getD 0 0).toNat →
        reportOk (f.bytes.getD 1 0).toNat ((f.bytes.drop 2).take ((f.bytes.getD 1 0).toNat % 16 + 1)) = true → s.linkOwner l.val < 64 →
        (t.lk l.val).mq = (s.lk l.val).mq ++ [(f.bytes.drop 2).take ((f.bytes.getD 1 0).toNat % 16 + 1)] ∧
        (t.lk l.val).bellLast = some (f.bytes.getD 0 0).toNat ∧ RegsBut [linkBlk l.val + R.BELL_GAP_CNT] s t)) ∧
      Frame [.outs, .regs, .site, .pcie, .llp] s t)) ∧
  (∀ (l : Fin 512) (ty : BitVec 4) (f g : LFrame) (s : State), (s.lk l.val).waitq.find? (fun f => f.ty == ty.toNat) = some f →
    s.mayStart l.val f = true → s.atRefused l.val f = false → s.fiFrame l.val R.LINK_FI_TX ty.toNat = false → (s.lk l.val).heldTx = none →
    (s.lk l.val).bellq = [] → g = { f with seq := (s.lk l.val).txNext } →
    Gives (.normalFrameTransmit l ty) s (fun t => t.outs = s.sent l.val [.frame g.encode none] ++ s.outs ∧
      (t.lk l.val).replay = (s.lk l.val).replay ++ [g] ∧ (t.lk l.val).txNext = ((s.lk l.val).txNext + 1) % 4096 ∧
      (t.lk l.val).waitq = (s.lk l.val).waitq.erase f ∧
      (t.lk l.val).sentD = (if ty.toNat = 3 then ((s.lk l.val).sentD + 1) % 256 else (s.lk l.val).sentD) ∧
      (t.lk l.val).sentC = (if ty.toNat = 5 then ((s.lk l.val).sentC + 1) % 256 else (s.lk l.val).sentC) ∧
      RegsBut [] s t ∧ Frame [.outs, .regs, .llp] s t)) ∧
  (∀ (l : Fin 512) (f : LFrame) (s : State), (s.lk l.val).waitq.find? (fun f => f.ty == 3) = some f → s.atRefused l.val f = true →
    Gives (.normalFrameTransmit l 3) s (fun t => t.lk l.val = { s.lk l.val with waitq := (s.lk l.val).waitq.erase f } ∧
      Counted (lrBlk l.val + R.LR_AT_DROP_CNT) 1 s t ∧ t.flag (lrBlk l.val) R.LR_STAT_AT_DROP = true ∧ t.outs = s.outs ∧
      RegsBut [lrBlk l.val + R.LR_AT_DROP_CNT, lrBlk l.val + R.LR_STAT] s t ∧ Frame [.outs, .regs, .llp] s t)) ∧
  (∀ (l : Fin 512) (b : List Byte) (rest : List (List Byte)) (i : LaneItem) (s : State), (s.lk l.val).bellq = b :: rest → s.linkState l.val = 2 →
    s.fiBell l.val R.LINK_FI_TX = false → natBit (s.lk l.val).caps 1 = true → i = .bell (bellBytes (s.lk l.val).bseq b) none →
    Gives (.bellFrameTransmit l) s (fun t => t.outs = s.sent l.val [i, i] ++ s.outs ∧ (t.lk l.val).bellq = rest ∧
      (t.lk l.val).bseq = ((s.lk l.val).bseq + 1) % 256 ∧ RegsBut [] s t ∧ Frame [.outs, .regs, .llp] s t) ∧
    Gives (.skpTransmit l) s (fun t => t.outs = s.sent l.val [i, i, .skp] ++ s.outs ∧ (t.lk l.val).bellq = rest ∧ RegsBut [] s t) ∧
    (rest = [] → Gives (.linkSetTransmit l) s (fun t => ∃ x, t.outs = s.sent l.val [i, i, .linkSet x] ++ s.outs ∧ (t.lk l.val).bellq = []))) ∧
  (∀ (l : Fin 512) (s : State), s.linkState l.val ∈ [1, 2, 4] → s.linkState l.val ≠ 2 ∨ (s.lk l.val).bellq = [] →
    Gives (.skpTransmit l) s (fun t => t.outs = s.sent l.val [.skp] ++ s.outs ∧ t.lk l.val = s.lk l.val ∧ Frame [.outs, .llp] s t)) ∧
  (∀ (l : Fin 512) (x : LinkSt) (s : State), s.linkOpen l.val = true → x = s.lk l.val → x.bellq = [] →
    Gives (.linkSetTransmit l) s (fun t => t.outs =
      s.sent l.val [.linkSet (linkSetBytes ((x.rxNext + 4095) % 4096) false false x.rlD x.rlF x.rlC)] ++ s.outs ∧ RegsBut [] s t ∧
      t.lk l.val = x ∧ Frame [.outs, .regs, .llp] s t)) ∧
  (∀ (l : Fin 512) (s : State), s.linkState l.val = 3 →
    Gives (.linkSetTransmit l) s (fun t => t.outs = s.sent l.val [.linkSet (linkSetBytes 0 false true 0 0 0), .com] ++ s.outs ∧
      t.lk l.val = s.lk l.val ∧ Frame [.outs, .llp] s t)) ∧
  (∀ (l : Fin 512) (x : LinkSt) (s : State), s.linkOpen l.val = true → x = s.lk l.val → x.naked = true → x.bellq = [] →
    Gives (.nakRepeat l) s (fun t => t.outs =
      s.sent l.val [.linkSet (linkSetBytes ((x.rxNext + 4095) % 4096) true false x.rlD x.rlF x.rlC)] ++ s.outs ∧
      Counted (linkBlk l.val + R.NAK_TX_CNT) 1 s t ∧ RegsBut [linkBlk l.val + R.NAK_TX_CNT] s t ∧ t.lk l.val = x ∧
      Frame [.outs, .regs, .llp] s t)) ∧
  (∀ (l : Fin 512) (h : HeldFrame) (a : Nat) (s : State), (s.lk l.val).hold = [h] → h.f.apply = some a → a ≤ s.ttcLink l.val → h.f.ty = 3 →
    s.siteInReset (s.linkOwner l.val) = false →
    Gives (.holdQueueRelease l) s (fun t => (t.lk l.val).hold = [] ∧ (t.lk l.val).rel = (s.lk l.val).rel ++ [h] ∧ RegsBut [] s t ∧
      Frame [.outs, .regs, .site, .pcie, .llp] s t)) ∧
  (∀ (l : Fin 512) (f : LFrame) (s : State), (s.lk l.val).heldTx = some f →
    Gives (.reorderHoldExpire l) s (fun t => (s.linkOpen l.val = true → (s.lk l.val).bellq = [] →
        t.outs = s.sent l.val [.frame f.encode none] ++ s.outs ∧ (t.lk l.val).heldTx = none ∧ RegsBut [] s t) ∧
      (s.linkOpen l.val = false → t.outs = s.outs ∧ t.lk l.val = s.lk l.val) ∧ Frame [.outs, .regs, .llp] s t))

/-- Fail capture (R232, R237, R240-R242, R244, R246, R264): an entry is applied to the record of its channel, or counted as unusable; the log is
written in lines and its write pointer follows; granules, clears, records and the link's LR registers are written and read. -/
def Obligations.FailCaptureCommands : Prop :=
  (∀ (l : Fin 512) (mue : Bool) (e : FEntry) (rest : List FEntry) (s : State), (s.lk l.val).failq = e :: rest → s.linkHeldBack l.val = false →
    Gives (.failEntryApply l true mue) s (fun t => (Counted (fcuBlk (fcuOf l.val) + R.FCU_ECC_DROP_CNT) 1 s t ∧
      t.flag (fcuBlk (fcuOf l.val)) R.FCU_STAT_ECC_DROP = true ∧ (t.lk l.val).failq = rest) ∧ Frame [.free, .regs, .par, .llp, .cap, .mill] s t)) ∧
  (∀ (l : Fin 512) (mue : Bool) (e : FEntry) (rest : List FEntry) (w : Nat) (s : State), (s.lk l.val).failq = e :: rest → s.linkHeldBack l.val = false →
    w = natBits e.raw 63 32 → natBits w 19 12 = 0 ∨ natBits w 31 29 ≠ 0 →
    Gives (.failEntryApply l false mue) s (fun t => (Counted (fcuBlk (fcuOf l.val) + R.FCU_BAD_CNT) 1 s t ∧
      t.flag (fcuBlk (fcuOf l.val)) R.FCU_STAT_BAD_ENTRY = true ∧ (t.lk l.val).failq = rest ∧
      RegsBut [fcuBlk (fcuOf l.val) + R.FCU_BAD_CNT, fcuBlk (fcuOf l.val) + R.FCU_STAT] s t) ∧ Frame [.free, .regs, .par, .llp, .cap, .mill] s t)) ∧
  (∀ (l : Fin 512) (mue : Bool) (e : FEntry) (rest : List FEntry) (w k : Nat) (s : State), (s.lk l.val).failq = e :: rest →
    s.linkHeldBack l.val = false →
    (s.fcu (fcuOf l.val)).clr = none → w = natBits e.raw 63 32 → natBits w 19 12 ≠ 0 → natBits w 31 29 = 0 →
    natBits w 11 0 < (s.lk l.val).granted → s.chanRec l.val (natBits w 11 0) = some k →
    Gives (.failEntryApply l false mue) s (fun t => ((∀ x : Nat × Nat × Bool × Bool,
        x = recApply (s.recCells k).1.toNat (s.recCells k).2.toNat (natBits e.raw 31 0) (natBits w 19 12) e.time (s.lrOn l.val R.LR_CTRL_FF_EN) →
        t.recCells k = (BitVec.ofNat 64 x.1, BitVec.ofNat 64 x.2.1)) ∧
      (∀ j, j ≠ k → t.recCells j = s.recCells j) ∧ (t.lk l.val).failq = rest ∧
      (mue = true → natBit (s.recCells k).1.toNat 36 = true → s.lrOn l.val R.LR_CTRL_MILL_EN = true →
        Counted (fcuBlk (fcuOf l.val) + R.FCU_ECC_DROP_CNT) 1 s t ∧ t.mill = s.mill ∧ (t.lk l.val).millq = (s.lk l.val).millq) ∧
      (t.lk l.val).rlF = (if e.last && e.cred then ((s.lk l.val).rlF + 1) % 256 else (s.lk l.val).rlF)) ∧
      Frame [.free, .regs, .par, .llp, .cap, .mill] s t)) ∧
  (∀ c0 c1 vec inc time : Nat, ∀ ff : Bool, c0 < 2 ^ 64 → c1 < 2 ^ 64 → inc < 256 → natBit c0 32 = natBit c1 8 →
    ∀ x : Nat × Nat × Bool × Bool, x = recApply c0 c1 vec inc time ff →
      natBits x.1 31 0 + natBits x.2.1 7 0 * 2 ^ 32 = min (natBits c0 31 0 + natBits c1 7 0 * 2 ^ 32 + inc) (2 ^ 40 - 1) ∧
      natBit x.1 32 = natBit x.2.1 8 ∧ natBits x.1 36 35 = natBits c0 36 35) ∧
  (∀ (l : Fin 512) (ue : BitVec 4) (idx : Nat) (s : State), ((s.fcu (fcuOf l.val)).logq.filter (fun e => e.link == l.val % 16)) ≠ [] →
    idx = ((s.rd (lrBlk l.val + R.LR_LOG_WPTR)).toNat +
      ((s.fcu (fcuOf l.val)).fly.filter (fun e => e.link == l.val % 16 && e.live)).foldl (fun a e => a + e.n) 0) % s.logCap l.val →
    (s.stopReady (s.fcuReq l.val 3 (s.lrAddr l.val R.LR_LOG_BASE_LO + 16 * idx) 16 []) = false → Gives (.failLogWrite l ue) s (fun t => Frame [] s t)) ∧
    (s.stopReady (s.fcuReq l.val 3 (s.lrAddr l.val R.LR_LOG_BASE_LO + 16 * idx) 16 []) = true →
     Gives (.failLogWrite l ue) s (fun t => (∃ k j, 1 ≤ k ∧ k ≤ 4 - idx % 4 ∧ j = ((List.range k).filter (fun i => !natBit ue.toNat i)).length ∧
      (t.fcu (fcuOf l.val)).fly = (s.fcu (fcuOf l.val)).fly ++ (if j = 0 then [] else [⟨l.val % 16, j, true⟩]) ∧
      (j = 0 → Counted (fcuBlk (fcuOf l.val) + R.FCU_ECC_DROP_CNT) k s t ∧ t.ring = s.ring) ∧
      (t.fcu (fcuOf l.val)).logq.filter (fun e => e.link == l.val % 16) =
        ((s.fcu (fcuOf l.val)).logq.filter (fun e => e.link == l.val % 16)).drop k ∧
      (t.fcu (fcuOf l.val)).logq.filter (fun e => e.link != l.val % 16) = (s.fcu (fcuOf l.val)).logq.filter (fun e => e.link != l.val % 16)) ∧
      Frame [.free, .outs, .regs, .par, .ring, .cap, .dbg] s t))) ∧
  (∀ (l : Fin 512) (e : LogFly) (s : State), (s.fcu (fcuOf l.val)).fly.find? (fun e => e.link == l.val % 16) = some e → e.live = true →
    Gives (.failLogWriteDone l .ok) s (fun t => t.rd (lrBlk l.val + R.LR_LOG_WPTR) = s.rd (lrBlk l.val + R.LR_LOG_WPTR) + BitVec.ofNat 32 e.n ∧
      (t.fcu (fcuOf l.val)).fly = (s.fcu (fcuOf l.val)).fly.erase e ∧ RegsBut [lrBlk l.val + R.LR_LOG_WPTR] s t ∧ Frame [.regs, .cap] s t)) ∧
  (∀ (l : Fin 512) (e : LogFly) (code : Rsp) (s : State), (s.fcu (fcuOf l.val)).fly.find? (fun e => e.link == l.val % 16) = some e → code ≠ .ok →
    0 < e.n →
    Gives (.failLogWriteDone l code) s (fun t => t.flag (lrBlk l.val) R.LR_STAT_LOG_ERR = true ∧
      t.flag (fcuBlk (fcuOf l.val)) R.FCU_STAT_LOG_DROP = true ∧
      t.rd64 (fcuBlk (fcuOf l.val) + R.FAIL_LOG_DROPPED_LO) = (s.rd64 (fcuBlk (fcuOf l.val) + R.FAIL_LOG_DROPPED_LO) + e.n) % 2 ^ 64 ∧
      t.rd (lrBlk l.val + R.LR_LOG_WPTR) = s.rd (lrBlk l.val + R.LR_LOG_WPTR) ∧ Frame [.regs, .cap] s t)) ∧
  (∀ (l : Fin 512) (ue : BitVec 4) (s : State), (s.lk l.val).fabq ≠ [] → s.lrOn l.val R.LR_CTRL_FAB_EN = true →
    s.lrOn l.val R.LR_CTRL_FAB_PATH = true →
    (s.stopReady (s.fcuReq l.val 4 (s.lrAddr l.val R.LR_FAB_ADDR_LO) 16 []) = false → Gives (.fcuFabForward l ue) s (fun t => Frame [] s t)) ∧
    (s.stopReady (s.fcuReq l.val 4 (s.lrAddr l.val R.LR_FAB_ADDR_LO) 16 []) = true →
     Gives (.fcuFabForward l ue) s (fun t => ((t.lk l.val).fabq = (s.lk l.val).fabq.drop 4 ∧
      (ue = 15 → Counted (fcuBlk (fcuOf l.val) + R.FCU_ECC_DROP_CNT) (min 4 (s.lk l.val).fabq.length) s t ∧ t.ring = s.ring ∧ t.outs = s.outs) ∧
      (ue = 0 → ∃ q : RingReq, q.op = 4 ∧ q.cls = 2 ∧ q.addr = BitVec.ofNat 48 (s.lrAddr l.val R.LR_FAB_ADDR_LO) ∧
        exec (.ringRequestInject q) (s.setLk l.val { s.lk l.val with fabq := (s.lk l.val).fabq.drop 4 }) = .next t)) ∧
      Frame [.free, .outs, .regs, .par, .ring, .llp, .dbg] s t))) ∧
  (∀ (r : Req) (n : Fin 32) (v : Word) (s : State), s.Allows r (fcuBlk n.val + R.FCU_CLR) true → s.flag (fcuBlk n.val) R.FCU_STAT_CLR_BUSY = false →
    Gives (.fcuClr r n v) s (fun t => (natBit v.toNat 31 = false → t.cap = s.cap ∧ RegsBut [] s t) ∧
      (natBit v.toNat 31 = true → natBits v.toNat 8 0 ≤ natBits v.toNat 24 16 →
        t.flag (fcuBlk n.val) R.FCU_STAT_CLR_BUSY = true ∧
        (t.fcu n.val).clr = some (natBits v.toNat 8 0, natBits v.toNat 24 16, natBits v.toNat 8 0, s.now)) ∧
      (natBit v.toNat 31 = true → natBits v.toNat 24 16 < natBits v.toNat 8 0 → t.flag (fcuBlk n.val) R.FCU_STAT_CLR_DONE = true ∧ t.cap = s.cap) ∧
      RegsBut [fcuBlk n.val + R.FCU_STAT] s t ∧ Frame [.outs, .regs, .cap] s t)) ∧
  (∀ (n : Fin 32) (first last next t0 : Nat) (s : State), (s.fcu n.val).clr = some (first, last, next, t0) →
    Gives (.fcuClrDone n) s (fun t => (∀ g i, next ≤ g → g ≤ last → i < 64 →
        t.matBit (32768 * n.val + 64 * g + i) = false ∧ natBits (t.recCells (32768 * n.val + 64 * g + i)).1.toNat 34 32 = 0 ∧
        natBits (t.recCells (32768 * n.val + 64 * g + i)).1.toNat 31 0 = 0 ∧ natBits (t.recCells (32768 * n.val + 64 * g + i)).2.toNat 8 0 = 0 ∧
        natBits (t.recCells (32768 * n.val + 64 * g + i)).1.toNat 36 35 = natBits (s.recCells (32768 * n.val + 64 * g + i)).1.toNat 36 35) ∧
      (t.fcu n.val).clr = none ∧ t.flag (fcuBlk n.val) R.FCU_STAT_CLR_BUSY = false ∧ t.flag (fcuBlk n.val) R.FCU_STAT_CLR_DONE = true ∧
      RegsBut [fcuBlk n.val + R.FCU_STAT] s t ∧ Frame [.regs, .cap] s t)) ∧
  (∀ (r : Req) (n : Fin 32) (g : Fin 512) (v : Word) (s : State), s.Allows r (granReg n.val g.val) true → siteCodeOk (v.toNat % 128) = true →
    Gives (.fcuGranWrite r n g v) s (fun t => t.outs = .rsp r .ok [] :: s.outs ∧
      (natBit (s.rd (granReg n.val g.val)).toNat 7 = false → t.rf (granReg n.val g.val) ⟨0, 6, 0⟩ = v.toNat % 128 ∧
        RegsBut [granReg n.val g.val] s t) ∧
      (natBit (s.rd (granReg n.val g.val)).toNat 7 = true → v.toNat % 128 ≠ (s.rd (granReg n.val g.val)).toNat % 128 →
        t.flag (fcuBlk n.val) R.FCU_STAT_GRAN_REFUSED = true ∧ RegsBut [fcuBlk n.val + R.FCU_STAT] s t) ∧ Frame [.outs, .regs] s t)) ∧
  (∀ (r : Req) (n : Fin 32) (rn : Fin 32768) (s : State), s.deaf = false → s.recGate r n.val rn.val false = .ok → (s.fcu n.val).clr = none →
    Gives (.fcuRecordRead r n rn) s (fun t => t.outs = .rsp r .ok [(s.recView n.val rn.val).getD 0 0] :: s.outs ∧
      tabGet (fun _ => []) (t.fcu n.val).latch (latchSlot r) = (s.recView n.val rn.val).drop 1 ∧ RegsBut [] s t ∧ Frame [.outs, .regs, .cap] s t)) ∧
  (∀ (r : Req) (n : Fin 32) (rn : Fin 32768) (v : Word) (k : Nat) (s : State), s.deaf = false → s.recGate r n.val rn.val true = .ok →
    (s.fcu n.val).clr = none → k = 32768 * n.val + rn.val →
    Gives (.fcuRecordWrite r n rn v) s (fun t => t.outs = .rsp r .ok [] :: s.outs ∧
      t.recCells k = (BitVec.ofNat 64 (natSet (s.recCells k).1.toNat 36 35 (natBits v.toNat 13 12)), (s.recCells k).2) ∧
      (∀ j, j ≠ k → t.recCells j = s.recCells j) ∧ RegsBut [] s t ∧ Frame [.outs, .regs, .cap] s t)) ∧
  (∀ (r : Req) (l : Fin 512) (v : Word) (s : State), s.Allows r (lrBlk l.val + R.LR_CTRL) true →
    Gives (.lrCtrlWrite r l v) s (fun t => (t.rd (lrBlk l.val + R.LR_CTRL) = lrCtrlStore v ∧
      (natBit v.toNat 31 = false → (t.lk l.val).fabq = [] ∧
        ((s.lk l.val).fabq ≠ [] → Counted (fcuBlk (fcuOf l.val) + R.FCU_FAB_DROP_CNT) (s.lk l.val).fabq.length s t)) ∧
      (natBit v.toNat 31 = true → (t.lk l.val).fabq = (s.lk l.val).fabq)) ∧ Frame [.outs, .regs, .site, .pcie, .llp, .cap] s t)) ∧
  (∀ (r : Req) (l : Fin 512) (w : Fin 3) (v : Word) (s : State), s.Allows r (lrBlk l.val + (lrLogReg w.val v).1) true →
    Gives (.lrLogConfigWrite r l w v) s (fun t => (t.rd (lrBlk l.val + (lrLogReg w.val v).1) = (lrLogReg w.val v).2 ∧
      t.rd (lrBlk l.val + R.LR_LOG_WPTR) = s.rd (lrBlk l.val + R.LR_LOG_RPTR) ∧
      (t.fcu (fcuOf l.val)).logq = (s.fcu (fcuOf l.val)).logq.filter (fun e => e.link != l.val % 16) ∧ t.outs = .rsp r .ok [] :: s.outs) ∧
      Frame [.outs, .regs, .cap] s t))

/-- The tally tree (R256-R261, R266): a report of a contributing link opens a step or joins the open one and covers its channels; a report that
cannot be used is counted; a step that times out closes with a result; a result leaves for the links that take it; TALLY_CTRL is stored, and
disabling abandons the step. -/
def Obligations.TallyCommands : Prop :=
  (∀ (l : Fin 512) (p : List Byte) (rest : List (List Byte)) (g : Nat) (s : State), (s.lk l.val).mq = p :: rest → g = s.linkOwner l.val → g < 64 →
    s.siteInReset g = false → s.contributes g l.val = true → s.flag (tallyBlk g) R.TALLY_CTRL_EN = true → (s.tally g).isOpen = false →
    natBit (p.getD 0 0).toNat 1 = true →
    Gives (.matchReportApply l) s (fun t => ((t.lk l.val).mq = rest ∧ (t.tally g).cur = (p.getD 1 0).toNat ∧ (t.tally g).upd = s.now ∧
      (t.lk l.val).tl = ⟨some (natBit (p.getD 0 0).toNat 2), (s.lk l.val).granted, 2 ^ (s.lk l.val).granted - 1⟩) ∧
      Frame [.outs, .regs, .site, .pcie, .llp, .cap] s t)) ∧
  (∀ (l : Fin 512) (p : List Byte) (rest : List (List Byte)) (g : Nat) (s : State), (s.lk l.val).mq = p :: rest → g = s.linkOwner l.val → g < 64 →
    s.siteInReset g = false → (s.contributes g l.val = false ∨ ((s.tally g).isOpen = true ∧ (s.tally g).cur ≠ (p.getD 1 0).toNat)) →
    Gives (.matchReportApply l) s (fun t => ((t.lk l.val).mq = rest ∧ Counted (tallyBlk g + R.TALLY_STALE_CNT) 1 s t ∧
      t.flag (tallyBlk g) R.TALLY_STAT_STALE = true ∧ t.tally g = s.tally g ∧
      RegsBeside [tallyBlk g + R.TALLY_STALE_CNT, tallyBlk g + R.TALLY_STAT] s t) ∧ Frame [.outs, .regs, .site, .pcie, .llp, .cap] s t)) ∧
  (∀ (g : Fin 64) (s : State), (s.tally g.val).isOpen = true →
    Gives (.tallyStepTimeout g) s (fun t => ((t.tally g.val).isOpen = false ∧ t.flag (tallyBlk g.val) R.TALLY_STAT_OPEN = false ∧
      t.flag (tallyBlk g.val) R.TALLY_STAT_TIMEOUT = true ∧ t.flag (tallyBlk g.val) R.TALLY_STAT_DONE = true ∧
      (∃ x : TallyRes, (t.tally g.val).res = (s.tally g.val).res ++ [x] ∧ x.step = (s.tally g.val).cur ∧ x.tmo = true ∧
        t.rd (tallyBlk g.val + R.TALLY_RES_HI) = BitVec.ofNat 32 x.cnt ∧ x.any = decide (0 < x.cnt))) ∧
      Frame [.outs, .regs, .site, .pcie, .cap] s t)) ∧
  (∀ (g : Fin 64) (x : TallyRes) (rest : List TallyRes) (l : Nat) (s : State), (s.tally g.val).res = x :: rest → x.tmo = false → x.links = [l] →
    natBit (s.lk l).caps 1 = true → (s.lk l).bellq.length < 4 → s.flag (tallyBlk g.val) R.TALLY_CTRL_FAB_EN = false →
    Gives (.tallyResultBroadcast g) s (fun t => ((t.tally g.val).res = rest ∧ (t.lk l).bellq = (s.lk l).bellq ++ [matchResult g.val x] ∧
      t.rf (tallyBlk g.val) R.TALLY_LAT_NS = min 65535 (s.now - x.upd) ∧ RegsBut [tallyBlk g.val + R.TALLY_LAT] s t ∧ t.outs = s.outs) ∧
      Frame [.outs, .regs, .site, .pcie, .ring, .llp, .cap] s t)) ∧
  (∀ (g : Fin 64) (x : TallyRes) (rest : List TallyRes) (l : Nat) (s : State), (s.tally g.val).res = x :: rest → x.tmo = true → x.port = some l →
    s.flag (tallyBlk g.val) R.TALLY_CTRL_FAB_EN = true → s.flag (tallyBlk g.val) R.TALLY_CTRL_FAB_PATH = false →
    Gives (.tallyResultBroadcast g) s (fun t => ((t.tally g.val).res = rest ∧ (t.lk l).tallyq = (s.lk l).tallyq ++ [tallyBeat g.val x] ∧
      (t.lk l).bellq = (s.lk l).bellq ∧ RegsBut [] s t ∧ t.outs = s.outs) ∧ Frame [.outs, .regs, .site, .pcie, .ring, .llp, .cap] s t)) ∧
  (∀ (r : Req) (g : Fin 64) (v : Word) (s : State), s.Allows r (tallyBlk g.val + R.TALLY_CTRL) true →
    Gives (.tallyCtrlWrite r g v) s (fun t => t.rd (tallyBlk g.val + R.TALLY_CTRL) = tallyCtrlStore v ∧ t.outs = .rsp r .ok [] :: s.outs ∧
      (natBit v.toNat 31 = false → (t.tally g.val).isOpen = false ∧ t.flag (tallyBlk g.val) R.TALLY_STAT_OPEN = false) ∧
      (natBit v.toNat 31 = true → t.tally g.val = s.tally g.val) ∧
      RegsBut [tallyBlk g.val + R.TALLY_CTRL, tallyBlk g.val + R.TALLY_STAT] s t ∧ Frame [.outs, .regs, .cap] s t))

/-- Data paths of a link (R250-R255): beats of a direct link port are gathered and a whole frame is offered to the link; a delivery takes TALLY
before FAIL before DATA; released frames leave over the ring; fetches are issued and their chunks become frames. -/
def Obligations.LinkPathCommands : Prop :=
  (∀ (f : Fin 128) (port : Fin 32) (d : DWord) (l : Nat) (s : State), s.linkAtPort f.val port.val = some l → s.laneMode l ≠ 1 → s.laneMode l ≠ 2 →
    s.lrOn l R.LR_CTRL_DATA_PATH = false → s.fieldInReset f.val = false → (s.frt f.val).we = true → ((s.lk l).dlpTx ≠ [] ∨ s.txHeld l < 4) →
    Gives (.dlpTxBeat f port d false) s (fun t => (t.lk l).dlpTx = (s.lk l).dlpTx ++ [d] ∧ (t.lk l).waitq = (s.lk l).waitq ∧ RegsBut [] s t ∧
      Frame [.regs, .llp] s t)) ∧
  (∀ (f : Fin 128) (port : Fin 32) (d h : DWord) (l : Nat) (s : State), s.linkAtPort f.val port.val = some l → s.laneMode l ≠ 1 → s.laneMode l ≠ 2 →
    s.lrOn l R.LR_CTRL_DATA_PATH = false → s.fieldInReset f.val = false → (s.frt f.val).we = true → (s.lk l).dlpTx = [h] → natBit h.toNat 25 = false →
    1 ≤ natBits h.toNat 24 16 → natBits h.toNat 24 16 ≤ 8 →
    Gives (.dlpTxBeat f port d true) s (fun t => (t.lk l).dlpTx = [] ∧ (t.lk l).waitq = (s.lk l).waitq ++
      [⟨3, none, 0, natBits h.toNat 15 0, (toBytes 8 d.toNat).take (natBits h.toNat 24 16)⟩] ∧ RegsBut [] s t ∧ Frame [.regs, .llp] s t)) ∧
  (∀ (l : Fin 512) (n : Fin 64) (ue : Bool) (b : Nat) (rest : List Nat) (s : State), s.lrOn l.val R.LR_CTRL_PORT_EN = true →
    (s.lk l.val).dlpRx = none → (s.lk l.val).tallyq = b :: rest → s.fieldInReset (s.portField l.val) = false →
    Gives (.dlpRxDeliver l n ue) s (fun t => ((t.lk l.val).tallyq = rest ∧ (t.lk l.val).rel = (s.lk l.val).rel ∧
      (n = 0 → (t.lk l.val).dlpRx = some ⟨2, [BitVec.ofNat 64 b], false⟩ ∧ t.outs = s.outs) ∧
      (n ≠ 0 → (t.lk l.val).dlpRx = none ∧
        t.outs = .dlpRx (s.portField l.val) (s.lrF l.val R.LR_CTRL_PORT) 2 [BitVec.ofNat 64 b] true :: s.outs) ∧ RegsBut [] s t) ∧
      Frame [.free, .outs, .regs, .par, .llp] s t)) ∧
  (∀ (l : Fin 512) (n : Fin 64) (ue : Bool) (h : HeldFrame) (rest : List HeldFrame) (s : State), s.lrOn l.val R.LR_CTRL_PORT_EN = true →
    (s.lk l.val).dlpRx = none → (s.lk l.val).tallyq = [] → (s.lk l.val).fabq = [] → s.lrOn l.val R.LR_CTRL_DATA_PATH = false →
    (s.lk l.val).rel = h :: rest → n ≠ 0 → s.fieldInReset (s.portField l.val) = false →
    Gives (.dlpRxDeliver l n ue) s (fun t => (t.outs = .dlpRx (s.portField l.val) (s.lrF l.val R.LR_CTRL_PORT) 0 ((dataBeats h.f).take n.val)
        (decide ((dataBeats h.f).length ≤ n.val)) :: s.outs ∧ (t.lk l.val).rel = rest ∧
      ((dataBeats h.f).length ≤ n.val → (t.lk l.val).dlpRx = none ∧
        (t.lk l.val).rlD = (if h.cred then ((s.lk l.val).rlD + 1) % 256 else (s.lk l.val).rlD)) ∧
      (n.val < (dataBeats h.f).length → (t.lk l.val).dlpRx = some ⟨0, (dataBeats h.f).drop n.val, h.cred⟩ ∧
        (t.lk l.val).rlD = (s.lk l.val).rlD) ∧ RegsBut [] s t) ∧ Frame [.free, .outs, .regs, .par, .llp] s t)) ∧
  (∀ (l : Fin 512) (n : Fin 64) (ue : Bool) (p : DlpPkt) (s : State), s.lrOn l.val R.LR_CTRL_PORT_EN = true → (s.lk l.val).dlpRx = some p →
    n ≠ 0 → p.beats ≠ [] →
    Gives (.dlpRxDeliver l n ue) s (fun t => (t.outs = .dlpRx (s.portField l.val) (s.lrF l.val R.LR_CTRL_PORT) p.kind (p.beats.take n.val)
        (decide (p.beats.length ≤ n.val)) :: s.outs ∧
      (t.lk l.val).dlpRx = (if p.beats.length ≤ n.val then none else some { p with beats := p.beats.drop n.val }) ∧
      (t.lk l.val).rlD = (if p.cred && decide (p.beats.length ≤ n.val) then ((s.lk l.val).rlD + 1) % 256 else (s.lk l.val).rlD) ∧
      RegsBut [] s t) ∧ Frame [.free, .outs, .regs, .par, .llp] s t)) ∧
  (∀ (l : Fin 512) (n : Fin 64) (e : FEntry) (rest : List FEntry) (s : State), s.lrOn l.val R.LR_CTRL_PORT_EN = true → (s.lk l.val).dlpRx = none →
    (s.lk l.val).tallyq = [] → (s.lk l.val).fabq = e :: rest → s.lrOn l.val R.LR_CTRL_FAB_EN = true → s.lrOn l.val R.LR_CTRL_FAB_PATH = false →
    Gives (.dlpRxDeliver l n true) s (fun t => ((t.lk l.val).fabq = rest ∧ (t.lk l.val).dlpRx = none ∧ t.outs = s.outs ∧
      Counted (fcuBlk (fcuOf l.val) + R.FCU_ECC_DROP_CNT) 1 s t ∧
      RegsBeside [fcuBlk (fcuOf l.val) + R.FCU_ECC_DROP_CNT, fcuBlk (fcuOf l.val) + R.FCU_STAT] s t) ∧
      Frame [.free, .outs, .regs, .par, .llp] s t)) ∧
  (∀ (l : Fin 512) (n : Fin 64) (p : DlpPkt) (u : State) (s : State), s.lrOn l.val R.LR_CTRL_PORT_EN = true → (s.lk l.val).dlpRx = none →
    s.portPacket l.val = some (p, u) → s.fieldInReset (s.portField l.val) = true →
    Gives (.dlpRxDeliver l n false) s (fun t => (Counted (fcuBlk (fcuOf l.val) + R.FCU_FAB_DROP_CNT) 1 s t ∧ (t.lk l.val).dlpRx = none ∧
      t.outs = s.outs ∧ (t.lk l.val).rlD = (if p.cred then ((s.lk l.val).rlD + 1) % 256 else (s.lk l.val).rlD) ∧
      (t.lk l.val).tallyq.length + (t.lk l.val).fabq.length + (t.lk l.val).rel.length + 1 =
        (s.lk l.val).tallyq.length + (s.lk l.val).fabq.length + (s.lk l.val).rel.length ∧
      RegsBut [fcuBlk (fcuOf l.val) + R.FCU_FAB_DROP_CNT] s t) ∧ Frame [.free, .outs, .regs, .par, .llp] s t)) ∧
  (∀ (l : Fin 512) (h : HeldFrame) (rest : List HeldFrame) (s : State), (s.lk l.val).rel = h :: rest → s.lrOn l.val R.LR_CTRL_DATA_PATH = true →
    (s.lk l.val).owe = [] →
    (s.stopReady (s.linkReq l.val 4 (s.lrAddr l.val R.LR_RX_ADDR_LO) 64 0 []) = false → Gives (.linkRxRingWrite l) s (fun t => Frame [] s t)) ∧
    (s.stopReady (s.linkReq l.val 4 (s.lrAddr l.val R.LR_RX_ADDR_LO) 64 0 []) = true →
     Gives (.linkRxRingWrite l) s (fun t => ((t.lk l.val).rel = rest ∧
      (t.rxOnRing l.val = 0 → (t.lk l.val).owe = [] ∧
        (t.lk l.val).rlD = (if h.cred then ((s.lk l.val).rlD + 1) % 256 else (s.lk l.val).rlD)) ∧
      (t.rxOnRing l.val ≠ 0 → (t.lk l.val).owe = [((8 + h.f.payload.length + 63) / 64, h.cred)] ∧ (t.lk l.val).rlD = (s.lk l.val).rlD)) ∧
      Frame [.free, .outs, .regs, .ring, .llp, .dbg] s t))) ∧
  (∀ (l : Fin 512) (d : Nat) (s : State), d = ((s.lk l.val).limD + 256 - (s.lk l.val).sentD) % 256 → s.lrOn l.val R.LR_CTRL_DATA_PATH = true →
    s.linkState l.val = 2 → (s.lk l.val).reads < 8 → 0 < d → d ≤ 127 → s.txHeld l.val < 4 → (s.lk l.val).pollFrom ≤ s.now →
    s.siteInReset (s.linkOwner l.val) = false →
    (s.stopReady (s.linkReq l.val 2 (s.lrAddr l.val R.LR_TX_ADDR_LO) 64 (s.lk l.val).txTag []) = false →
      Gives (.linkTxFetch l) s (fun t => Frame [] s t)) ∧
    (s.stopReady (s.linkReq l.val 2 (s.lrAddr l.val R.LR_TX_ADDR_LO) 64 (s.lk l.val).txTag []) = true →
     Gives (.linkTxFetch l) s (fun t => ((t.lk l.val).reads = (s.lk l.val).reads + 1 ∧ (t.lk l.val).txTag = ((s.lk l.val).txTag + 1) % 256 ∧
      (∃ q : RingReq, q.op = 2 ∧ q.cls = 2 ∧ q.addr = BitVec.ofNat 48 (s.lrAddr l.val R.LR_TX_ADDR_LO) ∧
        exec (.ringRequestInject q) (s.setLk l.val { s.lk l.val with reads := (s.lk l.val).reads + 1, txTag := ((s.lk l.val).txTag + 1) % 256 }) =
          .next t)) ∧ Frame [.free, .outs, .regs, .ring, .llp, .dbg] s t))) ∧
  (∀ (l : Fin 512) (data : BitVec 2048) (s : State), 0 < (s.lk l.val).reads → (s.lk l.val).form = none →
    Gives (.linkTxChunk l .ok data) s (fun t => (t.lk l.val).reads = (s.lk l.val).reads - 1 ∧
      (natBit data.toNat 31 = false → (t.lk l.val).pollFrom = s.now + 10 * s.lrF l.val R.LR_CFG_TX_POLL ∧ (t.lk l.val).waitq = (s.lk l.val).waitq ∧
        RegsBut [] s t) ∧
      (natBits data.toNat 31 29 = 4 → natBit data.toNat 25 = false → natBits data.toNat 24 16 ≤ 240 →
        (t.lk l.val).waitq = (s.lk l.val).waitq ++
          [⟨3, none, 0, natBits data.toNat 15 0, toBytes (natBits data.toNat 24 16) (data.toNat / 2 ^ 128)⟩] ∧ RegsBut [] s t) ∧
      Frame [.regs, .llp] s t)) ∧
  (∀ (l : Fin 512) (code : Rsp) (data : BitVec 2048) (s : State), 0 < (s.lk l.val).reads → code ≠ .ok →
    Gives (.linkTxChunk l code data) s (fun t => (t.lk l.val).reads = (s.lk l.val).reads - 1 ∧ (t.lk l.val).form = none ∧
      Counted (lrBlk l.val + R.LR_TX_ERR_CNT) 1 s t ∧ t.flag (lrBlk l.val) R.LR_STAT_TX_ERR = true ∧
      RegsBut [lrBlk l.val + R.LR_TX_ERR_CNT, lrBlk l.val + R.LR_STAT] s t ∧ Frame [.regs, .llp] s t))

/-- Mill engines (R268-R271, R274, R277, R278, R280, R286, R287, R289): a job starts, loads a checked descriptor, takes entries until it is closed
and drained, analyses its regions in order and writes their records and the terminator; it ends in DONE or, aborted or failed, in ERROR. -/
def Obligations.MillCommands : Prop :=
  (∀ (r : Req) (e : Fin 64) (v : Word) (s : State), s.Allows r (millBlk e.val + R.MILL_CTRL) true → natBits v.toNat 30 29 = 0 →
    s.millState e.val ∈ [0, 4, 5] →
    Gives (.millCtrlStart r e v) s (fun t => (t.millState e.val = 1 ∧ t.rf (millBlk e.val) R.MILL_STAT_ERR = 0 ∧
      t.rf (millBlk e.val) R.MILL_STAT_DESC_OFS = 0 ∧ t.rf (millBlk e.val) ⟨4, 5, 0⟩ = s.rf (millBlk e.val) ⟨4, 5, 0⟩ ∧
      (∀ c ∈ millCounters, t.rd (millBlk e.val + c) = 0) ∧ t.millE e.val = { src := natBit v.toNat 0 }) ∧
      Frame [.free, .outs, .regs, .site, .pcie, .ring, .llp, .mill, .dbg] s t)) ∧
  (∀ (r : Req) (e : Fin 64) (v : Word) (s : State), s.Allows r (millBlk e.val + R.MILL_CTRL) true →
    natBits v.toNat 30 29 ≠ 0 ∨ s.millState e.val ∈ [1, 2, 3] →
    Gives (.millCtrlStart r e v) s (fun t => (t.flag (millBlk e.val) R.MILL_STAT_REFUSED = true ∧ t.mill = s.mill ∧
      t.millState e.val = s.millState e.val ∧ RegsBeside [millBlk e.val + 0, millBlk e.val + 4] s t) ∧
      Frame [.free, .outs, .regs, .site, .pcie, .ring, .llp, .mill, .dbg] s t)) ∧
  (∀ (r : Req) (e : Fin 64) (v : Word) (s : State), s.Allows r (millBlk e.val + R.MILL_CTRL) true → natBit v.toNat 31 = false →
    natBit v.toNat 29 = false → s.millState e.val = 2 → (s.millE e.val).src = false →
    Gives (.millCtrlClose r e v) s (fun t => (t.millState e.val = 2 ∧ t.millE e.val = { s.millE e.val with closed := true } ∧
      RegsBut [millBlk e.val + 0] s t) ∧ Frame [.free, .outs, .regs, .site, .pcie, .ring, .llp, .mill, .dbg] s t)) ∧
  (∀ (r : Req) (e : Fin 64) (v : Word) (s : State), s.Allows r (millBlk e.val + R.MILL_CTRL) true → natBits v.toNat 31 30 = 0 →
    s.millState e.val ∈ [1, 2, 3] →
    Gives (.millCtrlAbort r e v) s (fun t => (t.millState e.val = 5 ∧ t.rf (millBlk e.val) R.MILL_STAT_ERR = 6 ∧
      t.flag (millBlk e.val) R.MILL_STAT_ERROR = true ∧ (s.millState e.val ≠ 3 → (t.millE e.val).intake = []) ∧
      (t.millE e.val).cells = (s.millE e.val).cells) ∧ Frame [.free, .outs, .regs, .site, .pcie, .ring, .llp, .mill, .dbg] s t)) ∧
  (∀ (e : Fin 64) (d : BitVec 2048) (s : State), s.millState e.val = 1 → (s.millE e.val).desc = {} →
    s.flag (clkBlk + 4 * (16 + e.val / 16)) R.CLK_GATE_READY = true →
    Gives (.millDescLoaded e d) s (fun t => (
      (∀ o, descCheck d.toNat = some o → t.millState e.val = 5 ∧ t.rf (millBlk e.val) R.MILL_STAT_ERR = 1 ∧
        t.rf (millBlk e.val) R.MILL_STAT_DESC_OFS = o ∧ t.flag (millBlk e.val) R.MILL_STAT_ERROR = true) ∧
      (descCheck d.toNat = none → (t.millE e.val).desc = descAt d.toNat ∧
        ((s.millE e.val).src = false → t.millState e.val = 2) ∧
        ((s.millE e.val).src = true → t.millState e.val =
          if (s.millE e.val).srcNext < (s.rd (millBlk e.val + R.MILL_SRC_CNT)).toNat then 1 else 3))) ∧
      Frame [.free, .outs, .regs, .site, .pcie, .ring, .llp, .mill, .dbg] s t)) ∧
  (∀ (e : Fin 64) (d : BitVec 2048) (n : Nat) (s : State), s.millState e.val = 1 → (s.millE e.val).src = true → (s.millE e.val).desc ≠ {} →
    n = min 16 ((s.rd (millBlk e.val + R.MILL_SRC_CNT)).toNat - (s.millE e.val).srcNext) →
    Gives (.millSrcRead e d) s (fun t => ((t.millE e.val).srcNext = (s.millE e.val).srcNext + n ∧
      t.millState e.val = (if (s.millE e.val).srcNext + n < (s.rd (millBlk e.val + R.MILL_SRC_CNT)).toNat then 1 else 3) ∧
      (t.millE e.val).cells = (((List.range n).foldl (fun s i => s.millTake e.val (d.toNat / 2 ^ (128 * i) % 2 ^ 128)) s).millE e.val).cells) ∧
      Frame [.free, .outs, .regs, .site, .pcie, .ring, .mill, .dbg] s t)) ∧
  (∀ (e : Fin 64) (raw u : Nat) (rest : List (Nat × Nat)) (s : State), s.millState e.val = 2 → (s.millE e.val).intake = (raw, u) :: rest →
    Gives (.millIntakeEntry e true) s (fun t => (Counted (millBlk e.val + R.MILL_INTAKE_UE_CNT) 1 s t ∧
      t.flag (millBlk e.val) R.MILL_STAT_INTAKE_UE = true ∧ (t.millE e.val).cells = (s.millE e.val).cells ∧
      (∃ more, (t.millE e.val).intake = rest ++ more) ∧ RegsBeside [millBlk e.val + R.MILL_INTAKE_UE_CNT, millBlk e.val + 4] s t) ∧
      Frame [.outs, .regs, .site, .pcie, .llp, .mill] s t)) ∧
  (∀ (e : Fin 64) (raw u : Nat) (rest : List (Nat × Nat)) (s : State), s.millState e.val = 2 → (s.millE e.val).intake = (raw, u) :: rest →
    Gives (.millIntakeEntry e false) s (fun t => (
      (millCellOf (s.millE e.val).desc raw = none → Counted (millBlk e.val + R.MILL_RANGE_CNT) 1 s t ∧
        t.flag (millBlk e.val) R.MILL_STAT_RANGE = true ∧ (t.millE e.val).cells = (s.millE e.val).cells) ∧
      (∀ c, millCellOf (s.millE e.val).desc raw = some c → Counted (millBlk e.val + R.MILL_TAKEN_CNT) 1 s t ∧
        (((s.millE e.val).last.find? (fun x => x.1 == natBits raw 60 52)).map (·.2) = some c →
          Counted (millBlk e.val + R.MILL_MERGED_CNT) 1 s t ∧ (t.millE e.val).cells = (s.millE e.val).cells) ∧
        (((s.millE e.val).last.find? (fun x => x.1 == natBits raw 60 52)).map (·.2) ≠ some c → (s.millE e.val).cells.length < 131072 →
          (t.millE e.val).cells = c :: (s.millE e.val).cells ∧
          t.rd (millBlk e.val + R.MILL_STORED) = BitVec.ofNat 32 ((s.millE e.val).cells.length + 1)) ∧
        (((s.millE e.val).last.find? (fun x => x.1 == natBits raw 60 52)).map (·.2) ≠ some c → 131072 ≤ (s.millE e.val).cells.length →
          (t.millE e.val).cells = (s.millE e.val).cells ∧ (t.millE e.val).ovf.contains c.reg = true ∧
          Counted (millBlk e.val + R.MILL_OVF_DROP_CNT) 1 s t ∧ t.flag (millBlk e.val) R.MILL_STAT_OVF = true)) ∧
      (∃ more, (t.millE e.val).intake = rest ++ more)) ∧ Frame [.outs, .regs, .site, .pcie, .llp, .mill] s t)) ∧
  (∀ (e : Fin 64) (s : State), s.millState e.val = 2 → (s.millE e.val).closed = true → (s.millE e.val).intake = [] →
    (∀ i, i < 128 → (s.lk (128 * (e.val / 16) + i)).millq.any (fun q => q.1 == e.val) = false) →
    Gives (.millIntakeDrained e) s (fun t => t.millState e.val = 3 ∧ RegsBut [millBlk e.val + 4] s t ∧ Frame [.regs] s t)) ∧
  (∀ (e : Fin 64) (ue ovf : Bool) (cells : List MillCell) (x : MResult) (s : State), s.millState e.val = 3 → (s.millE e.val).pend = none →
    (s.millE e.val).fin = false → (s.millE e.val).next < (s.millE e.val).desc.nreg →
    cells = (s.millE e.val).cells.filter (fun c => c.reg == (s.millE e.val).next) → ovf = (s.millE e.val).ovf.contains (s.millE e.val).next →
    x = analyseRegion (s.millE e.val).desc cells ovf ue →
    Gives (.millRegionAnalyse e ue) s (fun t => (
      (x.verdict = 0 → (s.millE e.val).desc.allRegions = false → (t.millE e.val).next = (s.millE e.val).next + 1 ∧ (t.millE e.val).pend = none) ∧
      (x.verdict ≠ 0 ∨ (s.millE e.val).desc.allRegions = true → (t.millE e.val).next = (s.millE e.val).next ∧
        (t.millE e.val).pend = some (millRecord (s.millE e.val).desc (s.millE e.val).next cells ovf x) ∧
        (∀ c, verdictCnt x.verdict = some c → Counted (millBlk e.val + c) 1 s t) ∧
        t.rd64 (millBlk e.val + R.MILL_NODES_LO) = (s.rd64 (millBlk e.val + R.MILL_NODES_LO) + x.nodes) % 2 ^ 64)) ∧ Frame [.regs, .mill] s t)) ∧
  (∀ (e : Fin 64) (p : List Byte) (s : State), s.millState e.val = 3 → (s.millE e.val).fin = false → (s.millE e.val).pend = some p →
    64 * (s.millE e.val).lines + (s.millE e.val).buf.length + p.length + 16 ≤ (s.millE e.val).desc.size →
    Gives (.millRecordWrite e) s (fun t => ((t.millE e.val).pend = none ∧ (t.millE e.val).next = (s.millE e.val).next + 1 ∧
      (t.millE e.val).buf.length < 64 ∧ t.millState e.val = 3 ∧
      64 * (t.millE e.val).lines + (t.millE e.val).buf.length = 64 * (s.millE e.val).lines + (s.millE e.val).buf.length + p.length) ∧
      Frame [.free, .outs, .regs, .site, .pcie, .ring, .llp, .mill, .dbg] s t)) ∧
  (∀ (e : Fin 64) (p : List Byte) (s : State), s.millState e.val = 3 → (s.millE e.val).fin = false → (s.millE e.val).pend = some p →
    (s.millE e.val).desc.size < 64 * (s.millE e.val).lines + (s.millE e.val).buf.length + p.length + 16 →
    Gives (.millRecordWrite e) s (fun t => (t.millState e.val = 5 ∧ t.rf (millBlk e.val) R.MILL_STAT_ERR = 5 ∧ (t.millE e.val).fin = true) ∧
      Frame [.free, .outs, .regs, .site, .pcie, .ring, .llp, .mill, .dbg] s t)) ∧
  (∀ (e : Fin 64) (s : State), s.millState e.val = 3 → (s.millE e.val).fin = false → (s.millE e.val).pend = none →
    (s.millE e.val).desc.nreg ≤ (s.millE e.val).next →
    Gives (.millRecordWrite e) s (fun t => ((t.millE e.val).fin = true ∧ (t.millE e.val).buf = [] ∧ t.millState e.val = 3 ∧
      (t.millE e.val).lines = (s.millE e.val).lines + ((s.millE e.val).buf.length + 16 + 63) / 64 ∧
      t.rd (millBlk e.val + R.MILL_RES_BYTES) = BitVec.ofNat 32 (64 * (t.millE e.val).lines)) ∧
      Frame [.free, .outs, .regs, .site, .pcie, .ring, .llp, .mill, .dbg] s t)) ∧
  (∀ (e : Fin 64) (s : State), s.millState e.val = 3 → (s.millE e.val).fin = true →
    Gives (.millJobDone e) s (fun t => (t.millState e.val = 4 ∧ t.flag (millBlk e.val) R.MILL_STAT_DONE = true ∧
      RegsBeside [millBlk e.val + 4] s t) ∧ Frame [.outs, .regs, .site, .pcie] s t)) ∧
  (∀ (e : Fin 64) (what : Fin 3) (region : BitVec 12) (s : State), s.millState e.val = (if what.val = 2 then 3 else 1) →
    Gives (.millWriteError e what region) s (fun t => (t.millState e.val = 5 ∧ t.rf (millBlk e.val) R.MILL_STAT_ERR = what.val + 2 ∧
      t.flag (millBlk e.val) R.MILL_STAT_ERROR = true ∧ (what.val = 2 → t.rf (millBlk e.val) R.MILL_PROGRESS_REGION = region.toNat)) ∧
      Frame [.outs, .regs, .site, .pcie, .llp, .mill] s t))

/-- A repair of the Mill repairs (R279, R281-R284): the lines of a REPAIRED verdict cover every failing cell of the region, none of them through
a group that has fewer spares than the lines it gave, whatever the descriptor, the cells and the budget. -/
def Obligations.MillRepairsAreRepairs : Prop :=
  ∀ (d : Nat) (m : MillDesc) (cells : List MillCell) (ovf ue : Bool), m = descAt d → (analyseRegion m cells ovf ue).verdict = 1 →
    (∀ c ∈ cells, ∃ l ∈ (analyseRegion m cells ovf ue).lines, l.g < m.groups.length ∧ (m.groups.getD l.g {}).col = l.col ∧
      (m.groups.getD l.g {}).rlo ≤ c.row ∧ c.row ≤ (m.groups.getD l.g {}).rhi ∧ (m.groups.getD l.g {}).clo ≤ c.col ∧
      c.col ≤ (m.groups.getD l.g {}).chi ∧ l.addr = if l.col then c.col else c.row) ∧
    (∀ g, g < m.groups.length → ((analyseRegion m cells ovf ue).lines.filter (fun l => l.g == g)).length ≤ (m.groups.getD g {}).count)

/-- Ownership (R33, R291-R293, R295): a write of an ownership entry from one site to another is refused; a grant waits for its fill and then takes
effect with its memory zero, before what its requester asked of the hub after it; a revoke takes effect at once and leaves the field unconfigured. -/
def Obligations.OwnershipCommands : Prop :=
  (∀ (r : Req) (f : Fin 128) (v : Word) (s : State), s.Allows r (ownBlk + R.FLD_OWN + 4 * f.val) true → siteCodeOk (v.toNat % 128) = true →
    Gives (.fldOwnWrite r f v) s (fun t => (
      (s.fieldOwner f.val = v.toNat % 128 → t = s.answer r (ownBlk + R.FLD_OWN + 4 * f.val) .ok []) ∧
      (s.fieldOwner f.val < 64 → v.toNat % 128 < 64 → s.fieldOwner f.val ≠ v.toNat % 128 →
        t.flag ownBlk R.OWN_STAT_OWN_REFUSED = true ∧ t.outs = .rsp r .ok [] :: s.outs ∧ t.fills = s.fills ∧ RegsBut [ownBlk + R.OWN_STAT] s t) ∧
      (s.fieldOwner f.val = 0x7F → v.toNat % 128 < 64 → t.fills = s.fills ++ [⟨false, f.val, v.toNat % 128, some r, []⟩] ∧
        t.flag ownBlk R.OWN_STAT_BUSY = true ∧ t.outs = s.outs ∧ RegsBut [ownBlk + R.OWN_STAT] s t) ∧
      (s.fieldOwner f.val < 64 → v.toNat % 128 = 0x7F → t.fieldOwner f.val = 0x7F ∧ (t.frt f.val).configured = false ∧ (t.frt f.val).gsr = true ∧
        t.cfgState f.val = 0 ∧ t.cfgRec f.val = none ∧ t.flag (siteBlk (s.fieldOwner f.val)) R.SITE_STAT_GRANT_CHG = true ∧
        (∀ g, g < 128 → g ≠ f.val → t.fieldOwner g = s.fieldOwner g))) ∧
      Frame [.free, .outs, .regs, .latch, .staged, .fab, .mem, .site, .pcie, .ring, .llp, .cfg, .dbg, .fills, .gpio] s t)) ∧
  (∀ (r : Req) (g : Fin 32) (v : Word) (s : State), s.Allows r (ownBlk + R.GRAN_OWN + 4 * g.val) true → siteCodeOk (v.toNat % 128) = true →
    Gives (.granOwnWrite r g v) s (fun t => (
      (s.granOwner g.val = v.toNat % 128 → t = s.answer r (ownBlk + R.GRAN_OWN + 4 * g.val) .ok []) ∧
      (s.granOwner g.val < 64 → v.toNat % 128 < 64 → s.granOwner g.val ≠ v.toNat % 128 →
        t.flag ownBlk R.OWN_STAT_OWN_REFUSED = true ∧ t.outs = .rsp r .ok [] :: s.outs ∧ t.fills = s.fills ∧ RegsBut [ownBlk + R.OWN_STAT] s t) ∧
      (s.granOwner g.val = 0x7F → v.toNat % 128 < 64 → t.fills = s.fills ++ [⟨true, g.val, v.toNat % 128, some r, []⟩] ∧
        t.flag ownBlk R.OWN_STAT_BUSY = true ∧ t.outs = s.outs ∧ RegsBut [ownBlk + R.OWN_STAT] s t) ∧
      (s.granOwner g.val < 64 → v.toNat % 128 = 0x7F → t.granOwner g.val = 0x7F ∧ t.mem = s.mem ∧
        t.flag (siteBlk (s.granOwner g.val)) R.SITE_STAT_GRANT_CHG = true ∧ RegsBeside [ownBlk + R.GRAN_OWN + 4 * g.val] s t)) ∧
      Frame [.free, .outs, .regs, .latch, .staged, .fab, .mem, .site, .pcie, .ring, .cfg, .dbg, .fills, .gpio] s t)) ∧
  (∀ (x : OwnFill) (rest : List OwnFill) (s : State), s.fills = x :: rest → x.later = [] → x.gran = false → x.idx < 128 → x.site < 64 → s.fieldOwner x.idx = 0x7F →
    Gives .grantFillDone s (fun t => (t.fieldOwner x.idx = x.site ∧ t.fills = rest ∧ (∀ b w, b < 96 → w < 1024 → t.bmWord x.idx b w = 0) ∧
      (t.frt x.idx).configured = false ∧ t.cfgState x.idx = 0 ∧ t.flag (siteBlk x.site) R.SITE_STAT_GRANT_CHG = true ∧
      (s.siteInReset x.site = true → (t.frt x.idx).siteHold = true) ∧ (rest = [] → t.flag ownBlk R.OWN_STAT_BUSY = false) ∧
      (∀ r, x.req = some r → .rsp r .ok [] ∈ t.outs)) ∧
      Frame [.free, .outs, .regs, .latch, .staged, .fab, .mem, .site, .pcie, .ring, .llp, .cfg, .dbg, .fills, .gpio] s t)) ∧
  (∀ (x : OwnFill) (rest : List OwnFill) (s : State), s.fills = x :: rest → x.later = [] → x.gran = true → x.idx < 32 → x.site < 64 → s.granOwner x.idx = 0x7F →
    Gives .grantFillDone s (fun t => (t.granOwner x.idx = x.site ∧ t.fills = rest ∧ (∀ q, q < 131072 → t.grQuarter x.idx q = 0) ∧
      t.flag (siteBlk x.site) R.SITE_STAT_GRANT_CHG = true ∧ (rest = [] → t.flag ownBlk R.OWN_STAT_BUSY = false) ∧
      (∀ r, x.req = some r → .rsp r .ok [] ∈ t.outs)) ∧
      Frame [.free, .outs, .regs, .latch, .staged, .fab, .mem, .site, .pcie, .ring, .cfg, .dbg, .fills, .gpio] s t)) ∧
  (∀ (x : OwnFill) (rest : List OwnFill) (r : Req) (u : State) (s : State), s.fills = x :: rest → x.req = some r →
    exec .grantFillDone { s with fills := { x with later := [] } :: rest } = .next u →
    Gives .grantFillDone s (fun t => t = x.later.foldl (fun s h => s.runAcc r h) u))

/-- The site interrupt controller and MSI-X (R299-R301, R374): an end of interrupt arms the vector again, or issues it anew while a class routed to
it stays high; enabling MSI-X of a function, which the host
has found by its identity (R363), issues what is due; unmasking an entry issues its pending message. -/
def Obligations.InterruptCommands : Prop :=
  (∀ (r : Req) (n : Fin 64) (v : Word) (s : State), s.Allows r (siteBlk n.val + R.SIC_EOI) true →
    Gives (.sicEoi r n v) s (fun t => (
      (s.vstat (siteBlk n.val + R.SIC_VSTAT_LO) (v.toNat % 64) = false → t.outs = .rsp r .ok [] :: s.outs ∧ RegsBut [] s t ∧ t.pcie = s.pcie) ∧
      ((∀ c, c < 9 → s.sicRoute n.val c = v.toNat % 64 → natBit (s.rf (siteBlk n.val) R.SIC_EN_EN) c = true → s.sicLevel n.val c = false) →
        t.vstat (siteBlk n.val + R.SIC_VSTAT_LO) (v.toNat % 64) = false ∧ t.outs = .rsp r .ok [] :: s.outs ∧
        (∀ w, w < 64 → w ≠ v.toNat % 64 → t.vstat (siteBlk n.val + R.SIC_VSTAT_LO) w = s.vstat (siteBlk n.val + R.SIC_VSTAT_LO) w)) ∧
      (∀ c, c < 9 → s.sicRoute n.val c = v.toNat % 64 → natBit (s.rf (siteBlk n.val) R.SIC_EN_EN) c = true → s.sicLevel n.val c = true →
        s.vstat (siteBlk n.val + R.SIC_VSTAT_LO) (v.toNat % 64) = true → s.fnCanSend (n.val + 1) = true →
        t.vstat (siteBlk n.val + R.SIC_VSTAT_LO) (v.toNat % 64) = true ∧
        (tabGet (fun _ => false) s.pcie.msixUnmask ((n.val + 1) * 256 + v.toNat % 64) = true →
          t.outs = .rsp r .ok [] :: .msix (n.val + 1) (v.toNat % 64) :: s.outs) ∧
        (tabGet (fun _ => false) s.pcie.msixUnmask ((n.val + 1) * 256 + v.toNat % 64) = false →
          tabGet (fun _ => false) t.pcie.msixPend ((n.val + 1) * 256 + v.toNat % 64) = true)) ∧ RegsBeside [] s t) ∧
      Frame [.outs, .regs, .site, .pcie] s t)) ∧
  (∀ (fn : Fin 65) (s : State),
    Gives (.msixEnable fn) s (fun t => (tabGet (fun _ => false) t.pcie.msixEn fn.val = true ∧
      (fn.val = 0 → ∀ v, v < 256 → s.pf0Cond v = true → t.vstat (fnBlk 0 + R.HOST_VSTAT) v = true) ∧
      (∀ i, (if s.pcie.vfEn then s.pcie.numVfs else 0) ≤ i → i < fn.val → .pcieIdent (i + 1) (s.fnIdent (i + 1)) ∈ t.outs) ∧
      (∀ n, fn.val = n + 1 → t.fnCanSend fn.val = true ∧ ∀ c, c < 9 → s.siteInReset n = false → natBit (s.rf (siteBlk n) R.SIC_EN_EN) c = true →
        s.sicLevel n c = true → t.vstat (siteBlk n + R.SIC_VSTAT_LO) (s.sicRoute n c) = true) ∧ RegsBeside [] s t) ∧
      Frame [.outs, .regs, .site, .pcie] s t)) ∧
  (∀ (fn : Fin 65) (v : Fin 256) (k : Nat) (s : State), k = (if fn.val = 0 then v.val else v.val % 64) →
    Gives (.msixUnmask fn v) s (fun t => (tabGet (fun _ => false) t.pcie.msixUnmask (fn.val * 256 + k) = true ∧
      tabGet (fun _ => false) t.pcie.msixPend (fn.val * 256 + k) = false ∧
      t.outs = (if tabGet (fun _ => false) s.pcie.msixPend (fn.val * 256 + k) then [.msix fn.val k] else []) ++ s.outs) ∧ Frame [.outs, .pcie] s t))

/-- Site resets (R302-R306, R371): a request takes a LIVE site into RESET with its fields held and its interrupts withdrawn; one during a reset
is merged; the drain ends, then the site is LIVE again, its unloaded fields waiting for RUN. A function-level reset, the loss of VFs and the loss of
the PCIe link reset the sites and functions they name. -/
def Obligations.SiteResetCommands : Prop :=
  (∀ (r : Req) (n : Fin 64) (v : Word) (s : State), s.Allows r (siteBlk n.val + R.SITE_CMD) true → s.siteState n.val = 1 →
    Gives (.siteCmdReset r n v) s (fun t => (t.siteState n.val = 2 ∧ t.rf (siteBlk n.val) R.SITE_STAT_CAUSE = (if isMgmt r then 3 else 2) ∧
      t.rf (siteBlk n.val) R.SIC_EN_EN = 0 ∧ t.rd64 (siteBlk n.val + R.SIC_VSTAT_LO) = 0 ∧ (t.srt n.val).step = 5 ∧
      (t.srt n.val).reload = s.flag (siteBlk n.val) R.SITE_RST_CFG_FIELD_ACTION ∧ Counted (siteBlk n.val + R.SITE_RST_CNT) 1 s t ∧
      (∀ f, f < 128 → s.fieldOwner f = n.val → (t.frt f).siteHold = true ∧ (t.frt f).gsr = true) ∧
      (∀ e, e < 64 → s.millOwner e = n.val → s.millState e ∈ [1, 2, 3] → t.millState e = 5 ∧ t.rf (millBlk e) R.MILL_STAT_ERR = 7) ∧
      t.flag (dmaBlk (16 + n.val)) R.DMA_CTRL_EN = false) ∧
      Frame [.free, .outs, .regs, .fab, .mem, .site, .pcie, .ring, .llp, .cap, .mill, .host, .cfg, .dbg] s t)) ∧
  (∀ (r : Req) (n : Fin 64) (v : Word) (s : State), s.Allows r (siteBlk n.val + R.SITE_CMD) true → s.siteState n.val = 2 →
    Gives (.siteCmdReset r n v) s (fun t => (t.flag (siteBlk n.val) R.SITE_STAT_MERGED = true ∧ Counted (siteBlk n.val + R.SITE_RST_CNT) 1 s t ∧
      t.siteState n.val = 2 ∧ RegsBeside [] s t) ∧
      Frame [.free, .outs, .regs, .fab, .mem, .site, .pcie, .ring, .llp, .cap, .mill, .host, .cfg, .dbg] s t)) ∧
  (∀ (r : Req) (n : Fin 64) (v : Word) (imgs : List (Nat × FieldImg)) (s : State), s.Allows r (siteBlk n.val + R.SITE_CMD) true →
    s.siteState n.val = 1 → s.flag (siteBlk n.val) R.SITE_STAT_HELD = true →
    imgs = (s.siteFields n.val).filterMap (fun f => if s.cfgState f = 2 then (s.cfgRec f).map (fun i => (f, i)) else none) →
    Gives (.siteCmdRun r n v) s (fun t => (t.flag (siteBlk n.val) R.SITE_STAT_HELD = false ∧ t.siteState n.val = 1 ∧
      (imgs = [] → t.cfg = s.cfg) ∧ (imgs ≠ [] → ∃ x, t.cfg.groups = s.cfg.groups ++ [x] ∧ x.site = n.val ∧ x.kind = 7 ∧ x.pass = 3 ∧ x.imgs = imgs)) ∧
      Frame [.free, .outs, .regs, .fab, .mem, .site, .pcie, .ring, .llp, .cap, .mill, .host, .cfg, .dbg] s t)) ∧
  (∀ (n : Fin 64) (s : State), (s.srt n.val).step = 5 →
    Gives (.siteResetDrainEnd n) s (fun t => ((t.srt n.val).step = 6 ∧
      (∀ l, l < 512 → s.linkOwner l = n.val → s.linkState l = 2 → (s.lk l).replay ≠ [] → t.flag (siteBlk n.val) R.SITE_STAT_DRAIN_TMO = true) ∧
      ((s.srt n.val).reload = false → ∀ f, f < 128 → s.fieldOwner f = n.val → (s.frt f).configured = true → (s.cfgRec f).isSome = true →
        t.cfgState f = 2)) ∧ Frame [.free, .outs, .regs, .fab, .mem, .site, .pcie, .par, .ring, .llp, .cfg, .dbg] s t)) ∧
  (∀ (n : Fin 64) (s : State), (s.srt n.val).step = 6 → (s.cfg.groups.any (fun y => y.kind == 4 && y.site == n.val && y.pass != 4)) = false →
    Gives (.siteResetComplete n) s (fun t => (t.siteState n.val = 1 ∧ (t.srt n.val).step = 0 ∧
      ((s.srt n.val).reload = false → t.flag (siteBlk n.val) R.SITE_STAT_HELD = true) ∧ t.flag (siteBlk n.val) R.SITE_STAT_RESET_DONE = true ∧
      (∀ f, f < 128 → s.fieldOwner f = n.val → (t.frt f).siteHold = false)) ∧
      Frame [.free, .outs, .regs, .fab, .mem, .site, .pcie, .ring, .llp, .cfg, .dbg] s t)) ∧
  (∀ (n : Fin 64) (s : State), s.siteState n.val = 1 →
    Gives (.vfFlr n) s (fun t => (t.siteState n.val = 2 ∧ t.rf (siteBlk n.val) R.SITE_STAT_CAUSE = 1 ∧
      tabGet (fun _ => false) t.pcie.msixEn (n.val + 1) = false ∧
      (∀ v, v < 256 → tabGet (fun _ => false) t.pcie.msixUnmask ((n.val + 1) * 256 + v) = false ∧
        tabGet (fun _ => false) t.pcie.msixPend ((n.val + 1) * 256 + v) = false) ∧
      (∀ i, i < 16 → t.rd (fnBlk (n.val + 1) + R.HOST_AP + 4 * i) = 0)) ∧
      Frame [.free, .outs, .regs, .fab, .mem, .site, .pcie, .ring, .llp, .cap, .mill, .host, .cfg, .dbg] s t)) ∧
  (∀ (m : Fin 65) (s : State), s.pcie.numVfs ≤ 64 →
    Gives (.vfEnableClear m) s (fun t => (t.pcie.vfEn = (s.pcie.vfEn && decide (m.val ≠ 0)) ∧ t.pcie.numVfs = min m.val s.pcie.numVfs ∧
      (∀ n, m.val ≤ n → n < s.pcie.numVfs → s.pcie.vfEn = true → s.siteState n = 1 → t.siteState n = 2 ∧
        t.rf (siteBlk n) R.SITE_STAT_CAUSE = 1)) ∧
      Frame [.free, .outs, .regs, .fab, .mem, .site, .pcie, .ring, .llp, .cap, .mill, .host, .cfg, .dbg] s t)) ∧
  (∀ s : State, s.pcie.numVfs ≤ 64 → Gives .pfFlr s (fun t => (t.pcie.vfEn = false ∧ t.pcie.numVfs = 0 ∧
      tabGet (fun _ => false) t.pcie.msixEn 0 = false ∧ t.rd (fnBlk 0 + R.HOST_FN_ERR) = 0 ∧
      (∀ c, c < 16 → t.flag (dmaBlk c) R.DMA_CTRL_EN = false) ∧
      (∀ n, n < s.pcie.numVfs → s.pcie.vfEn = true → s.siteState n = 1 → t.siteState n = 2)) ∧
      Frame [.free, .outs, .regs, .fab, .mem, .site, .pcie, .ring, .llp, .cap, .mill, .host, .cfg, .dbg] s t)) ∧
  (∀ s : State, s.pcie.numVfs ≤ 64 → Gives .pcieLinkLoss s (fun t => (t.pcie.linkUp = false ∧ t.pcie.vfEn = false ∧ t.pcie.numVfs = 0 ∧
      (∀ n, n < s.pcie.numVfs → s.pcie.vfEn = true → s.siteState n = 1 → t.siteState n = 2)) ∧
      Frame [.free, .outs, .regs, .fab, .mem, .site, .pcie, .ring, .llp, .cap, .mill, .host, .cfg, .dbg] s t)) ∧
  (∀ s : State, Gives .pcieLinkUp s (fun t => t.pcie = { s.pcie with linkUp := true } ∧ t.outs = .pcieIdent 0 (s.fnIdent 0) :: s.outs ∧
    Frame [.outs, .pcie] s t))

/-- DRAM requests (R316-R320, R323, R324, R329-R331): ownership of a granule; a read answers the line's content, zeros from an UNFILLED block,
POISONED for a poisoned or uncorrectable line, and a refusal with its code; a write of 64 bytes replaces its line and a narrow one is merged; draining
a write queue changes no line. -/
def Obligations.DramRequestCommands : Prop :=
  (∀ (r : Req) (g : Fin 3072) (v : Word) (s : State), s.Allows r (dramHub + R.DRAM_OWN + 4 * g.val) true → siteCodeOk (v.toNat % 128) = true →
    Gives (.dramOwnWrite r g v) s (fun t => (t.outs = .rsp r .ok [] :: s.outs ∧
      (v.toNat % 128 = s.dramOwner g.val → RegsBut [] s t ∧ t.dram = s.dram) ∧
      (v.toNat % 128 ≠ s.dramOwner g.val → (s.dramOwner g.val ≠ 0x7F ∧ v.toNat % 128 ≠ 0x7F) ∨ (s.encOf g.val).isSome = true →
        t.flag dramHub R.DRAM_HSTAT_OWN_REFUSED = true ∧ RegsBut [dramHub + R.DRAM_HSTAT] s t ∧ t.dram = s.dram) ∧
      (s.dramOwner g.val = 0x7F → v.toNat % 128 < 64 → s.encOf g.val = none → t.dramOwner g.val = v.toNat % 128 ∧
        (∀ c b, b < 2 ^ 22 → b / 1024 = g.val → t.isFilled c b = false) ∧ (∀ c b, b < 2 ^ 22 → b / 1024 ≠ g.val → t.isFilled c b = s.isFilled c b)) ∧
      (s.dramOwner g.val < 64 → v.toNat % 128 = 0x7F → s.encOf g.val = none → t.dramOwner g.val = 0x7F ∧ t.dram = s.dram)) ∧
      Frame [.outs, .regs, .dram] s t)) ∧
  (∀ (c : Fin 12) (q : DramReq) (d : DramServe) (ls : List Nat) (k : Rsp) (u : State) (s : State), s.reqLines c.val q = some ls →
    s.dramRefuses c.val q = (some k, u) →
    Gives (.dramReadRequest c q d) s (fun t => .dramDone c.val q.r q.addr.toNat k [] ∈ t.outs ∧ t.dram = s.dram) ∧
    (q.posted = false → Gives (.dramWriteRequest c q d) s (fun t => .dramDone c.val q.r q.addr.toNat k [] ∈ t.outs ∧ t.dram = s.dram))) ∧
  (∀ (c : Fin 12) (q : DramReq) (d : DramServe) (line : Nat) (s : State), s.reqLines c.val q = some [line] → q.burst = false →
    s.dramRefuses c.val q = (none, s) → s.ddrState c.val = 2 → (∀ b, d.act = some b → s.throttled c.val (s.bankKey c.val line b.val) q.r.mid.toNat = false) →
    s.encOf (q.addr.toNat / 2 ^ 30) = none →
    Gives (.dramReadRequest c q d) s (fun t => (
      (s.isFilled c.val (s.lineAddr c.val line / 2 ^ 20) = false → .dramDone c.val q.r q.addr.toNat .ok [0] ∈ t.outs) ∧
      (s.isFilled c.val (s.lineAddr c.val line / 2 ^ 20) = true → (s.lineAt c.val line).1.poison = false →
        d.ecc.headD .clean = .clean ∨ d.ecc.headD .clean = .ce ∨ (s.lineAt c.val line).2 = true →
        .dramDone c.val q.r q.addr.toNat .ok [reqMask q (s.lineAt c.val line).1.data.toNat] ∈ t.outs) ∧
      (s.isFilled c.val (s.lineAddr c.val line / 2 ^ 20) = true → (s.lineAt c.val line).1.poison = true ∨
        (d.ecc.headD .clean = .ue ∧ (s.lineAt c.val line).2 = false) →
        .dramDone c.val q.r q.addr.toNat .poisoned [] ∈ t.outs ∧ Counted (ddrBlk c.val + R.DDR_UE_CNT) 1 s t) ∧
      t.dram.lines = s.dram.lines) ∧ Frame [.free, .outs, .regs, .site, .pcie, .par, .ring, .dram, .dbg, .ledger] s t)) ∧
  (∀ (c : Fin 12) (q : DramReq) (d : DramServe) (line : Nat) (x : BitVec 512) (rest : List (BitVec 512)) (s : State),
    s.reqLines c.val q = some [line] → q.burst = false → q.data = x :: rest → s.dramRefuses c.val q = (none, s) → s.ddrState c.val = 2 →
    s.dramRoom c.val [line] = true → (∀ b, d.act = some b → s.throttled c.val (s.bankKey c.val line b.val) q.r.mid.toNat = false) →
    s.encOf (q.addr.toNat / 2 ^ 30) = none →
    Gives (.dramWriteRequest c q d) s (fun t => (
      (q.len.toNat = 63 → t.lineAt c.val line = (⟨x, false⟩, true)) ∧
      (q.len.toNat < 63 → s.isFilled c.val (s.lineAddr c.val line / 2 ^ 20) = true → (s.lineAt c.val line).1.poison = false →
        d.ecc.headD .clean = .clean → t.lineAt c.val line =
          (⟨BitVec.ofNat 512 (mergeLine (s.lineAt c.val line).1.data.toNat x.toNat (q.addr.toNat % 64) (q.len.toNat + 1)), false⟩, true)) ∧
      (q.len.toNat < 63 → (s.lineAt c.val line).1.poison = true → s.isFilled c.val (s.lineAddr c.val line / 2 ^ 20) = true →
        (t.lineAt c.val line).1.poison = true) ∧
      t.isFilled c.val (s.lineAddr c.val line / 2 ^ 20) = true ∧
      (s.isFilled c.val (s.lineAddr c.val line / 2 ^ 20) = true → ∀ l, l ≠ line → t.lineAt c.val l = s.lineAt c.val l) ∧
      (q.posted = false → .dramDone c.val q.r q.addr.toNat .ok [] ∈ t.outs)) ∧
      Frame [.free, .outs, .regs, .site, .pcie, .par, .ring, .dram, .dbg, .ledger] s t)) ∧
  (∀ (c : Fin 12) (sub : Fin 2) (n : Fin 65) (urgent : Bool) (s : State), s.ddrState c.val = 2 →
    (urgent = true → 48 ≤ ((s.ddr c.val).queue sub.val).length) → (∀ e ∈ (s.ddr c.val).queue sub.val, e.1 % 2 = sub.val) →
    Gives (.dramWriteDrain c sub n urgent) s (fun t => ((t.ddr c.val).queue sub.val = ((s.ddr c.val).queue sub.val).drop n.val ∧
      (t.ddr c.val).queue (1 - sub.val) = (s.ddr c.val).queue (1 - sub.val) ∧ (∀ l, (t.lineAt c.val l).1 = (s.lineAt c.val l).1)) ∧ Frame [.dram] s t))

/-- Memory encryption gives back what was written (R348, R349, R352, R353): a protected line written whose counter and MAC lines stay cached reads
back with the data written, verified, in any state of the slot, whatever its secrets. -/
def Obligations.ProtectedLineReadsBack : Prop :=
  ∀ (s t : State) (c n mid rid j x : Nat) (g : EncGeo) (e e2 : List DramEcc), s.encPut c n g mid j x e = (true, e2, t) →
    ∃ y, t.encReadLine c n g rid j [] = (some y, [], t) ∧ y % 2 ^ 512 = x % 2 ^ 512

/-- The controllers' own work (R320, R326, R327, R332, R335-R339): background fill, refresh, temperature, row-disturbance windows, patrol, tracking,
retraining, set points, parity errors and migration. -/
def Obligations.DramUpkeepCommands : Prop :=
  (∀ (c : Fin 12) (b : Nat) (s : State), b = s.nextFill c.val (s.dram.filled.length + 66) 0 → s.ddrState c.val = 2 → s.dramList.contains c.val = true →
    b < s.dramList.length * s.rf dramHub R.DRAM_INTLV_CAP_GIB * 1024 →
    Gives (.dramBackgroundFill c) s (fun t => (t.isFilled c.val b = true ∧
      (∀ l, l < 2 ^ 32 → s.lineAddr c.val l / 2 ^ 20 = b → t.lineAt c.val l = ({}, false)) ∧
      (∀ l, l < 2 ^ 32 → s.lineAddr c.val l / 2 ^ 20 ≠ b → t.lineAt c.val l = s.lineAt c.val l)) ∧ Frame [.dram] s t)) ∧
  (∀ (c : Fin 12) (p : Fin 4) (s : State), s.ddrState c.val ∈ [1, 2] → s.rankState c.val p.val ≠ 0 →
    tabGet (fun _ => 0) (s.ddr c.val).ref p.val + s.trefi c.val p.val ≤ s.now →
    Gives (.dramRefresh c p) s (fun t => tabGet (fun _ => 0) (t.ddr c.val).ref p.val = s.now ∧ (∀ l, t.lineAt c.val l = s.lineAt c.val l) ∧
      Frame [.dram] s t)) ∧
  (∀ (c : Fin 12) (hot crit : BitVec 4) (s : State),
    Gives (.dramTempPoll c hot crit) s (fun t => ((∀ p, p < 4 → s.rankState c.val p ≠ 0 →
        ((natBit hot.toNat p || natBit crit.toNat p) = true → t.flag (rankBlk c.val p) R.DDR_RANK_REF_X2 = true) ∧
        ((natBit hot.toNat p || natBit crit.toNat p) = false → s.flag (rankBlk c.val p) R.DDR_RANK_REF_X2 = true →
          t.flag (rankBlk c.val p) R.DDR_RANK_REF_X2 = decide (tabGet (fun _ => 0) (s.ddr c.val).cool p = 0))) ∧
      ((∃ p, p < 4 ∧ natBit crit.toNat p = true ∧ s.rankState c.val p ≠ 0) → t.flag (ddrBlk c.val) R.DDR_STAT_TEMP_CRIT = true ∧
        ∃ x, t.par.reports = s.par.reports ++ [x] ∧ x.code = 0x0063)) ∧ Frame [.free, .regs, .par, .dram] s t)) ∧
  (∀ (c : Fin 12) (s : State), Gives (.dramRhWindowEnd c) s (fun t => (t.ddr c.val).act = [] ∧ (t.ddr c.val).thr = (s.ddr c.val).thr ∧
      Frame [.dram] s t)) ∧
  (∀ (c : Fin 12) (rank : Fin 4) (sub : Fin 2) (bank : Fin 32) (mid : BitVec 12) (s : State),
    Gives (.dramThrottleExpire c rank sub bank mid) s (fun t =>
      t.throttled c.val (rank.val * 64 + sub.val * 32 + bank.val) mid.toNat = false ∧ (∀ k m, (k, m) ≠ (rank.val * 64 + sub.val * 32 + bank.val, mid.toNat) →
        t.throttled c.val k m = s.throttled c.val k m) ∧ Frame [.dram] s t)) ∧
  (∀ (c : Fin 12) (e : DramEcc) (act : Option (Fin 32)) (total line : Nat) (s : State),
    total = ((List.range 4).filter (fun p => s.rankState c.val p == 1 || s.rankState c.val p == 3 || s.rankState c.val p == 5)).length * s.rankLines c.val →
    total ≠ 0 → s.ddrState c.val = 2 → s.rf (ddrBlk c.val) R.DDR_PATROL_PERIOD ≠ 0 → line = (s.ddr c.val).patrol % total →
    Gives (.dramPatrolRead c e act) s (fun t => (
      (s.isFilled c.val (s.lineAddr c.val line / 2 ^ 20) = false → (t.ddr c.val).patrol = (line / 4 * 4 + 4) % total ∧ t.regs = s.regs) ∧
      (s.isFilled c.val (s.lineAddr c.val line / 2 ^ 20) = true → (t.ddr c.val).patrol = (line + 1) % total ∧
        ((s.lineAt c.val line).1.poison = false → (s.lineAt c.val line).2 = false → e = .ce → Counted (ddrBlk c.val + R.DDR_CE_CNT) 1 s t) ∧
        ((s.lineAt c.val line).1.poison = true ∨ ((s.lineAt c.val line).2 = false ∧ e = .ue) → Counted (ddrBlk c.val + R.DDR_UE_CNT) 1 s t)) ∧
      t.dram.lines = s.dram.lines) ∧ Frame [.free, .outs, .regs, .site, .pcie, .par, .dram, .ledger] s t)) ∧
  (∀ (c : Fin 12) (s : State), s.ddrState c.val = 2 →
    ((s.ddr c.val).zq + 128000000 ≤ s.now → exec (.dramTrack c true) s = .next (s.setDdr c.val { s.ddr c.val with zq := s.now })) ∧
    ((s.ddr c.val).dqs + 10000000 ≤ s.now → exec (.dramTrack c false) s = .next (s.setDdr c.val { s.ddr c.val with dqs := s.now }))) ∧
  (∀ (c : Fin 12) (f : Nat) (s : State), s.ddrState c.val = 2 → s.rf (ddrBlk c.val) R.DDR_STAT_POSTURE < modeNo s.mode →
    f = s.rf (ddrBlk c.val) R.DDR_STAT_FSP → f < 3 →
    Gives (.dramRetrainStep c 1) s (fun t => t.rf (ddrBlk c.val) R.DDR_STAT_POSTURE = modeNo s.mode ∧
      t.flag (ddrBlk c.val) R.DDR_STAT_RETRAINED = true ∧ RegsBut [ddrBlk c.val + R.DDR_STAT] s t ∧ t.dram = s.dram) ∧
    Gives (.dramRetrainStep c 2) s (fun t => (t.flag (fspBlk c.val f) R.DDR_FSP0_TRAINED = false ∧
      (∀ g, (s.clrF (fspBlk c.val f) R.DDR_FSP0_TRAINED).fspBest c.val (some f) = some g → t.ddrState c.val = 3 ∧ (t.ddr c.val).target = some g ∧
        t.flag (ddrBlk c.val) R.DDR_STAT_FSP_FALLBACK = true) ∧
      ((s.clrF (fspBlk c.val f) R.DDR_FSP0_TRAINED).fspBest c.val (some f) = none → t.ddrState c.val = 4) ∧
      t.flag (ddrBlk c.val) R.DDR_STAT_TRAIN_FAIL = true) ∧ Frame [.free, .outs, .regs, .site, .pcie, .par, .dram] s t)) ∧
  (∀ (r : Req) (c : Fin 12) (v : Word) (s : State), s.Allows r (ddrBlk c.val + R.DDR_FREQ) true → natBit v.toNat 31 = true →
    Gives (.ddrFreqGo r c v) s (fun t => ((s.fspOk c.val (v.toNat % 4) = true → s.ddrState c.val = 2 → t.ddrState c.val = 3 ∧
        (t.ddr c.val).target = some (v.toNat % 4) ∧
        (∀ n ∈ s.dramOwners, t.flag (dramHub + 8 * n) R.DRAM_SITE_EVT_FREQ = true)) ∧
      (s.fspOk c.val (v.toNat % 4) = false ∨ s.ddrState c.val ≠ 2 → t.flag (ddrBlk c.val) R.DDR_STAT_FREQ_REFUSED = true ∧ t.dram = s.dram ∧
        RegsBut [ddrBlk c.val + R.DDR_STAT] s t)) ∧ Frame [.outs, .regs, .site, .pcie, .dram] s t)) ∧
  (∀ (c : Fin 12) (f : Nat) (s : State), (s.ddr c.val).target = some f →
    Gives (.ddrFreqDone c) s (fun t => t.ddrState c.val = 2 ∧ t.rf (ddrBlk c.val) R.DDR_STAT_FSP = f % 4 ∧ (t.ddr c.val).target = none ∧
      RegsBut [ddrBlk c.val + R.DDR_STAT] s t ∧ Frame [.regs, .dram] s t)) ∧
  (∀ (c : Fin 12) (p : Fin 4) (n : Nat) (s : State),
    n = ((tabGet (fun _ => []) (s.ddr c.val).capar p.val).filter (fun t => decide (s.now < t + 1000000000))).length + 1 →
    Gives (.dramCaparError c p) s (fun t => (Counted (ddrBlk c.val + R.DDR_CAPAR_CNT) 1 s t ∧ t.flag (ddrBlk c.val) R.DDR_STAT_CAPAR = true ∧
      (n < 3 → t.rankState c.val p.val = s.rankState c.val p.val) ∧
      (3 ≤ n → s.rankState c.val p.val = 1 → s.flag (ddrBlk c.val) R.DDR_CTRL_SPARE_EN = false → t.flag (ddrBlk c.val) R.DDR_STAT_RETIRE = true ∧
        t.rankState c.val p.val = 5)) ∧ Frame [.free, .outs, .regs, .site, .pcie, .par, .dram, .ledger] s t)) ∧
  (∀ (c : Fin 12) (e : DramEcc) (src k line : Nat) (s : State), (s.ddr c.val).mig = some (src, k) → src < 4 → s.ddrState c.val = 2 →
    line = s.rf (rankBlk c.val src) R.DDR_RANK_SERVES * s.rankLines c.val + k →
    Gives (.dramMigrateLine c e) s (fun t => (
      (k + 1 < s.rankLines c.val → (t.ddr c.val).mig = some (src, k + 1) ∧ t.rd (ddrBlk c.val + R.DDR_MIG_PTR) = BitVec.ofNat 32 ((k + 1) / 1024) ∧
        (e = .ue → (s.lineAt c.val line).2 = false → s.isFilled c.val (s.lineAddr c.val line / 2 ^ 20) = true →
          (t.lineAt c.val line).1.poison = true ∧ Counted (ddrBlk c.val + R.DDR_MIG_POISON) 1 s t) ∧
        (e = .clean → (s.lineAt c.val line).1.poison = false → s.isFilled c.val (s.lineAddr c.val line / 2 ^ 20) = true →
          ∀ l, t.lineAt c.val l = s.lineAt c.val l)) ∧
      (s.rankLines c.val ≤ k + 1 → (t.ddr c.val).mig = none ∧ t.rankState c.val src = 4 ∧ t.flag (ddrBlk c.val) R.DDR_STAT_MIG_DONE = true ∧
        (s.rf (ddrBlk c.val) R.DDR_CTRL_SPARE_RANK ≠ src → t.rankState c.val (s.rf (ddrBlk c.val) R.DDR_CTRL_SPARE_RANK) = 1))) ∧
      Frame [.regs, .dram] s t))

/-- Key slots (R342, R344, R345, R350, R354, R358): an enable that meets its conditions takes fresh secrets and starts with zero counters; one that
does not sets REFUSED, and one before the DRNG can seed them waits; a disable zeroises the secrets and leaves the region UNFILLED; a write-back carries a
counter into its parent and puts the line back in memory. -/
def Obligations.KeySlotCommands : Prop :=
  (∀ (r : Req) (n : Fin 65) (v : Word) (s : State), s.Allows r (encBlk n.val + R.ENC_CTRL) true →
    Gives (.encEnable r n v) s (fun t => (
      (s.keyReady = true → s.encLegal n.val (natBits v.toNat 11 0) = true → t.encState n.val = 1 ∧
        t.encD n.val = natBits v.toNat 11 0 ∧ t.flag (encBlk n.val) R.ENC_CTRL_EN = true ∧ t.encKeys n.val = s.drawKeys.1 ∧ (t.encKeys n.val).h ≠ 0 ∧ t.sec = s.drawKeys.2.sec ∧ t.sec.ent.pool = s.sec.ent.pool.drop 3 ∧
        (∀ c i, c < 12 → t.rootCtr c n.val i = 0) ∧ (∀ c a i, c < 12 → a < 16 → i < 2 ^ 32 → t.cached c n.val a i = none)) ∧
      (s.keyReady = true → s.encLegal n.val (natBits v.toNat 11 0) = false → t.flag (encBlk n.val) R.ENC_STAT_REFUSED = true ∧
        t.dram = s.dram ∧ RegsBeside [encBlk n.val + R.ENC_STAT] s t) ∧
      (s.keyReady = false → t.dram = { s.dram with wait := s.dram.wait ++ [(n.val, natBits v.toNat 11 0)] } ∧ RegsBut [] s t)) ∧
      Frame [.free, .outs, .regs, .site, .pcie, .dram, .sec] s t)) ∧
  (∀ (r : Req) (n : Fin 65) (v : Word) (s : State), s.Allows r (encBlk n.val + R.ENC_CTRL) true →
    Gives (.encDisable r n v) s (fun t => (
      (s.encState n.val = 0 → t.encD n.val = natBits v.toNat 11 0 ∧ t.dram = s.dram ∧ RegsBut [encBlk n.val + R.ENC_CTRL] s t) ∧
      (s.encState n.val ≠ 0 → t.encState n.val = 0 ∧ t.flag (encBlk n.val) R.ENC_CTRL_EN = false ∧ t.encKeys n.val = {} ∧
        t.rf (encBlk n.val) R.ENC_ALARM_CNT_COUNT = 0 ∧
        (∀ c b, b < 2 ^ 22 → s.encBase n.val ≤ b / 1024 → b / 1024 < s.encBase n.val + s.encD n.val + s.encM n.val → t.isFilled c b = false))) ∧
      Frame [.free, .outs, .regs, .site, .pcie, .dram, .sec] s t)) ∧
  (∀ (c : Fin 12) (n : Fin 65) (line : Nat) (ecc : List DramEcc) (x : CLine) (s : State), s.encState n.val ≠ 0 → s.cached c.val n.val 0 line = some x →
    x.dirty = true →
    Gives (.encWriteback c n 0 line ecc) s (fun t => (t.cached c.val n.val 0 line = none ∧
      t.lineAt c.val ((s.encGeo c.val n.val).line 0 line) = (⟨x.data, false⟩, true)) ∧
      Frame [.free, .outs, .regs, .site, .pcie, .par, .dram, .ledger] s t)) ∧
  (∀ (c : Fin 12) (n : Fin 65) (a : Fin 14) (line : Nat) (ecc : List DramEcc) (x : CLine) (s : State), s.encState n.val ≠ 0 →
    s.cached c.val n.val a.val line = some x → x.dirty = false → a.val ≠ (s.encGeo c.val n.val).top + 1 →
    Gives (.encWriteback c n a line ecc) s (fun t => t.cached c.val n.val a.val line = none ∧ (∀ l, t.lineAt c.val l = s.lineAt c.val l) ∧
      RegsBut [] s t ∧ Frame [.free, .outs, .regs, .site, .pcie, .par, .dram, .ledger] s t)) ∧
  (∀ (c : Fin 12) (n : Fin 65) (a : Fin 14) (line p m : Nat) (ecc : List DramEcc) (x y : CLine) (s : State), s.encState n.val ≠ 0 → 0 < a.val →
    a.val ≤ (s.encGeo c.val n.val).top → s.cached c.val n.val a.val line = some x → x.dirty = true →
    s.cached c.val n.val (a.val + 1) (line / 8) = some y → line < 2 ^ 32 → p = ctrGet y.data.toNat (line % 8) → p < 2 ^ 56 - 1 →
    m = (s.encGeo c.val n.val).line a.val line →
    Gives (.encWriteback c n a line ecc) s (fun t => (t.cached c.val n.val a.val line = none ∧
      ctrGet (t.cachedVal c.val n.val (a.val + 1) (line / 8)) (line % 8) = p + 1 ∧ (t.lineAt c.val m).2 = true ∧
      (t.lineAt c.val m).1.data.toNat % 2 ^ 448 = x.data.toNat % 2 ^ 448 ∧
      (t.lineAt c.val m).1.data.toNat / 2 ^ 448 = encMac (s.encKeys n.val) n.val c.val m 2 (p + 1) 7 (x.data.toNat % 2 ^ 448)) ∧
      Frame [.free, .outs, .regs, .site, .pcie, .par, .dram, .ledger] s t))

/-- Mailboxes, doorbells and the end of interrupt of PF0 (R373, R384-R387, R389): a push appends to the other side's queue and rings its doorbell, or
is dropped from a full queue; a pop answers the oldest word, or 0 from an empty queue; the bindings, the lock and the heartbeat take what is written. -/
def Obligations.MailboxCommands : Prop :=
  (∀ (r : Req) (c : Fin 128) (v : Word) (b : Bool) (s : State), s.deaf = false → s.recoveryOnly = false → s.mbxSide c.val r.mid.toNat = some b →
    s.regDeny r (mbxBlk c.val) true = none → s.siteInReset (s.portChanOwner c.val) = false →
    Gives (.mbxPush r c v) s (fun t => (t.outs.head? = some (.rsp r .ok []) ∧
      ((if b then (s.mbxQ c.val).toA else (s.mbxQ c.val).toB).length < 16 →
        t.mbxQ c.val = (if b then { s.mbxQ c.val with toA := (s.mbxQ c.val).toA ++ [v] } else { s.mbxQ c.val with toB := (s.mbxQ c.val).toB ++ [v] }) ∧
        (b = false → t.rd (mbxEp (s.mbxEndB c.val) + R.MBX_DB) = s.rd (mbxEp (s.mbxEndB c.val) + R.MBX_DB) |||
          BitVec.ofNat 32 (2 ^ s.rf (mbxHub + 4 * c.val) R.MBX_BIND_BIT_B)) ∧
        (b = true → t.rd (mbxEp (s.mbxEndA c.val) + R.MBX_DB) = s.rd (mbxEp (s.mbxEndA c.val) + R.MBX_DB) |||
          BitVec.ofNat 32 (2 ^ s.rf (mbxHub + 4 * c.val) R.MBX_BIND_BIT_A))) ∧
      (16 ≤ (if b then (s.mbxQ c.val).toA else (s.mbxQ c.val).toB).length → t.host = s.host ∧
        t.flag (mbxBlk c.val) (if b then R.MBX_STAT_B_TX_OVF else R.MBX_STAT_A_TX_OVF) = true)) ∧ Frame [.outs, .regs, .site, .pcie, .host] s t)) ∧
  (∀ (r : Req) (c : Fin 128) (b : Bool) (s : State), s.deaf = false → s.recoveryOnly = false → s.mbxSide c.val r.mid.toNat = some b →
    s.regDeny r (mbxBlk c.val + 0x40) false = none → s.siteInReset (s.portChanOwner c.val) = false →
    Gives (.mbxPop r c) s (fun t => (
      (∀ w l, (if b then (s.mbxQ c.val).toB else (s.mbxQ c.val).toA) = w :: l → t.outs.head? = some (.rsp r .ok [w]) ∧
        t.mbxQ c.val = (if b then { s.mbxQ c.val with toB := l } else { s.mbxQ c.val with toA := l })) ∧
      ((if b then (s.mbxQ c.val).toB else (s.mbxQ c.val).toA) = [] → t.outs = .rsp r .ok [0] :: s.outs ∧ t.host = s.host ∧
        t.flag (mbxBlk c.val) (if b then R.MBX_STAT_B_RX_EMPTY_READ else R.MBX_STAT_A_RX_EMPTY_READ) = true)) ∧
      Frame [.outs, .regs, .site, .pcie, .host] s t)) ∧
  (∀ (r : Req) (c : Fin 128) (v : Word) (b : Bool) (k : Instr) (s : State), k ∈ [Instr.mbxPush r c v, .mbxPop r c] → s.deaf = true ∨
      (s.recoveryOnly = false ∧ s.mbxSide c.val r.mid.toNat = some b ∧ s.regDeny r (mbxBlk c.val) true = none ∧
        s.regDeny r (mbxBlk c.val + 0x40) false = none ∧ s.siteInReset (s.portChanOwner c.val) = true) →
    Gives k s (fun t => t.outs = .rsp r .inReset [] :: s.outs ∧ RegsBut [] s t ∧ Frame [.outs, .regs, .site, .pcie, .host] s t ∧ t.host = s.host)) ∧
  (∀ (r : Req) (m : Fin 48) (v : Word) (s : State), s.Allows r (mbxHub + R.MBX_FPBIND + 4 * m.val) true →
    Gives (.mbxFpbindWrite r m v) s (fun t => t.rd (mbxHub + R.MBX_FPBIND + 4 * m.val) = v &&& 0x80000FFF ∧ t.mbxQ (80 + m.val) = {} ∧
      ((s.mbxQ (80 + m.val)).toA ≠ [] → t.flag (mbxBlk (80 + m.val)) R.MBX_STAT_A_DISCARDED = true) ∧ t.outs = .rsp r .ok [] :: s.outs ∧
      Frame [.outs, .regs, .host] s t)) ∧
  (∀ (r : Req) (c : Fin 128) (v : Word) (s : State), s.Allows r (mbxHub + 4 * c.val) true →
    Gives (.mbxBindWrite r c v) s (fun t => t.rd (mbxHub + 4 * c.val) = v &&& 0xFFE03FFF ∧ RegsBut [mbxHub + 4 * c.val] s t ∧
      t.outs = .rsp r .ok [] :: s.outs ∧ Frame [.outs, .regs] s t)) ∧
  (∀ (r : Req) (c : Fin 128) (v : Word) (s : State), s.deaf = false → s.flag mbxHub R.MBX_LOCK_LOCKED = true →
    s.gate r (mbxHub + 4 * c.val) true ≠ .ok ∧ Gives (.mbxBindWrite r c v) s (fun t =>
      t.rd (mbxHub + 4 * c.val) = s.rd (mbxHub + 4 * c.val) ∧ (s.regDeny r (mbxHub + 4 * c.val) true = none → ∀ k, k < 0x200000000 → t.rd k = s.rd k))) ∧
  (∀ (r : Req) (v : Word) (s : State), s.Allows r (mbxHub + R.MBX_LOCK) true →
    Gives (.mbxLockSet r v) s (fun t => t.flag mbxHub R.MBX_LOCK_LOCKED = (s.flag mbxHub R.MBX_LOCK_LOCKED || natBit v.toNat 0) ∧
      RegsBut [mbxHub + R.MBX_LOCK] s t ∧ t.outs = .rsp r .ok [] :: s.outs ∧ Frame [.outs, .regs] s t)) ∧
  (∀ (r : Req) (v : Word) (s : State), s.Allows r (mbxHub + R.COMMONS_HB) true →
    Gives (.commonsHbWrite r v) s (fun t => t.rf mbxHub R.COMMONS_HB_SEQ = natBits v.toNat 31 16 ∧ t.rf mbxHub R.COMMONS_HB_AGE = 0 ∧
      t.rf mbxHub R.COMMONS_HB_STATE = s.rf mbxHub R.COMMONS_HB_STATE ∧ t.host.hbAt = s.now ∧ RegsBut [mbxHub + R.COMMONS_HB] s t ∧
      Frame [.outs, .regs, .host] s t)) ∧
  (∀ (r : Req) (v : Word) (s : State), s.Allows r (fnBlk 0 + R.HOST_EOI) true →
    Gives (.hostEoi r v) s (fun t => (
      (s.pf0Cond (v.toNat % 256) = false → t.vstat (fnBlk 0 + R.HOST_VSTAT) (v.toNat % 256) = false ∧ t.outs = .rsp r .ok [] :: s.outs) ∧
      (s.pf0Cond (v.toNat % 256) = true → s.vstat (fnBlk 0 + R.HOST_VSTAT) (v.toNat % 256) = true → s.fnCanSend 0 = true →
        tabGet (fun _ => false) s.pcie.msixUnmask (v.toNat % 256) = true →
        t.vstat (fnBlk 0 + R.HOST_VSTAT) (v.toNat % 256) = true ∧ t.outs = .rsp r .ok [] :: .msix 0 (v.toNat % 256) :: s.outs) ∧
      (s.vstat (fnBlk 0 + R.HOST_VSTAT) (v.toNat % 256) = false → t.pcie = s.pcie ∧ RegsBut [] s t) ∧ RegsBeside [] s t) ∧
      Frame [.outs, .regs, .pcie] s t))

/-- DMA channels (R376-R381): the tail, the enable, resume and ring base as written; a descriptor fetched in order; a piece issued from the
descriptor that is next and its return; the write-back of a complete descriptor, and the halt on one that failed. -/
def Obligations.DmaCommands : Prop :=
  (∀ (r : Req) (c : Fin 80) (v : Word) (s : State), s.Allows r (dmaBlk c.val + R.DMA_TAIL) true →
    Gives (.dmaTailWrite r c v) s (fun t => (t.outs = .rsp r .ok [] :: s.outs ∧
      (s.dmaSize c.val ≤ v.toNat % 2 ^ 16 → t.flag (dmaBlk c.val) R.DMA_STAT_TAIL_REFUSED = true ∧ RegsBut [dmaBlk c.val + R.DMA_STAT] s t) ∧
      (v.toNat % 2 ^ 16 < s.dmaSize c.val → t.dmaTail c.val = v.toNat % 2 ^ 16 ∧ RegsBut [dmaBlk c.val + R.DMA_STAT, dmaBlk c.val + R.DMA_TAIL] s t ∧
        (s.dmaEn c.val = true → s.dmaState c.val ≤ 1 →
          t.dmaState c.val = if s.dmaHead c.val = v.toNat % 2 ^ 16 ∧ s.dma c.val = [] then 0 else 1))) ∧ Frame [.outs, .regs] s t)) ∧
  (∀ (r : Req) (c : Fin 80) (v : Word) (s : State), s.Allows r (dmaBlk c.val + R.DMA_CTRL) true → s.dmaEn c.val = true → s.dmaState c.val = 2 →
    Gives (.dmaResume r c v) s (fun t => (t.dmaState c.val = (if s.dmaHead c.val = s.dmaTail c.val ∧ s.dma c.val = [] then 0 else 1) ∧
      t.dmaEn c.val = true ∧ t.host = s.host ∧ RegsBut [dmaBlk c.val + R.DMA_STAT] s t) ∧ Frame [.outs, .regs, .host] s t)) ∧
  (∀ (r : Req) (c : Fin 80) (v : Word) (l : List DmaDesc) (s : State), s.Allows r (dmaBlk c.val + R.DMA_CTRL) true → s.dmaEn c.val = true →
    l = (s.dma c.val).filter dmaStarted →
    Gives (.dmaEnClear r c v) s (fun t => (t.dmaEn c.val = false ∧
      (l.any (fun d => !d.out.isEmpty) = false → (∀ d ∈ l.head?, dmaComplete d = false) → t.dmaState c.val = 3 ∧ t.dma c.val = []) ∧
      (l.any (fun d => !d.out.isEmpty) = true → t.dmaState c.val = s.dmaState c.val ∧ t.dma c.val = l)) ∧ Frame [.outs, .regs, .host] s t)) ∧
  (∀ (r : Req) (c : Fin 80) (v : Word) (s : State), s.Allows r (dmaBlk c.val + R.DMA_CTRL) true → s.dmaEn c.val = false →
    Gives (.dmaEnSet r c v) s (fun t => (t.dmaEn c.val = true ∧ t.dma c.val = [] ∧
      t.rf (dmaBlk c.val) R.DMA_CTRL_RSIZE = (if 4 ≤ v.toNat % 32 ∧ v.toNat % 32 ≤ 16 then v.toNat % 32 else 4) ∧
      t.dmaState c.val = (if s.dmaHead c.val = s.dmaTail c.val then 0 else 1)) ∧ Frame [.outs, .regs, .host] s t)) ∧
  (∀ (r : Req) (c : Fin 80) (v : Word) (s : State), s.Allows r (dmaBlk c.val + R.DMA_RING_LO) true →
    Gives (.dmaRingWrite r c v) s (fun t => t.outs = .rsp r .ok [] :: s.outs ∧ (s.dmaEn c.val = true → RegsBut [] s t) ∧
      (s.dmaEn c.val = false → t.rd (dmaBlk c.val + R.DMA_RING_LO) = v &&& 0xFFFFF000 ∧ t.dmaHead c.val = 0 ∧ t.dmaTail c.val = 0 ∧
        RegsBut [dmaBlk c.val + R.DMA_RING_LO, dmaBlk c.val + R.DMA_HEAD, dmaBlk c.val + R.DMA_TAIL] s t) ∧ Frame [.outs, .regs] s t)) ∧
  (∀ (c : Fin 80) (d : BitVec 256) (err : Bool) (s : State), s.dmaState c.val = 1 → s.dmaEn c.val = true → (s.dma c.val).length < 8 →
    (s.dma c.val).length < (s.dmaTail c.val + s.dmaSize c.val - s.dmaHead c.val) % s.dmaSize c.val →
    Gives (.dmaDescFetch c d err) s (fun t =>
      t.dma c.val = s.dma c.val ++ [dmaDecode ((s.dmaHead c.val + (s.dma c.val).length) % s.dmaSize c.val) d.toNat err] ∧ Frame [.host] s t)) ∧
  (∀ (c : Fin 80) (data : List (BitVec 512)) (i : Nat) (d : DmaDesc) (s : State), s.dmaState c.val = 1 → s.dmaEn c.val = true →
    ((s.dma c.val).map (·.out.length)).sum < 64 → dmaNext (s.dma c.val) true = some i → (s.dma c.val)[i]? = some d →
    Gives (.dmaPieceIssue c data) s (fun t => ((t.dma c.val)[i]? =
        some { d with next := d.next + dmaPieceLen d d.next, out := d.out ++ [(d.next, dmaPieceLen d d.next)] } ∧
      (∀ j, j ≠ i → (t.dma c.val)[j]? = (s.dma c.val)[j]?)) ∧ Frame [.free, .outs, .regs, .ring, .host, .dbg] s t)) ∧
  (∀ (c : Fin 80) (slot : BitVec 16) (o : BitVec 25) (data : List (BitVec 512)) (i n : Nat) (d : DmaDesc) (s : State),
    (s.dma c.val).findIdx? (fun d => d.slot == slot.toNat && d.out.any (fun p => p.1 == o.toNat)) = some i → (s.dma c.val)[i]? = some d →
    s.dmaEn c.val = true → s.pcie.linkUp = true → n = ((d.out.find? (fun p => p.1 == o.toNat)).map (·.2)).getD 0 →
    Gives (.dmaPieceComplete c slot o .ok false data) s (fun t => ((t.dma c.val)[i]? = some { d with out := d.out.filter (fun p => p.1 != o.toNat) } ∧
      t.outs = (if natBit d.flags 0 then [.hostWrite c.val (d.host + o.toNat) n (data.map (·.toNat))] else []) ++ s.outs ∧ RegsBut [] s t) ∧
      Frame [.outs, .regs, .host] s t) ∧
    (∀ code : Rsp, code ≠ .ok → Gives (.dmaPieceComplete c slot o code false data) s (fun t => (t.dma c.val)[i]? =
        some { d with out := d.out.filter (fun p => p.1 != o.toNat), fail := dmaWorst d.fail o.toNat (codeNo code) false } ∧ t.outs = s.outs ∧
      Frame [.outs, .regs, .host] s t))) ∧
  (∀ (c : Fin 80) (d : DmaDesc) (rest : List DmaDesc) (s : State), s.dma c.val = d :: rest → dmaComplete d = true → d.fail = none →
    s.dmaEn c.val = true → s.pcie.linkUp = true →
    Gives (.dmaWriteback c) s (fun t => (t.dma c.val = rest ∧ t.dmaHead c.val = (d.slot + 1) % s.dmaSize c.val % 2 ^ 16 ∧
      t.flag (dmaBlk c.val) R.DMA_STAT_DONE = true ∧
      t.rd64 (dmaBlk c.val + R.DMA_BYTES_LO) = (s.rd64 (dmaBlk c.val + R.DMA_BYTES_LO) + d.len) % 2 ^ 64 ∧
      .hostWrite c.val (s.rd64 (dmaBlk c.val + R.DMA_RING_LO) / 4096 * 4096 + 32 * d.slot + 28) 4 [2 ^ 31 + d.len % 2 ^ 25] ∈ t.outs) ∧
      Frame [.outs, .regs, .site, .pcie, .host] s t)) ∧
  (∀ (c : Fin 80) (d : DmaDesc) (rest : List DmaDesc) (o k : Nat) (h : Bool) (s : State), s.dma c.val = d :: rest → dmaComplete d = true →
    d.fail = some (o, k, h) → 0 < k → k < 8 → s.dmaEn c.val = true → s.dmaState c.val ≠ 2 →
    Gives (.dmaWriteback c) s (fun t => (t.dmaState c.val = 2 ∧ t.flag (dmaBlk c.val) R.DMA_STAT_ERR = true ∧
      t.rf (dmaBlk c.val) R.DMA_STAT_CODE = k ∧ t.rf (dmaBlk c.val) R.DMA_ERR_DESC_DESC = d.slot % 2 ^ 16 ∧ t.dma c.val = rest.filter dmaStarted ∧
      t.rd64 (dmaBlk c.val + R.DMA_BYTES_LO) = s.rd64 (dmaBlk c.val + R.DMA_BYTES_LO)) ∧ Frame [.outs, .regs, .site, .pcie, .host] s t))

/-- Host accesses (R364-R369; the MSI-X table's layout is the model's, assumption 8): a BAR0 read completes with what the register access gives; an
aperture read with what its pieces' targets answer, an undecoded one with its code kept in HOST_FN_ERR; a BAR0 write is one register access; an
aperture write that fails is counted and captured; a word of the MSI-X table is read and written. -/
def Obligations.BarCommands : Prop :=
  (∀ (f : Fin 65) (o : BitVec 40) (n : Fin 4097) (res : List (Rsp × List Byte)) (l : List Word) (u : State) (s : State), s.deaf = false →
    s.pcie.linkUp = true → n.val ≤ 64 → o.toNat < 0x9000000 → (s.fnHere f.val).readAccess (fnReq f.val) o.toNat n.val false [] = (.ok, l, u) →
    Gives (.barRead f 0 o n res) s (fun t => t = u.emit (.hostCpl f.val .ok ((wordBytes n.val l).map (·.toNat))) ∧
      Frame [.free, .outs, .regs, .latch, .site, .pcie, .ring, .cap, .host, .dbg, .gpio, .start] s t)) ∧
  (∀ (f : Fin 65) (o : BitVec 40) (n : Fin 4097) (res : List (Rsp × List Byte)) (s : State), s.deaf = false → s.pcie.linkUp = true → 0 < n.val →
    (s.fnHere f.val).barPieces f.val n.val o.toNat n.val = [(o.toNat, n.val)] → s.barAddr f.val 1 o.toNat = none →
    Gives (.barRead f 1 o n res) s (fun t => t.outs = .hostCpl f.val .noTarget [] :: (s.fnHere f.val).outs ∧ t.flag (fnBlk f.val) R.HOST_FN_ERR_RERR = true ∧
      t.rf (fnBlk f.val) R.HOST_FN_ERR_RCODE = codeNo .noTarget ∧ RegsBut [fnBlk f.val + R.HOST_FN_ERR] s t ∧
      Frame [.free, .outs, .regs, .latch, .site, .pcie, .ring, .cap, .host, .dbg, .gpio, .start] s t)) ∧
  (∀ (f : Fin 65) (o : BitVec 40) (n : Fin 4097) (res : List (Rsp × List Byte)) (a : Nat) (data : List Byte) (s : State), s.deaf = false →
    s.pcie.linkUp = true → (s.fnHere f.val).barPieces f.val n.val o.toNat n.val = [(o.toNat, n.val)] → (s.fnHere f.val).barAddr f.val 1 o.toNat = some a →
    (s.fnHere f.val).pieceCode (fnReq f.val) a false .ok = .ok → res.head? = some (.ok, data) → data.length = n.val →
    Gives (.barRead f 1 o n res) s (fun t => t.outs.head? = some (.hostCpl f.val .ok (data.map (·.toNat))) ∧
      Frame [.free, .outs, .regs, .latch, .site, .pcie, .ring, .cap, .host, .dbg, .gpio, .start] s t)) ∧
  (∀ (f : Fin 65) (v : Nat) (o : BitVec 40) (res : List (Rsp × List Byte)) (s : State), s.deaf = false → s.pcie.linkUp = true → v < fnVectors f.val →
    o.toNat = 16 * v + 12 →
    Gives (.barRead f 2 o 4 res) s (fun t => t.outs =
        .hostCpl f.val .ok [b2n (!tabGet (fun _ => false) s.pcie.msixUnmask (f.val * 256 + v)), 0, 0, 0] :: (s.fnHere f.val).outs ∧ RegsBut [] s t ∧
      Frame [.free, .outs, .regs, .latch, .site, .pcie, .ring, .cap, .host, .dbg, .gpio, .start] s t)) ∧
  (∀ (f : Fin 65) (o : BitVec 40) (data : List Byte) (res : List Rsp) (u : State) (s : State), s.deaf = false → s.pcie.linkUp = true →
    data.length ≤ 64 → o.toNat < 0x9000000 → (s.fnHere f.val).writeAccess (fnReq f.val) o.toNat data [] = (.ok, u) →
    Gives (.barWrite f 0 o data res) s (fun t => Frame [.fills] u t ∧ t.fills.length = u.fills.length)) ∧
  (∀ (f : Fin 65) (o : BitVec 40) (data : List Byte) (res : List Rsp) (n : Nat) (s : State), s.deaf = false → s.pcie.linkUp = true →
    n = data.length → (s.fnHere f.val).barPieces f.val n o.toNat n = [(o.toNat, n)] → s.barAddr f.val 1 o.toNat = none →
    Gives (.barWrite f 1 o data res) s (fun t => (t.outs = (s.fnHere f.val).outs ∧ Counted (fnBlk f.val + R.HOST_FN_WERR_CNT) 1 s t ∧
      t.flag (fnBlk f.val) R.HOST_FN_ERR_WERR = true ∧ (s.flag (fnBlk f.val) R.HOST_FN_ERR_WERR = false →
        t.rf (fnBlk f.val) R.HOST_FN_ERR_WCODE = codeNo .noTarget ∧ t.rf (fnBlk f.val) R.HOST_FN_ERR_WOFS = 1 ∧
        t.rf (fnBlk f.val) R.HOST_FN_ERR_WBAR = 1 ∧ t.rd64 (fnBlk f.val + R.HOST_FN_WADDR_LO) = o.toNat)) ∧ Frame [.outs, .regs, .pcie] s t)) ∧
  (∀ (f : Fin 65) (v : Nat) (o : BitVec 40) (res : List Rsp) (s : State), s.deaf = false → s.pcie.linkUp = true → v < fnVectors f.val →
    o.toNat = 16 * v + 12 →
    Gives (.barWrite f 2 o [0, 0, 0, 0] res) s (fun t => tabGet (fun _ => false) t.pcie.msixUnmask (f.val * 256 + v) = true ∧
      tabGet (fun _ => false) t.pcie.msixPend (f.val * 256 + v) = false ∧
      t.outs = (if tabGet (fun _ => false) s.pcie.msixPend (f.val * 256 + v) then [.msix f.val v] else []) ++ (s.fnHere f.val).outs ∧ RegsBut [] s t ∧
      Frame [.outs, .pcie] s t) ∧
    Gives (.barWrite f 2 o [1, 0, 0, 0] res) s (fun t => tabGet (fun _ => false) t.pcie.msixUnmask (f.val * 256 + v) = false ∧
      t.outs = (s.fnHere f.val).outs ∧ RegsBut [] s t ∧ Frame [.outs, .pcie] s t))

/-- The configuration engine (R489, R491-R496, R498, R502, R503, R506): pass 1 gives a load's fields to the writers or fails with its cause; a writer
takes the field longest waiting and leaves it held with its record, or failed; the startup steps configure it in order; a lock time-out fails it; the
store copy, the scrubber, which corrects a configuration word with one bit changed and finds one with two, and the xSPI port. -/
def Obligations.ConfigurationCommands : Prop :=
  (∀ (g : Nat) (img : CfgImage) (x : CfgGroup) (s : State), s.cfgGrp g = some x → x.pass = 1 →
    Gives (.cfgPass1Done g img .ok) s (fun t => (
      (∀ c i st d, s.pass1 x img = some (c, i, st, d) → t.rf cfgBlk R.CFG_ERR_CAUSE = c ∧ t.rf cfgBlk R.CFG_ERR_SECTION = i % 65536 ∧
        t.flag cfgBlk R.CFG_ENG_STAT_LOAD_ERR = true ∧ t.cfgGrp g = none ∧ (x.kind = 2 → t.cfg.ends = s.cfg.ends ++ [(x.chan, st, d, 0)]) ∧
        (x.kind ≤ 1 → t.flag cfgBlk R.CFG_ENG_STAT_BOOT_ERR = true ∧ t.cfg.confErrN = false)) ∧
      (∀ fs, fs = (s.takenFields img).map (fun e => (e.2.1, e.2.2)) → s.pass1 x img = none → fs ≠ [] →
        t.cfgGrp g = some { x with pass := 2, imgs := fs, wait := fs.map (·.1) } ∧ t.cfg.ends = s.cfg.ends)) ∧ Frame [.free, .regs, .par, .cfg] s t) ∧
    (∀ rd : Rsp, rd ≠ .ok → Gives (.cfgPass1Done g img rd) s (fun t => t.rf cfgBlk R.CFG_ERR_CAUSE = 12 ∧ t.cfgGrp g = none ∧
      t.flag cfgBlk R.CFG_ENG_STAT_LOAD_ERR = true ∧ Frame [.free, .regs, .par, .cfg] s t))) ∧
  (∀ (x : CfgGroup) (f : Nat) (l : List Nat) (i : FieldImg) (s : State), (s.cfg.groups.map (·.busy.length)).sum < 4 →
    s.cfg.groups.find? (fun x => !x.wait.isEmpty) = some x → x.wait = f :: l → x.img f = some i → f < 128 →
    Gives .cfgWriterStart s (fun t => (t.cfgState f = 1 ∧ (t.frt f).configured = false ∧ (t.frt f).gsr = true ∧
      t.cfgGrp x.id = some { x with wait := l, busy := x.busy ++ [f] } ∧ t.flag (fieldPage f) R.FCK_STAT_LOCKED = false ∧
      t.rf (fieldPage f) R.FCK_CTRL_MULT = i.mult % 256 ∧
      t.rf (fieldPage f) R.FCK_CTRL_MULT_NEXT = i.mult % 256 ∧ t.rf (fieldPage f) R.FCK_CTRL_CK_EN_NEXT = i.ckEn % 16 ∧
      (∀ b w, b < 96 → w < 1024 → (i.bmMode.getD b 0).val = 1 → t.bmWord f b w = 0)) ∧
      Frame [.free, .outs, .regs, .fab, .mem, .site, .pcie, .ring, .llp, .cfg, .dbg] s t)) ∧
  (∀ (f : Fin 128) (x : CfgGroup) (i : FieldImg) (s : State), s.cfg.groups.find? (fun x => x.busy.contains f.val) = some x → x.img f.val = some i →
    Gives (.cfgFieldWritten f true) s (fun t => (t.cfgState f.val = 2 ∧ t.cfgRec f.val = some i ∧ t.designOf f.val = i.design ∧
      t.rd (fieldPage f.val + R.CFG_FIMG) = i.id) ∧ Frame [.free, .outs, .regs, .fab, .mem, .site, .pcie, .par, .ring, .llp, .cfg, .dbg] s t) ∧
    Gives (.cfgFieldWritten f false) s (fun t => (t.cfgState f.val = 5 ∧ t.cfgRec f.val = none ∧ (t.frt f.val).gsr = true ∧
      (x.kind < 3 → t.rf cfgBlk R.CFG_ERR_CAUSE = 5 ∧ t.cfgGrp x.id = none) ∧
      (3 ≤ x.kind → t.flag (fieldPage f.val) R.CFG_FSTAT_RELOAD_ERR = true)) ∧
      Frame [.free, .outs, .regs, .fab, .mem, .site, .pcie, .par, .ring, .llp, .cfg, .dbg] s t)) ∧
  (∀ (g : Nat) (x : CfgGroup) (sts : List (Fin 4 × BitVec 16)) (st : Fin 4) (d : BitVec 16) (s : State), s.cfgGrp g = some x → x.pass = 3 →
    sts = ((x.done.head?.bind x.img).map (·.startup)).getD [] → sts[x.step]? = some (st, d) → x.step < 4 → x.since + 10 * d.toNat ≤ s.ttc →
    Gives (.cfgStartupStep g) s (fun t => ((∀ f ∈ x.done, f < 128 → t.cfgState f = (if x.step = 3 then 4 else 3) ∧
        t.rf (fieldPage f) R.CFG_FSTAT_STEP = x.step + 1 ∧ (st = 0 → (t.frt f).configured = true) ∧ (st = 1 → (t.frt f).io = true) ∧
        (st = 2 → (t.frt f).gsr = false) ∧ (st = 3 → (t.frt f).we = true)) ∧
      (x.step < 3 → t.cfgGrp g = some { x with step := x.step + 1, since := s.ttc }) ∧ (x.step = 3 → t.cfgGrp g = none)) ∧
      Frame [.free, .outs, .regs, .fab, .mem, .site, .pcie, .cfg] s t)) ∧
  (∀ (g : Nat) (x : CfgGroup) (sts : List (Fin 4 × BitVec 16)) (d : BitVec 16) (s : State), s.cfgGrp g = some x → x.pass = 3 →
    sts = ((x.done.head?.bind x.img).map (·.startup)).getD [] → sts[x.step]? = some (0, d) → x.since + 10 * d.toNat + 100000 ≤ s.ttc →
    Gives (.cfgLockTimeout g) s (fun t => ((∀ f ∈ x.done, f < 128 → t.cfgState f = 5 ∧ t.flag (fieldPage f) R.CFG_FSTAT_LOCK_TMO = true) ∧
      t.rf cfgBlk R.CFG_ERR_CAUSE = 13 ∧ t.cfgGrp g = none) ∧ Frame [.free, .outs, .regs, .fab, .mem, .site, .pcie, .par, .ring, .llp, .cfg, .dbg] s t)) ∧
  (∀ (f : Fin 128) (s : State), s.rf (fieldPage f.val) R.CFG_FSTAT_SRC = 2 → s.cfgStore ≠ 0 → s.dramList ≠ [] →
    Gives (.cfgStoreCopy f) s (fun t => t.rf (fieldPage f.val) R.CFG_FSTAT_SRC = 1 ∧
      ((∀ g, g < 128 → g ≠ f.val → s.rf (fieldPage g) R.CFG_FSTAT_SRC ≠ 2) → t.flag cfgBlk R.CFG_ENG_STAT_COPY_DONE = true) ∧
      RegsBut [fieldPage f.val + R.CFG_FSTAT, cfgBlk] s t ∧ Frame [.regs] s t)) ∧
  (∀ (f : Fin 128) (frame : Fin 17408) (ups : List (Fin 8 × Fin 72)) (u s : State),
    u = s.flipCfg f.val (ups.map (fun e => (8 * frame.val + e.1.val, e.2.val))) →
    Gives (.cfgScrubRead f frame ups) s (fun t =>
      ((∀ g w, g < 128 → w < cfgWords → (g ≠ f.val ∨ w / 8 ≠ frame.val) → t.cfgUpset g w = s.cfgUpset g w) ∧
      (s.flag cfgBlk R.CFG_SCRUB_EN = false ∨ s.cfgState f.val ∉ [2, 4] ∨ s.cfg.groups.any (fun x => (x.wait ++ x.busy).contains f.val) = true → t = u) ∧
      (∀ res cs us : List Nat, s.flag cfgBlk R.CFG_SCRUB_EN = true → s.cfgState f.val ∈ [2, 4] →
        s.cfg.groups.any (fun x => (x.wait ++ x.busy).contains f.val) = false →
        cs = (frameWords frame.val).filter (fun w => (upsetRes (u.cfgUpset f.val w)).ce) →
        us = (frameWords frame.val).filter (fun w => (upsetRes (u.cfgUpset f.val w)).ue) →
        res = ((frameWords frame.val).filter (fun w => cs.contains w || us.contains w)).map (fun w => if cs.contains w then 0x0080 else 0x0081) →
        (∀ w ∈ frameWords frame.val, (upsetRes (u.cfgUpset f.val w)).ce = false → t.cfgUpset f.val w = u.cfgUpset f.val w) ∧
        (∀ w ∈ frameWords frame.val, ∀ b, b < 72 → u.cfgUpset f.val w = BitVec.twoPow 72 b → w ∈ cs ∧ t.cfgUpset f.val w = 0) ∧
        (∀ w ∈ frameWords frame.val, ∀ b b', b < 72 → b' < 72 → b ≠ b' →
          u.cfgUpset f.val w = BitVec.twoPow 72 b ^^^ BitVec.twoPow 72 b' → w ∈ us) ∧
        Counted (fieldPage f.val + R.CFG_CE_CNT) cs.length s t ∧ Counted (fieldPage f.val + R.CFG_UE_CNT) us.length s t ∧
        (cs ≠ [] → t.flag (fieldPage f.val) R.CFG_FSTAT_CE = true) ∧ (us ≠ [] → t.flag (fieldPage f.val) R.CFG_FSTAT_UE = true ∧
          t.rd (cfgBlk + R.CFG_SCRUB_LAST) = BitVec.ofNat 32 (f.val * 2 ^ 16 + frame.val)) ∧
        ((us = [] ∨ s.rf cfgBlk R.CFG_SCRUB_ACTION = 0) → t.cfgState f.val = s.cfgState f.val ∧ t.cfg = s.cfg ∧ t.fab.rt = s.fab.rt) ∧
        (us ≠ [] → s.rf cfgBlk R.CFG_SCRUB_ACTION = 1 → ∀ i, s.canReload f.val = some i →
          t.cfg.groups = s.cfg.groups ++ [⟨s.cfg.next, 5, s.fieldOwner f.val, 0, 2, [(f.val, i)], [f.val], [], [], 0, 0⟩]) ∧
        (us ≠ [] → s.rf cfgBlk R.CFG_SCRUB_ACTION = 2 → t.cfgState f.val = 2 ∧ (t.frt f.val).gsr = true) ∧
        (∃ l, t.par.reports = s.par.reports ++ l ∧ (l.take res.length).map (·.code) = res))) ∧
      Frame [.free, .outs, .regs, .fab, .mem, .site, .pcie, .par, .ring, .llp, .cfg, .dbg] s t)) ∧
  (∀ (r : Req) (v : Word) (s : State), s.Allows r (cfgBlk + R.CFG_XSPI_CMD) true → natBit v.toNat 31 = true →
    s.flag cfgBlk R.CFG_XSPI_STAT_BUSY = false →
    Gives (.cfgXspiCmd r v) s (fun t => ((s.flashBusy = true → t.flag cfgBlk R.CFG_XSPI_STAT_REFUSED = true ∧ t.cfg = s.cfg ∧
        t.outs = .rsp r .ok [] :: s.outs) ∧
      (s.flashBusy = false → t.flag cfgBlk R.CFG_XSPI_STAT_BUSY = true ∧ t.cfg = { s.cfg with xspi := some v } ∧
        ∃ d, t.outs = .rsp r .ok [] :: .xspi v (s.rd (cfgBlk + R.CFG_XSPI_ADDR)) d :: s.outs) ∧ RegsBut [cfgBlk + R.CFG_XSPI_STAT] s t) ∧
      Frame [.outs, .regs, .cfg] s t)) ∧
  (∀ (data : List Byte) (v : Word) (s : State), s.cfg.xspi = some v → (s.start.pf && natBit v.toNat 30) = false →
    Gives (.cfgXspiDone data) s (fun t => t.flag cfgBlk R.CFG_XSPI_STAT_BUSY = false ∧ t.flag cfgBlk R.CFG_XSPI_STAT_DONE = true ∧
      t.cfg = { s.cfg with xspi := none } ∧ (natBit v.toNat 30 = true → RegsBut [cfgBlk + R.CFG_XSPI_STAT] s t) ∧
      (natBit v.toNat 30 = false → ∀ i, i < min (natBits v.toNat 8 0) 256 →
        natBits (t.rd (cfgBlk + R.CFG_XSPI_BUF + i / 4 * 4)).toNat (8 * (i % 4) + 7) (8 * (i % 4)) = (data.getD i 0).toNat) ∧
      Frame [.regs, .cfg] s t))

/-- Kelk retests (R556-R558): the wires found failing join the list; a bundle with at most 4, a group with at most 2, is UP again, any other is
DOWN; a lost crossing with the groups it needs restarts. -/
def Obligations.KelkCommands : Prop :=
  (∀ (b : Fin 160) (found : List (Fin 68)) (s : State), s.bndState b.val = 1 →
    Gives (.kelkSRetestDone b found) s (fun t =>
      ((t.bnd b.val).list = joinWires 68 (s.bnd b.val).list (found.map (·.val)) ∧
        t.rf (kelkBlk + 4 * b.val) R.KELK_S_NFAIL = min (t.bnd b.val).list.length 7 ∧
        t.bndState b.val = (if (t.bnd b.val).list.length ≤ 4 then 0 else 2) ∧
        t.flag (kelkBlk + 4 * b.val) R.KELK_S_CHG = true ∧ RegsBeside [kelkBlk + 4 * b.val + R.KELK_S] s t) ∧
      Frame [.free, .regs, .par, .kelk] s t)) ∧
  (∀ (w : Fin 1792) (found : List (Fin 34)) (s : State), s.grpState w.val = 1 →
    Gives (.kelkWRetestDone w found) s (fun t =>
      ((t.grp w.val).list = joinWires 34 (s.grp w.val).list (found.map (·.val)) ∧
        t.rf (kelkBlk + 4 * w.val) R.KELK_W_NFAIL = min (t.grp w.val).list.length 7 ∧
        t.grpState w.val = (if (t.grp w.val).list.length ≤ 2 then 0 else 2) ∧
        t.flag (kelkBlk + 4 * w.val) R.KELK_W_CHG = true) ∧
      Frame [.free, .outs, .regs, .fab, .site, .pcie, .par, .kelk] s t)) ∧
  (∀ (f : Fin 128) (e : Fin 4) (s : State), (stilePeer f.val e.val).isSome = true → s.crossLost f.val e.val = true →
    s.crossHasGroups f.val e.val = true →
    Gives (.kelkWCrossingRestart f e) s (fun t => t.crossLost f.val e.val = false ∧ Frame [.outs, .regs, .fab, .site, .pcie] s t))

/-- Backup alarms, entropy and life-cycle changes (R437, R442, R444-R447, R450-R454): an alarm zeroises BBKEY, is logged and, with the hub running,
is reported; the backup domain's reset; the clock set at the next crystal tick; the DRNG's health tests, conditioning and states; a change of life cycle takes effect as its fuses
sense; an operation of the public-key engine ends with what waited for it. -/
def Obligations.SecurityCommands : Prop :=
  (∀ (i : Fin 2) (n : Nat) (s : State), s.flag (bkBlk + 4 * i.val) R.BK_TAMPER0_EN = true → n = s.rf bkBlk R.BK_LOG_CNT_USED →
    Gives (.tamperAlarm i) s (fun t => (t.sec.bbkey = none ∧ t.flag secBlk R.SEC_KEY_STAT_BBKEY_VALID = false ∧ t.flag bkBlk R.BK_STAT_BBKEY_VALID = false ∧
      (n < 16 → t.rf bkBlk R.BK_LOG_CNT_USED = n + 1 ∧ natBits (t.rd (bkBlk + R.BK_LOG_HI + 8 * n)).toNat 31 27 = 17 + i.val ∧
        t.rd (bkBlk + R.BK_LOG_LO + 8 * n) = BitVec.ofNat 32 s.rtcSec) ∧
      (16 ≤ n → t.rf bkBlk R.BK_LOG_CNT_OVF = min 255 (s.rf bkBlk R.BK_LOG_CNT_OVF + 1)) ∧
      (s.start.hold = false → t.flag bkBlk R.BK_STAT_ALARM = true ∧ (∃ x, t.par.reports = s.par.reports ++ [x] ∧ x.code = 0x0026) ∧
        (s.flag (bkBlk + 4 * i.val) R.BK_TAMPER0_ALL = true → ∀ k, k < 65 → t.encState k = 0 ∧ (s.encState k ≠ 0 → t.encKeys k = {})) ∧
        (s.flag (bkBlk + 4 * i.val) R.BK_TAMPER0_ALL = false → t.dram = s.dram)) ∧
      (s.start.hold = true → t.par = s.par ∧ t.dram = s.dram)) ∧ Frame [.regs, .par, .dram, .sec] s t)) ∧
  (∀ s : State, s.rf bkBlk R.BK_LOG_CNT_USED < 16 →
    Gives .vbatLow s (fun t => t.flag bkBlk R.BK_STAT_VBAT_OK = false ∧ t.sec.bbkey = none ∧
      natBits (t.rd (bkBlk + R.BK_LOG_HI + 8 * s.rf bkBlk R.BK_LOG_CNT_USED)).toNat 31 27 = 19 ∧ Frame [.regs, .par, .dram, .sec] s t) ∧
    Gives .oscStop s (fun t => t.flag bkBlk R.BK_STAT_RTC_VALID = false ∧ t.sec.bbkey = none ∧
      natBits (t.rd (bkBlk + R.BK_LOG_HI + 8 * s.rf bkBlk R.BK_LOG_CNT_USED)).toNat 31 27 = 20 ∧ Frame [.regs, .par, .dram, .sec] s t)) ∧
  (∀ s : State, Gives .backupDomainReset s (fun t => t.sec = { s.sec with bbkey := none, rtcSet := false } ∧ t.rtc = 0 ∧
      (∀ k, bkBlk ≤ k → k < bkBlk + 0x1000 → t.rd k = regReset k) ∧ t.flag secBlk R.SEC_KEY_STAT_BBKEY_VALID = false ∧
      (∀ k, k < bkBlk ∨ bkBlk + 0x1000 ≤ k → k ≠ secBlk + R.SEC_KEY_STAT → t.rd k = s.rd k) ∧ Frame [.rtc, .regs, .latch, .staged, .sec] s t)) ∧
  (∀ (r : Req) (v : Word) (s : State), s.Allows r (bkBlk + R.BK_LOG_CLR) true →
    Gives (.bkLogClr r v) s (fun t => t.outs = .rsp r .ok [] :: s.outs ∧ (natBit v.toNat 0 = false → RegsBut [] s t) ∧
      (natBit v.toNat 0 = true → ∀ k, t.rd k = if bkBlk + R.BK_LOG_LO ≤ k ∧ k ≤ bkBlk + R.BK_LOG_CNT then regReset k else s.rd k) ∧
      Frame [.outs, .regs] s t)) ∧
  (∀ (r : Req) (v : Word) (s : State), s.Allows r (bkBlk + R.BK_RTC_CMD) true →
    Gives (.bkRtcSet r v) s (fun t => t.sec = { s.sec with rtcSet := s.sec.rtcSet || natBit v.toNat 0 } ∧ t.rtc = s.rtc ∧
      t.outs = .rsp r .ok [] :: s.outs ∧ RegsBut [] s t ∧ Frame [.outs, .regs, .sec] s t)) ∧
  (∀ (raw : List Bool) (s : State), Gives (.drngReady raw) s (fun t => exec (.drngHealthFail raw) s = .next t ∧ (raw = [] → t = s) ∧
      (s.drngState = 3 → t = s) ∧ (∀ b l, raw = b :: l → ∃ u, exec (.drngReady [b]) s = .next u ∧ exec (.drngReady l) u = .next t) ∧
      Frame [.free, .outs, .regs, .site, .pcie, .par, .dram, .sec] s t)) ∧
  (∀ (b : Bool) (e : Entropy) (run n : Nat) (bad : Prop) (s : State), s.drngState ≠ 3 → e = s.sec.ent → run = (if e.last = some b then e.run + 1 else 1) →
    n = e.hits + b2n (b == e.ref) → bad = (41 ≤ run ∨ (e.seen ≠ 0 ∧ 410 ≤ n)) →
    Gives (.drngHealthFail [b]) s (fun t =>
      (∀ m, m = (s.sec.fails.filter (fun t => decide (s.now ≤ t + 1000000000))).length + 1 → bad → Counted (secBlk + R.SEC_DRNG_FAIL_CNT) 1 s t ∧
        t.flag secBlk R.SEC_DRNG_STAT_HEALTH_EVT = true ∧ t.sec.ent = {} ∧ t.dram = s.dram ∧
        (3 ≤ m → t.drngState = 3 ∧ t.flag secBlk R.SEC_DRNG_STAT_FAILED_EVT = true) ∧ (m < 3 → t.drngState = if s.drngState = 1 then 2 else s.drngState)) ∧
      (¬bad → e.count ≠ 255 → t = { s with sec := { s.sec with ent :=
        ⟨some b, run, if e.seen = 0 then b else e.ref, if e.seen = 0 then 1 else (e.seen + 1) % 512, if e.seen = 0 then 1 else n,
          e.raw + b2n b * 2 ^ e.count, e.count + 1, e.pool⟩ } }) ∧
      (∀ pool, pool = e.pool ++ [condition (e.raw + b2n b * 2 ^ 255)] → ¬bad → e.count = 255 → t.sec.ent.count = 0 ∧ t.sec.fails = s.sec.fails ∧
        (s.drngState ≠ 1 → pool.length < 8 → t.drngState = s.drngState ∧ t.sec.ent.pool = pool ∧ t.dram = s.dram) ∧
        (s.drngState ∈ [0, 2] → 8 ≤ pool.length → t.drngState = 1 ∧ t.flag secBlk R.SEC_DRNG_STAT_READY_EVT = true) ∧
        (s.drngState = 1 ∨ (s.drngState = 2 ∧ 8 ≤ pool.length) → s.dram.wait = [] → t.sec.ent.pool = pool ∧ t.sec.drbg = s.sec.drbg ∧ t.dram = s.dram) ∧
        (s.drngState = 0 → 8 ≤ pool.length → s.dram.wait = [] → t.sec.ent.pool = pool.drop 3 ∧
          t.sec.drbg = drbgInit ((pool.take 3).flatMap (natBytes 16)) (natBytes 8 s.part.uid)) ∧
        (∀ k d, s.dram.wait = [(k, d)] → k < 65 → 3 ≤ pool.length → s.drngState = 1 → s.encLegal k d = true → t.dram.wait = [] ∧ t.sec.ent.pool = pool.drop 3 ∧
          t.encState k = 1)))) ∧
  (∀ (sensed : List (BitVec 8)) (x : LcChange) (s : State), s.sec.change = some x → 1 ≤ x.dst → x.dst ≤ 5 →
    Gives (.lifecycleChangeDone sensed) s (fun t => ((∀ i, i < 3 → ∀ g, g < 5 → lcGroup (t.sec.lc.getD i 0) g =
        if g = x.dst - 1 then (sensed.getD i 0xFF).toNat else lcGroup (s.sec.lc.getD i 0) g) ∧
      t.lc = lcWinner t.sec.lc ∧ t.sec.change = none ∧ t.sec.ends = s.sec.ends ++ [(x.chan, 0, 0)] ∧
      t.rf dlocBlk R.DBG_SESSION_LEVEL = baseLevel t.lc) ∧ Frame [.free, .regs, .par, .sec] s t)) ∧
  (∀ (op res : Fin 6) (s : State), s.deaf = false → op.val ≠ 0 → s.sec.pke = [] →
    Gives (.pkeOpDone op res) s (fun t => t.rf secBlk R.SEC_PKE_STAT_LAST_OP = op.val ∧ t.rf secBlk R.SEC_PKE_STAT_LAST_RESULT = res.val ∧
      RegsBut [secBlk + R.SEC_PKE_STAT] s t ∧ Frame [.regs] s t)) ∧
  (∀ (op res : Fin 6) (chan dst : Nat) (p : LcProv) (rest : List (Nat × PkeWhy)) (s : State), s.deaf = false → op.val ≠ 0 →
    s.sec.pke = (op.val, .lifecycle dst chan p) :: rest →
    Gives (.pkeOpDone op res) s (fun t => (res.val ≠ 0 → t.sec.ends = s.sec.ends ++ [(chan, 0x12, 0)] ∧ t.sec.pke = rest ∧ t.sec.lc = s.sec.lc) ∧
      (res.val = 0 → dst = 1 ∨ dst = 3 → t.sec.change = some ⟨dst, chan, s.now⟩ ∧ t.sec.pke = rest) ∧
      t.flag secBlk R.SEC_PKE_STAT_BUSY = !t.sec.pke.isEmpty)) ∧
  (∀ (op : Fin 6) (level : Nat) (rest : List (Nat × PkeWhy)) (s : State), s.deaf = false → op.val ≠ 0 → level < 4 →
    (s.sec.pke = (op.val, .respond true level) :: rest → Gives (.pkeOpDone op 0) s (fun t => t.rf dlocBlk R.DBG_SESSION_LEVEL = level ∧
      t.rf dlocBlk R.DBG_AUTH_STAT_STATE = 3 ∧ t.sec.pke = rest)) ∧
    (s.sec.pke = (op.val, .respond false level) :: rest → Gives (.pkeOpDone op 0) s (fun t =>
      t.rf dlocBlk R.DBG_SESSION_LEVEL = s.rf dlocBlk R.DBG_SESSION_LEVEL ∧ t.rf dlocBlk R.DBG_AUTH_STAT_STATE = 4 ∧ t.dbg.wait = true ∧
      t.rf dlocBlk R.DBG_AUTH_STAT_AUTH_FAIL_CNT = min 65535 (s.rf dlocBlk R.DBG_AUTH_STAT_AUTH_FAIL_CNT + 1) ∧ t.sec.pke = rest)))

/-- Management cores (R419-R425, R428, R430, R476): windows, traps and their return, with the frames the spill and fill handlers move; interrupts;
watchdogs and the restart of Commons; the Reeve's restart; run control. -/
def Obligations.CoreCommands : Prop :=
  (∀ (c : Fin 4) (pc : DWord) (base : Nat) (s : State), s.coreState c.val = 1 →
    base = (if s.coreWp c.val = 7 then (s.core c.val).twp else s.coreWp c.val) →
    Gives (.winEnter c pc) s (fun t => (
      ((s.core c.val).live.contains ((base + 1) % 7) = false → t.coreWp c.val = (base + 1) % 7 ∧ (t.core c.val).live.contains ((base + 1) % 7) = true ∧
        (t.core c.val).pc = pc + BitVec.ofNat 64 Config.coreInstrLen ∧ (t.core c.val).win = (s.core c.val).win ∧
        RegsBut [coreBlk c.val + R.CMN_CORE_STAT] s t) ∧
      ((s.core c.val).live.contains ((base + 1) % 7) = true → s.coreTd c.val = false → t.coreTd c.val = true ∧ t.coreWp c.val = 7 ∧
        (t.core c.val).typ = 1 ∧ (t.core c.val).tpc = pc ∧ (t.core c.val).twp = s.coreWp c.val)) ∧ Frame [.free, .outs, .regs, .par, .dbg, .cores] s t)) ∧
  (∀ (c : Fin 4) (pc : DWord) (wp : Nat) (s : State), s.coreState c.val = 1 → wp = s.coreWp c.val → wp < 7 →
    Gives (.winLeave c pc) s (fun t => (
      (s.coreTd c.val = false → (s.core c.val).live.contains ((wp + 6) % 7) = true ∨ (s.core c.val).stack = [] → t.coreWp c.val = (wp + 6) % 7 ∧
        (t.core c.val).live = (s.core c.val).live.filter (fun w => w != wp) ∧ (t.core c.val).pc = pc + BitVec.ofNat 64 Config.coreInstrLen ∧
        RegsBut [coreBlk c.val + R.CMN_CORE_STAT] s t) ∧
      (s.coreTd c.val = false → (s.core c.val).live.contains ((wp + 6) % 7) = false → (s.core c.val).stack ≠ [] → t.coreTd c.val = true ∧
        t.coreWp c.val = 7 ∧ (t.core c.val).typ = 2 ∧ (t.core c.val).tpc = pc ∧ (t.core c.val).twp = wp) ∧
      (s.coreTd c.val = true → wp = ((s.core c.val).twp + 1) % 7 → t.coreWp c.val = 7)) ∧ Frame [.free, .outs, .regs, .par, .dbg, .cores] s t)) ∧
  (∀ (c : Fin 4) (typ : BitVec 8) (pc : DWord) (s : State), s.coreState c.val = 1 → trapTypes.contains typ.toNat = true → typ ≠ 0x10 →
    Gives (.coreTrap c typ pc) s (fun t => (
      (typ ≠ 8 → s.coreTd c.val = false → t.coreTd c.val = true ∧ t.coreWp c.val = 7 ∧ t.coreState c.val = 1 ∧ (t.core c.val).typ = typ.toNat ∧
        (t.core c.val).tpc = pc ∧ (t.core c.val).tst = (s.core c.val).st ∧ (t.core c.val).twp = s.coreWp c.val ∧ (t.core c.val).mask = true ∧
        (t.core c.val).tmask = (s.core c.val).mask ∧ (t.core c.val).pc = BitVec.ofNat 64 (Config.trapVector typ.toNat)) ∧
      (typ ≠ 8 → s.coreTd c.val = true → t.rf (coreBlk c.val) R.CMN_CORE_STAT_HALT_CODE = ((s.core c.val).typ * 256 + typ.toNat) % 65536 ∧
        t.coreState c.val ≠ 1 ∧ .reeveNmi ∈ t.outs ∧ (s.hbState = 1 → Counted (mgmtBlk + R.CMN_RESTART_CNT) 1 s t ∧
          t.rf mgmtBlk R.CMN_RST_STAT_LAST_CAUSE = 1)) ∧
      (typ = 8 → s.atL3 = true → t.coreState c.val = 3 ∧ t.rd64 (coreBlk c.val + R.CMN_CORE_PC_LO) = pc.toNat) ∧
      (typ = 8 → s.atL3 = false → Counted (mgmtBlk + R.PATCH_TRAP_SKIP) 1 s t ∧ t.cores = s.cores)) ∧
      Frame [.free, .outs, .regs, .par, .dbg, .cores] s t)) ∧
  (∀ (c : Fin 4) (x : CoreSt) (s : State), s.coreState c.val = 1 → s.coreTd c.val = true → x = s.core c.val →
    Gives (.trapRet c) s (fun t => ((t.core c.val).pc = x.tpc ∧ (t.core c.val).st = x.tst ∧ (t.core c.val).mask = x.tmask ∧
      t.coreTd c.val = false ∧ t.coreWp c.val = x.twp % 8 ∧
      (x.typ ≠ 1 → x.typ ≠ 2 → (t.core c.val).win = x.win ∧ (t.core c.val).live = x.live ∧ (t.core c.val).stack = x.stack) ∧
      (∀ w l, x.typ = 1 → x.live = w :: l → (t.core c.val).live = l ∧ (t.core c.val).stack = x.frame w :: x.stack ∧ (t.core c.val).win = x.win) ∧
      (∀ f k, x.typ = 2 → x.stack = f :: k → (t.core c.val).stack = k ∧ (t.core c.val).live = (x.twp + 6) % 7 :: x.live ∧
        (f.length = 16 → (t.core c.val).frame ((x.twp + 6) % 7) = f) ∧
        (∀ w, w ≠ (x.twp + 6) % 7 → (t.core c.val).frame w = x.frame w)) ∧ RegsBut [coreBlk c.val + R.CMN_CORE_STAT] s t) ∧ Frame [.regs, .cores] s t)) ∧
  (∀ (c src : Fin 4) (pc : DWord) (s : State), s.coreRuns c.val = true → s.coreTd c.val = false → (s.core c.val).mask = false →
    s.irqRoute src.val = c.val → s.coreSource src.val = true →
    Gives (.coreInterrupt c src pc) s (fun t => (t.coreTd c.val = true ∧ t.coreWp c.val = 7 ∧ t.coreState c.val = 1 ∧ (t.core c.val).typ = 0x10 ∧
      (t.core c.val).tpc = pc ∧ (t.core c.val).mask = true ∧ RegsBut [coreBlk c.val + R.CMN_CORE_STAT] s t) ∧
      Frame [.free, .outs, .regs, .par, .dbg, .cores] s t)) ∧
  (∀ (r : Req) (c : Fin 4) (v : Word) (s : State), s.Allows r (coreBlk c.val + R.CMN_CORE_KICK) true →
    Gives (.cmnCoreKick r c v) s (fun t => t.core c.val = { s.core c.val with kick := s.now } ∧ t.outs = .rsp r .ok [] :: s.outs ∧ RegsBut [] s t ∧
      Frame [.outs, .regs, .cores] s t)) ∧
  (∀ (c : Fin 4) (s : State), s.flag mgmtBlk R.CMN_WDT_CORE_WDT_EN = true → s.hbState = 1 → s.coreRuns c.val = true → s.coreHeldByDebug = false →
    (s.core c.val).kick + 1000000 * s.rf mgmtBlk R.CMN_WDT_CORE_LIMIT ≤ s.now →
    Gives (.coreWdtExpire c) s (fun t => (Counted (mgmtBlk + R.CMN_RESTART_CNT) 1 s t ∧ t.rf mgmtBlk R.CMN_RST_STAT_LAST_CAUSE = 3 ∧
      t.rf mgmtBlk R.CMN_RST_STAT_CORE = c.val ∧ t.coreState c.val = 5 ∧ (t.hbState = 2 ∨ t.hbState = 3) ∧
      ((s.cores.times.filter (fun t => decide (s.now ≤ t + 60000000000))).length < 3 → t.hbState = 2)) ∧ Frame [.free, .regs, .par, .cores] s t)) ∧
  (∀ s : State, s.hbState = 1 → s.coreHeldByDebug = false → 100 * s.rf mgmtBlk R.CMN_WDT_HB_LIMIT < s.hbAge →
    Gives .hbWdtExpire s (fun t => (Counted (mgmtBlk + R.CMN_RESTART_CNT) 1 s t ∧ t.rf mgmtBlk R.CMN_RST_STAT_LAST_CAUSE = 2 ∧
      (∀ c, c < 4 → s.coreRuns c = true → t.coreState c = 5)) ∧ Frame [.free, .regs, .par, .cores] s t)) ∧
  (∀ s : State, s.start.hold = false → s.rf mgmtBlk R.REEVE_STAT_STATE ≠ 2 →
    Gives .reeveWdtExpire s (fun t => t.rf mgmtBlk R.REEVE_STAT_STATE = 2 ∧
      t.rf mgmtBlk R.REEVE_STAT_RESTART_CNT = min 65535 (s.rf mgmtBlk R.REEVE_STAT_RESTART_CNT + 1) ∧ RegsBut [mgmtBlk + R.REEVE_STAT] s t ∧
      Frame [.regs] s t)) ∧
  (∀ s : State, s.rf mgmtBlk R.REEVE_STAT_STATE = 2 →
    Gives .reeveRestartDone s (fun t => t.rf mgmtBlk R.REEVE_STAT_STATE = 1 ∧ t.par.staging ≠ [] ∧ Frame [.free, .regs, .par] s t)) ∧
  (∀ (r : Req) (c : Fin 4) (v : Word) (s : State), s.Allows r (dbgBlk + R.DBG_CORE_CMD) true → natBit v.toNat c.val = true → s.coreRuns c.val = true →
    Gives (.dbgCoreHalt r v) s (fun t => (t.coreState c.val = 3 ∧ t.rd64 (coreBlk c.val + R.CMN_CORE_PC_LO) = (s.core c.val).pc.toNat ∧
      t.core c.val = s.core c.val) ∧ Frame [.free, .outs, .regs, .host, .dbg, .cores] s t)) ∧
  (∀ (r : Req) (c : Fin 4) (v : Word) (s : State), s.Allows r (dbgBlk + R.DBG_CORE_CMD) true → natBit v.toNat c.val = false →
    natBit v.toNat (4 + c.val) = true → s.coreState c.val = 3 →
    Gives (.dbgCoreRun r v) s (fun t => (t.coreState c.val = 1 ∧ (t.core c.val).kick = s.now ∧ (s.hbState = 0 → t.hbState = 1)) ∧
      Frame [.free, .outs, .regs, .host, .dbg, .cores] s t)) ∧
  (∀ (r : Req) (c : Fin 4) (s : State), s.Allows r (dbgBlk + R.DBG_CORE_CMD) true → s.coreState c.val = 3 →
    Gives (.dbgCoreStep r (BitVec.ofNat 32 (2 ^ (8 + c.val)))) s (fun t => (t.coreState c.val = 3 ∧
      (t.core c.val).pc = BitVec.ofNat 64 (Config.freeNat s.free) ∧ t.free = s.free + 1 ∧
      (∀ d, d < 4 → d ≠ c.val → t.core d = s.core d) ∧
      RegsBut [coreBlk c.val + R.CMN_CORE_PC_LO, coreBlk c.val + R.CMN_CORE_PC_HI] s t) ∧ Frame [.free, .outs, .regs, .host, .dbg, .cores] s t))

/-- The debug port and authentication (R46, R447, R449, R457-R468; what a LOCAL access does is the model's choice, assumption 18): scans of DBG_ACCESS start,
drop or refuse an access, and it completes with the register's value; the TAP, the session's reset; each authentication command succeeds, is refused
or fails as its checks say. -/
def Obligations.DebugPortCommands : Prop :=
  (∀ (cmd : BitVec 82) (au : AuthIn) (a : Nat) (s : State), s.dbg.ir = 0x20 → s.pwrState ≠ 4 → a = natBits cmd.toNat 49 2 →
    Gives (.dbgAccess cmd au) s (fun t => (.dbgCapture s.dbgWord ∈ t.outs ∧
      (s.dbg.acc.isSome = true → t.dbg = { s.dbg with overrun := decide (cmd.toNat % 4 ≠ 0) } ∧ RegsBut [] s t) ∧
      (s.dbg.acc = none → cmd.toNat % 4 = 0 → t.dbg = { s.dbg with overrun := false } ∧ RegsBut [] s t) ∧
      (s.dbg.acc = none → cmd.toNat % 4 ≠ 0 → a % 4 ≠ 0 → t.dbg.code = 1 ∧ t.dbg.acc = none ∧ t.dbg.data = 0 ∧
        Counted (regbusBlk (s.faultDie a) (regbusIdx 0x7F) + R.REGBUS_FAULT_CNT) 1 s t) ∧
      (s.dbg.acc = none → a % 4 = 0 → cmd.toNat % 4 = 1 ∨ cmd.toNat % 4 = 2 →
        dbgPermits (s.rf dlocBlk R.DBG_SESSION_LEVEL) a (cmd.toNat % 4 == 2) = false → t.dbg.code = 3 ∧ t.dbg.acc = none ∧
        Counted (dlocBlk + R.DBG_DENY_CNT) 1 s t ∧ RegsBut [dlocBlk + R.DBG_DENY_CNT] s t) ∧
      (s.dbg.acc = none → a % 4 = 0 → cmd.toNat % 4 = 1 ∨ cmd.toNat % 4 = 2 →
        dbgPermits (s.rf dlocBlk R.DBG_SESSION_LEVEL) a (cmd.toNat % 4 == 2) = true → t.dbg.acc = some cmd.toNat) ∧
      (s.dbg.acc = none → a % 4 = 0 → cmd.toNat % 4 = 3 → 0x200 ≤ a % 4096 → a % 4096 < 0x400 →
        t.dbg.code = 0 ∧ t.dbg.data = s.rd (dlocBlk + a % 4096) ∧ t.rd (dlocBlk + a % 4096) = BitVec.ofNat 32 (natBits cmd.toNat 81 50) ∧
        RegsBut [dlocBlk + a % 4096] s t)) ∧ Frame [.free, .outs, .regs, .ring, .sec, .dbg] s t)) ∧
  (∀ (code : Rsp) (data : Word) (cmd o : Nat) (l : List Word) (u : State) (s : State), s.dbg.acc = some cmd → s.deaf = false →
    regionOf (natBits cmd 49 2) = .regs o → cmd % 4 = 1 → s.readAccess dbgReq o 4 true [] = (.ok, l, u) →
    Gives (.dbgAccessComplete code data) s (fun t => t = { u with dbg := { u.dbg with acc := none, code := 0, data := l.headD 0 } })) ∧
  (∀ (code : Rsp) (data : Word) (cmd o : Nat) (u : State) (s : State), s.dbg.acc = some cmd → s.deaf = false →
    regionOf (natBits cmd 49 2) = .regs o → cmd % 4 = 2 → s.writeAccess dbgReq o (toBytes 4 (natBits cmd 81 50)) [] = (.ok, u) →
    Gives (.dbgAccessComplete code data) s (fun t => t = { u with dbg := { u.dbg with acc := none, code := 0, data := 0 } })) ∧
  (∀ (code : BitVec 8) (s : State), s.pwrState ≠ 4 →
    Gives (.tapInstruction code) s (fun t => t.dbg.ir = (if code.toNat ∈ [0, 1, 2, 8, 9, 0x20] then code.toNat else 0xFF) ∧
        t.dbg.pins = (if code.toNat = 0 ∨ code.toNat = 9 then 1 else if code.toNat = 8 then 2 else 0) ∧
        t.dbg = { s.dbg with ir := t.dbg.ir, pins := t.dbg.pins } ∧ Frame [.dbg] s t)) ∧
  (∀ s : State, Gives .debugDomainReset s (fun t => t.dbg.ir = 1 ∧ t.dbg.acc = none ∧ t.dbg.chal = none ∧ t.dbg.wait = false ∧
      t.rf dlocBlk R.DBG_SESSION_LEVEL = baseLevel s.lc ∧ (∀ k, dlocBlk ≤ k → k < dlocBlk + 0x1000 → k ≠ dlocBlk → t.rd k = regReset k) ∧
      (∀ k, k < dlocBlk ∨ dlocBlk + 0x1000 ≤ k → t.rd k = s.rd k) ∧ Frame [.regs, .latch, .staged, .sec, .dbg] s t)) ∧
  (∀ (s : State), Gives .lock s (fun t => t.rf dlocBlk R.DBG_SESSION_LEVEL = baseLevel s.lc ∧ t.rf dlocBlk R.DBG_SESSION_METHOD = 0 ∧
      RegsBut [dlocBlk + R.DBG_SESSION] s t ∧ Frame [.regs] s t)) ∧
  (∀ (a : AuthIn) (s : State), s.sec.pke = [] →
    Gives .challenge s (fun t => ((s.dbg.wait = true → t.rf dlocBlk R.DBG_AUTH_STAT_STATE = 5) ∧
      (s.dbg.wait = false → debugKey s.lc = none → t.rf dlocBlk R.DBG_AUTH_STAT_STATE = 4 ∧ t.rf dlocBlk R.DBG_AUTH_STAT_RESULT = 2) ∧
      (s.dbg.wait = false → debugKey s.lc ≠ none → t.rf dlocBlk R.DBG_AUTH_STAT_STATE = 1 ∧ t.dbg.chalWait = true ∧ t.dbg.chal = none) ∧
      RegsBut [dlocBlk + R.DBG_AUTH_STAT] s t) ∧ Frame [.regs, .sec, .dbg] s t) ∧
    Gives (.respond a) s (fun t => ((s.dbg.chal = none ∨ debugKey s.lc = none → t.rf dlocBlk R.DBG_AUTH_STAT_RESULT = 2 ∧ t.sec = s.sec) ∧
      (∀ c row top, s.dbg.chal = some c → debugKey s.lc = some (row, top) → t.dbg.chal = none ∧
        ((s.rowOk row && s.row row == a.signer.toNat && decide (1 ≤ s.authByte 96) && decide (s.authByte 96 ≤ 3)) = true →
          t.sec.pke = [(3, .respond a.tagOk (min (s.authByte 96) top))] ∧ t.rf dlocBlk R.DBG_AUTH_STAT_STATE = 1) ∧
        ((s.rowOk row && s.row row == a.signer.toNat && decide (1 ≤ s.authByte 96) && decide (s.authByte 96 ≤ 3)) = false →
          t.rf dlocBlk R.DBG_AUTH_STAT_AUTH_FAIL_CNT = min 65535 (s.rf dlocBlk R.DBG_AUTH_STAT_AUTH_FAIL_CNT + 1) ∧ t.dbg.wait = true ∧ t.sec = s.sec)) ∧
      t.rd dlocBlk = s.rd dlocBlk) ∧ Frame [.regs, .sec, .dbg] s t) ∧
    Gives .password s (fun t => ((s.dbg.wait = true → t.rf dlocBlk R.DBG_AUTH_STAT_STATE = 5) ∧
      (s.dbg.wait = false → s.lc = 2 → s.rowOk 5 = true → natBit s.sec.flags.toNat 1 = true →
        (s.authNum 0 16 = s.row 5 → t.rf dlocBlk R.DBG_SESSION_LEVEL = 2 ∧ t.rf dlocBlk R.DBG_SESSION_METHOD = 3 ∧
          t.rf dlocBlk R.DBG_AUTH_STAT_STATE = 3) ∧
        (s.authNum 0 16 ≠ s.row 5 → t.rd dlocBlk = s.rd dlocBlk ∧ t.dbg.wait = true)) ∧
      (s.dbg.wait = false → s.lc ≠ 2 → t.rd dlocBlk = s.rd dlocBlk ∧ t.rf dlocBlk R.DBG_AUTH_STAT_RESULT = 2)) ∧ Frame [.regs, .sec, .dbg] s t) ∧
    Gives (.loadBbkey a) s (fun t => ((s.lc = 4 ∨ s.lc = 5 ∨ s.lc = 7 → t.rf dlocBlk R.DBG_AUTH_STAT_RESULT = 2 ∧ t.sec = s.sec) ∧
      (s.lc ≠ 4 → s.lc ≠ 5 → s.lc ≠ 7 → s.rf dlocBlk R.DBG_SESSION_LEVEL < 2 → t.rf dlocBlk R.DBG_AUTH_STAT_RESULT = 3 ∧ t.sec = s.sec) ∧
      (s.lc ≠ 4 → s.lc ≠ 5 → s.lc ≠ 7 → 2 ≤ s.rf dlocBlk R.DBG_SESSION_LEVEL →
        s.authNum 0 4 = 0x42424B31 ∧ s.authNum 4 8 = s.part.uid ∧ s.rowOk 2 = true ∧ s.row 2 = a.signer.toNat →
        t.sec.pke = [(2, .bbkey false a.tagOk a.key)] ∧ t.rf dlocBlk R.DBG_AUTH_STAT_STATE = 1)) ∧ Frame [.regs, .sec, .dbg] s t) ∧
    Gives (.recover a) s (fun t => ((s.lc ≠ 7 → t.rf dlocBlk R.DBG_AUTH_STAT_RESULT = 2 ∧ t.sec = s.sec) ∧
      (s.lc = 7 → s.authNum 0 4 = 0x4C434131 ∧ s.authNum 4 8 = s.part.uid ∧ s.authByte 12 = 7 ∧ lcReached s.sec.lc ≤ s.authByte 13 ∧
        s.authByte 13 ≤ 5 ∧ s.authNum 16 4 = 0 ∧ s.rowOk 0 = true ∧ s.row 0 = a.signer.toNat → t.sec.pke = [(2, .recover (s.authByte 13))]) ∧
      (s.lc = 7 → s.authByte 13 < lcReached s.sec.lc → t.dbg.wait = true ∧ t.sec = s.sec)) ∧ Frame [.regs, .sec, .dbg] s t)) ∧
  (∀ (e d : List Nat × State) (s : State), s.dbg.chalWait = true → s.keyReady = true → e = s.drbgReseed.draw 48 → d = e.2.draw 32 →
    Gives .challengeReady s (fun t => t.rf dlocBlk R.DBG_AUTH_STAT_STATE = 2 ∧ t.dbg.chalWait = false ∧
      t.dbg.chal = some (bytesNat e.1, bytesNat d.1) ∧ t.sec = d.2.sec ∧ t.free = s.free + 1 ∧ t.authNum 96 32 = bytesNat d.1 % 2 ^ 256 ∧
      t.authNum 128 8 = s.part.uid % 2 ^ 64 ∧ t.authByte 136 = s.lc ∧ Frame [.free, .regs, .sec, .dbg] s t)) ∧
  (∀ s : State, Gives .authFailWaitEnd s (fun t => t.dbg = { s.dbg with wait := false } ∧
      t.rf dlocBlk R.DBG_AUTH_STAT_STATE = (if s.rf dlocBlk R.DBG_AUTH_STAT_STATE = 5 then 0 else s.rf dlocBlk R.DBG_AUTH_STAT_STATE) ∧
      RegsBut [dlocBlk + R.DBG_AUTH_STAT] s t ∧ Frame [.regs, .dbg] s t))

/-- Run control of fields and cross-trigger events (R469-R477): a field halts at once where no clock runs, else its halt is on its way; it runs,
steps and is captured only while halted; a channel fires by a write, a compare or a trigger tap, and its event halts the fields that ask for it. -/
def Obligations.FieldDebugCommands : Prop :=
  (∀ (r : Req) (f : Fin 128) (v : Word) (s : State), s.Allows r (fieldPage f.val + R.DBG_FLD_CMD) true → natBit v.toNat 31 = true →
    s.dbg.halt.any (fun e => e.1 == f.val) = false →
    Gives (.dbgFldHalt r f v) s (fun t => (
      (s.fldState f.val ≠ 1 → (s.frt f.val).ckEn = 0 ∨ (s.frt f.val).configured = false → t.fldState f.val = 1 ∧
        t.flag (fieldPage f.val) R.FCK_STAT_HALTED = true ∧ t.rf (fieldPage f.val) R.DBG_FLD_STAT_HALT_SRC = 1 ∧
        t.rd64 (fieldPage f.val + R.DBG_FLD_HALT_TTC_LO) = s.ttc % 2 ^ 64) ∧
      (s.fldState f.val ≠ 1 → (s.frt f.val).ckEn ≠ 0 → (s.frt f.val).configured = true → t.dbg.halt = s.dbg.halt ++ [(f.val, 1, 0)] ∧ RegsBut [] s t) ∧
      (s.fldState f.val = 1 → t.dbg = s.dbg ∧ RegsBut [] s t)) ∧ Frame [.outs, .regs, .site, .pcie, .dbg] s t)) ∧
  (∀ (r : Req) (f : Fin 128) (v : Word) (s : State), s.Allows r (fieldPage f.val + R.DBG_FLD_CMD) true → natBits v.toNat 31 30 = 1 →
    Gives (.dbgFldRun r f v) s (fun t => (s.fldState f.val = 1 → t.fldState f.val = 0 ∧ t.flag (fieldPage f.val) R.FCK_STAT_HALTED = false ∧ t.dbg = s.dbg) ∧
      (s.fldState f.val ≠ 1 → RegsBut [] s t) ∧ Frame [.outs, .regs, .site, .pcie, .dbg] s t)) ∧
  (∀ (r : Req) (f : Fin 128) (v : Word) (s : State), s.Allows r (fieldPage f.val + R.DBG_FLD_CMD) true → natBits v.toNat 31 29 = 1 →
    Gives (.dbgFldStep r f v) s (fun t => (s.fldState f.val = 1 → t.fldState f.val = 2 ∧ t.flag (fieldPage f.val) R.FCK_STAT_HALTED = false ∧
        tabGet (fun _ => 0) t.dbg.step f.val = (if v.toNat % 256 = 0 then 256 else v.toNat % 256) + 1) ∧
      (s.fldState f.val ≠ 1 → t.flag (fieldPage f.val) R.DBG_FLD_STAT_CMD_REFUSED = true ∧ t.dbg = s.dbg ∧
        RegsBut [fieldPage f.val + R.DBG_FLD_STAT] s t) ∧ Frame [.outs, .regs, .site, .pcie, .dbg] s t)) ∧
  (∀ (f : Fin 128) (src ch : Nat) (s : State), s.dbg.halt.find? (fun e => e.1 == f.val) = some (f.val, src, ch) →
    Gives (.fieldHaltStop f) s (fun t => (t.fldState f.val = 1 ∧ t.flag (fieldPage f.val) R.FCK_STAT_HALTED = true ∧
      t.flag (fieldPage f.val) R.DBG_FLD_STAT_HALT_EVT = true ∧ t.rf (fieldPage f.val) R.DBG_FLD_STAT_HALT_SRC = src % 16 ∧
      t.rf (fieldPage f.val) R.DBG_FLD_STAT_HALT_CH = ch % 16 ∧ t.rf (fieldPage f.val) R.FCK_STAT_CK_ON = 0 ∧
      t.dbg.halt = s.dbg.halt.filter (fun e => e.1 != f.val)) ∧ Frame [.outs, .regs, .site, .pcie, .dbg] s t)) ∧
  (∀ (f : Fin 128) (s : State), tabGet (fun _ => 0) s.dbg.step f.val = 1 →
    Gives (.stepDone f) s (fun t => t.fldState f.val = 1 ∧ t.flag (fieldPage f.val) R.DBG_FLD_STAT_STEP_DONE = true ∧
      t.flag (fieldPage f.val) R.FCK_STAT_HALTED = true ∧ tabGet (fun _ => 0) t.dbg.step f.val = 0 ∧
      RegsBut [fieldPage f.val + R.DBG_FLD_STAT, fieldPage f.val + R.FCK_STAT] s t ∧ Frame [.regs, .dbg] s t)) ∧
  (∀ (r : Req) (f : Fin 128) (v : Word) (s : State), s.Allows r (fieldPage f.val + R.DBG_FLD_RB) true → natBit v.toNat 31 = true →
    Gives (.dbgFldCapture r f v) s (fun t =>
      t.flag (fieldPage f.val) (if s.fldState f.val = 1 then R.DBG_FLD_STAT_RB_BUSY else R.DBG_FLD_STAT_RB_REFUSED) = true ∧
      RegsBut [fieldPage f.val + R.DBG_FLD_STAT] s t ∧ t.outs = .rsp r .ok [] :: s.outs ∧ Frame [.outs, .regs] s t)) ∧
  (∀ (f : Fin 128) (s : State), s.flag (fieldPage f.val) R.DBG_FLD_STAT_RB_BUSY = true →
    Gives (.captureDone f) s (fun t => t.flag (fieldPage f.val) R.DBG_FLD_STAT_RB_DONE = true ∧ t.flag (fieldPage f.val) R.DBG_FLD_STAT_RB_BUSY = false ∧
      (∀ m, m < 64 → tabGet (fun _ => 0) t.dbg.p (f.val * 64 + m) = (s.macAt f.val m).p) ∧
      (∀ i b, i < 262144 → (∀ e ∈ s.fab.q, e.1 = f.val * 262144 + i → e.2 = b) → (∃ e ∈ s.fab.q, e.1 = f.val * 262144 + i) →
        tabGet (fun _ => false) t.dbg.q (f.val * 262144 + i) = b) ∧
      (∀ i, i < 262144 → (∀ e ∈ s.fab.q, e.1 ≠ f.val * 262144 + i) → tabGet (fun _ => false) t.dbg.q (f.val * 262144 + i) = false) ∧
      RegsBut [fieldPage f.val + R.DBG_FLD_STAT] s t ∧ Frame [.regs, .dbg] s t)) ∧
  (∀ (r : Req) (v : Word) (s : State), s.Allows r (dbgBlk + R.DBG_XT_PULSE) true →
    Gives (.dbgXtPulse r v) s (fun t => (∀ c, c < 16 → natBit v.toNat c = true → isMgmt r = true ∨ s.xtOwner c = r.sid.toNat →
        (c, s.ttc) ∈ t.dbg.xt ∧ natBit (t.rd (dbgBlk + R.DBG_XT_STAT)).toNat c = true ∧ (natBit (s.rd (dbgBlk + R.DBG_XT_STAT)).toNat c = false →
          t.rd64 (dbgBlk + R.DBG_XT_FIRST_LO + 0x20 * c) = s.ttc % 2 ^ 64)) ∧
      (∀ c x, (c, x) ∈ t.dbg.xt → (c, x) ∈ s.dbg.xt ∨ (natBit v.toNat c = true ∧ (isMgmt r = true ∨ s.xtOwner c = r.sid.toNat))) ∧
      t.outs = .rsp r .ok [] :: s.outs ∧ Frame [.outs, .regs, .dbg] s t)) ∧
  (∀ (c : Fin 16) (s : State), s.flag (dbgBlk + 0x20 * c.val) R.DBG_XT_TCTRL_ARM = true → s.ttc = s.rd64 (dbgBlk + 0x20 * c.val + R.DBG_XT_TIME_LO) →
    Gives (.xtTimeCompare c) s (fun t => t.dbg.xt = s.dbg.xt ++ [(c.val, s.ttc)] ∧ t.flag (dbgBlk + 0x20 * c.val) R.DBG_XT_TCTRL_ARM = false ∧
      natBit (t.rd (dbgBlk + R.DBG_XT_STAT)).toNat c.val = true ∧ Frame [.regs, .dbg] s t)) ∧
  (∀ (f : Fin 128) (k : Fin 4) (c : Nat) (s : State), s.tapMap (fieldPage f.val + R.DBG_FLD_TAPOUT) k.val = some c → (s.designOf f.val).taps = true →
    s.fieldInReset f.val = false → s.fieldHalted f.val = false →
    Gives (.triggerTapOut f k) s (fun t => t.dbg.xt = (if s.xtOwner c = s.fieldOwner f.val then s.dbg.xt ++ [(c, s.ttc)] else s.dbg.xt) ∧
      Frame [.regs, .dbg] s t)) ∧
  (∀ (c : Fin 16) (f : Fin 128) (s : State), s.dbg.xt.any (fun e => e.1 == c.val) = true → s.fieldOwner f.val = s.xtOwner c.val →
    natBit (s.rf (fieldPage f.val) R.DBG_FLD_TRIG_HALT_MASK) c.val = true → s.fldState f.val ≠ 1 → s.dbg.halt.any (fun e => e.1 == f.val) = false →
    Gives (.xtEventArrive c) s (fun t => ((∃ more, t.dbg.xt = dropFirst c.val s.dbg.xt ++ more) ∧
      ((s.frt f.val).ckEn = 0 ∨ (s.frt f.val).configured = false → t.fldState f.val = 1 ∧ t.rf (fieldPage f.val) R.DBG_FLD_STAT_HALT_SRC = 2 ∧
        t.rf (fieldPage f.val) R.DBG_FLD_STAT_HALT_CH = c.val) ∧
      ((s.frt f.val).ckEn ≠ 0 → (s.frt f.val).configured = true → (f.val, 2, c.val) ∈ t.dbg.halt)) ∧ Frame [.outs, .regs, .site, .pcie, .dbg] s t))

/-- Requests to Commons (R391-R393, R400, R423): a header is popped and journalled with its words, a malformed one draws BAD_FRAME and empties the
channel, an unknown group, command or length its status; missing words draw BAD_LENGTH; a response goes out whole when there is room; after a
restart every journalled request is answered RESTARTED. -/
def Obligations.CommonsRequests : Prop :=
  (∀ (c : Fin 128) (b : Bool) (snd : Sender) (h : Word) (l : List Word) (q : CmdReq) (s : State), s.deaf = false → s.hbState = 1 →
    s.cmdReq c = none → s.senderOf (s.cmnPeer c) = some snd → s.cmnSide c = some b → s.cmnIn c b = h :: l →
    q = { snd := snd, hdr := h, seq := s.com.next } →
    Gives (.commonsHeaderPop c) s (fun t => (t.com.next = s.com.next + 1 ∧
      (q.group = 0 ∨ q.group = 0xFF ∨ 15 < q.len → l.length ≤ 16 → t.cmnIn c b = []) ∧
      (q.group = 0 ∨ q.group = 0xFF ∨ 15 < q.len → (s.cmnOut c b).length ≤ 14 →
        t.cmnOut c b = s.cmnOut c b ++ respWords 0 0x80 0 2 0 [] ∧ t.cmdReq c = none) ∧
      (0 < q.group → q.group < 0xFF → q.len ≤ 15 → l.length < q.len → t.cmdReq c = some { q with args := l } ∧ t.cmnIn c b = [] ∧
        t.cmnOut c b = s.cmnOut c b) ∧
      (0 < q.group → q.group < 0xFF → q.len ≤ l.length → q.len ≤ 15 → t.cmnIn c b = l.drop q.len ∧
        (∀ ls m, q.group ≤ 12 → cmdRow q.group q.cmd = some (ls, m) → q.len ∈ ls →
          t.cmdReq c = some { q with args := l.take q.len, whole := true } ∧ t.cmnOut c b = s.cmnOut c b) ∧
        ((s.cmnOut c b).length ≤ 14 → t.cmdReq c = none ∨ (∃ ls m, cmdRow q.group q.cmd = some (ls, m) ∧ q.len ∈ ls)) ∧
        ((s.cmnOut c b).length ≤ 14 → 12 < q.group → t.cmnOut c b = s.cmnOut c b ++ respWords q.group q.cmd q.tag 3 0 []) ∧
        ((s.cmnOut c b).length ≤ 14 → q.group ≤ 12 → cmdRow q.group q.cmd = none →
          t.cmnOut c b = s.cmnOut c b ++ respWords q.group q.cmd q.tag 4 0 []) ∧
        (∀ ls m, (s.cmnOut c b).length ≤ 14 → q.group ≤ 12 → cmdRow q.group q.cmd = some (ls, m) → q.len ∉ ls →
          t.cmnOut c b = s.cmnOut c b ++ respWords q.group q.cmd q.tag 5 0 []))) ∧ Frame [.outs, .regs, .site, .pcie, .host, .com] s t)) ∧
  (∀ (c : Fin 128) (b : Bool) (q : CmdReq) (s : State), s.deaf = false → s.hbState = 1 → s.cmdReq c = some q → s.cmnSide c = some b →
    Gives (.commonsHeaderPop c) s (fun t => (
      (q.resp = none → q.whole = true → t = s) ∧
      (∀ ws, q.resp = some ws → ws.length ≤ 16 - (s.cmnOut c b).length → t.cmdReq c = none ∧ t.cmnOut c b = s.cmnOut c b ++ ws ∧ t.cmnIn c b = s.cmnIn c b) ∧
      (∀ ws, q.resp = some ws → 16 - (s.cmnOut c b).length < ws.length → t.cmdReq c = some q ∧ t.host = s.host ∧ t.outs = s.outs) ∧
      (q.resp = none → q.whole = false → (s.cmnIn c b).length + q.args.length < q.len → t.cmdReq c = some { q with args := q.args ++ s.cmnIn c b }) ∧
      (∀ ls m, q.resp = none → q.whole = false → q.args.length ≤ q.len → q.len ≤ (s.cmnIn c b).length + q.args.length → 0 < q.group → q.group ≤ 12 →
        cmdRow q.group q.cmd = some (ls, m) → q.len ∈ ls → t.cmdReq c = some { q with args := (q.args ++ s.cmnIn c b).take q.len, whole := true })) ∧
      Frame [.outs, .regs, .site, .pcie, .host, .com] s t)) ∧
  (∀ (c : Fin 128) (q : CmdReq) (s : State), s.deaf = false → s.hbState = 1 → s.cmdReq c = some q → q.whole = false → q.resp = none →
    Gives (.commonsLengthTimeout c) s (Answered c q 5 0 [] (· = s))) ∧
  (∀ (c : Fin 128) (b : Bool) (q : CmdReq) (seq : BitVec 16) (s : State), s.deaf = false → s.hbState = 2 → s.cmnSide c = some b → s.journals c q →
    (∀ e ∈ s.com.req, e.1 < 128) →
    (s.cmnOut c b).length ≤ 14 →
    Gives (.commonsRestartComplete seq) s (fun t => (t.hbState = 1 ∧ t.rf mbxHub R.COMMONS_HB_SEQ = seq.toNat ∧
      (∀ k, k < 4 → t.coreState k = 1 ∧ t.coreWp k = 0 ∧ t.coreTd k = false ∧ (t.core k).live = []) ∧
      (q.resp = none → t.cmdReq c = none ∧
        t.cmnOut c b = s.cmnOut c b ++ respWords q.group q.cmd q.tag 1 (if q.phase = 0 then 0 else 1) [])) ∧
      Frame [.outs, .regs, .site, .pcie, .host, .cfg, .sec, .cores, .com] s t)) ∧
  (∀ (s : State) (c : Fin 128) (st d : Nat) (b : Bool) (q : CmdReq) (ws l : List Word), s.cmnSide c = some b → l = respWords q.group q.cmd q.tag st d ws →
    st < 65536 → ws.length ≤ 14 →
    (∃ h w1, l = h :: w1 :: (if st = 0 then ws else []) ∧ natBits h.toNat 31 24 = q.group ∧ natBits h.toNat 23 16 = q.cmd ||| 0x80 ∧
      natBits h.toNat 15 8 = q.tag ∧ natBits h.toNat 7 0 = l.length - 1 ∧ natBits w1.toNat 15 0 = st ∧ natBits w1.toNat 31 16 = d % 65536) ∧
    (l.length ≤ 16 - (s.cmnOut c b).length → (s.cmnReply c q st d ws).cmdReq c = none ∧ (s.cmnReply c q st d ws).cmnOut c b = s.cmnOut c b ++ l) ∧
    (16 - (s.cmnOut c b).length < l.length → s.cmnReply c q st d ws = s.setReq c (some { q with resp := some l })) ∧
    Frame [.outs, .regs, .site, .pcie, .host, .com] s (s.cmnReply c q st d ws))

/-- Ordering and senders of Commons commands (R395, R397, R398): a command whose request an earlier one holds back changes nothing; one not open to
the sender's class is answered DENIED; so is a SITE argument other than the sender's, while a link or engine of another site is NOT_OWNED, a site in
reset IN_RESET, a site that is absent NO_SITE. -/
def Obligations.CommonsRights : Prop :=
  (∀ (c : Fin 128) (ok : Bool) (bus : Rsp) (a : LcAuth) (img : SlotIn) (p : PatchRec) (q : CmdReq) (s : State), s.cmdReq c = some q →
    s.cmdBlocked c q = true → ∀ i ∈ [Instr.sysPing c, .sysIdentify c, .sysTime c, .siteCreate c, .siteDestroy c, .siteGrant c, .siteRevoke c,
      .siteReset c, .siteService c, .siteQuery c bus, .siteTcrit c, .confLoad c, .confReload c, .confRemap c ok, .confLedger c bus, .linkUp c,
      .linkDown c, .linkStatus c, .linkEq c, .fcuRoute c, .fcuAddr c, .fcuClear c, .fcuLogrst c, .tallyConfig c, .tallyStatus c, .millStart c,
      .millClose c, .millAbort c, .millStatus c, .dramPorts c, .dramStatus c, .dramFreq c, .dramPatrol c, .secEncOn c, .secEncOff c, .secRandom c,
      .secLifecycle c a bus, .monRead c, .monConfig c, .monPower c, .parishRead c bus, .parishMark c, .parishStatus c, .fwVersion c,
      .fwUpdate c img bus ok, .fwPatch c p bus], exec i s = .next s) ∧
  (∀ (c : Fin 128) (ok : Bool) (bus : Rsp) (a : LcAuth) (img : SlotIn) (p : PatchRec) (q : CmdReq) (s : State), ∀ e ∈ [(Instr.siteCreate c, 2, 1),
      (.siteDestroy c, 2, 2), (.siteGrant c, 2, 3), (.siteRevoke c, 2, 4), (.siteService c, 2, 6), (.confRemap c ok, 3, 3), (.confLedger c bus, 3, 4),
      (.dramPorts c, 8, 1), (.dramFreq c, 8, 3), (.dramPatrol c, 8, 4), (.secLifecycle c a bus, 9, 4), (.monConfig c, 10, 2), (.parishMark c, 11, 2),
      (.parishStatus c, 11, 3), (.fwUpdate c img bus ok, 12, 2), (.fwRestart c, 12, 3), (.fwPatch c p bus, 12, 4)],
    s.Runs c e.2.1 e.2.2 q → q.snd ≠ .p → Gives e.1 s (Answered c q 7 0 [] (· = s))) ∧
  (∀ (c : Fin 128) (bus : Rsp) (q : CmdReq) (s : State), ∀ e ∈ [(Instr.siteReset c, 2, 5), (.siteQuery c bus, 2, 7), (.siteTcrit c, 2, 8), (.confLoad c, 3, 1),
      (.confReload c, 3, 2), (.linkUp c, 4, 1), (.linkDown c, 4, 2), (.linkStatus c, 4, 3), (.linkEq c, 4, 4), (.fcuRoute c, 5, 1), (.fcuAddr c, 5, 2),
      (.fcuClear c, 5, 3), (.fcuLogrst c, 5, 4), (.tallyConfig c, 6, 1), (.tallyStatus c, 6, 2), (.millStart c, 7, 1), (.millClose c, 7, 2),
      (.millAbort c, 7, 3), (.millStatus c, 7, 4), (.dramStatus c, 8, 2), (.secEncOn c, 9, 1), (.secEncOff c, 9, 2), (.parishRead c bus, 11, 1)],
    s.Runs c e.2.1 e.2.2 q → q.snd = .g → Gives e.1 s (Answered c q 7 0 [] (· = s))) ∧
  (∀ (c : Fin 128) (bus : Rsp) (m : Nat) (q : CmdReq) (s : State), q.snd = .s m → q.phase = 0 → q.w 1 % 128 ≠ m → ∀ e ∈ [(Instr.siteReset c, 2, 5), (.siteQuery c bus, 2, 7),
      (.siteTcrit c, 2, 8), (.confLoad c, 3, 1), (.confReload c, 3, 2), (.tallyConfig c, 6, 1), (.tallyStatus c, 6, 2), (.secEncOn c, 9, 1),
      (.secEncOff c, 9, 2)], s.Runs c e.2.1 e.2.2 q → Gives e.1 s (Answered c q 7 0 [] (· = s))) ∧
  (∀ (c : Fin 128) (q : CmdReq) (s : State), q.snd ≠ .g → q.phase = 0 → ∀ e ∈ [(Instr.linkUp c, 4, 1), (.linkDown c, 4, 2), (.linkStatus c, 4, 3), (.linkEq c, 4, 4),
      (.fcuRoute c, 5, 1), (.fcuAddr c, 5, 2), (.fcuClear c, 5, 3), (.fcuLogrst c, 5, 4)], s.Runs c e.2.1 e.2.2 q →
    (∀ m, q.snd = .s m → s.linkOwner (q.w 1 % 512) ≠ m → Gives e.1 s (Answered c q 11 0 [] (· = s))) ∧
    (q.snd = .p ∨ q.snd = .s (s.linkOwner (q.w 1 % 512)) → s.siteInReset (s.linkOwner (q.w 1 % 512)) = true → Gives e.1 s (Answered c q 8 0 [] (· = s)))) ∧
  (∀ (c : Fin 128) (q : CmdReq) (s : State), q.snd ≠ .g → ∀ e ∈ [(Instr.millStart c, 7, 1), (.millClose c, 7, 2), (.millAbort c, 7, 3), (.millStatus c, 7, 4)],
    s.Runs c e.2.1 e.2.2 q →
    (∀ m, q.snd = .s m → s.millOwner (q.w 1 % 64) ≠ m → Gives e.1 s (Answered c q 11 0 [] (· = s))) ∧
    (q.snd = .p ∨ q.snd = .s (s.millOwner (q.w 1 % 64)) → s.siteInReset (s.millOwner (q.w 1 % 64)) = true → Gives e.1 s (Answered c q 8 0 [] (· = s)))) ∧
  (∀ (c : Fin 128) (q : CmdReq) (s : State), q.snd = .p → q.phase = 0 → ∀ e ∈ [(Instr.siteTcrit c, 2, 8), (.confLoad c, 3, 1), (.confReload c, 3, 2),
      (.tallyConfig c, 6, 1), (.tallyStatus c, 6, 2), (.secEncOn c, 9, 1), (.secEncOff c, 9, 2)], s.Runs c e.2.1 e.2.2 q →
    (s.siteInReset (q.w 1 % 128) = true → Gives e.1 s (Answered c q 8 0 [] (· = s))) ∧
    (q.w 1 % 128 < 64 → s.siteInReset (q.w 1 % 128) = false → s.siteState (q.w 1 % 128) = 0 → Gives e.1 s (Answered c q 9 0 [] (· = s)))) ∧
  (∀ (c : Fin 128) (q : CmdReq) (s : State), s.Runs c 1 3 q → q.snd ≠ .p → s.start.mode = none →
    Gives (.sysMode c) s (Answered c q 7 0 [] (· = s)))

/-- Commands of SYS, and CREATE, DESTROY and RESET of SITE (R297, R302, R401, R402, R519, R520): what each is answered, and what a site and the
operating mode become. -/
def Obligations.SystemCommands : Prop :=
  (∀ (c : Fin 128) (q : CmdReq) (s : State), s.Runs c 1 1 q → Gives (.sysPing c) s (Answered c q 0 0 q.args (· = s))) ∧
  (∀ (c : Fin 128) (q : CmdReq) (s : State), s.Runs c 1 2 q → Gives (.sysIdentify c) s (Answered c q 0 0
      [BitVec.ofNat 32 s.part.uid, BitVec.ofNat 32 (s.part.uid / 2 ^ 32),
       BitVec.ofNat 32 ((if s.part.stepB then 0x42 else 0x41) + s.part.grade % 16 * 2 ^ 8 + b2n s.part.optionG * 2 ^ 12 + s.lc % 256 * 2 ^ 16),
       s.cmnVersion, Config.reeveLevel (s.rf mgmtBlk R.PATCH_STAT_LEVEL), BitVec.ofNat 32 (modeNo s.mode)] (· = s))) ∧
  (∀ (c : Fin 128) (q : CmdReq) (s : State), s.Runs c 1 4 q → Gives (.sysTime c) s (Answered c q 0 0
      [BitVec.ofNat 32 s.ttc, BitVec.ofNat 32 (s.ttc / 2 ^ 32), BitVec.ofNat 32 (s.cal % 1000000000 + s.cal / 1000000000 * 2 ^ 30),
       BitVec.ofNat 32 ((s.cal % 1000000000 + s.cal / 1000000000 * 2 ^ 30) / 2 ^ 32)] (· = s))) ∧
  (∀ (c : Fin 128) (q : CmdReq) (m : Nat) (s : State), s.Runs c 1 3 q → q.snd = .p → q.phase = 0 → s.start.mode = none → q.w 1 = m →
    Gives (.sysMode c) s (fun t => (m = 3 → Answered c q 6 1 [] (· = s) t) ∧
      (m < 3 → s.startupsRun = true → t = s) ∧
      (∀ st d, m < 3 → s.startupsRun = false → s.modeRefused (modeOf m) = some (st, d) → Answered c q st d [] (· = s) t) ∧
      (m < 3 → s.startupsRun = false → s.modeRefused (modeOf m) = none →
        (modeNo s.mode ≤ m → t.mode = modeOf m) ∧
        ((∃ i, t.start.mode = some (modeOf m, c.val, i) ∧ t.cmdReq c = some { q with phase := 1, mem := [] }) ∨
         (t.start.mode = none ∧ Answered c q 0 0 [BitVec.ofNat 32 m] (fun u => u.mode = modeOf m ∧
           u.flag startBlk R.PWR_STAT_MODE_DONE = true) t))) ∧ Frame [.mode, .outs, .regs, .site, .pcie, .dram, .host, .start, .com] s t)) ∧
  (∀ (c : Fin 128) (q : CmdReq) (n : Nat) (s : State), s.Runs c 2 1 q → q.snd = .p → q.w 1 = n → n < 128 →
    Gives (.siteCreate c) s (fun t => (64 ≤ n → Answered c q 6 1 [] (· = s) t) ∧
      (n < 64 → s.siteState n = 2 → t = s) ∧
      (n < 64 → s.siteState n ≠ 0 → s.siteState n ≠ 2 → Answered c q 13 0 [] (· = s) t) ∧
      (n < 64 → s.siteState n = 0 → Answered c q 0 0 [] (fun u => u.siteState n = 1 ∧ RegsBut [siteBlk n + R.SITE_STAT] s u ∧ Frame [.regs] s u) t))) ∧
  (∀ (c : Fin 128) (q : CmdReq) (n : Nat) (s : State), s.Runs c 2 2 q → q.snd = .p → q.w 1 = n → n < 64 →
    Gives (.siteDestroy c) s (fun t => (
      (q.phase = 0 → s.siteState n = 0 → Answered c q 9 0 [] (· = s) t) ∧
      (q.phase = 0 → s.siteState n = 2 → t = s) ∧
      (q.phase = 0 → s.siteState n = 1 → t.siteState n = 2 ∧ t.rf (siteBlk n) R.SITE_STAT_CAUSE = 4 ∧ (t.srt n).reload = false ∧
        t.cmdReq c = some { q with phase := 1, mem := [] }) ∧
      (q.phase ≠ 0 → s.siteState n ≠ 1 → t = s) ∧
      (q.phase ≠ 0 → s.siteState n = 1 → Answered c q 0 0 [] (fun u => u.siteState n = 0 ∧ (∀ f, f < 128 → u.fieldOwner f ≠ n) ∧
        (∀ g, g < 32 → u.granOwner g ≠ n) ∧ (∀ l, l < 512 → u.linkOwner l ≠ n) ∧ (∀ e, e < 64 → u.millOwner e ≠ n) ∧
        (∀ m, m < 48 → u.fpOwner m ≠ n) ∧ (∀ g, g < 3072 → s.encOf g = none → u.dramOwner g ≠ n) ∧
        (∀ k g, k < 32 → g < 512 → natBit (s.rd (granReg k g)).toNat 7 = false → u.rf (granReg k g) ⟨0, 6, 0⟩ ≠ n) ∧
        u.rd (siteBlk n + R.SITE_RIGHTS) = 0 ∧ u.share n = 0 ∧ u.bellDest n = 0) t)) ∧
      Frame [.free, .outs, .regs, .latch, .staged, .fab, .mem, .site, .pcie, .par, .ring, .llp, .cap, .mill, .dram, .host, .cfg, .dbg, .gpio, .com] s t)) ∧
  (∀ (c : Fin 128) (q : CmdReq) (w n : Nat) (s : State), s.Runs c 2 5 q → q.snd = .p ∨ q.snd = .s n → q.w 1 = w → n = w % 128 → n < 64 →
    w &&& 0xFFFFF080 = 0 →
    Gives (.siteReset c) s (fun t => (
      (q.phase = 0 → s.siteState n = 0 → Answered c q 9 0 [] (· = s) t) ∧
      (q.phase = 0 → s.siteState n = 1 → natBit w 11 = false →
        t.siteState n = 2 ∧ t.rf (siteBlk n) R.SITE_STAT_CAUSE = 3 ∧
        (t.srt n).reload = (if natBit w 8 then natBit w 9 else s.flag (siteBlk n) R.SITE_RST_CFG_FIELD_ACTION) ∧
        (natBit w 8 = true → t.flag (siteBlk n) R.SITE_RST_CFG_FIELD_ACTION = natBit w 9) ∧
        (natBit w 10 = true → t.cmdReq c = some { q with phase := 1, mem := [] }) ∧
        (natBit w 10 = false → ∃ u : State, t = u.cmnReply c q 0 0 [u.rd (siteBlk n + R.SITE_STAT)] ∧ u.siteState n = 2)) ∧
      (q.phase = 0 → s.siteState n = 1 → natBit w 11 = true → s.flag (siteBlk n) R.SITE_STAT_HELD = true →
        ∃ u : State, t = u.cmnReply c q 0 0 [u.rd (siteBlk n + R.SITE_STAT)] ∧ u.flag (siteBlk n) R.SITE_STAT_HELD = false ∧ u.siteState n = 1) ∧
      (q.phase ≠ 0 → s.siteState n = 2 → t = s) ∧
      (q.phase ≠ 0 → s.siteState n = 1 → Answered c q 0 0 [s.rd (siteBlk n + R.SITE_STAT)] (· = s) t)) ∧
      Frame [.free, .outs, .regs, .fab, .mem, .site, .pcie, .ring, .llp, .cap, .mill, .host, .cfg, .dbg, .com] s t))

/-- GRANT, REVOKE, SERVICE, QUERY and TCRIT (R85, R158, R295, R308, R402-R404): a grant or revoke acts on its whole range or on nothing, and names the
first resource that stops it (that a grant which would break condition B of R158 is refused is the model's choice, assumption 33); SERVICE sets a site's rights and share within the limits; QUERY writes the layout of what the site owns. -/
def Obligations.SiteCommands : Prop :=
  (∀ (c : Fin 128) (q : CmdReq) (n t cnt first arg : Nat) (s : State), s.Runs c 2 3 q → q.snd = .p → q.span = (n, t, cnt, first, arg) →
    Passes (s.spanArg q) → Passes (s.spanDies t first cnt) → (t ≠ 6 → arg = 0) → (t = 6 → arg < 128 ∧ s.fieldOwner arg = n) →
    ((∀ i, i < cnt → s.resourceOwner t (first + i) = n ∨ (s.resourceOwner t (first + i) = 0x7F ∧
        (t = 3 → natBit (s.rd (granReg ((first + i) / 512) ((first + i) % 512))).toNat 7 = false) ∧ (t = 5 → s.encOf (first + i) = none))) →
      (s.grantBell n t first cnt ≠ [] → s.condB (s.grantBell n t first cnt) (s.bellDest n) = false →
        Gives (.siteGrant c) s (Answered c q 12 2 [] (· = s))) ∧
      (s.grantBell n t first cnt = [] ∨ s.condB (s.grantBell n t first cnt) (s.bellDest n) = true →
        Gives (.siteGrant c) s (Answered c q 0 0 [] (fun u => (∀ i, i < cnt → u.resourceOwner t (first + i) = n) ∧
        (∀ i, t = 0 → i < cnt → s.fieldOwner (first + i) = 0x7F → (u.frt (first + i)).configured = false ∧ u.flag (siteBlk n) R.SITE_STAT_GRANT_CHG = true ∧
          ∀ b w, b < 96 → w < 1024 → u.bmWord (first + i) b w = 0))))) ∧
    (∀ i, i < cnt → s.resourceOwner t (first + i) ≠ n → s.resourceOwner t (first + i) ≠ 0x7F →
      (∀ j, j < i → s.resourceOwner t (first + j) = n ∨ s.resourceOwner t (first + j) = 0x7F) →
      Gives (.siteGrant c) s (Answered c q 10 i [] (· = s)))) ∧
  (∀ (c : Fin 128) (q : CmdReq) (n t cnt first : Nat) (s : State), s.Runs c 2 4 q → q.snd = .p → q.span = (n, t, cnt, first, 0) →
    Passes (s.spanArg q) → Passes (s.spanDies t first cnt) →
    ((∀ i, i < cnt → s.resourceOwner t (first + i) = n) →
      (∀ i, i < cnt → (t = 3 → natBit (s.rd (granReg ((first + i) / 512) ((first + i) % 512))).toNat 7 = false) ∧ (t = 5 → s.encOf (first + i) = none)) →
      Gives (.siteRevoke c) s (Answered c q 0 0 [] (fun u => (∀ i, i < cnt → u.resourceOwner t (first + i) = 0x7F) ∧
        (∀ i, t = 0 → i < cnt → (u.frt (first + i)).configured = false ∧ (u.frt (first + i)).gsr = true ∧ u.cfgRec (first + i) = none)))) ∧
    (∀ i, i < cnt → s.resourceOwner t (first + i) ≠ n → (∀ j, j < i → s.resourceOwner t (first + j) = n) →
      Gives (.siteRevoke c) s (Answered c q 11 i [] (· = s))) ∧
    (∀ i, t = 3 → i < cnt → (∀ j, j < cnt → s.resourceOwner t (first + j) = n) →
      natBit (s.rd (granReg ((first + i) / 512) ((first + i) % 512))).toNat 7 = true →
      (∀ j, j < i → natBit (s.rd (granReg ((first + j) / 512) ((first + j) % 512))).toNat 7 = false) →
      Gives (.siteRevoke c) s (Answered c q 13 i [] (· = s)))) ∧
  (∀ (c : Fin 128) (q : CmdReq) (w n others : Nat) (s : State), s.Runs c 2 6 q → q.snd = .p → q.w 1 = w → n = w % 128 → n < 64 → w &&& 0x00F00080 = 0 →
    natBits w 19 18 < 3 → natBits w 31 24 ≤ 128 → q.w 2 < 1024 → s.siteState n ≠ 0 →
    others = ((List.range 64).map (fun m => if m = n then 0 else s.share m)).sum →
    (s.siteState n = 2 → Gives (.siteService c) s (· = s)) ∧
    (s.siteState n ≠ 2 → 192 < others + natBits w 15 8 → Gives (.siteService c) s (Answered c q 12 1 [] (· = s))) ∧
    (s.siteState n ≠ 2 → others + natBits w 15 8 ≤ 192 → natBit w 16 = true → s.condB (s.siteBellStops n) (q.w 2 &&& 0x21F) = false →
      Gives (.siteService c) s (Answered c q 12 2 [] (· = s))) ∧
    (s.siteState n ≠ 2 → others + natBits w 15 8 ≤ 192 → (natBit w 16 = true → s.condB (s.siteBellStops n) (q.w 2 &&& 0x21F) = true) →
      (natBits w 31 24 < s.rf (siteBlk n) R.SITE_RIGHTS_TCRIT_USED → Gives (.siteService c) s (Answered c q 12 3 [] (· = s))) ∧
      (s.rf (siteBlk n) R.SITE_RIGHTS_TCRIT_USED ≤ natBits w 31 24 → Gives (.siteService c) s (Answered c q 0 0 [] (fun u =>
        (∀ p, p ∈ junctions → u.rf (spineBlk p + 4 * n) R.RING_SHARE_SHARE = natBits w 15 8) ∧
        u.flag (siteBlk n) R.SITE_RIGHTS_BELL = natBit w 16 ∧ u.rf (siteBlk n) R.SITE_RIGHTS_INJ = natBits w 17 17 ∧
        u.rf (siteBlk n) R.SITE_RIGHTS_DEBUG = natBits w 19 18 ∧ u.rf (siteBlk n) R.SITE_RIGHTS_TCRIT_MAX = natBits w 31 24 ∧
        u.bellDest n = (if natBit w 16 then q.w 2 &&& 0x21F else 0) ∧
        (∀ f, f < 128 → s.fieldOwner f = n → u.flag (fieldStop f) ⟨R.RING_BELL_CTRL, 31, 31⟩ = natBit w 16) ∧
        (∀ e, e < 64 → s.millOwner e = n → u.flag (millStop e) R.RING_BELL_CTRL_EN = natBit w 16) ∧
        (∀ l, l < 512 → s.linkOwner l = n → u.flag (linkBlk l) R.LINK_OWNER_INJ = natBit w 17)))))) ∧
  (∀ (c : Fin 128) (q : CmdReq) (n : Nat) (s : State), s.Runs c 2 7 q → q.snd = .p ∨ q.snd = .s n → q.w 1 = n → n < 64 → Passes (s.bufArg q 2) →
    (q.w 4 < 556 → Gives (.siteQuery c .ok) s (Answered c q 14 4 [] (· = s))) ∧
    (556 ≤ q.w 4 → Gives (.siteQuery c .ok) s (Answered c q 0 0 [BitVec.ofNat 32 (s.siteState n), 556]
      (· = s.emit (.bufWrite (q.w 2 + q.w 3 * 2 ^ 32) (s.queryBytes n)))) ∧
      Gives (.siteQuery c .inReset) s (Answered c q 8 0 [] (· = s)) ∧ Gives (.siteQuery c .noTarget) s (Answered c q 15 2 [] (· = s)))) ∧
  (∀ (n : Nat) (s : State), (s.queryBytes n).length = 556 ∧
    (∀ i, i < 128 → natBit ((s.queryBytes n).getD (i / 8) 0).toNat (i % 8) = decide (s.fieldOwner i = n)) ∧
    (∀ i, i < 32 → natBit ((s.queryBytes n).getD (16 + i / 8) 0).toNat (i % 8) = decide (s.granOwner i = n)) ∧
    (∀ i, i < 64 → natBit ((s.queryBytes n).getD (20 + i / 8) 0).toNat (i % 8) = decide (s.millOwner i = n)) ∧
    (∀ i, i < 512 → natBit ((s.queryBytes n).getD (28 + i / 8) 0).toNat (i % 8) = decide (s.linkOwner i = n)) ∧
    (∀ i, i < 3072 → natBit ((s.queryBytes n).getD (92 + i / 8) 0).toNat (i % 8) = decide (s.dramOwner i = n)) ∧
    (∀ i, i < 48 → natBit ((s.queryBytes n).getD (540 + i / 8) 0).toNat (i % 8) = decide (s.fpOwner i = n)) ∧
    (∀ i, i < 4 → (s.queryBytes n).getD (548 + i) 0 = BitVec.ofNat 8 ((s.rd (siteBlk n + R.SITE_RIGHTS)).toNat / 256 ^ i))) ∧
  (∀ (c : Fin 128) (q : CmdReq) (w n f used : Nat) (on was : Bool) (s : State), s.Runs c 2 8 q → q.snd = .p ∨ q.snd = .s n → q.w 1 = w → n = w % 128 →
    n < 64 → s.siteState n ≠ 0 → s.siteState n ≠ 2 → w &&& 0xFFFE8080 = 0 → f = natBits w 14 8 → on = natBit w 16 →
    was = s.flag (fieldPage f) R.FCK_TCRIT_TCRIT → used = s.rf (siteBlk n) R.SITE_RIGHTS_TCRIT_USED →
    (s.fieldOwner f ≠ n → Gives (.siteTcrit c) s (Answered c q 11 0 [] (· = s))) ∧
    (s.fieldOwner f = n → natBit s.kelk.unreach (1 + f / 32) = false → s.dieDown (1 + f / 32) = false →
      (on = true → was = false → s.rf (siteBlk n) R.SITE_RIGHTS_TCRIT_MAX < used + 1 → Gives (.siteTcrit c) s (Answered c q 12 0 [] (· = s))) ∧
      ((on = true → was = false → used < s.rf (siteBlk n) R.SITE_RIGHTS_TCRIT_MAX) → Gives (.siteTcrit c) s (fun t => ∃ (u : State) (k : Nat),
        t = u.cmnReply c q 0 0 [BitVec.ofNat 32 k] ∧ u.flag (fieldPage f) R.FCK_TCRIT_TCRIT = on ∧ u.rf (siteBlk n) R.SITE_RIGHTS_TCRIT_USED = k ∧
        k = ((List.range 128).filter (fun g => decide (s.fieldOwner g = n) && (if g = f then on else s.flag (fieldPage g) R.FCK_TCRIT_TCRIT))).length))))

/-- Commands of CONF and LINK (R135, R173, R184, R204, R405, R406): a load or reload is handed to the engine and answered with what it comes to; a
remap records the ledger entry and then the entry's register; a lane is set up, taken down, equalised and read. -/
def Obligations.ConfLinkCommands : Prop :=
  (∀ (c : Fin 128) (q : CmdReq) (n : Nat) (s : State), s.Runs c 3 1 q → q.snd = .p ∨ q.snd = .s n → q.phase = 0 → q.w 1 = n → n < 128 →
    Passes (s.siteArg q n true false) → Passes (s.bufArg q 2) →
    Gives (.confLoad c) s (fun t => (t.cmdReq c = some { q with phase := 1, mem := [] } ∧
      t.cfg.groups = s.cfg.groups ++ [{ id := s.cfg.next, kind := 2, site := n, chan := c.val, pass := 1 }] ∧ t.outs = s.outs ∧ t.host = s.host) ∧
      Frame [.outs, .regs, .site, .pcie, .host, .cfg, .com] s t)) ∧
  (∀ (c : Fin 128) (q : CmdReq) (n f : Nat) (s : State), s.Runs c 3 2 q → q.snd = .p ∨ q.snd = .s n → q.phase = 0 → q.w 1 = n + 256 * f → n < 128 →
    f < 128 → Passes (s.siteArg q n true false) → s.fieldOwner f = n → natBit s.kelk.unreach (1 + f / 32) = false → s.dieDown (1 + f / 32) = false →
    Gives (.confReload c) s (fun t => (s.cfgRec f = none → Answered c q 17 0 [] (· = s) t) ∧
      (∀ i, s.canReload f = some i → s.cfg.ends.find? (fun y => y.1 == c.val) = none → t.cmdReq c = some { q with phase := 1, mem := [] } ∧
        ∃ x, t.cfg.groups = s.cfg.groups ++ [x] ∧ x.kind = 3 ∧ x.site = n ∧ x.chan = c.val ∧ x.imgs = [(f, i)] ∧ x.pass = 2) ∧
      Frame [.free, .outs, .regs, .fab, .mem, .site, .pcie, .par, .ring, .host, .cfg, .dbg, .com] s t)) ∧
  (∀ (c : Fin 128) (q : CmdReq) (s : State), q.snd ≠ .g → q.phase ≠ 0 → ∀ e ∈ [(Instr.confLoad c, 1), (.confReload c, 2)], s.Runs c 3 e.2 q →
    (s.cfg.ends.find? (fun y => y.1 == c.val) = none → Gives e.1 s (· = s)) ∧
    (∀ st d k, s.cfg.ends.find? (fun y => y.1 == c.val) = some (c.val, st, d, k) →
      Gives e.1 s (Answered c q st d (if e.2 = 1 then [BitVec.ofNat 32 k, 0] else [])
        (· = { s with cfg := { s.cfg with ends := s.cfg.ends.filter (fun y => y.1 != c.val) } })))) ∧
  (∀ (c : Fin 128) (ok : Bool) (q : CmdReq) (f b w e : Nat) (free : List Nat) (s : State), s.Runs c 3 3 q → q.snd = .p → q.w 1 = 0 → f < 128 → b < 96 →
    w < 1024 → q.w 2 = 96 * f + b + 65536 * w → natBit s.kelk.unreach (1 + f / 32) = false → s.dieDown (1 + f / 32) = false →
    free = [0, 1, 2, 3].filter (fun i => !natBit (s.bmRemap f b i) 31) →
    ((∃ i, i < 4 ∧ natBit (s.bmRemap f b i) 31 = true ∧ natBits (s.bmRemap f b i) 9 0 = w) → Gives (.confRemap c ok) s (Answered c q 13 0 [] (· = s))) ∧
    ((∀ i, i < 4 → natBit (s.bmRemap f b i) 31 = true → natBits (s.bmRemap f b i) 9 0 ≠ w) →
      (free = [] → Gives (.confRemap c ok) s (Answered c q 12 0 [] (· = s))) ∧
      (free.head? = some e → Gives (.confRemap c false) s (Answered c q 20 0 [] (· = s)) ∧
        Gives (.confRemap c true) s (Answered c q 0 0 [BitVec.ofNat 32 (free.length - 1)] (fun u => u.ledger = s.ledger ++ [⟨0, true, q.w 2⟩] ∧
          s.bmRemap f b e < 2 ^ 31 ∧ u.bmRemap f b e = 0xC0000000 + w ∧ RegsBut [fieldPage f + R.BM_REMAP + 4 * (4 * b + e)] s u ∧
          Frame [.regs, .ledger] s u))))) ∧
  (∀ (c : Fin 128) (q : CmdReq) (g l e : Nat) (free : List Nat) (s : State), s.Runs c 3 3 q → q.snd = .p → q.w 1 = 1 → g < 32 → l < 32768 →
    q.w 2 = g + 256 * l → natBit s.kelk.unreach (1 + g / 8) = false → s.dieDown (1 + g / 8) = false →
    (∀ i, i < 16 → natBit (s.grRemap g i) 31 = true → natBits (s.grRemap g i) 14 0 ≠ l) →
    free = (List.range 16).filter (fun i => !natBit (s.grRemap g i) 31) → free.head? = some e →
    Gives (.confRemap c true) s (Answered c q 0 0 [BitVec.ofNat 32 (free.length - 1)] (fun u => u.ledger = s.ledger ++ [⟨1, true, q.w 2⟩] ∧
      u.grRemap g e = 0xC0000000 + l ∧ RegsBut [granBlk g + R.GR_REMAP + 4 * e] s u ∧ Frame [.regs, .ledger] s u))) ∧
  (∀ (c : Fin 128) (q : CmdReq) (s : State), s.Runs c 3 4 q → q.snd = .p → Passes (s.bufArg q 1) →
    Gives (.confLedger c .ok) s (Answered c q 0 0 [BitVec.ofNat 32 (min (q.w 3 / 8) s.ledger.length)]
      (· = s.emit (.bufWrite (q.w 1 + q.w 2 * 2 ^ 32) ((s.ledger.take (q.w 3 / 8)).flatMap (fun e =>
        toBytes 4 (e.kind + b2n e.runtime * 256) ++ toBytes 4 e.loc)))))) ∧
  (∀ (c : Fin 128) (q : CmdReq) (w l n : Nat) (pll : Bool) (s : State), s.Runs c 4 1 q → Passes (s.linkArg q) → q.snd ≠ .g → Passes q.eqArg → q.w 1 = w →
    l = w % 512 → n = natBits w 31 16 → pll = natBit w 11 → natBits w 15 14 = 0 → 160 ≤ n → n ≤ 320 → natBits w 10 9 = 0 ∨ natBits w 10 9 = 3 →
    s.laneState l = 0 → s.fastLanes < laneLimit s.mode → 160 ≤ s.pllN (quadOf l) (!pll) → s.pllN (quadOf l) (!pll) ≤ 320 →
    (∀ i, i < 4 → s.laneState (4 * quadOf l + i) = 0) →
    Gives (.linkUp c) s (fun t => (∃ u : State, t = u.cmnReply c q 0 0 [u.rd (laneBlk l + R.LANE_STAT)] ∧
      u.rd (laneBlk l + R.LANE_CTRL) = BitVec.ofNat 32 (2 ^ 31 + natBits w 10 9 * 2 ^ 29 + b2n pll * 2 ^ 28 + natBits w 13 12 * 2 ^ 26) ∧
      u.pllN (quadOf l) pll = n ∧ u.pllN (quadOf l) (!pll) = s.pllN (quadOf l) (!pll) ∧
      u.flag (quadBlk (quadOf l)) (if pll then R.QPLL_CTRL_EN1 else R.QPLL_CTRL_EN0) = true ∧
      u.rd (laneBlk l + R.LANE_TXEQ) = BitVec.ofNat 32 (q.w 2 % 2 ^ 31) ∧ u.rf (laneBlk l) R.LANE_RXEQ_FREEZE = natBits (q.w 2) 31 31 ∧
      (s.flag (laneBlk l) R.LANE_CTRL_EN = false → s.refFallback = false → u.laneState l = (if s.flag (laneBlk l) R.LANE_STAT_SIG_DET then 2 else 1)) ∧
      (s.flag (laneBlk l) R.LANE_CTRL_EN = false → s.refFallback = true → u.laneState l = 7)) ∧
      Frame [.free, .outs, .regs, .site, .pcie, .par, .llp, .cap, .host, .com] s t)) ∧
  (∀ (c : Fin 128) (q : CmdReq) (l : Nat) (s : State), s.Runs c 4 2 q → Passes (s.linkArg q) → q.snd ≠ .g → q.w 1 = l → l < 512 →
    Gives (.linkDown c) s (Answered c q 0 0 [] (fun u => u.laneState l = 0 ∧ u.flag (laneBlk l) R.LANE_CTRL_EN = false ∧
      (u.lk l).grant = (s.lk l).grant ∧ (∀ m, m < 512 → m ≠ l → u.laneState m = s.laneState m)))) ∧
  (∀ (c : Fin 128) (q : CmdReq) (l : Nat) (s : State), s.Runs c 4 3 q → Passes (s.linkArg q) → q.snd ≠ .g → q.w 1 = l → l < 512 →
    Gives (.linkStatus c) s (Answered c q 0 0 [s.rd (laneBlk l + R.LANE_STAT), s.rd (linkBlk l + R.LINK_STAT), s.rd (linkBlk l + R.LINK_HELLO),
      s.rd (laneBlk l + R.LANE_EYE)] (· = s))) ∧
  (∀ (c : Fin 128) (q : CmdReq) (l : Nat) (s : State), s.Runs c 4 4 q → Passes (s.linkArg q) → q.snd ≠ .g → Passes q.eqArg → q.w 1 = l → l < 512 →
    Gives (.linkEq c) s (Answered c q 0 0 [] (fun u => u.rd (laneBlk l + R.LANE_TXEQ) = BitVec.ofNat 32 (q.w 2 % 2 ^ 31) ∧
      u.rf (laneBlk l) R.LANE_RXEQ_FREEZE = natBits (q.w 2) 31 31 ∧ RegsBut [laneBlk l + R.LANE_TXEQ, laneBlk l + R.LANE_RXEQ] s u ∧ Frame [.regs] s u)))

/-- Commands of FCU, TALLY and MILL (R241, R244, R249, R265, R266, R269, R407-R409): routing and addresses of a link are stored, a clear runs over each
run of its granules, the log restarts; a tally group is configured and read; a Mill engine is started, closed, aborted and read. -/
def Obligations.FcuTallyMillCommands : Prop :=
  (∀ (c : Fin 128) (q : CmdReq) (l v o : Nat) (s : State), s.Runs c 5 1 q → Passes (s.linkArg q) → q.snd ≠ .g → q.w 1 = l → l < 512 → v = q.w 2 →
    o = s.linkOwner l → natBits v 15 4 = 0 →
    (natBit v 23 = true → (∃ i, i < 128 ∧ 128 * (l / 128) + i ≠ l ∧ s.lrOn (128 * (l / 128) + i) R.LR_CTRL_PORT_EN = true ∧
      s.lrF (128 * (l / 128) + i) R.LR_CTRL_PORT_FIELD = natBits v 22 21 ∧ s.lrF (128 * (l / 128) + i) R.LR_CTRL_PORT = natBits v 20 16) →
      Gives (.fcuRoute c) s (Answered c q 13 0 [] (· = s))) ∧
    ((natBit v 23 = true → (∀ i, i < 128 → 128 * (l / 128) + i ≠ l → ¬ (s.lrOn (128 * (l / 128) + i) R.LR_CTRL_PORT_EN = true ∧
        s.lrF (128 * (l / 128) + i) R.LR_CTRL_PORT_FIELD = natBits v 22 21 ∧ s.lrF (128 * (l / 128) + i) R.LR_CTRL_PORT = natBits v 20 16)) ∧
        s.fieldOwner (32 * (l / 128) + 8 * natBits v 22 21) = o) →
      (natBit v 29 = true → s.millOwner (16 * (l / 128) + v % 16) = o) →
      Gives (.fcuRoute c) s (Answered c q 0 0 [lrCtrlStore (BitVec.ofNat 32 v)] (fun u => u.rd (lrBlk l + R.LR_CTRL) = lrCtrlStore (BitVec.ofNat 32 v) ∧
        (natBit v 31 = false → (u.lk l).fabq = []))))) ∧
  (∀ (c : Fin 128) (q : CmdReq) (l w size a : Nat) (s : State), s.Runs c 5 2 q → Passes (s.linkArg q) → q.snd ≠ .g → q.w 1 = l + 512 * w + 65536 * size →
    l < 512 → size < 64 → a = q.w 2 + q.w 3 * 2 ^ 32 → q.w 3 < 65536 →
    (w < 3 → s.windowOf a (s.linkOwner l) = false → Gives (.fcuAddr c) s (Answered c q 14 2 [] (· = s))) ∧
    (w < 3 → s.windowOf a (s.linkOwner l) = true → Gives (.fcuAddr c) s (Answered c q 0 0 [] (fun u =>
      u.rd64 (lrBlk l + (if w = 0 then R.LR_FAB_ADDR_LO else if w = 1 then R.LR_RX_ADDR_LO else R.LR_TX_ADDR_LO)) = a ∧ Frame [.regs] s u))) ∧
    (w = 3 → 16 ≤ size → size ≤ 35 → a % 2 ^ size = 0 → s.dramHeld a (2 ^ size) (s.linkOwner l) = true →
      Gives (.fcuAddr c) s (Answered c q 0 0 [] (fun u => u.rd64 (lrBlk l + R.LR_LOG_BASE_LO) = a ∧ u.lrF l R.LR_CFG_LOG_SIZE = size ∧
        u.rd (lrBlk l + R.LR_LOG_WPTR) = s.rd (lrBlk l + R.LR_LOG_RPTR))))) ∧
  (∀ (c : Fin 128) (q : CmdReq) (l : Nat) (s : State), s.Runs c 5 3 q → Passes (s.linkArg q) → q.snd ≠ .g → q.w 1 = l → l < 512 → q.phase = 0 →
    s.flag (fcuBlk (fcuOf l)) R.FCU_STAT_CLR_BUSY = false →
    (s.heldGrans l = [] → Gives (.fcuClear c) s (Answered c q 0 0 [0] (fun u => u = s.setReq c (some { q with phase := 1, mem := [s.now, 0] })))) ∧
    (∀ a b r, runsOf (s.heldGrans l) = a :: b :: r → Gives (.fcuClear c) s (fun t => a ≤ b ∧ (∀ g, a ≤ g → g ≤ b → g ∈ s.heldGrans l) ∧
      t.flag (fcuBlk (fcuOf l)) R.FCU_STAT_CLR_BUSY = true ∧ (t.fcu (fcuOf l)).clr = some (a, b, a, s.now) ∧
      t.cmdReq c = some { q with phase := 1, mem := s.now :: (s.heldGrans l).length :: r }))) ∧
  (∀ (c : Fin 128) (q : CmdReq) (t0 total : Nat) (s : State), s.Runs c 5 3 q → q.snd ≠ .g → q.phase ≠ 0 →
    (∀ r, q.mem = t0 :: total :: r → s.flag (fcuBlk (fcuOf (q.w 1 % 512))) R.FCU_STAT_CLR_BUSY = true →
      (s.now ≤ t0 + 1000000 → Gives (.fcuClear c) s (· = s)) ∧ (t0 + 1000000 < s.now → Gives (.fcuClear c) s (Answered c q 16 0 [] (· = s)))) ∧
    (q.mem = [t0, total] → s.flag (fcuBlk (fcuOf (q.w 1 % 512))) R.FCU_STAT_CLR_BUSY = false →
      Gives (.fcuClear c) s (Answered c q 0 0 [BitVec.ofNat 32 total] (· = s)))) ∧
  (∀ (c : Fin 128) (q : CmdReq) (l : Nat) (s : State), s.Runs c 5 4 q → Passes (s.linkArg q) → q.snd ≠ .g → q.w 1 = l → l < 512 →
    Gives (.fcuLogrst c) s (Answered c q 0 0 [] (fun u => u.rd (lrBlk l + R.LR_LOG_RPTR) = 0 ∧ u.rd (lrBlk l + R.LR_LOG_WPTR) = 0 ∧
      u.rd64 (lrBlk l + R.LR_LOG_BASE_LO) = s.rd64 (lrBlk l + R.LR_LOG_BASE_LO) ∧ (∀ e ∈ (u.fcu (fcuOf l)).logq, e.link ≠ l % 16)))) ∧
  (∀ (c : Fin 128) (q : CmdReq) (w n a : Nat) (s : State), s.Runs c 6 1 q → q.snd = .p ∨ q.snd = .s n → q.w 1 = w → n = w % 128 → n < 64 →
    s.siteState n ≠ 0 → s.siteState n ≠ 2 → natBit w 7 = false → natBits w 15 11 = 0 → a = q.w 2 + q.w 3 * 2 ^ 32 → q.w 3 < 65536 →
    (natBit w 10 = true → s.windowOf a n = true → s.flag (siteBlk n) R.SITE_RIGHTS_BELL = false →
      Gives (.tallyConfig c) s (Answered c q 7 0 [] (· = s))) ∧
    ((natBit w 10 = true → s.windowOf a n = true ∧ s.flag (siteBlk n) R.SITE_RIGHTS_BELL = true) →
      Gives (.tallyConfig c) s (Answered c q 0 0 [] (fun u => u.rd64 (tallyBlk n + R.TALLY_FAB_ADDR_LO) = a ∧
        u.rd (tallyBlk n + R.TALLY_CTRL) = BitVec.ofNat 32 (natBits w 8 8 * 2 ^ 31 + natBits w 9 9 * 2 ^ 30 + natBits w 10 10 * 2 ^ 29 +
          max 1 (natBits w 31 16)))))) ∧
  (∀ (c : Fin 128) (q : CmdReq) (n : Nat) (s : State), s.Runs c 6 2 q → q.snd = .p ∨ q.snd = .s n → q.w 1 = n → n < 64 → s.siteState n ≠ 0 →
    s.siteState n ≠ 2 → Gives (.tallyStatus c) s (Answered c q 0 0 [s.rd (tallyBlk n + R.TALLY_RES_LO), s.rd (tallyBlk n + R.TALLY_RES_HI),
      s.rd (tallyBlk n + R.TALLY_STAT), s.rd (tallyBlk n + R.TALLY_LAT)] (· = s))) ∧
  (∀ (c : Fin 128) (q : CmdReq) (e d : Nat) (s : State), s.Runs c 7 1 q → q.snd ≠ .g → Passes (s.millArg q) → q.w 1 = e → e < 64 → q.len = 3 →
    d = q.w 2 + q.w 3 * 2 ^ 32 → d % 256 = 0 → q.w 3 < 65536 → s.dramHeld d 256 (s.millOwner e) = true →
    (s.millState e ∈ [1, 2, 3] → Gives (.millStart c) s (Answered c q 13 0 [] (· = s))) ∧
    (s.millState e ∈ [0, 4, 5] → Gives (.millStart c) s (Answered c q 0 0 [] (fun u => u.millState e = 1 ∧ u.rd64 (millBlk e + R.MILL_DESC_LO) = d ∧
      (u.millE e).src = false ∧ (∀ k ∈ millCounters, u.rd (millBlk e + k) = 0) ∧ (∀ m, m < 64 → m ≠ e → u.millState m = s.millState m))))) ∧
  (∀ (c : Fin 128) (q : CmdReq) (e : Nat) (s : State), q.snd ≠ .g → Passes (s.millArg q) → q.w 1 = e → e < 64 →
    (s.Runs c 7 2 q → s.millState e = 2 → (s.millE e).src = false →
      Gives (.millClose c) s (Answered c q 0 0 [] (fun u => (u.millE e).closed = true ∧ u.millState e = 2))) ∧
    (s.Runs c 7 2 q → s.millState e ≠ 2 ∨ (s.millE e).src = true → Gives (.millClose c) s (Answered c q 13 0 [] (· = s))) ∧
    (s.Runs c 7 3 q → s.millState e ∈ [1, 2, 3] → Gives (.millAbort c) s (fun t => ∃ u : State, t = u.cmnReply c q 0 0 [u.rd (millBlk e + R.MILL_STAT)] ∧
      u.millState e = 5 ∧ u.rf (millBlk e) R.MILL_STAT_ERR = 6)) ∧
    (s.Runs c 7 3 q → s.millState e ∈ [0, 4, 5] → Gives (.millAbort c) s (Answered c q 0 0 [s.rd (millBlk e + R.MILL_STAT)] (fun u =>
      RegsBut [millBlk e + R.MILL_CTRL] s u ∧ Frame [.regs] s u))) ∧
    (s.Runs c 7 4 q → Gives (.millStatus c) s (Answered c q 0 0 [s.rd (millBlk e + R.MILL_STAT), s.rd (millBlk e + R.MILL_PROGRESS),
      s.rd (millBlk e + R.MILL_N_REPAIRED), s.rd (millBlk e + R.MILL_N_UNREP), s.rd (millBlk e + R.MILL_N_UNDEC), s.rd (millBlk e + R.MILL_RES_BYTES)]
      (· = s))))

/-- Commands of DRAM and SEC (R324, R337, R342, R344, R358, R410, R411, R433, R434, R447): ports, status, set points and patrol of the controllers; a key slot
enabled, with secrets drawn of which H is not 0, and disabled; random words of the DRBG, which wait while a reseed lacks its bits; a life-cycle change handed to the public-key engine. -/
def Obligations.DramSecCommands : Prop :=
  (∀ (c : Fin 128) (q : CmdReq) (n m w p : Nat) (s : State), s.Runs c 8 1 q → q.snd = .p → q.w 1 = n → n < 64 → s.siteState n ≠ 0 → s.siteState n ≠ 2 →
    q.w 2 = m → m < 65536 → (∀ i ∈ [0, 4, 8, 12], natBits m (i + 3) i ≠ 15) → q.w 3 = w → natBits w 15 10 = 0 → p = w % 16 → p ≠ 15 →
    (∀ d, 1 ≤ d → d ≤ 4 → natBit s.kelk.unreach d = false ∧ s.dieDown d = false) →
    ((∀ k, k < 12 → ((List.range 16).map (fun i => if i = p then natBits w 9 4 else s.rf (ddrBlk k + 4 * i) R.DDR_PORT_RESV)).sum ≤ 48) →
      Gives (.dramPorts c) s (Answered c q 0 0 [] (fun u => u.rd (dramHub + R.DRAM_PORTMAP + 4 * n) = BitVec.ofNat 32 m ∧
        (∀ k, k < 12 → u.rf (ddrBlk k + 4 * p) R.DDR_PORT_RESV = natBits w 9 4 ∧ u.rf (ddrBlk k + 4 * p) R.DDR_PORT_TARGET = max 400 (natBits w 31 16)) ∧
        (∀ k i, k < 12 → i < 16 → i ≠ p → u.rd (ddrBlk k + R.DDR_PORT + 4 * i) = s.rd (ddrBlk k + R.DDR_PORT + 4 * i)) ∧ Frame [.regs] s u))) ∧
    (∀ k, k < 12 → 48 < ((List.range 16).map (fun i => if i = p then natBits w 9 4 else s.rf (ddrBlk k + 4 * i) R.DDR_PORT_RESV)).sum →
      (∀ j, j < k → ((List.range 16).map (fun i => if i = p then natBits w 9 4 else s.rf (ddrBlk j + 4 * i) R.DDR_PORT_RESV)).sum ≤ 48) →
      Gives (.dramPorts c) s (Answered c q 12 k [] (· = s)))) ∧
  (∀ (c : Fin 128) (q : CmdReq) (s : State), s.Runs c 8 2 q → q.snd ≠ .g → Gives (.dramStatus c) s (fun t => ∃ m, m < 4096 ∧
      (∀ k, k < 12 → (natBit m k = true ↔ ∃ p, p < 4 ∧ (s.rankState k p = 3 ∨ s.rankState k p = 5))) ∧
      Answered c q 0 0 [s.rd (dramHub + R.DRAM_INTLV), BitVec.ofNat 32 m,
        match q.snd with | .s n => if n < 64 then s.rd (dramHub + R.DRAM_SITE_EVT + 8 * n) else 0 | _ => 0] (· = s) t)) ∧
  (∀ (c : Fin 128) (q : CmdReq) (f m : Nat) (s : State), s.Runs c 8 3 q → q.snd = .p → q.w 1 = f + 65536 * m → f < 3 → m < 4096 →
    (q.phase = 0 → m = 0 → Gives (.dramFreq c) s (Answered c q 0 0 [0] (· = s))) ∧
    (∀ k, q.phase = 0 → k < 12 → natBit m k = true → (∀ j, j < k → natBit m j = false) →
      (s.fspOk k f = true → s.ddrState k = 2 → Gives (.dramFreq c) s (fun t => t.ddrState k = 3 ∧ (t.ddr k).target = some f ∧
        t.cmdReq c = some { q with phase := 1, mem := [k, 2 ^ k] } ∧ (∀ j, j < 12 → j ≠ k → t.ddrState j = s.ddrState j))) ∧
      (s.fspOk k f = false ∨ s.ddrState k ≠ 2 → Gives (.dramFreq c) s (Answered c q 13 k [] (fun u =>
        u.flag (ddrBlk k) R.DDR_STAT_FREQ_REFUSED = true ∧ u.ddrState k = s.ddrState k ∧ u.dram = s.dram)))) ∧
    (∀ k done, q.phase ≠ 0 → q.mem = [k, done] → k < 12 → natBit m k = true → natBit done k = true →
      (s.ddrState k = 3 → Gives (.dramFreq c) s (fun t => t = s.setReq c (some { q with phase := 1 }))) ∧
      (s.ddrState k ≠ 3 → (∀ j, k < j → j < 12 → natBit m j = false) → Gives (.dramFreq c) s (Answered c q 0 0 [BitVec.ofNat 32 done] (· = s))))) ∧
  (∀ (c : Fin 128) (q : CmdReq) (w : Nat) (s : State), s.Runs c 8 4 q → q.snd = .p → q.w 1 = w → w &&& 0xF000FE00 = 0 →
    (∀ k, k < 12 → natBit w (16 + k) = true → natBit s.kelk.unreach (1 + k / 3) = false ∧ s.dieDown (1 + k / 3) = false) →
    Gives (.dramPatrol c) s (Answered c q 0 0 [] (fun u => (∀ k, k < 12 → natBit w (16 + k) = true →
      u.rf (ddrBlk k) R.DDR_PATROL_PERIOD = w % 256 ∧ u.rf (ddrBlk k) R.DDR_PATROL_FIX = natBits w 8 8) ∧
      (∀ a, (∀ k, k < 12 → natBit w (16 + k) = true → a ≠ ddrBlk k + R.DDR_PATROL) → u.rd a = s.rd a) ∧ Frame [.regs] s u))) ∧
  (∀ (c : Fin 128) (q : CmdReq) (n k base m d : Nat) (s : State), s.Runs c 9 1 q → q.snd = .p ∨ q.snd = .s n → q.w 1 = n → n < 64 ∧ k = n ∨ n = 0x7F ∧ k = 64 →
    Passes (s.siteArg q n true false) → q.w 2 = base + 65536 * m → base < 4096 → m < 4096 → q.w 3 = d → d < 4096 →
    (s.encState k ≠ 0 → Gives (.secEncOn c) s (Answered c q 13 0 [] (· = s))) ∧
    (s.encState k = 0 → s.rf mgmtBlk R.REEVE_STAT_STATE ≠ 1 ∨ s.keyReady = false → Gives (.secEncOn c) s (· = s)) ∧
    (s.encState k = 0 → s.rf mgmtBlk R.REEVE_STAT_STATE = 1 → s.keyReady = true →
      (∀ i, s.encRule k base d m = some i → Gives (.secEncOn c) s (Answered c q 12 i [] (fun u => u.flag (encBlk k) R.ENC_STAT_REFUSED = true ∧
        u.encState k = 0 ∧ u.dram = s.dram))) ∧
      (s.encRule k base d m = none → s.lc ≠ 5 → s.lc ≠ 7 → Gives (.secEncOn c) s (Answered c q 0 0 [] (fun u => u.encState k = 1 ∧
        u.encBase k = base ∧ u.encM k = m ∧ u.encD k = d ∧ u.flag (encBlk k) R.ENC_CTRL_EN = true ∧
        u.encKeys k = s.drawKeys.1 ∧ u.sec = s.drawKeys.2.sec ∧ u.free = s.free + 1))))) ∧
  (∀ s : State, s.drawKeys.1.h ≠ 0) ∧
  (∀ (k base d m : Nat) (s : State), s.encRule k base d m = none ↔ 0 < d ∧ base + d + m ≤ s.dramList.length * s.rf dramHub R.DRAM_INTLV_CAP_GIB ∧
    27 * d ≤ 100 * m ∧ ∀ i, base ≤ i → i < base + d + m → s.dramOwner i = (if k < 64 then k else 0x7F) ∧ s.encOf i = none) ∧
  (∀ (c : Fin 128) (q : CmdReq) (n k : Nat) (s : State), s.Runs c 9 2 q → q.snd = .p ∨ q.snd = .s n → q.w 1 = n → n < 64 ∧ k = n ∨ n = 0x7F ∧ k = 64 →
    Passes (s.siteArg q n true false) → s.rf mgmtBlk R.REEVE_STAT_STATE = 1 →
    (s.encState k = 0 → Gives (.secEncOff c) s (Answered c q 0 0 [] (· = s))) ∧
    (s.encState k ≠ 0 → Gives (.secEncOff c) s (Answered c q 0 0 [] (fun u => u.encState k = 0 ∧ u.flag (encBlk k) R.ENC_CTRL_EN = false ∧
      u.encKeys k = {} ∧ (∀ x b, b < 2 ^ 22 → s.encBase k ≤ b / 1024 → b / 1024 < s.encBase k + s.encD k + s.encM k → u.isFilled x b = false))))) ∧
  (∀ (c : Fin 128) (q : CmdReq) (n : Nat) (s : State), s.Runs c 9 3 q → q.w 1 = n → n < 16 → (n = 0 ∨ 13 < n → Gives (.secRandom c) s (Answered c q 6 1 [] (· = s))) ∧
    (0 < n → n ≤ 13 → s.rf mgmtBlk R.REEVE_STAT_STATE = 1 → s.rndReady = false → Gives (.secRandom c) s (· = s)) ∧
    (0 < n → n ≤ 13 → s.rf mgmtBlk R.REEVE_STAT_STATE = 1 → s.rndReady = true → Gives (.secRandom c) s (Answered c q 0 0
      ((List.range n).map (fun i => BitVec.ofNat 32 (bytesNat (((s.draw (4 * n)).1.drop (4 * i)).take 4)))) (· = (s.draw (4 * n)).2)))) ∧
  (∀ (c : Fin 128) (a : LcAuth) (bus : Rsp) (q : CmdReq) (d : Nat) (s : State), s.Runs c 9 4 q → q.snd = .p → q.phase = 0 → q.w 1 = d → d < 256 →
    (d ≠ s.lc + 1 → Gives (.secLifecycle c a bus) s (Answered c q 6 1 [] (· = s))) ∧
    (d = s.lc + 1 → Passes (s.bufArg q 2) → s.rf mgmtBlk R.REEVE_STAT_STATE = 1 →
      (s.sec.change.isSome = true → Gives (.secLifecycle c a bus) s (· = s)) ∧
      (s.sec.change = none → s.sec.pke = [] → a.dst.toNat = d → s.lcAuthOk a = false → Gives (.secLifecycle c a .ok) s (Answered c q 18 0 [] (· = s))) ∧
      (s.sec.change = none → s.sec.pke = [] → a.dst.toNat = d → s.lcAuthOk a = true → Gives (.secLifecycle c a .ok) s (fun t =>
        t.sec = { s.sec with pke := [(2, .lifecycle d c.val a.prov)] } ∧ t.flag secBlk R.SEC_PKE_STAT_BUSY = true ∧
        t.cmdReq c = some { q with phase := 1, mem := [] } ∧ RegsBut [secBlk + R.SEC_PKE_STAT] s t)))) ∧
  (∀ (c : Fin 128) (a : LcAuth) (bus : Rsp) (q : CmdReq) (s : State), s.Runs c 9 4 q → q.snd = .p → q.phase ≠ 0 →
    (s.sec.ends.find? (fun e => e.1 == c.val) = none → Gives (.secLifecycle c a bus) s (· = s)) ∧
    (∀ st d, s.sec.ends.find? (fun e => e.1 == c.val) = some (c.val, st, d) → Gives (.secLifecycle c a bus) s (Answered c q st d [BitVec.ofNat 32 s.lc]
      (· = { s with sec := { s.sec with ends := s.sec.ends.filter (fun e => e.1 != c.val) } }))))

/-- Commands of MON, PARISH and FW (R412-R414, R423, R426, R429, R581, R589): samples and power read, a channel configured; records read in sequence
order and the mark moved; image slots read and updated, Commons restarted, a patch record taken. -/
def Obligations.MonParishFwCommands : Prop :=
  (∀ (c : Fin 128) (q : CmdReq) (a n : Nat) (s : State), s.Runs c 10 1 q → q.w 1 = a + 256 * (n - 1) → a < 256 → 0 < n → n ≤ 16 →
    (13 < n ∨ 148 < a + n → Gives (.monRead c) s (Answered c q 6 1 [] (· = s))) ∧
    (n ≤ 13 → a + n ≤ 148 → Gives (.monRead c) s (Answered c q 0 0 ((List.range n).map (fun i => s.rd (monBlk + R.MON_SMP + 4 * (a + i)))) (· = s)))) ∧
  (∀ (c : Fin 128) (q : CmdReq) (n osr gain : Nat) (s : State), s.Runs c 10 2 q → q.snd = .p → q.w 1 = n + 256 * osr + 1024 * gain → n < 148 → osr < 3 → gain < 4 →
    (n < 144 → gain ≠ 0 → Gives (.monConfig c) s (Answered c q 6 1 [] (· = s))) ∧
    ((n < 144 → gain = 0) → Gives (.monConfig c) s (Answered c q 0 0 [] (fun u => u.rf (monBlk + 4 * n) R.MON_CH_OSR = osr ∧
      (144 ≤ n → u.rf (monBlk + 4 * n) R.MON_CH_GAIN = gain) ∧ u.flag (monBlk + 4 * n) R.MON_CH_EN = s.flag (monBlk + 4 * n) R.MON_CH_EN ∧
      ((s.conv (convOf n)).chan ≠ n → u.start = s.start) ∧ RegsBut [monBlk + R.MON_CH + 4 * n] s u)))) ∧
  (∀ (c : Fin 128) (q : CmdReq) (s : State), s.Runs c 10 3 q → Gives (.monPower c) s (Answered c q 0 0 [s.rd (startBlk + R.PWR_MEAS),
      BitVec.ofNat 32 (1000 * s.rf startBlk R.PWR_CAP_CAP_W),
      BitVec.ofNat 32 (((List.range 128).filter (fun f => s.rf (fieldPage f) R.FCK_STAT_STRETCH != 0)).length + modeNo s.mode * 256)] (· = s))) ∧
  (∀ (c : Fin 128) (q : CmdReq) (b : Nat) (rs : List PRec) (s : State), s.Runs c 11 1 q → q.snd ≠ .g → q.w 2 < 65536 → Passes (s.bufArg q 3) →
    b = (if s.par.any then seqMax (s.rd (parishBlk + R.PAR_SEQ_OLD)).toNat (q.w 1) else q.w 1) →
    rs = ((s.heldFrom b).filter (fun r => match q.snd with | .s n => r.site == n | _ => true)).take (min (q.w 2) (q.w 5 / 32)) →
    Gives (.parishRead c .ok) s (fun t => ∃ m, Answered c q 0 0 [BitVec.ofNat 32 rs.length, BitVec.ofNat 32 m]
      (· = if rs = [] then s else s.emit (.bufWrite (q.w 3 + q.w 4 * 2 ^ 32) (rs.flatMap recBytes))) t ∧
      (∀ r, 0 < rs.length → rs.length = min (q.w 2) (q.w 5 / 32) → rs.getLast? = some r → m = (r.seq + 1) % 2 ^ 32))) ∧
  (∀ (b : Nat) (r : PRec) (s : State), r ∈ s.heldFrom b → r.code ≠ 1 ∧ (r.seq = b ∨ seqAfter r.seq b = true) ∧
    (r ∈ s.par.staging ∨ (∃ k, (k, some r) ∈ s.par.ring) ∨ (∃ k, (k, FlashSlot.held r) ∈ s.par.flash))) ∧
  (∀ (b : Nat) (s : State), ((s.heldFrom b).map (fun r => (r.seq + 2 ^ 32 - b) % 2 ^ 32)).Pairwise (· < ·)) ∧
  (∀ r : PRec, (recBytes r).length = 32) ∧
  (∀ (c : Fin 128) (q : CmdReq) (m : Nat) (s : State), s.Runs c 11 2 q → q.snd = .p → m = seqMax (s.rd (parishBlk + R.PAR_MARK)).toNat (q.w 1) →
    ((∀ r ∈ s.heldFrom (q.w 1), r.seq ≠ q.w 1) → Gives (.parishMark c) s (Answered c q 17 0 [] (· = s))) ∧
    ((∃ r ∈ s.heldFrom (q.w 1), r.seq = q.w 1) → Gives (.parishMark c) s (Answered c q 0 0 [] (fun u => u.rd (parishBlk + R.PAR_MARK) = BitVec.ofNat 32 m ∧
      ∃ r, tabGet (fun _ => none) u.par.ring (r.seq % 4096) = some r ∧ r.code = 2 ∧ r.data = m)))) ∧
  (∀ (c : Fin 128) (q : CmdReq) (s : State), s.Runs c 11 3 q → q.snd = .p → Gives (.parishStatus c) s (Answered c q 0 0
      [s.rd (parishBlk + R.PAR_SEQ_OLD), s.rd (parishBlk + R.PAR_SEQ_NEW), s.rd (parishBlk + R.PAR_STAGED)] (· = s))) ∧
  (∀ (c : Fin 128) (q : CmdReq) (s : State), s.Runs c 12 1 q → Gives (.fwVersion c) s (Answered c q 0 0 [BitVec.ofNat 32 (s.rf mgmtBlk R.CMN_RST_STAT_SLOT),
      BitVec.ofNat 32 s.cores.slotA.seq, BitVec.ofNat 32 s.cores.slotB.seq, BitVec.ofNat 32 (s.slotOf (s.rf mgmtBlk R.CMN_RST_STAT_SLOT)).ver,
      BitVec.ofNat 32 (s.rf mgmtBlk R.PATCH_STAT_LEVEL)] (· = s))) ∧
  (∀ (c : Fin 128) (x : SlotIn) (ok : Bool) (q : CmdReq) (n : Nat) (s : State), s.Runs c 12 2 q → q.snd = .p → q.w 1 = n → n < 2 →
    (n = s.rf mgmtBlk R.CMN_RST_STAT_SLOT → Gives (.fwUpdate c x .ok ok) s (Answered c q 13 0 [] (· = s))) ∧
    (n ≠ s.rf mgmtBlk R.CMN_RST_STAT_SLOT → Passes (s.bufArg q 2) → s.rf mgmtBlk R.REEVE_STAT_STATE = 1 →
      ((x.ok && decide (s.sec.svnMin ≤ x.svn.toNat)) = false → Gives (.fwUpdate c x .ok ok) s (Answered c q 18 0 [] (· = s))) ∧
      ((x.ok && decide (s.sec.svnMin ≤ x.svn.toNat)) = true →
        Gives (.fwUpdate c x .ok true) s (Answered c q 0 0 [BitVec.ofNat 32 ((max s.cores.slotA.seq s.cores.slotB.seq + 1) % 2 ^ 32)] (fun u =>
          u.slotOf n = ⟨true, (max s.cores.slotA.seq s.cores.slotB.seq + 1) % 2 ^ 32, x.svn.toNat, x.ver.toNat⟩ ∧ u.slotOf (1 - n) = s.slotOf (1 - n) ∧
          Frame [.cores] s u)) ∧
        Gives (.fwUpdate c x .ok false) s (Answered c q 20 0 [] (fun u => u.slotOf n = { s.slotOf n with valid := false } ∧
          u.slotOf (1 - n) = s.slotOf (1 - n) ∧ Frame [.cores] s u))))) ∧
  (∀ (c : Fin 128) (q : CmdReq) (b : Bool) (w : Nat) (s : State), s.Runs c 12 3 q → q.snd = .p → q.phase = 0 → q.w 1 = w → w < 4 →
    s.rf mgmtBlk R.REEVE_STAT_STATE = 1 → s.cmnSide c = some b →
    Gives (.fwRestart c) s (fun t => (t.hbState = 2 ∨ t.hbState = 3) ∧ t.rf mgmtBlk R.CMN_RST_STAT_LAST_CAUSE = 4 ∧
      Counted (mgmtBlk + R.CMN_RESTART_CNT) 1 s t ∧ (∀ k, k < 4 → s.coreRuns k = true → t.coreState k = 5) ∧
      ((s.cmnOut c b).length ≤ 14 → t.cmdReq c = none ∧ t.cmnOut c b = s.cmnOut c b ++ respWords 12 3 q.tag 0 0 []) ∧
      ((s.cores.times.filter (fun x => decide (s.now ≤ x + 60000000000))).length < 3 → t.hbState = 2 ∧
        (natBit w 1 = true → (s.slotOf (w % 2)).valid = true → t.rf mgmtBlk R.CMN_RST_STAT_SLOT = w % 2)) ∧
      Frame [.free, .outs, .regs, .site, .pcie, .par, .host, .cores, .com] s t)) ∧
  (∀ (c : Fin 128) (p : PatchRec) (q : CmdReq) (s : State), s.Runs c 12 4 q → q.snd = .p → Passes (s.bufArg q 1) → s.rf mgmtBlk R.REEVE_STAT_STATE = 1 →
    (p.sigOk = false ∨ 32 < p.ents.length ∨ p.level.toNat ≤ s.rf mgmtBlk R.PATCH_STAT_LEVEL → Gives (.fwPatch c p .ok) s (Answered c q 18 0 [] (· = s))) ∧
    (p.sigOk = true → patchBad p.ents = false → s.rf mgmtBlk R.PATCH_STAT_LEVEL < p.level.toNat → Gives (.fwPatch c p .ok) s (Answered c q 0 0
      [BitVec.ofNat 32 p.ents.length] (fun u => u.rf mgmtBlk R.PATCH_STAT_VALID = p.ents.length ∧ u.rf mgmtBlk R.PATCH_STAT_LEVEL = p.level.toNat ∧
        (∀ i, i < 32 → p.ents.length ≤ i → u.rd (mgmtBlk + R.PATCH_ENT + 4 * i) = 0) ∧
        (∀ i e, p.ents[i]? = some e → natBit (u.rd (mgmtBlk + R.PATCH_ENT + 4 * i)).toNat 31 = true ∧
          natBits (u.rd (mgmtBlk + R.PATCH_ENT + 4 * i)).toNat 23 0 = e.word.toNat % 2 ^ 24 ∧
          natBits (u.rd (mgmtBlk + R.PATCH_ENT + 4 * i)).toNat 28 24 = e.slot.val) ∧
        (∀ i, i < 32 → tabGet (fun _ => 0) u.cores.pram i = p.ram.getD i 0) ∧ Frame [.regs, .cores] s u))))

/-- Starts (R13, R186, R484, R485, R507-R513, R515, R516, R536, R603): what each step of a start does and what stops it, in order; cold and warm starts, what begins them and what
they keep. What a brown-out and a rail out of range do to a start is the model's reading of R508, R515 and R603 (log entry 19). -/
def Obligations.StartCommands : Prop :=
  (∀ s : State, (s.cfg.gang = false ∨ s.start.target ≠ none → s.stepNo ≠ 10 ∨ s.bootWritten = true → s.nextStep = s.stepNo + 1) ∧
    (s.stepNo = 10 → s.bootWritten = false → s.nextStep = 12) ∧
    (s.cfg.gang = true → s.start.target = none → (s.stepNo = 4 → s.nextStep = 6) ∧ (s.stepNo = 7 → s.nextStep = 5) ∧ (s.stepNo = 5 → s.nextStep = 8))) ∧
  (∀ (x : StartIn) (n : Nat) (s : State), n ∈ [1, 11] → s.starts n →
    Gives (.startStepComplete x) s (fun t => (t.stepNo = n ∧ RegsBut [startBlk + R.START_STAT] s t) ∧ Frame [.regs] s t)) ∧
  (∀ (x : StartIn) (n : Nat) (s : State), n ∈ [8, 12] → s.starts n →
    Gives (.startStepComplete x) s (fun t => (t.stepNo = n ∧ RegsBut [startBlk + R.START_STAT] s t ∧
      t.start = { s.start with posture := if n = 8 ∧ s.start.warm = false then some s.mode else none }) ∧ Frame [.regs, .start] s t)) ∧
  (∀ (x : StartIn) (v : Nat) (s : State), s.starts 2 → v = lcWinner s.sec.lc →
    Gives (.startStepComplete x) s (fun t => (t.lc = v ∧ (v = 5 ∨ v = 7 → StartStopped 3 v s t) ∧ (v ≠ 5 → v ≠ 7 → t.stepNo = 2 ∧ t.start = s.start) ∧
      (s.start.warm = false → t.rf dlocBlk R.DBG_SESSION_LEVEL = baseLevel v) ∧
      t.rf secBlk R.SEC_KEY_STAT_PRESENT = natBits (s.sec.present &&& (255 ^^^ s.sec.bad)) 7 0 ∧
      RegsBeside [startBlk + R.START_STAT, secBlk + R.SEC_LC_STAT, secBlk + R.SEC_KEY_STAT, bkBlk + R.BK_STAT, dlocBlk + R.DBG_SESSION] s t) ∧
      Frame [.free, .regs, .par, .sec, .start] s t)) ∧
  (∀ (x : StartIn) (i : Nat) (s : State), s.starts 3 →
    (s.flag clkBlk (refStableF 0) = false → s.flag clkBlk (refStableF 1) = false → Gives (.startStepComplete x) s (· = s)) ∧
    (i < 2 → s.flag clkBlk (refStableF i) = true → (i = 1 → s.flag clkBlk (refStableF 0) = false) →
      Gives (.startStepComplete x) s (fun t => (t.stepNo = 3 ∧ t.rf clkBlk R.CLK_ROOT_SEL = i ∧ t.rf clkBlk R.CLK_ROOT_ACTIVE = i ∧ t.ttc = 0 ∧
        t.flag clkBlk R.CLK_REF_STAT_TTC_FREE = false ∧ RegsBut [startBlk + R.START_STAT, clkBlk + R.CLK_ROOT, clkBlk + R.CLK_REF_STAT] s t) ∧ Frame [.ttc, .regs, .clk] s t))) ∧
  (∀ s : State, s.start.run = true → s.deaf = false → s.stepNo = 2 → s.flag clkBlk (refStableF 0) = false → s.flag clkBlk (refStableF 1) = false →
    Gives .refclkWaitTimeout s (fun t => (StartStopped 2 0 s t ∧ RegsBeside [startBlk + R.START_STAT] s t) ∧ Frame [.free, .regs, .par, .start] s t)) ∧
  (∀ (x : StartIn) (s : State), s.starts 4 →
    Gives (.startStepComplete x) s (fun t => (t.stepNo = 4 ∧ (s.scrubs = true → t.par.staging = [] ∧ t.par.ring = []) ∧ (s.scrubs = false → t.par = s.par) ∧
      RegsBut [startBlk + R.START_STAT, parishBlk + R.PAR_STAGED] s t) ∧ Frame [.regs, .par] s t)) ∧
  (∀ (a : List Byte) (d : FlashDir), dirParse a = some d → a.length = 4096 ∧ leBytes (a.take 4) = 0x44495247 ∧ leBytes (a.drop 4092) = crc32 (a.take 4092) ∧
    d.seq = leBytes ((a.drop 4).take 4) ∧ d.entries.length = 32 ∧ (∀ e, e < 32 → d.entries[e]? = some ⟨leBytes ((a.drop (16 + 16 * e)).take 1),
      leBytes ((a.drop (17 + 16 * e)).take 1) % 2, leBytes ((a.drop (20 + 16 * e)).take 4), leBytes ((a.drop (24 + 16 * e)).take 4)⟩)) ∧
  (∀ (a b : Option FlashDir), (a = none → dirPick a b = b) ∧ (b = none → dirPick a b = a) ∧
    (∀ c d, a = some c → b = some d → dirPick a b = some (if c.seq < d.seq then d else c))) ∧
  (∀ (x : StartIn) (ok : Bool) (u s : State), s.starts 5 → u = { s with cfg := { s.cfg with dir := dirPick (dirParse x.dirA) (dirParse x.dirB) } } →
    ok = (x.cfgOk && u.hasArea 2) →
    (s.cfg.gang = true → (s.start.gangDone && s.bootWritten && x.gangUp) = false → Gives (.startStepComplete x) s (· = s)) ∧
    ((s.cfg.gang = true → (s.start.gangDone && s.bootWritten && x.gangUp) = true ∧ s.start.warm = false) →
      (∀ b, x.boot = some b → u.hasArea 5 = true ∨ u.hasArea 6 = true → Gives (.startStepComplete x) s (fun t =>
        t.rd (startBlk + R.START_CFG) = b &&& 0xE0000003 ∧ (s.start.warm = false → t.mode = modeOf (wordBits b 1 0)))) ∧
      (ok = false → s.lc = 2 ∨ s.lc = 3 → Gives (.startStepComplete x) s (fun t => StartStopped 4 0 s t ∧ t.sec = s.sec)) ∧
      (ok = true ∨ (s.lc ≠ 2 ∧ s.lc ≠ 3) → Gives (.startStepComplete x) s (fun t => (t.stepNo = 5 ∧ t.start.run = true ∧ t.cfg = u.cfg ∧
        t.pcie = { s.pcie with subsys := x.subsys } ∧ t.par.area = u.hasArea 9 ∧ t.start.loading = u.hasArea 1 ∧
        t.flag mbxHub R.MBX_LOCK_LOCKED = true ∧
        (s.start.warm = false → ok = true → ∀ i w, i < 128 → x.bind[i]? = some w → t.rd (mbxHub + 4 * i) = w) ∧
        (s.start.warm = true → ∀ i, i < 128 → t.rd (mbxHub + 4 * i) = s.rd (mbxHub + 4 * i)) ∧
        t.rd (bkBlk + R.BK_TAMPER0) = (if ok then x.tamper0 else 0) ∧ t.rd (bkBlk + R.BK_TAMPER1) = (if ok then x.tamper1 else 0) ∧
        t.rf bkBlk R.BK_LOG_CNT_USED = 0 ∧ t.rf bkBlk R.BK_LOG_CNT_OVF = 0 ∧
        (0 < s.rf bkBlk R.BK_LOG_CNT_USED → t.flag bkBlk R.BK_STAT_LOG_NEW = true) ∧
        (∀ p, x.patch = some p → u.hasArea 8 = true → p.sigOk = true → patchBad p.ents = false → t.rf mgmtBlk R.PATCH_STAT_LEVEL = p.level.toNat)) ∧
        Frame [.mode, .free, .regs, .pcie, .par, .cfg, .start, .cores] s t)))) ∧
  (∀ (x : StartIn) (s : State), s.starts 6 →
    (∀ g : Fin 5, x.rail = some g → Gives (.startStepComplete x) s (fun t => (StartStopped 1 g.val s t ∧ RegsBeside [startBlk + R.START_STAT] s t) ∧
      Frame [.free, .regs, .par, .start] s t)) ∧
    (x.rail = none → Gives (.startStepComplete x) s (fun t => (t.cutList = [] → t.diesDown = 0 ∧ t.stepNo = 6 ∧ t.start = s.start) ∧
      (∀ d l, t.cutList = d :: l → StartStopped 5 d s t ∧ t.diesDown = 0x1FE) ∧ (s.part.optionG = true → t.rf guestBlk R.GST_STAT_STATE = 1)))) ∧
  (∀ (x : StartIn) (s : State), s.starts 7 →
    Gives (.startStepComplete x) s (fun t => t.stepNo = 7 ∧ (s.scrubs = true → t.mem.bm = [] ∧ t.mem.gr = [] ∧ t.cap.recs = [] ∧ t.fab.design = [] ∧ t.fab.upset = []) ∧
      (s.scrubs = false → t.mem.bm = s.mem.bm ∧ t.mem.gr = s.mem.gr ∧ t.cap = s.cap) ∧
      (s.cfg.gang = false → s.start.target = none → s.start.warm = false → s.start.loading = true →
        t.cfg.groups = s.cfg.groups ++ [{ id := s.cfg.next, kind := 0, site := 0x7F, chan := 0, pass := 1 }]) ∧
      (s.cfg.gang = false → s.start.target = none → s.start.warm = false → s.start.loading = false → t.cfg = s.cfg) ∧
      (s.cfg.gang = false → s.start.target = none → s.start.warm = true → s.scrubs = false → ∀ f, f < 128 → (s.cfgRec f).isSome = true →
        (s.canReload f).isNone = true → t.cfgState f = 5 ∧ t.cfgRec f = none))) ∧
  (∀ s : State, s.start.run = true → s.deaf = false → s.cfg.gang = true → s.stepNo = 7 → s.start.gangDone = false →
    Gives .gangBootLoad s (fun t => t.start.gangDone = true ∧
      t.cfg.groups = s.cfg.groups ++ [{ id := s.cfg.next, kind := 1, site := 0x7F, chan := 0, pass := 1 }] ∧ Frame [.regs, .cfg, .start] s t)) ∧
  (∀ (x : StartIn) (u s : State), s.starts 9 → u = x.chans.foldl (fun s c => s.trainChan c) (startAdapt x.lanes s) →
    ((∀ c, c < 12 → u.ddrState c = 2) → Gives (.startStepComplete x) s (fun t => (∀ c, c < 12 → t.ddrState c = 2) ∧
      (t.cutList = [] → t.stepNo = 9 ∧ t.start = s.start) ∧ (∀ d l, t.cutList = d :: l → StartStopped 5 d s t ∧ t.diesDown = 0x1FE))) ∧
    (∀ c, c < 12 → u.ddrState c ≠ 2 → (∀ e, e < c → u.ddrState e = 2) →
      (s.flag startBlk R.START_CFG_DEGRADED_EN = false → Gives (.startStepComplete x) s (StartStopped 6 c s)) ∧
      (s.flag startBlk R.START_CFG_DEGRADED_EN = true → Gives (.startStepComplete x) s (fun t => (t.cutList = [] → t.stepNo = 9 ∧ t.start = s.start) ∧
        (∀ d l, t.cutList = d :: l → StartStopped 5 d s t ∧ t.diesDown = 0x1FE) ∧
        t.flag startBlk R.START_STAT_DEGRADED = true ∧ t.ddrState c = u.ddrState c)))) ∧
  (∀ (l : List LaneStart) (s : State), (s.start.posture = none → startAdapt l s = s) ∧ Frame [.regs] s (startAdapt l s) ∧
    (∀ y ∈ l, s.start.posture.isSome = true → (l.map (·.lane)).Nodup → (startAdapt l s).rf (laneBlk y.lane) R.LANE_RXEQ_CTLE = y.ctle.toNat ∧
      (startAdapt l s).rf (laneBlk y.lane) R.LANE_RXEQ_DFE1 = y.dfe.toNat)) ∧
  (∀ (y : ChanStart) (s : State), ((s.trainChan y).flag (ddrBlk y.c.val) R.DDR_CTRL_EN = true →
      ((s.trainChan y).ddrState y.c.val = 2 ∧ (s.trainChan y).fspOk y.c.val ((s.trainChan y).rf (ddrBlk y.c.val) R.DDR_STAT_FSP) = true) ∨
      ((s.trainChan y).ddrState y.c.val = 4 ∧ (s.trainChan y).flag (ddrBlk y.c.val) R.DDR_STAT_TRAIN_FAIL = true ∧
        ∀ f, f < 3 → (s.trainChan y).fspOk y.c.val f = false)) ∧
    (∀ c, c < 12 → c ≠ y.c.val → (s.trainChan y).ddrState c = s.ddrState c)) ∧
  (∀ (x : StartIn) (s : State), s.starts 10 →
    Gives (.startStepComplete x) s (fun t => t.stepNo = 10 ∧ t.dramList = s.trainedChans ∧
      (s.start.warm = false → t.dram.filled = [] ∧ RegsBut [startBlk + R.START_STAT, dramHub + R.DRAM_INTLV] s t ∧ Frame [.regs, .dram] s t) ∧
      (s.start.warm = true → s.trainedChans = s.start.chans → t.dram = s.dram) ∧
      (s.start.warm = true → s.trainedChans ≠ s.start.chans → t.dram.filled = [] ∧ ∀ k, k < 65 → t.encState k = 0))) ∧
  (∀ (x : StartIn) (a b : SlotSt) (s : State), s.starts 13 → a = s.slotCheck { x.slotA with ok := x.slotA.ok && s.hasArea 3 } →
    b = s.slotCheck { x.slotB with ok := x.slotB.ok && s.hasArea 4 } →
    (a.valid = false → b.valid = false → Gives (.startStepComplete x) s (fun t => StartStopped 7 0 s t ∧ RegsBeside [startBlk + R.START_STAT] s t)) ∧
    (∀ n, n < 2 → (if n = 0 then a else b).valid = true →
      ((if n = 0 then b else a).valid = true → if n = 0 then b.seq ≤ a.seq else a.seq < b.seq) →
      Gives (.startStepComplete x) s (fun t => t.stepNo = 13 ∧ t.rf mgmtBlk R.CMN_RST_STAT_SLOT = n ∧ t.cores.slotA = a ∧ t.cores.slotB = b ∧
        (∀ k, k < 4 → t.coreState k = if s.flag dbgBlk R.DBG_BOOT_HOLD_COMMONS then 3 else 1) ∧
        (s.flag dbgBlk R.DBG_BOOT_HOLD_COMMONS = false → t.hbState = 1) ∧
        (s.start.warm = false → s.start.loading = false → s.cfg.gang = false → t.cfg = { s.cfg with confDone := true, confErrN := true })))) ∧
  (∀ (x : StartIn) (s : State), s.starts 14 →
    (s.bootWritten = false → Gives (.startStepComplete x) s (· = s)) ∧
    (s.bootWritten = true → (s.cfg.groups.map (·.id)).Nodup → Gives (.startStepComplete x) s (fun t => t.stepNo = 14 ∧ t.flag startBlk R.START_STAT_DONE = true ∧ t.start.run = false ∧
      (∀ g ∈ s.cfg.groups, g.kind = 0 ∨ g.kind = 1 ∨ g.kind = 6 → g.pass = 4 → g.done ≠ [] →
        { g with pass := 3, step := 0, since := s.ttc } ∈ t.cfg.groups) ∧
      Frame [.free, .regs, .par, .cfg, .start] s t)))

/-- What begins a start, and what a start keeps (R507, R508, R511, R515, R518, R523, R603): RESET_N and the retention step, START_CMD, power-on,
brown-out, rails out of range. That a brown-out lasts until POWER_ON is the model's reading (log entry 19). -/
def Obligations.StartsBegin : Prop :=
  (∀ s : State, s.start.pinLow = false → s.start.hold = false → s.start.ret = false →
    (s.clk.safe = false → Gives .resetNFall s (fun t => (t.start.pinLow = true ∧ t.start.ret = true ∧ t.start.hold = false ∧
      t.start.cause = (if s.start.trip then s.start.cause else 1) ∧ RegsBeside [] s t) ∧ Frame [.regs, .par, .start] s t)) ∧
    (s.clk.safe = true → Gives .resetNFall s (fun t => (t.start.pinLow = true ∧ t.start.ret = false ∧ t.start.hold = true ∧ t.start.run = false ∧
      t.diesDown = 0x1FE ∧ t.start.cause = (if s.start.trip then s.start.cause else 1) ∧ RegsBut [] s t) ∧ Frame [.free, .diesDown, .cap, .sec, .start] s t))) ∧
  (∀ s : State, s.start.ret = true → s.start.pinLow = true → s.start.target ≠ some 4 →
    Gives .retentionDone s (fun t => (t.start.hold = true ∧ t.start.ret = false ∧ t.start.run = false ∧ t.diesDown = 0x1FE ∧
      (∀ c, c < 12 → (t.ddr c).q0 = [] ∧ (t.ddr c).q1 = []) ∧ RegsBut [] s t) ∧ Frame [.free, .diesDown, .cap, .dram, .sec, .start] s t)) ∧
  (∀ s : State, s.start.ret = true → s.start.target = some 4 →
    Gives .retentionDone s (fun t => t.start.hold = true ∧ t.start.ret = false ∧ t.pwrState = 4 ∧ t.start.cause = 0 ∧ t.start.target = none ∧
      (∀ c, c < 12 → (t.ddr c).q0 = [] ∧ (t.ddr c).q1 = []) ∧ Frame [.free, .diesDown, .cap, .dram, .regs, .sec, .start] s t)) ∧
  (∀ s : State, s.start.hold = false ∨ s.start.cause = 0 ∨ s.pwrState = 4 →
    Gives .resetNRise s (fun t => t = { s with start := { s.start with pinLow := false } })) ∧
  (∀ s : State, s.start.hold = true → s.pwrState ≠ 4 → (s.start.cause = 1 ∨ s.start.cause = 3 ∨ s.start.cause = 4 ∨ s.start.cause = 5) →
    (((s.start.cause ≠ 1 ∧ s.start.cause ≠ 3) ∨ s.flag startBlk R.START_CFG_WARM_EN = false ∨ s.start.railBad = true ∨ s.start.trip = true) →
      Gives .resetNRise s (fun t => Begun false s.start.cause s t ∧ ColdLeaves s t ∧ (t.flag startBlk R.START_CAUSE_WARM_DENIED = true ↔ s.start.cause = 3) ∧
        t.rf startBlk R.START_STAT_CODE = (if s.start.cause = 4 then 8 else 0) ∧ t.pending = s.pending ∧ t.part = s.part ∧ t.outs = s.outs)) ∧
    ((s.start.cause = 1 ∨ s.start.cause = 3) → s.flag startBlk R.START_CFG_WARM_EN = true → s.start.railBad = false → s.start.trip = false →
      Gives .resetNRise s (fun t => Begun true s.start.cause s t ∧ t.mode = s.mode ∧ t.flag startBlk R.START_CAUSE_WARM_DENIED = false ∧
        (∀ k, coldKept k = true → t.rd k = s.rd k) ∧
        (∀ f, f < 128 → t.rd (ownBlk + 4 * f) = s.rd (ownBlk + 4 * f) ∧ t.cfgRec f = s.cfgRec f ∧
          t.rf (fieldPage f) R.CFG_FSTAT_SRC = s.rf (fieldPage f) R.CFG_FSTAT_SRC ∧ t.cfgState f = 0 ∧ t.rd (fieldPage f + R.CFG_FIMG) = s.rd (fieldPage f + R.CFG_FIMG)) ∧
        (∀ g, g < 3072 → t.dramOwner g = s.dramOwner g) ∧ t.dram.lines = s.dram.lines ∧ t.dram.filled = s.dram.filled ∧
        (∀ n, n < 64 → t.siteState n = if s.siteState n = 2 then 1 else s.siteState n) ∧
        (∀ n, n < 65 → t.encState n = min (s.encState n) 1) ∧ t.mem.bm = s.mem.bm ∧ t.mem.gr = s.mem.gr ∧ t.cap.recs = s.cap.recs ∧
        t.par.staging = s.par.staging ∧ t.par.ring = s.par.ring ∧ t.par.flash = s.par.flash ∧ t.ledger = s.ledger ∧ t.sec.lc = s.lcTorn.sec.lc ∧
        t.start.chans = s.dramList ∧ t.cores = {} ∧ t.cfg.groups = [] ∧ t.ring = {} ∧ t.gpio = []))) ∧
  (∀ (r : Req) (v : Word) (s : State), s.Allows r (startBlk + R.START_CMD) true →
    (natBits v.toNat 1 0 = 1 → Gives (.startCmdCold r v) s (fun t => Begun false 2 s t ∧ ColdLeaves s t ∧
      t.flag startBlk R.START_CAUSE_WARM_DENIED = false ∧ t.outs = .rsp r .ok [] :: s.outs)) ∧
    (natBits v.toNat 1 0 = 2 → s.start.ret = false → Gives (.startCmdWarm r v) s (fun t => t.start.ret = true ∧ t.start.hold = false ∧
      t.start.cause = (if s.start.trip then s.start.cause else 3) ∧ t.outs = .rsp r .ok [] :: s.outs ∧ RegsBeside [] s t ∧ Frame [.outs, .regs, .par, .start] s t)) ∧
    (natBits v.toNat 1 0 = 3 ∨ natBits v.toNat 1 0 = 0 → Gives (.startCmdCold r v) s (fun t => t = s.answer r (startBlk + R.START_CMD) .ok []) ∧
      Gives (.startCmdWarm r v) s (fun t => t = s.answer r (startBlk + R.START_CMD) .ok []))) ∧
  (∀ (vbat gang : Bool) (id : Fin 16) (boot : Word) (s : State),
    Gives (.powerOn vbat gang id boot) s (fun t => Begun false 0 { s with start := { s.start with boot := boot } } t ∧ t.cfg = { gang := gang, gangId := id.val } ∧
      t.mode = modeOf (wordBits boot 1 0) ∧ t.flag bkBlk R.BK_STAT_VBAT_OK = vbat ∧ t.flag startBlk R.START_CAUSE_WARM_DENIED = false ∧
      (∀ k, coldKept k = true → k ≠ bkBlk + R.BK_STAT → t.rd k = s.rd k) ∧ (∀ k, coldKept k = false → k ∉ startRegKeys → t.rd k = regReset k) ∧
      t.mem = {} ∧ t.dram = {} ∧ t.par.flash = s.par.flash ∧ t.ledger = s.ledger ∧ t.rtc = s.rtc ∧ t.pending = s.pending ∧ t.outs = s.outs)) ∧
  (∀ s : State, Gives .brownOut s (fun t => (t.start.hold = true ∧ t.start.cause = 0 ∧ t.start.railBad = true ∧ t.start.run = false ∧ t.diesDown = 0x1FE ∧
    RegsBut [] s t) ∧ Frame [.free, .diesDown, .cap, .sec, .start] s t)) ∧
  (∀ (g : Fin 5) (s : State), s.start.hold = false → g.val ≠ 0 →
    (3 ≤ g.val → 6 ≤ s.stepNo → s.clk.safe = false → Gives (.railOutOfRange g) s (fun t => t.clk.safe = true ∧ t.start.trip = true ∧ t.start.cause = 5 ∧
      t.start.railBad = true ∧ (∀ c, c < 12 → (t.ddr c).q0 = [] ∧ (t.ddr c).q1 = []) ∧ Frame [.outs, .llp, .clk, .dram, .start] s t)) ∧
    (g.val < 3 ∨ s.stepNo < 6 ∨ s.clk.safe = true → Gives (.railOutOfRange g) s (fun t => t = { s with start := { s.start with railBad := true } })))

/-- Power states, the power cap, temperature, power failure and the sensors' samples (R517, R518, R521-R523, R525, R527-R529): what PWR_CMD refuses and
begins, what a state holds once entered, S_CAP against the measured power, the warning and the trip, and what a sample is. That the first visit of a
converter counts as a switch is the model's choice (log entry 19). Beside them what each command of the clocks leaves in its own register where it
completes (R535, R540, R542, R543-R546, R548). -/
def Obligations.PowerCommands : Prop :=
  (∀ (r : Req) (v : Word) (n c : Nat) (s : State), s.Allows r (startBlk + R.PWR_CMD) true → n = natBits v.toNat 2 0 → c = s.pwrState →
    (¬ ((c = 0 ∧ 1 ≤ n ∧ n ≤ 4) ∨ (1 ≤ c ∧ c ≤ 3 ∧ n = 0)) ∨ s.start.run = true ∨ s.start.ret = true ∨ s.start.mode ≠ none ∨ s.start.target ≠ none ∨
        (∃ i, i < 64 ∧ s.siteState i = 2) ∨ (n = 3 ∧ ∃ i, i < 64 ∧ s.siteState i ≠ 0) →
      Gives (.pwrCmd r v) s (fun t => (t.flag startBlk R.PWR_STAT_STATE_REFUSED = true ∧ t.outs = .rsp r .ok [] :: s.outs ∧
        RegsBut [startBlk + R.PWR_STAT] s t) ∧ Frame [.outs, .regs] s t)) ∧
    (s.start.run = false → s.start.ret = false → s.start.mode = none → s.start.target = none → (∀ i, i < 64 → s.siteState i ≠ 2) →
      ((c = 0 ∧ (n = 1 ∨ n = 2 ∨ (n = 3 ∧ ∀ i, i < 64 → s.siteState i = 0))) ∨ ((c = 1 ∨ c = 2) ∧ n = 0) →
        Gives (.pwrCmd r v) s (fun t => (t.start = { s.start with target := some n } ∧ t.outs = .rsp r .ok [] :: s.outs ∧ RegsBut [] s t) ∧
          Frame [.outs, .start] s t)) ∧
      (c = 0 → n = 4 → Gives (.pwrCmd r v) s (fun t => (t.start.target = some 4 ∧ t.start.ret = true ∧ t.outs = .rsp r .ok [] :: s.outs ∧ RegsBeside [] s t) ∧
        Frame [.outs, .regs, .par, .start] s t)) ∧
      (c = 3 → n = 0 → Gives (.pwrCmd r v) s (fun t => (t.start.target = some 0 ∧ t.start.run = true ∧ t.start.warm = false ∧ t.stepNo = 5 ∧
        RegsBut [startBlk + R.START_STAT] s t) ∧ Frame [.outs, .regs, .start] s t)))) ∧
  (∀ (n : Nat) (s : State), s.deaf = false → s.start.ret = false → s.start.target = some n →
    (n = 1 ∨ n = 2 → Gives .powerStateChangeDone s (fun t => (t.pwrState = n ∧ t.start = { s.start with target := none } ∧
      (n = 1 → Reported (locator 0 0) 0x00A4 n s.liveSites s t) ∧ (n = 2 → ∃ u : State, Reported (locator 0 0) 0x00A4 n s.liveSites s u ∧
        u.par.reports <+: t.par.reports) ∧
      (∀ f, f < 128 → t.flag (fieldPage f) R.FCK_STAT_LOCKED = false ∧ t.rf (fieldPage f) R.FCK_STAT_CK_ON = 0) ∧
      (n = 1 → RegsBeside ((startBlk + R.PWR_STATE) :: fckStats) s t ∧ t.dram = s.dram) ∧
      (n = 2 → (∀ c, c < 12 → (t.ddr c).q0 = [] ∧ (t.ddr c).q1 = []) ∧
        ∀ l, l < 512 → t.laneState l = 0 ∧ t.flag (laneBlk l) R.LANE_CTRL_EN = s.flag (laneBlk l) R.LANE_CTRL_EN)) ∧
      Frame [.free, .outs, .regs, .site, .pcie, .par, .ring, .llp, .cap, .dram, .start] s t)) ∧
    (n = 3 → Gives .powerStateChangeDone s (fun t => t.pwrState = 3 ∧ t.start = { s.start with target := none } ∧
      Reported (locator 0 0) 0x00A4 3 s.liveSites s t ∧ t.fab = {} ∧ t.mem = {} ∧ t.llp = {} ∧ t.cap = {} ∧ t.mill = {} ∧ t.gpio = [] ∧ t.dram = {} ∧
      t.cfg.recs = [] ∧ t.diesDown = 0x1FE ∧ (∀ k, 0x1000000 ≤ k → k < 0x9000000 → t.rd k = regReset k) ∧ (∀ k, k < 65 → t.encState k = 0))) ∧
    (n = 0 → s.pwrState = 1 ∨ s.pwrState = 2 → Gives .powerStateChangeDone s (fun t => t.pwrState = 0 ∧ t.start = { s.start with target := none } ∧
      (∃ u : State, Reported (locator 0 0) 0x00A4 0 s.liveSites s u ∧ u.par.reports <+: t.par.reports) ∧
      (∀ f, f < 128 → (s.frt f).configured = true → (s.frt f).pend = none → t.flag (fieldPage f) R.FCK_STAT_LOCKED = true ∧
        (s.flag (fieldPage f) R.FCK_STAT_HALTED = false → t.rf (fieldPage f) R.FCK_STAT_CK_ON = (s.frt f).ckEn % 16)) ∧
      (s.pwrState = 2 → ∀ l, l < 512 → s.flag (laneBlk l) R.LANE_CTRL_EN = true →
        t.laneState l = if s.refFallback then 7 else if s.flag (laneBlk l) R.LANE_STAT_SIG_DET then 2 else 1))) ∧
    (n = 0 → s.pwrState = 3 → (s.stepNo < 12 → Gives .powerStateChangeDone s (· = s)) ∧
      (12 ≤ s.stepNo → Gives .powerStateChangeDone s (fun t => (t.pwrState = 0 ∧ t.start = { s.start with target := none, run := false } ∧
        Reported (locator 0 0) 0x00A4 0 s.liveSites s t ∧ RegsBut [startBlk + R.PWR_STATE] s t) ∧ Frame [.free, .regs, .par, .start] s t)))) ∧
  (∀ (mw : Word) (cap n : Nat) (s : State), s.deaf = false → cap = 1000 * s.rf startBlk R.PWR_CAP_CAP_W → n = s.rf startBlk R.PWR_CAP_S_CAP →
    Gives (.powerCapTick mw) s (fun t => (t.rd (startBlk + R.PWR_MEAS) = mw ∧
      (s.start.hot = true → t.rf startBlk R.PWR_CAP_S_CAP = n) ∧
      (s.start.hot = false → cap < mw.toNat → t.rf startBlk R.PWR_CAP_S_CAP = min 32 (n + 1) ∧ Stretched t) ∧
      (s.start.hot = false → mw.toNat * 100 < 98 * cap → (s.start.low < 9 → t.rf startBlk R.PWR_CAP_S_CAP = n ∧ t.start.low = s.start.low + 1) ∧
        (9 ≤ s.start.low → t.rf startBlk R.PWR_CAP_S_CAP = n - 1 ∧ t.start.low = 0 ∧ Stretched t)) ∧
      (mw.toNat ≤ cap → 98 * cap ≤ mw.toNat * 100 → t.rf startBlk R.PWR_CAP_S_CAP = n ∧ t.start.low = 0 ∧ t.start.above = 0) ∧
      RegsBeside ([startBlk + R.PWR_MEAS, startBlk + R.PWR_CAP] ++ fckStats) s t) ∧ Frame [.outs, .regs, .site, .pcie, .start] s t)) ∧
  (∀ s : State, s.deaf = false → 100 ≤ s.start.above → Gives .capLimit s (fun t => (t.flag startBlk R.PWR_STAT_CAP_LIMIT = true ∧
    Reported (locator 0 0) 0x00A2 (s.rd (startBlk + R.PWR_MEAS)).toNat s.liveSites s t ∧ t.start.above = 0 ∧
    RegsBeside [startBlk + R.PWR_STAT] s t) ∧ Frame [.free, .regs, .par, .start] s t)) ∧
  (∀ s : State, (∀ n, n < 96 → s.tempOf n ≤ s.junction.2) ∧ s.junction.1 < 96 ∧ s.junction.2 = s.tempOf s.junction.1) ∧
  (∀ s : State, s.deaf = false → s.start.hot = false → 105 * 128 ≤ s.junction.2 → Gives .thermWarn s (fun t => (t.flag startBlk R.PWR_STAT_THERM_WARN = true ∧
    t.rf startBlk R.PWR_CAP_S_CAP = 32 ∧ t.start = { s.start with hot := true } ∧ Stretched t ∧ Reported (locator 0 0) 0x00A0 s.junctionData s.liveSites s t ∧
    RegsBeside ([startBlk + R.PWR_STAT, startBlk + R.PWR_CAP] ++ fckStats) s t) ∧ Frame [.free, .outs, .regs, .site, .pcie, .par, .start] s t)) ∧
  (∀ s : State, s.deaf = false → 115 * 128 ≤ s.junction.2 → Gives .thermTrip s (fun t => (t.clk.safe = true ∧ t.start = { s.start with trip := true, cause := 4 } ∧
    (∀ c, c < 12 → (t.ddr c).q0 = [] ∧ (t.ddr c).q1 = []) ∧ ((s.par.area = true → s.par.scanned = true) → t.par.staging = []) ∧ RegsBeside [] s t) ∧
    Frame [.free, .outs, .regs, .par, .llp, .clk, .dram, .start] s t)) ∧
  (∀ s : State, s.deaf = false → s.start.pf = false → Gives .pwrFailFall s (fun t => (t.flag startBlk R.PWR_STAT_PWR_FAIL = true ∧
    t.start = { s.start with pf := true } ∧ Reported (locator 0 0) 0x00A3 (s.rd (startBlk + R.PWR_MEAS)).toNat 0 s t ∧
    ((s.par.area = true → s.par.scanned = true) → t.par.staging = []) ∧ RegsBeside [startBlk + R.PWR_STAT] s t) ∧ Frame [.free, .regs, .par, .start] s t)) ∧
  (∀ s : State, Gives .pwrFailRise s (fun t => t = { s with start := { s.start with pf := false } })) ∧
  (∀ (k : Nat) (s : State), (∀ x, s.convVisit k = some x → x.chan ∈ s.convChans k ∧
      (x.chan ≠ (s.conv k).chan → x.settle = (if (s.conv k).chan < 148 ∧ (s.conv k).gain ≠ x.gain then 4 else 3) ∧
        x.gain = s.monCh x.chan R.MON_CH_GAIN ∧ x.dwell = s.rf (monBlk + 0x10 * k) R.MON_CONV_DWELL)) ∧
    (∀ n, n ∈ s.convChans k → (s.conv k).settle = 0 → (s.conv k).dwell = 0 → (s.conv k).chan < n → (s.conv k).chan < 148 →
      (∀ m ∈ s.convChans k, (s.conv k).chan < m → n ≤ m) → ∃ x, s.convVisit k = some x ∧ x.chan = n)) ∧
  (∀ (k : Fin 4) (v : BitVec 17) (satur : Bool) (x : ConvSt) (n : Nat) (s : State), s.deaf = false → s.convVisit k.val = some x → n = x.chan →
    tabGet (fun _ => 0) s.start.seq n < 64 →
    Gives (.sensorSample k v satur) s (fun t => ∃ w : Word, t.rd (monBlk + R.MON_SMP + 4 * n) = w ∧ wordBits w 23 16 = n ∧
      wordBits w 29 24 = tabGet (fun _ => 0) s.start.seq n ∧ tabGet (fun _ => 0) t.start.seq n = (wordBits w 29 24 + 1) % 64 ∧
      (0 < x.settle → wordBits w 31 30 = 1 ∧ (t.conv k.val).settle = x.settle - 1) ∧
      (x.settle = 0 → (t.conv k.val).dwell = x.dwell - 1 ∧
        wordBits w 31 30 = if satur ∨ (if 96 ≤ n ∧ n < 144 then v.toInt < 0 else v.toInt < -32768 ∨ 32767 < v.toInt) then 2 else 0) ∧
      (satur = false → -32768 ≤ v.toInt → v.toInt ≤ 32767 → (96 ≤ n → n < 144 → 0 ≤ v.toInt) → wordBits w 15 0 = (v.toInt % 65536).toNat) ∧
      (n < 96 ∨ 144 ≤ n → satur = true ∨ v.toInt < -32768 ∨ 32767 < v.toInt → wordBits w 15 0 = if 0 ≤ v.toInt then 0x7FFF else 0x8000) ∧
      (t.start.hot = true → s.start.hot = true ∧ 100 * 128 ≤ t.junction.2) ∧
      RegsBut [monBlk + R.MON_SMP + 4 * n, monBlk + R.MON_CONV + 0x10 * k.val] s t ∧ Frame [.regs, .start] s t)) ∧
  (∀ (j : Fin 2) (n : BitVec 20) (s : State), s.clk.dead = false → Gives (.refJudgeWindow j n) s (fun t => (t.refWin j.val).head? = some n.toNat)) ∧
  (∀ (j : Fin 2) (s : State), s.refMonitored j.val = true → Gives (.refLoss j) s (fun t => t.flag clkBlk (refStableF j.val) = false ∧
    t.flag clkBlk (if j = 0 then R.CLK_REF_STAT_A_LOSS else R.CLK_REF_STAT_B_LOSS) = true)) ∧
  (∀ (j : Fin 2) (n : BitVec 17) (s : State), s.refMonitored j.val = true → Gives (.refDevWindow j n) s (fun t => t.rf clkBlk (refCntF j.val) = n.toNat)) ∧
  (∀ (r : Req) (v : Word) (s : State), s.Allows r (clkBlk + R.CLK_ROOT) true → Gives (.clkRootWrite r v) s (fun t =>
    (isReeve r = true → natBits v.toNat 31 30 < 2 → s.flag clkBlk (refStableF (natBits v.toNat 31 30)) = true → s.clk.dead = false →
      s.flag clkBlk R.CLK_ROOT_SWITCHING = false → t.rf clkBlk R.CLK_ROOT_SEL = natBits v.toNat 31 30))) ∧
  (∀ s : State, s.flag clkBlk R.CLK_ROOT_SWITCHING = true → Gives .clockSwitchDone s (fun t => t.flag clkBlk R.CLK_ROOT_SWITCHING = false ∧
    t.rf clkBlk R.CLK_ROOT_ACTIVE = s.rf clkBlk R.CLK_ROOT_SEL)) ∧
  (∀ s : State, s.rf clkBlk R.CLK_ROOT_ACTIVE < 2 → Gives .intFail s (fun t => t.flag clkBlk R.CLK_REF_STAT_INT_FAIL = true ∧ t.clk.dead = true)) ∧
  (∀ s : State, Gives .rootStop s (fun t => t.deaf = true ∧ t.ttcRuns = false)) ∧
  (∀ (r : Req) (n : Fin 36) (v : Word) (s : State), s.Allows r (clkBlk + R.CLK_GATE + 4 * n.val) true → 16 ≤ n.val → natBit v.toNat 31 = true →
    s.flag (clkBlk + 4 * nodeParent n.val) R.CLK_GATE_ON = true → Gives (.clkGateWrite r n v) s (fun t => t.flag (clkBlk + 4 * n.val) R.CLK_GATE_ON = true)) ∧
  (∀ (n : Fin 36) (s : State), s.flag (clkBlk + 4 * n.val) R.CLK_GATE_ON = true → Gives (.clkGateReady n) s (fun t =>
    t.flag (clkBlk + 4 * n.val) R.CLK_GATE_READY = true)) ∧
  (∀ (r : Req) (v : Word) (s : State), s.Allows r (clkBlk + R.CLKMON_CTRL) true → isCommons r = true ∨ isPf r = true → natBits v.toNat 27 24 = 3 →
    natBit v.toNat 31 = false → Gives (.clkmonCtrlWrite r v) s (fun t => natBits (t.rd (clkBlk + R.CLKMON_CTRL)).toNat 27 24 = 3)) ∧
  (∀ (die : Fin 9) (s : State), die.val ≠ 0 → s.dieDown die.val = false → Gives (.ttcSyncMeasure die) s (fun t =>
    natBit (t.rd (clkBlk + R.TTC_SYNC)).toNat die.val = true))

/-- The FIFOs of the sensors' converters (R530): 256 samples each; MON_FIFO pops the oldest; a sample that finds its FIFO full is counted, whatever its tag. -/
def Obligations.SensorFifos : Prop :=
  (∀ (k : Fin 4) (v : BitVec 17) (satur : Bool) (x : ConvSt) (s : State), s.deaf = false → s.convVisit k.val = some x →
    ((s.conv k.val).fifo.length < 256 → Gives (.sensorSample k v satur) s (fun t =>
      (t.conv k.val).fifo = (s.conv k.val).fifo ++ [t.rd (monBlk + R.MON_SMP + 4 * x.chan)] ∧
      t.rf (monBlk + 0x10 * k.val) R.MON_CONV_OVF_CNT = s.rf (monBlk + 0x10 * k.val) R.MON_CONV_OVF_CNT ∧
      t.rf (monBlk + 0x10 * k.val) R.MON_CONV_LEVEL = min 255 ((s.conv k.val).fifo.length + 1) ∧
      ∀ j, j ≠ k.val → t.conv j = s.conv j)) ∧
    (256 ≤ (s.conv k.val).fifo.length → Gives (.sensorSample k v satur) s (fun t => (t.conv k.val).fifo = (s.conv k.val).fifo ∧
      t.rf (monBlk + 0x10 * k.val) R.MON_CONV_OVF_CNT = min 255 (s.rf (monBlk + 0x10 * k.val) R.MON_CONV_OVF_CNT + 1) ∧
      ∀ j, j ≠ k.val → t.conv j = s.conv j))) ∧
  (∀ (r : Req) (k : Fin 4) (w : Word) (l : List Word) (s : State), s.Allows r (monBlk + R.MON_FIFO + 0x10 * k.val) false →
    ((s.conv k.val).fifo = w :: l → Gives (.monFifoPop r k) s (fun t => t.outs = .rsp r .ok [w] :: s.outs ∧ t.conv k.val = { s.conv k.val with fifo := l } ∧
      (∀ j, j ≠ k.val → t.conv j = s.conv j) ∧ t.rf (monBlk + 0x10 * k.val) R.MON_CONV_LEVEL = min 255 l.length ∧
      t.rf (monBlk + 0x10 * k.val) R.MON_CONV_OVF_CNT = s.rf (monBlk + 0x10 * k.val) R.MON_CONV_OVF_CNT ∧
      RegsBut [monBlk + R.MON_CONV + 0x10 * k.val] s t ∧ Frame [.outs, .regs, .start] s t)) ∧
    ((s.conv k.val).fifo = [] → Gives (.monFifoPop r k) s (fun t => t.outs = .rsp r .ok [0] :: s.outs ∧ RegsBut [] s t ∧ Frame [.outs] s t)))

/-- Clocks (R533, R535, R538, R540-R546, R548): the judgement of a reference, its monitor and the fallback to INT, the root's switches, the stop of
INT and of the root, gates, CLKMON, and the copies of the test time counter. -/
def Obligations.ClockCommands : Prop :=
  (∀ e ∈ classBounds, ∀ n : Nat, e.2.1 * 3 * 65536 < n * 2000 → n * 2000 < e.2.2 * 3 * 65536 → refClass n = e.1) ∧
  (∀ n : Nat, n * 2000 < 895 * 3 * 65536 ∨ 4472 * 3 * 65536 < n * 2000 → refClass n = 0) ∧
  (∀ (j : Fin 2) (n : BitVec 20) (s : State), s.clk.dead = false →
    ((s.refWin j.val).length < 2 → Gives (.refJudgeWindow j n) s (fun t => t.refWin j.val = n.toNat :: s.refWin j.val ∧ t.refWin (1 - j.val) = s.refWin (1 - j.val) ∧
      RegsBut [] s t ∧ Frame [.clk] s t)) ∧
    (∀ b c lo hi : Nat, s.refWin j.val = [b, c] → lo = min n.toNat (min b c) → hi = max n.toNat (max b c) →
      ((hi - lo) * 1000 ≤ lo → refClass (n.toNat + b + c) ≠ 0 → Gives (.refJudgeWindow j n) s (fun t => (t.flag clkBlk (refStableF j.val) = true ∧
        t.rf clkBlk (refClassF j.val) = refClass (n.toNat + b + c) ∧
        t.rf clkBlk (refBaseF j.val) = (if s.flag clkBlk (refStableF j.val) then s.rf clkBlk (refBaseF j.val) else (n.toNat + b + c) / 24) ∧
        t.refWin j.val = [n.toNat, b] ∧ RegsBut [clkBlk + R.CLK_REF_STAT, clkBlk + (refBaseF j.val).ofs] s t) ∧ Frame [.regs, .clk] s t)) ∧
      (lo < (hi - lo) * 1000 ∨ refClass (n.toNat + b + c) = 0 → Gives (.refJudgeWindow j n) s (fun t => (t.flag clkBlk (refStableF j.val) = false ∧
        t.rf clkBlk (refClassF j.val) = s.rf clkBlk (refClassF j.val) ∧ t.refWin j.val = [n.toNat, b] ∧ RegsBut [clkBlk + R.CLK_REF_STAT] s t) ∧
        Frame [.regs, .clk] s t)))) ∧
  (∀ (j : Fin 2) (s : State), s.refMonitored j.val = true → s.pcie.numVfs ≤ 64 →
    (s.rf clkBlk R.CLK_ROOT_SEL = j.val → Gives (.refLoss j) s (fun t => t.flag clkBlk (if j = 0 then R.CLK_REF_STAT_A_LOSS else R.CLK_REF_STAT_B_LOSS) = true ∧
      t.flag clkBlk (refStableF j.val) = false ∧ t.refWin j.val = [] ∧ FellBack true j.val s t)) ∧
    (s.rf clkBlk R.CLK_ROOT_SEL ≠ j.val → Gives (.refLoss j) s (fun t =>
      (t.flag clkBlk (if j = 0 then R.CLK_REF_STAT_A_LOSS else R.CLK_REF_STAT_B_LOSS) = true ∧ t.flag clkBlk (refStableF j.val) = false ∧ t.refWin j.val = [] ∧
        Reported (locator 1 j.val) 0x0041 (t.rd (clkBlk + R.CLK_REF_STAT)).toNat 0 s t ∧ RegsBut [clkBlk + R.CLK_REF_STAT] s t) ∧
      Frame [.free, .regs, .par, .clk] s t))) ∧
  (∀ (j : Fin 2) (n : BitVec 17) (base dev : Nat) (s : State), s.refMonitored j.val = true → s.pcie.numVfs ≤ 64 → base = s.rf clkBlk (refBaseF j.val) →
    dev = max n.toNat base - min n.toNat base →
    (dev * 1000 ≤ s.rf clkBlk R.CLK_MON_CFG_DEV * base → Gives (.refDevWindow j n) s (fun t => (t.rf clkBlk (refCntF j.val) = n.toNat ∧
      RegsBut [clkBlk + (refCntF j.val).ofs] s t) ∧ Frame [.regs] s t)) ∧
    (s.rf clkBlk R.CLK_MON_CFG_DEV * base < dev * 1000 → Gives (.refDevWindow j n) s (fun t => t.rf clkBlk (refCntF j.val) = n.toNat ∧
      t.flag clkBlk (if j = 0 then R.CLK_REF_STAT_A_DEV else R.CLK_REF_STAT_B_DEV) = true ∧ t.flag clkBlk (refStableF j.val) = false ∧ t.refWin j.val = [] ∧
      (s.rf clkBlk R.CLK_ROOT_SEL = j.val → FellBack true j.val s t) ∧
      (s.rf clkBlk R.CLK_ROOT_SEL ≠ j.val → Reported (locator 1 j.val) 0x0041 (t.rd (clkBlk + R.CLK_REF_STAT)).toNat 0 s t ∧
        RegsBut [clkBlk + R.CLK_REF_STAT, clkBlk + (refCntF j.val).ofs] s t ∧ Frame [.free, .regs, .par, .clk] s t)))) ∧
  (∀ (r : Req) (v : Word) (sel act : Nat) (s : State), s.Allows r (clkBlk + R.CLK_ROOT) true → sel = natBits v.toNat 31 30 → act = s.rf clkBlk R.CLK_ROOT_SEL →
    (isReeve r = false ∨ sel = act → Gives (.clkRootWrite r v) s (fun t => (t.rd (clkBlk + R.CLK_ROOT) = s.rd (clkBlk + R.CLK_ROOT) &&& ~~~(v &&& 6) ∧
      t.outs = .rsp r .ok [] :: s.outs ∧ RegsBut [clkBlk + R.CLK_ROOT] s t) ∧ Frame [.outs, .regs] s t)) ∧
    (isReeve r = true → sel ≠ act →
      (sel = 3 ∨ s.clk.dead = true ∨ (sel < 2 ∧ s.flag clkBlk (refStableF sel) = false) → Gives (.clkRootWrite r v) s (fun t =>
        (t.flag clkBlk R.CLK_ROOT_SEL_REFUSED = true ∧ t.rf clkBlk R.CLK_ROOT_SEL = act ∧
          t.flag clkBlk R.CLK_ROOT_SWITCHING = s.flag clkBlk R.CLK_ROOT_SWITCHING ∧ RegsBut [clkBlk + R.CLK_ROOT] s t) ∧ Frame [.outs, .regs] s t)) ∧
      (s.clk.dead = false → sel = 2 ∨ (sel < 2 ∧ s.flag clkBlk (refStableF sel) = true) →
        (s.flag clkBlk R.CLK_ROOT_SWITCHING = true → Gives (.clkRootWrite r v) s (fun t => (t.flag clkBlk R.CLK_ROOT_SWITCH_IGNORED = true ∧
          t.rf clkBlk R.CLK_ROOT_SEL = act ∧ RegsBut [clkBlk + R.CLK_ROOT] s t) ∧ Frame [.outs, .regs] s t)) ∧
        (s.flag clkBlk R.CLK_ROOT_SWITCHING = false → sel = 2 → s.pcie.numVfs ≤ 64 → Gives (.clkRootWrite r v) s (FellBack false act s)) ∧
        (s.flag clkBlk R.CLK_ROOT_SWITCHING = false → sel < 2 → Gives (.clkRootWrite r v) s (fun t => (t.rf clkBlk R.CLK_ROOT_SEL = sel ∧
          t.flag clkBlk R.CLK_ROOT_SWITCHING = true ∧ t.rf clkBlk R.CLK_ROOT_ACTIVE = s.rf clkBlk R.CLK_ROOT_ACTIVE ∧
          RegsBut [clkBlk + R.CLK_ROOT] s t) ∧ Frame [.outs, .regs] s t))))) ∧
  (∀ (sel : Nat) (s : State), s.flag clkBlk R.CLK_ROOT_SWITCHING = true → sel = s.rf clkBlk R.CLK_ROOT_SEL →
    Gives .clockSwitchDone s (fun t => (t.rf clkBlk R.CLK_ROOT_ACTIVE = sel ∧ t.rf clkBlk R.CLK_ROOT_SEL = sel ∧ t.flag clkBlk R.CLK_ROOT_SWITCHING = false ∧
      (sel < 2 → t.flag clkBlk R.CLK_REF_STAT_TTC_FREE = false ∧ t.clk.fb = false ∧ Stretched t) ∧
      (2 ≤ sel → t.clk = s.clk ∧ RegsBut [clkBlk + R.CLK_ROOT] s t) ∧
      RegsBeside ([clkBlk + R.CLK_ROOT, clkBlk + R.CLK_REF_STAT] ++ fckStats) s t) ∧ Frame [.outs, .regs, .site, .pcie, .clk] s t)) ∧
  (∀ s : State, s.rf clkBlk R.CLK_ROOT_ACTIVE < 2 → Gives .intFail s (fun t => (t.flag clkBlk R.CLK_REF_STAT_INT_FAIL = true ∧ t.clk = { s.clk with dead := true } ∧
    t.outs = .reeveNmi :: s.outs ∧ (∀ j, t.refMonitored j = false) ∧ RegsBut [clkBlk + R.CLK_REF_STAT] s t) ∧ Frame [.outs, .regs, .clk] s t)) ∧
  (∀ s : State, Gives .rootStop s (fun t => (t.clk = { s.clk with safe := true } ∧ t.deaf = true ∧ t.ttcRuns = false ∧
    (∀ c, c < 12 → (t.ddr c).q0 = [] ∧ (t.ddr c).q1 = []) ∧ (s.clk.safe = true → t.outs = s.outs) ∧
    (s.clk.safe = false → ∀ l, l < 512 → s.laneState l ≠ 0 → s.laneState l ≠ 7 → .laneTx l .idle (s.lane l).rdTx ∈ t.outs) ∧
    ∀ l, l < 512 → t.laneState l = s.laneState l) ∧ Frame [.outs, .llp, .clk, .dram] s t)) ∧
  (∀ (r : Req) (n : Fin 36) (v : Word) (s : State), s.Allows r (clkBlk + R.CLK_GATE + 4 * n.val) true →
    (n.val < 16 ∨ (natBit v.toNat 31 = false ∧ s.nodeChild n.val = true) ∨
        (natBit v.toNat 31 = true ∧ s.flag (clkBlk + 4 * nodeParent n.val) R.CLK_GATE_ON = false) →
      Gives (.clkGateWrite r n v) s (fun t => (t.flag clkBlk R.CLK_GSTAT_GATE_REFUSED = true ∧
        t.rf clkBlk R.CLK_GSTAT_REFUSED_NODE = (if s.flag clkBlk R.CLK_GSTAT_GATE_REFUSED then s.rf clkBlk R.CLK_GSTAT_REFUSED_NODE else n.val) ∧
        t.outs = .rsp r .ok [] :: s.outs ∧ RegsBut [clkBlk + R.CLK_GSTAT] s t) ∧ Frame [.outs, .regs] s t)) ∧
    (16 ≤ n.val →
      (natBit v.toNat 31 = true → s.flag (clkBlk + 4 * nodeParent n.val) R.CLK_GATE_ON = true → Gives (.clkGateWrite r n v) s (fun t =>
        (t.flag (clkBlk + 4 * n.val) R.CLK_GATE_ON = true ∧ t.flag (clkBlk + 4 * n.val) R.CLK_GATE_READY = s.flag (clkBlk + 4 * n.val) R.CLK_GATE_READY ∧
          RegsBut [clkBlk + R.CLK_GATE + 4 * n.val] s t) ∧ Frame [.outs, .regs] s t)) ∧
      (natBit v.toNat 31 = false → s.nodeChild n.val = false → Gives (.clkGateWrite r n v) s (fun t =>
        (t.flag (clkBlk + 4 * n.val) R.CLK_GATE_ON = false ∧ t.flag (clkBlk + 4 * n.val) R.CLK_GATE_READY = false ∧
          RegsBut [clkBlk + R.CLK_GATE + 4 * n.val] s t) ∧ Frame [.outs, .regs] s t)))) ∧
  (∀ (n : Fin 36) (s : State), s.flag (clkBlk + 4 * n.val) R.CLK_GATE_ON = true → Gives (.clkGateReady n) s (fun t =>
    (t.flag (clkBlk + 4 * n.val) R.CLK_GATE_READY = true ∧ t.flag (clkBlk + 4 * n.val) R.CLK_GATE_ON = true ∧
      RegsBut [clkBlk + R.CLK_GATE + 4 * n.val] s t) ∧ Frame [.regs] s t)) ∧
  (∀ (src idx : Nat) (s : State), (10 ≤ src → s.monFreq src idx = none) ∧ (src ∈ [5, 6, 7] → 4 ≤ idx → s.monFreq src idx = none) ∧
    (12 ≤ idx → s.monFreq 8 idx = none) ∧ s.monFreq 3 idx = some (20000, 1) ∧ s.monFreq 4 idx = some (100000, 1) ∧
    (idx < 4 → s.monFreq 5 idx = some (10000, 1) ∧ s.monFreq 6 idx = some (160000, 1) ∧ s.monFreq 7 idx = some (100 * modeMill s.mode, 1))) ∧
  (∀ (r : Req) (v : Word) (div : Nat) (s : State), s.Allows r (clkBlk + R.CLKMON_CTRL) true → isCommons r = true ∨ isPf r = true →
    div = (if v.toNat % 4096 = 0 then 4096 else v.toNat % 4096) →
    (s.monFreq (natBits v.toNat 27 24) (natBits v.toNat 20 12) = none ∨
        (∃ n d, s.monFreq (natBits v.toNat 27 24) (natBits v.toNat 20 12) = some (n, d) ∧ natBit v.toNat 31 = true ∧ 50000 * d * div < n) →
      Gives (.clkmonCtrlWrite r v) s (fun t => (t.rd (clkBlk + R.CLKMON_CTRL) = s.rd (clkBlk + R.CLKMON_CTRL) ||| 0x40000000 ∧
        t.outs = .rsp r .ok [] :: s.outs ∧ RegsBut [clkBlk + R.CLKMON_CTRL] s t) ∧ Frame [.outs, .regs] s t)) ∧
    (∀ n d, s.monFreq (natBits v.toNat 27 24) (natBits v.toNat 20 12) = some (n, d) → natBit v.toNat 31 = false ∨ n ≤ 50000 * d * div →
      Gives (.clkmonCtrlWrite r v) s (fun t => (t.rd (clkBlk + R.CLKMON_CTRL) =
          (s.rd (clkBlk + R.CLKMON_CTRL) &&& 0x40000000 &&& ~~~v) ||| (v &&& 0x8F1FFFFF) ∧
        t.outs = .rsp r .ok [] :: s.outs ∧ RegsBut [clkBlk + R.CLKMON_CTRL] s t) ∧ Frame [.outs, .regs] s t))) ∧
  (∀ (die : Fin 9) (s : State), die.val ≠ 0 → s.dieDown die.val = false → Gives (.ttcSyncMeasure die) s (fun t =>
    ((∀ d, d < 32 → natBit (t.rd (clkBlk + R.TTC_SYNC)).toNat d = (natBit (s.rd (clkBlk + R.TTC_SYNC)).toNat d || decide (d = die.val))) ∧
      RegsBut [clkBlk + R.TTC_SYNC] s t) ∧ Frame [.regs] s t))

/-- The guest port (R148, R211, R560-R563, R565): UNFENCE, FENCE and RESET, the ends of training and of a reset, the loss of the link, and what the
port makes of each flit from the guest. That a response's reserved CODE goes on as FAULT is the model's choice (log entry 33). -/
def Obligations.GuestCommands : Prop :=
  (∀ (r : Req) (v : Word) (c : Instr) (s : State), c = .gstUnfence r v ∨ c = .gstFence r v ∨ c = .gstReset r v → s.Allows r (guestBlk + R.GST_CTRL) true →
    (natBit v.toNat 30 = true →
      (s.gstState = 0 → Gives c s (· = s.answer r (guestBlk + R.GST_CTRL) .ok [])) ∧
      (s.gstState ≠ 0 → Gives c s (fun t => (t.gstState = 0 ∧ t.rf guestBlk R.GST_STAT_RATE = 0 ∧ t.guest = {} ∧ t.outs = .rsp r .ok [] :: s.outs ∧
        Counted (guestBlk + R.GST_DROP_CNT) (s.guest.toGuest.filter (fun f => f.rsp || f.op == 4)).length s t ∧
        (s.guest.gone = [] → s.guest.toGuest = [] → t.ring = s.ring ∧ RegsBut [guestBlk + R.GST_STAT, guestBlk + R.GST_DROP_CNT] s t) ∧
        (∀ f, s.guest.gone = [f] → s.guest.toGuest = [] →
          (∀ g ∈ responses jgStop f 2 [], t.leaves jgStop g) ∧ t.flits = s.flits + (responses jgStop f 2 []).length)) ∧
        Frame [.free, .outs, .regs, .ring, .dbg, .guest] s t))) ∧
    (natBit v.toNat 30 = false → natBit v.toNat 31 = false →
      (natBit v.toNat 29 = true → s.gstState = 2 → Gives c s (fun t => (t.gstState = 3 ∧ t.guest = {} ∧ t.outs = .rsp r .ok [] :: .guestTx 4 0 :: s.outs ∧
        Counted (guestBlk + R.GST_DROP_CNT) (s.guest.toGuest.filter (fun f => f.rsp || f.op == 4)).length s t ∧
        (∀ f, s.guest.gone = [f] → s.guest.toGuest = [] →
          (∀ g ∈ responses jgStop f 4 [], t.leaves jgStop g) ∧ t.flits = s.flits + (responses jgStop f 4 []).length)) ∧
        Frame [.free, .outs, .regs, .ring, .dbg, .guest] s t)) ∧
      (natBit v.toNat 29 = false ∨ s.gstState ≠ 2 → Gives c s (· = s.answer r (guestBlk + R.GST_CTRL) .ok []))) ∧
    (natBit v.toNat 30 = false → natBit v.toNat 29 = false → natBit v.toNat 31 = true →
      (s.part.optionG = true → s.gstState = 0 → Gives c s (fun t => (t.gstState = 1 ∧ t.outs = .rsp r .ok [] :: s.outs ∧
        RegsBut [guestBlk + R.GST_STAT] s t) ∧ Frame [.outs, .regs] s t)) ∧
      (s.part.optionG = false ∨ s.gstState ≠ 0 → Gives c s (fun t => (t.flag guestBlk R.GST_STAT_REFUSED = true ∧ t.gstState = s.gstState ∧
        t.outs = .rsp r .ok [] :: s.outs ∧ RegsBut [guestBlk + R.GST_STAT] s t) ∧ Frame [.outs, .regs] s t)))) ∧
  (∀ (rate : Fin 3) (s : State), s.gstState = 1 → Gives (.guestTrainDone rate) s (fun t => (t.gstState = 2 ∧ t.rf guestBlk R.GST_STAT_RATE = rate.val + 1 ∧
    t.guest = {} ∧ RegsBut [guestBlk + R.GST_STAT] s t) ∧ Frame [.regs, .guest] s t)) ∧
  (∀ (c : Instr) (f : Fld) (s : State), (c = .guestTrainTimeout ∧ s.gstState = 1 ∧ f = R.GST_STAT_TRAIN_FAIL) ∨
      (c = .guestResetTimeout ∧ s.gstState = 3 ∧ f = R.GST_STAT_RST_TMO) →
    Gives c s (fun t => (t.gstState = 0 ∧ t.flag guestBlk f = true ∧ t.guest = {} ∧
      Reported (locator 9 0) 0x00B0 (t.rd (guestBlk + R.GST_STAT)).toNat s.liveSites s t ∧
      Counted (guestBlk + R.GST_DROP_CNT) (s.guest.toGuest.filter (fun f => f.rsp || f.op == 4)).length s t) ∧
      Frame [.free, .regs, .par, .ring, .dbg, .guest] s t)) ∧
  (∀ s : State, s.gstState ≠ 0 → Gives .guestLinkDown s (fun t => (t.gstState = 0 ∧ t.guest = {} ∧
      Reported (locator 9 0) 0x00B0 (t.rd (guestBlk + R.GST_STAT)).toNat s.liveSites s t ∧
      Counted (guestBlk + R.GST_DROP_CNT) (s.guest.toGuest.filter (fun f => f.rsp || f.op == 4)).length s t) ∧
      Frame [.free, .regs, .par, .ring, .dbg, .guest] s t)) ∧
  (∀ (b : BitVec 768) (s : State), s.gstState < 2 → Gives (.guestFlitReceive b) s (· = s)) ∧
  (∀ (b : BitVec 768) (s : State), 2 ≤ s.gstState →
    (crc16 (natBits b.toNat 751 0) 752 ≠ natBits b.toNat 767 752 → Gives (.guestFlitReceive b) s (fun t =>
      (Counted (guestBlk + R.GST_CRC_CNT) 1 s t ∧ RegsBut [guestBlk + R.GST_CRC_CNT] s t) ∧ Frame [.regs] s t)) ∧
    (crc16 (natBits b.toNat 751 0) 752 = natBits b.toNat 767 752 →
      (6 ≤ b.toNat % 256 → Gives (.guestFlitReceive b) s (fun t =>
        (Counted (guestBlk + R.GST_PROTO_CNT) 1 s t ∧ RegsBut [guestBlk + R.GST_PROTO_CNT] s t) ∧ Frame [.regs] s t)) ∧
      (b.toNat % 256 = 2 → s.guest.toGuest = [] → Gives (.guestFlitReceive b) s (fun t => (t.guest.sent = s.guest.sent ∧ t.guest.toGuest = [] ∧
        t.guest.gone = s.guest.gone ∧ (∀ v, v < 8 → t.guest.limit[v]? = some
          (if (natBits b.toNat (8 * (2 + v) + 7) (8 * (2 + v)) + 256 - s.guest.limit.getD v 0) % 256 ≤ 127 then natBits b.toNat (8 * (2 + v) + 7) (8 * (2 + v))
            else s.guest.limit.getD v 0))) ∧ Frame [.guest] s t)) ∧
      (∀ f, b.toNat % 256 = 2 → s.guest.toGuest = [f] → Gives (.guestFlitReceive b) s (fun t =>
        ({ s.guest with limit := t.guest.limit }.room f.vc = true → t.outs = .guestTx 1 f.encode :: s.outs ∧ t.guest.toGuest = [] ∧
          t.guest.sent = s.guest.sent.set f.vc ((s.guest.sent.getD f.vc 0 + 1) % 256)) ∧
        ({ s.guest with limit := t.guest.limit }.room f.vc = false → t.outs = s.outs ∧ t.guest.toGuest = [f]) ∧ Frame [.outs, .guest] s t)) ∧
      (s.gstState = 3 → b.toNat % 256 = 5 → Gives (.guestFlitReceive b) s (fun t => (t.gstState = 2 ∧ t.guest = {} ∧ RegsBut [guestBlk + R.GST_STAT] s t) ∧
        Frame [.regs, .guest] s t)) ∧
      (s.gstState = 3 → b.toNat % 256 = 1 → Gives (.guestFlitReceive b) s (· = s)) ∧
      (∀ (m : Nat) (f g : Flit), s.gstState = 2 → b.toNat % 256 = 1 → m = natBits b.toNat 11 8 →
        flitCheck (natBits b.toNat 671 16) = some (f, false, false) → f.rsp = false →
        g = { f with mid := 0xC0 + m, sid := s.midSid (0xC0 + m) 0, src := jgStop } →
        (s.flag (guestBlk + 4 * m) R.GST_MSTR_EN = false ∨ s.gstWindow g = false → Gives (.guestFlitReceive b) s (fun t =>
          (Counted (guestBlk + R.GST_DENY_CNT) 1 s t ∧ RegsBut [guestBlk + R.GST_DENY_CNT] s t ∧
            (∀ y, f.last = true → responses jgStop g 3 [] = [y] → s.guest.toGuest = [] →
              (s.guest.room y.vc = true → t.outs = .guestTx 1 y.encode :: s.outs) ∧ (s.guest.room y.vc = false → t.guest.toGuest = [y]))) ∧
          Frame [.outs, .regs, .guest] s t)) ∧
        (∀ (code : Nat) (y : Flit), s.flag (guestBlk + 4 * m) R.GST_MSTR_EN = true → s.gstWindow g = true →
          (guestBad g = true ∧ code = 1) ∨ (guestBad g = false ∧ s.sourceStop g.mid g.addr g.cls = none ∧ code = 2) → f.last = true →
          responses jgStop g code [] = [y] → s.guest.toGuest = [] → Gives (.guestFlitReceive b) s (fun t =>
            ((s.guest.room y.vc = true → t.outs = .guestTx 1 y.encode :: s.outs) ∧ (s.guest.room y.vc = false → t.guest.toGuest = [y])) ∧
            Frame [.outs, .guest] s t)) ∧
        (∀ dst : Nat, s.flag (guestBlk + 4 * m) R.GST_MSTR_EN = true → s.gstWindow g = true → guestBad g = false →
          s.sourceStop g.mid g.addr g.cls = some dst →
          (g.cls ≠ 0 → Gives (.guestFlitReceive b) s (fun t => (t.leaves jgStop { g with dst := dst } ∧ t.flits = s.flits + 1 ∧
            (t.stopSt jgStop).out = (s.stopSt jgStop).out ++ (if opAnswered g.op = true ∧ g.idx = 0 then
              [⟨g.mid, g.sid, g.tag, g.op, g.cls, g.addr, g.len, s.now, []⟩] else [])) ∧ Frame [.free, .regs, .ring, .dbg] s t)) ∧
          (g.cls = 0 → s.bellAllows jgStop (s.ringDie g.addr) = true → (s.stopSt jgStop).bellInj.length < 4 → Gives (.guestFlitReceive b) s (fun t =>
            ((t.stopSt jgStop).bellInj = (s.stopSt jgStop).bellInj ++ [{ g with dst := dst }] ∧ t.flits = s.flits) ∧ Frame [.ring] s t)))) ∧
      (∀ f : Flit, s.gstState = 2 → b.toNat % 256 = 1 → flitCheck (natBits b.toNat 671 16) = some (f, false, false) → f.rsp = true →
        Gives (.guestFlitReceive b) s (fun t => (t.leaves jgStop { f with src := jgStop, code := if f.code < 6 then f.code else 1 } ∧ t.flits = s.flits + 1 ∧
          t.guest.gone = (if f.last then s.guest.gone.filter (fun q => !(q.mid == f.mid && q.tag == f.tag && q.src == f.dst)) else s.guest.gone)) ∧
          Frame [.free, .regs, .ring, .dbg, .guest] s t))))

/-- GPIO banks (R566-R577): a pin's function, outputs, filtered inputs and their interrupts, triggers, and the I2C, SPI and UART controllers. That a GO
with its controller off does nothing, and that a byte leaves the transmit FIFO as it starts, are the model's choices (log entry 23). -/
def Obligations.GpioCommands : Prop :=
  (∀ (b p n : Nat) (s : State), s.funcOk b p n = true ↔ n ≤ 10 ∧ (n = 2 → s.bankOwner b = 0x7F ∧ p < 4) ∧ (n = 3 → s.bankOwner b = 0x7F ∧ 4 ≤ p ∧ p < 8) ∧
    (n = 4 → s.bankOwner b = 0x7F ∧ 8 ≤ p ∧ p < 12)) ∧
  (∀ (r : Req) (b : Fin 24) (p : Fin 16) (v w : Word) (s : State), s.Allows r (gpioBlk b.val + R.IO_PIN + 4 * p.val) true → w = v &&& 0x7EFF1FFF →
    (s.funcOk b.val p.val (wordBits v 3 0) = false → Gives (.ioPinWrite r b p v) s (fun t => (t.flag (gpioBlk b.val) R.GPIO_STAT_MUX_REFUSED = true ∧
      t.outs = .rsp r .ok [] :: s.outs ∧ RegsBut [gpioBlk b.val + R.GPIO_STAT] s t) ∧ Frame [.outs, .regs] s t)) ∧
    (s.funcOk b.val p.val (wordBits v 3 0) = true → Gives (.ioPinWrite r b p v) s (fun t => (t.outs = .rsp r .ok [] :: s.outs ∧
      t.rd (gpioBlk b.val + R.IO_PIN + 4 * p.val) = (if 6 ≤ wordBits v 12 10 then w &&& 0xFFFFE3FF else w) ∧
      (∀ q, q < 16 → t.pinBit b.val R.GPIO_ISTAT q = (s.pinBit b.val R.GPIO_ISTAT q || t.pinLevel b.val q)) ∧
      RegsBut [gpioBlk b.val + R.IO_PIN + 4 * p.val, gpioBlk b.val + R.GPIO_ISTAT] s t) ∧ Frame [.outs, .regs] s t))) ∧
  (∀ (r : Req) (b : Fin 24) (v : Word) (s : State),
    (s.Allows r (gpioBlk b.val + R.GPIO_SET) true → Gives (.gpioSet r b v) s (fun t => (t.outs = .rsp r .ok [] :: s.outs ∧
      (∀ p, p < 16 → t.pinBit b.val R.GPIO_OUT p = (s.pinBit b.val R.GPIO_OUT p || natBit v.toNat p)) ∧ RegsBut [gpioBlk b.val + R.GPIO_OUT] s t) ∧
      Frame [.outs, .regs] s t)) ∧
    (s.Allows r (gpioBlk b.val + R.GPIO_CLR) true → Gives (.gpioClr r b v) s (fun t => (t.outs = .rsp r .ok [] :: s.outs ∧
      (∀ p, p < 16 → t.pinBit b.val R.GPIO_OUT p = (s.pinBit b.val R.GPIO_OUT p && !natBit v.toNat p)) ∧ RegsBut [gpioBlk b.val + R.GPIO_OUT] s t) ∧
      Frame [.outs, .regs] s t)) ∧
    (s.Allows r (gpioBlk b.val + R.GPIO_TGL) true → Gives (.gpioTgl r b v) s (fun t => (t.outs = .rsp r .ok [] :: s.outs ∧
      (∀ p, p < 16 → t.pinBit b.val R.GPIO_OUT p = (s.pinBit b.val R.GPIO_OUT p ^^ natBit v.toNat p)) ∧ RegsBut [gpioBlk b.val + R.GPIO_OUT] s t) ∧
      Frame [.outs, .regs] s t))) ∧
  (∀ (b : Fin 24) (p : Fin 16) (v old edge : Bool) (m : Nat) (s : State), s.dieDown (1 + b.val / 6) = false → old = s.pinBit b.val R.GPIO_IN p.val →
    m = s.pinF b.val p.val R.IO_PIN_IMODE → edge = ((v && !old && (m == 1 || m == 3)) || (!v && old && (m == 2 || m == 3))) →
    Gives (.gpioInputChange b p v) s (fun t => ((∀ q, q < 16 →
        t.pinBit b.val R.GPIO_IN q = (if q = p.val then v else s.pinBit b.val R.GPIO_IN q) ∧
        t.pinBit b.val R.GPIO_RAW q = (if q = p.val then v else s.pinBit b.val R.GPIO_RAW q) ∧
        t.pinBit b.val R.GPIO_ISTAT q = (s.pinBit b.val R.GPIO_ISTAT q || t.pinLevel b.val q || (edge && q == p.val))) ∧
      RegsBut [gpioBlk b.val + R.GPIO_IN, gpioBlk b.val + R.GPIO_RAW, gpioBlk b.val + R.GPIO_ISTAT] s t) ∧ Frame [.regs] s t)) ∧
  (∀ (b : Fin 24) (p : Fin 16) (c : Nat) (s : State), c = s.pinF b.val p.val R.IO_PIN_ARG → s.pinFunc b.val p.val = 5 → s.pinBit b.val R.GPIO_IN p.val = true →
    c < 16 → s.dieDown (1 + b.val / 6) = false →
    (s.xtOwner c = s.bankOwner b.val → Gives (.trigInEdge b p) s (fun t => (natBit (t.rd (dbgBlk + R.DBG_XT_STAT)).toNat c = true ∧
      t.dbg = { s.dbg with xt := s.dbg.xt ++ [(c, s.ttc)] } ∧
      (natBit (s.rd (dbgBlk + R.DBG_XT_STAT)).toNat c = false → t.rd64 (dbgBlk + R.DBG_XT_FIRST_LO + 0x20 * c) = s.ttc % 2 ^ 64) ∧
      (natBit (s.rd (dbgBlk + R.DBG_XT_STAT)).toNat c = true → RegsBut [] s t)) ∧ Frame [.regs, .dbg] s t)) ∧
    (s.xtOwner c ≠ s.bankOwner b.val → Gives (.trigInEdge b p) s (· = s))) ∧
  (∀ (r : Req) (b : Fin 24) (v : Word) (a nrd nwr : Nat) (s : State), a = gpioBlk b.val → nrd = wordBits v 12 8 → nwr = wordBits v 4 0 →
    s.Allows r (a + R.I2C_CMD) true →
    (natBit v.toNat 31 = false ∨ s.flag a R.I2C_STAT_BUSY = true ∨ s.flag a R.I2C_CTRL_EN = false →
      Gives (.i2cGo r b v) s (· = s.answer r (a + R.I2C_CMD) .ok [])) ∧
    (natBit v.toNat 31 = true → s.flag a R.I2C_STAT_BUSY = false → s.flag a R.I2C_CTRL_EN = true →
      (16 < nrd ∨ 16 < nwr ∨ nrd + nwr = 0 → Gives (.i2cGo r b v) s (fun t => (t.flag a R.I2C_STAT_REFUSED = true ∧ t.outs = .rsp r .ok [] :: s.outs ∧
        RegsBut [a + R.I2C_STAT] s t) ∧ Frame [.outs, .regs] s t)) ∧
      (nrd ≤ 16 → nwr ≤ 16 → 0 < nrd + nwr → Gives (.i2cGo r b v) s (fun t => (t.flag a R.I2C_STAT_BUSY = true ∧ t.bank b.val = { s.bank b.val with i2c := some v } ∧
        t.outs = .rsp r .ok [] :: .i2c b.val v ((List.range nwr).map (s.byteAt (a + R.I2C_TXBUF))) :: s.outs ∧ RegsBut [a + R.I2C_STAT] s t) ∧
        Frame [.outs, .regs, .gpio] s t)))) ∧
  (∀ (b : Fin 24) (e : I2cEnd) (n : Fin 33) (rx : List Byte) (v : Word) (a tot k : Nat) (s : State), a = gpioBlk b.val → (s.bank b.val).i2c = some v →
    tot = wordBits v 4 0 + wordBits v 12 8 → k = min (if e = .ok then 32 else n.val) tot → k < 32 →
    Gives (.i2cDone b e n rx) s (fun t => (t.flag a R.I2C_STAT_DONE = true ∧ t.flag a R.I2C_STAT_BUSY = false ∧ t.rf a R.I2C_CNT_COUNT = k ∧
      t.bank b.val = { s.bank b.val with i2c := none } ∧
      (∀ i d, i < k - wordBits v 4 0 → i < 16 → rx[i]? = some d → t.byteAt (a + R.I2C_RXBUF) i = d) ∧
      t.flag a R.I2C_STAT_NACK_ADDR = (s.flag a R.I2C_STAT_NACK_ADDR || decide (e = .nackAddr)) ∧
      t.flag a R.I2C_STAT_NACK_DATA = (s.flag a R.I2C_STAT_NACK_DATA || decide (e = .nackData)) ∧
      t.flag a R.I2C_STAT_ARB_LOST = (s.flag a R.I2C_STAT_ARB_LOST || decide (e = .arbLost)) ∧
      t.flag a R.I2C_STAT_BUS_STUCK = (s.flag a R.I2C_STAT_BUS_STUCK || decide (e = .busStuck)) ∧
      t.flag a R.I2C_STAT_TIMEOUT = s.flag a R.I2C_STAT_TIMEOUT) ∧ Frame [.regs, .gpio] s t)) ∧
  (∀ (b : Fin 24) (n : Fin 33) (rx : List Byte) (v : Word) (a : Nat) (s : State), a = gpioBlk b.val → (s.bank b.val).i2c = some v → n.val < 32 →
    n.val ≤ wordBits v 4 0 + wordBits v 12 8 →
    Gives (.i2cStretchTimeout b n rx) s (fun t => (t.flag a R.I2C_STAT_TIMEOUT = true ∧ t.flag a R.I2C_STAT_DONE = true ∧ t.flag a R.I2C_STAT_BUSY = false ∧
      t.rf a R.I2C_CNT_COUNT = n.val ∧ t.bank b.val = { s.bank b.val with i2c := none }) ∧ Frame [.regs, .gpio] s t)) ∧
  (∀ (r : Req) (b : Fin 24) (v : Word) (a len : Nat) (s : State), a = gpioBlk b.val → len = wordBits v 6 0 → s.Allows r (a + R.SPI_CMD) true → natBit v.toNat 31 = true →
    (len = 0 ∨ 64 < len ∨ s.flag a R.SPI_STAT_BUSY = true → Gives (.spiGo r b v) s (fun t => (t.flag a R.SPI_STAT_REFUSED = true ∧
      t.outs = .rsp r .ok [] :: s.outs ∧ RegsBut [a + R.SPI_STAT] s t) ∧ Frame [.outs, .regs] s t)) ∧
    (0 < len → len ≤ 64 → s.flag a R.SPI_STAT_BUSY = false → s.flag a R.SPI_CTRL_EN = true → Gives (.spiGo r b v) s (fun t =>
      (t.flag a R.SPI_STAT_BUSY = true ∧ t.bank b.val = { s.bank b.val with spi := some v, csLow := true } ∧
        t.outs = .rsp r .ok [] :: .spi b.val ((List.range len).map (s.byteAt (a + R.SPI_BUF))) :: s.outs ∧ RegsBut [a + R.SPI_STAT] s t) ∧
      Frame [.outs, .regs, .gpio] s t))) ∧
  (∀ (b : Fin 24) (rx : List Byte) (v : Word) (a : Nat) (s : State), a = gpioBlk b.val → (s.bank b.val).spi = some v → wordBits v 6 0 ≤ 64 →
    Gives (.spiDone b rx) s (fun t => (t.flag a R.SPI_STAT_DONE = true ∧ t.flag a R.SPI_STAT_BUSY = false ∧
      t.bank b.val = { s.bank b.val with spi := none, csLow := natBit v.toNat 30 } ∧
      (∀ i, i < 64 → (∀ d, i < wordBits v 6 0 → rx[i]? = some d → t.byteAt (a + R.SPI_BUF) i = d) ∧
        (wordBits v 6 0 ≤ i → t.byteAt (a + R.SPI_BUF) i = s.byteAt (a + R.SPI_BUF) i))) ∧ Frame [.regs, .gpio] s t)) ∧
  (∀ (r : Req) (b : Fin 24) (v : Word) (a : Nat) (x : BankSt) (s : State), a = gpioBlk b.val → x = s.bank b.val → s.Allows r (a + R.UART_TX) true →
    (32 ≤ x.tx.length → Gives (.uartTx r b v) s (fun t => (t.flag a R.UART_STAT_TX_OVF = true ∧ t.outs = .rsp r .ok [] :: s.outs ∧ t.bank b.val = x ∧
      RegsBut [a + R.UART_STAT] s t) ∧ Frame [.outs, .regs, .gpio] s t)) ∧
    (x.tx.length < 32 → (x.sending ≠ none ∨ s.flag a R.UART_CTRL_EN = false ∨ (s.flag a R.UART_CTRL_FLOW = true ∧ x.ctsHigh = true)) →
      Gives (.uartTx r b v) s (fun t => (t.bank b.val = { x with tx := x.tx ++ [BitVec.ofNat 8 v.toNat] } ∧ UartShows b.val t ∧
        t.outs = .rsp r .ok [] :: s.outs ∧ RegsBut [a + R.UART_STAT] s t) ∧ Frame [.outs, .regs, .gpio] s t)) ∧
    (x.tx = [] → x.sending = none → s.flag a R.UART_CTRL_EN = true → s.flag a R.UART_CTRL_FLOW = false ∨ x.ctsHigh = false →
      Gives (.uartTx r b v) s (fun t => (t.bank b.val = { x with sending := some (BitVec.ofNat 8 v.toNat) } ∧ UartShows b.val t ∧
        t.outs = .rsp r .ok [] :: .uartTx b.val (BitVec.ofNat 8 v.toNat) :: s.outs ∧ RegsBut [a + R.UART_STAT] s t) ∧ Frame [.outs, .regs, .gpio] s t))) ∧
  (∀ (b : Fin 24) (a : Nat) (x : BankSt) (d : Byte) (s : State), a = gpioBlk b.val → x = s.bank b.val → x.sending = some d →
    (x.tx = [] → Gives (.uartTxByteSent b) s (fun t => (t.bank b.val = { x with sending := none } ∧ t.outs = s.outs ∧ RegsBut [] s t) ∧ Frame [.gpio] s t)) ∧
    (∀ e l, x.tx = e :: l → s.flag a R.UART_CTRL_EN = true → s.flag a R.UART_CTRL_FLOW = false ∨ x.ctsHigh = false →
      Gives (.uartTxByteSent b) s (fun t => (t.bank b.val = { x with tx := l, sending := some e } ∧ UartShows b.val t ∧ t.outs = .uartTx b.val e :: s.outs ∧
        RegsBut [a + R.UART_STAT] s t) ∧ Frame [.outs, .regs, .gpio] s t)) ∧
    (s.flag a R.UART_CTRL_FLOW = true → x.ctsHigh = true → Gives (.uartTxByteSent b) s (fun t => (t.bank b.val = { x with sending := none } ∧ t.outs = s.outs ∧
      RegsBut [] s t) ∧ Frame [.gpio] s t))) ∧
  (∀ (b : Fin 24) (d : Byte) (fe pe brk : Bool) (a : Nat) (x : BankSt) (s : State), a = gpioBlk b.val → x = s.bank b.val → s.flag a R.UART_CTRL_EN = true →
    Gives (.uartRxByte b d fe pe brk) s (fun t => (t.flag a R.UART_STAT_FRAME_ERR = (s.flag a R.UART_STAT_FRAME_ERR || fe) ∧
      t.flag a R.UART_STAT_PARITY_ERR = (s.flag a R.UART_STAT_PARITY_ERR || (pe && s.rf a R.UART_CTRL_PARITY != 0)) ∧
      t.flag a R.UART_STAT_BREAK = (s.flag a R.UART_STAT_BREAK || brk) ∧
      (32 ≤ x.rx.length → t.flag a R.UART_STAT_RX_OVF = true ∧ t.bank b.val = x) ∧
      (x.rx.length < 32 → ∃ w : Word, t.bank b.val = { x with rx := x.rx ++ [w] } ∧ UartShows b.val t ∧ wordBits w 7 0 = (if brk then 0 else d.toNat) ∧
        natBit w.toNat 8 = true ∧ natBit w.toNat 9 = fe ∧ natBit w.toNat 10 = (pe && s.rf a R.UART_CTRL_PARITY != 0) ∧ natBit w.toNat 11 = brk) ∧
      RegsBut [a + R.UART_STAT] s t) ∧ Frame [.regs, .gpio] s t)) ∧
  (∀ (r : Req) (b : Fin 24) (a : Nat) (s : State), a = gpioBlk b.val → s.Allows r (a + R.UART_RX) false →
    ((s.bank b.val).rx = [] → Gives (.uartRx r b) s (fun t => (t.outs = .rsp r .ok [0] :: s.outs ∧ RegsBut [] s t) ∧ Frame [.outs] s t)) ∧
    (∀ w l, (s.bank b.val).rx = w :: l → Gives (.uartRx r b) s (fun t => (t.outs = .rsp r .ok [w] :: s.outs ∧ t.bank b.val = { s.bank b.val with rx := l } ∧
      UartShows b.val t ∧ RegsBut [a + R.UART_STAT] s t) ∧ Frame [.outs, .regs, .gpio] s t))) ∧
  (∀ (b : Fin 24) (v : Bool) (a : Nat) (x : BankSt) (s : State), a = gpioBlk b.val → x = s.bank b.val →
    (v = true ∨ x.sending ≠ none ∨ x.tx = [] → (v = true → s.flag a R.UART_CTRL_FLOW = true ∨ x.tx = []) →
      Gives (.ctsNChange b v) s (fun t => (t.bank b.val = { x with ctsHigh := v } ∧ RegsBut [] s t) ∧ Frame [.gpio] s t)) ∧
    (∀ e l, v = false → x.sending = none → x.tx = e :: l → s.flag a R.UART_CTRL_EN = true →
      Gives (.ctsNChange b v) s (fun t => (t.bank b.val = { x with ctsHigh := false, tx := l, sending := some e } ∧ UartShows b.val t ∧
        t.outs = .uartTx b.val e :: s.outs ∧ RegsBut [a + R.UART_STAT] s t) ∧ Frame [.outs, .regs, .gpio] s t)))

/-- The parish register (R584-R588, R591) and the fault concentrator (R592-R597): staging by firmware, flushes, the scan, reports that join or
open an incident, its close and its acknowledgement. That records staged before the scan are numbered after it is the model's choice (log entry
24). -/
def Obligations.ParishCommands : Prop :=
  (∀ (r : Req) (m : Fin 5) (v : Word) (s : State), s.Allows r (parishBlk + 0x20 * m.val + R.PAR_IN_GO) true →
    (natBit v.toNat 31 = false → Gives (.parInGo r m v) s (fun t => t.outs = .rsp r .ok [] :: s.outs ∧ RegsBut [] s t ∧ Frame [.outs] s t)) ∧
    (natBit v.toNat 31 = true → (∀ o, s.par.staging.getLast? = some o → isRepeat o (s.parInRec m.val) = false) → Gives (.parInGo r m v) s (fun t =>
      ((s.par.staging.length < 64 → t.par.staging = s.par.staging ++ [s.parInRec m.val] ∧ t.rf parishBlk R.PAR_STAGED_COUNT = s.par.staging.length + 1 ∧
          (s.par.next < 2 ^ 32 → t.rf parishBlk R.PAR_SEQ_NEW_SEQ = recSeq s.par.next) ∧
          t.rd (parishBlk + R.PAR_STAGE_DROP_CNT) = s.rd (parishBlk + R.PAR_STAGE_DROP_CNT)) ∧
        (64 ≤ s.par.staging.length → t.par.staging = s.par.staging ∧ Counted (parishBlk + R.PAR_STAGE_DROP_CNT) 1 s t ∧
          t.flag parishBlk R.PAR_STAT_STAGE_DROP = true) ∧
        tabGet (fun _ => none) t.par.ring (recSeq s.par.next % 4096) = some (s.parInRec m.val) ∧ t.par.next = (recSeq s.par.next + 1) % 2 ^ 32 ∧
        t.par.flash = s.par.flash ∧ t.par.reports = s.par.reports ∧ t.outs = .rsp r .ok [] :: s.outs ∧ RegsBut stageRegs s t) ∧ Frame [.outs, .regs, .par] s t)) ∧
    (natBit v.toNat 31 = true → ∀ l o, s.par.staging = l ++ [o] → isRepeat o (s.parInRec m.val) = true → Gives (.parInGo r m v) s (fun t =>
      (∃ x, t.par = { s.par with staging := l ++ [x], ring := tabPut (fun _ => none) s.par.ring (o.seq % 4096) (some x) } ∧
        x.rep = min (o.rep + 1) 65535 ∧ x.last = s.cal ∧ x.sev = max o.sev (s.parInRec m.val).sev ∧
        x.site = (if o.site = (s.parInRec m.val).site then o.site else 0x7F) ∧ x.seq = o.seq ∧ x.time = o.time ∧ x.code = o.code ∧ x.source = o.source ∧
        x.data = o.data) ∧ t.outs = .rsp r .ok [] :: s.outs ∧ RegsBut [] s t ∧ Frame [.outs, .par] s t))) ∧
  (∀ (o x : PRec), isRepeat o x = true ↔ o.code = x.code ∧ o.source = x.source ∧ o.data = x.data ∧ x.time ≤ o.last + 1000000000) ∧
  (∀ (fail : Bool) (s : State),
    (s.par.area = true → s.par.scanned = false → Gives (.parishFlush fail) s (· = s)) ∧
    (s.par.area = true → s.par.scanned = true → fail = true → s.par.staging ≠ [] → Gives (.parishFlush fail) s (fun t =>
      (t.flag parishBlk R.PAR_STAT_FLASH_ERR = true ∧ RegsBut [parishBlk + R.PAR_STAT] s t) ∧ Frame [.regs] s t)) ∧
    (s.par.area = false → Gives (.parishFlush fail) s (fun t => (t.par = { s.par with staging := [] } ∧ t.rf parishBlk R.PAR_STAGED_COUNT = 0 ∧
      RegsBut [parishBlk + R.PAR_STAGED] s t) ∧ Frame [.regs, .par] s t)) ∧
    (s.par.area = true → s.par.scanned = true → fail = false → (∀ x ∈ s.par.staging, x.seq % 2048 ≠ 1) →
      (s.par.staging.map (fun x => x.seq % 8388608)).Nodup → Gives (.parishFlush fail) s (fun t => ((∀ x ∈ s.par.staging, t.slot x.seq = .held x) ∧
        (∀ i, i < 8388608 → (∀ x ∈ s.par.staging, i ≠ x.seq % 8388608) → t.slot i = s.slot i) ∧
        (∀ x, s.par.staging.getLast? = some x → t.rf parishBlk R.PAR_SEQ_FLASH_SEQ = (x.seq + 1) % 2 ^ 32) ∧
        t.par = { s.par with staging := [], flash := t.par.flash } ∧ t.rf parishBlk R.PAR_STAGED_COUNT = 0 ∧
        RegsBut [parishBlk + R.PAR_STAGED, parishBlk + R.PAR_SEQ_FLASH] s t) ∧ Frame [.regs, .par] s t)) ∧
    (∀ x, s.par.area = true → s.par.scanned = true → fail = false → s.par.staging = [x] → x.seq % 2048 = 1 → x.seq < 2 ^ 32 →
      Gives (.parishFlush fail) s (fun t => (t.slot x.seq = .held x ∧ (∃ h, t.slot (x.seq - 1) = .held h ∧ h.code = 1 ∧ h.seq = x.seq - 1 ∧ h.site = 0x7F ∧
          h.data = x.seq - 1 + (s.rd (parishBlk + R.PAR_MARK)).toNat * 2 ^ 32) ∧
        (∀ i, i < 8388608 → i / 2048 = (x.seq % 8388608 / 2048 + 1) % 4096 → t.slot i = .erased) ∧
        (∀ i, i < 8388608 → i / 2048 ≠ (x.seq % 8388608 / 2048 + 1) % 4096 → i ≠ x.seq % 8388608 → i ≠ (x.seq - 1) % 8388608 → t.slot i = s.slot i) ∧
        Counted (parishBlk + R.PAR_UNREAD_LOST_CNT) (s.unreadIn ((x.seq % 8388608 / 2048 + 1) % 4096)) s t ∧
        t.flag parishBlk R.PAR_STAT_UNREAD_LOST = (s.flag parishBlk R.PAR_STAT_UNREAD_LOST || s.unreadIn ((x.seq % 8388608 / 2048 + 1) % 4096) != 0) ∧
        t.par.staging = [] ∧ t.par.ring = s.par.ring ∧ t.par.next = s.par.next) ∧ Frame [.regs, .par] s t))) ∧
  (∀ s : State, (s.par.area = false → Gives .parishScan s (fun t => (t.flag parishBlk R.PAR_STAT_NO_AREA = true ∧
      RegsBut [parishBlk + R.PAR_STAT] s t) ∧ Frame [.regs] s t)) ∧
    (∀ nx, s.par.area = true → ((∀ e ∈ s.par.flash, e.1 % 2048 = 0 → ∀ h, e.2 = .held h → h.code ≠ 1) ∧ nx = 0 ∨
        ∃ h n, s.newestHeader h ∧ n ≤ 2048 ∧ (∀ i, i < n → s.slot (h.seq % 8388608 + i) ≠ .erased) ∧
          (n = 2048 ∨ s.slot (h.seq % 8388608 + n) = .erased) ∧ nx = (h.seq + n) % 2 ^ 32) →
      Gives .parishScan s (fun t => (t.par.scanned = true ∧ t.par.flash = s.par.flash ∧ t.par.reports = s.par.reports ∧
        (s.par.staging = [] → t.par.staging = [] ∧ t.par.next = nx) ∧
        (∀ x, s.par.staging = [x] → t.par.staging = [{ x with seq := recSeq nx }] ∧ t.par.next = (recSeq nx + 1) % 2 ^ 32)) ∧ Frame [.regs, .par] s t)) ∧
    (∀ h n, s.par.area = true → s.newestHeader h → h.data < 2 ^ 64 → n ≤ 2048 → (∀ i, i < n → s.slot (h.seq % 8388608 + i) ≠ .erased) →
      (n = 2048 ∨ s.slot (h.seq % 8388608 + n) = .erased) → Gives .parishScan s (fun t =>
        let torn := ((List.range n).filter (fun i => s.slot (h.seq % 8388608 + i) == .torn)).length
        t.rf parishBlk R.PAR_MARK_SEQ = h.data / 2 ^ 32 ∧ t.rf parishBlk R.PAR_SEQ_FLASH_SEQ = (h.seq + n) % 2 ^ 32 ∧
        Counted (parishBlk + R.PAR_TORN_CNT) torn s t ∧ t.flag parishBlk R.PAR_STAT_TORN = (s.flag parishBlk R.PAR_STAT_TORN || torn != 0)))) ∧
  (∀ (x : Report) (s : State), (s.par.reports = [] → Gives .fcReport s (· = s)) ∧
    (firstReport s.par.reports = some x → x.key < 65536 → x.code < 65536 → x.source < 65536 → x.sev < 5 → x.sites < 2 ^ 64 →
      (∀ e, s.incMatch x.key = some e → Gives .fcReport s (fun t => (Counted (incBlk e + R.INC_COUNT) 1 s t ∧
        t.rd (incBlk e + R.INC_CODE) = s.rd (incBlk e + R.INC_CODE) ∧
        t.rf (incBlk e) R.INC_STAT_SEVERITY = max (s.rf (incBlk e) R.INC_STAT_SEVERITY) x.sev ∧
        t.rd64 (incBlk e + R.INC_SITES_LO) = s.rd64 (incBlk e + R.INC_SITES_LO) ||| x.sites ∧
        Sees (s.rd64 (incBlk e + R.INC_SITES_LO)) x.sites (s.rf (incBlk e) R.INC_CODE_CODE) e t ∧
        t.par = { s.par with reports := s.par.reports.erase x, inc := t.par.inc } ∧ RegsBeside [] s t) ∧ Frame [.outs, .regs, .site, .pcie, .par] s t)) ∧
      (∀ e, s.incMatch x.key = none → s.incFree = some e → Gives .fcReport s (fun t => ((∃ u, t = u.pf0Raise (32 + e) ∧
          u.flag (incBlk e) R.INC_STAT_VALID = true ∧ u.incOpen e = true ∧ u.flag (incBlk e) R.INC_STAT_TAKEN = false ∧
          u.rf (incBlk e) R.INC_STAT_GEN = (s.rf (incBlk e) R.INC_STAT_GEN + 1) % 256 ∧ u.incKey e = x.key ∧ u.rf (incBlk e) R.INC_STAT_SEVERITY = x.sev ∧
          u.rf (incBlk e) R.INC_CODE_CODE = x.code ∧ u.rf (incBlk e) R.INC_CODE_SOURCE = x.source ∧ u.rd (incBlk e + R.INC_COUNT) = 1 ∧
          u.rd64 (incBlk e + R.INC_SITES_LO) = x.sites ∧ u.rd64 (incBlk e + R.INC_TTC_LO) = s.ttc % 2 ^ 64 ∧ Sees 0 x.sites x.code e u ∧
          u.par = { s.par with reports := s.par.reports.erase x, inc := u.par.inc }) ∧
        (∀ j, j < 64 → j ≠ e → t.rd (incBlk j + R.INC_STAT) = s.rd (incBlk j + R.INC_STAT) ∧ t.rd (incBlk j + R.INC_COUNT) = s.rd (incBlk j + R.INC_COUNT)) ∧
        RegsBeside [] s t) ∧ Frame [.outs, .regs, .site, .pcie, .par] s t)) ∧
      (s.incMatch x.key = none → s.incFree = none → Gives .fcReport s (fun t => (t.flag parishBlk R.PAR_STAT_INC_OVF = true ∧ t.incOpen 63 = true ∧
        (s.incOpen 63 = true → Counted (incBlk 63 + R.INC_COUNT) 1 s t ∧ t.rd64 (incBlk 63 + R.INC_SITES_LO) = s.rd64 (incBlk 63 + R.INC_SITES_LO) ||| x.sites) ∧
        (s.incOpen 63 = false → t.rd (incBlk 63 + R.INC_COUNT) = 1 ∧ t.incKey 63 = locator 15 0 ∧ t.rd64 (incBlk 63 + R.INC_SITES_LO) = x.sites) ∧
        (∀ j, j < 63 → t.rd (incBlk j + R.INC_STAT) = s.rd (incBlk j + R.INC_STAT)) ∧ RegsBeside [] s t) ∧ Frame [.outs, .regs, .site, .pcie, .par] s t)))) ∧
  (∀ (l : List Report) (x : Report), firstReport l = some x → x ∈ l ∧ ∀ y ∈ l, x.key < y.key ∨ (x.key = y.key ∧ x.source ≤ y.source)) ∧
  (∀ (s : State) (key e : Nat), s.incMatch key = some e ↔ e < 63 ∧ s.incOpen e = true ∧ (s.incKey e = key ∨ keyContains (s.incKey e) key = true) ∧
    ∀ j, j < e → s.incOpen j = true → s.incKey j ≠ key ∧ keyContains (s.incKey j) key = false) ∧
  (∀ (s : State) (e : Nat), s.incFree = some e ↔ e < 63 ∧ (s.flag (incBlk e) R.INC_STAT_VALID = false ∨ (s.incOpen e = false ∧
      s.flag (incBlk e) R.INC_STAT_TAKEN = true)) ∧ ∀ j, j < e → s.flag (incBlk j) R.INC_STAT_VALID = true ∧
      (s.incOpen j = true ∨ s.flag (incBlk j) R.INC_STAT_TAKEN = false)) ∧
  (∀ i j, i < 4096 → j < 4096 →
    (i < 2 → keyContains (locator 1 i) (locator 6 j) = true ∧ keyContains (locator 1 i) (locator 7 j) = true ∧ keyContains (locator 1 i) (locator 8 j) = false) ∧
    (∀ k, k < 16 → (keyContains (locator 2 i) (locator k j) = true ↔ 3 ≤ k ∧ k ≤ 9)) ∧
    (i < 4 → j < 512 → keyContains (locator 3 (5 + i)) (locator 6 j) = decide (j / 128 = i)) ∧
    (i < 4 → keyContains (locator 3 (1 + i)) (locator 8 j) = decide (j / 32 = i) ∧ keyContains (locator 3 (1 + i)) (locator 7 j) = decide (j / 3 = i)) ∧
    keyContains (locator 8 i) (locator 8 j) = false) ∧
  (∀ (e : Fin 64) (s : State), (s.incOpen e.val = false → Gives (.incidentClose e) s (· = s)) ∧
    (∀ x, s.incOpen e.val = true → s.par.staging = [] → s.par.next < 2 ^ 32 → x = tabGet (fun _ => ({} : IncRt)) s.par.inc e.val →
      Gives (.incidentClose e) s (fun t => (t.incOpen e.val = false ∧ t.flag (incBlk e.val) R.INC_STAT_VALID = s.flag (incBlk e.val) R.INC_STAT_VALID ∧
        (∃ y, t.par.staging = [y] ∧ y.seq = recSeq s.par.next ∧ y.time = x.first ∧ y.code = s.rf (incBlk e.val) R.INC_CODE_CODE ∧ y.source = s.incKey e.val ∧
          y.sev = s.rf (incBlk e.val) R.INC_STAT_SEVERITY ∧ y.rep = min (s.rd (incBlk e.val + R.INC_COUNT)).toNat 65535 ∧
          y.data = s.rd64 (incBlk e.val + R.INC_SITES_LO) ∧ (∀ n, n < 64 → y.data = 2 ^ n → y.site = n) ∧
          ((∀ n, n < 64 → y.data ≠ 2 ^ n) → y.site = 0x7F)) ∧
        t.rf (incBlk e.val) R.INC_SEQ_SEQ = recSeq s.par.next ∧
        RegsBut ([incBlk e.val + R.INC_STAT, incBlk e.val + R.INC_SEQ] ++ stageRegs) s t) ∧ Frame [.regs, .par] s t))) ∧
  (∀ (r : Req) (v : Word) (s : State), s.Allows r (parishBlk + R.FC_ACK) true →
    let b := incBlk (v.toNat % 64)
    (s.rf b R.INC_STAT_GEN = natBits v.toNat 15 8 → s.flag b R.INC_STAT_VALID = true → Gives (.fcAck r v) s (fun t =>
      (t.flag b R.INC_STAT_TAKEN = true ∧ t.flag b R.INC_STAT_OPEN = s.flag b R.INC_STAT_OPEN ∧ t.rf b R.INC_STAT_GEN = s.rf b R.INC_STAT_GEN ∧
        t.outs = .rsp r .ok [] :: s.outs ∧ RegsBut [b + R.INC_STAT] s t) ∧ Frame [.outs, .regs] s t)) ∧
    (s.rf b R.INC_STAT_GEN ≠ natBits v.toNat 15 8 → Gives (.fcAck r v) s (fun t => t.outs = .rsp r .ok [] :: s.outs ∧ RegsBut [] s t ∧ Frame [.outs] s t)))

/-- The fabric at an edge of its clocks (R51-R55, R57, R62, R69-R71, R82, R89-R91, R97, R109, R474, R502): flipped configuration bits, cells and MAC
blocks that the edges clock, those they do not, the global set/reset, what block memories and level stiles are given, the source of a track, and a step
that counts the edges. What a failing path captures, and a combinational loop, are free values (log entry 5); a track that nothing drives reads 0 by the
model's choice (log entry 34). -/
def Obligations.FabricEdges : Prop :=
  (∀ (f : Fin 128) (edges : List (Fin 4 × Bool)) (ext lc ls lm : List Nat) (ups : List (Fin 139264 × Fin 72)) (s u w x : State) (v : FabEnv)
      (es : List (Nat × Bool)), u = s.flipCfg f.val (ups.map (fun e => (e.1.val, e.2.val))) → w = u.setFrt f.val { s.frt f.val with ext := ext } →
    x = (if (s.frt f.val).gsr then w.initCells f.val else w.settle f.val ext (Config.freeNat s.free)) → v = x.fabEnv f.val ext (Config.freeNat s.free) →
    es = s.liveEdges f.val edges →
    ((u.designOf f.val).cells.map Prod.fst).Nodup → (∀ e ∈ (u.designOf f.val).cells, e.1 < 262144) →
    ((u.designOf f.val).macs.map Prod.fst).Nodup → (∀ e ∈ (u.designOf f.val).macs, e.1 < 64) →
    Gives (.activeClockEdge f edges ext lc ls lm ups) s (fun t =>
      ((s.frt f.val).gsr = true → (∀ e ∈ (u.designOf f.val).cells, t.cellQ f.val e.1 = e.2.init) ∧
        ∀ c, c < 262144 → (∀ e ∈ (u.designOf f.val).cells, e.1 ≠ c) → t.cellQ f.val c = false) ∧
      ((s.frt f.val).gsr = false → ∀ e ∈ (u.designOf f.val).cells,
        (e.2.async = false → (cellClocked (u.designOf f.val) es e.1 = true → e.1 ∉ lc → e.1 ∉ ls → t.cellQ f.val e.1 = v.qNext e.1) ∧
          (cellClocked (u.designOf f.val) es e.1 = false → t.cellQ f.val e.1 = s.cellQ f.val e.1)) ∧
        (cellClocked (u.designOf f.val) es e.1 = true → e.1 ∉ lc → (v.srLine e.1 = true → t.cellQ f.val e.1 = e.2.srval) ∧
          (t.cellQ f.val e.1 = e.2.srval ∨ t.cellQ f.val e.1 = v.qNext e.1))) ∧
      (∀ e ∈ (u.designOf f.val).macs, (clkActive es e.2.clk = true → e.1 ∉ lm → s.macFast f.val e.2 = false → t.macAt f.val e.1 =
          v.macNext (macCfgOf e.1 e.2) (s.macAt f.val e.1) (if e.1 % 16 = 0 then 0 else (s.macAt f.val (e.1 - 1)).p)) ∧
        (clkActive es e.2.clk = false → t.macAt f.val e.1 = s.macAt f.val e.1)) ∧
      (∀ e ∈ (u.designOf f.val).bms, ∀ g p, bmOf (u.designOf f.val) e.1 = some g → clkActive es (if p = true then g.pb else g.pa).ck = true →
        Output.bmPins f.val e.1 p (v.bmPins g e.1 p (s.frt f.val).we) ∈ t.outs) ∧
      (∀ e ∈ (u.designOf f.val).levelOut, bandOut (e.1 / 64) (levelPos f.val (e.1 / 64) (e.1 % 64)) e.2 = true →
        Output.levelTx f.val (e.1 / 64) (e.1 % 64) (v.val (.track e.2)) ∈ t.outs) ∧
      (∀ g c, g ≠ f.val → (c < 262144 → t.cellQ g c = s.cellQ g c) ∧ (c < 64 → t.macAt g c = s.macAt g c)) ∧
      t.fab = { u.fab with q := t.fab.q, mac := t.fab.mac, rt := w.fab.rt } ∧ s.outs <:+ t.outs ∧
      (let n := tabGet (fun _ => 0) s.dbg.step f.val
       (n ≤ 1 ∨ (s.slowClock f.val, true) ∉ es → t.dbg = s.dbg ∧ RegsBut [] s t) ∧
       (3 ≤ n → (s.slowClock f.val, true) ∈ es → tabGet (fun _ => 0) t.dbg.step f.val = n - 1 ∧ RegsBut [] s t) ∧
       (n = 2 → (s.slowClock f.val, true) ∈ es → tabGet (fun _ => 0) t.dbg.step f.val = 1 ∧ t.flag (fieldPage f.val) R.FCK_STAT_HALTED = true ∧
         t.rf (fieldPage f.val) R.FCK_STAT_CK_ON = 0 ∧ RegsBut [fieldPage f.val + R.FCK_STAT] s t)) ∧ Frame [.free, .outs, .regs, .fab, .dbg] s t)) ∧
  (∀ (f : Nat) (edges : List (Fin 4 × Bool)) (n : Nat) (s : State), (n, true) ∈ s.liveEdges f edges →
    s.ckRuns f n = true ∧ ∀ m, m < 4 → s.ckRuns f m = true → s.ckDiv f n % s.ckDiv f m = 0 → m ∈ edges.filterMap (fun e => if e.2 then some e.1.val else none)) ∧
  (∀ (v : FabEnv) (n : Nat) (t : Track),
    (∀ k g, findDriver v.d t = some (k, g) → sig v (n + 1) (.track t) =
      sig v n (if g.isQ then .q (256 * (k / 64) + 16 * (4 * (k % 64 / 16) + g.row.val) + k % 16) else .o (256 * (k / 64) + 16 * (4 * (k % 64 / 16) + g.row.val) + k % 16))) ∧
    (findDriver v.d t = none → (findTrack v.f v.d t = none → sig v (n + 1) (.track t) = false) ∧
      (∀ u, findTrack v.f v.d t = some (.cont u) → contOk u t = true ∧ sig v (n + 1) (.track t) = sig v n (.track u)) ∧
      (∀ b p d, findTrack v.f v.d t = some (.bm b p d) → bmDrives b.val p d.val t = true ∧ sig v (n + 1) (.track t) = v.bm b.val p d.val) ∧
      (∀ m b, findTrack v.f v.d t = some (.mac m b) → macDrives m.val t = true ∧
        sig v (n + 1) (.track t) = if b = 64 then (v.mac m.val).ovf else natBit (v.mac m.val).p.toNat b))) ∧
  (∀ (d : FieldDesign) (es : List (Nat × Bool)) (c : Nat), cellClocked d es c = true ↔
    ∃ k, k = (if (cellOf d c).ckb then (clusterOf d (c / 16)).ckb else (clusterOf d (c / 16)).cka) ∧ (k.ck.val, !k.inv) ∈ es) ∧
  (∀ (v : FabEnv) (c : Nat), (v.srLine c = true → v.qNext c = (cellOf v.d c).srval) ∧
    (v.srLine c = false → v.ceLine c = false → v.qNext c = v.val (.q c)) ∧
    (v.srLine c = false → v.ceLine c = true → v.qNext c = (match (cellOf v.d c).dsrc with
      | .lut => v.val (.lut c) | .bx => v.val (.src (c / 16) (cellOf v.d c).bx) | .comb => v.val (.o c)))) ∧
  (∀ (v : FabEnv) (n c : Nat), let g := cellOf v.d c
    let x := fun y : XSrc => b2n (sig v n (.src (c / 16) y))
    let ci := if c % 16 = 0 then sig v n (.cin (c / 16)) else sig v n (.cout (c - 1))
    (g.arith = false → sig v (n + 1) (.lut c) = g.mask.getLsbD (8 * x g.d + 4 * x g.c + 2 * x g.b + x g.a)) ∧
    (g.arith = true → sig v (n + 1) (.lut c) = xor (g.mask.getLsbD (4 * x g.c + 2 * x g.b + x g.a)) ci) ∧
    sig v (n + 1) (.cout c) = (g.mask.getLsbD (8 + (4 * x g.c + 2 * x g.b + x g.a)) || (g.mask.getLsbD (4 * x g.c + 2 * x g.b + x g.a) && ci)) ∧
    (∀ st, sig v (n + 1) (.comb (st + 1) c) = if sig v n (.src (c / 16) ((clusterOf v.d (c / 16)).sel.getD st (.o 0))) then sig v n (.comb st c)
      else sig v n (.comb st (c - 2 ^ st)))) ∧
  (∀ (v : FabEnv) (g : MacCfg) (m : MacSt) (casc : DWord), (v.port g.rst false = true → v.macNext g m casc = {}) ∧
    (v.port g.rst false = false → v.port g.ce true = false → v.macNext g m casc = m) ∧
    (v.port g.rst false = false → v.port g.ce true = true → (v.macNext g m casc).a = v.trackVal g.a ∧ (v.macNext g m casc).b = v.trackVal g.b ∧
      (∀ a b c ld sb, (if g.inReg then (a, b, c, ld, sb) = (m.a, m.b, m.c, m.load, m.sub)
          else (a, b, c, ld, sb) = (v.trackVal g.a, v.trackVal g.b, v.trackVal g.c, v.port g.load false, v.port g.sub false)) →
        (v.macNext g m casc).prod = signedVal 27 a * signedVal 27 b ∧
        ∀ (p : Int) (l u : Bool), (if g.prodReg then (p, l, u) = (m.prod, m.pload, m.psub) else (p, l, u) = (signedVal 27 a * signedVal 27 b, ld, sb)) →
          ∃ z : Int, (v.macNext g m casc).p = BitVec.ofInt 64 z ∧
            (v.macNext g m casc).ovf = (decide ((BitVec.ofInt 64 z).toInt ≠ z) || (m.ovf && !l)) ∧
            (match g.mode with
              | .mul => z = p
              | .add => z = signedVal 64 c + (if u then -p else p)
              | .acc => z = (if l then signedVal 64 c else m.p.toInt) + (if u then -p else p)
              | .casc => z = casc.toInt + (if u then -p else p)))))
end

