-- ==== Sys2Proof/Laws/Bits.lean ====
section
/-! SUPPORT. What reading and replacing a bit field do, bit by bit. -/
namespace Sys2Proof.Machine

theorem testBit_natBits (x hi lo i : Nat) : (natBits x hi lo).testBit i = (decide (i < hi + 1 - lo) && x.testBit (lo + i)) := by
  rw [natBits, Nat.testBit_mod_two_pow, Nat.testBit_shiftRight]

theorem natBit_eq (x i : Nat) : natBit x i = x.testBit i := by
  rw [natBit, Nat.testBit_eq_decide_div_mod_eq, Nat.shiftRight_eq_div_pow]
  exact Bool.beq_eq_decide_eq _ _

/-- A number cut at a bit field: what lies above, the field, and what lies below. -/
theorem cut_field (x lo n : Nat) : x = 2 ^ lo * (2 ^ n * (x / 2 ^ lo / 2 ^ n) + x / 2 ^ lo % 2 ^ n) + x % 2 ^ lo := by
  rw [Nat.div_add_mod, Nat.div_add_mod]

theorem natSet_eq (x hi lo v : Nat) :
    natSet x hi lo v = 2 ^ lo * (2 ^ (hi + 1 - lo) * (x / 2 ^ lo / 2 ^ (hi + 1 - lo)) + v % 2 ^ (hi + 1 - lo)) + x % 2 ^ lo := by
  generalize hn : hi + 1 - lo = n
  simp only [natSet, hn, Nat.shiftRight_eq_div_pow]
  have h := cut_field x lo n
  have e : x / 2 ^ lo % 2 ^ n * 2 ^ lo = 2 ^ lo * (x / 2 ^ lo % 2 ^ n) := Nat.mul_comm _ _
  have e' : v % 2 ^ n * 2 ^ lo = 2 ^ lo * (v % 2 ^ n) := Nat.mul_comm _ _
  rw [e, e', Nat.mul_add]
  rw [Nat.mul_add] at h
  omega

/-- A replaced field reads as its new value, and every other bit as before. -/
theorem testBit_natSet (x hi lo v i : Nat) :
    (natSet x hi lo v).testBit i = if lo ≤ i ∧ i ≤ hi then v.testBit (i - lo) else x.testBit i := by
  generalize hn : hi + 1 - lo = n
  rw [natSet_eq, hn, Nat.testBit_two_pow_mul_add _ (Nat.mod_lt _ (Nat.two_pow_pos lo)),
    Nat.testBit_two_pow_mul_add _ (Nat.mod_lt _ (Nat.two_pow_pos n)), Nat.testBit_mod_two_pow, Nat.testBit_mod_two_pow,
    Nat.testBit_div_two_pow, Nat.testBit_div_two_pow]
  by_cases h1 : i < lo
  · rw [if_pos h1, if_neg (by omega)]
    simp [h1]
  · rw [if_neg h1]
    by_cases h2 : i - lo < n
    · rw [if_pos h2, if_pos (by omega)]
      simp [h2]
    · rw [if_neg h2, if_neg (by omega)]
      congr 1
      omega

theorem testBit_wordSet (w : Word) (hi lo v i : Nat) :
    (wordSet w hi lo v).toNat.testBit i = if i < 32 then (if lo ≤ i ∧ i ≤ hi then v.testBit (i - lo) else w.toNat.testBit i) else false := by
  simp only [wordSet, BitVec.toNat_ofNat, Nat.testBit_mod_two_pow, testBit_natSet]
  by_cases h : i < 32 <;> simp [h]

/-- A field of a word reads as it was written. -/
theorem wordBits_wordSet (w : Word) (hi lo v : Nat) (h : hi < 32) :
    wordBits (wordSet w hi lo v) hi lo = v % 2 ^ (hi + 1 - lo) := by
  apply Nat.eq_of_testBit_eq
  intro i
  rw [wordBits, testBit_natBits, testBit_wordSet, Nat.testBit_mod_two_pow]
  by_cases hi' : i < hi + 1 - lo
  · have h1 : lo + i < 32 := by omega
    have h2 : lo ≤ lo + i ∧ lo + i ≤ hi := by omega
    simp only [hi', h1, h2, decide_true, Bool.true_and, if_true, and_self, Nat.add_sub_cancel_left]
  · simp [hi']

/-- A field of a word keeps its value when another, apart from it, is written. -/
theorem wordBits_wordSet_apart (w : Word) (hi lo v hi' lo' : Nat) (h : hi' < 32) (d : hi' < lo ∨ hi < lo') :
    wordBits (wordSet w hi lo v) hi' lo' = wordBits w hi' lo' := by
  apply Nat.eq_of_testBit_eq
  intro i
  rw [wordBits, wordBits, testBit_natBits, testBit_natBits, testBit_wordSet]
  by_cases hi'' : i < hi' + 1 - lo'
  · have h1 : lo' + i < 32 := by omega
    have h2 : ¬ (lo ≤ lo' + i ∧ lo' + i ≤ hi) := by omega
    simp only [hi'', h1, h2, decide_true, Bool.true_and, if_true, if_false]
  · simp [hi'']

end Sys2Proof.Machine
end

