-- ==== Sys2Proof/Laws/Tab.lean ====
section
/-! SUPPORT. Laws of sparse tables: a read after a write, and the canonical form, which every operation keeps. -/
namespace Sys2Proof.Machine

variable {α : Type}

theorem tabFind_tabIns (t : Tab α) (k : Nat) (v : α) (j : Nat) :
    tabFind (tabIns t k v) j = if k = j then some v else tabFind t j := by
  induction t with
  | nil => simp [tabIns, tabFind]
  | cons e t ih =>
    obtain ⟨i, w⟩ := e
    unfold tabIns
    split
    · simp [tabFind]
    · split
      · next h => subst h; simp only [tabFind]; split <;> rfl
      · simp only [tabFind, ih]
        split <;> split <;> first | rfl | omega

theorem tabFind_filter (t : Tab α) (p : Nat → Bool) (j : Nat) :
    tabFind (t.filter (fun e => p e.1)) j = if p j then tabFind t j else none := by
  induction t with
  | nil => simp [tabFind]
  | cons e t ih =>
    obtain ⟨i, w⟩ := e
    by_cases hp : p i
    · simp only [List.filter_cons, hp, if_true, tabFind, ih]
      split
      · next h => subst h; simp [hp]
      · rfl
    · simp only [List.filter_cons, hp, tabFind, ih]
      by_cases h : i = j
      · subst h; simpa [hp] using ih
      · simpa [h] using ih

theorem tabFind_tabErase (t : Tab α) (k j : Nat) : tabFind (tabErase t k) j = if k = j then none else tabFind t j := by
  have h := tabFind_filter t (fun i => i != k) j
  simp only [tabErase, h]
  by_cases hk : k = j
  · simp [hk]
  · simp [hk, Ne.symm hk]

/-- A read after a write gives the value written, and every other key reads as before. -/
@[simp] theorem tabGet_tabPut [DecidableEq α] (d : Nat → α) (t : Tab α) (k : Nat) (v : α) (j : Nat) :
    tabGet d (tabPut d t k v) j = if k = j then v else tabGet d t j := by
  unfold tabPut tabGet
  split
  · next h => rw [tabFind_tabErase]; split <;> simp_all
  · rw [tabFind_tabIns]; split <;> rfl

@[simp] theorem tabGet_nil (d : Nat → α) (k : Nat) : tabGet d [] k = d k := rfl

/-- A kept table reads as before at the keys kept, and as an empty one at the others. -/
@[simp] theorem tabGet_tabKeep (d : Nat → α) (t : Tab α) (p : Nat → Bool) (j : Nat) :
    tabGet d (tabKeep t p) j = if p j then tabGet d t j else d j := by
  unfold tabKeep tabGet
  rw [tabFind_filter]; split <;> rfl

/-! ### The canonical form -/

theorem tabSorted_cons (a : Nat × α) (t : Tab α) :
    tabSorted (a :: t) = true ↔ (∀ e, t.head? = some e → a.1 < e.1) ∧ tabSorted t = true := by
  cases t with
  | nil => simp [tabSorted]
  | cons b t => simp [tabSorted]

theorem tabSorted_iff (t : Tab α) : tabSorted t = true ↔ t.Pairwise (fun a b => a.1 < b.1) := by
  induction t with
  | nil => simp [tabSorted]
  | cons a t ih =>
    rw [tabSorted_cons, ih, List.pairwise_cons]
    constructor
    · rintro ⟨h1, h2⟩
      refine ⟨fun e he => ?_, h2⟩
      cases t with
      | nil => cases he
      | cons b t =>
        have hb := h1 b rfl
        rcases List.mem_cons.mp he with rfl | h
        · exact hb
        · exact Nat.lt_trans hb ((List.pairwise_cons.mp h2).1 e h)
    · rintro ⟨h1, h2⟩
      refine ⟨fun e he => h1 e ?_, h2⟩
      cases t with
      | nil => simp at he
      | cons b t => simp at he; subst he; simp

theorem tabWf_iff [DecidableEq α] (d : Nat → α) (t : Tab α) :
    tabWf d t = true ↔ t.Pairwise (fun a b => a.1 < b.1) ∧ ∀ e ∈ t, e.2 ≠ d e.1 := by
  simp [tabWf, tabSorted_iff]

@[simp] theorem tabWf_nil [DecidableEq α] (d : Nat → α) : tabWf d [] = true := rfl

/-- Entries dropped leave the canonical form. -/
theorem tabWf_filter [DecidableEq α] {d : Nat → α} {t : Tab α} (p : Nat × α → Bool) (h : tabWf d t = true) :
    tabWf d (t.filter p) = true := by
  rw [tabWf_iff] at h ⊢
  exact ⟨h.1.filter p, fun e he => h.2 e ((List.mem_filter.mp he).1)⟩

theorem tabWf_tabErase [DecidableEq α] {d : Nat → α} {t : Tab α} (k : Nat) (h : tabWf d t = true) : tabWf d (tabErase t k) = true :=
  tabWf_filter _ h

theorem tabWf_tabKeep [DecidableEq α] {d : Nat → α} {t : Tab α} (p : Nat → Bool) (h : tabWf d t = true) : tabWf d (tabKeep t p) = true :=
  tabWf_filter _ h

theorem mem_tabIns {t : Tab α} {k : Nat} {v : α} {e : Nat × α} (h : e ∈ tabIns t k v) : e = (k, v) ∨ e ∈ t := by
  induction t with
  | nil => simpa [tabIns] using h
  | cons a t ih =>
    obtain ⟨i, w⟩ := a
    unfold tabIns at h
    split at h
    · simpa using h
    · split at h
      · rcases List.mem_cons.mp h with h | h
        · exact .inl h
        · exact .inr (List.mem_cons_of_mem _ h)
      · rcases List.mem_cons.mp h with h | h
        · exact .inr (h ▸ List.mem_cons_self)
        · exact (ih h).imp id (List.mem_cons_of_mem _)

theorem tabWf_tabIns [DecidableEq α] {d : Nat → α} {t : Tab α} {k : Nat} {v : α} (hv : v ≠ d k) (h : tabWf d t = true) :
    tabWf d (tabIns t k v) = true := by
  rw [tabWf_iff] at h ⊢
  obtain ⟨hs, hd⟩ := h
  refine ⟨?_, fun e he => ?_⟩
  · induction t with
    | nil => simp [tabIns]
    | cons a t ih =>
      obtain ⟨i, w⟩ := a
      have ht := List.pairwise_cons.mp hs
      unfold tabIns
      split
      · next hlt =>
        refine List.pairwise_cons.mpr ⟨fun e he => ?_, hs⟩
        rcases List.mem_cons.mp he with rfl | he
        · exact hlt
        · exact Nat.lt_trans hlt (ht.1 e he)
      · split
        · next heq => exact List.pairwise_cons.mpr ⟨fun e he => heq ▸ ht.1 e he, ht.2⟩
        · refine List.pairwise_cons.mpr ⟨fun e he => ?_, ih ht.2 (fun e he => hd e (List.mem_cons_of_mem _ he))⟩
          rcases mem_tabIns he with rfl | he
          · simp only; omega
          · exact ht.1 e he
  · rcases mem_tabIns he with rfl | he
    · exact hv
    · exact hd e he

/-- A write keeps the canonical form. -/
theorem tabWf_tabPut [DecidableEq α] {d : Nat → α} {t : Tab α} (k : Nat) (v : α) (h : tabWf d t = true) :
    tabWf d (tabPut d t k v) = true := by
  unfold tabPut
  split
  · exact tabWf_tabErase k h
  · next hv => exact tabWf_tabIns hv h

end Sys2Proof.Machine
end

