-- ==== Sys2Proof/Laws/Frame.lean ====
section
/-! SUPPORT. The frame of an operation: which fields of the state it may change, that it keeps the canonical form of the stored tables, and that
what was ordered and what was emitted stand. -/
namespace Sys2Proof.Machine

/-- The fields of `t` whose bit in `m` is 0 are those of `s`. The bits number the fields of State in their order. -/
structure Keep (m : Nat) (s t : State) : Prop where
  pending : m.testBit 0 = false → t.pending = s.pending
  part : m.testBit 1 = false → t.part = s.part
  mode : m.testBit 2 = false → t.mode = s.mode
  now : m.testBit 3 = false → t.now = s.now
  ttc : m.testBit 4 = false → t.ttc = s.ttc
  cal : m.testBit 5 = false → t.cal = s.cal
  rtc : m.testBit 6 = false → t.rtc = s.rtc
  free : m.testBit 7 = false → t.free = s.free
  outs : m.testBit 8 = false → t.outs = s.outs
  regs : m.testBit 9 = false → t.regs = s.regs
  latch : m.testBit 10 = false → t.latch = s.latch
  staged : m.testBit 11 = false → t.staged = s.staged
  diesDown : m.testBit 12 = false → t.diesDown = s.diesDown
  fab : m.testBit 13 = false → t.fab = s.fab
  mem : m.testBit 14 = false → t.mem = s.mem
  site : m.testBit 15 = false → t.site = s.site
  pcie : m.testBit 16 = false → t.pcie = s.pcie
  par : m.testBit 17 = false → t.par = s.par
  kelk : m.testBit 18 = false → t.kelk = s.kelk
  ring : m.testBit 19 = false → t.ring = s.ring
  llp : m.testBit 20 = false → t.llp = s.llp
  cap : m.testBit 21 = false → t.cap = s.cap
  clk : m.testBit 22 = false → t.clk = s.clk
  mill : m.testBit 23 = false → t.mill = s.mill
  dram : m.testBit 24 = false → t.dram = s.dram
  host : m.testBit 25 = false → t.host = s.host
  cfg : m.testBit 26 = false → t.cfg = s.cfg
  sec : m.testBit 27 = false → t.sec = s.sec
  dbg : m.testBit 28 = false → t.dbg = s.dbg
  fills : m.testBit 29 = false → t.fills = s.fills
  gpio : m.testBit 30 = false → t.gpio = s.gpio
  start : m.testBit 31 = false → t.start = s.start
  cores : m.testBit 32 = false → t.cores = s.cores
  guest : m.testBit 33 = false → t.guest = s.guest
  com : m.testBit 34 = false → t.com = s.com
  ledger : m.testBit 35 = false → t.ledger = s.ledger

/-- An operation that leads from `s` to `t` and may change the fields of `m` alone. -/
structure Upd (m : Nat) (s t : State) : Prop where
  keep : Keep m s t
  inv : s.Inv → t.Inv
  later : s.Later t

theorem Keep.refl (m : Nat) (s : State) : Keep m s s := by constructor <;> exact fun _ => rfl

theorem Keep.trans {m : Nat} {s t u : State} (h : Keep m s t) (g : Keep m t u) : Keep m s u := by
  constructor
  · exact fun b => (g.pending b).trans (h.pending b)
  · exact fun b => (g.part b).trans (h.part b)
  · exact fun b => (g.mode b).trans (h.mode b)
  · exact fun b => (g.now b).trans (h.now b)
  · exact fun b => (g.ttc b).trans (h.ttc b)
  · exact fun b => (g.cal b).trans (h.cal b)
  · exact fun b => (g.rtc b).trans (h.rtc b)
  · exact fun b => (g.free b).trans (h.free b)
  · exact fun b => (g.outs b).trans (h.outs b)
  · exact fun b => (g.regs b).trans (h.regs b)
  · exact fun b => (g.latch b).trans (h.latch b)
  · exact fun b => (g.staged b).trans (h.staged b)
  · exact fun b => (g.diesDown b).trans (h.diesDown b)
  · exact fun b => (g.fab b).trans (h.fab b)
  · exact fun b => (g.mem b).trans (h.mem b)
  · exact fun b => (g.site b).trans (h.site b)
  · exact fun b => (g.pcie b).trans (h.pcie b)
  · exact fun b => (g.par b).trans (h.par b)
  · exact fun b => (g.kelk b).trans (h.kelk b)
  · exact fun b => (g.ring b).trans (h.ring b)
  · exact fun b => (g.llp b).trans (h.llp b)
  · exact fun b => (g.cap b).trans (h.cap b)
  · exact fun b => (g.clk b).trans (h.clk b)
  · exact fun b => (g.mill b).trans (h.mill b)
  · exact fun b => (g.dram b).trans (h.dram b)
  · exact fun b => (g.host b).trans (h.host b)
  · exact fun b => (g.cfg b).trans (h.cfg b)
  · exact fun b => (g.sec b).trans (h.sec b)
  · exact fun b => (g.dbg b).trans (h.dbg b)
  · exact fun b => (g.fills b).trans (h.fills b)
  · exact fun b => (g.gpio b).trans (h.gpio b)
  · exact fun b => (g.start b).trans (h.start b)
  · exact fun b => (g.cores b).trans (h.cores b)
  · exact fun b => (g.guest b).trans (h.guest b)
  · exact fun b => (g.com b).trans (h.com b)
  · exact fun b => (g.ledger b).trans (h.ledger b)

theorem testBit_sub {k m i : Nat} (h : k &&& m = k) (b : m.testBit i = false) : k.testBit i = false := by
  rw [← h, Nat.testBit_and, b, Bool.and_false]

theorem Keep.mono {k m : Nat} {s t : State} (h : Keep k s t) (e : k &&& m = k) : Keep m s t := by
  constructor
  · exact fun b => h.pending (testBit_sub e b)
  · exact fun b => h.part (testBit_sub e b)
  · exact fun b => h.mode (testBit_sub e b)
  · exact fun b => h.now (testBit_sub e b)
  · exact fun b => h.ttc (testBit_sub e b)
  · exact fun b => h.cal (testBit_sub e b)
  · exact fun b => h.rtc (testBit_sub e b)
  · exact fun b => h.free (testBit_sub e b)
  · exact fun b => h.outs (testBit_sub e b)
  · exact fun b => h.regs (testBit_sub e b)
  · exact fun b => h.latch (testBit_sub e b)
  · exact fun b => h.staged (testBit_sub e b)
  · exact fun b => h.diesDown (testBit_sub e b)
  · exact fun b => h.fab (testBit_sub e b)
  · exact fun b => h.mem (testBit_sub e b)
  · exact fun b => h.site (testBit_sub e b)
  · exact fun b => h.pcie (testBit_sub e b)
  · exact fun b => h.par (testBit_sub e b)
  · exact fun b => h.kelk (testBit_sub e b)
  · exact fun b => h.ring (testBit_sub e b)
  · exact fun b => h.llp (testBit_sub e b)
  · exact fun b => h.cap (testBit_sub e b)
  · exact fun b => h.clk (testBit_sub e b)
  · exact fun b => h.mill (testBit_sub e b)
  · exact fun b => h.dram (testBit_sub e b)
  · exact fun b => h.host (testBit_sub e b)
  · exact fun b => h.cfg (testBit_sub e b)
  · exact fun b => h.sec (testBit_sub e b)
  · exact fun b => h.dbg (testBit_sub e b)
  · exact fun b => h.fills (testBit_sub e b)
  · exact fun b => h.gpio (testBit_sub e b)
  · exact fun b => h.start (testBit_sub e b)
  · exact fun b => h.cores (testBit_sub e b)
  · exact fun b => h.guest (testBit_sub e b)
  · exact fun b => h.com (testBit_sub e b)
  · exact fun b => h.ledger (testBit_sub e b)

theorem State.Later.refl (s : State) : s.Later s := ⟨rfl, ⟨[], rfl⟩, Nat.le_refl _⟩

theorem State.Later.trans {s t u : State} (h : s.Later t) (g : t.Later u) : s.Later u := by
  obtain ⟨p, ⟨l, hl⟩, f⟩ := h
  obtain ⟨q, ⟨k, hk⟩, e⟩ := g
  exact ⟨q.trans p, ⟨k ++ l, by rw [hk, hl, List.append_assoc]⟩, Nat.le_trans f e⟩

theorem Upd.refl (m : Nat) (s : State) : Upd m s s := ⟨Keep.refl m s, id, .refl s⟩

theorem Upd.trans {m : Nat} {s t u : State} (h : Upd m s t) (g : Upd m t u) : Upd m s u :=
  ⟨h.keep.trans g.keep, g.inv ∘ h.inv, h.later.trans g.later⟩

theorem Upd.mono {k m : Nat} {s t : State} (h : Upd k s t) (e : k &&& m = k) : Upd m s t := ⟨h.keep.mono e, h.inv, h.later⟩

/-- One operation more. -/
theorem Upd.step {k m : Nat} {s x y : State} (g : Upd k x y) (e : k &&& m = k) (h : Upd m s x) : Upd m s y := h.trans (g.mono e)

theorem Upd.ite {m : Nat} {s a b : State} {c : Prop} [Decidable c] (h : Upd m s a) (g : Upd m s b) : Upd m s (if c then a else b) := by
  split
  · exact h
  · exact g

theorem Upd.foldl {α : Type} {m : Nat} {s x : State} {f : State → α → State} {l : List α} (h : Upd m s x)
    (g : ∀ y a, Upd m s y → Upd m s (f y a)) : Upd m s (l.foldl f x) := by
  induction l generalizing x with
  | nil => exact h
  | cons a l ih => exact ih (g x a h)

/-- The same of a value that comes with a state. -/
def UpdP {α : Type} (m : Nat) (s : State) (p : α × State) : Prop := Upd m s p.2

theorem UpdP.mk {α : Type} {m : Nat} {s x : State} {a : α} (h : Upd m s x) : UpdP m s (a, x) := h

theorem UpdP.out {α : Type} {m : Nat} {s x : State} {p : α × State} {a : α} (h : UpdP m s p) (e : p = (a, x)) : Upd m s x := by
  subst e; exact h

theorem UpdP.step {α : Type} {k m : Nat} {s x : State} {p : α × State} (g : UpdP k x p) (e : k &&& m = k) (h : Upd m s x) : UpdP m s p :=
  Upd.step g e h

theorem UpdP.snd {α : Type} {m : Nat} {s : State} {p : α × State} (h : UpdP m s p) : Upd m s p.2 := h

theorem UpdP.ite {α : Type} {m : Nat} {s : State} {a b : α × State} {c : Prop} [Decidable c] (h : UpdP m s a) (g : UpdP m s b) :
    UpdP m s (if c then a else b) := by
  split
  · exact h
  · exact g

/-- The same of two values that come with a state. -/
def UpdQ {α β : Type} (m : Nat) (s : State) (p : α × β × State) : Prop := Upd m s p.2.2

theorem UpdQ.mk {α β : Type} {m : Nat} {s x : State} {a : α} {b : β} (h : Upd m s x) : UpdQ m s (a, b, x) := h

theorem UpdQ.out {α β : Type} {m : Nat} {s x : State} {p : α × β × State} {a : α} {b : β} (h : UpdQ m s p) (e : p = (a, b, x)) :
    Upd m s x := by
  subst e; exact h

theorem UpdQ.step {α β : Type} {k m : Nat} {s x : State} {p : α × β × State} (g : UpdQ k x p) (e : k &&& m = k) (h : Upd m s x) :
    UpdQ m s p :=
  Upd.step g e h

theorem UpdQ.ite {α β : Type} {m : Nat} {s : State} {a b : α × β × State} {c : Prop} [Decidable c] (h : UpdQ m s a) (g : UpdQ m s b) :
    UpdQ m s (if c then a else b) := by
  split
  · exact h
  · exact g

/-- The same of a state that comes with a value. -/
def UpdL {α : Type} (m : Nat) (s : State) (p : State × α) : Prop := Upd m s p.1

theorem UpdL.mk {α : Type} {m : Nat} {s x : State} {a : α} (h : Upd m s x) : UpdL m s (x, a) := h

theorem UpdL.out {α : Type} {m : Nat} {s x : State} {p : State × α} {a : α} (h : UpdL m s p) (e : p = (x, a)) : Upd m s x := by
  subst e; exact h

theorem UpdL.fst {α : Type} {m : Nat} {s : State} {p : State × α} (h : UpdL m s p) : Upd m s p.1 := h

theorem UpdL.step {α : Type} {k m : Nat} {s x : State} {p : State × α} (g : UpdL k x p) (e : k &&& m = k) (h : Upd m s x) : UpdL m s p :=
  Upd.step g e h

theorem UpdL.ite {α : Type} {m : Nat} {s : State} {a b : State × α} {c : Prop} [Decidable c] (h : UpdL m s a) (g : UpdL m s b) :
    UpdL m s (if c then a else b) := by
  split
  · exact h
  · exact g

theorem UpdL.foldl {α β : Type} {m : Nat} {s : State} {x : State × β} {f : State × β → α → State × β} {l : List α} (h : UpdL m s x)
    (g : ∀ y a, UpdL m s y → UpdL m s (f y a)) : UpdL m s (l.foldl f x) := by
  induction l generalizing x with
  | nil => exact h
  | cons a l ih => exact ih (g x a h)

theorem UpdP.foldl {α β : Type} {m : Nat} {s : State} {x : β × State} {f : β × State → α → β × State} {l : List α} (h : UpdP m s x)
    (g : ∀ y a, UpdP m s y → UpdP m s (f y a)) : UpdP m s (l.foldl f x) := by
  induction l generalizing x with
  | nil => exact h
  | cons a l ih => exact ih (g x a h)

theorem UpdQ.foldl {α β γ : Type} {m : Nat} {s : State} {x : β × γ × State} {f : β × γ × State → α → β × γ × State} {l : List α}
    (h : UpdQ m s x) (g : ∀ y a, UpdQ m s y → UpdQ m s (f y a)) : UpdQ m s (l.foldl f x) := by
  induction l generalizing x with
  | nil => exact h
  | cons a l ih => exact ih (g x a h)

/-- A command that answers a next state, reached so. -/
def UpdO (m : Nat) (s : State) (o : Host.Outcome State Fault Refusal) : Prop := ∃ t, o = .next t ∧ Upd m s t

theorem UpdO.next {m : Nat} {s t : State} (h : Upd m s t) : UpdO m s (.next t) := ⟨t, rfl, h⟩

theorem UpdO.out {m : Nat} {s t : State} (h : UpdO m s (.next t)) : Upd m s t := by
  obtain ⟨u, e, g⟩ := h
  cases e; exact g

theorem UpdO.ite {m : Nat} {s : State} {a b : Host.Outcome State Fault Refusal} {c : Prop} [Decidable c] (h : UpdO m s a) (g : UpdO m s b) :
    UpdO m s (if c then a else b) := by
  split
  · exact h
  · exact g

theorem State.regsWf_iff {s : State} : s.regsWf = true ↔
    tabWf regReset s.regs = true ∧ tabWf (fun _ => 0) s.latch = true ∧ tabWf (fun _ => none) s.staged = true := by
  simp [State.regsWf, and_assoc]

theorem Upd.set_pending (x : State) (v0 : List Instr) : Upd 0x1 x { x with pending := v0 } := by
  refine ⟨?_, id, rfl, ⟨[], rfl⟩, Nat.le_refl _⟩
  constructor <;> first | exact fun _ => rfl | exact fun h => absurd h (by decide)

theorem Upd.set_mode (x : State) (v0 : Mode) : Upd 0x4 x { x with mode := v0 } := by
  refine ⟨?_, id, rfl, ⟨[], rfl⟩, Nat.le_refl _⟩
  constructor <;> first | exact fun _ => rfl | exact fun h => absurd h (by decide)

theorem Upd.set_regs (x : State) (v0 : Tab Word)
    (h0 : tabWf regReset x.regs = true → tabWf regReset v0 = true) :
    Upd 0x200 x { x with regs := v0 } := by
  refine ⟨?_, fun g => ⟨by
    have h := State.regsWf_iff.mp g.1
    exact State.regsWf_iff.mpr ⟨h0 h.1, h.2.1, h.2.2⟩, g.2.1, g.2.2⟩, rfl, ⟨[], rfl⟩, Nat.le_refl _⟩
  constructor <;> first | exact fun _ => rfl | exact fun h => absurd h (by decide)

theorem Upd.set_latch (x : State) (v0 : Tab Word)
    (h0 : tabWf (fun _ => 0) x.latch = true → tabWf (fun _ => 0) v0 = true) :
    Upd 0x400 x { x with latch := v0 } := by
  refine ⟨?_, fun g => ⟨by
    have h := State.regsWf_iff.mp g.1
    exact State.regsWf_iff.mpr ⟨h.1, h0 h.2.1, h.2.2⟩, g.2.1, g.2.2⟩, rfl, ⟨[], rfl⟩, Nat.le_refl _⟩
  constructor <;> first | exact fun _ => rfl | exact fun h => absurd h (by decide)

theorem Upd.set_staged (x : State) (v0 : Tab (Option Word))
    (h0 : tabWf (fun _ => none) x.staged = true → tabWf (fun _ => none) v0 = true) :
    Upd 0x800 x { x with staged := v0 } := by
  refine ⟨?_, fun g => ⟨by
    have h := State.regsWf_iff.mp g.1
    exact State.regsWf_iff.mpr ⟨h.1, h.2.1, h0 h.2.2⟩, g.2.1, g.2.2⟩, rfl, ⟨[], rfl⟩, Nat.le_refl _⟩
  constructor <;> first | exact fun _ => rfl | exact fun h => absurd h (by decide)

theorem Upd.set_diesDown (x : State) (v0 : Nat) : Upd 0x1000 x { x with diesDown := v0 } := by
  refine ⟨?_, id, rfl, ⟨[], rfl⟩, Nat.le_refl _⟩
  constructor <;> first | exact fun _ => rfl | exact fun h => absurd h (by decide)

theorem Upd.set_fab (x : State) (v0 : FabSt) : Upd 0x2000 x { x with fab := v0 } := by
  refine ⟨?_, id, rfl, ⟨[], rfl⟩, Nat.le_refl _⟩
  constructor <;> first | exact fun _ => rfl | exact fun h => absurd h (by decide)

theorem Upd.set_mem (x : State) (v0 : MemSt)
    (h0 : x.mem.wf = true → v0.wf = true) : Upd 0x4000 x { x with mem := v0 } := by
  refine ⟨?_, fun g => ⟨g.1, h0 g.2.1, g.2.2⟩, rfl, ⟨[], rfl⟩, Nat.le_refl _⟩
  constructor <;> first | exact fun _ => rfl | exact fun h => absurd h (by decide)

theorem Upd.set_site (x : State) (v0 : Tab SiteRt) : Upd 0x8000 x { x with site := v0 } := by
  refine ⟨?_, id, rfl, ⟨[], rfl⟩, Nat.le_refl _⟩
  constructor <;> first | exact fun _ => rfl | exact fun h => absurd h (by decide)

theorem Upd.set_pcie (x : State) (v0 : PcieSt) : Upd 0x10000 x { x with pcie := v0 } := by
  refine ⟨?_, id, rfl, ⟨[], rfl⟩, Nat.le_refl _⟩
  constructor <;> first | exact fun _ => rfl | exact fun h => absurd h (by decide)

theorem Upd.set_par (x : State) (v0 : ParishSt) : Upd 0x20000 x { x with par := v0 } := by
  refine ⟨?_, id, rfl, ⟨[], rfl⟩, Nat.le_refl _⟩
  constructor <;> first | exact fun _ => rfl | exact fun h => absurd h (by decide)

theorem Upd.set_kelk (x : State) (v0 : KelkSt) : Upd 0x40000 x { x with kelk := v0 } := by
  refine ⟨?_, id, rfl, ⟨[], rfl⟩, Nat.le_refl _⟩
  constructor <;> first | exact fun _ => rfl | exact fun h => absurd h (by decide)

theorem Upd.set_ring (x : State) (v0 : RingSt) : Upd 0x80000 x { x with ring := v0 } := by
  refine ⟨?_, id, rfl, ⟨[], rfl⟩, Nat.le_refl _⟩
  constructor <;> first | exact fun _ => rfl | exact fun h => absurd h (by decide)

theorem Upd.set_llp (x : State) (v0 : LlpSt) : Upd 0x100000 x { x with llp := v0 } := by
  refine ⟨?_, id, rfl, ⟨[], rfl⟩, Nat.le_refl _⟩
  constructor <;> first | exact fun _ => rfl | exact fun h => absurd h (by decide)

theorem Upd.set_cap (x : State) (v0 : CapSt) : Upd 0x200000 x { x with cap := v0 } := by
  refine ⟨?_, id, rfl, ⟨[], rfl⟩, Nat.le_refl _⟩
  constructor <;> first | exact fun _ => rfl | exact fun h => absurd h (by decide)

theorem Upd.set_clk (x : State) (v0 : ClkSt) : Upd 0x400000 x { x with clk := v0 } := by
  refine ⟨?_, id, rfl, ⟨[], rfl⟩, Nat.le_refl _⟩
  constructor <;> first | exact fun _ => rfl | exact fun h => absurd h (by decide)

theorem Upd.set_mill (x : State) (v0 : MillAll) : Upd 0x800000 x { x with mill := v0 } := by
  refine ⟨?_, id, rfl, ⟨[], rfl⟩, Nat.le_refl _⟩
  constructor <;> first | exact fun _ => rfl | exact fun h => absurd h (by decide)

theorem Upd.set_dram (x : State) (v0 : DramSt)
    (h0 : x.dram.wf = true → v0.wf = true) : Upd 0x1000000 x { x with dram := v0 } := by
  refine ⟨?_, fun g => ⟨g.1, g.2.1, h0 g.2.2⟩, rfl, ⟨[], rfl⟩, Nat.le_refl _⟩
  constructor <;> first | exact fun _ => rfl | exact fun h => absurd h (by decide)

theorem Upd.set_host (x : State) (v0 : HostSt) : Upd 0x2000000 x { x with host := v0 } := by
  refine ⟨?_, id, rfl, ⟨[], rfl⟩, Nat.le_refl _⟩
  constructor <;> first | exact fun _ => rfl | exact fun h => absurd h (by decide)

theorem Upd.set_cfg (x : State) (v0 : CfgSt) : Upd 0x4000000 x { x with cfg := v0 } := by
  refine ⟨?_, id, rfl, ⟨[], rfl⟩, Nat.le_refl _⟩
  constructor <;> first | exact fun _ => rfl | exact fun h => absurd h (by decide)

theorem Upd.set_sec (x : State) (v0 : SecSt) : Upd 0x8000000 x { x with sec := v0 } := by
  refine ⟨?_, id, rfl, ⟨[], rfl⟩, Nat.le_refl _⟩
  constructor <;> first | exact fun _ => rfl | exact fun h => absurd h (by decide)

theorem Upd.set_dbg (x : State) (v0 : DbgSt) : Upd 0x10000000 x { x with dbg := v0 } := by
  refine ⟨?_, id, rfl, ⟨[], rfl⟩, Nat.le_refl _⟩
  constructor <;> first | exact fun _ => rfl | exact fun h => absurd h (by decide)

theorem Upd.set_fills (x : State) (v0 : List OwnFill) : Upd 0x20000000 x { x with fills := v0 } := by
  refine ⟨?_, id, rfl, ⟨[], rfl⟩, Nat.le_refl _⟩
  constructor <;> first | exact fun _ => rfl | exact fun h => absurd h (by decide)

theorem Upd.set_gpio (x : State) (v0 : Tab BankSt) : Upd 0x40000000 x { x with gpio := v0 } := by
  refine ⟨?_, id, rfl, ⟨[], rfl⟩, Nat.le_refl _⟩
  constructor <;> first | exact fun _ => rfl | exact fun h => absurd h (by decide)

theorem Upd.set_start (x : State) (v0 : StartSt) : Upd 0x80000000 x { x with start := v0 } := by
  refine ⟨?_, id, rfl, ⟨[], rfl⟩, Nat.le_refl _⟩
  constructor <;> first | exact fun _ => rfl | exact fun h => absurd h (by decide)

theorem Upd.set_cores (x : State) (v0 : CoresSt) : Upd 0x100000000 x { x with cores := v0 } := by
  refine ⟨?_, id, rfl, ⟨[], rfl⟩, Nat.le_refl _⟩
  constructor <;> first | exact fun _ => rfl | exact fun h => absurd h (by decide)

theorem Upd.set_guest (x : State) (v0 : GuestSt) : Upd 0x200000000 x { x with guest := v0 } := by
  refine ⟨?_, id, rfl, ⟨[], rfl⟩, Nat.le_refl _⟩
  constructor <;> first | exact fun _ => rfl | exact fun h => absurd h (by decide)

theorem Upd.set_com (x : State) (v0 : CommonsSt) : Upd 0x400000000 x { x with com := v0 } := by
  refine ⟨?_, id, rfl, ⟨[], rfl⟩, Nat.le_refl _⟩
  constructor <;> first | exact fun _ => rfl | exact fun h => absurd h (by decide)

theorem Upd.set_ledger (x : State) (v0 : List LedgerEnt) : Upd 0x800000000 x { x with ledger := v0 } := by
  refine ⟨?_, id, rfl, ⟨[], rfl⟩, Nat.le_refl _⟩
  constructor <;> first | exact fun _ => rfl | exact fun h => absurd h (by decide)

theorem Upd.set_ttc_clk (x : State) (v0 : Nat) (v1 : ClkSt) : Upd 0x400010 x { x with ttc := v0, clk := v1 } := by
  refine ⟨?_, id, rfl, ⟨[], rfl⟩, Nat.le_refl _⟩
  constructor <;> first | exact fun _ => rfl | exact fun h => absurd h (by decide)

theorem Upd.set_rtc_sec (x : State) (v0 : Nat) (v1 : SecSt) : Upd 0x8000040 x { x with rtc := v0, sec := v1 } := by
  refine ⟨?_, id, rfl, ⟨[], rfl⟩, Nat.le_refl _⟩
  constructor <;> first | exact fun _ => rfl | exact fun h => absurd h (by decide)

theorem Upd.set_diesDown_start (x : State) (v0 : Nat) (v1 : StartSt) : Upd 0x80001000 x { x with diesDown := v0, start := v1 } := by
  refine ⟨?_, id, rfl, ⟨[], rfl⟩, Nat.le_refl _⟩
  constructor <;> first | exact fun _ => rfl | exact fun h => absurd h (by decide)

theorem Upd.set_par_start (x : State) (v0 : ParishSt) (v1 : StartSt) : Upd 0x80020000 x { x with par := v0, start := v1 } := by
  refine ⟨?_, id, rfl, ⟨[], rfl⟩, Nat.le_refl _⟩
  constructor <;> first | exact fun _ => rfl | exact fun h => absurd h (by decide)

theorem Upd.set_pcie_cfg (x : State) (v0 : PcieSt) (v1 : CfgSt) : Upd 0x4010000 x { x with pcie := v0, cfg := v1 } := by
  refine ⟨?_, id, rfl, ⟨[], rfl⟩, Nat.le_refl _⟩
  constructor <;> first | exact fun _ => rfl | exact fun h => absurd h (by decide)

theorem Upd.set_cfg_sec (x : State) (v0 : CfgSt) (v1 : SecSt) : Upd 0xc000000 x { x with cfg := v0, sec := v1 } := by
  refine ⟨?_, id, rfl, ⟨[], rfl⟩, Nat.le_refl _⟩
  constructor <;> first | exact fun _ => rfl | exact fun h => absurd h (by decide)

theorem Upd.set_cfg_start (x : State) (v0 : CfgSt) (v1 : StartSt) : Upd 0x84000000 x { x with cfg := v0, start := v1 } := by
  refine ⟨?_, id, rfl, ⟨[], rfl⟩, Nat.le_refl _⟩
  constructor <;> first | exact fun _ => rfl | exact fun h => absurd h (by decide)

theorem Upd.set_sec_dbg (x : State) (v0 : SecSt) (v1 : DbgSt) : Upd 0x18000000 x { x with sec := v0, dbg := v1 } := by
  refine ⟨?_, id, rfl, ⟨[], rfl⟩, Nat.le_refl _⟩
  constructor <;> first | exact fun _ => rfl | exact fun h => absurd h (by decide)

theorem Upd.set_regs_latch_staged (x : State) (v0 : Tab Word) (v1 : Tab Word) (v2 : Tab (Option Word))
    (h0 : tabWf regReset x.regs = true → tabWf regReset v0 = true) (h1 : tabWf (fun _ => 0) x.latch = true → tabWf (fun _ => 0) v1 = true) (h2 : tabWf (fun _ => none) x.staged = true → tabWf (fun _ => none) v2 = true) :
    Upd 0xe00 x { x with regs := v0, latch := v1, staged := v2 } := by
  refine ⟨?_, fun g => ⟨by
    have h := State.regsWf_iff.mp g.1
    exact State.regsWf_iff.mpr ⟨h0 h.1, h1 h.2.1, h2 h.2.2⟩, g.2.1, g.2.2⟩, rfl, ⟨[], rfl⟩, Nat.le_refl _⟩
  constructor <;> first | exact fun _ => rfl | exact fun h => absurd h (by decide)

theorem Upd.set_now_ttc_cal_rtc (x : State) (v0 : Nat) (v1 : Nat) (v2 : Nat) (v3 : Nat) : Upd 0x78 x { x with now := v0, ttc := v1, cal := v2, rtc := v3 } := by
  refine ⟨?_, id, rfl, ⟨[], rfl⟩, Nat.le_refl _⟩
  constructor <;> first | exact fun _ => rfl | exact fun h => absurd h (by decide)

theorem Upd.set_fab_mem_cap_dbg (x : State) (v0 : FabSt) (v1 : MemSt) (v2 : CapSt) (v3 : DbgSt)
    (h1 : x.mem.wf = true → v1.wf = true) :
    Upd 0x10206000 x { x with fab := v0, mem := v1, cap := v2, dbg := v3 } := by
  refine ⟨?_, fun g => ⟨g.1, h1 g.2.1, g.2.2⟩, rfl, ⟨[], rfl⟩, Nat.le_refl _⟩
  constructor <;> first | exact fun _ => rfl | exact fun h => absurd h (by decide)

theorem Upd.set_cal_regs_par_kelk_cfg_sec_dbg (x : State) (v0 : Nat) (v1 : Tab Word) (v2 : ParishSt) (v3 : KelkSt) (v4 : CfgSt) (v5 : SecSt) (v6 : DbgSt)
    (h1 : tabWf regReset x.regs = true → tabWf regReset v1 = true) :
    Upd 0x1c060220 x { x with cal := v0, regs := v1, par := v2, kelk := v3, cfg := v4, sec := v5, dbg := v6 } := by
  refine ⟨?_, fun g => ⟨by
    have h := State.regsWf_iff.mp g.1
    exact State.regsWf_iff.mpr ⟨h1 h.1, h.2.1, h.2.2⟩, g.2.1, g.2.2⟩, rfl, ⟨[], rfl⟩, Nat.le_refl _⟩
  constructor <;> first | exact fun _ => rfl | exact fun h => absurd h (by decide)

theorem Upd.set_regs_fab_mem_par_llp_cap_dram_cfg_start_com (x : State) (v0 : Tab Word) (v1 : FabSt) (v2 : MemSt) (v3 : ParishSt) (v4 : LlpSt) (v5 : CapSt) (v6 : DramSt) (v7 : CfgSt) (v8 : StartSt) (v9 : CommonsSt)
    (h0 : tabWf regReset x.regs = true → tabWf regReset v0 = true) (h2 : x.mem.wf = true → v2.wf = true) (h6 : x.dram.wf = true → v6.wf = true) :
    Upd 0x485326200 x { x with regs := v0, fab := v1, mem := v2, par := v3, llp := v4, cap := v5, dram := v6, cfg := v7, start := v8, com := v9 } := by
  refine ⟨?_, fun g => ⟨by
    have h := State.regsWf_iff.mp g.1
    exact State.regsWf_iff.mpr ⟨h0 h.1, h.2.1, h.2.2⟩, h2 g.2.1, h6 g.2.2⟩, rfl, ⟨[], rfl⟩, Nat.le_refl _⟩
  constructor <;> first | exact fun _ => rfl | exact fun h => absurd h (by decide)

theorem Upd.set_diesDown_fab_mem_ring_llp_cap_mill_dram_cfg_dbg_gpio (x : State) (v0 : Nat) (v1 : FabSt) (v2 : MemSt) (v3 : RingSt) (v4 : LlpSt) (v5 : CapSt) (v6 : MillAll) (v7 : DramSt) (v8 : CfgSt) (v9 : DbgSt) (v10 : Tab BankSt)
    (h2 : x.mem.wf = true → v2.wf = true) (h7 : x.dram.wf = true → v7.wf = true) :
    Upd 0x55b87000 x { x with diesDown := v0, fab := v1, mem := v2, ring := v3, llp := v4, cap := v5, mill := v6, dram := v7, cfg := v8, dbg := v9, gpio := v10 } := by
  refine ⟨?_, fun g => ⟨g.1, h2 g.2.1, h7 g.2.2⟩, rfl, ⟨[], rfl⟩, Nat.le_refl _⟩
  constructor <;> first | exact fun _ => rfl | exact fun h => absurd h (by decide)

theorem State.emit_upd (s : State) (o : Output) : Upd 0x100 s (s.emit o) := by
  refine ⟨?_, id, rfl, ⟨[o], rfl⟩, Nat.le_refl _⟩
  constructor <;> first | exact fun _ => rfl | exact fun h => absurd h (by decide)

theorem State.fresh_upd (s : State) : UpdP 0x80 s s.fresh := by
  refine ⟨?_, id, rfl, ⟨[], rfl⟩, Nat.le_succ _⟩
  constructor <;> first | exact fun _ => rfl | exact fun h => absurd h (by decide)

/-- The number of a piece of the state, in the order of State. -/
def Place.idx (p : Place) : Nat :=
  match p with
  | .pending => 0
  | .part => 1
  | .mode => 2
  | .now => 3
  | .ttc => 4
  | .cal => 5
  | .rtc => 6
  | .free => 7
  | .outs => 8
  | .regs => 9
  | .latch => 10
  | .staged => 11
  | .diesDown => 12
  | .fab => 13
  | .mem => 14
  | .site => 15
  | .pcie => 16
  | .par => 17
  | .kelk => 18
  | .ring => 19
  | .llp => 20
  | .cap => 21
  | .clk => 22
  | .mill => 23
  | .dram => 24
  | .host => 25
  | .cfg => 26
  | .sec => 27
  | .dbg => 28
  | .fills => 29
  | .gpio => 30
  | .start => 31
  | .cores => 32
  | .guest => 33
  | .com => 34
  | .ledger => 35

/-- What an operation may change, by name. -/
theorem Upd.frame {m : Nat} {s t : State} (h : Upd m s t) (l : List Place) (e : ∀ p : Place, p ∈ l ∨ m.testBit p.idx = false) : Frame l s t := by
  intro p hp
  have hb := (e p).resolve_left hp
  cases p
  · exact h.keep.pending hb
  · exact h.keep.part hb
  · exact h.keep.mode hb
  · exact h.keep.now hb
  · exact h.keep.ttc hb
  · exact h.keep.cal hb
  · exact h.keep.rtc hb
  · exact h.keep.free hb
  · exact h.keep.outs hb
  · exact h.keep.regs hb
  · exact h.keep.latch hb
  · exact h.keep.staged hb
  · exact h.keep.diesDown hb
  · exact h.keep.fab hb
  · exact h.keep.mem hb
  · exact h.keep.site hb
  · exact h.keep.pcie hb
  · exact h.keep.par hb
  · exact h.keep.kelk hb
  · exact h.keep.ring hb
  · exact h.keep.llp hb
  · exact h.keep.cap hb
  · exact h.keep.clk hb
  · exact h.keep.mill hb
  · exact h.keep.dram hb
  · exact h.keep.host hb
  · exact h.keep.cfg hb
  · exact h.keep.sec hb
  · exact h.keep.dbg hb
  · exact h.keep.fills hb
  · exact h.keep.gpio hb
  · exact h.keep.start hb
  · exact h.keep.cores hb
  · exact h.keep.guest hb
  · exact h.keep.com hb
  · exact h.keep.ledger hb

/-- Lines dropped leave the canonical form of DRAM. -/
theorem DramSt.wf_keep (d e : DramSt) (p : Nat → Bool) (h : d.wf = true) (g : e.lines = tabKeep d.lines p := by rfl) : e.wf = true := by
  unfold DramSt.wf at *
  rw [g]
  exact tabWf_tabKeep _ h

/-- A fact put to use. -/
theorem cut {P Q : Prop} (h : P) (g : P → Q) : Q := g h

theorem UpdQ.mk2 {α β : Type} {m : Nat} {s : State} {a : α} {p : β × State} (h : UpdP m s p) : UpdQ m s (a, p) := h

theorem UpdQ.snd {α β : Type} {m : Nat} {s : State} {p : α × β × State} (h : UpdQ m s p) : Upd m s p.2.2 := h

end Sys2Proof.Machine
end

