-- ==== Sys2Proof/Laws/FrameOps.lean ====
section
/-! SUPPORT. What each operation of Sys2Proof/Machine/Ops.lean may change: the fields whose bits are set, in the order of State. -/
namespace Sys2Proof.Machine

theorem State.wr_upd (s : State) (a : Nat) (w : Word) : Upd 0x200 s (State.wr s a w) := by
  unfold State.wr
  refine Upd.step (Upd.set_regs _ _ ?_) rfl ?_
  · exact fun h => tabWf_tabPut _ _ h
  · exact Upd.refl _ _

theorem State.regsLost_upd (s : State) (p : Nat → Bool) : Upd 0xe00 s (State.regsLost s p) := by
  unfold State.regsLost
  refine Upd.step (Upd.set_regs_latch_staged _ _ _ _ ?_ ?_ ?_) rfl ?_
  · exact fun h => tabWf_tabKeep _ h
  · exact fun h => tabWf_tabKeep _ h
  · exact fun h => tabWf_tabKeep _ h
  · exact Upd.refl _ _

theorem State.wf_upd (s : State) (b : Nat) (f : Fld) (v : Nat) : Upd 0x200 s (State.wf s b f v) := by
  unfold State.wf
  refine Upd.step (State.wr_upd ..) rfl ?_
  exact Upd.refl _ _

theorem State.setF_upd (s : State) (b : Nat) (f : Fld) : Upd 0x200 s (State.setF s b f) := by
  unfold State.setF
  refine Upd.step (State.wf_upd ..) rfl ?_
  exact Upd.refl _ _

theorem State.clrF_upd (s : State) (b : Nat) (f : Fld) : Upd 0x200 s (State.clrF s b f) := by
  unfold State.clrF
  refine Upd.step (State.wf_upd ..) rfl ?_
  exact Upd.refl _ _

theorem State.setIf_upd (s : State) (c : Bool) (b : Nat) (f : Fld) : Upd 0x200 s (State.setIf s c b f) := by
  unfold State.setIf
  refine Upd.ite ?_ ?_
  · refine Upd.step (State.setF_upd ..) rfl ?_
    exact Upd.refl _ _
  · exact Upd.refl _ _

theorem State.cnt_upd (s : State) (a : Nat) (n : Nat) : Upd 0x200 s (State.cnt s a n) := by
  unfold State.cnt
  refine Upd.step (State.wr_upd ..) rfl ?_
  exact Upd.refl _ _

theorem State.cntF_upd (s : State) (b : Nat) (f : Fld) (n : Nat) : Upd 0x200 s (State.cntF s b f n) := by
  unfold State.cntF
  refine Upd.step (State.wf_upd ..) rfl ?_
  exact Upd.refl _ _

theorem State.wr64_upd (s : State) (lo : Nat) (v : Nat) : Upd 0x200 s (State.wr64 s lo v) := by
  unfold State.wr64
  refine Upd.step (State.wr_upd ..) rfl ?_
  refine Upd.step (State.wr_upd ..) rfl ?_
  exact Upd.refl _ _

theorem State.cnt64_upd (s : State) (lo : Nat) (n : Nat) : Upd 0x200 s (State.cnt64 s lo n) := by
  unfold State.cnt64
  refine Upd.step (State.wr64_upd ..) rfl ?_
  exact Upd.refl _ _

theorem State.regbusFault_upd (s : State) (die : Nat) (r : Req) : Upd 0x200 s (State.regbusFault s die r) := by
  unfold State.regbusFault
  extract_lets +onlyGivenNames x1
  clear_value x1
  refine Upd.step (State.setF_upd ..) rfl ?_
  refine Upd.step (State.cnt_upd ..) rfl ?_
  exact Upd.refl _ _

theorem State.regbusDrop_upd (s : State) (a : Nat) (r : Req) : Upd 0x200 s (State.regbusDrop s a r) := by
  unfold State.regbusDrop
  extract_lets +onlyGivenNames x1
  clear_value x1
  refine Upd.ite ?_ ?_
  · refine Upd.step (State.setF_upd ..) rfl ?_
    exact Upd.refl _ _
  · refine Upd.step (State.setF_upd ..) rfl ?_
    refine Upd.step (State.wf_upd ..) rfl ?_
    refine Upd.step (State.wf_upd ..) rfl ?_
    refine Upd.step (State.wf_upd ..) rfl ?_
    exact Upd.refl _ _

theorem State.answer_upd (s : State) (r : Req) (a : Nat) (code : Rsp) (data : List Word) : Upd 0x300 s (State.answer s r a code data) := by
  unfold State.answer
  extract_lets +onlyGivenNames x1
  refine cut (P := Upd 0x300 s x1) ?_ (fun h2 => ?_)
  · unfold x1
    refine Upd.ite ?_ ?_
    · refine Upd.step (State.regbusFault_upd ..) rfl ?_
      exact Upd.refl _ _
    · exact Upd.refl _ _
  clear_value x1
  refine Upd.step (State.emit_upd ..) rfl ?_
  exact h2

theorem State.setFrt_upd (s : State) (f : Nat) (x : FieldRt) : Upd 0x2000 s (State.setFrt s f x) := by
  unfold State.setFrt
  refine Upd.step (Upd.set_fab _ _) rfl ?_
  exact Upd.refl _ _

theorem State.putDesign_upd (s : State) (f : Nat) (d : FieldDesign) : Upd 0x2000 s (State.putDesign s f d) := by
  unfold State.putDesign
  refine Upd.step (Upd.set_fab _ _) rfl ?_
  exact Upd.refl _ _

theorem State.flipCfg_upd (s : State) (f : Nat) (l : List (Nat × Nat)) : Upd 0x2000 s (State.flipCfg s f l) := by
  unfold State.flipCfg
  refine Upd.step (Upd.set_fab _ _) rfl ?_
  exact Upd.refl _ _

end Sys2Proof.Machine
end

