-- ==== Sys2Proof/Laws/FrameIrq.lean ====
section
/-! SUPPORT. What each operation of Sys2Proof/Machine/Irq.lean may change: the fields whose bits are set, in the order of State. -/
namespace Sys2Proof.Machine

theorem State.msixSend_upd (s : State) (fn : Nat) (v : Nat) : Upd 0x10100 s (State.msixSend s fn v) := by
  unfold State.msixSend
  refine Upd.ite ?_ ?_
  · refine Upd.step (State.emit_upd ..) rfl ?_
    exact Upd.refl _ _
  · refine Upd.step (Upd.set_pcie _ _) rfl ?_
    exact Upd.refl _ _

theorem State.setVstat_upd (s : State) (a : Nat) (v : Nat) (x : Bool) : Upd 0x200 s (State.setVstat s a v x) := by
  unfold State.setVstat
  extract_lets +onlyGivenNames x1
  clear_value x1
  refine Upd.step (State.wr_upd ..) rfl ?_
  exact Upd.refl _ _

theorem State.armedIssue_upd (s : State) (a : Nat) (fn : Nat) (v : Nat) : Upd 0x10300 s (State.armedIssue s a fn v) := by
  unfold State.armedIssue
  refine Upd.ite ?_ ?_
  · exact Upd.refl _ _
  · refine Upd.ite ?_ ?_
    · refine Upd.step (State.msixSend_upd ..) rfl ?_
      refine Upd.step (State.setVstat_upd ..) rfl ?_
      exact Upd.refl _ _
    · exact Upd.refl _ _

theorem State.setSrt_upd (s : State) (n : Nat) (x : SiteRt) : Upd 0x8000 s (State.setSrt s n x) := by
  unfold State.setSrt
  refine Upd.step (Upd.set_site _ _) rfl ?_
  exact Upd.refl _ _

theorem State.sicRaise_upd (s : State) (n : Nat) (cls : Nat) : Upd 0x18300 s (State.sicRaise s n cls) := by
  unfold State.sicRaise
  refine Upd.ite ?_ ?_
  · exact Upd.refl _ _
  · refine Upd.ite ?_ ?_
    · refine Upd.step (State.armedIssue_upd ..) rfl ?_
      exact Upd.refl _ _
    · extract_lets +onlyGivenNames x1
      clear_value x1
      extract_lets +onlyGivenNames x2
      clear_value x2
      refine Upd.ite ?_ ?_
      · refine Upd.step (State.cnt_upd ..) rfl ?_
        refine Upd.step (State.setSrt_upd ..) rfl ?_
        exact Upd.refl _ _
      · exact Upd.refl _ _

theorem State.pf0Raise_upd (s : State) (v : Nat) : Upd 0x10300 s (State.pf0Raise s v) := by
  unfold State.pf0Raise
  refine Upd.step (State.armedIssue_upd ..) rfl ?_
  exact Upd.refl _ _

theorem State.siteStat_upd (s : State) (n : Nat) (f : Fld) : Upd 0x18300 s (State.siteStat s n f) := by
  unfold State.siteStat
  refine Upd.ite ?_ ?_
  · exact Upd.refl _ _
  · extract_lets +onlyGivenNames x1
    refine cut (P := Upd 0x18300 s x1) ?_ (fun h2 => ?_)
    · unfold x1
      refine Upd.step (State.setF_upd ..) rfl ?_
      exact Upd.refl _ _
    clear_value x1
    refine Upd.ite ?_ ?_
    · refine Upd.step (State.sicRaise_upd ..) rfl ?_
      exact h2
    · exact h2

theorem State.siteStatAll_upd (s : State) (sites : Nat) (f : Fld) : Upd 0x18300 s (State.siteStatAll s sites f) := by
  unfold State.siteStatAll
  refine Upd.foldl ?_ (fun y1 a2 h3 => ?_)
  · exact Upd.refl _ _
  · refine Upd.ite ?_ ?_
    · refine Upd.step (State.siteStat_upd ..) rfl ?_
      exact h3
    · exact h3

theorem State.evt_upd (s : State) (n : Nat) (cls : Nat) (b : Nat) (f : Fld) (ie : Nat) (ieBit : Nat) : Upd 0x18300 s (State.evt s n cls b f ie ieBit) := by
  unfold State.evt
  extract_lets +onlyGivenNames x1
  refine cut (P := Upd 0x18300 s x1) ?_ (fun h2 => ?_)
  · unfold x1
    refine Upd.step (State.setF_upd ..) rfl ?_
    exact Upd.refl _ _
  clear_value x1
  refine Upd.ite ?_ ?_
  · refine Upd.step (State.sicRaise_upd ..) rfl ?_
    exact h2
  · exact h2

end Sys2Proof.Machine
end

