-- ==== Sys2Proof/Laws/FrameStops.lean ====
section
/-! SUPPORT. What each operation of Sys2Proof/Machine/Stops.lean may change: the fields whose bits are set, in the order of State. -/
namespace Sys2Proof.Machine

theorem State.stopEvt_upd (s : State) (n : Nat) (fld : Fld) (cnt : Option Nat) : Upd 0x18300 s (State.stopEvt s n fld cnt) := by
  unfold State.stopEvt
  split
  · exact Upd.refl _ _
  · extract_lets +onlyGivenNames x1
    refine cut (P := Upd 0x18300 s x1) ?_ (fun h2 => ?_)
    · unfold x1
      split
      · refine Upd.step (State.cnt_upd ..) rfl ?_
        exact Upd.refl _ _
      · exact Upd.refl _ _
    clear_value x1
    refine Upd.step (State.evt_upd ..) rfl ?_
    exact h2

theorem State.regDenied_upd (s : State) (r : Req) (a : Nat) (write : Bool) : Upd 0x18300 s (State.regDenied s r a write) := by
  unfold State.regDenied
  split
  · refine Upd.step (State.stopEvt_upd ..) rfl ?_
    exact Upd.refl _ _
  · exact Upd.refl _ _

end Sys2Proof.Machine
end

