-- ==== Sys2Proof/Laws/FrameAccess.lean ====
section
/-! SUPPORT. What each operation of Sys2Proof/Machine/Access.lean may change: the fields whose bits are set, in the order of State. -/
namespace Sys2Proof.Machine

theorem State.holdAcc_upd (s : State) (r : Req) (x : HubAcc) : Upd 0x20000000 s (State.holdAcc s r x) := by
  unfold State.holdAcc
  refine Upd.step (Upd.set_fills _ _) rfl ?_
  exact Upd.refl _ _

theorem Upd.gatedBy {m : Nat} {s x : State} {k : State → State} (r : Req) (a : Nat) (write : Bool) (e : 0x18300 &&& m = 0x18300) (h : Upd m s x)
    (g : ∀ y, Upd m s y → Upd m s (k y)) : Upd m s (x.gatedBy r a write k) := by
  unfold State.gatedBy
  refine Upd.ite (Upd.step (Upd.mono (m := 0x18300) (State.answer_upd ..) rfl) e h) ?_
  split
  · exact g x h
  · exact Upd.step (Upd.mono (m := 0x18300) (State.answer_upd ..) rfl) e (Upd.step (Upd.mono (m := 0x18300) (State.regDenied_upd ..) rfl) e h)
  · exact Upd.step (Upd.mono (m := 0x18300) (State.answer_upd ..) rfl) e h

theorem Upd.gated {m : Nat} {s x : State} {k : State → State} (r : Req) (a : Nat) (write : Bool) (e : 0x18300 &&& m = 0x18300) (h : Upd m s x)
    (g : ∀ y, Upd m s y → Upd m s (k y)) : Upd m s (x.gated r a write k) :=
  Upd.ite h (Upd.gatedBy _ _ _ e h fun y hy => Upd.step (Upd.mono (m := 0x18300) (State.answer_upd ..) rfl) e (g y hy))

theorem Upd.gatedIf {m : Nat} {s x : State} {k : State → State} (r : Req) (a : Nat) (ok : Bool) (e : 0x18300 &&& m = 0x18300) (h : Upd m s x)
    (g : ∀ y, Upd m s y → Upd m s (k y)) : Upd m s (x.gatedIf r a ok k) :=
  Upd.ite h (Upd.gatedBy _ _ _ e h fun y hy => Upd.ite (Upd.step (Upd.mono (m := 0x18300) (State.answer_upd ..) rfl) e (g y hy)) (Upd.step (Upd.mono (m := 0x18300) (State.answer_upd ..) rfl) e hy))

end Sys2Proof.Machine
end

