-- ==== Sys2Proof/Laws/FrameBlockMem.lean ====
section
/-! SUPPORT. What each operation of Sys2Proof/Machine/BlockMem.lean may change: the fields whose bits are set, in the order of State. -/
namespace Sys2Proof.Machine

theorem State.portData_upd (s : State) (f : Nat) (g : BmCfg) (p : BmPort) (d : Nat) : UpdP 0x80 s (State.portData s f g p d) := by
  unfold State.portData
  refine UpdP.ite ?_ ?_
  · split
    · rename_i v1 v2 v3 v4
      refine cut (P := Upd 0x80 s v3) (UpdP.out ?_ v4) (fun h5 => ?_)
      · refine UpdP.step (State.fresh_upd ..) rfl ?_
        exact Upd.refl _ _
      exact h5
  · refine UpdP.mk ?_
    exact Upd.refl _ _

theorem State.bmPut_upd (s : State) (f : Nat) (b : Nat) (w : Nat) (x : BitVec 72) : Upd 0x4000 s (State.bmPut s f b w x) := by
  unfold State.bmPut
  split
  · refine Upd.step (Upd.set_mem _ _ ?_) rfl ?_
    · (intro h; simp_all +zetaDelta [MemSt.wf, tabWf_tabPut, tabWf_tabKeep])
    · exact Upd.refl _ _
  · refine Upd.step (Upd.set_mem _ _ ?_) rfl ?_
    · (intro h; simp_all +zetaDelta [MemSt.wf, tabWf_tabPut, tabWf_tabKeep])
    · exact Upd.refl _ _

theorem State.bmStore_upd (s : State) (f : Nat) (b : Nat) (w : Nat) (d : Nat) (k : Nat) : Upd 0x4200 s (State.bmStore s f b w d k) := by
  unfold State.bmStore
  extract_lets +onlyGivenNames x1
  clear_value x1
  refine Upd.ite ?_ ?_
  · extract_lets +onlyGivenNames x2
    clear_value x2
    refine Upd.step (State.bmPut_upd ..) rfl ?_
    refine Upd.step (State.clrF_upd ..) rfl ?_
    exact Upd.refl _ _
  · refine Upd.step (State.bmPut_upd ..) rfl ?_
    exact Upd.refl _ _

theorem State.bmEvt_upd (s : State) (f : Nat) (fld : Fld) : Upd 0x18300 s (State.bmEvt s f fld) := by
  unfold State.bmEvt
  refine Upd.step (State.evt_upd ..) rfl ?_
  exact Upd.refl _ _

theorem State.bmErr_upd (s : State) (f : Nat) (b : Nat) (w : Nat) (src : Nat) (x : EccRes) : Upd 0x18300 s (State.bmErr s f b w src x) := by
  unfold State.bmErr
  extract_lets +onlyGivenNames x1
  clear_value x1
  extract_lets +onlyGivenNames x2
  clear_value x2
  refine Upd.ite ?_ ?_
  · extract_lets +onlyGivenNames x3
    refine cut (P := Upd 0x18300 s x3) ?_ (fun h4 => ?_)
    · unfold x3
      refine Upd.ite ?_ ?_
      · exact Upd.refl _ _
      · refine Upd.step (State.wr_upd ..) rfl ?_
        exact Upd.refl _ _
    clear_value x3
    refine Upd.step (State.bmEvt_upd ..) rfl ?_
    refine Upd.step (State.cnt_upd ..) rfl ?_
    exact h4
  · refine Upd.ite ?_ ?_
    · extract_lets +onlyGivenNames x5
      refine cut (P := Upd 0x18300 s x5) ?_ (fun h6 => ?_)
      · unfold x5
        refine Upd.ite ?_ ?_
        · exact Upd.refl _ _
        · refine Upd.step (State.wr_upd ..) rfl ?_
          exact Upd.refl _ _
      clear_value x5
      refine Upd.step (State.bmEvt_upd ..) rfl ?_
      refine Upd.step (State.cnt_upd ..) rfl ?_
      exact h6
    · exact Upd.refl _ _

theorem State.bmCheck_upd (s : State) (f : Nat) (b : Nat) (w : Nat) (src : Nat) (ecc : Bool) (x : BitVec 72) : UpdP 0x18300 s (State.bmCheck s f b w src ecc x) := by
  unfold State.bmCheck
  refine UpdP.ite ?_ ?_
  · extract_lets +onlyGivenNames x1
    clear_value x1
    refine UpdP.mk ?_
    refine Upd.step (State.bmErr_upd ..) rfl ?_
    exact Upd.refl _ _
  · refine UpdP.mk ?_
    exact Upd.refl _ _

theorem State.bmRead_upd (s : State) (f : Nat) (b : Nat) (w : Nat) (src : Nat) (ecc : Bool) : UpdP 0x18300 s (State.bmRead s f b w src ecc) := by
  unfold State.bmRead
  refine UpdP.step (State.bmCheck_upd ..) rfl ?_
  exact Upd.refl _ _

theorem State.bmWrite_upd (s : State) (f : Nat) (b : Nat) (w : Nat) (v : Nat) (m : Nat) (src : Nat) (ecc : Bool) : Upd 0x1c300 s (State.bmWrite s f b w v m src ecc) := by
  unfold State.bmWrite
  refine Upd.ite ?_ ?_
  · extract_lets +onlyGivenNames x1
    clear_value x1
    refine Upd.step (State.bmStore_upd ..) rfl ?_
    exact Upd.refl _ _
  · refine Upd.ite ?_ ?_
    · refine Upd.step (State.bmStore_upd ..) rfl ?_
      exact Upd.refl _ _
    · split
      · rename_i v2 v3 v4 v5
        refine cut (P := Upd 0x1c300 s v4) (UpdP.out ?_ v5) (fun h6 => ?_)
        · refine UpdP.step (State.bmRead_upd ..) rfl ?_
          exact Upd.refl _ _
        extract_lets +onlyGivenNames x7
        clear_value x7
        refine Upd.step (State.bmStore_upd ..) rfl ?_
        exact h6

theorem State.setBmSt_upd (s : State) (f : Nat) (b : Nat) (x : BmSt) : Upd 0x4000 s (State.setBmSt s f b x) := by
  unfold State.setBmSt
  refine Upd.step (Upd.set_mem _ _ ?_) rfl ?_
  · exact id
  · exact Upd.refl _ _

theorem State.bmEdge_upd (s : State) (f : Nat) (b : Nat) (g : BmCfg) (portB : Bool) (d : Option (Nat × Bool)) (regce : Bool) (rsto : Bool) : Upd 0x4100 s (State.bmEdge s f b g portB d regce rsto) := by
  unfold State.bmEdge
  extract_lets +onlyGivenNames x1
  clear_value x1
  extract_lets +onlyGivenNames x2
  clear_value x2
  split
  · split
    · split
      · extract_lets +onlyGivenNames x3
        clear_value x3
        refine Upd.step (State.emit_upd ..) rfl ?_
        refine Upd.step (State.setBmSt_upd ..) rfl ?_
        exact Upd.refl _ _

theorem State.bmOut_upd (s : State) (f : Nat) (b : Nat) (g : BmCfg) (portB : Bool) (d : Nat) (ue : Bool) (regce : Bool) (rsto : Bool) : Upd 0x4100 s (State.bmOut s f b g portB d ue regce rsto) := by
  unfold State.bmOut
  refine Upd.step (State.bmEdge_upd ..) rfl ?_
  exact Upd.refl _ _

theorem State.rmwColl_upd (s : State) (f : Nat) (b : Nat) : Upd 0x18300 s (State.rmwColl s f b) := by
  unfold State.rmwColl
  extract_lets +onlyGivenNames x1
  clear_value x1
  extract_lets +onlyGivenNames x2
  refine cut (P := Upd 0x18300 s x2) ?_ (fun h3 => ?_)
  · unfold x2
    refine Upd.ite ?_ ?_
    · exact Upd.refl _ _
    · refine Upd.step (State.wf_upd ..) rfl ?_
      exact Upd.refl _ _
  clear_value x2
  refine Upd.step (State.bmEvt_upd ..) rfl ?_
  exact h3

theorem State.bmPortRead_upd (s : State) (f : Nat) (b : Nat) (portB : Bool) (addr : Nat) (regce : Bool) (rsto : Bool) (coll : Coll) (g : BmCfg) : Upd 0x1c380 s (State.bmPortRead s f b portB addr regce rsto coll g) := by
  unfold State.bmPortRead
  extract_lets +onlyGivenNames x1
  clear_value x1
  extract_lets +onlyGivenNames x2
  clear_value x2
  extract_lets +onlyGivenNames x3
  clear_value x3
  extract_lets +onlyGivenNames x4
  clear_value x4
  refine Upd.ite ?_ ?_
  · refine Upd.step (State.bmOut_upd ..) rfl ?_
    exact Upd.refl _ _
  · split
    · rename_i v5 v6 v7 v8
      refine cut (P := Upd 0x1c380 s v7) (UpdP.out ?_ v8) (fun h9 => ?_)
      · split
        · refine UpdP.mk ?_
          exact Upd.refl _ _
        · refine UpdP.ite ?_ ?_
          · refine UpdP.mk ?_
            exact Upd.refl _ _
          · split
            · rename_i v10 v11 v12 v13
              refine cut (P := Upd 0x1c380 s v12) (UpdP.out ?_ v13) (fun h14 => ?_)
              · refine UpdP.step (State.fresh_upd ..) rfl ?_
                exact Upd.refl _ _
              exact h14
      split
      · rename_i v15 v16 v17 v18
        refine cut (P := Upd 0x1c380 s v17) (UpdP.out ?_ v18) (fun h19 => ?_)
        · refine UpdP.step (State.bmCheck_upd ..) rfl ?_
          exact h9
        split
        · rename_i v20 v21 v22 v23
          refine cut (P := Upd 0x1c380 s v22) (UpdP.out ?_ v23) (fun h24 => ?_)
          · refine UpdP.step (State.portData_upd ..) rfl ?_
            exact h19
          refine Upd.step (State.bmOut_upd ..) rfl ?_
          exact h24

theorem bmPortRead_upd (f : Nat) (b : Nat) (portB : Bool) (addr : Nat) (regce : Bool) (rsto : Bool) (rmw : Bool) (coll : Coll) (s : State) : Upd 0x1c380 s (bmPortRead f b portB addr regce rsto rmw coll s) := by
  unfold bmPortRead
  split
  · exact Upd.refl _ _
  · refine Upd.ite ?_ ?_
    · exact Upd.refl _ _
    · extract_lets +onlyGivenNames x1
      clear_value x1
      extract_lets +onlyGivenNames x2
      refine cut (P := Upd 0x1c380 s x2) ?_ (fun h3 => ?_)
      · unfold x2
        refine Upd.step (State.setBmSt_upd ..) rfl ?_
        exact Upd.refl _ _
      clear_value x2
      refine Upd.ite ?_ ?_
      · refine Upd.step (State.rmwColl_upd ..) rfl ?_
        exact h3
      · refine Upd.step (State.bmPortRead_upd ..) rfl ?_
        exact h3

theorem execBmPortRead_upd (f : Fin 128) (b : Fin 96) (portB : Bool) (addr : BitVec 16) (regce : Bool) (rsto : Bool) (rmw : Bool) (coll : Coll) (s : State) : UpdO 0x1c380 s (execBmPortRead f b portB addr regce rsto rmw coll s) := by
  unfold execBmPortRead
  refine UpdO.next ?_
  refine Upd.step (bmPortRead_upd ..) rfl ?_
  exact Upd.refl _ _

theorem State.bmPortWrite_upd (s : State) (f : Nat) (b : Nat) (portB : Bool) (addr : Nat) (din : Nat) (bwe : Nat) (regce : Bool) (rsto : Bool) (coll : Coll) (g : BmCfg) : Upd 0x1c380 s (State.bmPortWrite s f b portB addr din bwe regce rsto coll g) := by
  unfold State.bmPortWrite
  extract_lets +onlyGivenNames x1
  clear_value x1
  extract_lets +onlyGivenNames x2
  clear_value x2
  extract_lets +onlyGivenNames x3
  clear_value x3
  extract_lets +onlyGivenNames x4
  clear_value x4
  extract_lets +onlyGivenNames x5
  clear_value x5
  extract_lets +onlyGivenNames x6
  clear_value x6
  extract_lets +onlyGivenNames x7
  clear_value x7
  extract_lets +onlyGivenNames x8
  clear_value x8
  extract_lets +onlyGivenNames x9
  clear_value x9
  extract_lets +onlyGivenNames x10
  clear_value x10
  extract_lets +onlyGivenNames x11
  clear_value x11
  split
  · rename_i v12 v13 v14 v15
    refine cut (P := Upd 0x1c380 s v14) (UpdP.out ?_ v15) (fun h16 => ?_)
    · refine UpdP.step (State.fresh_upd ..) rfl ?_
      exact Upd.refl _ _
    split
    · extract_lets +onlyGivenNames x17
      refine cut (P := Upd 0x1c380 s x17) ?_ (fun h18 => ?_)
      · unfold x17
        refine Upd.ite ?_ ?_
        · refine UpdP.snd ?_
          refine UpdP.step (State.bmRead_upd ..) rfl ?_
          exact h16
        · exact h16
      clear_value x17
      extract_lets +onlyGivenNames x19
      refine cut (P := Upd 0x1c380 s x19) ?_ (fun h20 => ?_)
      · unfold x19
        refine Upd.step (State.bmWrite_upd ..) rfl ?_
        exact h18
      clear_value x19
      extract_lets +onlyGivenNames x21
      clear_value x21
      extract_lets +onlyGivenNames x22
      refine cut (P := Upd 0x1c380 s x22) ?_ (fun h23 => ?_)
      · unfold x22
        refine Upd.step (State.setBmSt_upd ..) rfl ?_
        exact h20
      clear_value x22
      refine Upd.ite ?_ ?_
      · exact h23
      · split
        · split
          · rename_i v24 v25 v26 v27
            refine cut (P := Upd 0x1c380 s v26) (UpdP.out ?_ v27) (fun h28 => ?_)
            · refine UpdP.step (State.portData_upd ..) rfl ?_
              exact h23
            refine Upd.step (State.bmOut_upd ..) rfl ?_
            exact h28
        · split
          · rename_i v29 v30 v31 v32
            refine cut (P := Upd 0x1c380 s v31) (UpdP.out ?_ v32) (fun h33 => ?_)
            · refine UpdP.step (State.portData_upd ..) rfl ?_
              exact h23
            refine Upd.step (State.bmOut_upd ..) rfl ?_
            exact h33
        · refine Upd.step (State.bmEdge_upd ..) rfl ?_
          exact h23

theorem bmPortWrite_upd (f : Nat) (b : Nat) (portB : Bool) (addr : Nat) (din : Nat) (bwe : Nat) (regce : Bool) (rsto : Bool) (rmw : Bool) (coll : Coll) (s : State) : Upd 0x1c380 s (bmPortWrite f b portB addr din bwe regce rsto rmw coll s) := by
  unfold bmPortWrite
  split
  · exact Upd.refl _ _
  · refine Upd.ite ?_ ?_
    · exact Upd.refl _ _
    · extract_lets +onlyGivenNames x1
      clear_value x1
      extract_lets +onlyGivenNames x2
      refine cut (P := Upd 0x1c380 s x2) ?_ (fun h3 => ?_)
      · unfold x2
        refine Upd.step (State.setBmSt_upd ..) rfl ?_
        exact Upd.refl _ _
      clear_value x2
      refine Upd.ite ?_ ?_
      · refine Upd.step (State.rmwColl_upd ..) rfl ?_
        exact h3
      · refine Upd.ite ?_ ?_
        · refine Upd.step (State.bmPortRead_upd ..) rfl ?_
          exact h3
        · refine Upd.step (State.bmPortWrite_upd ..) rfl ?_
          exact h3

theorem execBmPortWrite_upd (f : Fin 128) (b : Fin 96) (portB : Bool) (addr : BitVec 16) (din : DWord) (bwe : BitVec 8) (regce : Bool) (rsto : Bool) (rmw : Bool) (coll : Coll) (s : State) : UpdO 0x1c380 s (execBmPortWrite f b portB addr din bwe regce rsto rmw coll s) := by
  unfold execBmPortWrite
  refine UpdO.next ?_
  refine Upd.step (bmPortWrite_upd ..) rfl ?_
  exact Upd.refl _ _

theorem State.qErr_upd (s : State) (f : Nat) (b : Nat) (fld : Fld) : Upd 0x18300 s (State.qErr s f b fld) := by
  unfold State.qErr
  extract_lets +onlyGivenNames x1
  clear_value x1
  extract_lets +onlyGivenNames x2
  refine cut (P := Upd 0x18300 s x2) ?_ (fun h3 => ?_)
  · unfold x2
    refine Upd.ite ?_ ?_
    · exact Upd.refl _ _
    · refine Upd.step (State.wf_upd ..) rfl ?_
      exact Upd.refl _ _
  clear_value x2
  refine Upd.step (State.bmEvt_upd ..) rfl ?_
  exact h3

theorem bmPush_upd (f : Nat) (b : Nat) (din : Nat) (s : State) : Upd 0x1c300 s (bmPush f b din s) := by
  unfold bmPush
  split
  · exact Upd.refl _ _
  · extract_lets +onlyGivenNames x1
    clear_value x1
    refine Upd.ite ?_ ?_
    · exact Upd.refl _ _
    · refine Upd.ite ?_ ?_
      · refine Upd.step (State.qErr_upd ..) rfl ?_
        exact Upd.refl _ _
      · extract_lets +onlyGivenNames x2
        clear_value x2
        extract_lets +onlyGivenNames x3
        clear_value x3
        extract_lets +onlyGivenNames x4
        refine cut (P := Upd 0x1c300 s x4) ?_ (fun h5 => ?_)
        · unfold x4
          refine Upd.step (State.bmWrite_upd ..) rfl ?_
          exact Upd.refl _ _
        clear_value x4
        refine Upd.step (State.setBmSt_upd ..) rfl ?_
        exact h5

theorem execBmQueuePush_upd (f : Fin 128) (b : Fin 96) (din : DWord) (s : State) : UpdO 0x1c300 s (execBmQueuePush f b din s) := by
  unfold execBmQueuePush
  refine UpdO.next ?_
  refine Upd.step (bmPush_upd ..) rfl ?_
  exact Upd.refl _ _

theorem bmPop_upd (f : Nat) (b : Nat) (regce : Bool) (rsto : Bool) (s : State) : Upd 0x1c380 s (bmPop f b regce rsto s) := by
  unfold bmPop
  split
  · exact Upd.refl _ _
  · extract_lets +onlyGivenNames x1
    clear_value x1
    refine Upd.ite ?_ ?_
    · exact Upd.refl _ _
    · refine Upd.ite ?_ ?_
      · refine Upd.step (State.qErr_upd ..) rfl ?_
        exact Upd.refl _ _
      · extract_lets +onlyGivenNames x2
        clear_value x2
        split
        · rename_i v3 v4 v5 v6
          refine cut (P := Upd 0x1c380 s v5) (UpdP.out ?_ v6) (fun h7 => ?_)
          · refine UpdP.step (State.bmRead_upd ..) rfl ?_
            exact Upd.refl _ _
          split
          · rename_i v8 v9 v10 v11
            refine cut (P := Upd 0x1c380 s v10) (UpdP.out ?_ v11) (fun h12 => ?_)
            · refine UpdP.step (State.portData_upd ..) rfl ?_
              exact h7
            extract_lets +onlyGivenNames x13
            refine cut (P := Upd 0x1c380 s x13) ?_ (fun h14 => ?_)
            · unfold x13
              refine Upd.step (State.bmOut_upd ..) rfl ?_
              exact h12
            clear_value x13
            refine Upd.step (State.setBmSt_upd ..) rfl ?_
            exact h14

theorem execBmQueuePop_upd (f : Fin 128) (b : Fin 96) (regce : Bool) (rsto : Bool) (s : State) : UpdO 0x1c380 s (execBmQueuePop f b regce rsto s) := by
  unfold execBmQueuePop
  refine UpdO.next ?_
  refine Upd.step (bmPop_upd ..) rfl ?_
  exact Upd.refl _ _

theorem queueFlagUpdate_upd (f : Nat) (b : Nat) (writeSide : Bool) (s : State) : Upd 0x4000 s (queueFlagUpdate f b writeSide s) := by
  unfold queueFlagUpdate
  extract_lets +onlyGivenNames x1
  clear_value x1
  refine Upd.step (State.setBmSt_upd ..) rfl ?_
  exact Upd.refl _ _

theorem execQueueFlagUpdate_upd (f : Fin 128) (b : Fin 96) (writeSide : Bool) (s : State) : UpdO 0x4000 s (execQueueFlagUpdate f b writeSide s) := by
  unfold execQueueFlagUpdate
  refine UpdO.next ?_
  refine Upd.step (queueFlagUpdate_upd ..) rfl ?_
  exact Upd.refl _ _

theorem qrst_upd (f : Nat) (b : Nat) (high : Bool) (ca : Nat) (cb : Nat) (s : State) : Upd 0x4000 s (qrst f b high ca cb s) := by
  unfold qrst
  extract_lets +onlyGivenNames x1
  clear_value x1
  refine Upd.step (State.setBmSt_upd ..) rfl ?_
  exact Upd.refl _ _

theorem execQrst_upd (f : Fin 128) (b : Fin 96) (high : Bool) (cyclesA : Nat) (cyclesB : Nat) (s : State) : UpdO 0x4000 s (execQrst f b high cyclesA cyclesB s) := by
  unfold execQrst
  refine UpdO.next ?_
  refine Upd.step (qrst_upd ..) rfl ?_
  exact Upd.refl _ _

theorem State.queuesReset_upd (s : State) (f : Nat) : Upd 0x4000 s (State.queuesReset s f) := by
  unfold State.queuesReset
  refine Upd.foldl ?_ (fun y1 a2 h3 => ?_)
  · exact Upd.refl _ _
  · refine Upd.ite ?_ ?_
    · refine Upd.step (State.setBmSt_upd ..) rfl ?_
      exact h3
    · exact h3

theorem bmPatrol_upd (f : Nat) (s : State) : Upd 0x1c300 s (bmPatrol f s) := by
  unfold bmPatrol
  extract_lets +onlyGivenNames x1
  clear_value x1
  refine Upd.ite ?_ ?_
  · exact Upd.refl _ _
  · extract_lets +onlyGivenNames x2
    clear_value x2
    extract_lets +onlyGivenNames x3
    refine cut (P := Upd 0x1c300 s x3) ?_ (fun h4 => ?_)
    · unfold x3
      refine UpdP.snd ?_
      refine UpdP.step (State.bmRead_upd ..) rfl ?_
      exact Upd.refl _ _
    clear_value x3
    extract_lets +onlyGivenNames x5
    clear_value x5
    extract_lets +onlyGivenNames x6
    extract_lets +onlyGivenNames x7
    refine cut (P := Upd 0x1c300 s x7) ?_ (fun h8 => ?_)
    · unfold x7
      refine Upd.step (Upd.set_mem _ _ ?_) rfl ?_
      · exact id
      · exact h4
    clear_value x7
    refine Upd.ite ?_ ?_
    · refine Upd.step (State.bmEvt_upd ..) rfl ?_
      exact h8
    · exact h8

theorem execBmPatrolRead_upd (f : Fin 128) (s : State) : UpdO 0x1c300 s (execBmPatrolRead f s) := by
  unfold execBmPatrolRead
  refine UpdO.next ?_
  refine Upd.step (bmPatrol_upd ..) rfl ?_
  exact Upd.refl _ _

theorem State.bmRefresh_upd (s : State) (f : Nat) (b : Nat) (w : Nat) (src : Nat) : Upd 0x1c300 s (State.bmRefresh s f b w src) := by
  unfold State.bmRefresh
  split
  · rename_i v1 v2 v3 v4
    refine cut (P := Upd 0x1c300 s v3) (UpdP.out ?_ v4) (fun h5 => ?_)
    · refine UpdP.step (State.bmRead_upd ..) rfl ?_
      exact Upd.refl _ _
    refine Upd.step (State.bmStore_upd ..) rfl ?_
    exact h5

theorem bmRewrite_upd (f : Nat) (v : Word) (s : State) : Upd 0x1c300 s (bmRewrite f v s) := by
  unfold bmRewrite
  extract_lets +onlyGivenNames x1
  clear_value x1
  split
  · refine Upd.ite ?_ ?_
    · refine Upd.step (State.bmRefresh_upd ..) rfl ?_
      exact Upd.refl _ _
    · exact Upd.refl _ _
  · exact Upd.refl _ _

theorem execBmRewrite_upd (r : Req) (f : Fin 128) (v : Word) (s : State) : UpdO 0x1c300 s (execBmRewrite r f v s) := by
  unfold execBmRewrite
  refine UpdO.next ?_
  refine Upd.gated _ _ _ rfl ?_ (fun y1 h2 => ?_)
  · exact Upd.refl _ _
  · refine Upd.step (bmRewrite_upd ..) rfl ?_
    exact h2

theorem bmFlipArm_upd (f : Nat) (v : Word) (s : State) : Upd 0x200 s (bmFlipArm f v s) := by
  unfold bmFlipArm
  refine Upd.step (State.wr_upd ..) rfl ?_
  exact Upd.refl _ _

theorem execBmFlipArm_upd (r : Req) (f : Fin 128) (v : Word) (s : State) : UpdO 0x18300 s (execBmFlipArm r f v s) := by
  unfold execBmFlipArm
  refine UpdO.next ?_
  refine Upd.gated _ _ _ rfl ?_ (fun y1 h2 => ?_)
  · exact Upd.refl _ _
  · refine Upd.step (bmFlipArm_upd ..) rfl ?_
    exact h2

theorem bmRemapWrite_upd (f : Nat) (i : Nat) (v : Word) (s : State) : Upd 0x18300 s (bmRemapWrite f i v s) := by
  unfold bmRemapWrite
  extract_lets +onlyGivenNames x1
  clear_value x1
  extract_lets +onlyGivenNames x2
  clear_value x2
  extract_lets +onlyGivenNames x3
  clear_value x3
  extract_lets +onlyGivenNames x4
  clear_value x4
  extract_lets +onlyGivenNames x5
  clear_value x5
  refine Upd.ite ?_ ?_
  · extract_lets +onlyGivenNames x6
    refine cut (P := Upd 0x18300 s x6) ?_ (fun h7 => ?_)
    · unfold x6
      refine Upd.ite ?_ ?_
      · exact Upd.refl _ _
      · refine Upd.step (State.wf_upd ..) rfl ?_
        exact Upd.refl _ _
    clear_value x6
    refine Upd.step (State.bmEvt_upd ..) rfl ?_
    exact h7
  · refine Upd.step (State.wr_upd ..) rfl ?_
    exact Upd.refl _ _

theorem execBmRemapWrite_upd (r : Req) (f : Fin 128) (i : Fin 384) (v : Word) (s : State) : UpdO 0x18300 s (execBmRemapWrite r f i v s) := by
  unfold execBmRemapWrite
  refine UpdO.next ?_
  refine Upd.gated _ _ _ rfl ?_ (fun y1 h2 => ?_)
  · exact Upd.refl _ _
  · refine Upd.step (bmRemapWrite_upd ..) rfl ?_
    exact h2

theorem bmRemapDone_upd (f : Nat) (i : Nat) (s : State) : Upd 0x1c300 s (bmRemapDone f i s) := by
  unfold bmRemapDone
  extract_lets +onlyGivenNames x1
  clear_value x1
  extract_lets +onlyGivenNames x2
  clear_value x2
  refine Upd.ite ?_ ?_
  · exact Upd.refl _ _
  · extract_lets +onlyGivenNames x3
    clear_value x3
    extract_lets +onlyGivenNames x4
    clear_value x4
    split
    · rename_i v5 v6 v7 v8
      refine cut (P := Upd 0x1c300 s v7) (UpdP.out ?_ v8) (fun h9 => ?_)
      · refine UpdP.step (State.bmRead_upd ..) rfl ?_
        exact Upd.refl _ _
      extract_lets +onlyGivenNames x10
      clear_value x10
      extract_lets +onlyGivenNames x11
      extract_lets +onlyGivenNames x12
      refine cut (P := Upd 0x1c300 s x12) ?_ (fun h13 => ?_)
      · unfold x12
        refine Upd.step (Upd.set_mem _ _ ?_) rfl ?_
        · (intro h; simp_all +zetaDelta [MemSt.wf, tabWf_tabPut, tabWf_tabKeep])
        · exact h9
      clear_value x12
      refine Upd.step (State.wr_upd ..) rfl ?_
      exact h13

theorem execBmRemapCopyDone_upd (f : Fin 128) (i : Fin 384) (s : State) : UpdO 0x1c300 s (execBmRemapCopyDone f i s) := by
  unfold execBmRemapCopyDone
  refine UpdO.next ?_
  refine Upd.step (bmRemapDone_upd ..) rfl ?_
  exact Upd.refl _ _

theorem State.bmDebugNarrow_upd (s : State) (f : Nat) (b : Nat) : Upd 0x4080 s (State.bmDebugNarrow s f b) := by
  unfold State.bmDebugNarrow
  split
  · rename_i v1 v2 v3 v4
    refine cut (P := Upd 0x4080 s v3) (UpdP.out ?_ v4) (fun h5 => ?_)
    · refine UpdP.step (State.fresh_upd ..) rfl ?_
      exact Upd.refl _ _
    refine Upd.step (State.setBmSt_upd ..) rfl ?_
    exact h5

theorem State.bmDebugRun_upd (s : State) (r : Req) (f : Nat) (b : Nat) (w : Nat) (hi4 : Option Bool) (wr : Option DWord) : UpdQ 0x1c380 s (State.bmDebugRun s r f b w hi4 wr) := by
  unfold State.bmDebugRun
  refine UpdQ.ite ?_ ?_
  · refine UpdQ.mk ?_
    exact Upd.refl _ _
  · refine UpdQ.ite ?_ ?_
    · refine UpdQ.mk ?_
      exact Upd.refl _ _
    · extract_lets +onlyGivenNames x1
      clear_value x1
      split
      · split
        · extract_lets +onlyGivenNames x2
          refine cut (P := Upd 0x1c380 s x2) ?_ (fun h3 => ?_)
          · unfold x2
            refine Upd.step (State.bmWrite_upd ..) rfl ?_
            exact Upd.refl _ _
          clear_value x2
          refine UpdQ.mk ?_
          refine Upd.ite ?_ ?_
          · refine Upd.step (State.bmDebugNarrow_upd ..) rfl ?_
            exact h3
          · exact h3
      · split
        · rename_i v4 v5 v6 v7
          refine cut (P := Upd 0x1c380 s v6) (UpdP.out ?_ v7) (fun h8 => ?_)
          · refine UpdP.step (State.bmRead_upd ..) rfl ?_
            exact Upd.refl _ _
          extract_lets +onlyGivenNames x9
          clear_value x9
          extract_lets +onlyGivenNames x10
          clear_value x10
          extract_lets +onlyGivenNames x11
          clear_value x11
          refine UpdQ.ite ?_ ?_
          · exact h8
          · exact h8

theorem bmDebug_upd (r : Req) (f : Nat) (b : Nat) (w : Nat) (hi4 : Option Bool) (wr : Option DWord) (s : State) : Upd 0x1c380 s (bmDebug r f b w hi4 wr s) := by
  unfold bmDebug
  split
  · rename_i v1 v2 v3 v4 v5
    refine cut (P := Upd 0x1c380 s v4) (UpdQ.out ?_ v5) (fun h6 => ?_)
    · refine UpdQ.step (State.bmDebugRun_upd ..) rfl ?_
      exact Upd.refl _ _
    refine Upd.step (State.emit_upd ..) rfl ?_
    exact h6

theorem execBmDebugAccess_upd (r : Req) (f : Fin 128) (b : Fin 96) (word : Fin 1024) (hi4 : Option Bool) (wr : Option DWord) (s : State) : UpdO 0x1c380 s (execBmDebugAccess r f b word hi4 wr s) := by
  unfold execBmDebugAccess
  refine UpdO.next ?_
  refine Upd.step (bmDebug_upd ..) rfl ?_
  exact Upd.refl _ _

theorem execBmDebugForcedStall_upd (f : Fin 128) (s : State) : UpdO 0x200 s (execBmDebugForcedStall f s) := by
  unfold execBmDebugForcedStall
  refine UpdO.next ?_
  refine Upd.ite ?_ ?_
  · exact Upd.refl _ _
  · refine Upd.step (State.cnt_upd ..) rfl ?_
    exact Upd.refl _ _

theorem State.bmFill_upd (s : State) (f : Nat) : Upd 0x4000 s (State.bmFill s f) := by
  unfold State.bmFill
  refine Upd.step (Upd.set_mem _ _ ?_) rfl ?_
  · (intro h; simp_all +zetaDelta [MemSt.wf, tabWf_tabPut, tabWf_tabKeep])
  · exact Upd.refl _ _

end Sys2Proof.Machine
end

