-- ==== Sys2Proof/Laws/FrameStiles.lean ====
section
/-! SUPPORT. What each operation of Sys2Proof/Machine/Stiles.lean may change: the fields whose bits are set, in the order of State. -/
namespace Sys2Proof.Machine

theorem State.setChan_upd (s : State) (f : Nat) (e : Nat) (c : Nat) (x : StileCh) : Upd 0x2000 s (State.setChan s f e c x) := by
  unfold State.setChan
  refine Upd.step (Upd.set_fab _ _) rfl ?_
  exact Upd.refl _ _

theorem State.stileEvt_upd (s : State) (f : Nat) (e : Nat) (fld : Fld) : Upd 0x18300 s (State.stileEvt s f e fld) := by
  unfold State.stileEvt
  refine Upd.step (State.evt_upd ..) rfl ?_
  exact Upd.refl _ _

theorem State.stileDiscard_upd (s : State) (f : Nat) (e : Nat) (g : Nat) (h : Nat) : Upd 0x1a300 s (State.stileDiscard s f e g h) := by
  unfold State.stileDiscard
  extract_lets +onlyGivenNames x1
  clear_value x1
  extract_lets +onlyGivenNames x2
  clear_value x2
  extract_lets +onlyGivenNames x3
  clear_value x3
  extract_lets +onlyGivenNames x4
  refine cut (P := Upd 0x1a300 s x4) ?_ (fun h5 => ?_)
  · unfold x4
    refine Upd.foldl ?_ (fun y6 a7 h8 => ?_)
    · exact Upd.refl _ _
    · refine Upd.step (State.setChan_upd ..) rfl ?_
      exact h8
  clear_value x4
  refine Upd.ite ?_ ?_
  · exact h5
  · split
    · refine Upd.step (State.stileEvt_upd ..) rfl ?_
      refine Upd.step (State.cnt_upd ..) rfl ?_
      exact h5

theorem State.levelReset_upd (s : State) (f : Nat) (e : Nat) (g : Nat) (h : Nat) : Upd 0x2100 s (State.levelReset s f e g h) := by
  unfold State.levelReset
  refine Upd.foldl ?_ (fun y1 a2 h3 => ?_)
  · exact Upd.refl _ _
  · extract_lets +onlyGivenNames x4
    clear_value x4
    extract_lets +onlyGivenNames x5
    clear_value x5
    refine Upd.ite ?_ ?_
    · exact h3
    · refine Upd.step (State.emit_upd ..) rfl ?_
      refine Upd.step (Upd.set_fab _ _) rfl ?_
      exact h3

theorem State.stileSide_upd (s : State) (f : Nat) (e : Nat) (g : Nat) (h : Nat) : Upd 0x1a300 s (State.stileSide s f e g h) := by
  unfold State.stileSide
  extract_lets +onlyGivenNames x1
  clear_value x1
  extract_lets +onlyGivenNames x2
  clear_value x2
  extract_lets +onlyGivenNames x3
  clear_value x3
  extract_lets +onlyGivenNames x4
  clear_value x4
  extract_lets +onlyGivenNames x5
  refine cut (P := Upd 0x1a300 s x5) ?_ (fun h6 => ?_)
  · unfold x5
    refine Upd.step (Upd.set_fab _ _) rfl ?_
    exact Upd.refl _ _
  clear_value x5
  refine Upd.ite ?_ ?_
  · refine Upd.step (State.levelReset_upd ..) rfl ?_
    refine Upd.ite ?_ ?_
    · exact h6
    · refine Upd.step (State.stileEvt_upd ..) rfl ?_
      exact h6
  · exact h6

theorem State.stileRestart_upd (s : State) (f : Nat) (e : Nat) : Upd 0x2000 s (State.stileRestart s f e) := by
  unfold State.stileRestart
  refine Upd.foldl ?_ (fun y1 a2 h3 => ?_)
  · exact Upd.refl _ _
  · refine Upd.step (State.setChan_upd ..) rfl ?_
    exact h3

theorem State.stileUpdate_upd (s : State) (f : Nat) (e : Nat) : Upd 0x1a300 s (State.stileUpdate s f e) := by
  unfold State.stileUpdate
  split
  · exact Upd.refl _ _
  · extract_lets +onlyGivenNames x1
    clear_value x1
    extract_lets +onlyGivenNames x2
    clear_value x2
    extract_lets +onlyGivenNames x3
    refine cut (P := Upd 0x1a300 s x3) ?_ (fun h4 => ?_)
    · unfold x3
      refine Upd.ite ?_ ?_
      · refine Upd.ite ?_ ?_
        · refine Upd.step (State.stileRestart_upd ..) rfl ?_
          refine Upd.step (State.stileRestart_upd ..) rfl ?_
          exact Upd.refl _ _
        · exact Upd.refl _ _
      · refine Upd.step (State.stileDiscard_upd ..) rfl ?_
        refine Upd.step (State.stileDiscard_upd ..) rfl ?_
        exact Upd.refl _ _
    clear_value x3
    refine Upd.step (State.stileSide_upd ..) rfl ?_
    refine Upd.step (State.stileSide_upd ..) rfl ?_
    exact h4

theorem State.stileUpdateField_upd (s : State) (f : Nat) : Upd 0x1a300 s (State.stileUpdateField s f) := by
  unfold State.stileUpdateField
  refine Upd.foldl ?_ (fun y1 a2 h3 => ?_)
  · exact Upd.refl _ _
  · refine Upd.step (State.stileUpdate_upd ..) rfl ?_
    exact h3

theorem State.linkLost_upd (s : State) (f : Nat) (e : Nat) : Upd 0x18300 s (State.linkLost s f e) := by
  unfold State.linkLost
  refine Upd.ite ?_ ?_
  · exact Upd.refl _ _
  · refine Upd.step (State.stileEvt_upd ..) rfl ?_
    exact Upd.refl _ _

theorem State.setLost_upd (s : State) (f : Nat) (e : Nat) (v : Bool) : Upd 0x1a300 s (State.setLost s f e v) := by
  unfold State.setLost
  split
  · exact Upd.refl _ _
  · extract_lets +onlyGivenNames x1
    clear_value x1
    extract_lets +onlyGivenNames x2
    clear_value x2
    extract_lets +onlyGivenNames x3
    refine cut (P := Upd 0x1a300 s x3) ?_ (fun h4 => ?_)
    · unfold x3
      refine Upd.step (State.stileUpdate_upd ..) rfl ?_
      refine Upd.step (Upd.set_fab _ _) rfl ?_
      exact Upd.refl _ _
    clear_value x3
    refine Upd.ite ?_ ?_
    · refine Upd.step (State.linkLost_upd ..) rfl ?_
      refine Upd.step (State.linkLost_upd ..) rfl ?_
      exact h4
    · exact h4

end Sys2Proof.Machine
end

