-- ==== Sys2Proof/Laws/FrameFabric.lean ====
section
/-! SUPPORT. What each operation of Sys2Proof/Machine/Fabric.lean may change: the fields whose bits are set, in the order of State. -/
namespace Sys2Proof.Machine

theorem State.putQ_upd (s : State) (f : Nat) (l : List (Nat × Bool)) : Upd 0x2000 s (State.putQ s f l) := by
  unfold State.putQ
  refine Upd.step (Upd.set_fab _ _) rfl ?_
  exact Upd.refl _ _

theorem State.putMac_upd (s : State) (f : Nat) (l : List (Nat × MacSt)) : Upd 0x2000 s (State.putMac s f l) := by
  unfold State.putMac
  refine Upd.step (Upd.set_fab _ _) rfl ?_
  exact Upd.refl _ _

theorem State.settle_upd (s : State) (f : Nat) (ext : List Nat) (loop : Nat) : Upd 0x2000 s (State.settle s f ext loop) := by
  unfold State.settle
  extract_lets +onlyGivenNames x1
  clear_value x1
  refine Upd.step (State.putQ_upd ..) rfl ?_
  exact Upd.refl _ _

theorem State.initCells_upd (s : State) (f : Nat) : Upd 0x2000 s (State.initCells s f) := by
  unfold State.initCells
  refine Upd.step (State.putQ_upd ..) rfl ?_
  refine Upd.step (Upd.set_fab _ _) rfl ?_
  exact Upd.refl _ _

theorem State.stepEdge_upd (s : State) (f : Nat) (es : List (Nat × Bool)) : Upd 0x10000200 s (State.stepEdge s f es) := by
  unfold State.stepEdge
  extract_lets +onlyGivenNames x1
  clear_value x1
  refine Upd.ite ?_ ?_
  · exact Upd.refl _ _
  · extract_lets +onlyGivenNames x2
    clear_value x2
    extract_lets +onlyGivenNames x3
    refine cut (P := Upd 0x10000200 s x3) ?_ (fun h4 => ?_)
    · unfold x3
      refine Upd.step (Upd.set_dbg _ _) rfl ?_
      exact Upd.refl _ _
    clear_value x3
    refine Upd.ite ?_ ?_
    · refine Upd.step (State.wf_upd ..) rfl ?_
      refine Upd.step (State.setF_upd ..) rfl ?_
      exact h4
    · exact h4

theorem State.presentBms_upd (s : State) (f : Nat) (v : FabEnv) (es : List (Nat × Bool)) : Upd 0x100 s (State.presentBms s f v es) := by
  unfold State.presentBms
  refine Upd.foldl ?_ (fun y1 a2 h3 => ?_)
  · exact Upd.refl _ _
  · split
    · exact h3
    · refine Upd.foldl ?_ (fun y4 a5 h6 => ?_)
      · exact h3
      · refine Upd.ite ?_ ?_
        · refine Upd.step (State.emit_upd ..) rfl ?_
          exact h6
        · exact h6

theorem State.presentStiles_upd (s : State) (f : Nat) (v : FabEnv) (es : List (Nat × Bool)) : Upd 0x100 s (State.presentStiles s f v es) := by
  unfold State.presentStiles
  extract_lets +onlyGivenNames x1
  clear_value x1
  extract_lets +onlyGivenNames x2
  clear_value x2
  extract_lets +onlyGivenNames x3
  refine cut (P := Upd 0x100 s x3) ?_ (fun h4 => ?_)
  · unfold x3
    refine Upd.foldl ?_ (fun y5 a6 h7 => ?_)
    · exact Upd.refl _ _
    · extract_lets +onlyGivenNames x8
      clear_value x8
      extract_lets +onlyGivenNames x9
      refine cut (P := Upd 0x100 s x9) ?_ (fun h10 => ?_)
      · unfold x9
        refine Upd.ite ?_ ?_
        · refine Upd.step (State.emit_upd ..) rfl ?_
          exact h7
        · exact h7
      clear_value x9
      refine Upd.ite ?_ ?_
      · refine Upd.step (State.emit_upd ..) rfl ?_
        exact h10
      · exact h10
  clear_value x3
  refine Upd.foldl ?_ (fun y11 a12 h13 => ?_)
  · exact h4
  · refine Upd.ite ?_ ?_
    · refine Upd.step (State.emit_upd ..) rfl ?_
      exact h13
    · exact h13

theorem State.clockEdge_upd (s : State) (f : Nat) (edges : List (Fin 4 × Bool)) (ext : List Nat) (lateCells : List Nat) (lateSr : List Nat) (lateMacs : List Nat) : Upd 0x10002380 s (State.clockEdge s f edges ext lateCells lateSr lateMacs) := by
  unfold State.clockEdge
  split
  · rename_i v1 v2 v3 v4
    refine cut (P := Upd 0x10002380 s v3) (UpdP.out ?_ v4) (fun h5 => ?_)
    · refine UpdP.step (State.fresh_upd ..) rfl ?_
      exact Upd.refl _ _
    split
    · rename_i v6 v7 v8 v9
      refine cut (P := Upd 0x10002380 s v8) (UpdP.out ?_ v9) (fun h10 => ?_)
      · refine UpdP.step (State.fresh_upd ..) rfl ?_
        exact h5
      split
      · rename_i v11 v12 v13 v14
        refine cut (P := Upd 0x10002380 s v13) (UpdP.out ?_ v14) (fun h15 => ?_)
        · refine UpdP.step (State.fresh_upd ..) rfl ?_
          exact h10
        split
        · rename_i v16 v17 v18 v19
          refine cut (P := Upd 0x10002380 s v18) (UpdP.out ?_ v19) (fun h20 => ?_)
          · refine UpdP.step (State.fresh_upd ..) rfl ?_
            exact h15
          extract_lets +onlyGivenNames x21
          clear_value x21
          extract_lets +onlyGivenNames x22
          refine cut (P := Upd 0x10002380 s x22) ?_ (fun h23 => ?_)
          · unfold x22
            refine Upd.step (State.setFrt_upd ..) rfl ?_
            exact h20
          clear_value x22
          extract_lets +onlyGivenNames x24
          refine cut (P := Upd 0x10002380 s x24) ?_ (fun h25 => ?_)
          · unfold x24
            refine Upd.ite ?_ ?_
            · refine Upd.step (State.initCells_upd ..) rfl ?_
              exact h23
            · refine Upd.step (State.settle_upd ..) rfl ?_
              exact h23
          clear_value x24
          extract_lets +onlyGivenNames x26
          clear_value x26
          extract_lets +onlyGivenNames x27
          clear_value x27
          extract_lets +onlyGivenNames x28
          clear_value x28
          extract_lets +onlyGivenNames x29
          clear_value x29
          extract_lets +onlyGivenNames x30
          refine cut (P := Upd 0x10002380 s x30) ?_ (fun h31 => ?_)
          · unfold x30
            refine Upd.step (State.putMac_upd ..) rfl ?_
            refine Upd.step (State.putQ_upd ..) rfl ?_
            refine Upd.step (State.presentStiles_upd ..) rfl ?_
            refine Upd.step (State.presentBms_upd ..) rfl ?_
            exact h25
          clear_value x30
          refine Upd.step (State.stepEdge_upd ..) rfl ?_
          refine Upd.ite ?_ ?_
          · exact h31
          · refine Upd.step (State.settle_upd ..) rfl ?_
            exact h31

theorem execActiveClockEdge_upd (f : Fin 128) (edges : List (Fin 4 × Bool)) (ext : List Nat) (lateCells : List Nat) (lateSr : List Nat) (lateMacs : List Nat) (upsets : List (Fin 139264 × Fin 72)) (s : State) : UpdO 0x10002380 s (execActiveClockEdge f edges ext lateCells lateSr lateMacs upsets s) := by
  unfold execActiveClockEdge
  refine UpdO.next ?_
  refine Upd.step (State.clockEdge_upd ..) rfl ?_
  refine Upd.step (State.flipCfg_upd ..) rfl ?_
  exact Upd.refl _ _

end Sys2Proof.Machine
end

