-- ==== Sys2Proof/Laws/FrameReport.lean ====
section
/-! SUPPORT. What each operation of Sys2Proof/Machine/Report.lean may change: the fields whose bits are set, in the order of State. -/
namespace Sys2Proof.Machine

theorem State.reportSites_upd (s : State) (key : Nat) (code : Nat) (source : Nat) (sev : Nat) (data : Nat) (sites : Nat) : Upd 0x20000 s (State.reportSites s key code source sev data sites) := by
  unfold State.reportSites
  refine Upd.step (Upd.set_par _ _) rfl ?_
  exact Upd.refl _ _

theorem State.report_upd (s : State) (key : Nat) (code : Nat) (sev : Nat) (data : Nat) : Upd 0x20000 s (State.report s key code sev data) := by
  unfold State.report
  refine Upd.step (State.reportSites_upd ..) rfl ?_
  exact Upd.refl _ _

theorem State.stageNew_upd (s : State) (r : PRec) : Upd 0x20200 s (State.stageNew s r) := by
  unfold State.stageNew
  extract_lets +onlyGivenNames x1
  clear_value x1
  extract_lets +onlyGivenNames x2
  clear_value x2
  extract_lets +onlyGivenNames x3
  clear_value x3
  extract_lets +onlyGivenNames x4
  clear_value x4
  extract_lets +onlyGivenNames x5
  clear_value x5
  extract_lets +onlyGivenNames x6
  refine cut (P := Upd 0x20200 s x6) ?_ (fun h7 => ?_)
  · unfold x6
    refine Upd.step (Upd.set_par _ _) rfl ?_
    exact Upd.refl _ _
  clear_value x6
  extract_lets +onlyGivenNames x8
  refine cut (P := Upd 0x20200 s x8) ?_ (fun h9 => ?_)
  · unfold x8
    refine Upd.ite ?_ ?_
    · refine Upd.step (State.setF_upd ..) rfl ?_
      refine Upd.step (State.cnt_upd ..) rfl ?_
      exact h7
    · refine Upd.step (State.wf_upd ..) rfl ?_
      refine Upd.step (State.wf_upd ..) rfl ?_
      exact h7
  clear_value x8
  refine Upd.ite ?_ ?_
  · refine Upd.step (State.wf_upd ..) rfl ?_
    exact h9
  · refine Upd.ite ?_ ?_
    · refine Upd.step (State.wf_upd ..) rfl ?_
      exact h9
    · exact h9

theorem State.stage_upd (s : State) (r : PRec) : Upd 0x20200 s (State.stage s r) := by
  unfold State.stage
  split
  · refine Upd.ite ?_ ?_
    · extract_lets +onlyGivenNames x1
      clear_value x1
      refine Upd.step (Upd.set_par _ _) rfl ?_
      exact Upd.refl _ _
    · refine Upd.step (State.stageNew_upd ..) rfl ?_
      exact Upd.refl _ _
  · refine Upd.step (State.stageNew_upd ..) rfl ?_
    exact Upd.refl _ _

theorem State.record_upd (s : State) (code : Nat) (source : Nat) (sev : Nat) (site : Nat) (data : Nat) : Upd 0x20200 s (State.record s code source sev site data) := by
  unfold State.record
  refine Upd.step (State.stage_upd ..) rfl ?_
  exact Upd.refl _ _

theorem State.reportO_upd (s : State) (key : Nat) (code : Nat) (data : Nat) : Upd 0x20080 s (State.reportO s key code data) := by
  unfold State.reportO
  split
  · rename_i v1 v2 v3 v4
    refine cut (P := Upd 0x20080 s v3) (UpdP.out ?_ v4) (fun h5 => ?_)
    · refine UpdP.step (State.fresh_upd ..) rfl ?_
      exact Upd.refl _ _
    refine Upd.step (State.report_upd ..) rfl ?_
    exact h5

theorem State.recordO_upd (s : State) (code : Nat) (source : Nat) (data : Nat) : Upd 0x20280 s (State.recordO s code source data) := by
  unfold State.recordO
  split
  · rename_i v1 v2 v3 v4
    refine cut (P := Upd 0x20280 s v3) (UpdP.out ?_ v4) (fun h5 => ?_)
    · refine UpdP.step (State.fresh_upd ..) rfl ?_
      exact Upd.refl _ _
    refine Upd.step (State.record_upd ..) rfl ?_
    exact h5

end Sys2Proof.Machine
end

