-- ==== Sys2Proof/Laws/FrameLinkSt.lean ====
section
/-! SUPPORT. What each operation of Sys2Proof/Machine/LinkSt.lean may change: the fields whose bits are set, in the order of State. -/
namespace Sys2Proof.Machine

theorem State.setLk_upd (s : State) (l : Nat) (x : LinkSt) : Upd 0x100000 s (State.setLk s l x) := by
  unfold State.setLk
  refine Upd.step (Upd.set_llp _ _) rfl ?_
  exact Upd.refl _ _

theorem State.setLane_upd (s : State) (l : Nat) (x : LaneRt) : Upd 0x100000 s (State.setLane s l x) := by
  unfold State.setLane
  refine Upd.step (Upd.set_llp _ _) rfl ?_
  exact Upd.refl _ _

theorem State.setFcu_upd (s : State) (n : Nat) (x : FcuSt) : Upd 0x200000 s (State.setFcu s n x) := by
  unfold State.setFcu
  refine Upd.step (Upd.set_cap _ _) rfl ?_
  exact Upd.refl _ _

theorem State.setTally_upd (s : State) (g : Nat) (x : TallySt) : Upd 0x200000 s (State.setTally s g x) := by
  unfold State.setTally
  refine Upd.step (Upd.set_cap _ _) rfl ?_
  exact Upd.refl _ _

theorem State.linkEvt_upd (s : State) (l : Nat) (f : Fld) : Upd 0x18300 s (State.linkEvt s l f) := by
  unfold State.linkEvt
  refine Upd.step (State.evt_upd ..) rfl ?_
  exact Upd.refl _ _

theorem State.laneEvt_upd (s : State) (l : Nat) (f : Fld) : Upd 0x18300 s (State.laneEvt s l f) := by
  unfold State.laneEvt
  refine Upd.step (State.evt_upd ..) rfl ?_
  exact Upd.refl _ _

theorem State.linkCnt_upd (s : State) (l : Nat) (c : Nat) (n : Nat) : Upd 0x200 s (State.linkCnt s l c n) := by
  unfold State.linkCnt
  refine Upd.step (State.cnt_upd ..) rfl ?_
  exact Upd.refl _ _

theorem State.sendLane_upd (s : State) (l : Nat) (i : LaneItem) : Upd 0x100100 s (State.sendLane s l i) := by
  unfold State.sendLane
  refine Upd.ite ?_ ?_
  · exact Upd.refl _ _
  · extract_lets +onlyGivenNames x1
    clear_value x1
    refine Upd.step (State.emit_upd ..) rfl ?_
    refine Upd.step (State.setLane_upd ..) rfl ?_
    exact Upd.refl _ _

theorem State.setMill_upd (s : State) (e : Nat) (x : MillSt) : Upd 0x800000 s (State.setMill s e x) := by
  unfold State.setMill
  refine Upd.step (Upd.set_mill _ _) rfl ?_
  exact Upd.refl _ _

end Sys2Proof.Machine
end

