-- ==== Sys2Proof/Laws/FrameFcuOps.lean ====
section
/-! SUPPORT. What each operation of Sys2Proof/Machine/FcuOps.lean may change: the fields whose bits are set, in the order of State. -/
namespace Sys2Proof.Machine

theorem State.returnGrans_upd (s : State) (l : Nat) : Upd 0x200 s (State.returnGrans s l) := by
  unfold State.returnGrans
  refine Upd.foldl ?_ (fun y1 a2 h3 => ?_)
  · exact Upd.refl _ _
  · refine Upd.step (State.wr_upd ..) rfl ?_
    exact h3

theorem State.setRec_upd (s : State) (k : Nat) (c0 : Nat) (c1 : Nat) : Upd 0x200000 s (State.setRec s k c0 c1) := by
  unfold State.setRec
  refine Upd.step (Upd.set_cap _ _) rfl ?_
  exact Upd.refl _ _

theorem State.setMat_upd (s : State) (k : Nat) (v : Bool) : Upd 0x200000 s (State.setMat s k v) := by
  unfold State.setMat
  refine Upd.step (Upd.set_cap _ _) rfl ?_
  exact Upd.refl _ _

theorem State.clearGran_upd (s : State) (n : Nat) (g : Nat) : Upd 0x200000 s (State.clearGran s n g) := by
  unfold State.clearGran
  refine Upd.foldl ?_ (fun y1 a2 h3 => ?_)
  · exact Upd.refl _ _
  · extract_lets +onlyGivenNames x4
    clear_value x4
    split
    · refine Upd.step (State.setMat_upd ..) rfl ?_
      refine Upd.step (State.setRec_upd ..) rfl ?_
      exact h3

theorem State.clrTo_upd (s : State) (n : Nat) : Upd 0x200000 s (State.clrTo s n) := by
  unfold State.clrTo
  extract_lets +onlyGivenNames x1
  clear_value x1
  split
  · exact Upd.refl _ _
  · extract_lets +onlyGivenNames x2
    clear_value x2
    extract_lets +onlyGivenNames x3
    refine cut (P := Upd 0x200000 s x3) ?_ (fun h4 => ?_)
    · unfold x3
      refine Upd.foldl ?_ (fun y5 a6 h7 => ?_)
      · exact Upd.refl _ _
      · refine Upd.step (State.clearGran_upd ..) rfl ?_
        exact h7
    clear_value x3
    refine Upd.step (State.setFcu_upd ..) rfl ?_
    exact h4

theorem State.fcuCnt_upd (s : State) (l : Nat) (c : Nat) (n : Nat) : Upd 0x200 s (State.fcuCnt s l c n) := by
  unfold State.fcuCnt
  refine Upd.step (State.cnt_upd ..) rfl ?_
  exact Upd.refl _ _

theorem State.fcuStat_upd (s : State) (l : Nat) (f : Fld) : Upd 0x200 s (State.fcuStat s l f) := by
  unfold State.fcuStat
  refine Upd.step (State.setF_upd ..) rfl ?_
  exact Upd.refl _ _

theorem State.logDrop_upd (s : State) (l : Nat) (n : Nat) : Upd 0x200 s (State.logDrop s l n) := by
  unfold State.logDrop
  refine Upd.ite ?_ ?_
  · exact Upd.refl _ _
  · refine Upd.step (State.fcuStat_upd ..) rfl ?_
    refine Upd.step (State.cnt64_upd ..) rfl ?_
    exact Upd.refl _ _

theorem State.logOffer_upd (s : State) (l : Nat) (raw : Nat) : Upd 0x200200 s (State.logOffer s l raw) := by
  unfold State.logOffer
  extract_lets +onlyGivenNames x1
  clear_value x1
  extract_lets +onlyGivenNames x2
  clear_value x2
  extract_lets +onlyGivenNames x3
  extract_lets +onlyGivenNames x4
  extract_lets +onlyGivenNames x5
  refine Upd.ite ?_ ?_
  · refine Upd.step (State.logDrop_upd ..) rfl ?_
    exact Upd.refl _ _
  · refine Upd.ite ?_ ?_
    · refine Upd.step (State.setF_upd ..) rfl ?_
      refine Upd.step (State.logDrop_upd ..) rfl ?_
      exact Upd.refl _ _
    · refine Upd.step (State.setFcu_upd ..) rfl ?_
      exact Upd.refl _ _

theorem State.millPump_upd (s : State) (e : Nat) : Upd 0x900000 s (State.millPump s e) := by
  unfold State.millPump
  refine Upd.foldl ?_ (fun y1 a2 h3 => ?_)
  · exact Upd.refl _ _
  · extract_lets +onlyGivenNames x4
    clear_value x4
    extract_lets +onlyGivenNames x5
    clear_value x5
    extract_lets +onlyGivenNames x6
    clear_value x6
    extract_lets +onlyGivenNames x7
    clear_value x7
    extract_lets +onlyGivenNames x8
    clear_value x8
    refine Upd.ite ?_ ?_
    · exact h3
    · extract_lets +onlyGivenNames x9
      refine cut (P := Upd 0x900000 s x9) ?_ (fun h10 => ?_)
      · unfold x9
        refine Upd.step (State.setMill_upd ..) rfl ?_
        exact h3
      clear_value x9
      refine Upd.step (State.setLk_upd ..) rfl ?_
      exact h10

theorem State.eccDrop_upd (s : State) (l : Nat) (raw : Nat) : Upd 0x20280 s (State.eccDrop s l raw) := by
  unfold State.eccDrop
  refine Upd.step (State.recordO_upd ..) rfl ?_
  refine Upd.step (State.fcuStat_upd ..) rfl ?_
  refine Upd.step (State.fcuCnt_upd ..) rfl ?_
  exact Upd.refl _ _

theorem State.forward_upd (s : State) (l : Nat) (e : FEntry) (captured : Bool) (mue : Bool) : Upd 0xb20280 s (State.forward s l e captured mue) := by
  unfold State.forward
  extract_lets +onlyGivenNames x1
  clear_value x1
  extract_lets +onlyGivenNames x2
  refine cut (P := Upd 0xb20280 s x2) ?_ (fun h3 => ?_)
  · unfold x2
    refine Upd.ite ?_ ?_
    · refine Upd.step (State.setLk_upd ..) rfl ?_
      exact Upd.refl _ _
    · exact Upd.refl _ _
  clear_value x2
  extract_lets +onlyGivenNames x4
  clear_value x4
  extract_lets +onlyGivenNames x5
  clear_value x5
  extract_lets +onlyGivenNames x6
  refine cut (P := Upd 0xb20280 s x6) ?_ (fun h7 => ?_)
  · unfold x6
    refine Upd.ite ?_ ?_
    · refine Upd.ite ?_ ?_
      · refine Upd.step (State.eccDrop_upd ..) rfl ?_
        exact h3
      · refine Upd.ite ?_ ?_
        · refine Upd.step (State.millPump_upd ..) rfl ?_
          refine Upd.step (State.setLk_upd ..) rfl ?_
          exact h3
        · refine Upd.step (State.fcuCnt_upd ..) rfl ?_
          exact h3
    · exact h3
  clear_value x6
  extract_lets +onlyGivenNames x8
  clear_value x8
  refine Upd.ite ?_ ?_
  · refine Upd.step (State.logOffer_upd ..) rfl ?_
    exact h7
  · exact h7

theorem State.failCredit_upd (s : State) (l : Nat) (e : FEntry) : Upd 0x100000 s (State.failCredit s l e) := by
  unfold State.failCredit
  refine Upd.ite ?_ ?_
  · extract_lets +onlyGivenNames x1
    clear_value x1
    refine Upd.step (State.setLk_upd ..) rfl ?_
    exact Upd.refl _ _
  · exact Upd.refl _ _

theorem State.updRec_upd (s : State) (n : Nat) (k : Nat) (c0 : Nat) (c1 : Nat) : Upd 0x200000 s (State.updRec s n k c0 c1) := by
  unfold State.updRec
  extract_lets +onlyGivenNames x1
  clear_value x1
  extract_lets +onlyGivenNames x2
  refine cut (P := Upd 0x200000 s x2) ?_ (fun h3 => ?_)
  · unfold x2
    refine Upd.step (State.setRec_upd ..) rfl ?_
    exact Upd.refl _ _
  clear_value x2
  refine Upd.ite ?_ ?_
  · exact h3
  · refine Upd.step (State.setFcu_upd ..) rfl ?_
    exact h3

theorem State.tearFcu_upd (s : State) (n : Nat) : Upd 0x200080 s (State.tearFcu s n) := by
  unfold State.tearFcu
  split
  · exact Upd.refl _ _
  · refine Upd.ite ?_ ?_
    · split
      · rename_i v1 v2 v3 v4
        refine cut (P := Upd 0x200080 s v3) (UpdP.out ?_ v4) (fun h5 => ?_)
        · refine UpdP.step (State.fresh_upd ..) rfl ?_
          exact Upd.refl _ _
        refine Upd.ite ?_ ?_
        · refine Upd.step (State.setRec_upd ..) rfl ?_
          exact h5
        · exact h5
    · exact Upd.refl _ _

theorem State.tearRecords_upd (s : State) : Upd 0x200080 s (State.tearRecords s) := by
  unfold State.tearRecords
  refine Upd.foldl ?_ (fun y1 a2 h3 => ?_)
  · exact Upd.refl _ _
  · refine Upd.step (State.tearFcu_upd ..) rfl ?_
    exact h3

theorem State.applyEntry_upd (s : State) (l : Nat) (e : FEntry) (ue : Bool) (mue : Bool) : Upd 0xb20280 s (State.applyEntry s l e ue mue) := by
  unfold State.applyEntry
  extract_lets +onlyGivenNames x1
  clear_value x1
  extract_lets +onlyGivenNames x2
  clear_value x2
  extract_lets +onlyGivenNames x3
  clear_value x3
  extract_lets +onlyGivenNames x4
  clear_value x4
  extract_lets +onlyGivenNames x5
  refine cut (P := Upd 0xb20280 s x5) ?_ (fun h6 => ?_)
  · unfold x5
    refine Upd.step (State.clrTo_upd ..) rfl ?_
    exact Upd.refl _ _
  clear_value x5
  extract_lets +onlyGivenNames x7
  refine cut (P := Upd 0xb20280 s x7) ?_ (fun h8 => ?_)
  · unfold x7
    refine Upd.ite ?_ ?_
    · refine Upd.step (State.eccDrop_upd ..) rfl ?_
      exact h6
    · refine Upd.ite ?_ ?_
      · refine Upd.step (State.fcuStat_upd ..) rfl ?_
        refine Upd.step (State.fcuCnt_upd ..) rfl ?_
        exact h6
      · refine Upd.ite ?_ ?_
        · refine Upd.step (State.fcuStat_upd ..) rfl ?_
          refine Upd.step (State.fcuCnt_upd ..) rfl ?_
          exact h6
        · split
          · exact h6
          · split
            · split
              · extract_lets +onlyGivenNames x9
                refine cut (P := Upd 0xb20280 s x9) ?_ (fun h10 => ?_)
                · unfold x9
                  refine Upd.step (State.updRec_upd ..) rfl ?_
                  exact h6
                clear_value x9
                extract_lets +onlyGivenNames x11
                refine cut (P := Upd 0xb20280 s x11) ?_ (fun h12 => ?_)
                · unfold x11
                  refine Upd.ite ?_ ?_
                  · refine Upd.step (State.fcuStat_upd ..) rfl ?_
                    refine Upd.step (State.fcuCnt_upd ..) rfl ?_
                    exact h10
                  · exact h10
                clear_value x11
                refine Upd.ite ?_ ?_
                · refine Upd.step (State.forward_upd ..) rfl ?_
                  exact h12
                · exact h12
  clear_value x7
  refine Upd.step (State.failCredit_upd ..) rfl ?_
  exact h8

theorem State.portCut_upd (s : State) (l : Nat) : Upd 0x100200 s (State.portCut s l) := by
  unfold State.portCut
  extract_lets +onlyGivenNames x1
  clear_value x1
  extract_lets +onlyGivenNames x2
  clear_value x2
  refine Upd.ite ?_ ?_
  · exact Upd.refl _ _
  · extract_lets +onlyGivenNames x3
    clear_value x3
    refine Upd.step (State.fcuCnt_upd ..) rfl ?_
    refine Upd.step (State.setLk_upd ..) rfl ?_
    exact Upd.refl _ _

theorem State.portsCut_upd (s : State) (f : Nat) : Upd 0x100200 s (State.portsCut s f) := by
  unfold State.portsCut
  refine Upd.foldl ?_ (fun y1 a2 h3 => ?_)
  · exact Upd.refl _ _
  · refine Upd.step (State.portCut_upd ..) rfl ?_
    exact h3

theorem State.fcuSiteReset_upd (s : State) (l : Nat) : Upd 0x300200 s (State.fcuSiteReset s l) := by
  unfold State.fcuSiteReset
  extract_lets +onlyGivenNames x1
  clear_value x1
  extract_lets +onlyGivenNames x2
  clear_value x2
  extract_lets +onlyGivenNames x3
  clear_value x3
  extract_lets +onlyGivenNames x4
  clear_value x4
  extract_lets +onlyGivenNames x5
  clear_value x5
  extract_lets +onlyGivenNames x6
  clear_value x6
  extract_lets +onlyGivenNames x7
  refine cut (P := Upd 0x300200 s x7) ?_ (fun h8 => ?_)
  · unfold x7
    refine Upd.step (State.setLk_upd ..) rfl ?_
    exact Upd.refl _ _
  clear_value x7
  extract_lets +onlyGivenNames x9
  refine cut (P := Upd 0x300200 s x9) ?_ (fun h10 => ?_)
  · unfold x9
    refine Upd.step (State.setFcu_upd ..) rfl ?_
    exact h8
  clear_value x9
  refine Upd.ite ?_ ?_
  · exact h10
  · refine Upd.step (State.fcuStat_upd ..) rfl ?_
    refine Upd.step (State.fcuCnt_upd ..) rfl ?_
    exact h10

theorem State.millFlush_upd (s : State) (e : Nat) : Upd 0x900200 s (State.millFlush s e) := by
  unfold State.millFlush
  extract_lets +onlyGivenNames x1
  clear_value x1
  extract_lets +onlyGivenNames x2
  refine cut (P := Upd 0x900200 s x2) ?_ (fun h3 => ?_)
  · unfold x2
    refine Upd.foldl ?_ (fun y4 a5 h6 => ?_)
    · refine Upd.step (State.setMill_upd ..) rfl ?_
      exact Upd.refl _ _
    · refine Upd.step (State.cnt_upd ..) rfl ?_
      exact h6
  clear_value x2
  refine Upd.foldl ?_ (fun y7 a8 h9 => ?_)
  · exact h3
  · extract_lets +onlyGivenNames x10
    clear_value x10
    extract_lets +onlyGivenNames x11
    clear_value x11
    extract_lets +onlyGivenNames x12
    clear_value x12
    refine Upd.ite ?_ ?_
    · exact h9
    · refine Upd.step (State.fcuCnt_upd ..) rfl ?_
      refine Upd.step (State.setLk_upd ..) rfl ?_
      exact h9

end Sys2Proof.Machine
end

