-- ==== Sys2Proof/Laws/FrameKelk.lean ====
section
/-! SUPPORT. What each operation of Sys2Proof/Machine/Kelk.lean may change: the fields whose bits are set, in the order of State. -/
namespace Sys2Proof.Machine

theorem State.setBnd_upd (s : State) (b : Nat) (x : KelkBnd) : Upd 0x40000 s (State.setBnd s b x) := by
  unfold State.setBnd
  refine Upd.step (Upd.set_kelk _ _) rfl ?_
  exact Upd.refl _ _

theorem State.setGrp_upd (s : State) (w : Nat) (x : KelkBnd) : Upd 0x40000 s (State.setGrp s w x) := by
  unfold State.setGrp
  refine Upd.step (Upd.set_kelk _ _) rfl ?_
  exact Upd.refl _ _

theorem State.cutDies_upd (s : State) : Upd 0x60080 s (State.cutDies s) := by
  unfold State.cutDies
  refine Upd.foldl ?_ (fun y1 a2 h3 => ?_)
  · exact Upd.refl _ _
  · refine Upd.ite ?_ ?_
    · refine Upd.step (State.reportO_upd ..) rfl ?_
      refine Upd.step (Upd.set_kelk _ _) rfl ?_
      exact h3
    · exact h3

theorem State.setBndState_upd (s : State) (b : Nat) (st : Nat) : Upd 0x20280 s (State.setBndState s b st) := by
  unfold State.setBndState
  extract_lets +onlyGivenNames x1
  clear_value x1
  extract_lets +onlyGivenNames x2
  refine cut (P := Upd 0x20280 s x2) ?_ (fun h3 => ?_)
  · unfold x2
    refine Upd.step (State.setF_upd ..) rfl ?_
    refine Upd.step (State.wf_upd ..) rfl ?_
    exact Upd.refl _ _
  clear_value x2
  refine Upd.ite ?_ ?_
  · exact h3
  · refine Upd.step (State.recordO_upd ..) rfl ?_
    exact h3

theorem State.setGrpState_upd (s : State) (w : Nat) (st : Nat) : Upd 0x20280 s (State.setGrpState s w st) := by
  unfold State.setGrpState
  extract_lets +onlyGivenNames x1
  clear_value x1
  extract_lets +onlyGivenNames x2
  refine cut (P := Upd 0x20280 s x2) ?_ (fun h3 => ?_)
  · unfold x2
    refine Upd.step (State.setF_upd ..) rfl ?_
    refine Upd.step (State.wf_upd ..) rfl ?_
    exact Upd.refl _ _
  clear_value x2
  refine Upd.ite ?_ ?_
  · exact h3
  · refine Upd.step (State.recordO_upd ..) rfl ?_
    exact h3

theorem State.kelkSErr_upd (s : State) (b : Nat) : Upd 0x60280 s (State.kelkSErr s b) := by
  unfold State.kelkSErr
  extract_lets +onlyGivenNames x1
  refine cut (P := Upd 0x60280 s x1) ?_ (fun h2 => ?_)
  · unfold x1
    refine Upd.step (State.cntF_upd ..) rfl ?_
    exact Upd.refl _ _
  clear_value x1
  extract_lets +onlyGivenNames x3
  clear_value x3
  extract_lets +onlyGivenNames x4
  clear_value x4
  refine Upd.ite ?_ ?_
  · refine Upd.step (State.setBndState_upd ..) rfl ?_
    refine Upd.step (State.setBnd_upd ..) rfl ?_
    exact h2
  · refine Upd.step (State.setBnd_upd ..) rfl ?_
    exact h2

theorem State.kelkWErr_upd (s : State) (w : Nat) : Upd 0x60280 s (State.kelkWErr s w) := by
  unfold State.kelkWErr
  extract_lets +onlyGivenNames x1
  refine cut (P := Upd 0x60280 s x1) ?_ (fun h2 => ?_)
  · unfold x1
    refine Upd.step (State.cntF_upd ..) rfl ?_
    exact Upd.refl _ _
  clear_value x1
  extract_lets +onlyGivenNames x3
  clear_value x3
  extract_lets +onlyGivenNames x4
  clear_value x4
  refine Upd.ite ?_ ?_
  · refine Upd.step (State.setGrpState_upd ..) rfl ?_
    refine Upd.step (State.setGrp_upd ..) rfl ?_
    exact h2
  · refine Upd.step (State.setGrp_upd ..) rfl ?_
    exact h2

theorem State.kelkWUe_upd (s : State) (w : Nat) : Upd 0x3a380 s (State.kelkWUe s w) := by
  unfold State.kelkWUe
  extract_lets +onlyGivenNames x1
  refine cut (P := Upd 0x3a380 s x1) ?_ (fun h2 => ?_)
  · unfold x1
    refine Upd.step (State.setF_upd ..) rfl ?_
    exact Upd.refl _ _
  clear_value x1
  split
  · extract_lets +onlyGivenNames x3
    refine cut (P := Upd 0x3a380 s x3) ?_ (fun h4 => ?_)
    · unfold x3
      refine Upd.step (State.setLost_upd ..) rfl ?_
      exact h2
    clear_value x3
    refine Upd.ite ?_ ?_
    · refine Upd.step (State.setGrpState_upd ..) rfl ?_
      exact h4
    · exact h4

theorem kelkSRetested_upd (b : Nat) (found : List Nat) (s : State) : Upd 0x60280 s (kelkSRetested b found s) := by
  unfold kelkSRetested
  refine Upd.ite ?_ ?_
  · exact Upd.refl _ _
  · extract_lets +onlyGivenNames x1
    clear_value x1
    extract_lets +onlyGivenNames x2
    clear_value x2
    extract_lets +onlyGivenNames x3
    refine cut (P := Upd 0x60280 s x3) ?_ (fun h4 => ?_)
    · unfold x3
      refine Upd.step (State.wf_upd ..) rfl ?_
      refine Upd.step (State.setBnd_upd ..) rfl ?_
      exact Upd.refl _ _
    clear_value x3
    refine Upd.ite ?_ ?_
    · refine Upd.step (State.setBndState_upd ..) rfl ?_
      exact h4
    · refine Upd.step (State.cutDies_upd ..) rfl ?_
      refine Upd.step (State.setBndState_upd ..) rfl ?_
      exact h4

theorem kelkWRetested_upd (w : Nat) (found : List Nat) (s : State) : Upd 0x7a380 s (kelkWRetested w found s) := by
  unfold kelkWRetested
  refine Upd.ite ?_ ?_
  · exact Upd.refl _ _
  · extract_lets +onlyGivenNames x1
    clear_value x1
    extract_lets +onlyGivenNames x2
    clear_value x2
    extract_lets +onlyGivenNames x3
    refine cut (P := Upd 0x7a380 s x3) ?_ (fun h4 => ?_)
    · unfold x3
      refine Upd.step (State.wf_upd ..) rfl ?_
      refine Upd.step (State.setGrp_upd ..) rfl ?_
      exact Upd.refl _ _
    clear_value x3
    refine Upd.ite ?_ ?_
    · refine Upd.step (State.setGrpState_upd ..) rfl ?_
      exact h4
    · extract_lets +onlyGivenNames x5
      refine cut (P := Upd 0x7a380 s x5) ?_ (fun h6 => ?_)
      · unfold x5
        refine Upd.step (State.setGrpState_upd ..) rfl ?_
        exact h4
      clear_value x5
      split
      · refine Upd.ite ?_ ?_
        · exact h6
        · refine Upd.step (State.setLost_upd ..) rfl ?_
          exact h6

theorem execKelkSRetestDone_upd (b : Fin 160) (found : List (Fin 68)) (s : State) : UpdO 0x60280 s (execKelkSRetestDone b found s) := by
  unfold execKelkSRetestDone
  refine UpdO.next ?_
  refine Upd.step (kelkSRetested_upd ..) rfl ?_
  exact Upd.refl _ _

theorem execKelkWRetestDone_upd (w : Fin 1792) (found : List (Fin 34)) (s : State) : UpdO 0x7a380 s (execKelkWRetestDone w found s) := by
  unfold execKelkWRetestDone
  refine UpdO.next ?_
  refine Upd.step (kelkWRetested_upd ..) rfl ?_
  exact Upd.refl _ _

theorem kelkWRestart_upd (f : Nat) (e : Nat) (s : State) : Upd 0x1a300 s (kelkWRestart f e s) := by
  unfold kelkWRestart
  refine Upd.ite ?_ ?_
  · refine Upd.step (State.setLost_upd ..) rfl ?_
    exact Upd.refl _ _
  · exact Upd.refl _ _

theorem execKelkWCrossingRestart_upd (f : Fin 128) (e : Fin 4) (s : State) : UpdO 0x1a300 s (execKelkWCrossingRestart f e s) := by
  unfold execKelkWCrossingRestart
  refine UpdO.next ?_
  refine Upd.step (kelkWRestart_upd ..) rfl ?_
  exact Upd.refl _ _

theorem State.selectS_upd (s : State) (cold : Bool) (b : Nat) (found : List Nat) : Upd 0x60280 s (State.selectS s cold b found) := by
  unfold State.selectS
  extract_lets +onlyGivenNames x1
  clear_value x1
  extract_lets +onlyGivenNames x2
  clear_value x2
  extract_lets +onlyGivenNames x3
  clear_value x3
  extract_lets +onlyGivenNames x4
  refine cut (P := Upd 0x60280 s x4) ?_ (fun h5 => ?_)
  · unfold x4
    refine Upd.ite ?_ ?_
    · refine Upd.step (State.recordO_upd ..) rfl ?_
      exact Upd.refl _ _
    · exact Upd.refl _ _
  clear_value x4
  extract_lets +onlyGivenNames x6
  refine cut (P := Upd 0x60280 s x6) ?_ (fun h7 => ?_)
  · unfold x6
    refine Upd.step (State.setBnd_upd ..) rfl ?_
    exact h5
  clear_value x6
  extract_lets +onlyGivenNames x8
  refine cut (P := Upd 0x60280 s x8) ?_ (fun h9 => ?_)
  · unfold x8
    refine Upd.step (State.wf_upd ..) rfl ?_
    refine Upd.step (State.wf_upd ..) rfl ?_
    exact h7
  clear_value x8
  refine Upd.ite ?_ ?_
  · refine Upd.step (State.reportO_upd ..) rfl ?_
    refine Upd.step (State.wf_upd ..) rfl ?_
    exact h9
  · refine Upd.step (State.wf_upd ..) rfl ?_
    exact h9

theorem State.selectW_upd (s : State) (cold : Bool) (w : Nat) (found : List Nat) : Upd 0x60280 s (State.selectW s cold w found) := by
  unfold State.selectW
  extract_lets +onlyGivenNames x1
  clear_value x1
  extract_lets +onlyGivenNames x2
  clear_value x2
  extract_lets +onlyGivenNames x3
  clear_value x3
  extract_lets +onlyGivenNames x4
  refine cut (P := Upd 0x60280 s x4) ?_ (fun h5 => ?_)
  · unfold x4
    refine Upd.ite ?_ ?_
    · refine Upd.step (State.recordO_upd ..) rfl ?_
      exact Upd.refl _ _
    · exact Upd.refl _ _
  clear_value x4
  extract_lets +onlyGivenNames x6
  refine cut (P := Upd 0x60280 s x6) ?_ (fun h7 => ?_)
  · unfold x6
    refine Upd.step (State.setGrp_upd ..) rfl ?_
    exact h5
  clear_value x6
  extract_lets +onlyGivenNames x8
  refine cut (P := Upd 0x60280 s x8) ?_ (fun h9 => ?_)
  · unfold x8
    refine Upd.step (State.wf_upd ..) rfl ?_
    refine Upd.step (State.wf_upd ..) rfl ?_
    exact h7
  clear_value x8
  refine Upd.ite ?_ ?_
  · refine Upd.step (State.reportO_upd ..) rfl ?_
    refine Upd.step (State.wf_upd ..) rfl ?_
    exact h9
  · refine Upd.step (State.wf_upd ..) rfl ?_
    exact h9

theorem State.selectCrossings_upd (s : State) : Upd 0x1a300 s (State.selectCrossings s) := by
  unfold State.selectCrossings
  refine Upd.foldl ?_ (fun y1 a2 h3 => ?_)
  · exact Upd.refl _ _
  · refine Upd.foldl ?_ (fun y4 a5 h6 => ?_)
    · exact h3
    · refine Upd.ite ?_ ?_
      · exact h6
      · refine Upd.step (State.setLost_upd ..) rfl ?_
        exact h6

theorem State.kelkSelect_upd (s : State) (cold : Bool) (foundS : List (Nat × List Nat)) (foundW : List (Nat × List Nat)) : Upd 0x7a380 s (State.kelkSelect s cold foundS foundW) := by
  unfold State.kelkSelect
  extract_lets +onlyGivenNames x1
  refine cut (P := Upd 0x7a380 s x1) ?_ (fun h2 => ?_)
  · unfold x1
    refine Upd.foldl ?_ (fun y3 a4 h5 => ?_)
    · exact Upd.refl _ _
    · refine Upd.step (State.selectS_upd ..) rfl ?_
      exact h5
  clear_value x1
  extract_lets +onlyGivenNames x6
  refine cut (P := Upd 0x7a380 s x6) ?_ (fun h7 => ?_)
  · unfold x6
    refine Upd.foldl ?_ (fun y8 a9 h10 => ?_)
    · exact h2
    · refine Upd.step (State.selectW_upd ..) rfl ?_
      exact h10
  clear_value x6
  refine Upd.step (State.selectCrossings_upd ..) rfl ?_
  refine Upd.step (Upd.set_kelk _ _) rfl ?_
  exact h7

theorem State.kelkVerify_upd (s : State) (foundS : List (Nat × List Nat)) (foundW : List (Nat × List Nat)) : Upd 0x60280 s (State.kelkVerify s foundS foundW) := by
  unfold State.kelkVerify
  extract_lets +onlyGivenNames x1
  refine cut (P := Upd 0x60280 s x1) ?_ (fun h2 => ?_)
  · unfold x1
    refine Upd.foldl ?_ (fun y3 a4 h5 => ?_)
    · exact Upd.refl _ _
    · refine Upd.ite ?_ ?_
      · exact h5
      · extract_lets +onlyGivenNames x6
        clear_value x6
        extract_lets +onlyGivenNames x7
        clear_value x7
        extract_lets +onlyGivenNames x8
        refine cut (P := Upd 0x60280 s x8) ?_ (fun h9 => ?_)
        · unfold x8
          refine Upd.step (State.wf_upd ..) rfl ?_
          refine Upd.step (State.setBnd_upd ..) rfl ?_
          exact h5
        clear_value x8
        refine Upd.ite ?_ ?_
        · refine Upd.step (State.setBndState_upd ..) rfl ?_
          exact h9
        · exact h9
  clear_value x1
  refine Upd.foldl ?_ (fun y10 a11 h12 => ?_)
  · exact h2
  · refine Upd.ite ?_ ?_
    · exact h12
    · extract_lets +onlyGivenNames x13
      clear_value x13
      extract_lets +onlyGivenNames x14
      clear_value x14
      extract_lets +onlyGivenNames x15
      refine cut (P := Upd 0x60280 s x15) ?_ (fun h16 => ?_)
      · unfold x15
        refine Upd.step (State.wf_upd ..) rfl ?_
        refine Upd.step (State.setGrp_upd ..) rfl ?_
        exact h12
      clear_value x15
      refine Upd.ite ?_ ?_
      · refine Upd.step (State.setGrpState_upd ..) rfl ?_
        exact h16
      · exact h16

end Sys2Proof.Machine
end

