-- ==== Sys2Proof/Laws/FrameXt.lean ====
section
/-! SUPPORT. What each operation of Sys2Proof/Machine/Xt.lean may change: the fields whose bits are set, in the order of State. -/
namespace Sys2Proof.Machine

theorem State.xtFire_upd (s : State) (c : Nat) : Upd 0x10000200 s (State.xtFire s c) := by
  unfold State.xtFire
  extract_lets +onlyGivenNames x1
  clear_value x1
  extract_lets +onlyGivenNames x2
  refine cut (P := Upd 0x10000200 s x2) ?_ (fun h3 => ?_)
  · unfold x2
    refine Upd.ite ?_ ?_
    · exact Upd.refl _ _
    · refine Upd.step (State.wr64_upd ..) rfl ?_
      refine Upd.step (State.wr_upd ..) rfl ?_
      exact Upd.refl _ _
  clear_value x2
  refine Upd.step (Upd.set_dbg _ _) rfl ?_
  exact h3

theorem State.xtFireBy_upd (s : State) (c : Nat) (owner : Nat) : Upd 0x10000200 s (State.xtFireBy s c owner) := by
  unfold State.xtFireBy
  refine Upd.ite ?_ ?_
  · refine Upd.step (State.xtFire_upd ..) rfl ?_
    exact Upd.refl _ _
  · exact Upd.refl _ _

theorem State.xtFireMgmt_upd (s : State) (on : Bool) (c : Nat) : Upd 0x10000200 s (State.xtFireMgmt s on c) := by
  unfold State.xtFireMgmt
  refine Upd.ite ?_ ?_
  · refine Upd.step (State.xtFireBy_upd ..) rfl ?_
    exact Upd.refl _ _
  · exact Upd.refl _ _

end Sys2Proof.Machine
end

