-- ==== Sys2Proof/Laws/FrameRingOps.lean ====
section
/-! SUPPORT. What each operation of Sys2Proof/Machine/RingOps.lean may change: the fields whose bits are set, in the order of State. -/
namespace Sys2Proof.Machine

theorem State.setStop_upd (s : State) (n : Nat) (x : StopSt) : Upd 0x80000 s (State.setStop s n x) := by
  unfold State.setStop
  refine Upd.step (Upd.set_ring _ _) rfl ?_
  exact Upd.refl _ _

theorem State.setGrSt_upd (s : State) (g : Nat) (x : GrSt) : Upd 0x4000 s (State.setGrSt s g x) := by
  unfold State.setGrSt
  refine Upd.step (Upd.set_mem _ _ ?_) rfl ?_
  · exact id
  · exact Upd.refl _ _

theorem State.useCredit_upd (s : State) (n : Nat) (receiver : Nat) (cls : Nat) : Upd 0x80000 s (State.useCredit s n receiver cls) := by
  unfold State.useCredit
  refine Upd.ite ?_ ?_
  · exact Upd.refl _ _
  · extract_lets +onlyGivenNames x1
    clear_value x1
    extract_lets +onlyGivenNames x2
    clear_value x2
    refine Upd.step (State.setStop_upd ..) rfl ?_
    exact Upd.refl _ _

theorem State.probeTrace_upd (s : State) (b : Nat) (p : Nat) (out : Bool) (crc : Bool) (f : Flit) : Upd 0x80200 s (State.probeTrace s b p out crc f) := by
  unfold State.probeTrace
  extract_lets +onlyGivenNames x1
  clear_value x1
  refine Upd.ite ?_ ?_
  · exact Upd.refl _ _
  · extract_lets +onlyGivenNames x2
    clear_value x2
    extract_lets +onlyGivenNames x3
    refine cut (P := Upd 0x80200 s x3) ?_ (fun h4 => ?_)
    · unfold x3
      refine Upd.step (Upd.set_ring _ _) rfl ?_
      exact Upd.refl _ _
    clear_value x3
    refine Upd.step (State.setIf_upd ..) rfl ?_
    refine Upd.step (State.wf_upd ..) rfl ?_
    exact h4

theorem State.probe_upd (s : State) (j : Nat) (port : Nat) (out : Bool) (crc : Bool) (f : Flit) : Upd 0x10080280 s (State.probe s j port out crc f) := by
  unfold State.probe
  split
  · exact Upd.refl _ _
  · refine Upd.foldl ?_ (fun y1 a2 h3 => ?_)
    · exact Upd.refl _ _
    · extract_lets +onlyGivenNames x4
      clear_value x4
      extract_lets +onlyGivenNames x5
      clear_value x5
      split
      · rename_i v6 v7 v8 v9
        refine cut (P := Upd 0x10080280 s v8) (UpdP.out ?_ v9) (fun h10 => ?_)
        · refine UpdP.ite ?_ ?_
          · refine UpdP.step (State.fresh_upd ..) rfl ?_
            exact h3
          · exact h3
        refine Upd.ite ?_ ?_
        · extract_lets +onlyGivenNames x11
          refine cut (P := Upd 0x10080280 s x11) ?_ (fun h12 => ?_)
          · unfold x11
            refine Upd.step (State.probeTrace_upd ..) rfl ?_
            refine Upd.step (State.cnt64_upd ..) rfl ?_
            exact h10
          clear_value x11
          refine Upd.step (State.xtFireMgmt_upd ..) rfl ?_
          exact h12
        · exact h10

theorem State.takeSlot_upd (s : State) (x : Flight) (resv : Bool) (o : RingOut) : Upd 0x10080280 s (State.takeSlot s x resv o) := by
  unfold State.takeSlot
  extract_lets +onlyGivenNames x1
  clear_value x1
  extract_lets +onlyGivenNames x2
  clear_value x2
  extract_lets +onlyGivenNames x3
  refine cut (P := Upd 0x10080280 s x3) ?_ (fun h4 => ?_)
  · unfold x3
    refine Upd.ite ?_ ?_
    · exact Upd.refl _ _
    · refine Upd.step (State.useCredit_upd ..) rfl ?_
      exact Upd.refl _ _
  clear_value x3
  extract_lets +onlyGivenNames x5
  clear_value x5
  extract_lets +onlyGivenNames x6
  refine cut (P := Upd 0x10080280 s x6) ?_ (fun h7 => ?_)
  · unfold x6
    refine Upd.ite ?_ ?_
    · refine Upd.step (State.setStop_upd ..) rfl ?_
      exact h4
    · exact h4
  clear_value x6
  extract_lets +onlyGivenNames x8
  refine cut (P := Upd 0x10080280 s x8) ?_ (fun h9 => ?_)
  · unfold x8
    refine Upd.ite ?_ ?_
    · refine Upd.step (State.probe_upd ..) rfl ?_
      exact h7
    · exact h7
  clear_value x8
  refine Upd.step (Upd.set_ring _ _) rfl ?_
  exact h9

theorem State.fillAt_upd {s t : State} {k cur : Nat} {b : Bool} (e : s.fillAt k cur = some (b, t)) : Upd 0x10080280 s t := by
  unfold State.fillAt at e
  dsimp only at e
  split at e
  · split at e
    · cases e; exact Upd.mono (State.takeSlot_upd ..) rfl
    · split at e
      · cases e; exact Upd.mono (State.takeSlot_upd ..) rfl
      · cases e
  · split at e
    · obtain ⟨x, _, hx⟩ := Option.map_eq_some_iff.mp e
      cases hx; exact Upd.mono (State.takeSlot_upd ..) rfl
    · cases e

theorem State.offerSlot_upd {s t : State} {k : Nat} {l : List Nat} (e : s.offerSlot k l = some t) : Upd 0x10080280 s t := by
  induction l generalizing s t with
  | nil => cases e
  | cons c l ih =>
    unfold State.offerSlot at e
    split at e
    · exact ih e
    · rename_i h
      dsimp only at e
      split at e
      · have g : ∀ d v, Upd 0x10080280 s (s.setStop d v) := fun d v => Upd.mono (State.setStop_upd ..) rfl
        split at e
        · rename_i hy
          cases e
          exact Upd.step (ih hy) (by rfl) (g ..)
        · obtain ⟨p, hp, hx⟩ := Option.map_eq_some_iff.mp e
          cases hx
          exact Upd.step (State.fillAt_upd (b := p.1) hp) (by rfl) (g ..)
      · cases e
        exact Upd.mono (State.fillAt_upd h) (by rfl)

theorem State.fillSlots_upd (s : State) (k pos n : Nat) : Upd 0x10080280 s (s.fillSlots k pos n) := by
  induction n generalizing s with
  | zero => exact Upd.refl _ _
  | succ n ih =>
    unfold State.fillSlots
    split
    · rename_i h
      exact Upd.step (ih ..) (by rfl) (Upd.mono (State.offerSlot_upd h) (by rfl))
    · exact Upd.refl _ _

theorem State.ringPump_upd (s : State) (k : Nat) (pos : Nat) : Upd 0x10080280 s (State.ringPump s k pos) := by
  unfold State.ringPump
  refine Upd.step (State.fillSlots_upd ..) rfl ?_
  exact Upd.refl _ _

theorem State.placeLane_upd (s : State) (cur : Nat) (lane : Nat) (port : Nat) (f : Flit) : Upd 0x10080280 s (State.placeLane s cur lane port f) := by
  unfold State.placeLane
  extract_lets +onlyGivenNames x1
  clear_value x1
  refine Upd.step (State.ringPump_upd ..) rfl ?_
  refine Upd.step (Upd.set_ring _ _) rfl ?_
  exact Upd.refl _ _

theorem State.place_upd (s : State) (cur : Nat) (f : Flit) : Upd 0x10080280 s (State.place s cur f) := by
  unfold State.place
  refine Upd.step (State.placeLane_upd ..) rfl ?_
  exact Upd.refl _ _

theorem State.respond_upd (s : State) (stop : Nat) (q : Flit) (code : Nat) (data : List Nat) : Upd 0x10080280 s (State.respond s stop q code data) := by
  unfold State.respond
  refine Upd.foldl ?_ (fun y1 a2 h3 => ?_)
  · exact Upd.refl _ _
  · refine Upd.step (State.place_upd ..) rfl ?_
    exact h3

theorem State.answerBy_upd (s : State) (stop : Nat) (p : Flit → Bool) (code : Nat) (data : List Nat) : Upd 0x10080280 s (State.answerBy s stop p code data) := by
  unfold State.answerBy
  extract_lets +onlyGivenNames x1
  clear_value x1
  split
  · exact Upd.refl _ _
  · refine Upd.step (State.respond_upd ..) rfl ?_
    refine Upd.step (State.setStop_upd ..) rfl ?_
    exact Upd.refl _ _

theorem State.agentAnswer_upd (s : State) (stop : Nat) (mid : Nat) (op : Nat) (addr : Nat) (code : Nat) (data : List Nat) : Upd 0x10080280 s (State.agentAnswer s stop mid op addr code data) := by
  unfold State.agentAnswer
  refine Upd.step (State.answerBy_upd ..) rfl ?_
  exact Upd.refl _ _

theorem State.complete_upd (s : State) (stop : Nat) (p : Pend) (code : Nat) (data : List Nat) : Upd 0x80100 s (State.complete s stop p code data) := by
  unfold State.complete
  extract_lets +onlyGivenNames x1
  clear_value x1
  refine Upd.step (State.emit_upd ..) rfl ?_
  refine Upd.step (State.setStop_upd ..) rfl ?_
  exact Upd.refl _ _

theorem State.refuse_upd (s : State) (q : RingReq) (code : Rsp) : Upd 0x300 s (State.refuse s q code) := by
  unfold State.refuse
  refine Upd.step (State.answer_upd ..) rfl ?_
  exact Upd.refl _ _

theorem State.rstDrop_upd (s : State) (n : Nat) (k : Nat) : Upd 0x18300 s (State.rstDrop s n k) := by
  unfold State.rstDrop
  refine Upd.ite ?_ ?_
  · exact Upd.refl _ _
  · split
    · refine Upd.step (State.stopEvt_upd ..) rfl ?_
      refine Upd.step (State.cnt_upd ..) rfl ?_
      exact Upd.refl _ _
    · exact Upd.refl _ _

theorem State.granQueued_upd (s : State) (n : Nat) : UpdP 0x4000 s (State.granQueued s n) := by
  unfold State.granQueued
  split
  · refine UpdP.mk ?_
    exact Upd.refl _ _
  · extract_lets +onlyGivenNames x1
    clear_value x1
    refine UpdP.mk ?_
    refine Upd.step (State.setGrSt_upd ..) rfl ?_
    exact Upd.refl _ _

theorem State.stopReset_upd (s : State) (n : Nat) : Upd 0x1009c380 s (State.stopReset s n) := by
  unfold State.stopReset
  split
  · rename_i v1 v2 v3 v4
    refine cut (P := Upd 0x1009c380 s v3) (UpdP.out ?_ v4) (fun h5 => ?_)
    · refine UpdP.step (State.granQueued_upd ..) rfl ?_
      exact Upd.refl _ _
    extract_lets +onlyGivenNames x6
    clear_value x6
    extract_lets +onlyGivenNames x7
    clear_value x7
    extract_lets +onlyGivenNames x8
    clear_value x8
    extract_lets +onlyGivenNames x9
    clear_value x9
    extract_lets +onlyGivenNames x10
    refine cut (P := Upd 0x1009c380 s x10) ?_ (fun h11 => ?_)
    · unfold x10
      refine Upd.step (State.setStop_upd ..) rfl ?_
      exact h5
    clear_value x10
    extract_lets +onlyGivenNames x12
    clear_value x12
    extract_lets +onlyGivenNames x13
    refine cut (P := Upd 0x1009c380 s x13) ?_ (fun h14 => ?_)
    · unfold x13
      refine Upd.step (Upd.set_ring _ _) rfl ?_
      exact h11
    clear_value x13
    extract_lets +onlyGivenNames x15
    refine cut (P := Upd 0x1009c380 s x15) ?_ (fun h16 => ?_)
    · unfold x15
      refine Upd.foldl ?_ (fun y17 a18 h19 => ?_)
      · exact h14
      · refine Upd.step (State.respond_upd ..) rfl ?_
        exact h19
    clear_value x15
    refine Upd.step (State.rstDrop_upd ..) rfl ?_
    exact h16

theorem guestPump_upd (s : State) : Upd 0x200000100 s (guestPump s) := by
  unfold guestPump
  split
  · rename_i v1 v2 v3 v4
    refine cut (P := Upd 0x200000100 s v3) (UpdP.out ?_ v4) (fun h5 => ?_)
    · refine UpdP.foldl ?_ (fun y6 a7 h8 => ?_)
      · refine UpdP.mk ?_
        exact Upd.refl _ _
      · split
        · extract_lets +onlyGivenNames x9
          clear_value x9
          refine UpdP.ite ?_ ?_
          · extract_lets +onlyGivenNames x10
            clear_value x10
            refine UpdP.mk ?_
            refine Upd.step (State.emit_upd ..) rfl ?_
            refine Upd.step (Upd.set_guest _ _) rfl ?_
            exact h8
          · exact h8
    refine Upd.step (Upd.set_guest _ _) rfl ?_
    exact h5

theorem State.toGuest_upd (s : State) (f : Flit) : Upd 0x200000100 s (State.toGuest s f) := by
  unfold State.toGuest
  refine Upd.step (guestPump_upd ..) rfl ?_
  refine Upd.step (Upd.set_guest _ _) rfl ?_
  exact Upd.refl _ _

theorem State.guestResponse_upd (s : State) (f : Flit) : Upd 0x200000300 s (State.guestResponse s f) := by
  unfold State.guestResponse
  refine Upd.ite ?_ ?_
  · refine Upd.step (State.toGuest_upd ..) rfl ?_
    exact Upd.refl _ _
  · refine Upd.step (State.cnt_upd ..) rfl ?_
    exact Upd.refl _ _

end Sys2Proof.Machine
end

