-- ==== Sys2Proof/Laws/FrameGranary.lean ====
section
/-! SUPPORT. What each operation of Sys2Proof/Machine/Granary.lean may change: the fields whose bits are set, in the order of State. -/
namespace Sys2Proof.Machine

theorem State.grPut_upd (s : State) (g : Nat) (q : Nat) (x : BitVec 137) : Upd 0x4000 s (State.grPut s g q x) := by
  unfold State.grPut
  split
  · refine Upd.step (Upd.set_mem _ _ ?_) rfl ?_
    · (intro h; simp_all +zetaDelta [MemSt.wf, tabWf_tabPut, tabWf_tabKeep])
    · exact Upd.refl _ _
  · refine Upd.step (Upd.set_mem _ _ ?_) rfl ?_
    · (intro h; simp_all +zetaDelta [MemSt.wf, tabWf_tabPut, tabWf_tabKeep])
    · exact Upd.refl _ _

theorem State.grStore_upd (s : State) (g : Nat) (q : Nat) (d : Nat) (k : Nat) (first : Bool) : Upd 0x4200 s (State.grStore s g q d k first) := by
  unfold State.grStore
  refine Upd.ite ?_ ?_
  · refine Upd.step (State.grPut_upd ..) rfl ?_
    refine Upd.step (State.clrF_upd ..) rfl ?_
    exact Upd.refl _ _
  · refine Upd.step (State.grPut_upd ..) rfl ?_
    exact Upd.refl _ _

theorem State.grEvt_upd (s : State) (g : Nat) (fld : Fld) : Upd 0x18300 s (State.grEvt s g fld) := by
  unfold State.grEvt
  refine Upd.step (State.evt_upd ..) rfl ?_
  exact Upd.refl _ _

theorem State.grErr_upd (s : State) (g : Nat) (q : Nat) (src : Nat) (x : EccRes) : Upd 0x18300 s (State.grErr s g q src x) := by
  unfold State.grErr
  extract_lets +onlyGivenNames x1
  clear_value x1
  extract_lets +onlyGivenNames x2
  clear_value x2
  refine Upd.ite ?_ ?_
  · extract_lets +onlyGivenNames x3
    refine cut (P := Upd 0x18300 s x3) ?_ (fun h4 => ?_)
    · unfold x3
      refine Upd.ite ?_ ?_
      · exact Upd.refl _ _
      · refine Upd.step (State.wr_upd ..) rfl ?_
        exact Upd.refl _ _
    clear_value x3
    refine Upd.step (State.grEvt_upd ..) rfl ?_
    refine Upd.step (State.cnt_upd ..) rfl ?_
    exact h4
  · refine Upd.ite ?_ ?_
    · extract_lets +onlyGivenNames x5
      refine cut (P := Upd 0x18300 s x5) ?_ (fun h6 => ?_)
      · unfold x5
        refine Upd.ite ?_ ?_
        · exact Upd.refl _ _
        · refine Upd.step (State.wr_upd ..) rfl ?_
          exact Upd.refl _ _
      clear_value x5
      refine Upd.step (State.grEvt_upd ..) rfl ?_
      refine Upd.step (State.cnt_upd ..) rfl ?_
      exact h6
    · exact Upd.refl _ _

theorem State.grRead_upd (s : State) (g : Nat) (q : Nat) (src : Nat) : UpdP 0x18300 s (State.grRead s g q src) := by
  unfold State.grRead
  extract_lets +onlyGivenNames x1
  clear_value x1
  extract_lets +onlyGivenNames x2
  clear_value x2
  refine UpdP.mk ?_
  refine Upd.step (State.grErr_upd ..) rfl ?_
  exact Upd.refl _ _

theorem State.grWrite_upd (s : State) (g : Nat) (q : Nat) (d : Nat) (be : Nat) (src : Nat) (first : Bool) : Upd 0x1c300 s (State.grWrite s g q d be src first) := by
  unfold State.grWrite
  refine Upd.ite ?_ ?_
  · exact Upd.refl _ _
  · refine Upd.ite ?_ ?_
    · refine Upd.step (State.grStore_upd ..) rfl ?_
      exact Upd.refl _ _
    · split
      · rename_i v1 v2 v3 v4
        refine cut (P := Upd 0x1c300 s v3) (UpdP.out ?_ v4) (fun h5 => ?_)
        · refine UpdP.step (State.grRead_upd ..) rfl ?_
          exact Upd.refl _ _
        extract_lets +onlyGivenNames x6
        clear_value x6
        extract_lets +onlyGivenNames x7
        clear_value x7
        refine Upd.step (State.grStore_upd ..) rfl ?_
        exact h5

theorem granRequest_upd (f : Nat) (gq : Word) (beats : List (BitVec 128 × BitVec 16)) (s : State) : Upd 0x1c300 s (granRequest f gq beats s) := by
  unfold granRequest
  extract_lets +onlyGivenNames x1
  clear_value x1
  extract_lets +onlyGivenNames x2
  clear_value x2
  extract_lets +onlyGivenNames x3
  clear_value x3
  extract_lets +onlyGivenNames x4
  clear_value x4
  extract_lets +onlyGivenNames x5
  clear_value x5
  extract_lets +onlyGivenNames x6
  clear_value x6
  extract_lets +onlyGivenNames x7
  clear_value x7
  refine Upd.ite ?_ ?_
  · exact Upd.refl _ _
  · refine Upd.ite ?_ ?_
    · refine Upd.step (State.grEvt_upd ..) rfl ?_
      exact Upd.refl _ _
    · extract_lets +onlyGivenNames x8
      clear_value x8
      refine Upd.step (State.setGrSt_upd ..) rfl ?_
      exact Upd.refl _ _

theorem execGranaryRequest_upd (f : Fin 128) (gq : Word) (beats : List (BitVec 128 × BitVec 16)) (s : State) : UpdO 0x1c300 s (execGranaryRequest f gq beats s) := by
  unfold execGranaryRequest
  refine UpdO.next ?_
  refine Upd.step (granRequest_upd ..) rfl ?_
  exact Upd.refl _ _

theorem State.grWriteReq_upd (s : State) (g : Nat) (src : Nat) (q : GrReq) : Upd 0x1c300 s (State.grWriteReq s g src q) := by
  unfold State.grWriteReq
  refine UpdL.fst ?_
  refine UpdL.foldl ?_ (fun y1 a2 h3 => ?_)
  · refine UpdL.mk ?_
    exact Upd.refl _ _
  · split
    · refine UpdL.mk ?_
      refine Upd.step (State.grWrite_upd ..) rfl ?_
      exact h3

theorem State.grReadReq_upd (s : State) (g : Nat) (src : Nat) (q : GrReq) : UpdP 0x18300 s (State.grReadReq s g src q) := by
  unfold State.grReadReq
  refine UpdP.foldl ?_ (fun y1 a2 h3 => ?_)
  · refine UpdP.mk ?_
    exact Upd.refl _ _
  · split
    · rename_i v4 v5 v6 v7
      refine cut (P := Upd 0x18300 s v6) (UpdP.out ?_ v7) (fun h8 => ?_)
      · refine UpdP.step (State.grRead_upd ..) rfl ?_
        exact h3
      exact h8

theorem State.grAccess_upd (s : State) (g : Nat) (p : Nat) (q : GrReq) : Upd 0x1009c380 s (State.grAccess s g p q) := by
  unfold State.grAccess
  refine Upd.ite ?_ ?_
  · extract_lets +onlyGivenNames x1
    refine cut (P := Upd 0x1009c380 s x1) ?_ (fun h2 => ?_)
    · unfold x1
      refine Upd.step (State.grWriteReq_upd ..) rfl ?_
      exact Upd.refl _ _
    clear_value x1
    refine Upd.ite ?_ ?_
    · refine Upd.step (State.respond_upd ..) rfl ?_
      exact h2
    · exact h2
  · split
    · rename_i v3 v4 v5 v6
      refine cut (P := Upd 0x1009c380 s v5) (UpdP.out ?_ v6) (fun h7 => ?_)
      · refine UpdP.step (State.grReadReq_upd ..) rfl ?_
        exact Upd.refl _ _
      refine Upd.ite ?_ ?_
      · extract_lets +onlyGivenNames x8
        clear_value x8
        extract_lets +onlyGivenNames x9
        clear_value x9
        refine Upd.ite ?_ ?_
        · refine Upd.step (State.respond_upd ..) rfl ?_
          exact h7
        · refine Upd.step (State.respond_upd ..) rfl ?_
          exact h7
      · refine Upd.ite ?_ ?_
        · exact h7
        · extract_lets +onlyGivenNames x10
          clear_value x10
          extract_lets +onlyGivenNames x11
          clear_value x11
          refine Upd.step (State.setGrSt_upd ..) rfl ?_
          exact h7

theorem granBank_upd (g : Nat) (bank : Nat) (s : State) : Upd 0x1009c380 s (granBank g bank s) := by
  unfold granBank
  extract_lets +onlyGivenNames x1
  clear_value x1
  split
  · exact Upd.refl _ _
  · split
    · exact Upd.refl _ _
    · extract_lets +onlyGivenNames x2
      refine cut (P := Upd 0x1009c380 s x2) ?_ (fun h3 => ?_)
      · unfold x2
        refine Upd.ite ?_ ?_
        · refine Upd.step (State.cnt_upd ..) rfl ?_
          exact Upd.refl _ _
        · exact Upd.refl _ _
      clear_value x2
      refine Upd.step (State.grAccess_upd ..) rfl ?_
      refine Upd.step (State.setGrSt_upd ..) rfl ?_
      exact h3

theorem execGranaryBankAccess_upd (g : Fin 32) (bank : Fin 4) (s : State) : UpdO 0x1009c380 s (execGranaryBankAccess g bank s) := by
  unfold execGranaryBankAccess
  refine UpdO.next ?_
  refine Upd.step (granBank_upd ..) rfl ?_
  exact Upd.refl _ _

theorem granBeat_upd (f : Nat) (s : State) : Upd 0x4100 s (granBeat f s) := by
  unfold granBeat
  extract_lets +onlyGivenNames x1
  clear_value x1
  extract_lets +onlyGivenNames x2
  clear_value x2
  extract_lets +onlyGivenNames x3
  clear_value x3
  split
  · exact Upd.refl _ _
  · extract_lets +onlyGivenNames x4
    clear_value x4
    refine Upd.step (State.emit_upd ..) rfl ?_
    refine Upd.step (State.setGrSt_upd ..) rfl ?_
    exact Upd.refl _ _

theorem execGranaryReadBeat_upd (f : Fin 128) (s : State) : UpdO 0x4100 s (execGranaryReadBeat f s) := by
  unfold execGranaryReadBeat
  refine UpdO.next ?_
  refine Upd.step (granBeat_upd ..) rfl ?_
  exact Upd.refl _ _

theorem State.granFieldReset_upd (s : State) (f : Nat) : Upd 0x1c300 s (State.granFieldReset s f) := by
  unfold State.granFieldReset
  extract_lets +onlyGivenNames x1
  clear_value x1
  extract_lets +onlyGivenNames x2
  clear_value x2
  extract_lets +onlyGivenNames x3
  clear_value x3
  extract_lets +onlyGivenNames x4
  clear_value x4
  extract_lets +onlyGivenNames x5
  clear_value x5
  extract_lets +onlyGivenNames x6
  clear_value x6
  extract_lets +onlyGivenNames x7
  clear_value x7
  extract_lets +onlyGivenNames x8
  refine cut (P := Upd 0x1c300 s x8) ?_ (fun h9 => ?_)
  · unfold x8
    refine Upd.step (State.setGrSt_upd ..) rfl ?_
    exact Upd.refl _ _
  clear_value x8
  refine Upd.ite ?_ ?_
  · exact h9
  · refine Upd.step (State.grEvt_upd ..) rfl ?_
    refine Upd.step (State.cnt_upd ..) rfl ?_
    exact h9

theorem grPatrol_upd (g : Nat) (s : State) : Upd 0x1c300 s (grPatrol g s) := by
  unfold grPatrol
  extract_lets +onlyGivenNames x1
  clear_value x1
  refine Upd.ite ?_ ?_
  · exact Upd.refl _ _
  · extract_lets +onlyGivenNames x2
    refine cut (P := Upd 0x1c300 s x2) ?_ (fun h3 => ?_)
    · unfold x2
      refine UpdP.snd ?_
      refine UpdP.step (State.grRead_upd ..) rfl ?_
      exact Upd.refl _ _
    clear_value x2
    extract_lets +onlyGivenNames x4
    clear_value x4
    extract_lets +onlyGivenNames x5
    clear_value x5
    extract_lets +onlyGivenNames x6
    refine cut (P := Upd 0x1c300 s x6) ?_ (fun h7 => ?_)
    · unfold x6
      refine Upd.step (State.setGrSt_upd ..) rfl ?_
      exact h3
    clear_value x6
    refine Upd.ite ?_ ?_
    · refine Upd.step (State.grEvt_upd ..) rfl ?_
      exact h7
    · exact h7

theorem execGrPatrolRead_upd (g : Fin 32) (s : State) : UpdO 0x1c300 s (execGrPatrolRead g s) := by
  unfold execGrPatrolRead
  refine UpdO.next ?_
  refine Upd.step (grPatrol_upd ..) rfl ?_
  exact Upd.refl _ _

theorem execPatrolLate_upd (e : PatrolEng) (s : State) : UpdO 0x18300 s (execPatrolLate e s) := by
  unfold execPatrolLate
  split
  · refine UpdO.next ?_
    refine Upd.step (State.bmEvt_upd ..) rfl ?_
    exact Upd.refl _ _
  · refine UpdO.next ?_
    refine Upd.step (State.grEvt_upd ..) rfl ?_
    exact Upd.refl _ _

theorem State.grRefresh_upd (s : State) (g : Nat) (q : Nat) : Upd 0x1c300 s (State.grRefresh s g q) := by
  unfold State.grRefresh
  split
  · rename_i v1 v2 v3 v4
    refine cut (P := Upd 0x1c300 s v3) (UpdP.out ?_ v4) (fun h5 => ?_)
    · refine UpdP.step (State.grRead_upd ..) rfl ?_
      exact Upd.refl _ _
    refine Upd.step (State.grStore_upd ..) rfl ?_
    exact h5

theorem grRewrite_upd (g : Nat) (v : Word) (s : State) : Upd 0x1c300 s (grRewrite g v s) := by
  unfold grRewrite
  refine Upd.ite ?_ ?_
  · refine Upd.step (State.grRefresh_upd ..) rfl ?_
    exact Upd.refl _ _
  · exact Upd.refl _ _

theorem execGrRewrite_upd (r : Req) (g : Fin 32) (v : Word) (s : State) : UpdO 0x1c300 s (execGrRewrite r g v s) := by
  unfold execGrRewrite
  refine UpdO.next ?_
  refine Upd.gated _ _ _ rfl ?_ (fun y1 h2 => ?_)
  · exact Upd.refl _ _
  · refine Upd.step (grRewrite_upd ..) rfl ?_
    exact h2

theorem grFlipArm_upd (g : Nat) (v : Word) (s : State) : Upd 0x200 s (grFlipArm g v s) := by
  unfold grFlipArm
  refine Upd.step (State.wr_upd ..) rfl ?_
  exact Upd.refl _ _

theorem execGrFlipArm_upd (r : Req) (g : Fin 32) (v : Word) (s : State) : UpdO 0x18300 s (execGrFlipArm r g v s) := by
  unfold execGrFlipArm
  refine UpdO.next ?_
  refine Upd.gated _ _ _ rfl ?_ (fun y1 h2 => ?_)
  · exact Upd.refl _ _
  · refine Upd.step (grFlipArm_upd ..) rfl ?_
    exact h2

theorem grRemapWrite_upd (g : Nat) (i : Nat) (v : Word) (s : State) : Upd 0x18300 s (grRemapWrite g i v s) := by
  unfold grRemapWrite
  extract_lets +onlyGivenNames x1
  clear_value x1
  extract_lets +onlyGivenNames x2
  clear_value x2
  extract_lets +onlyGivenNames x3
  clear_value x3
  refine Upd.ite ?_ ?_
  · refine Upd.step (State.grEvt_upd ..) rfl ?_
    exact Upd.refl _ _
  · refine Upd.step (State.wr_upd ..) rfl ?_
    exact Upd.refl _ _

theorem execGrRemapWrite_upd (r : Req) (g : Fin 32) (i : Fin 16) (v : Word) (s : State) : UpdO 0x18300 s (execGrRemapWrite r g i v s) := by
  unfold execGrRemapWrite
  refine UpdO.next ?_
  refine Upd.gated _ _ _ rfl ?_ (fun y1 h2 => ?_)
  · exact Upd.refl _ _
  · refine Upd.step (grRemapWrite_upd ..) rfl ?_
    exact h2

theorem grRemapDone_upd (g : Nat) (i : Nat) (s : State) : Upd 0x1c300 s (grRemapDone g i s) := by
  unfold grRemapDone
  extract_lets +onlyGivenNames x1
  clear_value x1
  refine Upd.ite ?_ ?_
  · exact Upd.refl _ _
  · extract_lets +onlyGivenNames x2
    clear_value x2
    extract_lets +onlyGivenNames x3
    refine cut (P := Upd 0x1c300 s x3) ?_ (fun h4 => ?_)
    · unfold x3
      refine Upd.foldl ?_ (fun y5 a6 h7 => ?_)
      · exact Upd.refl _ _
      · split
        · rename_i v8 v9 v10 v11
          refine cut (P := Upd 0x1c300 s v10) (UpdP.out ?_ v11) (fun h12 => ?_)
          · refine UpdP.step (State.grRead_upd ..) rfl ?_
            exact h7
          refine Upd.step (Upd.set_mem _ _ ?_) rfl ?_
          · (intro h; simp_all +zetaDelta [MemSt.wf, tabWf_tabPut, tabWf_tabKeep])
          · exact h12
    clear_value x3
    refine Upd.step (State.wr_upd ..) rfl ?_
    exact h4

theorem execGrRemapCopyDone_upd (g : Fin 32) (i : Fin 16) (s : State) : UpdO 0x1c300 s (execGrRemapCopyDone g i s) := by
  unfold execGrRemapCopyDone
  refine UpdO.next ?_
  refine Upd.step (grRemapDone_upd ..) rfl ?_
  exact Upd.refl _ _

theorem grDebugSteal_upd (g : Nat) (bank : Nat) (s : State) : Upd 0x1009c380 s (grDebugSteal g bank s) := by
  unfold grDebugSteal
  refine Upd.ite ?_ ?_
  · refine Upd.step (granBank_upd ..) rfl ?_
    exact Upd.refl _ _
  · exact Upd.refl _ _

theorem execGrDebugSteal_upd (g : Fin 32) (bank : Fin 4) (s : State) : UpdO 0x1009c380 s (execGrDebugSteal g bank s) := by
  unfold execGrDebugSteal
  refine UpdO.next ?_
  refine Upd.step (grDebugSteal_upd ..) rfl ?_
  exact Upd.refl _ _

theorem State.grFill_upd (s : State) (g : Nat) : Upd 0x4000 s (State.grFill s g) := by
  unfold State.grFill
  refine Upd.step (Upd.set_mem _ _ ?_) rfl ?_
  · (intro h; simp_all +zetaDelta [MemSt.wf, tabWf_tabPut, tabWf_tabKeep])
  · exact Upd.refl _ _

end Sys2Proof.Machine
end

