-- ==== Sys2Proof/Laws/FrameFields.lean ====
section
/-! SUPPORT. What each operation of Sys2Proof/Machine/Fields.lean may change: the fields whose bits are set, in the order of State. -/
namespace Sys2Proof.Machine

theorem State.fieldChange_upd (s : State) (f : Nat) (g : FieldRt → FieldRt) : Upd 0x1a300 s (State.fieldChange s f g) := by
  unfold State.fieldChange
  refine Upd.step (State.stileUpdateField_upd ..) rfl ?_
  refine Upd.step (State.setFrt_upd ..) rfl ?_
  exact Upd.refl _ _

theorem State.fieldEnterReset_upd (s : State) (f : Nat) : Upd 0x1019c380 s (State.fieldEnterReset s f) := by
  unfold State.fieldEnterReset
  refine Upd.ite ?_ ?_
  · exact Upd.refl _ _
  · refine Upd.step (State.portsCut_upd ..) rfl ?_
    refine Upd.step (State.stopReset_upd ..) rfl ?_
    refine Upd.step (State.granFieldReset_upd ..) rfl ?_
    exact Upd.refl _ _

theorem State.stretchField_upd (s : State) (f : Nat) : Upd 0x18300 s (State.stretchField s f) := by
  unfold State.stretchField
  extract_lets +onlyGivenNames x1
  clear_value x1
  extract_lets +onlyGivenNames x2
  clear_value x2
  refine Upd.ite ?_ ?_
  · exact Upd.refl _ _
  · refine Upd.step (State.siteStat_upd ..) rfl ?_
    refine Upd.step (State.setF_upd ..) rfl ?_
    refine Upd.step (State.wf_upd ..) rfl ?_
    exact Upd.refl _ _

theorem State.stretchAll_upd (s : State) : Upd 0x18300 s (State.stretchAll s) := by
  unfold State.stretchAll
  refine Upd.foldl ?_ (fun y1 a2 h3 => ?_)
  · exact Upd.refl _ _
  · refine Upd.step (State.stretchField_upd ..) rfl ?_
    exact h3

theorem State.ckUpdate_upd (s : State) (f : Nat) : Upd 0x18300 s (State.ckUpdate s f) := by
  unfold State.ckUpdate
  extract_lets +onlyGivenNames x1
  clear_value x1
  refine Upd.step (State.stretchField_upd ..) rfl ?_
  refine Upd.step (State.wf_upd ..) rfl ?_
  exact Upd.refl _ _

theorem State.haltClear_upd (s : State) (f : Nat) : Upd 0x10018300 s (State.haltClear s f) := by
  unfold State.haltClear
  extract_lets +onlyGivenNames x1
  clear_value x1
  extract_lets +onlyGivenNames x2
  refine cut (P := Upd 0x10018300 s x2) ?_ (fun h3 => ?_)
  · unfold x2
    refine Upd.step (State.clrF_upd ..) rfl ?_
    refine Upd.step (State.wf_upd ..) rfl ?_
    refine Upd.step (State.clrF_upd ..) rfl ?_
    exact Upd.refl _ _
  clear_value x2
  extract_lets +onlyGivenNames x4
  clear_value x4
  extract_lets +onlyGivenNames x5
  refine cut (P := Upd 0x10018300 s x5) ?_ (fun h6 => ?_)
  · unfold x5
    refine Upd.step (Upd.set_dbg _ _) rfl ?_
    exact h3
  clear_value x5
  refine Upd.ite ?_ ?_
  · refine Upd.step (State.ckUpdate_upd ..) rfl ?_
    exact h6
  · exact h6

theorem State.gsrAssert_upd (s : State) (f : Nat) : Upd 0x1019e380 s (State.gsrAssert s f) := by
  unfold State.gsrAssert
  refine Upd.step (State.fieldChange_upd ..) rfl ?_
  refine Upd.step (State.initCells_upd ..) rfl ?_
  refine Upd.step (State.fieldEnterReset_upd ..) rfl ?_
  refine Upd.step (State.haltClear_upd ..) rfl ?_
  exact Upd.refl _ _

theorem State.gsrRelease_upd (s : State) (f : Nat) : Upd 0x1e380 s (State.gsrRelease s f) := by
  unfold State.gsrRelease
  split
  · rename_i v1 v2 v3 v4
    refine cut (P := Upd 0x1e380 s v3) (UpdP.out ?_ v4) (fun h5 => ?_)
    · refine UpdP.step (State.fresh_upd ..) rfl ?_
      exact Upd.refl _ _
    extract_lets +onlyGivenNames x6
    refine cut (P := Upd 0x1e380 s x6) ?_ (fun h7 => ?_)
    · unfold x6
      refine Upd.step (State.fieldChange_upd ..) rfl ?_
      refine Upd.step (State.queuesReset_upd ..) rfl ?_
      exact h5
    clear_value x6
    refine Upd.step (State.settle_upd ..) rfl ?_
    exact h7

theorem State.setSiteHold_upd (s : State) (f : Nat) (v : Bool) : Upd 0x1019e380 s (State.setSiteHold s f v) := by
  unfold State.setSiteHold
  refine Upd.step (State.fieldChange_upd ..) rfl ?_
  refine Upd.ite ?_ ?_
  · refine Upd.step (State.fieldEnterReset_upd ..) rfl ?_
    exact Upd.refl _ _
  · exact Upd.refl _ _

theorem State.loadClk_upd (s : State) (f : Nat) (x : ClkSet) : Upd 0x200 s (State.loadClk s f x) := by
  unfold State.loadClk
  extract_lets +onlyGivenNames x1
  clear_value x1
  extract_lets +onlyGivenNames x2
  refine cut (P := Upd 0x200 s x2) ?_ (fun h3 => ?_)
  · unfold x2
    refine Upd.step (State.wf_upd ..) rfl ?_
    exact Upd.refl _ _
  clear_value x2
  refine Upd.foldl ?_ (fun y4 a5 h6 => ?_)
  · exact h3
  · refine Upd.step (State.wf_upd ..) rfl ?_
    exact h6

theorem State.loadImgClk_upd (s : State) (f : Nat) (x : ClkSet) : Upd 0x200 s (State.loadImgClk s f x) := by
  unfold State.loadImgClk
  extract_lets +onlyGivenNames x1
  clear_value x1
  extract_lets +onlyGivenNames x2
  refine cut (P := Upd 0x200 s x2) ?_ (fun h3 => ?_)
  · unfold x2
    refine Upd.step (State.wf_upd ..) rfl ?_
    refine Upd.step (State.wf_upd ..) rfl ?_
    refine Upd.step (State.loadClk_upd ..) rfl ?_
    exact Upd.refl _ _
  clear_value x2
  refine Upd.foldl ?_ (fun y4 a5 h6 => ?_)
  · exact h3
  · refine Upd.step (State.wf_upd ..) rfl ?_
    exact h6

theorem fckApply_upd (f : Nat) (v : Word) (s : State) : Upd 0x1a300 s (fckApply f v s) := by
  unfold fckApply
  extract_lets +onlyGivenNames x1
  clear_value x1
  refine Upd.ite ?_ ?_
  · exact Upd.refl _ _
  · extract_lets +onlyGivenNames x2
    clear_value x2
    refine Upd.ite ?_ ?_
    · refine Upd.step (State.setF_upd ..) rfl ?_
      exact Upd.refl _ _
    · extract_lets +onlyGivenNames x3
      clear_value x3
      extract_lets +onlyGivenNames x4
      refine cut (P := Upd 0x1a300 s x4) ?_ (fun h5 => ?_)
      · unfold x4
        refine Upd.step (State.setFrt_upd ..) rfl ?_
        exact Upd.refl _ _
      clear_value x4
      extract_lets +onlyGivenNames x6
      refine cut (P := Upd 0x1a300 s x6) ?_ (fun h7 => ?_)
      · unfold x6
        refine Upd.step (State.setF_upd ..) rfl ?_
        exact h5
      clear_value x6
      extract_lets +onlyGivenNames x8
      refine cut (P := Upd 0x1a300 s x8) ?_ (fun h9 => ?_)
      · unfold x8
        refine Upd.ite ?_ ?_
        · exact h7
        · refine Upd.step (State.clrF_upd ..) rfl ?_
          exact h7
      clear_value x8
      refine Upd.step (State.ckUpdate_upd ..) rfl ?_
      exact h9

theorem execFckApply_upd (r : Req) (f : Fin 128) (v : Word) (s : State) : UpdO 0x1a300 s (execFckApply r f v s) := by
  unfold execFckApply
  refine UpdO.next ?_
  refine Upd.gated _ _ _ rfl ?_ (fun y1 h2 => ?_)
  · exact Upd.refl _ _
  · refine Upd.step (fckApply_upd ..) rfl ?_
    exact h2

theorem fieldClockRestart_upd (f : Nat) (s : State) : Upd 0x1a300 s (fieldClockRestart f s) := by
  unfold fieldClockRestart
  split
  · exact Upd.refl _ _
  · extract_lets +onlyGivenNames x1
    clear_value x1
    extract_lets +onlyGivenNames x2
    clear_value x2
    extract_lets +onlyGivenNames x3
    refine cut (P := Upd 0x1a300 s x3) ?_ (fun h4 => ?_)
    · unfold x3
      refine Upd.step (State.setFrt_upd ..) rfl ?_
      refine Upd.step (State.loadClk_upd ..) rfl ?_
      exact Upd.refl _ _
    clear_value x3
    refine Upd.step (State.ckUpdate_upd ..) rfl ?_
    refine Upd.step (State.clrF_upd ..) rfl ?_
    refine Upd.step (State.setF_upd ..) rfl ?_
    exact h4

theorem execFieldClockRestart_upd (f : Fin 128) (s : State) : UpdO 0x1a300 s (execFieldClockRestart f s) := by
  unfold execFieldClockRestart
  refine UpdO.next ?_
  refine Upd.step (fieldClockRestart_upd ..) rfl ?_
  exact Upd.refl _ _

theorem stileSend_upd (f : Nat) (e : Nat) (c : Nat) (w : DWord) (s : State) : Upd 0x2000 s (stileSend f e c w s) := by
  unfold stileSend
  extract_lets +onlyGivenNames x1
  clear_value x1
  refine Upd.ite ?_ ?_
  · refine Upd.step (State.setChan_upd ..) rfl ?_
    exact Upd.refl _ _
  · exact Upd.refl _ _

theorem execStileSend_upd (f : Fin 128) (e : Fin 4) (c : Fin 256) (w : DWord) (s : State) : UpdO 0x2000 s (execStileSend f e c w s) := by
  unfold execStileSend
  refine UpdO.next ?_
  refine Upd.step (stileSend_upd ..) rfl ?_
  exact Upd.refl _ _

theorem stileArrive_upd (f : Nat) (e : Nat) (c : Nat) (s : State) : Upd 0x2000 s (stileArrive f e c s) := by
  unfold stileArrive
  extract_lets +onlyGivenNames x1
  clear_value x1
  split
  · exact Upd.refl _ _
  · refine Upd.step (State.setChan_upd ..) rfl ?_
    exact Upd.refl _ _

theorem execStileWordArrive_upd (f : Fin 128) (e : Fin 4) (c : Fin 256) (k : KelkRes) (s : State) : UpdO 0x7a380 s (execStileWordArrive f e c k s) := by
  unfold execStileWordArrive
  split
  · refine UpdO.next ?_
    refine Upd.step (stileArrive_upd ..) rfl ?_
    exact Upd.refl _ _
  · refine UpdO.ite ?_ ?_
    · refine UpdO.next ?_
      refine Upd.step (State.kelkWErr_upd ..) rfl ?_
      refine Upd.step (stileArrive_upd ..) rfl ?_
      exact Upd.refl _ _
    · refine UpdO.next ?_
      refine Upd.step (stileArrive_upd ..) rfl ?_
      exact Upd.refl _ _
  · refine UpdO.ite ?_ ?_
    · refine UpdO.next ?_
      refine Upd.step (State.kelkWUe_upd ..) rfl ?_
      exact Upd.refl _ _
    · refine UpdO.next ?_
      refine Upd.step (stileArrive_upd ..) rfl ?_
      exact Upd.refl _ _

theorem stileConsume_upd (f : Nat) (e : Nat) (c : Nat) (s : State) : Upd 0x2100 s (stileConsume f e c s) := by
  unfold stileConsume
  split
  · exact Upd.refl _ _
  · extract_lets +onlyGivenNames x1
    clear_value x1
    refine Upd.ite ?_ ?_
    · exact Upd.refl _ _
    · split
      · exact Upd.refl _ _
      · refine Upd.step (State.emit_upd ..) rfl ?_
        refine Upd.step (State.setChan_upd ..) rfl ?_
        exact Upd.refl _ _

theorem execStileConsume_upd (f : Fin 128) (e : Fin 4) (c : Fin 256) (s : State) : UpdO 0x2100 s (execStileConsume f e c s) := by
  unfold execStileConsume
  refine UpdO.next ?_
  refine Upd.step (stileConsume_upd ..) rfl ?_
  exact Upd.refl _ _

theorem stileCreditReturn_upd (f : Nat) (e : Nat) (c : Nat) (s : State) : Upd 0x2000 s (stileCreditReturn f e c s) := by
  unfold stileCreditReturn
  extract_lets +onlyGivenNames x1
  clear_value x1
  refine Upd.ite ?_ ?_
  · refine Upd.step (State.setChan_upd ..) rfl ?_
    exact Upd.refl _ _
  · exact Upd.refl _ _

theorem execStileCreditReturn_upd (f : Fin 128) (e : Fin 4) (c : Fin 256) (s : State) : UpdO 0x2000 s (execStileCreditReturn f e c s) := by
  unfold execStileCreditReturn
  refine UpdO.next ?_
  refine Upd.step (stileCreditReturn_upd ..) rfl ?_
  exact Upd.refl _ _

theorem levelChange_upd (f : Nat) (e : Nat) (l : Nat) (v : Bool) (s : State) : Upd 0x2100 s (levelChange f e l v s) := by
  unfold levelChange
  refine Upd.ite ?_ ?_
  · refine Upd.step (State.emit_upd ..) rfl ?_
    refine Upd.step (Upd.set_fab _ _) rfl ?_
    exact Upd.refl _ _
  · exact Upd.refl _ _

theorem execLevelStileChange_upd (f : Fin 128) (e : Fin 4) (l : Fin 64) (v : Bool) (s : State) : UpdO 0x2100 s (execLevelStileChange f e l v s) := by
  unfold execLevelStileChange
  refine UpdO.next ?_
  refine Upd.step (levelChange_upd ..) rfl ?_
  exact Upd.refl _ _

end Sys2Proof.Machine
end

