-- ==== Sys2Proof/Laws/State.lean ====
section
/-! SUPPORT. What each named update of the state leaves and writes, field by field, so that no proof unfolds a record update. -/
namespace Sys2Proof.Machine

/-! ### Registers -/

@[simp] theorem State.rd_wr (s : State) (a : Nat) (w : Word) (b : Nat) : (s.wr a w).rd b = if a = b then w else s.rd b :=
  tabGet_tabPut regReset s.regs a w b

theorem State.rd_wf (s : State) (b : Nat) (f : Fld) (v k : Nat) :
    (s.wf b f v).rd k = if b + f.ofs = k then wordSet (s.rd k) f.hi f.lo v else s.rd k := by
  rw [State.wf, State.rd_wr]
  split
  · next h => rw [h]
  · rfl

theorem State.rd_wf_ne (s : State) (b : Nat) (f : Fld) (v k : Nat) (h : b + f.ofs ≠ k) : (s.wf b f v).rd k = s.rd k := by
  rw [State.rd_wf, if_neg h]

/-- A field written reads as written. -/
theorem State.rf_wf (s : State) (b : Nat) (f : Fld) (v : Nat) (h : f.hi < 32) : (s.wf b f v).rf b f = v % 2 ^ (f.hi + 1 - f.lo) := by
  rw [State.rf, State.rd_wf, if_pos rfl, wordBits_wordSet _ _ _ _ h]

/-- A field of another register keeps its value. -/
theorem State.rf_wf_other (s : State) (b : Nat) (f : Fld) (v c : Nat) (g : Fld) (h : b + f.ofs ≠ c + g.ofs) :
    (s.wf b f v).rf c g = s.rf c g := by
  rw [State.rf, State.rd_wf, if_neg h, State.rf]

/-- A field of the same register apart from the one written keeps its value. -/
theorem State.rf_wf_apart (s : State) (b : Nat) (f : Fld) (v c : Nat) (g : Fld) (h : g.hi < 32) (d : g.hi < f.lo ∨ f.hi < g.lo) :
    (s.wf b f v).rf c g = s.rf c g := by
  rw [State.rf, State.rd_wf, State.rf]
  split
  · exact wordBits_wordSet_apart _ _ _ _ _ _ h d
  · rfl

/-- Registers lost read as after reset, the others as before. -/
@[simp] theorem State.rd_regsLost (s : State) (p : Nat → Bool) (k : Nat) : (s.regsLost p).rd k = if p k then regReset k else s.rd k := by
  show tabGet regReset (tabKeep s.regs fun k => !p k) k = _
  rw [tabGet_tabKeep]
  cases p k <;> rfl

/-! ### wr -/

@[simp] theorem State.wr_pending (s : State) (a : Nat) (w : Word) : (s.wr a w).pending = s.pending := rfl
@[simp] theorem State.wr_part (s : State) (a : Nat) (w : Word) : (s.wr a w).part = s.part := rfl
@[simp] theorem State.wr_mode (s : State) (a : Nat) (w : Word) : (s.wr a w).mode = s.mode := rfl
@[simp] theorem State.wr_now (s : State) (a : Nat) (w : Word) : (s.wr a w).now = s.now := rfl
@[simp] theorem State.wr_ttc (s : State) (a : Nat) (w : Word) : (s.wr a w).ttc = s.ttc := rfl
@[simp] theorem State.wr_cal (s : State) (a : Nat) (w : Word) : (s.wr a w).cal = s.cal := rfl
@[simp] theorem State.wr_rtc (s : State) (a : Nat) (w : Word) : (s.wr a w).rtc = s.rtc := rfl
@[simp] theorem State.wr_free (s : State) (a : Nat) (w : Word) : (s.wr a w).free = s.free := rfl
@[simp] theorem State.wr_outs (s : State) (a : Nat) (w : Word) : (s.wr a w).outs = s.outs := rfl
@[simp] theorem State.wr_latch (s : State) (a : Nat) (w : Word) : (s.wr a w).latch = s.latch := rfl
@[simp] theorem State.wr_staged (s : State) (a : Nat) (w : Word) : (s.wr a w).staged = s.staged := rfl
@[simp] theorem State.wr_diesDown (s : State) (a : Nat) (w : Word) : (s.wr a w).diesDown = s.diesDown := rfl
@[simp] theorem State.wr_fab (s : State) (a : Nat) (w : Word) : (s.wr a w).fab = s.fab := rfl
@[simp] theorem State.wr_mem (s : State) (a : Nat) (w : Word) : (s.wr a w).mem = s.mem := rfl
@[simp] theorem State.wr_site (s : State) (a : Nat) (w : Word) : (s.wr a w).site = s.site := rfl
@[simp] theorem State.wr_pcie (s : State) (a : Nat) (w : Word) : (s.wr a w).pcie = s.pcie := rfl
@[simp] theorem State.wr_par (s : State) (a : Nat) (w : Word) : (s.wr a w).par = s.par := rfl
@[simp] theorem State.wr_kelk (s : State) (a : Nat) (w : Word) : (s.wr a w).kelk = s.kelk := rfl
@[simp] theorem State.wr_ring (s : State) (a : Nat) (w : Word) : (s.wr a w).ring = s.ring := rfl
@[simp] theorem State.wr_llp (s : State) (a : Nat) (w : Word) : (s.wr a w).llp = s.llp := rfl
@[simp] theorem State.wr_cap (s : State) (a : Nat) (w : Word) : (s.wr a w).cap = s.cap := rfl
@[simp] theorem State.wr_clk (s : State) (a : Nat) (w : Word) : (s.wr a w).clk = s.clk := rfl
@[simp] theorem State.wr_mill (s : State) (a : Nat) (w : Word) : (s.wr a w).mill = s.mill := rfl
@[simp] theorem State.wr_dram (s : State) (a : Nat) (w : Word) : (s.wr a w).dram = s.dram := rfl
@[simp] theorem State.wr_host (s : State) (a : Nat) (w : Word) : (s.wr a w).host = s.host := rfl
@[simp] theorem State.wr_cfg (s : State) (a : Nat) (w : Word) : (s.wr a w).cfg = s.cfg := rfl
@[simp] theorem State.wr_sec (s : State) (a : Nat) (w : Word) : (s.wr a w).sec = s.sec := rfl
@[simp] theorem State.wr_dbg (s : State) (a : Nat) (w : Word) : (s.wr a w).dbg = s.dbg := rfl
@[simp] theorem State.wr_fills (s : State) (a : Nat) (w : Word) : (s.wr a w).fills = s.fills := rfl
@[simp] theorem State.wr_gpio (s : State) (a : Nat) (w : Word) : (s.wr a w).gpio = s.gpio := rfl
@[simp] theorem State.wr_start (s : State) (a : Nat) (w : Word) : (s.wr a w).start = s.start := rfl
@[simp] theorem State.wr_cores (s : State) (a : Nat) (w : Word) : (s.wr a w).cores = s.cores := rfl
@[simp] theorem State.wr_guest (s : State) (a : Nat) (w : Word) : (s.wr a w).guest = s.guest := rfl
@[simp] theorem State.wr_com (s : State) (a : Nat) (w : Word) : (s.wr a w).com = s.com := rfl
@[simp] theorem State.wr_ledger (s : State) (a : Nat) (w : Word) : (s.wr a w).ledger = s.ledger := rfl

/-! ### wf -/

@[simp] theorem State.wf_pending (s : State) (b : Nat) (f : Fld) (v : Nat) : (s.wf b f v).pending = s.pending := rfl
@[simp] theorem State.wf_part (s : State) (b : Nat) (f : Fld) (v : Nat) : (s.wf b f v).part = s.part := rfl
@[simp] theorem State.wf_mode (s : State) (b : Nat) (f : Fld) (v : Nat) : (s.wf b f v).mode = s.mode := rfl
@[simp] theorem State.wf_now (s : State) (b : Nat) (f : Fld) (v : Nat) : (s.wf b f v).now = s.now := rfl
@[simp] theorem State.wf_ttc (s : State) (b : Nat) (f : Fld) (v : Nat) : (s.wf b f v).ttc = s.ttc := rfl
@[simp] theorem State.wf_cal (s : State) (b : Nat) (f : Fld) (v : Nat) : (s.wf b f v).cal = s.cal := rfl
@[simp] theorem State.wf_rtc (s : State) (b : Nat) (f : Fld) (v : Nat) : (s.wf b f v).rtc = s.rtc := rfl
@[simp] theorem State.wf_free (s : State) (b : Nat) (f : Fld) (v : Nat) : (s.wf b f v).free = s.free := rfl
@[simp] theorem State.wf_outs (s : State) (b : Nat) (f : Fld) (v : Nat) : (s.wf b f v).outs = s.outs := rfl
@[simp] theorem State.wf_latch (s : State) (b : Nat) (f : Fld) (v : Nat) : (s.wf b f v).latch = s.latch := rfl
@[simp] theorem State.wf_staged (s : State) (b : Nat) (f : Fld) (v : Nat) : (s.wf b f v).staged = s.staged := rfl
@[simp] theorem State.wf_diesDown (s : State) (b : Nat) (f : Fld) (v : Nat) : (s.wf b f v).diesDown = s.diesDown := rfl
@[simp] theorem State.wf_fab (s : State) (b : Nat) (f : Fld) (v : Nat) : (s.wf b f v).fab = s.fab := rfl
@[simp] theorem State.wf_mem (s : State) (b : Nat) (f : Fld) (v : Nat) : (s.wf b f v).mem = s.mem := rfl
@[simp] theorem State.wf_site (s : State) (b : Nat) (f : Fld) (v : Nat) : (s.wf b f v).site = s.site := rfl
@[simp] theorem State.wf_pcie (s : State) (b : Nat) (f : Fld) (v : Nat) : (s.wf b f v).pcie = s.pcie := rfl
@[simp] theorem State.wf_par (s : State) (b : Nat) (f : Fld) (v : Nat) : (s.wf b f v).par = s.par := rfl
@[simp] theorem State.wf_kelk (s : State) (b : Nat) (f : Fld) (v : Nat) : (s.wf b f v).kelk = s.kelk := rfl
@[simp] theorem State.wf_ring (s : State) (b : Nat) (f : Fld) (v : Nat) : (s.wf b f v).ring = s.ring := rfl
@[simp] theorem State.wf_llp (s : State) (b : Nat) (f : Fld) (v : Nat) : (s.wf b f v).llp = s.llp := rfl
@[simp] theorem State.wf_cap (s : State) (b : Nat) (f : Fld) (v : Nat) : (s.wf b f v).cap = s.cap := rfl
@[simp] theorem State.wf_clk (s : State) (b : Nat) (f : Fld) (v : Nat) : (s.wf b f v).clk = s.clk := rfl
@[simp] theorem State.wf_mill (s : State) (b : Nat) (f : Fld) (v : Nat) : (s.wf b f v).mill = s.mill := rfl
@[simp] theorem State.wf_dram (s : State) (b : Nat) (f : Fld) (v : Nat) : (s.wf b f v).dram = s.dram := rfl
@[simp] theorem State.wf_host (s : State) (b : Nat) (f : Fld) (v : Nat) : (s.wf b f v).host = s.host := rfl
@[simp] theorem State.wf_cfg (s : State) (b : Nat) (f : Fld) (v : Nat) : (s.wf b f v).cfg = s.cfg := rfl
@[simp] theorem State.wf_sec (s : State) (b : Nat) (f : Fld) (v : Nat) : (s.wf b f v).sec = s.sec := rfl
@[simp] theorem State.wf_dbg (s : State) (b : Nat) (f : Fld) (v : Nat) : (s.wf b f v).dbg = s.dbg := rfl
@[simp] theorem State.wf_fills (s : State) (b : Nat) (f : Fld) (v : Nat) : (s.wf b f v).fills = s.fills := rfl
@[simp] theorem State.wf_gpio (s : State) (b : Nat) (f : Fld) (v : Nat) : (s.wf b f v).gpio = s.gpio := rfl
@[simp] theorem State.wf_start (s : State) (b : Nat) (f : Fld) (v : Nat) : (s.wf b f v).start = s.start := rfl
@[simp] theorem State.wf_cores (s : State) (b : Nat) (f : Fld) (v : Nat) : (s.wf b f v).cores = s.cores := rfl
@[simp] theorem State.wf_guest (s : State) (b : Nat) (f : Fld) (v : Nat) : (s.wf b f v).guest = s.guest := rfl
@[simp] theorem State.wf_com (s : State) (b : Nat) (f : Fld) (v : Nat) : (s.wf b f v).com = s.com := rfl
@[simp] theorem State.wf_ledger (s : State) (b : Nat) (f : Fld) (v : Nat) : (s.wf b f v).ledger = s.ledger := rfl

/-! ### setF -/

@[simp] theorem State.setF_pending (s : State) (b : Nat) (f : Fld) : (s.setF b f).pending = s.pending := rfl
@[simp] theorem State.setF_part (s : State) (b : Nat) (f : Fld) : (s.setF b f).part = s.part := rfl
@[simp] theorem State.setF_mode (s : State) (b : Nat) (f : Fld) : (s.setF b f).mode = s.mode := rfl
@[simp] theorem State.setF_now (s : State) (b : Nat) (f : Fld) : (s.setF b f).now = s.now := rfl
@[simp] theorem State.setF_ttc (s : State) (b : Nat) (f : Fld) : (s.setF b f).ttc = s.ttc := rfl
@[simp] theorem State.setF_cal (s : State) (b : Nat) (f : Fld) : (s.setF b f).cal = s.cal := rfl
@[simp] theorem State.setF_rtc (s : State) (b : Nat) (f : Fld) : (s.setF b f).rtc = s.rtc := rfl
@[simp] theorem State.setF_free (s : State) (b : Nat) (f : Fld) : (s.setF b f).free = s.free := rfl
@[simp] theorem State.setF_outs (s : State) (b : Nat) (f : Fld) : (s.setF b f).outs = s.outs := rfl
@[simp] theorem State.setF_latch (s : State) (b : Nat) (f : Fld) : (s.setF b f).latch = s.latch := rfl
@[simp] theorem State.setF_staged (s : State) (b : Nat) (f : Fld) : (s.setF b f).staged = s.staged := rfl
@[simp] theorem State.setF_diesDown (s : State) (b : Nat) (f : Fld) : (s.setF b f).diesDown = s.diesDown := rfl
@[simp] theorem State.setF_fab (s : State) (b : Nat) (f : Fld) : (s.setF b f).fab = s.fab := rfl
@[simp] theorem State.setF_mem (s : State) (b : Nat) (f : Fld) : (s.setF b f).mem = s.mem := rfl
@[simp] theorem State.setF_site (s : State) (b : Nat) (f : Fld) : (s.setF b f).site = s.site := rfl
@[simp] theorem State.setF_pcie (s : State) (b : Nat) (f : Fld) : (s.setF b f).pcie = s.pcie := rfl
@[simp] theorem State.setF_par (s : State) (b : Nat) (f : Fld) : (s.setF b f).par = s.par := rfl
@[simp] theorem State.setF_kelk (s : State) (b : Nat) (f : Fld) : (s.setF b f).kelk = s.kelk := rfl
@[simp] theorem State.setF_ring (s : State) (b : Nat) (f : Fld) : (s.setF b f).ring = s.ring := rfl
@[simp] theorem State.setF_llp (s : State) (b : Nat) (f : Fld) : (s.setF b f).llp = s.llp := rfl
@[simp] theorem State.setF_cap (s : State) (b : Nat) (f : Fld) : (s.setF b f).cap = s.cap := rfl
@[simp] theorem State.setF_clk (s : State) (b : Nat) (f : Fld) : (s.setF b f).clk = s.clk := rfl
@[simp] theorem State.setF_mill (s : State) (b : Nat) (f : Fld) : (s.setF b f).mill = s.mill := rfl
@[simp] theorem State.setF_dram (s : State) (b : Nat) (f : Fld) : (s.setF b f).dram = s.dram := rfl
@[simp] theorem State.setF_host (s : State) (b : Nat) (f : Fld) : (s.setF b f).host = s.host := rfl
@[simp] theorem State.setF_cfg (s : State) (b : Nat) (f : Fld) : (s.setF b f).cfg = s.cfg := rfl
@[simp] theorem State.setF_sec (s : State) (b : Nat) (f : Fld) : (s.setF b f).sec = s.sec := rfl
@[simp] theorem State.setF_dbg (s : State) (b : Nat) (f : Fld) : (s.setF b f).dbg = s.dbg := rfl
@[simp] theorem State.setF_fills (s : State) (b : Nat) (f : Fld) : (s.setF b f).fills = s.fills := rfl
@[simp] theorem State.setF_gpio (s : State) (b : Nat) (f : Fld) : (s.setF b f).gpio = s.gpio := rfl
@[simp] theorem State.setF_start (s : State) (b : Nat) (f : Fld) : (s.setF b f).start = s.start := rfl
@[simp] theorem State.setF_cores (s : State) (b : Nat) (f : Fld) : (s.setF b f).cores = s.cores := rfl
@[simp] theorem State.setF_guest (s : State) (b : Nat) (f : Fld) : (s.setF b f).guest = s.guest := rfl
@[simp] theorem State.setF_com (s : State) (b : Nat) (f : Fld) : (s.setF b f).com = s.com := rfl
@[simp] theorem State.setF_ledger (s : State) (b : Nat) (f : Fld) : (s.setF b f).ledger = s.ledger := rfl

/-! ### clrF -/

@[simp] theorem State.clrF_pending (s : State) (b : Nat) (f : Fld) : (s.clrF b f).pending = s.pending := rfl
@[simp] theorem State.clrF_part (s : State) (b : Nat) (f : Fld) : (s.clrF b f).part = s.part := rfl
@[simp] theorem State.clrF_mode (s : State) (b : Nat) (f : Fld) : (s.clrF b f).mode = s.mode := rfl
@[simp] theorem State.clrF_now (s : State) (b : Nat) (f : Fld) : (s.clrF b f).now = s.now := rfl
@[simp] theorem State.clrF_ttc (s : State) (b : Nat) (f : Fld) : (s.clrF b f).ttc = s.ttc := rfl
@[simp] theorem State.clrF_cal (s : State) (b : Nat) (f : Fld) : (s.clrF b f).cal = s.cal := rfl
@[simp] theorem State.clrF_rtc (s : State) (b : Nat) (f : Fld) : (s.clrF b f).rtc = s.rtc := rfl
@[simp] theorem State.clrF_free (s : State) (b : Nat) (f : Fld) : (s.clrF b f).free = s.free := rfl
@[simp] theorem State.clrF_outs (s : State) (b : Nat) (f : Fld) : (s.clrF b f).outs = s.outs := rfl
@[simp] theorem State.clrF_latch (s : State) (b : Nat) (f : Fld) : (s.clrF b f).latch = s.latch := rfl
@[simp] theorem State.clrF_staged (s : State) (b : Nat) (f : Fld) : (s.clrF b f).staged = s.staged := rfl
@[simp] theorem State.clrF_diesDown (s : State) (b : Nat) (f : Fld) : (s.clrF b f).diesDown = s.diesDown := rfl
@[simp] theorem State.clrF_fab (s : State) (b : Nat) (f : Fld) : (s.clrF b f).fab = s.fab := rfl
@[simp] theorem State.clrF_mem (s : State) (b : Nat) (f : Fld) : (s.clrF b f).mem = s.mem := rfl
@[simp] theorem State.clrF_site (s : State) (b : Nat) (f : Fld) : (s.clrF b f).site = s.site := rfl
@[simp] theorem State.clrF_pcie (s : State) (b : Nat) (f : Fld) : (s.clrF b f).pcie = s.pcie := rfl
@[simp] theorem State.clrF_par (s : State) (b : Nat) (f : Fld) : (s.clrF b f).par = s.par := rfl
@[simp] theorem State.clrF_kelk (s : State) (b : Nat) (f : Fld) : (s.clrF b f).kelk = s.kelk := rfl
@[simp] theorem State.clrF_ring (s : State) (b : Nat) (f : Fld) : (s.clrF b f).ring = s.ring := rfl
@[simp] theorem State.clrF_llp (s : State) (b : Nat) (f : Fld) : (s.clrF b f).llp = s.llp := rfl
@[simp] theorem State.clrF_cap (s : State) (b : Nat) (f : Fld) : (s.clrF b f).cap = s.cap := rfl
@[simp] theorem State.clrF_clk (s : State) (b : Nat) (f : Fld) : (s.clrF b f).clk = s.clk := rfl
@[simp] theorem State.clrF_mill (s : State) (b : Nat) (f : Fld) : (s.clrF b f).mill = s.mill := rfl
@[simp] theorem State.clrF_dram (s : State) (b : Nat) (f : Fld) : (s.clrF b f).dram = s.dram := rfl
@[simp] theorem State.clrF_host (s : State) (b : Nat) (f : Fld) : (s.clrF b f).host = s.host := rfl
@[simp] theorem State.clrF_cfg (s : State) (b : Nat) (f : Fld) : (s.clrF b f).cfg = s.cfg := rfl
@[simp] theorem State.clrF_sec (s : State) (b : Nat) (f : Fld) : (s.clrF b f).sec = s.sec := rfl
@[simp] theorem State.clrF_dbg (s : State) (b : Nat) (f : Fld) : (s.clrF b f).dbg = s.dbg := rfl
@[simp] theorem State.clrF_fills (s : State) (b : Nat) (f : Fld) : (s.clrF b f).fills = s.fills := rfl
@[simp] theorem State.clrF_gpio (s : State) (b : Nat) (f : Fld) : (s.clrF b f).gpio = s.gpio := rfl
@[simp] theorem State.clrF_start (s : State) (b : Nat) (f : Fld) : (s.clrF b f).start = s.start := rfl
@[simp] theorem State.clrF_cores (s : State) (b : Nat) (f : Fld) : (s.clrF b f).cores = s.cores := rfl
@[simp] theorem State.clrF_guest (s : State) (b : Nat) (f : Fld) : (s.clrF b f).guest = s.guest := rfl
@[simp] theorem State.clrF_com (s : State) (b : Nat) (f : Fld) : (s.clrF b f).com = s.com := rfl
@[simp] theorem State.clrF_ledger (s : State) (b : Nat) (f : Fld) : (s.clrF b f).ledger = s.ledger := rfl

/-! ### cnt -/

@[simp] theorem State.cnt_pending (s : State) (a n : Nat) : (s.cnt a n).pending = s.pending := rfl
@[simp] theorem State.cnt_part (s : State) (a n : Nat) : (s.cnt a n).part = s.part := rfl
@[simp] theorem State.cnt_mode (s : State) (a n : Nat) : (s.cnt a n).mode = s.mode := rfl
@[simp] theorem State.cnt_now (s : State) (a n : Nat) : (s.cnt a n).now = s.now := rfl
@[simp] theorem State.cnt_ttc (s : State) (a n : Nat) : (s.cnt a n).ttc = s.ttc := rfl
@[simp] theorem State.cnt_cal (s : State) (a n : Nat) : (s.cnt a n).cal = s.cal := rfl
@[simp] theorem State.cnt_rtc (s : State) (a n : Nat) : (s.cnt a n).rtc = s.rtc := rfl
@[simp] theorem State.cnt_free (s : State) (a n : Nat) : (s.cnt a n).free = s.free := rfl
@[simp] theorem State.cnt_outs (s : State) (a n : Nat) : (s.cnt a n).outs = s.outs := rfl
@[simp] theorem State.cnt_latch (s : State) (a n : Nat) : (s.cnt a n).latch = s.latch := rfl
@[simp] theorem State.cnt_staged (s : State) (a n : Nat) : (s.cnt a n).staged = s.staged := rfl
@[simp] theorem State.cnt_diesDown (s : State) (a n : Nat) : (s.cnt a n).diesDown = s.diesDown := rfl
@[simp] theorem State.cnt_fab (s : State) (a n : Nat) : (s.cnt a n).fab = s.fab := rfl
@[simp] theorem State.cnt_mem (s : State) (a n : Nat) : (s.cnt a n).mem = s.mem := rfl
@[simp] theorem State.cnt_site (s : State) (a n : Nat) : (s.cnt a n).site = s.site := rfl
@[simp] theorem State.cnt_pcie (s : State) (a n : Nat) : (s.cnt a n).pcie = s.pcie := rfl
@[simp] theorem State.cnt_par (s : State) (a n : Nat) : (s.cnt a n).par = s.par := rfl
@[simp] theorem State.cnt_kelk (s : State) (a n : Nat) : (s.cnt a n).kelk = s.kelk := rfl
@[simp] theorem State.cnt_ring (s : State) (a n : Nat) : (s.cnt a n).ring = s.ring := rfl
@[simp] theorem State.cnt_llp (s : State) (a n : Nat) : (s.cnt a n).llp = s.llp := rfl
@[simp] theorem State.cnt_cap (s : State) (a n : Nat) : (s.cnt a n).cap = s.cap := rfl
@[simp] theorem State.cnt_clk (s : State) (a n : Nat) : (s.cnt a n).clk = s.clk := rfl
@[simp] theorem State.cnt_mill (s : State) (a n : Nat) : (s.cnt a n).mill = s.mill := rfl
@[simp] theorem State.cnt_dram (s : State) (a n : Nat) : (s.cnt a n).dram = s.dram := rfl
@[simp] theorem State.cnt_host (s : State) (a n : Nat) : (s.cnt a n).host = s.host := rfl
@[simp] theorem State.cnt_cfg (s : State) (a n : Nat) : (s.cnt a n).cfg = s.cfg := rfl
@[simp] theorem State.cnt_sec (s : State) (a n : Nat) : (s.cnt a n).sec = s.sec := rfl
@[simp] theorem State.cnt_dbg (s : State) (a n : Nat) : (s.cnt a n).dbg = s.dbg := rfl
@[simp] theorem State.cnt_fills (s : State) (a n : Nat) : (s.cnt a n).fills = s.fills := rfl
@[simp] theorem State.cnt_gpio (s : State) (a n : Nat) : (s.cnt a n).gpio = s.gpio := rfl
@[simp] theorem State.cnt_start (s : State) (a n : Nat) : (s.cnt a n).start = s.start := rfl
@[simp] theorem State.cnt_cores (s : State) (a n : Nat) : (s.cnt a n).cores = s.cores := rfl
@[simp] theorem State.cnt_guest (s : State) (a n : Nat) : (s.cnt a n).guest = s.guest := rfl
@[simp] theorem State.cnt_com (s : State) (a n : Nat) : (s.cnt a n).com = s.com := rfl
@[simp] theorem State.cnt_ledger (s : State) (a n : Nat) : (s.cnt a n).ledger = s.ledger := rfl

/-! ### cntF -/

@[simp] theorem State.cntF_pending (s : State) (b : Nat) (f : Fld) (n : Nat) : (s.cntF b f n).pending = s.pending := rfl
@[simp] theorem State.cntF_part (s : State) (b : Nat) (f : Fld) (n : Nat) : (s.cntF b f n).part = s.part := rfl
@[simp] theorem State.cntF_mode (s : State) (b : Nat) (f : Fld) (n : Nat) : (s.cntF b f n).mode = s.mode := rfl
@[simp] theorem State.cntF_now (s : State) (b : Nat) (f : Fld) (n : Nat) : (s.cntF b f n).now = s.now := rfl
@[simp] theorem State.cntF_ttc (s : State) (b : Nat) (f : Fld) (n : Nat) : (s.cntF b f n).ttc = s.ttc := rfl
@[simp] theorem State.cntF_cal (s : State) (b : Nat) (f : Fld) (n : Nat) : (s.cntF b f n).cal = s.cal := rfl
@[simp] theorem State.cntF_rtc (s : State) (b : Nat) (f : Fld) (n : Nat) : (s.cntF b f n).rtc = s.rtc := rfl
@[simp] theorem State.cntF_free (s : State) (b : Nat) (f : Fld) (n : Nat) : (s.cntF b f n).free = s.free := rfl
@[simp] theorem State.cntF_outs (s : State) (b : Nat) (f : Fld) (n : Nat) : (s.cntF b f n).outs = s.outs := rfl
@[simp] theorem State.cntF_latch (s : State) (b : Nat) (f : Fld) (n : Nat) : (s.cntF b f n).latch = s.latch := rfl
@[simp] theorem State.cntF_staged (s : State) (b : Nat) (f : Fld) (n : Nat) : (s.cntF b f n).staged = s.staged := rfl
@[simp] theorem State.cntF_diesDown (s : State) (b : Nat) (f : Fld) (n : Nat) : (s.cntF b f n).diesDown = s.diesDown := rfl
@[simp] theorem State.cntF_fab (s : State) (b : Nat) (f : Fld) (n : Nat) : (s.cntF b f n).fab = s.fab := rfl
@[simp] theorem State.cntF_mem (s : State) (b : Nat) (f : Fld) (n : Nat) : (s.cntF b f n).mem = s.mem := rfl
@[simp] theorem State.cntF_site (s : State) (b : Nat) (f : Fld) (n : Nat) : (s.cntF b f n).site = s.site := rfl
@[simp] theorem State.cntF_pcie (s : State) (b : Nat) (f : Fld) (n : Nat) : (s.cntF b f n).pcie = s.pcie := rfl
@[simp] theorem State.cntF_par (s : State) (b : Nat) (f : Fld) (n : Nat) : (s.cntF b f n).par = s.par := rfl
@[simp] theorem State.cntF_kelk (s : State) (b : Nat) (f : Fld) (n : Nat) : (s.cntF b f n).kelk = s.kelk := rfl
@[simp] theorem State.cntF_ring (s : State) (b : Nat) (f : Fld) (n : Nat) : (s.cntF b f n).ring = s.ring := rfl
@[simp] theorem State.cntF_llp (s : State) (b : Nat) (f : Fld) (n : Nat) : (s.cntF b f n).llp = s.llp := rfl
@[simp] theorem State.cntF_cap (s : State) (b : Nat) (f : Fld) (n : Nat) : (s.cntF b f n).cap = s.cap := rfl
@[simp] theorem State.cntF_clk (s : State) (b : Nat) (f : Fld) (n : Nat) : (s.cntF b f n).clk = s.clk := rfl
@[simp] theorem State.cntF_mill (s : State) (b : Nat) (f : Fld) (n : Nat) : (s.cntF b f n).mill = s.mill := rfl
@[simp] theorem State.cntF_dram (s : State) (b : Nat) (f : Fld) (n : Nat) : (s.cntF b f n).dram = s.dram := rfl
@[simp] theorem State.cntF_host (s : State) (b : Nat) (f : Fld) (n : Nat) : (s.cntF b f n).host = s.host := rfl
@[simp] theorem State.cntF_cfg (s : State) (b : Nat) (f : Fld) (n : Nat) : (s.cntF b f n).cfg = s.cfg := rfl
@[simp] theorem State.cntF_sec (s : State) (b : Nat) (f : Fld) (n : Nat) : (s.cntF b f n).sec = s.sec := rfl
@[simp] theorem State.cntF_dbg (s : State) (b : Nat) (f : Fld) (n : Nat) : (s.cntF b f n).dbg = s.dbg := rfl
@[simp] theorem State.cntF_fills (s : State) (b : Nat) (f : Fld) (n : Nat) : (s.cntF b f n).fills = s.fills := rfl
@[simp] theorem State.cntF_gpio (s : State) (b : Nat) (f : Fld) (n : Nat) : (s.cntF b f n).gpio = s.gpio := rfl
@[simp] theorem State.cntF_start (s : State) (b : Nat) (f : Fld) (n : Nat) : (s.cntF b f n).start = s.start := rfl
@[simp] theorem State.cntF_cores (s : State) (b : Nat) (f : Fld) (n : Nat) : (s.cntF b f n).cores = s.cores := rfl
@[simp] theorem State.cntF_guest (s : State) (b : Nat) (f : Fld) (n : Nat) : (s.cntF b f n).guest = s.guest := rfl
@[simp] theorem State.cntF_com (s : State) (b : Nat) (f : Fld) (n : Nat) : (s.cntF b f n).com = s.com := rfl
@[simp] theorem State.cntF_ledger (s : State) (b : Nat) (f : Fld) (n : Nat) : (s.cntF b f n).ledger = s.ledger := rfl

/-! ### wr64 -/

@[simp] theorem State.wr64_pending (s : State) (lo v : Nat) : (s.wr64 lo v).pending = s.pending := rfl
@[simp] theorem State.wr64_part (s : State) (lo v : Nat) : (s.wr64 lo v).part = s.part := rfl
@[simp] theorem State.wr64_mode (s : State) (lo v : Nat) : (s.wr64 lo v).mode = s.mode := rfl
@[simp] theorem State.wr64_now (s : State) (lo v : Nat) : (s.wr64 lo v).now = s.now := rfl
@[simp] theorem State.wr64_ttc (s : State) (lo v : Nat) : (s.wr64 lo v).ttc = s.ttc := rfl
@[simp] theorem State.wr64_cal (s : State) (lo v : Nat) : (s.wr64 lo v).cal = s.cal := rfl
@[simp] theorem State.wr64_rtc (s : State) (lo v : Nat) : (s.wr64 lo v).rtc = s.rtc := rfl
@[simp] theorem State.wr64_free (s : State) (lo v : Nat) : (s.wr64 lo v).free = s.free := rfl
@[simp] theorem State.wr64_outs (s : State) (lo v : Nat) : (s.wr64 lo v).outs = s.outs := rfl
@[simp] theorem State.wr64_latch (s : State) (lo v : Nat) : (s.wr64 lo v).latch = s.latch := rfl
@[simp] theorem State.wr64_staged (s : State) (lo v : Nat) : (s.wr64 lo v).staged = s.staged := rfl
@[simp] theorem State.wr64_diesDown (s : State) (lo v : Nat) : (s.wr64 lo v).diesDown = s.diesDown := rfl
@[simp] theorem State.wr64_fab (s : State) (lo v : Nat) : (s.wr64 lo v).fab = s.fab := rfl
@[simp] theorem State.wr64_mem (s : State) (lo v : Nat) : (s.wr64 lo v).mem = s.mem := rfl
@[simp] theorem State.wr64_site (s : State) (lo v : Nat) : (s.wr64 lo v).site = s.site := rfl
@[simp] theorem State.wr64_pcie (s : State) (lo v : Nat) : (s.wr64 lo v).pcie = s.pcie := rfl
@[simp] theorem State.wr64_par (s : State) (lo v : Nat) : (s.wr64 lo v).par = s.par := rfl
@[simp] theorem State.wr64_kelk (s : State) (lo v : Nat) : (s.wr64 lo v).kelk = s.kelk := rfl
@[simp] theorem State.wr64_ring (s : State) (lo v : Nat) : (s.wr64 lo v).ring = s.ring := rfl
@[simp] theorem State.wr64_llp (s : State) (lo v : Nat) : (s.wr64 lo v).llp = s.llp := rfl
@[simp] theorem State.wr64_cap (s : State) (lo v : Nat) : (s.wr64 lo v).cap = s.cap := rfl
@[simp] theorem State.wr64_clk (s : State) (lo v : Nat) : (s.wr64 lo v).clk = s.clk := rfl
@[simp] theorem State.wr64_mill (s : State) (lo v : Nat) : (s.wr64 lo v).mill = s.mill := rfl
@[simp] theorem State.wr64_dram (s : State) (lo v : Nat) : (s.wr64 lo v).dram = s.dram := rfl
@[simp] theorem State.wr64_host (s : State) (lo v : Nat) : (s.wr64 lo v).host = s.host := rfl
@[simp] theorem State.wr64_cfg (s : State) (lo v : Nat) : (s.wr64 lo v).cfg = s.cfg := rfl
@[simp] theorem State.wr64_sec (s : State) (lo v : Nat) : (s.wr64 lo v).sec = s.sec := rfl
@[simp] theorem State.wr64_dbg (s : State) (lo v : Nat) : (s.wr64 lo v).dbg = s.dbg := rfl
@[simp] theorem State.wr64_fills (s : State) (lo v : Nat) : (s.wr64 lo v).fills = s.fills := rfl
@[simp] theorem State.wr64_gpio (s : State) (lo v : Nat) : (s.wr64 lo v).gpio = s.gpio := rfl
@[simp] theorem State.wr64_start (s : State) (lo v : Nat) : (s.wr64 lo v).start = s.start := rfl
@[simp] theorem State.wr64_cores (s : State) (lo v : Nat) : (s.wr64 lo v).cores = s.cores := rfl
@[simp] theorem State.wr64_guest (s : State) (lo v : Nat) : (s.wr64 lo v).guest = s.guest := rfl
@[simp] theorem State.wr64_com (s : State) (lo v : Nat) : (s.wr64 lo v).com = s.com := rfl
@[simp] theorem State.wr64_ledger (s : State) (lo v : Nat) : (s.wr64 lo v).ledger = s.ledger := rfl

/-! ### emit -/

@[simp] theorem State.emit_pending (s : State) (o : Output) : (s.emit o).pending = s.pending := rfl
@[simp] theorem State.emit_part (s : State) (o : Output) : (s.emit o).part = s.part := rfl
@[simp] theorem State.emit_mode (s : State) (o : Output) : (s.emit o).mode = s.mode := rfl
@[simp] theorem State.emit_now (s : State) (o : Output) : (s.emit o).now = s.now := rfl
@[simp] theorem State.emit_ttc (s : State) (o : Output) : (s.emit o).ttc = s.ttc := rfl
@[simp] theorem State.emit_cal (s : State) (o : Output) : (s.emit o).cal = s.cal := rfl
@[simp] theorem State.emit_rtc (s : State) (o : Output) : (s.emit o).rtc = s.rtc := rfl
@[simp] theorem State.emit_free (s : State) (o : Output) : (s.emit o).free = s.free := rfl
@[simp] theorem State.emit_regs (s : State) (o : Output) : (s.emit o).regs = s.regs := rfl
@[simp] theorem State.emit_latch (s : State) (o : Output) : (s.emit o).latch = s.latch := rfl
@[simp] theorem State.emit_staged (s : State) (o : Output) : (s.emit o).staged = s.staged := rfl
@[simp] theorem State.emit_diesDown (s : State) (o : Output) : (s.emit o).diesDown = s.diesDown := rfl
@[simp] theorem State.emit_fab (s : State) (o : Output) : (s.emit o).fab = s.fab := rfl
@[simp] theorem State.emit_mem (s : State) (o : Output) : (s.emit o).mem = s.mem := rfl
@[simp] theorem State.emit_site (s : State) (o : Output) : (s.emit o).site = s.site := rfl
@[simp] theorem State.emit_pcie (s : State) (o : Output) : (s.emit o).pcie = s.pcie := rfl
@[simp] theorem State.emit_par (s : State) (o : Output) : (s.emit o).par = s.par := rfl
@[simp] theorem State.emit_kelk (s : State) (o : Output) : (s.emit o).kelk = s.kelk := rfl
@[simp] theorem State.emit_ring (s : State) (o : Output) : (s.emit o).ring = s.ring := rfl
@[simp] theorem State.emit_llp (s : State) (o : Output) : (s.emit o).llp = s.llp := rfl
@[simp] theorem State.emit_cap (s : State) (o : Output) : (s.emit o).cap = s.cap := rfl
@[simp] theorem State.emit_clk (s : State) (o : Output) : (s.emit o).clk = s.clk := rfl
@[simp] theorem State.emit_mill (s : State) (o : Output) : (s.emit o).mill = s.mill := rfl
@[simp] theorem State.emit_dram (s : State) (o : Output) : (s.emit o).dram = s.dram := rfl
@[simp] theorem State.emit_host (s : State) (o : Output) : (s.emit o).host = s.host := rfl
@[simp] theorem State.emit_cfg (s : State) (o : Output) : (s.emit o).cfg = s.cfg := rfl
@[simp] theorem State.emit_sec (s : State) (o : Output) : (s.emit o).sec = s.sec := rfl
@[simp] theorem State.emit_dbg (s : State) (o : Output) : (s.emit o).dbg = s.dbg := rfl
@[simp] theorem State.emit_fills (s : State) (o : Output) : (s.emit o).fills = s.fills := rfl
@[simp] theorem State.emit_gpio (s : State) (o : Output) : (s.emit o).gpio = s.gpio := rfl
@[simp] theorem State.emit_start (s : State) (o : Output) : (s.emit o).start = s.start := rfl
@[simp] theorem State.emit_cores (s : State) (o : Output) : (s.emit o).cores = s.cores := rfl
@[simp] theorem State.emit_guest (s : State) (o : Output) : (s.emit o).guest = s.guest := rfl
@[simp] theorem State.emit_com (s : State) (o : Output) : (s.emit o).com = s.com := rfl
@[simp] theorem State.emit_ledger (s : State) (o : Output) : (s.emit o).ledger = s.ledger := rfl
@[simp] theorem State.emit_rd (s : State) (o : Output) (k : Nat) : (s.emit o).rd k = s.rd k := rfl
@[simp] theorem State.emit_rf (s : State) (o : Output) (k : Nat) (fl : Fld) : (s.emit o).rf k fl = s.rf k fl := rfl
@[simp] theorem State.emit_outs (s : State) (o : Output) : (s.emit o).outs = o :: s.outs := rfl

/-! ### setFrt -/

@[simp] theorem State.setFrt_pending (s : State) (f : Nat) (x : FieldRt) : (s.setFrt f x).pending = s.pending := rfl
@[simp] theorem State.setFrt_part (s : State) (f : Nat) (x : FieldRt) : (s.setFrt f x).part = s.part := rfl
@[simp] theorem State.setFrt_mode (s : State) (f : Nat) (x : FieldRt) : (s.setFrt f x).mode = s.mode := rfl
@[simp] theorem State.setFrt_now (s : State) (f : Nat) (x : FieldRt) : (s.setFrt f x).now = s.now := rfl
@[simp] theorem State.setFrt_ttc (s : State) (f : Nat) (x : FieldRt) : (s.setFrt f x).ttc = s.ttc := rfl
@[simp] theorem State.setFrt_cal (s : State) (f : Nat) (x : FieldRt) : (s.setFrt f x).cal = s.cal := rfl
@[simp] theorem State.setFrt_rtc (s : State) (f : Nat) (x : FieldRt) : (s.setFrt f x).rtc = s.rtc := rfl
@[simp] theorem State.setFrt_free (s : State) (f : Nat) (x : FieldRt) : (s.setFrt f x).free = s.free := rfl
@[simp] theorem State.setFrt_outs (s : State) (f : Nat) (x : FieldRt) : (s.setFrt f x).outs = s.outs := rfl
@[simp] theorem State.setFrt_regs (s : State) (f : Nat) (x : FieldRt) : (s.setFrt f x).regs = s.regs := rfl
@[simp] theorem State.setFrt_latch (s : State) (f : Nat) (x : FieldRt) : (s.setFrt f x).latch = s.latch := rfl
@[simp] theorem State.setFrt_staged (s : State) (f : Nat) (x : FieldRt) : (s.setFrt f x).staged = s.staged := rfl
@[simp] theorem State.setFrt_diesDown (s : State) (f : Nat) (x : FieldRt) : (s.setFrt f x).diesDown = s.diesDown := rfl
@[simp] theorem State.setFrt_mem (s : State) (f : Nat) (x : FieldRt) : (s.setFrt f x).mem = s.mem := rfl
@[simp] theorem State.setFrt_site (s : State) (f : Nat) (x : FieldRt) : (s.setFrt f x).site = s.site := rfl
@[simp] theorem State.setFrt_pcie (s : State) (f : Nat) (x : FieldRt) : (s.setFrt f x).pcie = s.pcie := rfl
@[simp] theorem State.setFrt_par (s : State) (f : Nat) (x : FieldRt) : (s.setFrt f x).par = s.par := rfl
@[simp] theorem State.setFrt_kelk (s : State) (f : Nat) (x : FieldRt) : (s.setFrt f x).kelk = s.kelk := rfl
@[simp] theorem State.setFrt_ring (s : State) (f : Nat) (x : FieldRt) : (s.setFrt f x).ring = s.ring := rfl
@[simp] theorem State.setFrt_llp (s : State) (f : Nat) (x : FieldRt) : (s.setFrt f x).llp = s.llp := rfl
@[simp] theorem State.setFrt_cap (s : State) (f : Nat) (x : FieldRt) : (s.setFrt f x).cap = s.cap := rfl
@[simp] theorem State.setFrt_clk (s : State) (f : Nat) (x : FieldRt) : (s.setFrt f x).clk = s.clk := rfl
@[simp] theorem State.setFrt_mill (s : State) (f : Nat) (x : FieldRt) : (s.setFrt f x).mill = s.mill := rfl
@[simp] theorem State.setFrt_dram (s : State) (f : Nat) (x : FieldRt) : (s.setFrt f x).dram = s.dram := rfl
@[simp] theorem State.setFrt_host (s : State) (f : Nat) (x : FieldRt) : (s.setFrt f x).host = s.host := rfl
@[simp] theorem State.setFrt_cfg (s : State) (f : Nat) (x : FieldRt) : (s.setFrt f x).cfg = s.cfg := rfl
@[simp] theorem State.setFrt_sec (s : State) (f : Nat) (x : FieldRt) : (s.setFrt f x).sec = s.sec := rfl
@[simp] theorem State.setFrt_dbg (s : State) (f : Nat) (x : FieldRt) : (s.setFrt f x).dbg = s.dbg := rfl
@[simp] theorem State.setFrt_fills (s : State) (f : Nat) (x : FieldRt) : (s.setFrt f x).fills = s.fills := rfl
@[simp] theorem State.setFrt_gpio (s : State) (f : Nat) (x : FieldRt) : (s.setFrt f x).gpio = s.gpio := rfl
@[simp] theorem State.setFrt_start (s : State) (f : Nat) (x : FieldRt) : (s.setFrt f x).start = s.start := rfl
@[simp] theorem State.setFrt_cores (s : State) (f : Nat) (x : FieldRt) : (s.setFrt f x).cores = s.cores := rfl
@[simp] theorem State.setFrt_guest (s : State) (f : Nat) (x : FieldRt) : (s.setFrt f x).guest = s.guest := rfl
@[simp] theorem State.setFrt_com (s : State) (f : Nat) (x : FieldRt) : (s.setFrt f x).com = s.com := rfl
@[simp] theorem State.setFrt_ledger (s : State) (f : Nat) (x : FieldRt) : (s.setFrt f x).ledger = s.ledger := rfl
@[simp] theorem State.setFrt_rd (s : State) (f : Nat) (x : FieldRt) (k : Nat) : (s.setFrt f x).rd k = s.rd k := rfl
@[simp] theorem State.setFrt_rf (s : State) (f : Nat) (x : FieldRt) (k : Nat) (fl : Fld) : (s.setFrt f x).rf k fl = s.rf k fl := rfl

/-! ### setChan -/

@[simp] theorem State.setChan_pending (s : State) (f e c : Nat) (x : StileCh) : (s.setChan f e c x).pending = s.pending := rfl
@[simp] theorem State.setChan_part (s : State) (f e c : Nat) (x : StileCh) : (s.setChan f e c x).part = s.part := rfl
@[simp] theorem State.setChan_mode (s : State) (f e c : Nat) (x : StileCh) : (s.setChan f e c x).mode = s.mode := rfl
@[simp] theorem State.setChan_now (s : State) (f e c : Nat) (x : StileCh) : (s.setChan f e c x).now = s.now := rfl
@[simp] theorem State.setChan_ttc (s : State) (f e c : Nat) (x : StileCh) : (s.setChan f e c x).ttc = s.ttc := rfl
@[simp] theorem State.setChan_cal (s : State) (f e c : Nat) (x : StileCh) : (s.setChan f e c x).cal = s.cal := rfl
@[simp] theorem State.setChan_rtc (s : State) (f e c : Nat) (x : StileCh) : (s.setChan f e c x).rtc = s.rtc := rfl
@[simp] theorem State.setChan_free (s : State) (f e c : Nat) (x : StileCh) : (s.setChan f e c x).free = s.free := rfl
@[simp] theorem State.setChan_outs (s : State) (f e c : Nat) (x : StileCh) : (s.setChan f e c x).outs = s.outs := rfl
@[simp] theorem State.setChan_regs (s : State) (f e c : Nat) (x : StileCh) : (s.setChan f e c x).regs = s.regs := rfl
@[simp] theorem State.setChan_latch (s : State) (f e c : Nat) (x : StileCh) : (s.setChan f e c x).latch = s.latch := rfl
@[simp] theorem State.setChan_staged (s : State) (f e c : Nat) (x : StileCh) : (s.setChan f e c x).staged = s.staged := rfl
@[simp] theorem State.setChan_diesDown (s : State) (f e c : Nat) (x : StileCh) : (s.setChan f e c x).diesDown = s.diesDown := rfl
@[simp] theorem State.setChan_mem (s : State) (f e c : Nat) (x : StileCh) : (s.setChan f e c x).mem = s.mem := rfl
@[simp] theorem State.setChan_site (s : State) (f e c : Nat) (x : StileCh) : (s.setChan f e c x).site = s.site := rfl
@[simp] theorem State.setChan_pcie (s : State) (f e c : Nat) (x : StileCh) : (s.setChan f e c x).pcie = s.pcie := rfl
@[simp] theorem State.setChan_par (s : State) (f e c : Nat) (x : StileCh) : (s.setChan f e c x).par = s.par := rfl
@[simp] theorem State.setChan_kelk (s : State) (f e c : Nat) (x : StileCh) : (s.setChan f e c x).kelk = s.kelk := rfl
@[simp] theorem State.setChan_ring (s : State) (f e c : Nat) (x : StileCh) : (s.setChan f e c x).ring = s.ring := rfl
@[simp] theorem State.setChan_llp (s : State) (f e c : Nat) (x : StileCh) : (s.setChan f e c x).llp = s.llp := rfl
@[simp] theorem State.setChan_cap (s : State) (f e c : Nat) (x : StileCh) : (s.setChan f e c x).cap = s.cap := rfl
@[simp] theorem State.setChan_clk (s : State) (f e c : Nat) (x : StileCh) : (s.setChan f e c x).clk = s.clk := rfl
@[simp] theorem State.setChan_mill (s : State) (f e c : Nat) (x : StileCh) : (s.setChan f e c x).mill = s.mill := rfl
@[simp] theorem State.setChan_dram (s : State) (f e c : Nat) (x : StileCh) : (s.setChan f e c x).dram = s.dram := rfl
@[simp] theorem State.setChan_host (s : State) (f e c : Nat) (x : StileCh) : (s.setChan f e c x).host = s.host := rfl
@[simp] theorem State.setChan_cfg (s : State) (f e c : Nat) (x : StileCh) : (s.setChan f e c x).cfg = s.cfg := rfl
@[simp] theorem State.setChan_sec (s : State) (f e c : Nat) (x : StileCh) : (s.setChan f e c x).sec = s.sec := rfl
@[simp] theorem State.setChan_dbg (s : State) (f e c : Nat) (x : StileCh) : (s.setChan f e c x).dbg = s.dbg := rfl
@[simp] theorem State.setChan_fills (s : State) (f e c : Nat) (x : StileCh) : (s.setChan f e c x).fills = s.fills := rfl
@[simp] theorem State.setChan_gpio (s : State) (f e c : Nat) (x : StileCh) : (s.setChan f e c x).gpio = s.gpio := rfl
@[simp] theorem State.setChan_start (s : State) (f e c : Nat) (x : StileCh) : (s.setChan f e c x).start = s.start := rfl
@[simp] theorem State.setChan_cores (s : State) (f e c : Nat) (x : StileCh) : (s.setChan f e c x).cores = s.cores := rfl
@[simp] theorem State.setChan_guest (s : State) (f e c : Nat) (x : StileCh) : (s.setChan f e c x).guest = s.guest := rfl
@[simp] theorem State.setChan_com (s : State) (f e c : Nat) (x : StileCh) : (s.setChan f e c x).com = s.com := rfl
@[simp] theorem State.setChan_ledger (s : State) (f e c : Nat) (x : StileCh) : (s.setChan f e c x).ledger = s.ledger := rfl
@[simp] theorem State.setChan_rd (s : State) (f e c : Nat) (x : StileCh) (k : Nat) : (s.setChan f e c x).rd k = s.rd k := rfl
@[simp] theorem State.setChan_rf (s : State) (f e c : Nat) (x : StileCh) (k : Nat) (fl : Fld) : (s.setChan f e c x).rf k fl = s.rf k fl := rfl

/-! ### setBmSt -/

@[simp] theorem State.setBmSt_pending (s : State) (f b : Nat) (x : BmSt) : (s.setBmSt f b x).pending = s.pending := rfl
@[simp] theorem State.setBmSt_part (s : State) (f b : Nat) (x : BmSt) : (s.setBmSt f b x).part = s.part := rfl
@[simp] theorem State.setBmSt_mode (s : State) (f b : Nat) (x : BmSt) : (s.setBmSt f b x).mode = s.mode := rfl
@[simp] theorem State.setBmSt_now (s : State) (f b : Nat) (x : BmSt) : (s.setBmSt f b x).now = s.now := rfl
@[simp] theorem State.setBmSt_ttc (s : State) (f b : Nat) (x : BmSt) : (s.setBmSt f b x).ttc = s.ttc := rfl
@[simp] theorem State.setBmSt_cal (s : State) (f b : Nat) (x : BmSt) : (s.setBmSt f b x).cal = s.cal := rfl
@[simp] theorem State.setBmSt_rtc (s : State) (f b : Nat) (x : BmSt) : (s.setBmSt f b x).rtc = s.rtc := rfl
@[simp] theorem State.setBmSt_free (s : State) (f b : Nat) (x : BmSt) : (s.setBmSt f b x).free = s.free := rfl
@[simp] theorem State.setBmSt_outs (s : State) (f b : Nat) (x : BmSt) : (s.setBmSt f b x).outs = s.outs := rfl
@[simp] theorem State.setBmSt_regs (s : State) (f b : Nat) (x : BmSt) : (s.setBmSt f b x).regs = s.regs := rfl
@[simp] theorem State.setBmSt_latch (s : State) (f b : Nat) (x : BmSt) : (s.setBmSt f b x).latch = s.latch := rfl
@[simp] theorem State.setBmSt_staged (s : State) (f b : Nat) (x : BmSt) : (s.setBmSt f b x).staged = s.staged := rfl
@[simp] theorem State.setBmSt_diesDown (s : State) (f b : Nat) (x : BmSt) : (s.setBmSt f b x).diesDown = s.diesDown := rfl
@[simp] theorem State.setBmSt_fab (s : State) (f b : Nat) (x : BmSt) : (s.setBmSt f b x).fab = s.fab := rfl
@[simp] theorem State.setBmSt_site (s : State) (f b : Nat) (x : BmSt) : (s.setBmSt f b x).site = s.site := rfl
@[simp] theorem State.setBmSt_pcie (s : State) (f b : Nat) (x : BmSt) : (s.setBmSt f b x).pcie = s.pcie := rfl
@[simp] theorem State.setBmSt_par (s : State) (f b : Nat) (x : BmSt) : (s.setBmSt f b x).par = s.par := rfl
@[simp] theorem State.setBmSt_kelk (s : State) (f b : Nat) (x : BmSt) : (s.setBmSt f b x).kelk = s.kelk := rfl
@[simp] theorem State.setBmSt_ring (s : State) (f b : Nat) (x : BmSt) : (s.setBmSt f b x).ring = s.ring := rfl
@[simp] theorem State.setBmSt_llp (s : State) (f b : Nat) (x : BmSt) : (s.setBmSt f b x).llp = s.llp := rfl
@[simp] theorem State.setBmSt_cap (s : State) (f b : Nat) (x : BmSt) : (s.setBmSt f b x).cap = s.cap := rfl
@[simp] theorem State.setBmSt_clk (s : State) (f b : Nat) (x : BmSt) : (s.setBmSt f b x).clk = s.clk := rfl
@[simp] theorem State.setBmSt_mill (s : State) (f b : Nat) (x : BmSt) : (s.setBmSt f b x).mill = s.mill := rfl
@[simp] theorem State.setBmSt_dram (s : State) (f b : Nat) (x : BmSt) : (s.setBmSt f b x).dram = s.dram := rfl
@[simp] theorem State.setBmSt_host (s : State) (f b : Nat) (x : BmSt) : (s.setBmSt f b x).host = s.host := rfl
@[simp] theorem State.setBmSt_cfg (s : State) (f b : Nat) (x : BmSt) : (s.setBmSt f b x).cfg = s.cfg := rfl
@[simp] theorem State.setBmSt_sec (s : State) (f b : Nat) (x : BmSt) : (s.setBmSt f b x).sec = s.sec := rfl
@[simp] theorem State.setBmSt_dbg (s : State) (f b : Nat) (x : BmSt) : (s.setBmSt f b x).dbg = s.dbg := rfl
@[simp] theorem State.setBmSt_fills (s : State) (f b : Nat) (x : BmSt) : (s.setBmSt f b x).fills = s.fills := rfl
@[simp] theorem State.setBmSt_gpio (s : State) (f b : Nat) (x : BmSt) : (s.setBmSt f b x).gpio = s.gpio := rfl
@[simp] theorem State.setBmSt_start (s : State) (f b : Nat) (x : BmSt) : (s.setBmSt f b x).start = s.start := rfl
@[simp] theorem State.setBmSt_cores (s : State) (f b : Nat) (x : BmSt) : (s.setBmSt f b x).cores = s.cores := rfl
@[simp] theorem State.setBmSt_guest (s : State) (f b : Nat) (x : BmSt) : (s.setBmSt f b x).guest = s.guest := rfl
@[simp] theorem State.setBmSt_com (s : State) (f b : Nat) (x : BmSt) : (s.setBmSt f b x).com = s.com := rfl
@[simp] theorem State.setBmSt_ledger (s : State) (f b : Nat) (x : BmSt) : (s.setBmSt f b x).ledger = s.ledger := rfl
@[simp] theorem State.setBmSt_rd (s : State) (f b : Nat) (x : BmSt) (k : Nat) : (s.setBmSt f b x).rd k = s.rd k := rfl
@[simp] theorem State.setBmSt_rf (s : State) (f b : Nat) (x : BmSt) (k : Nat) (fl : Fld) : (s.setBmSt f b x).rf k fl = s.rf k fl := rfl

/-! ### setGrSt -/

@[simp] theorem State.setGrSt_pending (s : State) (g : Nat) (x : GrSt) : (s.setGrSt g x).pending = s.pending := rfl
@[simp] theorem State.setGrSt_part (s : State) (g : Nat) (x : GrSt) : (s.setGrSt g x).part = s.part := rfl
@[simp] theorem State.setGrSt_mode (s : State) (g : Nat) (x : GrSt) : (s.setGrSt g x).mode = s.mode := rfl
@[simp] theorem State.setGrSt_now (s : State) (g : Nat) (x : GrSt) : (s.setGrSt g x).now = s.now := rfl
@[simp] theorem State.setGrSt_ttc (s : State) (g : Nat) (x : GrSt) : (s.setGrSt g x).ttc = s.ttc := rfl
@[simp] theorem State.setGrSt_cal (s : State) (g : Nat) (x : GrSt) : (s.setGrSt g x).cal = s.cal := rfl
@[simp] theorem State.setGrSt_rtc (s : State) (g : Nat) (x : GrSt) : (s.setGrSt g x).rtc = s.rtc := rfl
@[simp] theorem State.setGrSt_free (s : State) (g : Nat) (x : GrSt) : (s.setGrSt g x).free = s.free := rfl
@[simp] theorem State.setGrSt_outs (s : State) (g : Nat) (x : GrSt) : (s.setGrSt g x).outs = s.outs := rfl
@[simp] theorem State.setGrSt_regs (s : State) (g : Nat) (x : GrSt) : (s.setGrSt g x).regs = s.regs := rfl
@[simp] theorem State.setGrSt_latch (s : State) (g : Nat) (x : GrSt) : (s.setGrSt g x).latch = s.latch := rfl
@[simp] theorem State.setGrSt_staged (s : State) (g : Nat) (x : GrSt) : (s.setGrSt g x).staged = s.staged := rfl
@[simp] theorem State.setGrSt_diesDown (s : State) (g : Nat) (x : GrSt) : (s.setGrSt g x).diesDown = s.diesDown := rfl
@[simp] theorem State.setGrSt_fab (s : State) (g : Nat) (x : GrSt) : (s.setGrSt g x).fab = s.fab := rfl
@[simp] theorem State.setGrSt_site (s : State) (g : Nat) (x : GrSt) : (s.setGrSt g x).site = s.site := rfl
@[simp] theorem State.setGrSt_pcie (s : State) (g : Nat) (x : GrSt) : (s.setGrSt g x).pcie = s.pcie := rfl
@[simp] theorem State.setGrSt_par (s : State) (g : Nat) (x : GrSt) : (s.setGrSt g x).par = s.par := rfl
@[simp] theorem State.setGrSt_kelk (s : State) (g : Nat) (x : GrSt) : (s.setGrSt g x).kelk = s.kelk := rfl
@[simp] theorem State.setGrSt_ring (s : State) (g : Nat) (x : GrSt) : (s.setGrSt g x).ring = s.ring := rfl
@[simp] theorem State.setGrSt_llp (s : State) (g : Nat) (x : GrSt) : (s.setGrSt g x).llp = s.llp := rfl
@[simp] theorem State.setGrSt_cap (s : State) (g : Nat) (x : GrSt) : (s.setGrSt g x).cap = s.cap := rfl
@[simp] theorem State.setGrSt_clk (s : State) (g : Nat) (x : GrSt) : (s.setGrSt g x).clk = s.clk := rfl
@[simp] theorem State.setGrSt_mill (s : State) (g : Nat) (x : GrSt) : (s.setGrSt g x).mill = s.mill := rfl
@[simp] theorem State.setGrSt_dram (s : State) (g : Nat) (x : GrSt) : (s.setGrSt g x).dram = s.dram := rfl
@[simp] theorem State.setGrSt_host (s : State) (g : Nat) (x : GrSt) : (s.setGrSt g x).host = s.host := rfl
@[simp] theorem State.setGrSt_cfg (s : State) (g : Nat) (x : GrSt) : (s.setGrSt g x).cfg = s.cfg := rfl
@[simp] theorem State.setGrSt_sec (s : State) (g : Nat) (x : GrSt) : (s.setGrSt g x).sec = s.sec := rfl
@[simp] theorem State.setGrSt_dbg (s : State) (g : Nat) (x : GrSt) : (s.setGrSt g x).dbg = s.dbg := rfl
@[simp] theorem State.setGrSt_fills (s : State) (g : Nat) (x : GrSt) : (s.setGrSt g x).fills = s.fills := rfl
@[simp] theorem State.setGrSt_gpio (s : State) (g : Nat) (x : GrSt) : (s.setGrSt g x).gpio = s.gpio := rfl
@[simp] theorem State.setGrSt_start (s : State) (g : Nat) (x : GrSt) : (s.setGrSt g x).start = s.start := rfl
@[simp] theorem State.setGrSt_cores (s : State) (g : Nat) (x : GrSt) : (s.setGrSt g x).cores = s.cores := rfl
@[simp] theorem State.setGrSt_guest (s : State) (g : Nat) (x : GrSt) : (s.setGrSt g x).guest = s.guest := rfl
@[simp] theorem State.setGrSt_com (s : State) (g : Nat) (x : GrSt) : (s.setGrSt g x).com = s.com := rfl
@[simp] theorem State.setGrSt_ledger (s : State) (g : Nat) (x : GrSt) : (s.setGrSt g x).ledger = s.ledger := rfl
@[simp] theorem State.setGrSt_rd (s : State) (g : Nat) (x : GrSt) (k : Nat) : (s.setGrSt g x).rd k = s.rd k := rfl
@[simp] theorem State.setGrSt_rf (s : State) (g : Nat) (x : GrSt) (k : Nat) (fl : Fld) : (s.setGrSt g x).rf k fl = s.rf k fl := rfl

/-! ### setLk -/

@[simp] theorem State.setLk_pending (s : State) (l : Nat) (x : LinkSt) : (s.setLk l x).pending = s.pending := rfl
@[simp] theorem State.setLk_part (s : State) (l : Nat) (x : LinkSt) : (s.setLk l x).part = s.part := rfl
@[simp] theorem State.setLk_mode (s : State) (l : Nat) (x : LinkSt) : (s.setLk l x).mode = s.mode := rfl
@[simp] theorem State.setLk_now (s : State) (l : Nat) (x : LinkSt) : (s.setLk l x).now = s.now := rfl
@[simp] theorem State.setLk_ttc (s : State) (l : Nat) (x : LinkSt) : (s.setLk l x).ttc = s.ttc := rfl
@[simp] theorem State.setLk_cal (s : State) (l : Nat) (x : LinkSt) : (s.setLk l x).cal = s.cal := rfl
@[simp] theorem State.setLk_rtc (s : State) (l : Nat) (x : LinkSt) : (s.setLk l x).rtc = s.rtc := rfl
@[simp] theorem State.setLk_free (s : State) (l : Nat) (x : LinkSt) : (s.setLk l x).free = s.free := rfl
@[simp] theorem State.setLk_outs (s : State) (l : Nat) (x : LinkSt) : (s.setLk l x).outs = s.outs := rfl
@[simp] theorem State.setLk_regs (s : State) (l : Nat) (x : LinkSt) : (s.setLk l x).regs = s.regs := rfl
@[simp] theorem State.setLk_latch (s : State) (l : Nat) (x : LinkSt) : (s.setLk l x).latch = s.latch := rfl
@[simp] theorem State.setLk_staged (s : State) (l : Nat) (x : LinkSt) : (s.setLk l x).staged = s.staged := rfl
@[simp] theorem State.setLk_diesDown (s : State) (l : Nat) (x : LinkSt) : (s.setLk l x).diesDown = s.diesDown := rfl
@[simp] theorem State.setLk_fab (s : State) (l : Nat) (x : LinkSt) : (s.setLk l x).fab = s.fab := rfl
@[simp] theorem State.setLk_mem (s : State) (l : Nat) (x : LinkSt) : (s.setLk l x).mem = s.mem := rfl
@[simp] theorem State.setLk_site (s : State) (l : Nat) (x : LinkSt) : (s.setLk l x).site = s.site := rfl
@[simp] theorem State.setLk_pcie (s : State) (l : Nat) (x : LinkSt) : (s.setLk l x).pcie = s.pcie := rfl
@[simp] theorem State.setLk_par (s : State) (l : Nat) (x : LinkSt) : (s.setLk l x).par = s.par := rfl
@[simp] theorem State.setLk_kelk (s : State) (l : Nat) (x : LinkSt) : (s.setLk l x).kelk = s.kelk := rfl
@[simp] theorem State.setLk_ring (s : State) (l : Nat) (x : LinkSt) : (s.setLk l x).ring = s.ring := rfl
@[simp] theorem State.setLk_cap (s : State) (l : Nat) (x : LinkSt) : (s.setLk l x).cap = s.cap := rfl
@[simp] theorem State.setLk_clk (s : State) (l : Nat) (x : LinkSt) : (s.setLk l x).clk = s.clk := rfl
@[simp] theorem State.setLk_mill (s : State) (l : Nat) (x : LinkSt) : (s.setLk l x).mill = s.mill := rfl
@[simp] theorem State.setLk_dram (s : State) (l : Nat) (x : LinkSt) : (s.setLk l x).dram = s.dram := rfl
@[simp] theorem State.setLk_host (s : State) (l : Nat) (x : LinkSt) : (s.setLk l x).host = s.host := rfl
@[simp] theorem State.setLk_cfg (s : State) (l : Nat) (x : LinkSt) : (s.setLk l x).cfg = s.cfg := rfl
@[simp] theorem State.setLk_sec (s : State) (l : Nat) (x : LinkSt) : (s.setLk l x).sec = s.sec := rfl
@[simp] theorem State.setLk_dbg (s : State) (l : Nat) (x : LinkSt) : (s.setLk l x).dbg = s.dbg := rfl
@[simp] theorem State.setLk_fills (s : State) (l : Nat) (x : LinkSt) : (s.setLk l x).fills = s.fills := rfl
@[simp] theorem State.setLk_gpio (s : State) (l : Nat) (x : LinkSt) : (s.setLk l x).gpio = s.gpio := rfl
@[simp] theorem State.setLk_start (s : State) (l : Nat) (x : LinkSt) : (s.setLk l x).start = s.start := rfl
@[simp] theorem State.setLk_cores (s : State) (l : Nat) (x : LinkSt) : (s.setLk l x).cores = s.cores := rfl
@[simp] theorem State.setLk_guest (s : State) (l : Nat) (x : LinkSt) : (s.setLk l x).guest = s.guest := rfl
@[simp] theorem State.setLk_com (s : State) (l : Nat) (x : LinkSt) : (s.setLk l x).com = s.com := rfl
@[simp] theorem State.setLk_ledger (s : State) (l : Nat) (x : LinkSt) : (s.setLk l x).ledger = s.ledger := rfl
@[simp] theorem State.setLk_rd (s : State) (l : Nat) (x : LinkSt) (k : Nat) : (s.setLk l x).rd k = s.rd k := rfl
@[simp] theorem State.setLk_rf (s : State) (l : Nat) (x : LinkSt) (k : Nat) (fl : Fld) : (s.setLk l x).rf k fl = s.rf k fl := rfl

/-! ### setLane -/

@[simp] theorem State.setLane_pending (s : State) (l : Nat) (x : LaneRt) : (s.setLane l x).pending = s.pending := rfl
@[simp] theorem State.setLane_part (s : State) (l : Nat) (x : LaneRt) : (s.setLane l x).part = s.part := rfl
@[simp] theorem State.setLane_mode (s : State) (l : Nat) (x : LaneRt) : (s.setLane l x).mode = s.mode := rfl
@[simp] theorem State.setLane_now (s : State) (l : Nat) (x : LaneRt) : (s.setLane l x).now = s.now := rfl
@[simp] theorem State.setLane_ttc (s : State) (l : Nat) (x : LaneRt) : (s.setLane l x).ttc = s.ttc := rfl
@[simp] theorem State.setLane_cal (s : State) (l : Nat) (x : LaneRt) : (s.setLane l x).cal = s.cal := rfl
@[simp] theorem State.setLane_rtc (s : State) (l : Nat) (x : LaneRt) : (s.setLane l x).rtc = s.rtc := rfl
@[simp] theorem State.setLane_free (s : State) (l : Nat) (x : LaneRt) : (s.setLane l x).free = s.free := rfl
@[simp] theorem State.setLane_outs (s : State) (l : Nat) (x : LaneRt) : (s.setLane l x).outs = s.outs := rfl
@[simp] theorem State.setLane_regs (s : State) (l : Nat) (x : LaneRt) : (s.setLane l x).regs = s.regs := rfl
@[simp] theorem State.setLane_latch (s : State) (l : Nat) (x : LaneRt) : (s.setLane l x).latch = s.latch := rfl
@[simp] theorem State.setLane_staged (s : State) (l : Nat) (x : LaneRt) : (s.setLane l x).staged = s.staged := rfl
@[simp] theorem State.setLane_diesDown (s : State) (l : Nat) (x : LaneRt) : (s.setLane l x).diesDown = s.diesDown := rfl
@[simp] theorem State.setLane_fab (s : State) (l : Nat) (x : LaneRt) : (s.setLane l x).fab = s.fab := rfl
@[simp] theorem State.setLane_mem (s : State) (l : Nat) (x : LaneRt) : (s.setLane l x).mem = s.mem := rfl
@[simp] theorem State.setLane_site (s : State) (l : Nat) (x : LaneRt) : (s.setLane l x).site = s.site := rfl
@[simp] theorem State.setLane_pcie (s : State) (l : Nat) (x : LaneRt) : (s.setLane l x).pcie = s.pcie := rfl
@[simp] theorem State.setLane_par (s : State) (l : Nat) (x : LaneRt) : (s.setLane l x).par = s.par := rfl
@[simp] theorem State.setLane_kelk (s : State) (l : Nat) (x : LaneRt) : (s.setLane l x).kelk = s.kelk := rfl
@[simp] theorem State.setLane_ring (s : State) (l : Nat) (x : LaneRt) : (s.setLane l x).ring = s.ring := rfl
@[simp] theorem State.setLane_cap (s : State) (l : Nat) (x : LaneRt) : (s.setLane l x).cap = s.cap := rfl
@[simp] theorem State.setLane_clk (s : State) (l : Nat) (x : LaneRt) : (s.setLane l x).clk = s.clk := rfl
@[simp] theorem State.setLane_mill (s : State) (l : Nat) (x : LaneRt) : (s.setLane l x).mill = s.mill := rfl
@[simp] theorem State.setLane_dram (s : State) (l : Nat) (x : LaneRt) : (s.setLane l x).dram = s.dram := rfl
@[simp] theorem State.setLane_host (s : State) (l : Nat) (x : LaneRt) : (s.setLane l x).host = s.host := rfl
@[simp] theorem State.setLane_cfg (s : State) (l : Nat) (x : LaneRt) : (s.setLane l x).cfg = s.cfg := rfl
@[simp] theorem State.setLane_sec (s : State) (l : Nat) (x : LaneRt) : (s.setLane l x).sec = s.sec := rfl
@[simp] theorem State.setLane_dbg (s : State) (l : Nat) (x : LaneRt) : (s.setLane l x).dbg = s.dbg := rfl
@[simp] theorem State.setLane_fills (s : State) (l : Nat) (x : LaneRt) : (s.setLane l x).fills = s.fills := rfl
@[simp] theorem State.setLane_gpio (s : State) (l : Nat) (x : LaneRt) : (s.setLane l x).gpio = s.gpio := rfl
@[simp] theorem State.setLane_start (s : State) (l : Nat) (x : LaneRt) : (s.setLane l x).start = s.start := rfl
@[simp] theorem State.setLane_cores (s : State) (l : Nat) (x : LaneRt) : (s.setLane l x).cores = s.cores := rfl
@[simp] theorem State.setLane_guest (s : State) (l : Nat) (x : LaneRt) : (s.setLane l x).guest = s.guest := rfl
@[simp] theorem State.setLane_com (s : State) (l : Nat) (x : LaneRt) : (s.setLane l x).com = s.com := rfl
@[simp] theorem State.setLane_ledger (s : State) (l : Nat) (x : LaneRt) : (s.setLane l x).ledger = s.ledger := rfl
@[simp] theorem State.setLane_rd (s : State) (l : Nat) (x : LaneRt) (k : Nat) : (s.setLane l x).rd k = s.rd k := rfl
@[simp] theorem State.setLane_rf (s : State) (l : Nat) (x : LaneRt) (k : Nat) (fl : Fld) : (s.setLane l x).rf k fl = s.rf k fl := rfl

/-! ### setFcu -/

@[simp] theorem State.setFcu_pending (s : State) (n : Nat) (x : FcuSt) : (s.setFcu n x).pending = s.pending := rfl
@[simp] theorem State.setFcu_part (s : State) (n : Nat) (x : FcuSt) : (s.setFcu n x).part = s.part := rfl
@[simp] theorem State.setFcu_mode (s : State) (n : Nat) (x : FcuSt) : (s.setFcu n x).mode = s.mode := rfl
@[simp] theorem State.setFcu_now (s : State) (n : Nat) (x : FcuSt) : (s.setFcu n x).now = s.now := rfl
@[simp] theorem State.setFcu_ttc (s : State) (n : Nat) (x : FcuSt) : (s.setFcu n x).ttc = s.ttc := rfl
@[simp] theorem State.setFcu_cal (s : State) (n : Nat) (x : FcuSt) : (s.setFcu n x).cal = s.cal := rfl
@[simp] theorem State.setFcu_rtc (s : State) (n : Nat) (x : FcuSt) : (s.setFcu n x).rtc = s.rtc := rfl
@[simp] theorem State.setFcu_free (s : State) (n : Nat) (x : FcuSt) : (s.setFcu n x).free = s.free := rfl
@[simp] theorem State.setFcu_outs (s : State) (n : Nat) (x : FcuSt) : (s.setFcu n x).outs = s.outs := rfl
@[simp] theorem State.setFcu_regs (s : State) (n : Nat) (x : FcuSt) : (s.setFcu n x).regs = s.regs := rfl
@[simp] theorem State.setFcu_latch (s : State) (n : Nat) (x : FcuSt) : (s.setFcu n x).latch = s.latch := rfl
@[simp] theorem State.setFcu_staged (s : State) (n : Nat) (x : FcuSt) : (s.setFcu n x).staged = s.staged := rfl
@[simp] theorem State.setFcu_diesDown (s : State) (n : Nat) (x : FcuSt) : (s.setFcu n x).diesDown = s.diesDown := rfl
@[simp] theorem State.setFcu_fab (s : State) (n : Nat) (x : FcuSt) : (s.setFcu n x).fab = s.fab := rfl
@[simp] theorem State.setFcu_mem (s : State) (n : Nat) (x : FcuSt) : (s.setFcu n x).mem = s.mem := rfl
@[simp] theorem State.setFcu_site (s : State) (n : Nat) (x : FcuSt) : (s.setFcu n x).site = s.site := rfl
@[simp] theorem State.setFcu_pcie (s : State) (n : Nat) (x : FcuSt) : (s.setFcu n x).pcie = s.pcie := rfl
@[simp] theorem State.setFcu_par (s : State) (n : Nat) (x : FcuSt) : (s.setFcu n x).par = s.par := rfl
@[simp] theorem State.setFcu_kelk (s : State) (n : Nat) (x : FcuSt) : (s.setFcu n x).kelk = s.kelk := rfl
@[simp] theorem State.setFcu_ring (s : State) (n : Nat) (x : FcuSt) : (s.setFcu n x).ring = s.ring := rfl
@[simp] theorem State.setFcu_llp (s : State) (n : Nat) (x : FcuSt) : (s.setFcu n x).llp = s.llp := rfl
@[simp] theorem State.setFcu_clk (s : State) (n : Nat) (x : FcuSt) : (s.setFcu n x).clk = s.clk := rfl
@[simp] theorem State.setFcu_mill (s : State) (n : Nat) (x : FcuSt) : (s.setFcu n x).mill = s.mill := rfl
@[simp] theorem State.setFcu_dram (s : State) (n : Nat) (x : FcuSt) : (s.setFcu n x).dram = s.dram := rfl
@[simp] theorem State.setFcu_host (s : State) (n : Nat) (x : FcuSt) : (s.setFcu n x).host = s.host := rfl
@[simp] theorem State.setFcu_cfg (s : State) (n : Nat) (x : FcuSt) : (s.setFcu n x).cfg = s.cfg := rfl
@[simp] theorem State.setFcu_sec (s : State) (n : Nat) (x : FcuSt) : (s.setFcu n x).sec = s.sec := rfl
@[simp] theorem State.setFcu_dbg (s : State) (n : Nat) (x : FcuSt) : (s.setFcu n x).dbg = s.dbg := rfl
@[simp] theorem State.setFcu_fills (s : State) (n : Nat) (x : FcuSt) : (s.setFcu n x).fills = s.fills := rfl
@[simp] theorem State.setFcu_gpio (s : State) (n : Nat) (x : FcuSt) : (s.setFcu n x).gpio = s.gpio := rfl
@[simp] theorem State.setFcu_start (s : State) (n : Nat) (x : FcuSt) : (s.setFcu n x).start = s.start := rfl
@[simp] theorem State.setFcu_cores (s : State) (n : Nat) (x : FcuSt) : (s.setFcu n x).cores = s.cores := rfl
@[simp] theorem State.setFcu_guest (s : State) (n : Nat) (x : FcuSt) : (s.setFcu n x).guest = s.guest := rfl
@[simp] theorem State.setFcu_com (s : State) (n : Nat) (x : FcuSt) : (s.setFcu n x).com = s.com := rfl
@[simp] theorem State.setFcu_ledger (s : State) (n : Nat) (x : FcuSt) : (s.setFcu n x).ledger = s.ledger := rfl
@[simp] theorem State.setFcu_rd (s : State) (n : Nat) (x : FcuSt) (k : Nat) : (s.setFcu n x).rd k = s.rd k := rfl
@[simp] theorem State.setFcu_rf (s : State) (n : Nat) (x : FcuSt) (k : Nat) (fl : Fld) : (s.setFcu n x).rf k fl = s.rf k fl := rfl

/-! ### setTally -/

@[simp] theorem State.setTally_pending (s : State) (g : Nat) (x : TallySt) : (s.setTally g x).pending = s.pending := rfl
@[simp] theorem State.setTally_part (s : State) (g : Nat) (x : TallySt) : (s.setTally g x).part = s.part := rfl
@[simp] theorem State.setTally_mode (s : State) (g : Nat) (x : TallySt) : (s.setTally g x).mode = s.mode := rfl
@[simp] theorem State.setTally_now (s : State) (g : Nat) (x : TallySt) : (s.setTally g x).now = s.now := rfl
@[simp] theorem State.setTally_ttc (s : State) (g : Nat) (x : TallySt) : (s.setTally g x).ttc = s.ttc := rfl
@[simp] theorem State.setTally_cal (s : State) (g : Nat) (x : TallySt) : (s.setTally g x).cal = s.cal := rfl
@[simp] theorem State.setTally_rtc (s : State) (g : Nat) (x : TallySt) : (s.setTally g x).rtc = s.rtc := rfl
@[simp] theorem State.setTally_free (s : State) (g : Nat) (x : TallySt) : (s.setTally g x).free = s.free := rfl
@[simp] theorem State.setTally_outs (s : State) (g : Nat) (x : TallySt) : (s.setTally g x).outs = s.outs := rfl
@[simp] theorem State.setTally_regs (s : State) (g : Nat) (x : TallySt) : (s.setTally g x).regs = s.regs := rfl
@[simp] theorem State.setTally_latch (s : State) (g : Nat) (x : TallySt) : (s.setTally g x).latch = s.latch := rfl
@[simp] theorem State.setTally_staged (s : State) (g : Nat) (x : TallySt) : (s.setTally g x).staged = s.staged := rfl
@[simp] theorem State.setTally_diesDown (s : State) (g : Nat) (x : TallySt) : (s.setTally g x).diesDown = s.diesDown := rfl
@[simp] theorem State.setTally_fab (s : State) (g : Nat) (x : TallySt) : (s.setTally g x).fab = s.fab := rfl
@[simp] theorem State.setTally_mem (s : State) (g : Nat) (x : TallySt) : (s.setTally g x).mem = s.mem := rfl
@[simp] theorem State.setTally_site (s : State) (g : Nat) (x : TallySt) : (s.setTally g x).site = s.site := rfl
@[simp] theorem State.setTally_pcie (s : State) (g : Nat) (x : TallySt) : (s.setTally g x).pcie = s.pcie := rfl
@[simp] theorem State.setTally_par (s : State) (g : Nat) (x : TallySt) : (s.setTally g x).par = s.par := rfl
@[simp] theorem State.setTally_kelk (s : State) (g : Nat) (x : TallySt) : (s.setTally g x).kelk = s.kelk := rfl
@[simp] theorem State.setTally_ring (s : State) (g : Nat) (x : TallySt) : (s.setTally g x).ring = s.ring := rfl
@[simp] theorem State.setTally_llp (s : State) (g : Nat) (x : TallySt) : (s.setTally g x).llp = s.llp := rfl
@[simp] theorem State.setTally_clk (s : State) (g : Nat) (x : TallySt) : (s.setTally g x).clk = s.clk := rfl
@[simp] theorem State.setTally_mill (s : State) (g : Nat) (x : TallySt) : (s.setTally g x).mill = s.mill := rfl
@[simp] theorem State.setTally_dram (s : State) (g : Nat) (x : TallySt) : (s.setTally g x).dram = s.dram := rfl
@[simp] theorem State.setTally_host (s : State) (g : Nat) (x : TallySt) : (s.setTally g x).host = s.host := rfl
@[simp] theorem State.setTally_cfg (s : State) (g : Nat) (x : TallySt) : (s.setTally g x).cfg = s.cfg := rfl
@[simp] theorem State.setTally_sec (s : State) (g : Nat) (x : TallySt) : (s.setTally g x).sec = s.sec := rfl
@[simp] theorem State.setTally_dbg (s : State) (g : Nat) (x : TallySt) : (s.setTally g x).dbg = s.dbg := rfl
@[simp] theorem State.setTally_fills (s : State) (g : Nat) (x : TallySt) : (s.setTally g x).fills = s.fills := rfl
@[simp] theorem State.setTally_gpio (s : State) (g : Nat) (x : TallySt) : (s.setTally g x).gpio = s.gpio := rfl
@[simp] theorem State.setTally_start (s : State) (g : Nat) (x : TallySt) : (s.setTally g x).start = s.start := rfl
@[simp] theorem State.setTally_cores (s : State) (g : Nat) (x : TallySt) : (s.setTally g x).cores = s.cores := rfl
@[simp] theorem State.setTally_guest (s : State) (g : Nat) (x : TallySt) : (s.setTally g x).guest = s.guest := rfl
@[simp] theorem State.setTally_com (s : State) (g : Nat) (x : TallySt) : (s.setTally g x).com = s.com := rfl
@[simp] theorem State.setTally_ledger (s : State) (g : Nat) (x : TallySt) : (s.setTally g x).ledger = s.ledger := rfl
@[simp] theorem State.setTally_rd (s : State) (g : Nat) (x : TallySt) (k : Nat) : (s.setTally g x).rd k = s.rd k := rfl
@[simp] theorem State.setTally_rf (s : State) (g : Nat) (x : TallySt) (k : Nat) (fl : Fld) : (s.setTally g x).rf k fl = s.rf k fl := rfl

/-! ### setRec -/

@[simp] theorem State.setRec_pending (s : State) (k c0 c1 : Nat) : (s.setRec k c0 c1).pending = s.pending := rfl
@[simp] theorem State.setRec_part (s : State) (k c0 c1 : Nat) : (s.setRec k c0 c1).part = s.part := rfl
@[simp] theorem State.setRec_mode (s : State) (k c0 c1 : Nat) : (s.setRec k c0 c1).mode = s.mode := rfl
@[simp] theorem State.setRec_now (s : State) (k c0 c1 : Nat) : (s.setRec k c0 c1).now = s.now := rfl
@[simp] theorem State.setRec_ttc (s : State) (k c0 c1 : Nat) : (s.setRec k c0 c1).ttc = s.ttc := rfl
@[simp] theorem State.setRec_cal (s : State) (k c0 c1 : Nat) : (s.setRec k c0 c1).cal = s.cal := rfl
@[simp] theorem State.setRec_rtc (s : State) (k c0 c1 : Nat) : (s.setRec k c0 c1).rtc = s.rtc := rfl
@[simp] theorem State.setRec_free (s : State) (k c0 c1 : Nat) : (s.setRec k c0 c1).free = s.free := rfl
@[simp] theorem State.setRec_outs (s : State) (k c0 c1 : Nat) : (s.setRec k c0 c1).outs = s.outs := rfl
@[simp] theorem State.setRec_regs (s : State) (k c0 c1 : Nat) : (s.setRec k c0 c1).regs = s.regs := rfl
@[simp] theorem State.setRec_latch (s : State) (k c0 c1 : Nat) : (s.setRec k c0 c1).latch = s.latch := rfl
@[simp] theorem State.setRec_staged (s : State) (k c0 c1 : Nat) : (s.setRec k c0 c1).staged = s.staged := rfl
@[simp] theorem State.setRec_diesDown (s : State) (k c0 c1 : Nat) : (s.setRec k c0 c1).diesDown = s.diesDown := rfl
@[simp] theorem State.setRec_fab (s : State) (k c0 c1 : Nat) : (s.setRec k c0 c1).fab = s.fab := rfl
@[simp] theorem State.setRec_mem (s : State) (k c0 c1 : Nat) : (s.setRec k c0 c1).mem = s.mem := rfl
@[simp] theorem State.setRec_site (s : State) (k c0 c1 : Nat) : (s.setRec k c0 c1).site = s.site := rfl
@[simp] theorem State.setRec_pcie (s : State) (k c0 c1 : Nat) : (s.setRec k c0 c1).pcie = s.pcie := rfl
@[simp] theorem State.setRec_par (s : State) (k c0 c1 : Nat) : (s.setRec k c0 c1).par = s.par := rfl
@[simp] theorem State.setRec_kelk (s : State) (k c0 c1 : Nat) : (s.setRec k c0 c1).kelk = s.kelk := rfl
@[simp] theorem State.setRec_ring (s : State) (k c0 c1 : Nat) : (s.setRec k c0 c1).ring = s.ring := rfl
@[simp] theorem State.setRec_llp (s : State) (k c0 c1 : Nat) : (s.setRec k c0 c1).llp = s.llp := rfl
@[simp] theorem State.setRec_clk (s : State) (k c0 c1 : Nat) : (s.setRec k c0 c1).clk = s.clk := rfl
@[simp] theorem State.setRec_mill (s : State) (k c0 c1 : Nat) : (s.setRec k c0 c1).mill = s.mill := rfl
@[simp] theorem State.setRec_dram (s : State) (k c0 c1 : Nat) : (s.setRec k c0 c1).dram = s.dram := rfl
@[simp] theorem State.setRec_host (s : State) (k c0 c1 : Nat) : (s.setRec k c0 c1).host = s.host := rfl
@[simp] theorem State.setRec_cfg (s : State) (k c0 c1 : Nat) : (s.setRec k c0 c1).cfg = s.cfg := rfl
@[simp] theorem State.setRec_sec (s : State) (k c0 c1 : Nat) : (s.setRec k c0 c1).sec = s.sec := rfl
@[simp] theorem State.setRec_dbg (s : State) (k c0 c1 : Nat) : (s.setRec k c0 c1).dbg = s.dbg := rfl
@[simp] theorem State.setRec_fills (s : State) (k c0 c1 : Nat) : (s.setRec k c0 c1).fills = s.fills := rfl
@[simp] theorem State.setRec_gpio (s : State) (k c0 c1 : Nat) : (s.setRec k c0 c1).gpio = s.gpio := rfl
@[simp] theorem State.setRec_start (s : State) (k c0 c1 : Nat) : (s.setRec k c0 c1).start = s.start := rfl
@[simp] theorem State.setRec_cores (s : State) (k c0 c1 : Nat) : (s.setRec k c0 c1).cores = s.cores := rfl
@[simp] theorem State.setRec_guest (s : State) (k c0 c1 : Nat) : (s.setRec k c0 c1).guest = s.guest := rfl
@[simp] theorem State.setRec_com (s : State) (k c0 c1 : Nat) : (s.setRec k c0 c1).com = s.com := rfl
@[simp] theorem State.setRec_ledger (s : State) (k c0 c1 : Nat) : (s.setRec k c0 c1).ledger = s.ledger := rfl
@[simp] theorem State.setRec_rd (s : State) (k c0 c1 : Nat) (k : Nat) : (s.setRec k c0 c1).rd k = s.rd k := rfl
@[simp] theorem State.setRec_rf (s : State) (k c0 c1 : Nat) (k : Nat) (fl : Fld) : (s.setRec k c0 c1).rf k fl = s.rf k fl := rfl

/-! ### setMat -/

@[simp] theorem State.setMat_pending (s : State) (k : Nat) (v : Bool) : (s.setMat k v).pending = s.pending := rfl
@[simp] theorem State.setMat_part (s : State) (k : Nat) (v : Bool) : (s.setMat k v).part = s.part := rfl
@[simp] theorem State.setMat_mode (s : State) (k : Nat) (v : Bool) : (s.setMat k v).mode = s.mode := rfl
@[simp] theorem State.setMat_now (s : State) (k : Nat) (v : Bool) : (s.setMat k v).now = s.now := rfl
@[simp] theorem State.setMat_ttc (s : State) (k : Nat) (v : Bool) : (s.setMat k v).ttc = s.ttc := rfl
@[simp] theorem State.setMat_cal (s : State) (k : Nat) (v : Bool) : (s.setMat k v).cal = s.cal := rfl
@[simp] theorem State.setMat_rtc (s : State) (k : Nat) (v : Bool) : (s.setMat k v).rtc = s.rtc := rfl
@[simp] theorem State.setMat_free (s : State) (k : Nat) (v : Bool) : (s.setMat k v).free = s.free := rfl
@[simp] theorem State.setMat_outs (s : State) (k : Nat) (v : Bool) : (s.setMat k v).outs = s.outs := rfl
@[simp] theorem State.setMat_regs (s : State) (k : Nat) (v : Bool) : (s.setMat k v).regs = s.regs := rfl
@[simp] theorem State.setMat_latch (s : State) (k : Nat) (v : Bool) : (s.setMat k v).latch = s.latch := rfl
@[simp] theorem State.setMat_staged (s : State) (k : Nat) (v : Bool) : (s.setMat k v).staged = s.staged := rfl
@[simp] theorem State.setMat_diesDown (s : State) (k : Nat) (v : Bool) : (s.setMat k v).diesDown = s.diesDown := rfl
@[simp] theorem State.setMat_fab (s : State) (k : Nat) (v : Bool) : (s.setMat k v).fab = s.fab := rfl
@[simp] theorem State.setMat_mem (s : State) (k : Nat) (v : Bool) : (s.setMat k v).mem = s.mem := rfl
@[simp] theorem State.setMat_site (s : State) (k : Nat) (v : Bool) : (s.setMat k v).site = s.site := rfl
@[simp] theorem State.setMat_pcie (s : State) (k : Nat) (v : Bool) : (s.setMat k v).pcie = s.pcie := rfl
@[simp] theorem State.setMat_par (s : State) (k : Nat) (v : Bool) : (s.setMat k v).par = s.par := rfl
@[simp] theorem State.setMat_kelk (s : State) (k : Nat) (v : Bool) : (s.setMat k v).kelk = s.kelk := rfl
@[simp] theorem State.setMat_ring (s : State) (k : Nat) (v : Bool) : (s.setMat k v).ring = s.ring := rfl
@[simp] theorem State.setMat_llp (s : State) (k : Nat) (v : Bool) : (s.setMat k v).llp = s.llp := rfl
@[simp] theorem State.setMat_clk (s : State) (k : Nat) (v : Bool) : (s.setMat k v).clk = s.clk := rfl
@[simp] theorem State.setMat_mill (s : State) (k : Nat) (v : Bool) : (s.setMat k v).mill = s.mill := rfl
@[simp] theorem State.setMat_dram (s : State) (k : Nat) (v : Bool) : (s.setMat k v).dram = s.dram := rfl
@[simp] theorem State.setMat_host (s : State) (k : Nat) (v : Bool) : (s.setMat k v).host = s.host := rfl
@[simp] theorem State.setMat_cfg (s : State) (k : Nat) (v : Bool) : (s.setMat k v).cfg = s.cfg := rfl
@[simp] theorem State.setMat_sec (s : State) (k : Nat) (v : Bool) : (s.setMat k v).sec = s.sec := rfl
@[simp] theorem State.setMat_dbg (s : State) (k : Nat) (v : Bool) : (s.setMat k v).dbg = s.dbg := rfl
@[simp] theorem State.setMat_fills (s : State) (k : Nat) (v : Bool) : (s.setMat k v).fills = s.fills := rfl
@[simp] theorem State.setMat_gpio (s : State) (k : Nat) (v : Bool) : (s.setMat k v).gpio = s.gpio := rfl
@[simp] theorem State.setMat_start (s : State) (k : Nat) (v : Bool) : (s.setMat k v).start = s.start := rfl
@[simp] theorem State.setMat_cores (s : State) (k : Nat) (v : Bool) : (s.setMat k v).cores = s.cores := rfl
@[simp] theorem State.setMat_guest (s : State) (k : Nat) (v : Bool) : (s.setMat k v).guest = s.guest := rfl
@[simp] theorem State.setMat_com (s : State) (k : Nat) (v : Bool) : (s.setMat k v).com = s.com := rfl
@[simp] theorem State.setMat_ledger (s : State) (k : Nat) (v : Bool) : (s.setMat k v).ledger = s.ledger := rfl
@[simp] theorem State.setMat_rd (s : State) (k : Nat) (v : Bool) (k : Nat) : (s.setMat k v).rd k = s.rd k := rfl
@[simp] theorem State.setMat_rf (s : State) (k : Nat) (v : Bool) (k : Nat) (fl : Fld) : (s.setMat k v).rf k fl = s.rf k fl := rfl

/-! ### setMill -/

@[simp] theorem State.setMill_pending (s : State) (e : Nat) (x : MillSt) : (s.setMill e x).pending = s.pending := rfl
@[simp] theorem State.setMill_part (s : State) (e : Nat) (x : MillSt) : (s.setMill e x).part = s.part := rfl
@[simp] theorem State.setMill_mode (s : State) (e : Nat) (x : MillSt) : (s.setMill e x).mode = s.mode := rfl
@[simp] theorem State.setMill_now (s : State) (e : Nat) (x : MillSt) : (s.setMill e x).now = s.now := rfl
@[simp] theorem State.setMill_ttc (s : State) (e : Nat) (x : MillSt) : (s.setMill e x).ttc = s.ttc := rfl
@[simp] theorem State.setMill_cal (s : State) (e : Nat) (x : MillSt) : (s.setMill e x).cal = s.cal := rfl
@[simp] theorem State.setMill_rtc (s : State) (e : Nat) (x : MillSt) : (s.setMill e x).rtc = s.rtc := rfl
@[simp] theorem State.setMill_free (s : State) (e : Nat) (x : MillSt) : (s.setMill e x).free = s.free := rfl
@[simp] theorem State.setMill_outs (s : State) (e : Nat) (x : MillSt) : (s.setMill e x).outs = s.outs := rfl
@[simp] theorem State.setMill_regs (s : State) (e : Nat) (x : MillSt) : (s.setMill e x).regs = s.regs := rfl
@[simp] theorem State.setMill_latch (s : State) (e : Nat) (x : MillSt) : (s.setMill e x).latch = s.latch := rfl
@[simp] theorem State.setMill_staged (s : State) (e : Nat) (x : MillSt) : (s.setMill e x).staged = s.staged := rfl
@[simp] theorem State.setMill_diesDown (s : State) (e : Nat) (x : MillSt) : (s.setMill e x).diesDown = s.diesDown := rfl
@[simp] theorem State.setMill_fab (s : State) (e : Nat) (x : MillSt) : (s.setMill e x).fab = s.fab := rfl
@[simp] theorem State.setMill_mem (s : State) (e : Nat) (x : MillSt) : (s.setMill e x).mem = s.mem := rfl
@[simp] theorem State.setMill_site (s : State) (e : Nat) (x : MillSt) : (s.setMill e x).site = s.site := rfl
@[simp] theorem State.setMill_pcie (s : State) (e : Nat) (x : MillSt) : (s.setMill e x).pcie = s.pcie := rfl
@[simp] theorem State.setMill_par (s : State) (e : Nat) (x : MillSt) : (s.setMill e x).par = s.par := rfl
@[simp] theorem State.setMill_kelk (s : State) (e : Nat) (x : MillSt) : (s.setMill e x).kelk = s.kelk := rfl
@[simp] theorem State.setMill_ring (s : State) (e : Nat) (x : MillSt) : (s.setMill e x).ring = s.ring := rfl
@[simp] theorem State.setMill_llp (s : State) (e : Nat) (x : MillSt) : (s.setMill e x).llp = s.llp := rfl
@[simp] theorem State.setMill_cap (s : State) (e : Nat) (x : MillSt) : (s.setMill e x).cap = s.cap := rfl
@[simp] theorem State.setMill_clk (s : State) (e : Nat) (x : MillSt) : (s.setMill e x).clk = s.clk := rfl
@[simp] theorem State.setMill_dram (s : State) (e : Nat) (x : MillSt) : (s.setMill e x).dram = s.dram := rfl
@[simp] theorem State.setMill_host (s : State) (e : Nat) (x : MillSt) : (s.setMill e x).host = s.host := rfl
@[simp] theorem State.setMill_cfg (s : State) (e : Nat) (x : MillSt) : (s.setMill e x).cfg = s.cfg := rfl
@[simp] theorem State.setMill_sec (s : State) (e : Nat) (x : MillSt) : (s.setMill e x).sec = s.sec := rfl
@[simp] theorem State.setMill_dbg (s : State) (e : Nat) (x : MillSt) : (s.setMill e x).dbg = s.dbg := rfl
@[simp] theorem State.setMill_fills (s : State) (e : Nat) (x : MillSt) : (s.setMill e x).fills = s.fills := rfl
@[simp] theorem State.setMill_gpio (s : State) (e : Nat) (x : MillSt) : (s.setMill e x).gpio = s.gpio := rfl
@[simp] theorem State.setMill_start (s : State) (e : Nat) (x : MillSt) : (s.setMill e x).start = s.start := rfl
@[simp] theorem State.setMill_cores (s : State) (e : Nat) (x : MillSt) : (s.setMill e x).cores = s.cores := rfl
@[simp] theorem State.setMill_guest (s : State) (e : Nat) (x : MillSt) : (s.setMill e x).guest = s.guest := rfl
@[simp] theorem State.setMill_com (s : State) (e : Nat) (x : MillSt) : (s.setMill e x).com = s.com := rfl
@[simp] theorem State.setMill_ledger (s : State) (e : Nat) (x : MillSt) : (s.setMill e x).ledger = s.ledger := rfl
@[simp] theorem State.setMill_rd (s : State) (e : Nat) (x : MillSt) (k : Nat) : (s.setMill e x).rd k = s.rd k := rfl
@[simp] theorem State.setMill_rf (s : State) (e : Nat) (x : MillSt) (k : Nat) (fl : Fld) : (s.setMill e x).rf k fl = s.rf k fl := rfl

/-! ### setDdr -/

@[simp] theorem State.setDdr_pending (s : State) (c : Nat) (x : DdrSt) : (s.setDdr c x).pending = s.pending := rfl
@[simp] theorem State.setDdr_part (s : State) (c : Nat) (x : DdrSt) : (s.setDdr c x).part = s.part := rfl
@[simp] theorem State.setDdr_mode (s : State) (c : Nat) (x : DdrSt) : (s.setDdr c x).mode = s.mode := rfl
@[simp] theorem State.setDdr_now (s : State) (c : Nat) (x : DdrSt) : (s.setDdr c x).now = s.now := rfl
@[simp] theorem State.setDdr_ttc (s : State) (c : Nat) (x : DdrSt) : (s.setDdr c x).ttc = s.ttc := rfl
@[simp] theorem State.setDdr_cal (s : State) (c : Nat) (x : DdrSt) : (s.setDdr c x).cal = s.cal := rfl
@[simp] theorem State.setDdr_rtc (s : State) (c : Nat) (x : DdrSt) : (s.setDdr c x).rtc = s.rtc := rfl
@[simp] theorem State.setDdr_free (s : State) (c : Nat) (x : DdrSt) : (s.setDdr c x).free = s.free := rfl
@[simp] theorem State.setDdr_outs (s : State) (c : Nat) (x : DdrSt) : (s.setDdr c x).outs = s.outs := rfl
@[simp] theorem State.setDdr_regs (s : State) (c : Nat) (x : DdrSt) : (s.setDdr c x).regs = s.regs := rfl
@[simp] theorem State.setDdr_latch (s : State) (c : Nat) (x : DdrSt) : (s.setDdr c x).latch = s.latch := rfl
@[simp] theorem State.setDdr_staged (s : State) (c : Nat) (x : DdrSt) : (s.setDdr c x).staged = s.staged := rfl
@[simp] theorem State.setDdr_diesDown (s : State) (c : Nat) (x : DdrSt) : (s.setDdr c x).diesDown = s.diesDown := rfl
@[simp] theorem State.setDdr_fab (s : State) (c : Nat) (x : DdrSt) : (s.setDdr c x).fab = s.fab := rfl
@[simp] theorem State.setDdr_mem (s : State) (c : Nat) (x : DdrSt) : (s.setDdr c x).mem = s.mem := rfl
@[simp] theorem State.setDdr_site (s : State) (c : Nat) (x : DdrSt) : (s.setDdr c x).site = s.site := rfl
@[simp] theorem State.setDdr_pcie (s : State) (c : Nat) (x : DdrSt) : (s.setDdr c x).pcie = s.pcie := rfl
@[simp] theorem State.setDdr_par (s : State) (c : Nat) (x : DdrSt) : (s.setDdr c x).par = s.par := rfl
@[simp] theorem State.setDdr_kelk (s : State) (c : Nat) (x : DdrSt) : (s.setDdr c x).kelk = s.kelk := rfl
@[simp] theorem State.setDdr_ring (s : State) (c : Nat) (x : DdrSt) : (s.setDdr c x).ring = s.ring := rfl
@[simp] theorem State.setDdr_llp (s : State) (c : Nat) (x : DdrSt) : (s.setDdr c x).llp = s.llp := rfl
@[simp] theorem State.setDdr_cap (s : State) (c : Nat) (x : DdrSt) : (s.setDdr c x).cap = s.cap := rfl
@[simp] theorem State.setDdr_clk (s : State) (c : Nat) (x : DdrSt) : (s.setDdr c x).clk = s.clk := rfl
@[simp] theorem State.setDdr_mill (s : State) (c : Nat) (x : DdrSt) : (s.setDdr c x).mill = s.mill := rfl
@[simp] theorem State.setDdr_host (s : State) (c : Nat) (x : DdrSt) : (s.setDdr c x).host = s.host := rfl
@[simp] theorem State.setDdr_cfg (s : State) (c : Nat) (x : DdrSt) : (s.setDdr c x).cfg = s.cfg := rfl
@[simp] theorem State.setDdr_sec (s : State) (c : Nat) (x : DdrSt) : (s.setDdr c x).sec = s.sec := rfl
@[simp] theorem State.setDdr_dbg (s : State) (c : Nat) (x : DdrSt) : (s.setDdr c x).dbg = s.dbg := rfl
@[simp] theorem State.setDdr_fills (s : State) (c : Nat) (x : DdrSt) : (s.setDdr c x).fills = s.fills := rfl
@[simp] theorem State.setDdr_gpio (s : State) (c : Nat) (x : DdrSt) : (s.setDdr c x).gpio = s.gpio := rfl
@[simp] theorem State.setDdr_start (s : State) (c : Nat) (x : DdrSt) : (s.setDdr c x).start = s.start := rfl
@[simp] theorem State.setDdr_cores (s : State) (c : Nat) (x : DdrSt) : (s.setDdr c x).cores = s.cores := rfl
@[simp] theorem State.setDdr_guest (s : State) (c : Nat) (x : DdrSt) : (s.setDdr c x).guest = s.guest := rfl
@[simp] theorem State.setDdr_com (s : State) (c : Nat) (x : DdrSt) : (s.setDdr c x).com = s.com := rfl
@[simp] theorem State.setDdr_ledger (s : State) (c : Nat) (x : DdrSt) : (s.setDdr c x).ledger = s.ledger := rfl
@[simp] theorem State.setDdr_rd (s : State) (c : Nat) (x : DdrSt) (k : Nat) : (s.setDdr c x).rd k = s.rd k := rfl
@[simp] theorem State.setDdr_rf (s : State) (c : Nat) (x : DdrSt) (k : Nat) (fl : Fld) : (s.setDdr c x).rf k fl = s.rf k fl := rfl

/-! ### storeLine -/

@[simp] theorem State.storeLine_pending (s : State) (c line : Nat) (x : DLine) : (s.storeLine c line x).pending = s.pending := rfl
@[simp] theorem State.storeLine_part (s : State) (c line : Nat) (x : DLine) : (s.storeLine c line x).part = s.part := rfl
@[simp] theorem State.storeLine_mode (s : State) (c line : Nat) (x : DLine) : (s.storeLine c line x).mode = s.mode := rfl
@[simp] theorem State.storeLine_now (s : State) (c line : Nat) (x : DLine) : (s.storeLine c line x).now = s.now := rfl
@[simp] theorem State.storeLine_ttc (s : State) (c line : Nat) (x : DLine) : (s.storeLine c line x).ttc = s.ttc := rfl
@[simp] theorem State.storeLine_cal (s : State) (c line : Nat) (x : DLine) : (s.storeLine c line x).cal = s.cal := rfl
@[simp] theorem State.storeLine_rtc (s : State) (c line : Nat) (x : DLine) : (s.storeLine c line x).rtc = s.rtc := rfl
@[simp] theorem State.storeLine_free (s : State) (c line : Nat) (x : DLine) : (s.storeLine c line x).free = s.free := rfl
@[simp] theorem State.storeLine_outs (s : State) (c line : Nat) (x : DLine) : (s.storeLine c line x).outs = s.outs := rfl
@[simp] theorem State.storeLine_regs (s : State) (c line : Nat) (x : DLine) : (s.storeLine c line x).regs = s.regs := rfl
@[simp] theorem State.storeLine_latch (s : State) (c line : Nat) (x : DLine) : (s.storeLine c line x).latch = s.latch := rfl
@[simp] theorem State.storeLine_staged (s : State) (c line : Nat) (x : DLine) : (s.storeLine c line x).staged = s.staged := rfl
@[simp] theorem State.storeLine_diesDown (s : State) (c line : Nat) (x : DLine) : (s.storeLine c line x).diesDown = s.diesDown := rfl
@[simp] theorem State.storeLine_fab (s : State) (c line : Nat) (x : DLine) : (s.storeLine c line x).fab = s.fab := rfl
@[simp] theorem State.storeLine_mem (s : State) (c line : Nat) (x : DLine) : (s.storeLine c line x).mem = s.mem := rfl
@[simp] theorem State.storeLine_site (s : State) (c line : Nat) (x : DLine) : (s.storeLine c line x).site = s.site := rfl
@[simp] theorem State.storeLine_pcie (s : State) (c line : Nat) (x : DLine) : (s.storeLine c line x).pcie = s.pcie := rfl
@[simp] theorem State.storeLine_par (s : State) (c line : Nat) (x : DLine) : (s.storeLine c line x).par = s.par := rfl
@[simp] theorem State.storeLine_kelk (s : State) (c line : Nat) (x : DLine) : (s.storeLine c line x).kelk = s.kelk := rfl
@[simp] theorem State.storeLine_ring (s : State) (c line : Nat) (x : DLine) : (s.storeLine c line x).ring = s.ring := rfl
@[simp] theorem State.storeLine_llp (s : State) (c line : Nat) (x : DLine) : (s.storeLine c line x).llp = s.llp := rfl
@[simp] theorem State.storeLine_cap (s : State) (c line : Nat) (x : DLine) : (s.storeLine c line x).cap = s.cap := rfl
@[simp] theorem State.storeLine_clk (s : State) (c line : Nat) (x : DLine) : (s.storeLine c line x).clk = s.clk := rfl
@[simp] theorem State.storeLine_mill (s : State) (c line : Nat) (x : DLine) : (s.storeLine c line x).mill = s.mill := rfl
@[simp] theorem State.storeLine_host (s : State) (c line : Nat) (x : DLine) : (s.storeLine c line x).host = s.host := rfl
@[simp] theorem State.storeLine_cfg (s : State) (c line : Nat) (x : DLine) : (s.storeLine c line x).cfg = s.cfg := rfl
@[simp] theorem State.storeLine_sec (s : State) (c line : Nat) (x : DLine) : (s.storeLine c line x).sec = s.sec := rfl
@[simp] theorem State.storeLine_dbg (s : State) (c line : Nat) (x : DLine) : (s.storeLine c line x).dbg = s.dbg := rfl
@[simp] theorem State.storeLine_fills (s : State) (c line : Nat) (x : DLine) : (s.storeLine c line x).fills = s.fills := rfl
@[simp] theorem State.storeLine_gpio (s : State) (c line : Nat) (x : DLine) : (s.storeLine c line x).gpio = s.gpio := rfl
@[simp] theorem State.storeLine_start (s : State) (c line : Nat) (x : DLine) : (s.storeLine c line x).start = s.start := rfl
@[simp] theorem State.storeLine_cores (s : State) (c line : Nat) (x : DLine) : (s.storeLine c line x).cores = s.cores := rfl
@[simp] theorem State.storeLine_guest (s : State) (c line : Nat) (x : DLine) : (s.storeLine c line x).guest = s.guest := rfl
@[simp] theorem State.storeLine_com (s : State) (c line : Nat) (x : DLine) : (s.storeLine c line x).com = s.com := rfl
@[simp] theorem State.storeLine_ledger (s : State) (c line : Nat) (x : DLine) : (s.storeLine c line x).ledger = s.ledger := rfl
@[simp] theorem State.storeLine_rd (s : State) (c line : Nat) (x : DLine) (k : Nat) : (s.storeLine c line x).rd k = s.rd k := rfl
@[simp] theorem State.storeLine_rf (s : State) (c line : Nat) (x : DLine) (k : Nat) (fl : Fld) : (s.storeLine c line x).rf k fl = s.rf k fl := rfl

/-! ### setFilled -/

@[simp] theorem State.setFilled_pending (s : State) (c blk : Nat) : (s.setFilled c blk).pending = s.pending := rfl
@[simp] theorem State.setFilled_part (s : State) (c blk : Nat) : (s.setFilled c blk).part = s.part := rfl
@[simp] theorem State.setFilled_mode (s : State) (c blk : Nat) : (s.setFilled c blk).mode = s.mode := rfl
@[simp] theorem State.setFilled_now (s : State) (c blk : Nat) : (s.setFilled c blk).now = s.now := rfl
@[simp] theorem State.setFilled_ttc (s : State) (c blk : Nat) : (s.setFilled c blk).ttc = s.ttc := rfl
@[simp] theorem State.setFilled_cal (s : State) (c blk : Nat) : (s.setFilled c blk).cal = s.cal := rfl
@[simp] theorem State.setFilled_rtc (s : State) (c blk : Nat) : (s.setFilled c blk).rtc = s.rtc := rfl
@[simp] theorem State.setFilled_free (s : State) (c blk : Nat) : (s.setFilled c blk).free = s.free := rfl
@[simp] theorem State.setFilled_outs (s : State) (c blk : Nat) : (s.setFilled c blk).outs = s.outs := rfl
@[simp] theorem State.setFilled_regs (s : State) (c blk : Nat) : (s.setFilled c blk).regs = s.regs := rfl
@[simp] theorem State.setFilled_latch (s : State) (c blk : Nat) : (s.setFilled c blk).latch = s.latch := rfl
@[simp] theorem State.setFilled_staged (s : State) (c blk : Nat) : (s.setFilled c blk).staged = s.staged := rfl
@[simp] theorem State.setFilled_diesDown (s : State) (c blk : Nat) : (s.setFilled c blk).diesDown = s.diesDown := rfl
@[simp] theorem State.setFilled_fab (s : State) (c blk : Nat) : (s.setFilled c blk).fab = s.fab := rfl
@[simp] theorem State.setFilled_mem (s : State) (c blk : Nat) : (s.setFilled c blk).mem = s.mem := rfl
@[simp] theorem State.setFilled_site (s : State) (c blk : Nat) : (s.setFilled c blk).site = s.site := rfl
@[simp] theorem State.setFilled_pcie (s : State) (c blk : Nat) : (s.setFilled c blk).pcie = s.pcie := rfl
@[simp] theorem State.setFilled_par (s : State) (c blk : Nat) : (s.setFilled c blk).par = s.par := rfl
@[simp] theorem State.setFilled_kelk (s : State) (c blk : Nat) : (s.setFilled c blk).kelk = s.kelk := rfl
@[simp] theorem State.setFilled_ring (s : State) (c blk : Nat) : (s.setFilled c blk).ring = s.ring := rfl
@[simp] theorem State.setFilled_llp (s : State) (c blk : Nat) : (s.setFilled c blk).llp = s.llp := rfl
@[simp] theorem State.setFilled_cap (s : State) (c blk : Nat) : (s.setFilled c blk).cap = s.cap := rfl
@[simp] theorem State.setFilled_clk (s : State) (c blk : Nat) : (s.setFilled c blk).clk = s.clk := rfl
@[simp] theorem State.setFilled_mill (s : State) (c blk : Nat) : (s.setFilled c blk).mill = s.mill := rfl
@[simp] theorem State.setFilled_host (s : State) (c blk : Nat) : (s.setFilled c blk).host = s.host := rfl
@[simp] theorem State.setFilled_cfg (s : State) (c blk : Nat) : (s.setFilled c blk).cfg = s.cfg := rfl
@[simp] theorem State.setFilled_sec (s : State) (c blk : Nat) : (s.setFilled c blk).sec = s.sec := rfl
@[simp] theorem State.setFilled_dbg (s : State) (c blk : Nat) : (s.setFilled c blk).dbg = s.dbg := rfl
@[simp] theorem State.setFilled_fills (s : State) (c blk : Nat) : (s.setFilled c blk).fills = s.fills := rfl
@[simp] theorem State.setFilled_gpio (s : State) (c blk : Nat) : (s.setFilled c blk).gpio = s.gpio := rfl
@[simp] theorem State.setFilled_start (s : State) (c blk : Nat) : (s.setFilled c blk).start = s.start := rfl
@[simp] theorem State.setFilled_cores (s : State) (c blk : Nat) : (s.setFilled c blk).cores = s.cores := rfl
@[simp] theorem State.setFilled_guest (s : State) (c blk : Nat) : (s.setFilled c blk).guest = s.guest := rfl
@[simp] theorem State.setFilled_com (s : State) (c blk : Nat) : (s.setFilled c blk).com = s.com := rfl
@[simp] theorem State.setFilled_ledger (s : State) (c blk : Nat) : (s.setFilled c blk).ledger = s.ledger := rfl
@[simp] theorem State.setFilled_rd (s : State) (c blk : Nat) (k : Nat) : (s.setFilled c blk).rd k = s.rd k := rfl
@[simp] theorem State.setFilled_rf (s : State) (c blk : Nat) (k : Nat) (fl : Fld) : (s.setFilled c blk).rf k fl = s.rf k fl := rfl

/-! ### setSrt -/

@[simp] theorem State.setSrt_pending (s : State) (n : Nat) (x : SiteRt) : (s.setSrt n x).pending = s.pending := rfl
@[simp] theorem State.setSrt_part (s : State) (n : Nat) (x : SiteRt) : (s.setSrt n x).part = s.part := rfl
@[simp] theorem State.setSrt_mode (s : State) (n : Nat) (x : SiteRt) : (s.setSrt n x).mode = s.mode := rfl
@[simp] theorem State.setSrt_now (s : State) (n : Nat) (x : SiteRt) : (s.setSrt n x).now = s.now := rfl
@[simp] theorem State.setSrt_ttc (s : State) (n : Nat) (x : SiteRt) : (s.setSrt n x).ttc = s.ttc := rfl
@[simp] theorem State.setSrt_cal (s : State) (n : Nat) (x : SiteRt) : (s.setSrt n x).cal = s.cal := rfl
@[simp] theorem State.setSrt_rtc (s : State) (n : Nat) (x : SiteRt) : (s.setSrt n x).rtc = s.rtc := rfl
@[simp] theorem State.setSrt_free (s : State) (n : Nat) (x : SiteRt) : (s.setSrt n x).free = s.free := rfl
@[simp] theorem State.setSrt_outs (s : State) (n : Nat) (x : SiteRt) : (s.setSrt n x).outs = s.outs := rfl
@[simp] theorem State.setSrt_regs (s : State) (n : Nat) (x : SiteRt) : (s.setSrt n x).regs = s.regs := rfl
@[simp] theorem State.setSrt_latch (s : State) (n : Nat) (x : SiteRt) : (s.setSrt n x).latch = s.latch := rfl
@[simp] theorem State.setSrt_staged (s : State) (n : Nat) (x : SiteRt) : (s.setSrt n x).staged = s.staged := rfl
@[simp] theorem State.setSrt_diesDown (s : State) (n : Nat) (x : SiteRt) : (s.setSrt n x).diesDown = s.diesDown := rfl
@[simp] theorem State.setSrt_fab (s : State) (n : Nat) (x : SiteRt) : (s.setSrt n x).fab = s.fab := rfl
@[simp] theorem State.setSrt_mem (s : State) (n : Nat) (x : SiteRt) : (s.setSrt n x).mem = s.mem := rfl
@[simp] theorem State.setSrt_pcie (s : State) (n : Nat) (x : SiteRt) : (s.setSrt n x).pcie = s.pcie := rfl
@[simp] theorem State.setSrt_par (s : State) (n : Nat) (x : SiteRt) : (s.setSrt n x).par = s.par := rfl
@[simp] theorem State.setSrt_kelk (s : State) (n : Nat) (x : SiteRt) : (s.setSrt n x).kelk = s.kelk := rfl
@[simp] theorem State.setSrt_ring (s : State) (n : Nat) (x : SiteRt) : (s.setSrt n x).ring = s.ring := rfl
@[simp] theorem State.setSrt_llp (s : State) (n : Nat) (x : SiteRt) : (s.setSrt n x).llp = s.llp := rfl
@[simp] theorem State.setSrt_cap (s : State) (n : Nat) (x : SiteRt) : (s.setSrt n x).cap = s.cap := rfl
@[simp] theorem State.setSrt_clk (s : State) (n : Nat) (x : SiteRt) : (s.setSrt n x).clk = s.clk := rfl
@[simp] theorem State.setSrt_mill (s : State) (n : Nat) (x : SiteRt) : (s.setSrt n x).mill = s.mill := rfl
@[simp] theorem State.setSrt_dram (s : State) (n : Nat) (x : SiteRt) : (s.setSrt n x).dram = s.dram := rfl
@[simp] theorem State.setSrt_host (s : State) (n : Nat) (x : SiteRt) : (s.setSrt n x).host = s.host := rfl
@[simp] theorem State.setSrt_cfg (s : State) (n : Nat) (x : SiteRt) : (s.setSrt n x).cfg = s.cfg := rfl
@[simp] theorem State.setSrt_sec (s : State) (n : Nat) (x : SiteRt) : (s.setSrt n x).sec = s.sec := rfl
@[simp] theorem State.setSrt_dbg (s : State) (n : Nat) (x : SiteRt) : (s.setSrt n x).dbg = s.dbg := rfl
@[simp] theorem State.setSrt_fills (s : State) (n : Nat) (x : SiteRt) : (s.setSrt n x).fills = s.fills := rfl
@[simp] theorem State.setSrt_gpio (s : State) (n : Nat) (x : SiteRt) : (s.setSrt n x).gpio = s.gpio := rfl
@[simp] theorem State.setSrt_start (s : State) (n : Nat) (x : SiteRt) : (s.setSrt n x).start = s.start := rfl
@[simp] theorem State.setSrt_cores (s : State) (n : Nat) (x : SiteRt) : (s.setSrt n x).cores = s.cores := rfl
@[simp] theorem State.setSrt_guest (s : State) (n : Nat) (x : SiteRt) : (s.setSrt n x).guest = s.guest := rfl
@[simp] theorem State.setSrt_com (s : State) (n : Nat) (x : SiteRt) : (s.setSrt n x).com = s.com := rfl
@[simp] theorem State.setSrt_ledger (s : State) (n : Nat) (x : SiteRt) : (s.setSrt n x).ledger = s.ledger := rfl
@[simp] theorem State.setSrt_rd (s : State) (n : Nat) (x : SiteRt) (k : Nat) : (s.setSrt n x).rd k = s.rd k := rfl
@[simp] theorem State.setSrt_rf (s : State) (n : Nat) (x : SiteRt) (k : Nat) (fl : Fld) : (s.setSrt n x).rf k fl = s.rf k fl := rfl

/-! ### setDma -/

@[simp] theorem State.setDma_pending (s : State) (ch : Nat) (l : List DmaDesc) : (s.setDma ch l).pending = s.pending := rfl
@[simp] theorem State.setDma_part (s : State) (ch : Nat) (l : List DmaDesc) : (s.setDma ch l).part = s.part := rfl
@[simp] theorem State.setDma_mode (s : State) (ch : Nat) (l : List DmaDesc) : (s.setDma ch l).mode = s.mode := rfl
@[simp] theorem State.setDma_now (s : State) (ch : Nat) (l : List DmaDesc) : (s.setDma ch l).now = s.now := rfl
@[simp] theorem State.setDma_ttc (s : State) (ch : Nat) (l : List DmaDesc) : (s.setDma ch l).ttc = s.ttc := rfl
@[simp] theorem State.setDma_cal (s : State) (ch : Nat) (l : List DmaDesc) : (s.setDma ch l).cal = s.cal := rfl
@[simp] theorem State.setDma_rtc (s : State) (ch : Nat) (l : List DmaDesc) : (s.setDma ch l).rtc = s.rtc := rfl
@[simp] theorem State.setDma_free (s : State) (ch : Nat) (l : List DmaDesc) : (s.setDma ch l).free = s.free := rfl
@[simp] theorem State.setDma_outs (s : State) (ch : Nat) (l : List DmaDesc) : (s.setDma ch l).outs = s.outs := rfl
@[simp] theorem State.setDma_regs (s : State) (ch : Nat) (l : List DmaDesc) : (s.setDma ch l).regs = s.regs := rfl
@[simp] theorem State.setDma_latch (s : State) (ch : Nat) (l : List DmaDesc) : (s.setDma ch l).latch = s.latch := rfl
@[simp] theorem State.setDma_staged (s : State) (ch : Nat) (l : List DmaDesc) : (s.setDma ch l).staged = s.staged := rfl
@[simp] theorem State.setDma_diesDown (s : State) (ch : Nat) (l : List DmaDesc) : (s.setDma ch l).diesDown = s.diesDown := rfl
@[simp] theorem State.setDma_fab (s : State) (ch : Nat) (l : List DmaDesc) : (s.setDma ch l).fab = s.fab := rfl
@[simp] theorem State.setDma_mem (s : State) (ch : Nat) (l : List DmaDesc) : (s.setDma ch l).mem = s.mem := rfl
@[simp] theorem State.setDma_site (s : State) (ch : Nat) (l : List DmaDesc) : (s.setDma ch l).site = s.site := rfl
@[simp] theorem State.setDma_pcie (s : State) (ch : Nat) (l : List DmaDesc) : (s.setDma ch l).pcie = s.pcie := rfl
@[simp] theorem State.setDma_par (s : State) (ch : Nat) (l : List DmaDesc) : (s.setDma ch l).par = s.par := rfl
@[simp] theorem State.setDma_kelk (s : State) (ch : Nat) (l : List DmaDesc) : (s.setDma ch l).kelk = s.kelk := rfl
@[simp] theorem State.setDma_ring (s : State) (ch : Nat) (l : List DmaDesc) : (s.setDma ch l).ring = s.ring := rfl
@[simp] theorem State.setDma_llp (s : State) (ch : Nat) (l : List DmaDesc) : (s.setDma ch l).llp = s.llp := rfl
@[simp] theorem State.setDma_cap (s : State) (ch : Nat) (l : List DmaDesc) : (s.setDma ch l).cap = s.cap := rfl
@[simp] theorem State.setDma_clk (s : State) (ch : Nat) (l : List DmaDesc) : (s.setDma ch l).clk = s.clk := rfl
@[simp] theorem State.setDma_mill (s : State) (ch : Nat) (l : List DmaDesc) : (s.setDma ch l).mill = s.mill := rfl
@[simp] theorem State.setDma_dram (s : State) (ch : Nat) (l : List DmaDesc) : (s.setDma ch l).dram = s.dram := rfl
@[simp] theorem State.setDma_cfg (s : State) (ch : Nat) (l : List DmaDesc) : (s.setDma ch l).cfg = s.cfg := rfl
@[simp] theorem State.setDma_sec (s : State) (ch : Nat) (l : List DmaDesc) : (s.setDma ch l).sec = s.sec := rfl
@[simp] theorem State.setDma_dbg (s : State) (ch : Nat) (l : List DmaDesc) : (s.setDma ch l).dbg = s.dbg := rfl
@[simp] theorem State.setDma_fills (s : State) (ch : Nat) (l : List DmaDesc) : (s.setDma ch l).fills = s.fills := rfl
@[simp] theorem State.setDma_gpio (s : State) (ch : Nat) (l : List DmaDesc) : (s.setDma ch l).gpio = s.gpio := rfl
@[simp] theorem State.setDma_start (s : State) (ch : Nat) (l : List DmaDesc) : (s.setDma ch l).start = s.start := rfl
@[simp] theorem State.setDma_cores (s : State) (ch : Nat) (l : List DmaDesc) : (s.setDma ch l).cores = s.cores := rfl
@[simp] theorem State.setDma_guest (s : State) (ch : Nat) (l : List DmaDesc) : (s.setDma ch l).guest = s.guest := rfl
@[simp] theorem State.setDma_com (s : State) (ch : Nat) (l : List DmaDesc) : (s.setDma ch l).com = s.com := rfl
@[simp] theorem State.setDma_ledger (s : State) (ch : Nat) (l : List DmaDesc) : (s.setDma ch l).ledger = s.ledger := rfl
@[simp] theorem State.setDma_rd (s : State) (ch : Nat) (l : List DmaDesc) (k : Nat) : (s.setDma ch l).rd k = s.rd k := rfl
@[simp] theorem State.setDma_rf (s : State) (ch : Nat) (l : List DmaDesc) (k : Nat) (fl : Fld) : (s.setDma ch l).rf k fl = s.rf k fl := rfl

/-! ### setBank -/

@[simp] theorem State.setBank_pending (s : State) (b : Nat) (x : BankSt) : (s.setBank b x).pending = s.pending := rfl
@[simp] theorem State.setBank_part (s : State) (b : Nat) (x : BankSt) : (s.setBank b x).part = s.part := rfl
@[simp] theorem State.setBank_mode (s : State) (b : Nat) (x : BankSt) : (s.setBank b x).mode = s.mode := rfl
@[simp] theorem State.setBank_now (s : State) (b : Nat) (x : BankSt) : (s.setBank b x).now = s.now := rfl
@[simp] theorem State.setBank_ttc (s : State) (b : Nat) (x : BankSt) : (s.setBank b x).ttc = s.ttc := rfl
@[simp] theorem State.setBank_cal (s : State) (b : Nat) (x : BankSt) : (s.setBank b x).cal = s.cal := rfl
@[simp] theorem State.setBank_rtc (s : State) (b : Nat) (x : BankSt) : (s.setBank b x).rtc = s.rtc := rfl
@[simp] theorem State.setBank_free (s : State) (b : Nat) (x : BankSt) : (s.setBank b x).free = s.free := rfl
@[simp] theorem State.setBank_outs (s : State) (b : Nat) (x : BankSt) : (s.setBank b x).outs = s.outs := rfl
@[simp] theorem State.setBank_regs (s : State) (b : Nat) (x : BankSt) : (s.setBank b x).regs = s.regs := rfl
@[simp] theorem State.setBank_latch (s : State) (b : Nat) (x : BankSt) : (s.setBank b x).latch = s.latch := rfl
@[simp] theorem State.setBank_staged (s : State) (b : Nat) (x : BankSt) : (s.setBank b x).staged = s.staged := rfl
@[simp] theorem State.setBank_diesDown (s : State) (b : Nat) (x : BankSt) : (s.setBank b x).diesDown = s.diesDown := rfl
@[simp] theorem State.setBank_fab (s : State) (b : Nat) (x : BankSt) : (s.setBank b x).fab = s.fab := rfl
@[simp] theorem State.setBank_mem (s : State) (b : Nat) (x : BankSt) : (s.setBank b x).mem = s.mem := rfl
@[simp] theorem State.setBank_site (s : State) (b : Nat) (x : BankSt) : (s.setBank b x).site = s.site := rfl
@[simp] theorem State.setBank_pcie (s : State) (b : Nat) (x : BankSt) : (s.setBank b x).pcie = s.pcie := rfl
@[simp] theorem State.setBank_par (s : State) (b : Nat) (x : BankSt) : (s.setBank b x).par = s.par := rfl
@[simp] theorem State.setBank_kelk (s : State) (b : Nat) (x : BankSt) : (s.setBank b x).kelk = s.kelk := rfl
@[simp] theorem State.setBank_ring (s : State) (b : Nat) (x : BankSt) : (s.setBank b x).ring = s.ring := rfl
@[simp] theorem State.setBank_llp (s : State) (b : Nat) (x : BankSt) : (s.setBank b x).llp = s.llp := rfl
@[simp] theorem State.setBank_cap (s : State) (b : Nat) (x : BankSt) : (s.setBank b x).cap = s.cap := rfl
@[simp] theorem State.setBank_clk (s : State) (b : Nat) (x : BankSt) : (s.setBank b x).clk = s.clk := rfl
@[simp] theorem State.setBank_mill (s : State) (b : Nat) (x : BankSt) : (s.setBank b x).mill = s.mill := rfl
@[simp] theorem State.setBank_dram (s : State) (b : Nat) (x : BankSt) : (s.setBank b x).dram = s.dram := rfl
@[simp] theorem State.setBank_host (s : State) (b : Nat) (x : BankSt) : (s.setBank b x).host = s.host := rfl
@[simp] theorem State.setBank_cfg (s : State) (b : Nat) (x : BankSt) : (s.setBank b x).cfg = s.cfg := rfl
@[simp] theorem State.setBank_sec (s : State) (b : Nat) (x : BankSt) : (s.setBank b x).sec = s.sec := rfl
@[simp] theorem State.setBank_dbg (s : State) (b : Nat) (x : BankSt) : (s.setBank b x).dbg = s.dbg := rfl
@[simp] theorem State.setBank_fills (s : State) (b : Nat) (x : BankSt) : (s.setBank b x).fills = s.fills := rfl
@[simp] theorem State.setBank_start (s : State) (b : Nat) (x : BankSt) : (s.setBank b x).start = s.start := rfl
@[simp] theorem State.setBank_cores (s : State) (b : Nat) (x : BankSt) : (s.setBank b x).cores = s.cores := rfl
@[simp] theorem State.setBank_guest (s : State) (b : Nat) (x : BankSt) : (s.setBank b x).guest = s.guest := rfl
@[simp] theorem State.setBank_com (s : State) (b : Nat) (x : BankSt) : (s.setBank b x).com = s.com := rfl
@[simp] theorem State.setBank_ledger (s : State) (b : Nat) (x : BankSt) : (s.setBank b x).ledger = s.ledger := rfl
@[simp] theorem State.setBank_rd (s : State) (b : Nat) (x : BankSt) (k : Nat) : (s.setBank b x).rd k = s.rd k := rfl
@[simp] theorem State.setBank_rf (s : State) (b : Nat) (x : BankSt) (k : Nat) (fl : Fld) : (s.setBank b x).rf k fl = s.rf k fl := rfl

/-! ### setStop -/

@[simp] theorem State.setStop_pending (s : State) (n : Nat) (x : StopSt) : (s.setStop n x).pending = s.pending := rfl
@[simp] theorem State.setStop_part (s : State) (n : Nat) (x : StopSt) : (s.setStop n x).part = s.part := rfl
@[simp] theorem State.setStop_mode (s : State) (n : Nat) (x : StopSt) : (s.setStop n x).mode = s.mode := rfl
@[simp] theorem State.setStop_now (s : State) (n : Nat) (x : StopSt) : (s.setStop n x).now = s.now := rfl
@[simp] theorem State.setStop_ttc (s : State) (n : Nat) (x : StopSt) : (s.setStop n x).ttc = s.ttc := rfl
@[simp] theorem State.setStop_cal (s : State) (n : Nat) (x : StopSt) : (s.setStop n x).cal = s.cal := rfl
@[simp] theorem State.setStop_rtc (s : State) (n : Nat) (x : StopSt) : (s.setStop n x).rtc = s.rtc := rfl
@[simp] theorem State.setStop_free (s : State) (n : Nat) (x : StopSt) : (s.setStop n x).free = s.free := rfl
@[simp] theorem State.setStop_outs (s : State) (n : Nat) (x : StopSt) : (s.setStop n x).outs = s.outs := rfl
@[simp] theorem State.setStop_regs (s : State) (n : Nat) (x : StopSt) : (s.setStop n x).regs = s.regs := rfl
@[simp] theorem State.setStop_latch (s : State) (n : Nat) (x : StopSt) : (s.setStop n x).latch = s.latch := rfl
@[simp] theorem State.setStop_staged (s : State) (n : Nat) (x : StopSt) : (s.setStop n x).staged = s.staged := rfl
@[simp] theorem State.setStop_diesDown (s : State) (n : Nat) (x : StopSt) : (s.setStop n x).diesDown = s.diesDown := rfl
@[simp] theorem State.setStop_fab (s : State) (n : Nat) (x : StopSt) : (s.setStop n x).fab = s.fab := rfl
@[simp] theorem State.setStop_mem (s : State) (n : Nat) (x : StopSt) : (s.setStop n x).mem = s.mem := rfl
@[simp] theorem State.setStop_site (s : State) (n : Nat) (x : StopSt) : (s.setStop n x).site = s.site := rfl
@[simp] theorem State.setStop_pcie (s : State) (n : Nat) (x : StopSt) : (s.setStop n x).pcie = s.pcie := rfl
@[simp] theorem State.setStop_par (s : State) (n : Nat) (x : StopSt) : (s.setStop n x).par = s.par := rfl
@[simp] theorem State.setStop_kelk (s : State) (n : Nat) (x : StopSt) : (s.setStop n x).kelk = s.kelk := rfl
@[simp] theorem State.setStop_llp (s : State) (n : Nat) (x : StopSt) : (s.setStop n x).llp = s.llp := rfl
@[simp] theorem State.setStop_cap (s : State) (n : Nat) (x : StopSt) : (s.setStop n x).cap = s.cap := rfl
@[simp] theorem State.setStop_clk (s : State) (n : Nat) (x : StopSt) : (s.setStop n x).clk = s.clk := rfl
@[simp] theorem State.setStop_mill (s : State) (n : Nat) (x : StopSt) : (s.setStop n x).mill = s.mill := rfl
@[simp] theorem State.setStop_dram (s : State) (n : Nat) (x : StopSt) : (s.setStop n x).dram = s.dram := rfl
@[simp] theorem State.setStop_host (s : State) (n : Nat) (x : StopSt) : (s.setStop n x).host = s.host := rfl
@[simp] theorem State.setStop_cfg (s : State) (n : Nat) (x : StopSt) : (s.setStop n x).cfg = s.cfg := rfl
@[simp] theorem State.setStop_sec (s : State) (n : Nat) (x : StopSt) : (s.setStop n x).sec = s.sec := rfl
@[simp] theorem State.setStop_dbg (s : State) (n : Nat) (x : StopSt) : (s.setStop n x).dbg = s.dbg := rfl
@[simp] theorem State.setStop_fills (s : State) (n : Nat) (x : StopSt) : (s.setStop n x).fills = s.fills := rfl
@[simp] theorem State.setStop_gpio (s : State) (n : Nat) (x : StopSt) : (s.setStop n x).gpio = s.gpio := rfl
@[simp] theorem State.setStop_start (s : State) (n : Nat) (x : StopSt) : (s.setStop n x).start = s.start := rfl
@[simp] theorem State.setStop_cores (s : State) (n : Nat) (x : StopSt) : (s.setStop n x).cores = s.cores := rfl
@[simp] theorem State.setStop_guest (s : State) (n : Nat) (x : StopSt) : (s.setStop n x).guest = s.guest := rfl
@[simp] theorem State.setStop_com (s : State) (n : Nat) (x : StopSt) : (s.setStop n x).com = s.com := rfl
@[simp] theorem State.setStop_ledger (s : State) (n : Nat) (x : StopSt) : (s.setStop n x).ledger = s.ledger := rfl
@[simp] theorem State.setStop_rd (s : State) (n : Nat) (x : StopSt) (k : Nat) : (s.setStop n x).rd k = s.rd k := rfl
@[simp] theorem State.setStop_rf (s : State) (n : Nat) (x : StopSt) (k : Nat) (fl : Fld) : (s.setStop n x).rf k fl = s.rf k fl := rfl

/-! ### setBnd -/

@[simp] theorem State.setBnd_pending (s : State) (b : Nat) (x : KelkBnd) : (s.setBnd b x).pending = s.pending := rfl
@[simp] theorem State.setBnd_part (s : State) (b : Nat) (x : KelkBnd) : (s.setBnd b x).part = s.part := rfl
@[simp] theorem State.setBnd_mode (s : State) (b : Nat) (x : KelkBnd) : (s.setBnd b x).mode = s.mode := rfl
@[simp] theorem State.setBnd_now (s : State) (b : Nat) (x : KelkBnd) : (s.setBnd b x).now = s.now := rfl
@[simp] theorem State.setBnd_ttc (s : State) (b : Nat) (x : KelkBnd) : (s.setBnd b x).ttc = s.ttc := rfl
@[simp] theorem State.setBnd_cal (s : State) (b : Nat) (x : KelkBnd) : (s.setBnd b x).cal = s.cal := rfl
@[simp] theorem State.setBnd_rtc (s : State) (b : Nat) (x : KelkBnd) : (s.setBnd b x).rtc = s.rtc := rfl
@[simp] theorem State.setBnd_free (s : State) (b : Nat) (x : KelkBnd) : (s.setBnd b x).free = s.free := rfl
@[simp] theorem State.setBnd_outs (s : State) (b : Nat) (x : KelkBnd) : (s.setBnd b x).outs = s.outs := rfl
@[simp] theorem State.setBnd_regs (s : State) (b : Nat) (x : KelkBnd) : (s.setBnd b x).regs = s.regs := rfl
@[simp] theorem State.setBnd_latch (s : State) (b : Nat) (x : KelkBnd) : (s.setBnd b x).latch = s.latch := rfl
@[simp] theorem State.setBnd_staged (s : State) (b : Nat) (x : KelkBnd) : (s.setBnd b x).staged = s.staged := rfl
@[simp] theorem State.setBnd_diesDown (s : State) (b : Nat) (x : KelkBnd) : (s.setBnd b x).diesDown = s.diesDown := rfl
@[simp] theorem State.setBnd_fab (s : State) (b : Nat) (x : KelkBnd) : (s.setBnd b x).fab = s.fab := rfl
@[simp] theorem State.setBnd_mem (s : State) (b : Nat) (x : KelkBnd) : (s.setBnd b x).mem = s.mem := rfl
@[simp] theorem State.setBnd_site (s : State) (b : Nat) (x : KelkBnd) : (s.setBnd b x).site = s.site := rfl
@[simp] theorem State.setBnd_pcie (s : State) (b : Nat) (x : KelkBnd) : (s.setBnd b x).pcie = s.pcie := rfl
@[simp] theorem State.setBnd_par (s : State) (b : Nat) (x : KelkBnd) : (s.setBnd b x).par = s.par := rfl
@[simp] theorem State.setBnd_ring (s : State) (b : Nat) (x : KelkBnd) : (s.setBnd b x).ring = s.ring := rfl
@[simp] theorem State.setBnd_llp (s : State) (b : Nat) (x : KelkBnd) : (s.setBnd b x).llp = s.llp := rfl
@[simp] theorem State.setBnd_cap (s : State) (b : Nat) (x : KelkBnd) : (s.setBnd b x).cap = s.cap := rfl
@[simp] theorem State.setBnd_clk (s : State) (b : Nat) (x : KelkBnd) : (s.setBnd b x).clk = s.clk := rfl
@[simp] theorem State.setBnd_mill (s : State) (b : Nat) (x : KelkBnd) : (s.setBnd b x).mill = s.mill := rfl
@[simp] theorem State.setBnd_dram (s : State) (b : Nat) (x : KelkBnd) : (s.setBnd b x).dram = s.dram := rfl
@[simp] theorem State.setBnd_host (s : State) (b : Nat) (x : KelkBnd) : (s.setBnd b x).host = s.host := rfl
@[simp] theorem State.setBnd_cfg (s : State) (b : Nat) (x : KelkBnd) : (s.setBnd b x).cfg = s.cfg := rfl
@[simp] theorem State.setBnd_sec (s : State) (b : Nat) (x : KelkBnd) : (s.setBnd b x).sec = s.sec := rfl
@[simp] theorem State.setBnd_dbg (s : State) (b : Nat) (x : KelkBnd) : (s.setBnd b x).dbg = s.dbg := rfl
@[simp] theorem State.setBnd_fills (s : State) (b : Nat) (x : KelkBnd) : (s.setBnd b x).fills = s.fills := rfl
@[simp] theorem State.setBnd_gpio (s : State) (b : Nat) (x : KelkBnd) : (s.setBnd b x).gpio = s.gpio := rfl
@[simp] theorem State.setBnd_start (s : State) (b : Nat) (x : KelkBnd) : (s.setBnd b x).start = s.start := rfl
@[simp] theorem State.setBnd_cores (s : State) (b : Nat) (x : KelkBnd) : (s.setBnd b x).cores = s.cores := rfl
@[simp] theorem State.setBnd_guest (s : State) (b : Nat) (x : KelkBnd) : (s.setBnd b x).guest = s.guest := rfl
@[simp] theorem State.setBnd_com (s : State) (b : Nat) (x : KelkBnd) : (s.setBnd b x).com = s.com := rfl
@[simp] theorem State.setBnd_ledger (s : State) (b : Nat) (x : KelkBnd) : (s.setBnd b x).ledger = s.ledger := rfl
@[simp] theorem State.setBnd_rd (s : State) (b : Nat) (x : KelkBnd) (k : Nat) : (s.setBnd b x).rd k = s.rd k := rfl
@[simp] theorem State.setBnd_rf (s : State) (b : Nat) (x : KelkBnd) (k : Nat) (fl : Fld) : (s.setBnd b x).rf k fl = s.rf k fl := rfl

/-! ### setGrp -/

@[simp] theorem State.setGrp_pending (s : State) (w : Nat) (x : KelkBnd) : (s.setGrp w x).pending = s.pending := rfl
@[simp] theorem State.setGrp_part (s : State) (w : Nat) (x : KelkBnd) : (s.setGrp w x).part = s.part := rfl
@[simp] theorem State.setGrp_mode (s : State) (w : Nat) (x : KelkBnd) : (s.setGrp w x).mode = s.mode := rfl
@[simp] theorem State.setGrp_now (s : State) (w : Nat) (x : KelkBnd) : (s.setGrp w x).now = s.now := rfl
@[simp] theorem State.setGrp_ttc (s : State) (w : Nat) (x : KelkBnd) : (s.setGrp w x).ttc = s.ttc := rfl
@[simp] theorem State.setGrp_cal (s : State) (w : Nat) (x : KelkBnd) : (s.setGrp w x).cal = s.cal := rfl
@[simp] theorem State.setGrp_rtc (s : State) (w : Nat) (x : KelkBnd) : (s.setGrp w x).rtc = s.rtc := rfl
@[simp] theorem State.setGrp_free (s : State) (w : Nat) (x : KelkBnd) : (s.setGrp w x).free = s.free := rfl
@[simp] theorem State.setGrp_outs (s : State) (w : Nat) (x : KelkBnd) : (s.setGrp w x).outs = s.outs := rfl
@[simp] theorem State.setGrp_regs (s : State) (w : Nat) (x : KelkBnd) : (s.setGrp w x).regs = s.regs := rfl
@[simp] theorem State.setGrp_latch (s : State) (w : Nat) (x : KelkBnd) : (s.setGrp w x).latch = s.latch := rfl
@[simp] theorem State.setGrp_staged (s : State) (w : Nat) (x : KelkBnd) : (s.setGrp w x).staged = s.staged := rfl
@[simp] theorem State.setGrp_diesDown (s : State) (w : Nat) (x : KelkBnd) : (s.setGrp w x).diesDown = s.diesDown := rfl
@[simp] theorem State.setGrp_fab (s : State) (w : Nat) (x : KelkBnd) : (s.setGrp w x).fab = s.fab := rfl
@[simp] theorem State.setGrp_mem (s : State) (w : Nat) (x : KelkBnd) : (s.setGrp w x).mem = s.mem := rfl
@[simp] theorem State.setGrp_site (s : State) (w : Nat) (x : KelkBnd) : (s.setGrp w x).site = s.site := rfl
@[simp] theorem State.setGrp_pcie (s : State) (w : Nat) (x : KelkBnd) : (s.setGrp w x).pcie = s.pcie := rfl
@[simp] theorem State.setGrp_par (s : State) (w : Nat) (x : KelkBnd) : (s.setGrp w x).par = s.par := rfl
@[simp] theorem State.setGrp_ring (s : State) (w : Nat) (x : KelkBnd) : (s.setGrp w x).ring = s.ring := rfl
@[simp] theorem State.setGrp_llp (s : State) (w : Nat) (x : KelkBnd) : (s.setGrp w x).llp = s.llp := rfl
@[simp] theorem State.setGrp_cap (s : State) (w : Nat) (x : KelkBnd) : (s.setGrp w x).cap = s.cap := rfl
@[simp] theorem State.setGrp_clk (s : State) (w : Nat) (x : KelkBnd) : (s.setGrp w x).clk = s.clk := rfl
@[simp] theorem State.setGrp_mill (s : State) (w : Nat) (x : KelkBnd) : (s.setGrp w x).mill = s.mill := rfl
@[simp] theorem State.setGrp_dram (s : State) (w : Nat) (x : KelkBnd) : (s.setGrp w x).dram = s.dram := rfl
@[simp] theorem State.setGrp_host (s : State) (w : Nat) (x : KelkBnd) : (s.setGrp w x).host = s.host := rfl
@[simp] theorem State.setGrp_cfg (s : State) (w : Nat) (x : KelkBnd) : (s.setGrp w x).cfg = s.cfg := rfl
@[simp] theorem State.setGrp_sec (s : State) (w : Nat) (x : KelkBnd) : (s.setGrp w x).sec = s.sec := rfl
@[simp] theorem State.setGrp_dbg (s : State) (w : Nat) (x : KelkBnd) : (s.setGrp w x).dbg = s.dbg := rfl
@[simp] theorem State.setGrp_fills (s : State) (w : Nat) (x : KelkBnd) : (s.setGrp w x).fills = s.fills := rfl
@[simp] theorem State.setGrp_gpio (s : State) (w : Nat) (x : KelkBnd) : (s.setGrp w x).gpio = s.gpio := rfl
@[simp] theorem State.setGrp_start (s : State) (w : Nat) (x : KelkBnd) : (s.setGrp w x).start = s.start := rfl
@[simp] theorem State.setGrp_cores (s : State) (w : Nat) (x : KelkBnd) : (s.setGrp w x).cores = s.cores := rfl
@[simp] theorem State.setGrp_guest (s : State) (w : Nat) (x : KelkBnd) : (s.setGrp w x).guest = s.guest := rfl
@[simp] theorem State.setGrp_com (s : State) (w : Nat) (x : KelkBnd) : (s.setGrp w x).com = s.com := rfl
@[simp] theorem State.setGrp_ledger (s : State) (w : Nat) (x : KelkBnd) : (s.setGrp w x).ledger = s.ledger := rfl
@[simp] theorem State.setGrp_rd (s : State) (w : Nat) (x : KelkBnd) (k : Nat) : (s.setGrp w x).rd k = s.rd k := rfl
@[simp] theorem State.setGrp_rf (s : State) (w : Nat) (x : KelkBnd) (k : Nat) (fl : Fld) : (s.setGrp w x).rf k fl = s.rf k fl := rfl

/-! ### setCore -/

@[simp] theorem State.setCore_pending (s : State) (c : Nat) (x : CoreSt) : (s.setCore c x).pending = s.pending := rfl
@[simp] theorem State.setCore_part (s : State) (c : Nat) (x : CoreSt) : (s.setCore c x).part = s.part := rfl
@[simp] theorem State.setCore_mode (s : State) (c : Nat) (x : CoreSt) : (s.setCore c x).mode = s.mode := rfl
@[simp] theorem State.setCore_now (s : State) (c : Nat) (x : CoreSt) : (s.setCore c x).now = s.now := rfl
@[simp] theorem State.setCore_ttc (s : State) (c : Nat) (x : CoreSt) : (s.setCore c x).ttc = s.ttc := rfl
@[simp] theorem State.setCore_cal (s : State) (c : Nat) (x : CoreSt) : (s.setCore c x).cal = s.cal := rfl
@[simp] theorem State.setCore_rtc (s : State) (c : Nat) (x : CoreSt) : (s.setCore c x).rtc = s.rtc := rfl
@[simp] theorem State.setCore_free (s : State) (c : Nat) (x : CoreSt) : (s.setCore c x).free = s.free := rfl
@[simp] theorem State.setCore_outs (s : State) (c : Nat) (x : CoreSt) : (s.setCore c x).outs = s.outs := rfl
@[simp] theorem State.setCore_regs (s : State) (c : Nat) (x : CoreSt) : (s.setCore c x).regs = s.regs := rfl
@[simp] theorem State.setCore_latch (s : State) (c : Nat) (x : CoreSt) : (s.setCore c x).latch = s.latch := rfl
@[simp] theorem State.setCore_staged (s : State) (c : Nat) (x : CoreSt) : (s.setCore c x).staged = s.staged := rfl
@[simp] theorem State.setCore_diesDown (s : State) (c : Nat) (x : CoreSt) : (s.setCore c x).diesDown = s.diesDown := rfl
@[simp] theorem State.setCore_fab (s : State) (c : Nat) (x : CoreSt) : (s.setCore c x).fab = s.fab := rfl
@[simp] theorem State.setCore_mem (s : State) (c : Nat) (x : CoreSt) : (s.setCore c x).mem = s.mem := rfl
@[simp] theorem State.setCore_site (s : State) (c : Nat) (x : CoreSt) : (s.setCore c x).site = s.site := rfl
@[simp] theorem State.setCore_pcie (s : State) (c : Nat) (x : CoreSt) : (s.setCore c x).pcie = s.pcie := rfl
@[simp] theorem State.setCore_par (s : State) (c : Nat) (x : CoreSt) : (s.setCore c x).par = s.par := rfl
@[simp] theorem State.setCore_kelk (s : State) (c : Nat) (x : CoreSt) : (s.setCore c x).kelk = s.kelk := rfl
@[simp] theorem State.setCore_ring (s : State) (c : Nat) (x : CoreSt) : (s.setCore c x).ring = s.ring := rfl
@[simp] theorem State.setCore_llp (s : State) (c : Nat) (x : CoreSt) : (s.setCore c x).llp = s.llp := rfl
@[simp] theorem State.setCore_cap (s : State) (c : Nat) (x : CoreSt) : (s.setCore c x).cap = s.cap := rfl
@[simp] theorem State.setCore_clk (s : State) (c : Nat) (x : CoreSt) : (s.setCore c x).clk = s.clk := rfl
@[simp] theorem State.setCore_mill (s : State) (c : Nat) (x : CoreSt) : (s.setCore c x).mill = s.mill := rfl
@[simp] theorem State.setCore_dram (s : State) (c : Nat) (x : CoreSt) : (s.setCore c x).dram = s.dram := rfl
@[simp] theorem State.setCore_host (s : State) (c : Nat) (x : CoreSt) : (s.setCore c x).host = s.host := rfl
@[simp] theorem State.setCore_cfg (s : State) (c : Nat) (x : CoreSt) : (s.setCore c x).cfg = s.cfg := rfl
@[simp] theorem State.setCore_sec (s : State) (c : Nat) (x : CoreSt) : (s.setCore c x).sec = s.sec := rfl
@[simp] theorem State.setCore_dbg (s : State) (c : Nat) (x : CoreSt) : (s.setCore c x).dbg = s.dbg := rfl
@[simp] theorem State.setCore_fills (s : State) (c : Nat) (x : CoreSt) : (s.setCore c x).fills = s.fills := rfl
@[simp] theorem State.setCore_gpio (s : State) (c : Nat) (x : CoreSt) : (s.setCore c x).gpio = s.gpio := rfl
@[simp] theorem State.setCore_start (s : State) (c : Nat) (x : CoreSt) : (s.setCore c x).start = s.start := rfl
@[simp] theorem State.setCore_guest (s : State) (c : Nat) (x : CoreSt) : (s.setCore c x).guest = s.guest := rfl
@[simp] theorem State.setCore_com (s : State) (c : Nat) (x : CoreSt) : (s.setCore c x).com = s.com := rfl
@[simp] theorem State.setCore_ledger (s : State) (c : Nat) (x : CoreSt) : (s.setCore c x).ledger = s.ledger := rfl
@[simp] theorem State.setCore_rd (s : State) (c : Nat) (x : CoreSt) (k : Nat) : (s.setCore c x).rd k = s.rd k := rfl
@[simp] theorem State.setCore_rf (s : State) (c : Nat) (x : CoreSt) (k : Nat) (fl : Fld) : (s.setCore c x).rf k fl = s.rf k fl := rfl

/-! ### setReq -/

@[simp] theorem State.setReq_pending (s : State) (c : Nat) (q : Option CmdReq) : (s.setReq c q).pending = s.pending := rfl
@[simp] theorem State.setReq_part (s : State) (c : Nat) (q : Option CmdReq) : (s.setReq c q).part = s.part := rfl
@[simp] theorem State.setReq_mode (s : State) (c : Nat) (q : Option CmdReq) : (s.setReq c q).mode = s.mode := rfl
@[simp] theorem State.setReq_now (s : State) (c : Nat) (q : Option CmdReq) : (s.setReq c q).now = s.now := rfl
@[simp] theorem State.setReq_ttc (s : State) (c : Nat) (q : Option CmdReq) : (s.setReq c q).ttc = s.ttc := rfl
@[simp] theorem State.setReq_cal (s : State) (c : Nat) (q : Option CmdReq) : (s.setReq c q).cal = s.cal := rfl
@[simp] theorem State.setReq_rtc (s : State) (c : Nat) (q : Option CmdReq) : (s.setReq c q).rtc = s.rtc := rfl
@[simp] theorem State.setReq_free (s : State) (c : Nat) (q : Option CmdReq) : (s.setReq c q).free = s.free := rfl
@[simp] theorem State.setReq_outs (s : State) (c : Nat) (q : Option CmdReq) : (s.setReq c q).outs = s.outs := rfl
@[simp] theorem State.setReq_regs (s : State) (c : Nat) (q : Option CmdReq) : (s.setReq c q).regs = s.regs := rfl
@[simp] theorem State.setReq_latch (s : State) (c : Nat) (q : Option CmdReq) : (s.setReq c q).latch = s.latch := rfl
@[simp] theorem State.setReq_staged (s : State) (c : Nat) (q : Option CmdReq) : (s.setReq c q).staged = s.staged := rfl
@[simp] theorem State.setReq_diesDown (s : State) (c : Nat) (q : Option CmdReq) : (s.setReq c q).diesDown = s.diesDown := rfl
@[simp] theorem State.setReq_fab (s : State) (c : Nat) (q : Option CmdReq) : (s.setReq c q).fab = s.fab := rfl
@[simp] theorem State.setReq_mem (s : State) (c : Nat) (q : Option CmdReq) : (s.setReq c q).mem = s.mem := rfl
@[simp] theorem State.setReq_site (s : State) (c : Nat) (q : Option CmdReq) : (s.setReq c q).site = s.site := rfl
@[simp] theorem State.setReq_pcie (s : State) (c : Nat) (q : Option CmdReq) : (s.setReq c q).pcie = s.pcie := rfl
@[simp] theorem State.setReq_par (s : State) (c : Nat) (q : Option CmdReq) : (s.setReq c q).par = s.par := rfl
@[simp] theorem State.setReq_kelk (s : State) (c : Nat) (q : Option CmdReq) : (s.setReq c q).kelk = s.kelk := rfl
@[simp] theorem State.setReq_ring (s : State) (c : Nat) (q : Option CmdReq) : (s.setReq c q).ring = s.ring := rfl
@[simp] theorem State.setReq_llp (s : State) (c : Nat) (q : Option CmdReq) : (s.setReq c q).llp = s.llp := rfl
@[simp] theorem State.setReq_cap (s : State) (c : Nat) (q : Option CmdReq) : (s.setReq c q).cap = s.cap := rfl
@[simp] theorem State.setReq_clk (s : State) (c : Nat) (q : Option CmdReq) : (s.setReq c q).clk = s.clk := rfl
@[simp] theorem State.setReq_mill (s : State) (c : Nat) (q : Option CmdReq) : (s.setReq c q).mill = s.mill := rfl
@[simp] theorem State.setReq_dram (s : State) (c : Nat) (q : Option CmdReq) : (s.setReq c q).dram = s.dram := rfl
@[simp] theorem State.setReq_host (s : State) (c : Nat) (q : Option CmdReq) : (s.setReq c q).host = s.host := rfl
@[simp] theorem State.setReq_cfg (s : State) (c : Nat) (q : Option CmdReq) : (s.setReq c q).cfg = s.cfg := rfl
@[simp] theorem State.setReq_sec (s : State) (c : Nat) (q : Option CmdReq) : (s.setReq c q).sec = s.sec := rfl
@[simp] theorem State.setReq_dbg (s : State) (c : Nat) (q : Option CmdReq) : (s.setReq c q).dbg = s.dbg := rfl
@[simp] theorem State.setReq_fills (s : State) (c : Nat) (q : Option CmdReq) : (s.setReq c q).fills = s.fills := rfl
@[simp] theorem State.setReq_gpio (s : State) (c : Nat) (q : Option CmdReq) : (s.setReq c q).gpio = s.gpio := rfl
@[simp] theorem State.setReq_start (s : State) (c : Nat) (q : Option CmdReq) : (s.setReq c q).start = s.start := rfl
@[simp] theorem State.setReq_cores (s : State) (c : Nat) (q : Option CmdReq) : (s.setReq c q).cores = s.cores := rfl
@[simp] theorem State.setReq_guest (s : State) (c : Nat) (q : Option CmdReq) : (s.setReq c q).guest = s.guest := rfl
@[simp] theorem State.setReq_ledger (s : State) (c : Nat) (q : Option CmdReq) : (s.setReq c q).ledger = s.ledger := rfl
@[simp] theorem State.setReq_rd (s : State) (c : Nat) (q : Option CmdReq) (k : Nat) : (s.setReq c q).rd k = s.rd k := rfl
@[simp] theorem State.setReq_rf (s : State) (c : Nat) (q : Option CmdReq) (k : Nat) (fl : Fld) : (s.setReq c q).rf k fl = s.rf k fl := rfl

/-! ### setConv -/

@[simp] theorem State.setConv_pending (s : State) (k : Nat) (x : ConvSt) : (s.setConv k x).pending = s.pending := rfl
@[simp] theorem State.setConv_part (s : State) (k : Nat) (x : ConvSt) : (s.setConv k x).part = s.part := rfl
@[simp] theorem State.setConv_mode (s : State) (k : Nat) (x : ConvSt) : (s.setConv k x).mode = s.mode := rfl
@[simp] theorem State.setConv_now (s : State) (k : Nat) (x : ConvSt) : (s.setConv k x).now = s.now := rfl
@[simp] theorem State.setConv_ttc (s : State) (k : Nat) (x : ConvSt) : (s.setConv k x).ttc = s.ttc := rfl
@[simp] theorem State.setConv_cal (s : State) (k : Nat) (x : ConvSt) : (s.setConv k x).cal = s.cal := rfl
@[simp] theorem State.setConv_rtc (s : State) (k : Nat) (x : ConvSt) : (s.setConv k x).rtc = s.rtc := rfl
@[simp] theorem State.setConv_free (s : State) (k : Nat) (x : ConvSt) : (s.setConv k x).free = s.free := rfl
@[simp] theorem State.setConv_outs (s : State) (k : Nat) (x : ConvSt) : (s.setConv k x).outs = s.outs := rfl
@[simp] theorem State.setConv_regs (s : State) (k : Nat) (x : ConvSt) : (s.setConv k x).regs = s.regs := rfl
@[simp] theorem State.setConv_latch (s : State) (k : Nat) (x : ConvSt) : (s.setConv k x).latch = s.latch := rfl
@[simp] theorem State.setConv_staged (s : State) (k : Nat) (x : ConvSt) : (s.setConv k x).staged = s.staged := rfl
@[simp] theorem State.setConv_diesDown (s : State) (k : Nat) (x : ConvSt) : (s.setConv k x).diesDown = s.diesDown := rfl
@[simp] theorem State.setConv_fab (s : State) (k : Nat) (x : ConvSt) : (s.setConv k x).fab = s.fab := rfl
@[simp] theorem State.setConv_mem (s : State) (k : Nat) (x : ConvSt) : (s.setConv k x).mem = s.mem := rfl
@[simp] theorem State.setConv_site (s : State) (k : Nat) (x : ConvSt) : (s.setConv k x).site = s.site := rfl
@[simp] theorem State.setConv_pcie (s : State) (k : Nat) (x : ConvSt) : (s.setConv k x).pcie = s.pcie := rfl
@[simp] theorem State.setConv_par (s : State) (k : Nat) (x : ConvSt) : (s.setConv k x).par = s.par := rfl
@[simp] theorem State.setConv_kelk (s : State) (k : Nat) (x : ConvSt) : (s.setConv k x).kelk = s.kelk := rfl
@[simp] theorem State.setConv_ring (s : State) (k : Nat) (x : ConvSt) : (s.setConv k x).ring = s.ring := rfl
@[simp] theorem State.setConv_llp (s : State) (k : Nat) (x : ConvSt) : (s.setConv k x).llp = s.llp := rfl
@[simp] theorem State.setConv_cap (s : State) (k : Nat) (x : ConvSt) : (s.setConv k x).cap = s.cap := rfl
@[simp] theorem State.setConv_clk (s : State) (k : Nat) (x : ConvSt) : (s.setConv k x).clk = s.clk := rfl
@[simp] theorem State.setConv_mill (s : State) (k : Nat) (x : ConvSt) : (s.setConv k x).mill = s.mill := rfl
@[simp] theorem State.setConv_dram (s : State) (k : Nat) (x : ConvSt) : (s.setConv k x).dram = s.dram := rfl
@[simp] theorem State.setConv_host (s : State) (k : Nat) (x : ConvSt) : (s.setConv k x).host = s.host := rfl
@[simp] theorem State.setConv_cfg (s : State) (k : Nat) (x : ConvSt) : (s.setConv k x).cfg = s.cfg := rfl
@[simp] theorem State.setConv_sec (s : State) (k : Nat) (x : ConvSt) : (s.setConv k x).sec = s.sec := rfl
@[simp] theorem State.setConv_dbg (s : State) (k : Nat) (x : ConvSt) : (s.setConv k x).dbg = s.dbg := rfl
@[simp] theorem State.setConv_fills (s : State) (k : Nat) (x : ConvSt) : (s.setConv k x).fills = s.fills := rfl
@[simp] theorem State.setConv_gpio (s : State) (k : Nat) (x : ConvSt) : (s.setConv k x).gpio = s.gpio := rfl
@[simp] theorem State.setConv_cores (s : State) (k : Nat) (x : ConvSt) : (s.setConv k x).cores = s.cores := rfl
@[simp] theorem State.setConv_guest (s : State) (k : Nat) (x : ConvSt) : (s.setConv k x).guest = s.guest := rfl
@[simp] theorem State.setConv_com (s : State) (k : Nat) (x : ConvSt) : (s.setConv k x).com = s.com := rfl
@[simp] theorem State.setConv_ledger (s : State) (k : Nat) (x : ConvSt) : (s.setConv k x).ledger = s.ledger := rfl
@[simp] theorem State.setConv_rd (s : State) (k : Nat) (x : ConvSt) (k : Nat) : (s.setConv k x).rd k = s.rd k := rfl
@[simp] theorem State.setConv_rf (s : State) (k : Nat) (x : ConvSt) (k : Nat) (fl : Fld) : (s.setConv k x).rf k fl = s.rf k fl := rfl

/-! ### setWin -/

@[simp] theorem State.setWin_pending (s : State) (i : Nat) (l : List Nat) : (s.setWin i l).pending = s.pending := rfl
@[simp] theorem State.setWin_part (s : State) (i : Nat) (l : List Nat) : (s.setWin i l).part = s.part := rfl
@[simp] theorem State.setWin_mode (s : State) (i : Nat) (l : List Nat) : (s.setWin i l).mode = s.mode := rfl
@[simp] theorem State.setWin_now (s : State) (i : Nat) (l : List Nat) : (s.setWin i l).now = s.now := rfl
@[simp] theorem State.setWin_ttc (s : State) (i : Nat) (l : List Nat) : (s.setWin i l).ttc = s.ttc := rfl
@[simp] theorem State.setWin_cal (s : State) (i : Nat) (l : List Nat) : (s.setWin i l).cal = s.cal := rfl
@[simp] theorem State.setWin_rtc (s : State) (i : Nat) (l : List Nat) : (s.setWin i l).rtc = s.rtc := rfl
@[simp] theorem State.setWin_free (s : State) (i : Nat) (l : List Nat) : (s.setWin i l).free = s.free := rfl
@[simp] theorem State.setWin_outs (s : State) (i : Nat) (l : List Nat) : (s.setWin i l).outs = s.outs := rfl
@[simp] theorem State.setWin_regs (s : State) (i : Nat) (l : List Nat) : (s.setWin i l).regs = s.regs := rfl
@[simp] theorem State.setWin_latch (s : State) (i : Nat) (l : List Nat) : (s.setWin i l).latch = s.latch := rfl
@[simp] theorem State.setWin_staged (s : State) (i : Nat) (l : List Nat) : (s.setWin i l).staged = s.staged := rfl
@[simp] theorem State.setWin_diesDown (s : State) (i : Nat) (l : List Nat) : (s.setWin i l).diesDown = s.diesDown := rfl
@[simp] theorem State.setWin_fab (s : State) (i : Nat) (l : List Nat) : (s.setWin i l).fab = s.fab := rfl
@[simp] theorem State.setWin_mem (s : State) (i : Nat) (l : List Nat) : (s.setWin i l).mem = s.mem := rfl
@[simp] theorem State.setWin_site (s : State) (i : Nat) (l : List Nat) : (s.setWin i l).site = s.site := rfl
@[simp] theorem State.setWin_pcie (s : State) (i : Nat) (l : List Nat) : (s.setWin i l).pcie = s.pcie := rfl
@[simp] theorem State.setWin_par (s : State) (i : Nat) (l : List Nat) : (s.setWin i l).par = s.par := rfl
@[simp] theorem State.setWin_kelk (s : State) (i : Nat) (l : List Nat) : (s.setWin i l).kelk = s.kelk := rfl
@[simp] theorem State.setWin_ring (s : State) (i : Nat) (l : List Nat) : (s.setWin i l).ring = s.ring := rfl
@[simp] theorem State.setWin_llp (s : State) (i : Nat) (l : List Nat) : (s.setWin i l).llp = s.llp := rfl
@[simp] theorem State.setWin_cap (s : State) (i : Nat) (l : List Nat) : (s.setWin i l).cap = s.cap := rfl
@[simp] theorem State.setWin_mill (s : State) (i : Nat) (l : List Nat) : (s.setWin i l).mill = s.mill := rfl
@[simp] theorem State.setWin_dram (s : State) (i : Nat) (l : List Nat) : (s.setWin i l).dram = s.dram := rfl
@[simp] theorem State.setWin_host (s : State) (i : Nat) (l : List Nat) : (s.setWin i l).host = s.host := rfl
@[simp] theorem State.setWin_cfg (s : State) (i : Nat) (l : List Nat) : (s.setWin i l).cfg = s.cfg := rfl
@[simp] theorem State.setWin_sec (s : State) (i : Nat) (l : List Nat) : (s.setWin i l).sec = s.sec := rfl
@[simp] theorem State.setWin_dbg (s : State) (i : Nat) (l : List Nat) : (s.setWin i l).dbg = s.dbg := rfl
@[simp] theorem State.setWin_fills (s : State) (i : Nat) (l : List Nat) : (s.setWin i l).fills = s.fills := rfl
@[simp] theorem State.setWin_gpio (s : State) (i : Nat) (l : List Nat) : (s.setWin i l).gpio = s.gpio := rfl
@[simp] theorem State.setWin_start (s : State) (i : Nat) (l : List Nat) : (s.setWin i l).start = s.start := rfl
@[simp] theorem State.setWin_cores (s : State) (i : Nat) (l : List Nat) : (s.setWin i l).cores = s.cores := rfl
@[simp] theorem State.setWin_guest (s : State) (i : Nat) (l : List Nat) : (s.setWin i l).guest = s.guest := rfl
@[simp] theorem State.setWin_com (s : State) (i : Nat) (l : List Nat) : (s.setWin i l).com = s.com := rfl
@[simp] theorem State.setWin_ledger (s : State) (i : Nat) (l : List Nat) : (s.setWin i l).ledger = s.ledger := rfl
@[simp] theorem State.setWin_rd (s : State) (i : Nat) (l : List Nat) (k : Nat) : (s.setWin i l).rd k = s.rd k := rfl
@[simp] theorem State.setWin_rf (s : State) (i : Nat) (l : List Nat) (k : Nat) (fl : Fld) : (s.setWin i l).rf k fl = s.rf k fl := rfl

/-! ### putSlot -/

@[simp] theorem State.putSlot_pending (s : State) (r : PRec) : (s.putSlot r).pending = s.pending := rfl
@[simp] theorem State.putSlot_part (s : State) (r : PRec) : (s.putSlot r).part = s.part := rfl
@[simp] theorem State.putSlot_mode (s : State) (r : PRec) : (s.putSlot r).mode = s.mode := rfl
@[simp] theorem State.putSlot_now (s : State) (r : PRec) : (s.putSlot r).now = s.now := rfl
@[simp] theorem State.putSlot_ttc (s : State) (r : PRec) : (s.putSlot r).ttc = s.ttc := rfl
@[simp] theorem State.putSlot_cal (s : State) (r : PRec) : (s.putSlot r).cal = s.cal := rfl
@[simp] theorem State.putSlot_rtc (s : State) (r : PRec) : (s.putSlot r).rtc = s.rtc := rfl
@[simp] theorem State.putSlot_free (s : State) (r : PRec) : (s.putSlot r).free = s.free := rfl
@[simp] theorem State.putSlot_outs (s : State) (r : PRec) : (s.putSlot r).outs = s.outs := rfl
@[simp] theorem State.putSlot_regs (s : State) (r : PRec) : (s.putSlot r).regs = s.regs := rfl
@[simp] theorem State.putSlot_latch (s : State) (r : PRec) : (s.putSlot r).latch = s.latch := rfl
@[simp] theorem State.putSlot_staged (s : State) (r : PRec) : (s.putSlot r).staged = s.staged := rfl
@[simp] theorem State.putSlot_diesDown (s : State) (r : PRec) : (s.putSlot r).diesDown = s.diesDown := rfl
@[simp] theorem State.putSlot_fab (s : State) (r : PRec) : (s.putSlot r).fab = s.fab := rfl
@[simp] theorem State.putSlot_mem (s : State) (r : PRec) : (s.putSlot r).mem = s.mem := rfl
@[simp] theorem State.putSlot_site (s : State) (r : PRec) : (s.putSlot r).site = s.site := rfl
@[simp] theorem State.putSlot_pcie (s : State) (r : PRec) : (s.putSlot r).pcie = s.pcie := rfl
@[simp] theorem State.putSlot_kelk (s : State) (r : PRec) : (s.putSlot r).kelk = s.kelk := rfl
@[simp] theorem State.putSlot_ring (s : State) (r : PRec) : (s.putSlot r).ring = s.ring := rfl
@[simp] theorem State.putSlot_llp (s : State) (r : PRec) : (s.putSlot r).llp = s.llp := rfl
@[simp] theorem State.putSlot_cap (s : State) (r : PRec) : (s.putSlot r).cap = s.cap := rfl
@[simp] theorem State.putSlot_clk (s : State) (r : PRec) : (s.putSlot r).clk = s.clk := rfl
@[simp] theorem State.putSlot_mill (s : State) (r : PRec) : (s.putSlot r).mill = s.mill := rfl
@[simp] theorem State.putSlot_dram (s : State) (r : PRec) : (s.putSlot r).dram = s.dram := rfl
@[simp] theorem State.putSlot_host (s : State) (r : PRec) : (s.putSlot r).host = s.host := rfl
@[simp] theorem State.putSlot_cfg (s : State) (r : PRec) : (s.putSlot r).cfg = s.cfg := rfl
@[simp] theorem State.putSlot_sec (s : State) (r : PRec) : (s.putSlot r).sec = s.sec := rfl
@[simp] theorem State.putSlot_dbg (s : State) (r : PRec) : (s.putSlot r).dbg = s.dbg := rfl
@[simp] theorem State.putSlot_fills (s : State) (r : PRec) : (s.putSlot r).fills = s.fills := rfl
@[simp] theorem State.putSlot_gpio (s : State) (r : PRec) : (s.putSlot r).gpio = s.gpio := rfl
@[simp] theorem State.putSlot_start (s : State) (r : PRec) : (s.putSlot r).start = s.start := rfl
@[simp] theorem State.putSlot_cores (s : State) (r : PRec) : (s.putSlot r).cores = s.cores := rfl
@[simp] theorem State.putSlot_guest (s : State) (r : PRec) : (s.putSlot r).guest = s.guest := rfl
@[simp] theorem State.putSlot_com (s : State) (r : PRec) : (s.putSlot r).com = s.com := rfl
@[simp] theorem State.putSlot_ledger (s : State) (r : PRec) : (s.putSlot r).ledger = s.ledger := rfl
@[simp] theorem State.putSlot_rd (s : State) (r : PRec) (k : Nat) : (s.putSlot r).rd k = s.rd k := rfl
@[simp] theorem State.putSlot_rf (s : State) (r : PRec) (k : Nat) (fl : Fld) : (s.putSlot r).rf k fl = s.rf k fl := rfl

/-! ### Reading back what a table holds -/

@[simp] theorem State.frt_setFrt (s : State) (f : Nat) (x : FieldRt) (k : Nat) : (s.setFrt f x).frt k = if f = k then x else s.frt k :=
  tabGet_tabPut _ _ _ _ _

@[simp] theorem State.lk_setLk (s : State) (f : Nat) (x : LinkSt) (k : Nat) : (s.setLk f x).lk k = if f = k then x else s.lk k :=
  tabGet_tabPut _ _ _ _ _

@[simp] theorem State.lane_setLane (s : State) (f : Nat) (x : LaneRt) (k : Nat) : (s.setLane f x).lane k = if f = k then x else s.lane k :=
  tabGet_tabPut _ _ _ _ _

@[simp] theorem State.fcu_setFcu (s : State) (f : Nat) (x : FcuSt) (k : Nat) : (s.setFcu f x).fcu k = if f = k then x else s.fcu k :=
  tabGet_tabPut _ _ _ _ _

@[simp] theorem State.tally_setTally (s : State) (f : Nat) (x : TallySt) (k : Nat) : (s.setTally f x).tally k = if f = k then x else s.tally k :=
  tabGet_tabPut _ _ _ _ _

@[simp] theorem State.millE_setMill (s : State) (f : Nat) (x : MillSt) (k : Nat) : (s.setMill f x).millE k = if f = k then x else s.millE k :=
  tabGet_tabPut _ _ _ _ _

@[simp] theorem State.ddr_setDdr (s : State) (f : Nat) (x : DdrSt) (k : Nat) : (s.setDdr f x).ddr k = if f = k then x else s.ddr k :=
  tabGet_tabPut _ _ _ _ _

@[simp] theorem State.srt_setSrt (s : State) (f : Nat) (x : SiteRt) (k : Nat) : (s.setSrt f x).srt k = if f = k then x else s.srt k :=
  tabGet_tabPut _ _ _ _ _

@[simp] theorem State.bank_setBank (s : State) (f : Nat) (x : BankSt) (k : Nat) : (s.setBank f x).bank k = if f = k then x else s.bank k :=
  tabGet_tabPut _ _ _ _ _

@[simp] theorem State.stopSt_setStop (s : State) (f : Nat) (x : StopSt) (k : Nat) : (s.setStop f x).stopSt k = if f = k then x else s.stopSt k :=
  tabGet_tabPut _ _ _ _ _

@[simp] theorem State.bnd_setBnd (s : State) (f : Nat) (x : KelkBnd) (k : Nat) : (s.setBnd f x).bnd k = if f = k then x else s.bnd k :=
  tabGet_tabPut _ _ _ _ _

@[simp] theorem State.grp_setGrp (s : State) (f : Nat) (x : KelkBnd) (k : Nat) : (s.setGrp f x).grp k = if f = k then x else s.grp k :=
  tabGet_tabPut _ _ _ _ _

@[simp] theorem State.core_setCore (s : State) (f : Nat) (x : CoreSt) (k : Nat) : (s.setCore f x).core k = if f = k then x else s.core k :=
  tabGet_tabPut _ _ _ _ _

@[simp] theorem State.conv_setConv (s : State) (f : Nat) (x : ConvSt) (k : Nat) : (s.setConv f x).conv k = if f = k then x else s.conv k :=
  tabGet_tabPut _ _ _ _ _

@[simp] theorem State.grSt_setGrSt (s : State) (f : Nat) (x : GrSt) (k : Nat) : (s.setGrSt f x).grSt k = if f = k then x else s.grSt k :=
  tabGet_tabPut _ _ _ _ _

end Sys2Proof.Machine
end

