-- ==== Sys2Proof/Laws/Notice.lean ====
section
/-! SUPPORT. Which registers the giving of notice writes: interrupts, reports and records. -/
namespace Sys2Proof.Machine

theorem siteBlk_notice {n o : Nat} (h : n < 64) (g : o < 0x1000) : noticeReg (siteBlk n + o) := by
  right; left; unfold siteBlk; omega

theorem State.msixSend_rd (s : State) (fn v k : Nat) : (s.msixSend fn v).rd k = s.rd k := by
  unfold State.msixSend
  split <;> rfl

theorem State.armedIssue_rd (s : State) (a fn v k : Nat) (h : k ≠ a + 4 * (v / 32)) : (s.armedIssue a fn v).rd k = s.rd k := by
  unfold State.armedIssue
  split
  · rfl
  · split
    · rw [State.msixSend_rd, State.setVstat, State.rd_wr, if_neg (Ne.symm h)]
    · rfl

theorem State.sicRoute_lt (s : State) (n cls : Nat) : s.sicRoute n cls < 64 := by
  unfold State.sicRoute natBits
  have h : 8 * (cls % 4) + 5 + 1 - 8 * (cls % 4) = 6 := by omega
  rw [h]
  exact Nat.mod_lt _ (by decide)

/-- An interrupt of a site writes its site block alone. -/
theorem State.sicRaise_rd (s : State) (n cls k : Nat) (h : ¬ noticeReg k) : (s.sicRaise n cls).rd k = s.rd k := by
  unfold State.sicRaise
  split
  · rfl
  · rename_i hn
    have hn : n < 64 := by omega
    split
    · apply State.armedIssue_rd
      intro e
      apply h
      rw [e, Nat.add_assoc]
      have := s.sicRoute_lt n cls
      exact siteBlk_notice hn (by simp only [R.SIC_VSTAT_LO]; omega)
    · dsimp only
      split
      · show State.rd (State.cnt _ _ _) k = _
        rw [State.cnt, State.rd_wr, if_neg]
        · rfl
        · intro e
          apply h
          rw [← e]
          exact siteBlk_notice hn (by decide)
      · rfl

theorem State.pf0Raise_rd (s : State) (v k : Nat) (hv : v < 256) (h : ¬ noticeReg k) : (s.pf0Raise v).rd k = s.rd k := by
  apply State.armedIssue_rd
  intro e
  apply h
  right; right
  rw [e]
  simp only [fnBlk, R.HOST_VSTAT]
  omega

theorem State.siteStat_rd (s : State) (n : Nat) (f : Fld) (k : Nat) (hf : f.ofs < 0x1000) (h : ¬ noticeReg k) : (s.siteStat n f).rd k = s.rd k := by
  unfold State.siteStat
  split
  · rfl
  · rename_i hn
    have hn : n < 64 := by omega
    have e : (s.setF (siteBlk n) f).rd k = s.rd k := by
      rw [State.setF, State.rd_wf, if_neg]
      intro e
      apply h
      rw [← e]
      exact siteBlk_notice hn hf
    dsimp only
    split
    · rw [State.sicRaise_rd _ _ _ _ h, e]
    · exact e

theorem State.siteStatAll_rd (s : State) (sites : Nat) (f : Fld) (k : Nat) (hf : f.ofs < 0x1000) (h : ¬ noticeReg k) :
    (s.siteStatAll sites f).rd k = s.rd k := by
  unfold State.siteStatAll
  generalize List.range 64 = l
  induction l generalizing s with
  | nil => rfl
  | cons a l ih =>
    rw [List.foldl_cons, ih]
    split
    · exact State.siteStat_rd _ _ _ _ hf h
    · rfl

/-- A status bit with its interrupt writes the status register and what gives notice. -/
theorem State.evt_rd (s : State) (n cls b : Nat) (f : Fld) (ie i k : Nat) (h : ¬ noticeReg k) :
    (s.evt n cls b f ie i).rd k = if b + f.ofs = k then wordSet (s.rd k) f.hi f.lo 1 else s.rd k := by
  unfold State.evt
  dsimp only
  split
  · rw [State.sicRaise_rd _ _ _ _ h, State.setF, State.rd_wf]
  · rw [State.setF, State.rd_wf]

@[simp] theorem State.reportSites_rd (s : State) (a b c d e f k : Nat) : (s.reportSites a b c d e f).rd k = s.rd k := rfl
@[simp] theorem State.report_rd (s : State) (a b c d k : Nat) : (s.report a b c d).rd k = s.rd k := rfl
@[simp] theorem State.reportO_rd (s : State) (a b c k : Nat) : (s.reportO a b c).rd k = s.rd k := rfl

theorem parish_notice {o : Nat} (g : o < 0x10000) : noticeReg (parishBlk + o) := by
  left; unfold parishBlk; omega

theorem State.wf_parish_rd (s : State) (f : Fld) (v k : Nat) (g : f.ofs < 0x10000) (h : ¬ noticeReg k) : (s.wf parishBlk f v).rd k = s.rd k := by
  rw [State.rd_wf, if_neg]
  intro e
  exact h (e ▸ parish_notice g)

theorem State.cnt_parish_rd (s : State) (o n k : Nat) (g : o < 0x10000) (h : ¬ noticeReg k) : (s.cnt (parishBlk + o) n).rd k = s.rd k := by
  rw [State.cnt, State.rd_wr, if_neg]
  intro e
  exact h (e ▸ parish_notice g)

theorem State.stageNew_rd (s : State) (r : PRec) (k : Nat) (h : ¬ noticeReg k) : (s.stageNew r).rd k = s.rd k := by
  unfold State.stageNew
  extract_lets r' full first old p x y
  have hx : x.rd k = s.rd k := rfl
  clear_value x
  have hy : y.rd k = s.rd k := by
    show State.rd (if full then _ else _) k = _
    split
    · rw [State.setF, State.wf_parish_rd _ _ _ _ (by decide) h, State.cnt_parish_rd _ _ _ _ (by decide) h, hx]
    · rw [State.wf_parish_rd _ _ _ _ (by decide) h, State.wf_parish_rd _ _ _ _ (by decide) h, hx]
  clear_value y
  split
  · rw [State.wf_parish_rd _ _ _ _ (by decide) h, hy]
  · split
    · rw [State.wf_parish_rd _ _ _ _ (by decide) h, hy]
    · exact hy

theorem State.stage_rd (s : State) (r : PRec) (k : Nat) (h : ¬ noticeReg k) : (s.stage r).rd k = s.rd k := by
  unfold State.stage
  split
  · split
    · rfl
    · exact State.stageNew_rd _ _ _ h
  · exact State.stageNew_rd _ _ _ h

theorem State.record_rd (s : State) (a b c d e k : Nat) (h : ¬ noticeReg k) : (s.record a b c d e).rd k = s.rd k := State.stage_rd _ _ _ h

theorem State.recordO_rd (s : State) (a b c k : Nat) (h : ¬ noticeReg k) : (s.recordO a b c).rd k = s.rd k := by
  unfold State.recordO
  exact State.record_rd _ _ _ _ _ _ _ h

end Sys2Proof.Machine
end

