-- ==== Sys2Proof/Laws/Fields.lean ====
section
/-! SUPPORT. What bringing a field's clocks in line writes (R78-R85). -/
namespace Sys2Proof.Machine

theorem fieldPage_notice (f o : Nat) : ¬ noticeReg (fieldPage f + o) := by
  unfold noticeReg fieldPage dieF; omega

theorem State.setFrt_frt (s : State) (f : Nat) (x : FieldRt) : (s.setFrt f x).frt f = x := by simp

/-- STRETCH brought in line writes the field's FCK_STAT, STRETCH and STRETCH_CHG alone. -/
theorem State.stretchField_rd (s : State) (f k : Nat) (h : ¬ noticeReg k) (g : k ≠ fieldPage f + R.FCK_STAT) :
    (s.stretchField f).rd k = s.rd k := by
  unfold State.stretchField
  dsimp only
  split
  · rfl
  · rw [State.siteStat_rd _ _ _ _ (by decide) h, State.setF, State.rd_wf_ne _ _ _ _ _ (Ne.symm g), State.rd_wf_ne _ _ _ _ _ (Ne.symm g)]

theorem State.stretchField_rf (s : State) (f : Nat) (x : Fld) (hx : x.hi < 10 ∧ x.ofs = 8) :
    (s.stretchField f).rf (fieldPage f) x = s.rf (fieldPage f) x := by
  unfold State.stretchField
  dsimp only
  split
  · rfl
  · rw [State.rf, State.siteStat_rd _ _ _ _ (by decide) (fieldPage_notice _ _), ← State.rf, State.setF,
      State.rf_wf_apart _ _ _ _ _ _ (by omega) (Or.inl (by simp only [R.FCK_STAT_STRETCH_CHG]; omega)),
      State.rf_wf_apart _ _ _ _ _ _ (by omega) (Or.inl (by simp only [R.FCK_STAT_STRETCH]; omega))]

theorem State.ckUpdate_rd (s : State) (f k : Nat) (h : ¬ noticeReg k) (g : k ≠ fieldPage f + R.FCK_STAT) : (s.ckUpdate f).rd k = s.rd k := by
  unfold State.ckUpdate
  dsimp only
  rw [State.stretchField_rd _ _ _ h g, State.rd_wf_ne _ _ _ _ _ (Ne.symm g)]

/-- The other low fields of FCK_STAT stay. -/
theorem State.ckUpdate_rf (s : State) (f : Nat) (x : Fld) (hx : 3 < x.lo ∧ x.hi < 10 ∧ x.ofs = 8) :
    (s.ckUpdate f).rf (fieldPage f) x = s.rf (fieldPage f) x := by
  unfold State.ckUpdate
  dsimp only
  rw [State.stretchField_rf _ _ _ hx.2, State.rf_wf_apart _ _ _ _ _ _ (by omega) (Or.inr (by simp only [R.FCK_STAT_CK_ON]; omega))]

/-- CK_ON after it. -/
theorem State.ckUpdate_ckOn (s : State) (f : Nat) :
    (s.ckUpdate f).rf (fieldPage f) R.FCK_STAT_CK_ON =
      (if (s.frt f).configured && (s.frt f).pend.isNone && !s.fieldHalted f && s.flag (fieldPage f) R.FCK_STAT_LOCKED
        then (s.frt f).ckEn else 0) % 16 := by
  unfold State.ckUpdate
  dsimp only
  rw [State.stretchField_rf _ _ _ (by decide), State.rf_wf _ _ _ _ (by decide)]
  rfl

theorem State.ckUpdate_fab (s : State) (f : Nat) : (s.ckUpdate f).fab = s.fab :=
  Keep.fab (m := 0x18300) (State.ckUpdate_upd s f).keep (by decide)

theorem State.ckUpdate_frt (s : State) (f g : Nat) : (s.ckUpdate f).frt g = s.frt g := by
  unfold State.frt
  rw [State.ckUpdate_fab]

end Sys2Proof.Machine
end

