-- ==== Sys2Proof/Laws/FramePins.lean ====
section
/-! SUPPORT. What each operation of Sys2Proof/Machine/Pins.lean may change: the fields whose bits are set, in the order of State. -/
namespace Sys2Proof.Machine

theorem State.setPinBit_upd (s : State) (b : Nat) (ofs : Nat) (p : Nat) (v : Bool) : Upd 0x200 s (State.setPinBit s b ofs p v) := by
  unfold State.setPinBit
  extract_lets +onlyGivenNames x1
  clear_value x1
  refine Upd.step (State.wr_upd ..) rfl ?_
  exact Upd.refl _ _

theorem State.tallyPulses_upd (s : State) (g : Nat) : Upd 0x100 s (State.tallyPulses s g) := by
  unfold State.tallyPulses
  refine Upd.foldl ?_ (fun y1 a2 h3 => ?_)
  · exact Upd.refl _ _
  · refine Upd.ite ?_ ?_
    · refine Upd.step (State.emit_upd ..) rfl ?_
      exact h3
    · exact h3

end Sys2Proof.Machine
end

