-- ==== Sys2Proof/Laws/FrameTallyOps.lean ====
section
/-! SUPPORT. What each operation of Sys2Proof/Machine/TallyOps.lean may change: the fields whose bits are set, in the order of State. -/
namespace Sys2Proof.Machine

theorem State.tallyEvt_upd (s : State) (g : Nat) (f : Fld) : Upd 0x18300 s (State.tallyEvt s g f) := by
  unfold State.tallyEvt
  refine Upd.step (State.evt_upd ..) rfl ?_
  exact Upd.refl _ _

theorem State.tallyStale_upd (s : State) (g : Nat) : Upd 0x18300 s (State.tallyStale s g) := by
  unfold State.tallyStale
  refine Upd.ite ?_ ?_
  · exact Upd.refl _ _
  · refine Upd.step (State.tallyEvt_upd ..) rfl ?_
    refine Upd.step (State.cnt_upd ..) rfl ?_
    exact Upd.refl _ _

theorem State.setOpen_upd (s : State) (g : Nat) (x : TallySt) : Upd 0x200200 s (State.setOpen s g x) := by
  unfold State.setOpen
  refine Upd.step (State.wf_upd ..) rfl ?_
  refine Upd.step (State.setTally_upd ..) rfl ?_
  exact Upd.refl _ _

theorem State.tallyClose_upd (s : State) (g : Nat) (tmo : Bool) : Upd 0x218300 s (State.tallyClose s g tmo) := by
  unfold State.tallyClose
  extract_lets +onlyGivenNames x1
  clear_value x1
  extract_lets +onlyGivenNames x2
  clear_value x2
  split
  · extract_lets +onlyGivenNames x3
    clear_value x3
    extract_lets +onlyGivenNames x4
    clear_value x4
    extract_lets +onlyGivenNames x5
    clear_value x5
    extract_lets +onlyGivenNames x6
    clear_value x6
    extract_lets +onlyGivenNames x7
    refine cut (P := Upd 0x218300 s x7) ?_ (fun h8 => ?_)
    · unfold x7
      refine Upd.step (State.setOpen_upd ..) rfl ?_
      exact Upd.refl _ _
    clear_value x7
    extract_lets +onlyGivenNames x9
    refine cut (P := Upd 0x218300 s x9) ?_ (fun h10 => ?_)
    · unfold x9
      refine Upd.step (State.wr_upd ..) rfl ?_
      exact h8
    clear_value x9
    extract_lets +onlyGivenNames x11
    refine cut (P := Upd 0x218300 s x11) ?_ (fun h12 => ?_)
    · unfold x11
      refine Upd.step (State.wr_upd ..) rfl ?_
      exact h10
    clear_value x11
    extract_lets +onlyGivenNames x13
    refine cut (P := Upd 0x218300 s x13) ?_ (fun h14 => ?_)
    · unfold x13
      refine Upd.ite ?_ ?_
      · refine Upd.step (State.tallyEvt_upd ..) rfl ?_
        exact h12
      · exact h12
    clear_value x13
    extract_lets +onlyGivenNames x15
    refine cut (P := Upd 0x218300 s x15) ?_ (fun h16 => ?_)
    · unfold x15
      refine Upd.ite ?_ ?_
      · refine Upd.step (State.tallyEvt_upd ..) rfl ?_
        exact h14
      · exact h14
    clear_value x15
    refine Upd.step (State.tallyPulses_upd ..) rfl ?_
    refine Upd.step (State.tallyEvt_upd ..) rfl ?_
    exact h16

theorem State.tallyCheck_upd (s : State) (g : Nat) : Upd 0x218300 s (State.tallyCheck s g) := by
  unfold State.tallyCheck
  extract_lets +onlyGivenNames x1
  clear_value x1
  refine Upd.ite ?_ ?_
  · refine Upd.step (State.tallyClose_upd ..) rfl ?_
    exact Upd.refl _ _
  · exact Upd.refl _ _

theorem State.tallyLinkLeft_upd (s : State) (g : Nat) : Upd 0x218300 s (State.tallyLinkLeft s g) := by
  unfold State.tallyLinkLeft
  extract_lets +onlyGivenNames x1
  clear_value x1
  refine Upd.ite ?_ ?_
  · exact Upd.refl _ _
  · extract_lets +onlyGivenNames x2
    refine cut (P := Upd 0x218300 s x2) ?_ (fun h3 => ?_)
    · unfold x2
      refine Upd.step (State.setTally_upd ..) rfl ?_
      exact Upd.refl _ _
    clear_value x2
    refine Upd.ite ?_ ?_
    · refine Upd.step (State.tallyClose_upd ..) rfl ?_
      exact h3
    · refine Upd.step (State.tallyCheck_upd ..) rfl ?_
      exact h3

theorem State.tallyAbandon_upd (s : State) (g : Nat) : Upd 0x200200 s (State.tallyAbandon s g) := by
  unfold State.tallyAbandon
  refine Upd.step (State.setOpen_upd ..) rfl ?_
  exact Upd.refl _ _

theorem State.matchApply_upd (s : State) (l : Nat) (p : List Byte) : Upd 0x300200 s (State.matchApply s l p) := by
  unfold State.matchApply
  extract_lets +onlyGivenNames x1
  clear_value x1
  extract_lets +onlyGivenNames x2
  clear_value x2
  refine Upd.ite ?_ ?_
  · refine Upd.step (State.setLk_upd ..) rfl ?_
    exact Upd.refl _ _
  · extract_lets +onlyGivenNames x3
    clear_value x3
    extract_lets +onlyGivenNames x4
    clear_value x4
    extract_lets +onlyGivenNames x5
    clear_value x5
    extract_lets +onlyGivenNames x6
    clear_value x6
    extract_lets +onlyGivenNames x7
    clear_value x7
    extract_lets +onlyGivenNames x8
    refine cut (P := Upd 0x300200 s x8) ?_ (fun h9 => ?_)
    · unfold x8
      refine Upd.foldl ?_ (fun y10 a11 h12 => ?_)
      · exact Upd.refl _ _
      · split
        · refine Upd.step (State.setMat_upd ..) rfl ?_
          exact h12
        · exact h12
    clear_value x8
    extract_lets +onlyGivenNames x13
    clear_value x13
    extract_lets +onlyGivenNames x14
    refine cut (P := Upd 0x300200 s x14) ?_ (fun h15 => ?_)
    · unfold x14
      refine Upd.step (State.setLk_upd ..) rfl ?_
      exact h9
    clear_value x14
    refine Upd.ite ?_ ?_
    · exact h15
    · refine Upd.step (State.fcuStat_upd ..) rfl ?_
      refine Upd.step (State.fcuCnt_upd ..) rfl ?_
      exact h15

theorem State.tallyClear_upd (s : State) (g : Nat) : Upd 0x100000 s (State.tallyClear s g) := by
  unfold State.tallyClear
  refine Upd.foldl ?_ (fun y1 a2 h3 => ?_)
  · exact Upd.refl _ _
  · refine Upd.ite ?_ ?_
    · refine Upd.step (State.setLk_upd ..) rfl ?_
      exact h3
    · exact h3

theorem State.matchReport_upd (s : State) (l : Nat) (p : List Byte) : Upd 0x318300 s (State.matchReport s l p) := by
  unfold State.matchReport
  extract_lets +onlyGivenNames x1
  clear_value x1
  extract_lets +onlyGivenNames x2
  clear_value x2
  extract_lets +onlyGivenNames x3
  refine cut (P := Upd 0x318300 s x3) ?_ (fun h4 => ?_)
  · unfold x3
    refine Upd.step (State.clrTo_upd ..) rfl ?_
    exact Upd.refl _ _
  clear_value x3
  refine Upd.ite ?_ ?_
  · exact h4
  · refine Upd.ite ?_ ?_
    · refine Upd.step (State.cnt_upd ..) rfl ?_
      exact h4
    · refine Upd.ite ?_ ?_
      · refine Upd.step (State.tallyStale_upd ..) rfl ?_
        exact h4
      · extract_lets +onlyGivenNames x5
        clear_value x5
        refine Upd.ite ?_ ?_
        · refine Upd.step (State.tallyStale_upd ..) rfl ?_
          exact h4
        · extract_lets +onlyGivenNames x6
          refine cut (P := Upd 0x318300 s x6) ?_ (fun h7 => ?_)
          · unfold x6
            refine Upd.ite ?_ ?_
            · exact h4
            · refine Upd.step (State.setOpen_upd ..) rfl ?_
              refine Upd.step (State.tallyClear_upd ..) rfl ?_
              exact h4
          clear_value x6
          extract_lets +onlyGivenNames x8
          refine cut (P := Upd 0x318300 s x8) ?_ (fun h9 => ?_)
          · unfold x8
            refine Upd.step (State.matchApply_upd ..) rfl ?_
            exact h7
          clear_value x8
          refine Upd.step (State.tallyCheck_upd ..) rfl ?_
          refine Upd.step (State.setTally_upd ..) rfl ?_
          exact h9

end Sys2Proof.Machine
end

