-- ==== Sys2Proof/Laws/FrameLinkOps.lean ====
section
/-! SUPPORT. What each operation of Sys2Proof/Machine/LinkOps.lean may change: the fields whose bits are set, in the order of State. -/
namespace Sys2Proof.Machine

theorem State.bellCopy_upd (s : State) (l : Nat) (bs : List Byte) (hit : Bool) (second : Nat) : Upd 0x100100 s (State.bellCopy s l bs hit second) := by
  unfold State.bellCopy
  refine Upd.ite ?_ ?_
  · refine Upd.ite ?_ ?_
    · exact Upd.refl _ _
    · refine Upd.step (State.sendLane_upd ..) rfl ?_
      exact Upd.refl _ _
  · refine Upd.step (State.sendLane_upd ..) rfl ?_
    exact Upd.refl _ _

theorem State.bellSend_upd (s : State) (l : Nat) : Upd 0x100300 s (State.bellSend s l) := by
  unfold State.bellSend
  extract_lets +onlyGivenNames x1
  clear_value x1
  split
  · exact Upd.refl _ _
  · refine Upd.ite ?_ ?_
    · exact Upd.refl _ _
    · refine Upd.ite ?_ ?_
      · refine Upd.step (State.setLk_upd ..) rfl ?_
        exact Upd.refl _ _
      · extract_lets +onlyGivenNames x2
        clear_value x2
        split
        · extract_lets +onlyGivenNames x3
          refine cut (P := Upd 0x100300 s x3) ?_ (fun h4 => ?_)
          · unfold x3
            refine Upd.step (State.setLk_upd ..) rfl ?_
            exact Upd.refl _ _
          clear_value x3
          extract_lets +onlyGivenNames x5
          refine cut (P := Upd 0x100300 s x5) ?_ (fun h6 => ?_)
          · unfold x5
            refine Upd.ite ?_ ?_
            · refine Upd.step (State.linkCnt_upd ..) rfl ?_
              exact h4
            · exact h4
          clear_value x5
          refine Upd.step (State.bellCopy_upd ..) rfl ?_
          refine Upd.step (State.bellCopy_upd ..) rfl ?_
          exact h6

theorem bellDrain_upd (n l : Nat) (s : State) : Upd 0x100300 s (bellDrain n l s) := by
  induction n generalizing s with
  | zero => exact Upd.refl _ _
  | succ n ih =>
    unfold bellDrain
    exact Upd.step (ih ..) (by rfl) (Upd.mono (State.bellSend_upd ..) (by rfl))

theorem State.sendItem_upd (s : State) (l : Nat) (i : LaneItem) : Upd 0x100300 s (State.sendItem s l i) := by
  unfold State.sendItem
  refine Upd.step (State.sendLane_upd ..) rfl ?_
  refine Upd.step (bellDrain_upd ..) rfl ?_
  exact Upd.refl _ _

theorem State.emitFrame_upd (s : State) (l : Nat) (f : LFrame) (alt : Option TxAlt) : Upd 0x100300 s (State.emitFrame s l f alt) := by
  unfold State.emitFrame
  extract_lets +onlyGivenNames x1
  clear_value x1
  extract_lets +onlyGivenNames x2
  clear_value x2
  refine Upd.step (State.sendItem_upd ..) rfl ?_
  refine Upd.step (State.setLk_upd ..) rfl ?_
  exact Upd.refl _ _

theorem State.afterFrame_upd (s : State) (l : Nat) (held : Option LFrame) : Upd 0x100300 s (State.afterFrame s l held) := by
  unfold State.afterFrame
  split
  · exact Upd.refl _ _
  · refine Upd.step (State.emitFrame_upd ..) rfl ?_
    refine Upd.step (State.setLk_upd ..) rfl ?_
    exact Upd.refl _ _

theorem State.sendFrame_upd (s : State) (l : Nat) (f : LFrame) : Upd 0x100300 s (State.sendFrame s l f) := by
  unfold State.sendFrame
  extract_lets +onlyGivenNames x1
  clear_value x1
  extract_lets +onlyGivenNames x2
  clear_value x2
  refine Upd.ite ?_ ?_
  · split
    · extract_lets +onlyGivenNames x3
      clear_value x3
      extract_lets +onlyGivenNames x4
      refine cut (P := Upd 0x100300 s x4) ?_ (fun h5 => ?_)
      · unfold x4
        refine Upd.step (State.setLk_upd ..) rfl ?_
        exact Upd.refl _ _
      clear_value x4
      refine Upd.ite ?_ ?_
      · refine Upd.step (State.afterFrame_upd ..) rfl ?_
        refine Upd.step (State.emitFrame_upd ..) rfl ?_
        exact h5
      · extract_lets +onlyGivenNames x6
        refine cut (P := Upd 0x100300 s x6) ?_ (fun h7 => ?_)
        · unfold x6
          refine Upd.step (State.linkCnt_upd ..) rfl ?_
          exact h5
        clear_value x6
        refine Upd.ite ?_ ?_
        · exact h7
        · refine Upd.ite ?_ ?_
          · refine Upd.step (State.afterFrame_upd ..) rfl ?_
            refine Upd.step (State.emitFrame_upd ..) rfl ?_
            exact h7
          · refine Upd.step (State.setLk_upd ..) rfl ?_
            exact h7
  · refine Upd.step (State.afterFrame_upd ..) rfl ?_
    refine Upd.step (State.emitFrame_upd ..) rfl ?_
    exact Upd.refl _ _

theorem State.sendLinkSet_upd (s : State) (l : Nat) (nak : Bool) : Upd 0x100300 s (State.sendLinkSet s l nak) := by
  unfold State.sendLinkSet
  extract_lets +onlyGivenNames x1
  clear_value x1
  extract_lets +onlyGivenNames x2
  refine cut (P := Upd 0x100300 s x2) ?_ (fun h3 => ?_)
  · unfold x2
    refine Upd.ite ?_ ?_
    · refine Upd.step (State.linkCnt_upd ..) rfl ?_
      exact Upd.refl _ _
    · exact Upd.refl _ _
  clear_value x2
  refine Upd.step (State.sendItem_upd ..) rfl ?_
  exact h3

theorem State.sendRst_upd (s : State) (l : Nat) : Upd 0x100100 s (State.sendRst s l) := by
  unfold State.sendRst
  refine Upd.step (State.sendLane_upd ..) rfl ?_
  refine Upd.step (State.sendLane_upd ..) rfl ?_
  exact Upd.refl _ _

theorem State.sendNak_upd (s : State) (l : Nat) : Upd 0x100300 s (State.sendNak s l) := by
  unfold State.sendNak
  extract_lets +onlyGivenNames x1
  clear_value x1
  refine Upd.ite ?_ ?_
  · exact Upd.refl _ _
  · refine Upd.step (State.sendLinkSet_upd ..) rfl ?_
    refine Upd.step (State.setLk_upd ..) rfl ?_
    exact Upd.refl _ _

theorem State.abortTx_upd (s : State) (l : Nat) : Upd 0x100100 s (State.abortTx s l) := by
  unfold State.abortTx
  extract_lets +onlyGivenNames x1
  clear_value x1
  refine Upd.ite ?_ ?_
  · extract_lets +onlyGivenNames x2
    refine cut (P := Upd 0x100100 s x2) ?_ (fun h3 => ?_)
    · unfold x2
      refine Upd.step (State.setLk_upd ..) rfl ?_
      exact Upd.refl _ _
    clear_value x2
    refine Upd.ite ?_ ?_
    · exact h3
    · refine Upd.step (State.sendLane_upd ..) rfl ?_
      exact h3
  · exact Upd.refl _ _

theorem State.atDrop_upd (s : State) (l : Nat) : Upd 0x200 s (State.atDrop s l) := by
  unfold State.atDrop
  refine Upd.step (State.setF_upd ..) rfl ?_
  refine Upd.step (State.cnt_upd ..) rfl ?_
  exact Upd.refl _ _

theorem State.ctrlDone_upd (s : State) (l : Nat) (code : Nat) : Upd 0x118300 s (State.ctrlDone s l code) := by
  unfold State.ctrlDone
  extract_lets +onlyGivenNames x1
  clear_value x1
  extract_lets +onlyGivenNames x2
  clear_value x2
  extract_lets +onlyGivenNames x3
  refine cut (P := Upd 0x118300 s x3) ?_ (fun h4 => ?_)
  · unfold x3
    refine Upd.step (State.setLk_upd ..) rfl ?_
    exact Upd.refl _ _
  clear_value x3
  extract_lets +onlyGivenNames x5
  refine cut (P := Upd 0x118300 s x5) ?_ (fun h6 => ?_)
  · unfold x5
    refine Upd.step (State.clrF_upd ..) rfl ?_
    refine Upd.step (State.wf_upd ..) rfl ?_
    exact h4
  clear_value x5
  refine Upd.step (State.evt_upd ..) rfl ?_
  exact h6

theorem State.ctrlDown_upd (s : State) (l : Nat) : Upd 0x118300 s (State.ctrlDown s l) := by
  unfold State.ctrlDown
  refine Upd.ite ?_ ?_
  · refine Upd.step (State.ctrlDone_upd ..) rfl ?_
    exact Upd.refl _ _
  · exact Upd.refl _ _

theorem State.linkReport_upd (s : State) (l : Nat) (code : Nat) (data : Nat) : Upd 0x20080 s (State.linkReport s l code data) := by
  unfold State.linkReport
  split
  · rename_i v1 v2 v3 v4
    refine cut (P := Upd 0x20080 s v3) (UpdP.out ?_ v4) (fun h5 => ?_)
    · refine UpdP.step (State.fresh_upd ..) rfl ?_
      exact Upd.refl _ _
    refine Upd.step (State.reportSites_upd ..) rfl ?_
    exact h5

theorem State.linkDepart_upd (s : State) (l : Nat) (old : Nat) (cause : Nat) : Upd 0x338380 s (State.linkDepart s l old cause) := by
  unfold State.linkDepart
  extract_lets +onlyGivenNames x1
  clear_value x1
  extract_lets +onlyGivenNames x2
  refine cut (P := Upd 0x338380 s x2) ?_ (fun h3 => ?_)
  · unfold x2
    refine Upd.ite ?_ ?_
    · refine Upd.step (State.wf_upd ..) rfl ?_
      exact Upd.refl _ _
    · exact Upd.refl _ _
  clear_value x2
  extract_lets +onlyGivenNames x4
  clear_value x4
  extract_lets +onlyGivenNames x5
  refine cut (P := Upd 0x338380 s x5) ?_ (fun h6 => ?_)
  · unfold x5
    refine Upd.step (State.setLk_upd ..) rfl ?_
    exact h3
  clear_value x5
  refine Upd.ite ?_ ?_
  · extract_lets +onlyGivenNames x7
    refine cut (P := Upd 0x338380 s x7) ?_ (fun h8 => ?_)
    · unfold x7
      refine Upd.step (State.ctrlDown_upd ..) rfl ?_
      refine Upd.step (State.abortTx_upd ..) rfl ?_
      exact h6
    clear_value x7
    extract_lets +onlyGivenNames x9
    refine cut (P := Upd 0x338380 s x9) ?_ (fun h10 => ?_)
    · unfold x9
      refine Upd.step (State.linkReport_upd ..) rfl ?_
      exact h8
    clear_value x9
    refine Upd.ite ?_ ?_
    · refine Upd.step (State.tallyLinkLeft_upd ..) rfl ?_
      exact h10
    · exact h10
  · exact h6

theorem State.linkMove_upd (s : State) (l : Nat) (new : Nat) (cause : Nat) : Upd 0x338380 s (State.linkMove s l new cause) := by
  unfold State.linkMove
  extract_lets +onlyGivenNames x1
  clear_value x1
  refine Upd.step (State.linkDepart_upd ..) rfl ?_
  refine Upd.step (State.wf_upd ..) rfl ?_
  exact Upd.refl _ _

theorem State.helloFresh_upd (s : State) (l : Nat) : Upd 0x100200 s (State.helloFresh s l) := by
  unfold State.helloFresh
  extract_lets +onlyGivenNames x1
  clear_value x1
  extract_lets +onlyGivenNames x2
  clear_value x2
  extract_lets +onlyGivenNames x3
  clear_value x3
  extract_lets +onlyGivenNames x4
  refine cut (P := Upd 0x100200 s x4) ?_ (fun h5 => ?_)
  · unfold x4
    refine Upd.step (State.setLk_upd ..) rfl ?_
    exact Upd.refl _ _
  clear_value x4
  refine Upd.ite ?_ ?_
  · exact h5
  · refine Upd.step (State.linkCnt_upd ..) rfl ?_
    exact h5

theorem State.toHelloWait_upd (s : State) (l : Nat) (cause : Nat) : Upd 0x338380 s (State.toHelloWait s l cause) := by
  unfold State.toHelloWait
  refine Upd.step (State.helloFresh_upd ..) rfl ?_
  refine Upd.step (State.linkMove_upd ..) rfl ?_
  exact Upd.refl _ _

theorem State.toResync_upd (s : State) (l : Nat) (cause : Nat) : Upd 0x338380 s (State.toResync s l cause) := by
  unfold State.toResync
  extract_lets +onlyGivenNames x1
  refine cut (P := Upd 0x338380 s x1) ?_ (fun h2 => ?_)
  · unfold x1
    refine Upd.step (State.linkMove_upd ..) rfl ?_
    exact Upd.refl _ _
  clear_value x1
  extract_lets +onlyGivenNames x3
  refine cut (P := Upd 0x338380 s x3) ?_ (fun h4 => ?_)
  · unfold x3
    refine Upd.step (State.abortTx_upd ..) rfl ?_
    refine Upd.step (State.linkEvt_upd ..) rfl ?_
    exact h2
  clear_value x3
  extract_lets +onlyGivenNames x5
  clear_value x5
  extract_lets +onlyGivenNames x6
  refine cut (P := Upd 0x338380 s x6) ?_ (fun h7 => ?_)
  · unfold x6
    refine Upd.step (State.setLk_upd ..) rfl ?_
    exact h4
  clear_value x6
  refine Upd.step (State.sendRst_upd ..) rfl ?_
  refine Upd.step (State.sendRst_upd ..) rfl ?_
  refine Upd.step (State.sendRst_upd ..) rfl ?_
  refine Upd.step (State.sendRst_upd ..) rfl ?_
  exact h7

theorem State.linkLaneDown_upd (s : State) (l : Nat) : Upd 0x338380 s (State.linkLaneDown s l) := by
  unfold State.linkLaneDown
  refine Upd.ite ?_ ?_
  · exact Upd.refl _ _
  · refine Upd.step (State.linkEvt_upd ..) rfl ?_
    refine Upd.step (State.linkMove_upd ..) rfl ?_
    exact Upd.refl _ _

theorem State.linkLaneUp_upd (s : State) (l : Nat) : Upd 0x338380 s (State.linkLaneUp s l) := by
  unfold State.linkLaneUp
  refine Upd.ite ?_ ?_
  · refine Upd.step (State.toHelloWait_upd ..) rfl ?_
    exact Upd.refl _ _
  · exact Upd.refl _ _

theorem State.replayNow_upd (s : State) (l : Nat) : Upd 0x338380 s (State.replayNow s l) := by
  unfold State.replayNow
  extract_lets +onlyGivenNames x1
  refine cut (P := Upd 0x338380 s x1) ?_ (fun h2 => ?_)
  · unfold x1
    refine Upd.step (State.linkCnt_upd ..) rfl ?_
    exact Upd.refl _ _
  clear_value x1
  extract_lets +onlyGivenNames x3
  clear_value x3
  extract_lets +onlyGivenNames x4
  refine cut (P := Upd 0x338380 s x4) ?_ (fun h5 => ?_)
  · unfold x4
    refine Upd.step (State.setLk_upd ..) rfl ?_
    exact h2
  clear_value x4
  refine Upd.ite ?_ ?_
  · refine Upd.step (State.toResync_upd ..) rfl ?_
    exact h5
  · refine Upd.foldl ?_ (fun y6 a7 h8 => ?_)
    · refine Upd.step (State.abortTx_upd ..) rfl ?_
      exact h5
    · refine Upd.step (State.sendFrame_upd ..) rfl ?_
      exact h8

theorem State.ackSeq_upd (s : State) (l : Nat) (ack : Nat) : Upd 0x100200 s (State.ackSeq s l ack) := by
  unfold State.ackSeq
  extract_lets +onlyGivenNames x1
  clear_value x1
  extract_lets +onlyGivenNames x2
  clear_value x2
  extract_lets +onlyGivenNames x3
  clear_value x3
  refine Upd.ite ?_ ?_
  · refine Upd.step (State.linkCnt_upd ..) rfl ?_
    exact Upd.refl _ _
  · refine Upd.ite ?_ ?_
    · exact Upd.refl _ _
    · refine Upd.step (State.setLk_upd ..) rfl ?_
      exact Upd.refl _ _

theorem State.nakIn_upd (s : State) (l : Nat) (ack : Nat) (runs : Nat) : Upd 0x338380 s (State.nakIn s l ack runs) := by
  unfold State.nakIn
  extract_lets +onlyGivenNames x1
  refine cut (P := Upd 0x338380 s x1) ?_ (fun h2 => ?_)
  · unfold x1
    refine Upd.step (State.linkCnt_upd ..) rfl ?_
    exact Upd.refl _ _
  clear_value x1
  extract_lets +onlyGivenNames x3
  clear_value x3
  extract_lets +onlyGivenNames x4
  clear_value x4
  refine Upd.ite ?_ ?_
  · refine Upd.step (State.setLk_upd ..) rfl ?_
    exact h2
  · refine Upd.ite ?_ ?_
    · exact h2
    · refine Upd.step (State.replayNow_upd ..) rfl ?_
      refine Upd.step (State.setLk_upd ..) rfl ?_
      exact h2

theorem State.limitsIn_upd (s : State) (l : Nat) (d : Nat) (c : Nat) : Upd 0x118300 s (State.limitsIn s l d c) := by
  unfold State.limitsIn
  extract_lets +onlyGivenNames x1
  clear_value x1
  split
  · split
    · extract_lets +onlyGivenNames x2
      refine cut (P := Upd 0x118300 s x2) ?_ (fun h3 => ?_)
      · unfold x2
        refine Upd.step (State.setLk_upd ..) rfl ?_
        exact Upd.refl _ _
      clear_value x2
      refine Upd.ite ?_ ?_
      · refine Upd.step (State.linkEvt_upd ..) rfl ?_
        refine Upd.step (State.linkCnt_upd ..) rfl ?_
        exact h3
      · exact h3

theorem State.protoErr_upd (s : State) (l : Nat) : Upd 0x18300 s (State.protoErr s l) := by
  unfold State.protoErr
  refine Upd.step (State.linkEvt_upd ..) rfl ?_
  refine Upd.step (State.linkCnt_upd ..) rfl ?_
  exact Upd.refl _ _

theorem State.retCredit_upd (s : State) (l : Nat) (ty : Nat) : Upd 0x100000 s (State.retCredit s l ty) := by
  unfold State.retCredit
  extract_lets +onlyGivenNames x1
  clear_value x1
  refine Upd.ite ?_ ?_
  · refine Upd.step (State.setLk_upd ..) rfl ?_
    exact Upd.refl _ _
  · refine Upd.ite ?_ ?_
    · refine Upd.step (State.setLk_upd ..) rfl ?_
      exact Upd.refl _ _
    · refine Upd.ite ?_ ?_
      · refine Upd.step (State.setLk_upd ..) rfl ?_
        exact Upd.refl _ _
      · exact Upd.refl _ _

theorem State.takeCredit_upd (s : State) (l : Nat) (ty : Nat) : UpdL 0x100000 s (State.takeCredit s l ty) := by
  unfold State.takeCredit
  extract_lets +onlyGivenNames x1
  clear_value x1
  refine UpdL.ite ?_ ?_
  · refine UpdL.mk ?_
    refine Upd.step (State.setLk_upd ..) rfl ?_
    exact Upd.refl _ _
  · refine UpdL.ite ?_ ?_
    · refine UpdL.mk ?_
      refine Upd.step (State.setLk_upd ..) rfl ?_
      exact Upd.refl _ _
    · refine UpdL.ite ?_ ?_
      · refine UpdL.mk ?_
        refine Upd.step (State.setLk_upd ..) rfl ?_
        exact Upd.refl _ _
      · refine UpdL.mk ?_
        exact Upd.refl _ _

theorem State.ctrlResponse_upd (s : State) (l : Nat) (f : LFrame) : Upd 0x118300 s (State.ctrlResponse s l f) := by
  unfold State.ctrlResponse
  extract_lets +onlyGivenNames x1
  clear_value x1
  extract_lets +onlyGivenNames x2
  clear_value x2
  extract_lets +onlyGivenNames x3
  clear_value x3
  split
  · refine Upd.step (State.linkCnt_upd ..) rfl ?_
    exact Upd.refl _ _
  · refine Upd.ite ?_ ?_
    · refine Upd.step (State.linkCnt_upd ..) rfl ?_
      exact Upd.refl _ _
    · refine Upd.ite ?_ ?_
      · refine Upd.step (State.protoErr_upd ..) rfl ?_
        exact Upd.refl _ _
      · extract_lets +onlyGivenNames x4
        refine cut (P := Upd 0x118300 s x4) ?_ (fun h5 => ?_)
        · unfold x4
          refine Upd.foldl ?_ (fun y6 a7 h8 => ?_)
          · exact Upd.refl _ _
          · refine Upd.step (State.wr_upd ..) rfl ?_
            exact h8
        clear_value x4
        refine Upd.step (State.ctrlDone_upd ..) rfl ?_
        exact h5

theorem State.releaseFrame_upd (s : State) (l : Nat) (h : HeldFrame) : Upd 0x118300 s (State.releaseFrame s l h) := by
  unfold State.releaseFrame
  extract_lets +onlyGivenNames x1
  refine Upd.ite ?_ ?_
  · unfold x1
    refine Upd.ite ?_ ?_
    · refine Upd.step (State.retCredit_upd ..) rfl ?_
      refine Upd.step (State.linkCnt_upd ..) rfl ?_
      exact Upd.refl _ _
    · refine Upd.step (State.linkCnt_upd ..) rfl ?_
      exact Upd.refl _ _
  · refine Upd.ite ?_ ?_
    · extract_lets +onlyGivenNames x2
      clear_value x2
      refine Upd.step (State.setLk_upd ..) rfl ?_
      exact Upd.refl _ _
    · unfold x1
      refine Upd.ite ?_ ?_
      · refine Upd.step (State.retCredit_upd ..) rfl ?_
        refine Upd.step (State.ctrlResponse_upd ..) rfl ?_
        exact Upd.refl _ _
      · refine Upd.step (State.ctrlResponse_upd ..) rfl ?_
        exact Upd.refl _ _

theorem drainHold_upd (n l : Nat) (s : State) : Upd 0x118300 s (drainHold n l s) := by
  induction n generalizing s with
  | zero => exact Upd.refl _ _
  | succ n ih =>
    unfold drainHold
    split
    · exact Upd.refl _ _
    · extract_lets pop now
      have hp : Upd 0x118300 s (pop s) := Upd.mono (State.setLk_upd ..) rfl
      split
      · exact Upd.step (ih ..) (by rfl) (Upd.step (State.releaseFrame_upd ..) (by rfl) hp)
      · refine Upd.ite ?_ (Upd.ite ?_ (Upd.refl _ _))
        · exact Upd.step (ih ..) (by rfl) (Upd.step (State.releaseFrame_upd ..) (by rfl) (Upd.step (State.linkEvt_upd ..) rfl
            (Upd.step (State.linkCnt_upd ..) (by rfl) hp)))
        · exact Upd.step (ih ..) (by rfl) (Upd.step (State.releaseFrame_upd ..) (by rfl) (Upd.step (State.linkCnt_upd ..) (by rfl) hp))

theorem State.holdFrame_upd (s : State) (l : Nat) (h : HeldFrame) : Upd 0x118300 s (State.holdFrame s l h) := by
  unfold State.holdFrame
  extract_lets +onlyGivenNames x1
  clear_value x1
  extract_lets +onlyGivenNames x2
  refine cut (P := Upd 0x118300 s x2) ?_ (fun h3 => ?_)
  · unfold x2
    refine Upd.step (State.setLk_upd ..) rfl ?_
    exact Upd.refl _ _
  clear_value x2
  refine Upd.ite ?_ ?_
  · refine Upd.step (drainHold_upd ..) rfl ?_
    exact h3
  · exact h3

theorem State.failFrame_upd (s : State) (l : Nat) (f : LFrame) : Upd 0x100200 s (State.failFrame s l f) := by
  unfold State.failFrame
  extract_lets +onlyGivenNames x1
  clear_value x1
  refine Upd.ite ?_ ?_
  · refine Upd.step (State.retCredit_upd ..) rfl ?_
    refine Upd.step (State.fcuStat_upd ..) rfl ?_
    refine Upd.step (State.fcuCnt_upd ..) rfl ?_
    exact Upd.refl _ _
  · extract_lets +onlyGivenNames x2
    clear_value x2
    extract_lets +onlyGivenNames x3
    clear_value x3
    refine Upd.step (State.setLk_upd ..) rfl ?_
    exact Upd.refl _ _

theorem State.helloAck_upd (s : State) (l : Nat) (granted : Nat) (status : Nat) (kept : Bool) : Upd 0x100200 s (State.helloAck s l granted status kept) := by
  unfold State.helloAck
  extract_lets +onlyGivenNames x1
  clear_value x1
  extract_lets +onlyGivenNames x2
  clear_value x2
  extract_lets +onlyGivenNames x3
  clear_value x3
  extract_lets +onlyGivenNames x4
  refine cut (P := Upd 0x100200 s x4) ?_ (fun h5 => ?_)
  · unfold x4
    refine Upd.step (State.setLk_upd ..) rfl ?_
    exact Upd.refl _ _
  clear_value x4
  refine Upd.step (State.wf_upd ..) rfl ?_
  refine Upd.step (State.wf_upd ..) rfl ?_
  exact h5

theorem State.helloIn_upd (s : State) (l : Nat) (f : LFrame) : Upd 0x118300 s (State.helloIn s l f) := by
  unfold State.helloIn
  extract_lets +onlyGivenNames x1
  clear_value x1
  extract_lets +onlyGivenNames x2
  clear_value x2
  extract_lets +onlyGivenNames x3
  clear_value x3
  extract_lets +onlyGivenNames x4
  clear_value x4
  extract_lets +onlyGivenNames x5
  clear_value x5
  extract_lets +onlyGivenNames x6
  refine cut (P := Upd 0x118300 s x6) ?_ (fun h7 => ?_)
  · unfold x6
    refine Upd.step (State.wf_upd ..) rfl ?_
    refine Upd.step (State.wf_upd ..) rfl ?_
    refine Upd.step (State.wf_upd ..) rfl ?_
    exact Upd.refl _ _
  clear_value x6
  extract_lets +onlyGivenNames x8
  clear_value x8
  refine Upd.ite ?_ ?_
  · refine Upd.step (State.helloAck_upd ..) rfl ?_
    exact h7
  · refine Upd.ite ?_ ?_
    · refine Upd.step (State.linkEvt_upd ..) rfl ?_
      refine Upd.step (State.helloAck_upd ..) rfl ?_
      exact h7
    · refine Upd.ite ?_ ?_
      · refine Upd.step (State.linkEvt_upd ..) rfl ?_
        refine Upd.step (State.helloAck_upd ..) rfl ?_
        exact h7
      · refine Upd.step (State.setLk_upd ..) rfl ?_
        exact h7

theorem State.deliver_upd (s : State) (l : Nat) (f : LFrame) : Upd 0x118300 s (State.deliver s l f) := by
  unfold State.deliver
  split
  · rename_i v1 v2 v3 v4
    refine cut (P := Upd 0x118300 s v2) (UpdL.out ?_ v4) (fun h5 => ?_)
    · refine UpdL.step (State.takeCredit_upd ..) rfl ?_
      exact Upd.refl _ _
    extract_lets +onlyGivenNames x6
    clear_value x6
    extract_lets +onlyGivenNames x7
    refine cut (P := Upd 0x118300 s x7) ?_ (fun h8 => ?_)
    · unfold x7
      refine Upd.ite ?_ ?_
      · exact h5
      · refine Upd.step (State.linkEvt_upd ..) rfl ?_
        refine Upd.step (State.linkCnt_upd ..) rfl ?_
        exact h5
    clear_value x7
    extract_lets +onlyGivenNames x9
    refine cut (P := Upd 0x118300 s x9) ?_ (fun h10 => ?_)
    · unfold x9
      refine Upd.ite ?_ ?_
      · refine Upd.step (State.protoErr_upd ..) rfl ?_
        exact h8
      · exact h8
    clear_value x9
    refine Upd.ite ?_ ?_
    · refine Upd.step (State.retCredit_upd ..) rfl ?_
      exact h10
    · refine Upd.ite ?_ ?_
      · refine Upd.step (State.helloIn_upd ..) rfl ?_
        exact h10
      · refine Upd.ite ?_ ?_
        · refine Upd.step (State.failFrame_upd ..) rfl ?_
          exact h10
        · refine Upd.ite ?_ ?_
          · refine Upd.step (State.retCredit_upd ..) rfl ?_
            refine Upd.step (State.linkCnt_upd ..) rfl ?_
            exact h10
          · refine Upd.step (State.holdFrame_upd ..) rfl ?_
            exact h10

theorem State.frameCheck_upd (s : State) (l : Nat) (f : RxFrame) : Upd 0x118300 s (State.frameCheck s l f) := by
  unfold State.frameCheck
  extract_lets +onlyGivenNames x1
  clear_value x1
  split
  · refine Upd.step (State.sendNak_upd ..) rfl ?_
    refine Upd.step (State.linkCnt_upd ..) rfl ?_
    exact Upd.refl _ _
  · refine Upd.step (State.sendNak_upd ..) rfl ?_
    refine Upd.step (State.linkCnt_upd ..) rfl ?_
    exact Upd.refl _ _
  · extract_lets +onlyGivenNames x2
    clear_value x2
    refine Upd.ite ?_ ?_
    · refine Upd.step (State.deliver_upd ..) rfl ?_
      refine Upd.step (State.setLk_upd ..) rfl ?_
      exact Upd.refl _ _
    · refine Upd.ite ?_ ?_
      · refine Upd.step (State.sendLinkSet_upd ..) rfl ?_
        refine Upd.step (State.linkCnt_upd ..) rfl ?_
        exact Upd.refl _ _
      · refine Upd.step (State.sendNak_upd ..) rfl ?_
        refine Upd.step (State.linkCnt_upd ..) rfl ?_
        exact Upd.refl _ _

theorem State.afterRx_upd (s : State) (l : Nat) (held : Option RxFrame) : Upd 0x118300 s (State.afterRx s l held) := by
  unfold State.afterRx
  split
  · exact Upd.refl _ _
  · refine Upd.step (State.frameCheck_upd ..) rfl ?_
    refine Upd.step (State.setLk_upd ..) rfl ?_
    exact Upd.refl _ _

theorem State.frameIn_upd (s : State) (l : Nat) (f : RxFrame) : Upd 0x118300 s (State.frameIn s l f) := by
  unfold State.frameIn
  extract_lets +onlyGivenNames x1
  clear_value x1
  extract_lets +onlyGivenNames x2
  clear_value x2
  refine Upd.ite ?_ ?_
  · split
    · extract_lets +onlyGivenNames x3
      clear_value x3
      extract_lets +onlyGivenNames x4
      refine cut (P := Upd 0x118300 s x4) ?_ (fun h5 => ?_)
      · unfold x4
        refine Upd.step (State.setLk_upd ..) rfl ?_
        exact Upd.refl _ _
      clear_value x4
      refine Upd.ite ?_ ?_
      · refine Upd.step (State.afterRx_upd ..) rfl ?_
        refine Upd.step (State.frameCheck_upd ..) rfl ?_
        exact h5
      · extract_lets +onlyGivenNames x6
        refine cut (P := Upd 0x118300 s x6) ?_ (fun h7 => ?_)
        · unfold x6
          refine Upd.step (State.linkCnt_upd ..) rfl ?_
          exact h5
        clear_value x6
        refine Upd.ite ?_ ?_
        · exact h7
        · refine Upd.ite ?_ ?_
          · refine Upd.step (State.afterRx_upd ..) rfl ?_
            refine Upd.step (State.frameCheck_upd ..) rfl ?_
            exact h7
          · refine Upd.step (State.setLk_upd ..) rfl ?_
            exact h7
  · refine Upd.step (State.afterRx_upd ..) rfl ?_
    refine Upd.step (State.frameCheck_upd ..) rfl ?_
    exact Upd.refl _ _

theorem State.bellCheck_upd (s : State) (l : Nat) (f : RxFrame) : Upd 0x118300 s (State.bellCheck s l f) := by
  unfold State.bellCheck
  extract_lets +onlyGivenNames x1
  clear_value x1
  refine Upd.ite ?_ ?_
  · extract_lets +onlyGivenNames x2
    refine cut (P := Upd 0x118300 s x2) ?_ (fun h3 => ?_)
    · unfold x2
      refine Upd.step (State.linkCnt_upd ..) rfl ?_
      refine Upd.step (State.setLk_upd ..) rfl ?_
      exact Upd.refl _ _
    clear_value x2
    refine Upd.ite ?_ ?_
    · refine Upd.step (State.linkEvt_upd ..) rfl ?_
      refine Upd.step (State.linkCnt_upd ..) rfl ?_
      exact h3
    · exact h3
  · extract_lets +onlyGivenNames x4
    clear_value x4
    extract_lets +onlyGivenNames x5
    clear_value x5
    extract_lets +onlyGivenNames x6
    clear_value x6
    refine Upd.ite ?_ ?_
    · refine Upd.step (State.linkCnt_upd ..) rfl ?_
      refine Upd.step (State.setLk_upd ..) rfl ?_
      exact Upd.refl _ _
    · extract_lets +onlyGivenNames x7
      clear_value x7
      extract_lets +onlyGivenNames x8
      refine cut (P := Upd 0x118300 s x8) ?_ (fun h9 => ?_)
      · unfold x8
        refine Upd.step (State.setLk_upd ..) rfl ?_
        exact Upd.refl _ _
      clear_value x8
      extract_lets +onlyGivenNames x10
      refine cut (P := Upd 0x118300 s x10) ?_ (fun h11 => ?_)
      · unfold x10
        refine Upd.ite ?_ ?_
        · exact h9
        · refine Upd.step (State.linkCnt_upd ..) rfl ?_
          exact h9
      clear_value x10
      refine Upd.ite ?_ ?_
      · refine Upd.step (State.protoErr_upd ..) rfl ?_
        exact h11
      · extract_lets +onlyGivenNames x12
        clear_value x12
        refine Upd.step (State.setLk_upd ..) rfl ?_
        exact h11

theorem State.spoil_upd (s : State) (l : Nat) (o : RxOpen) : Upd 0x100000 s (State.spoil s l o) := by
  unfold State.spoil
  extract_lets +onlyGivenNames x1
  clear_value x1
  refine Upd.step (State.setLk_upd ..) rfl ?_
  exact Upd.refl _ _

theorem State.innerEnds_upd (s : State) (l : Nat) (bad : Bool) (inFrame : Bool) : UpdP 0x100000 s (State.innerEnds s l bad inFrame) := by
  unfold State.innerEnds
  extract_lets +onlyGivenNames x1
  clear_value x1
  extract_lets +onlyGivenNames x2
  clear_value x2
  refine UpdP.mk ?_
  refine Upd.step (State.setLk_upd ..) rfl ?_
  exact Upd.refl _ _

theorem State.frameEnds_upd (s : State) (l : Nat) : UpdP 0x100000 s (State.frameEnds s l) := by
  unfold State.frameEnds
  refine UpdP.mk ?_
  refine Upd.step (State.setLk_upd ..) rfl ?_
  exact Upd.refl _ _

theorem State.bellQueue_upd (s : State) (l : Nat) (body : List Byte) : Upd 0x100200 s (State.bellQueue s l body) := by
  unfold State.bellQueue
  extract_lets +onlyGivenNames x1
  clear_value x1
  refine Upd.ite ?_ ?_
  · refine Upd.step (State.setLk_upd ..) rfl ?_
    exact Upd.refl _ _
  · refine Upd.step (State.linkCnt_upd ..) rfl ?_
    refine Upd.step (State.setLk_upd ..) rfl ?_
    exact Upd.refl _ _

end Sys2Proof.Machine
end

