-- ==== Sys2Proof/Laws/FrameLane.lean ====
section
/-! SUPPORT. What each operation of Sys2Proof/Machine/Lane.lean may change: the fields whose bits are set, in the order of State. -/
namespace Sys2Proof.Machine

theorem State.laneRx_upd (s : State) (l : Nat) (old : Nat) (st : Nat) : Upd 0x100200 s (State.laneRx s l old st) := by
  unfold State.laneRx
  extract_lets +onlyGivenNames x1
  clear_value x1
  extract_lets +onlyGivenNames x2
  refine cut (P := Upd 0x100200 s x2) ?_ (fun h3 => ?_)
  · unfold x2
    refine Upd.ite ?_ ?_
    · refine Upd.step (State.clrF_upd ..) rfl ?_
      exact Upd.refl _ _
    · exact Upd.refl _ _
  clear_value x2
  extract_lets +onlyGivenNames x4
  clear_value x4
  extract_lets +onlyGivenNames x5
  refine cut (P := Upd 0x100200 s x5) ?_ (fun h6 => ?_)
  · unfold x5
    refine Upd.ite ?_ ?_
    · refine Upd.step (State.setLane_upd ..) rfl ?_
      exact h3
    · exact h3
  clear_value x5
  refine Upd.ite ?_ ?_
  · refine Upd.step (State.setLane_upd ..) rfl ?_
    refine Upd.step (State.clrF_upd ..) rfl ?_
    exact h6
  · exact h6

theorem State.laneTxTo_upd (s : State) (l : Nat) (old : Nat) (st : Nat) : Upd 0x100100 s (State.laneTxTo s l old st) := by
  unfold State.laneTxTo
  extract_lets +onlyGivenNames x1
  clear_value x1
  extract_lets +onlyGivenNames x2
  refine cut (P := Upd 0x100100 s x2) ?_ (fun h3 => ?_)
  · unfold x2
    refine Upd.ite ?_ ?_
    · refine Upd.step (State.setLane_upd ..) rfl ?_
      exact Upd.refl _ _
    · exact Upd.refl _ _
  clear_value x2
  split
  · refine Upd.step (State.sendLane_upd ..) rfl ?_
    exact h3
  · exact h3

theorem State.laneTo_upd (s : State) (l : Nat) (st : Nat) : Upd 0x338380 s (State.laneTo s l st) := by
  unfold State.laneTo
  extract_lets +onlyGivenNames x1
  clear_value x1
  extract_lets +onlyGivenNames x2
  refine cut (P := Upd 0x338380 s x2) ?_ (fun h3 => ?_)
  · unfold x2
    refine Upd.step (State.laneTxTo_upd ..) rfl ?_
    refine Upd.step (State.laneRx_upd ..) rfl ?_
    refine Upd.step (State.wf_upd ..) rfl ?_
    exact Upd.refl _ _
  clear_value x2
  refine Upd.ite ?_ ?_
  · refine Upd.step (State.linkLaneDown_upd ..) rfl ?_
    exact h3
  · exact h3

theorem State.laneWait_upd (s : State) (l : Nat) : Upd 0x338380 s (State.laneWait s l) := by
  unfold State.laneWait
  refine Upd.step (State.laneTo_upd ..) rfl ?_
  exact Upd.refl _ _

theorem State.laneDown_upd (s : State) (l : Nat) (cause : Nat) : Upd 0x338380 s (State.laneDown s l cause) := by
  unfold State.laneDown
  extract_lets +onlyGivenNames x1
  refine cut (P := Upd 0x338380 s x1) ?_ (fun h2 => ?_)
  · unfold x1
    refine Upd.step (State.laneTo_upd ..) rfl ?_
    refine Upd.step (State.wf_upd ..) rfl ?_
    exact Upd.refl _ _
  clear_value x1
  refine Upd.step (State.linkReport_upd ..) rfl ?_
  refine Upd.step (State.laneEvt_upd ..) rfl ?_
  exact h2

theorem State.laneUp_upd (s : State) (l : Nat) : Upd 0x338380 s (State.laneUp s l) := by
  unfold State.laneUp
  extract_lets +onlyGivenNames x1
  refine cut (P := Upd 0x338380 s x1) ?_ (fun h2 => ?_)
  · unfold x1
    refine Upd.step (State.laneEvt_upd ..) rfl ?_
    refine Upd.step (State.laneTo_upd ..) rfl ?_
    exact Upd.refl _ _
  clear_value x1
  refine Upd.ite ?_ ?_
  · refine Upd.step (State.linkLaneUp_upd ..) rfl ?_
    exact h2
  · exact h2

theorem qpllWrite_upd (q : Nat) (v : Word) (s : State) : Upd 0x200 s (qpllWrite q v s) := by
  unfold qpllWrite
  extract_lets +onlyGivenNames x1
  clear_value x1
  extract_lets +onlyGivenNames x2
  clear_value x2
  extract_lets +onlyGivenNames x3
  clear_value x3
  extract_lets +onlyGivenNames x4
  clear_value x4
  extract_lets +onlyGivenNames x5
  clear_value x5
  extract_lets +onlyGivenNames x6
  clear_value x6
  extract_lets +onlyGivenNames x7
  clear_value x7
  extract_lets +onlyGivenNames x8
  clear_value x8
  refine Upd.ite ?_ ?_
  · refine Upd.step (State.setF_upd ..) rfl ?_
    exact Upd.refl _ _
  · extract_lets +onlyGivenNames x9
    refine cut (P := Upd 0x200 s x9) ?_ (fun h10 => ?_)
    · unfold x9
      refine Upd.step (State.wr_upd ..) rfl ?_
      exact Upd.refl _ _
    clear_value x9
    extract_lets +onlyGivenNames x11
    refine cut (P := Upd 0x200 s x11) ?_ (fun h12 => ?_)
    · unfold x11
      refine Upd.ite ?_ ?_
      · refine Upd.step (State.clrF_upd ..) rfl ?_
        exact h10
      · exact h10
    clear_value x11
    refine Upd.ite ?_ ?_
    · refine Upd.step (State.clrF_upd ..) rfl ?_
      exact h12
    · exact h12

theorem execQpllCtrlWrite_upd (r : Req) (q : Fin 128) (v : Word) (s : State) : UpdO 0x18300 s (execQpllCtrlWrite r q v s) := by
  unfold execQpllCtrlWrite
  refine UpdO.next ?_
  refine Upd.gated _ _ _ rfl ?_ (fun y1 h2 => ?_)
  · exact Upd.refl _ _
  · refine Upd.step (qpllWrite_upd ..) rfl ?_
    exact h2

theorem execQpllLock_upd (q : Fin 128) (pll1 : Bool) (s : State) : UpdO 0x200 s (execQpllLock q pll1 s) := by
  unfold execQpllLock
  extract_lets +onlyGivenNames x1
  clear_value x1
  refine UpdO.ite ?_ ?_
  · refine UpdO.next ?_
    refine Upd.step (State.setF_upd ..) rfl ?_
    exact Upd.refl _ _
  · refine UpdO.next ?_
    exact Upd.refl _ _

theorem State.laneRestart_upd (s : State) (l : Nat) : Upd 0x338380 s (State.laneRestart s l) := by
  unfold State.laneRestart
  extract_lets +onlyGivenNames x1
  refine cut (P := Upd 0x338380 s x1) ?_ (fun h2 => ?_)
  · unfold x1
    refine Upd.step (State.laneTo_upd ..) rfl ?_
    exact Upd.refl _ _
  clear_value x1
  extract_lets +onlyGivenNames x3
  clear_value x3
  extract_lets +onlyGivenNames x4
  refine cut (P := Upd 0x338380 s x4) ?_ (fun h5 => ?_)
  · unfold x4
    refine Upd.step (State.setLane_upd ..) rfl ?_
    exact h2
  clear_value x4
  refine Upd.ite ?_ ?_
  · refine Upd.step (State.laneDown_upd ..) rfl ?_
    exact h5
  · refine Upd.step (State.laneWait_upd ..) rfl ?_
    exact h5

theorem laneCtrlWrite_upd (l : Nat) (v : Word) (s : State) : Upd 0x338380 s (laneCtrlWrite l v s) := by
  unfold laneCtrlWrite
  extract_lets +onlyGivenNames x1
  clear_value x1
  extract_lets +onlyGivenNames x2
  clear_value x2
  extract_lets +onlyGivenNames x3
  clear_value x3
  extract_lets +onlyGivenNames x4
  clear_value x4
  extract_lets +onlyGivenNames x5
  clear_value x5
  refine Upd.ite ?_ ?_
  · refine Upd.step (State.laneEvt_upd ..) rfl ?_
    exact Upd.refl _ _
  · extract_lets +onlyGivenNames x6
    refine cut (P := Upd 0x338380 s x6) ?_ (fun h7 => ?_)
    · unfold x6
      refine Upd.step (State.wr_upd ..) rfl ?_
      exact Upd.refl _ _
    clear_value x6
    refine Upd.ite ?_ ?_
    · refine Upd.step (State.laneTo_upd ..) rfl ?_
      exact h7
    · refine Upd.ite ?_ ?_
      · refine Upd.step (State.laneRestart_upd ..) rfl ?_
        exact h7
      · exact h7

theorem execLaneCtrlWrite_upd (r : Req) (l : Fin 512) (v : Word) (s : State) : UpdO 0x338380 s (execLaneCtrlWrite r l v s) := by
  unfold execLaneCtrlWrite
  refine UpdO.next ?_
  refine Upd.gated _ _ _ rfl ?_ (fun y1 h2 => ?_)
  · exact Upd.refl _ _
  · refine Upd.step (laneCtrlWrite_upd ..) rfl ?_
    exact h2

theorem execLaneSignalDetect_upd (l : Fin 512) (s : State) : UpdO 0x338380 s (execLaneSignalDetect l s) := by
  unfold execLaneSignalDetect
  extract_lets +onlyGivenNames x1
  refine cut (P := Upd 0x338380 s x1) ?_ (fun h2 => ?_)
  · unfold x1
    refine Upd.step (State.setF_upd ..) rfl ?_
    exact Upd.refl _ _
  clear_value x1
  refine UpdO.next ?_
  refine Upd.ite ?_ ?_
  · refine Upd.step (State.laneTo_upd ..) rfl ?_
    exact h2
  · exact h2

theorem State.cdrLost_upd (s : State) (l : Nat) : Upd 0x18300 s (State.cdrLost s l) := by
  unfold State.cdrLost
  refine Upd.ite ?_ ?_
  · refine Upd.step (State.laneEvt_upd ..) rfl ?_
    refine Upd.step (State.clrF_upd ..) rfl ?_
    exact Upd.refl _ _
  · exact Upd.refl _ _

theorem execLaneSignalLoss_upd (l : Fin 512) (s : State) : UpdO 0x338380 s (execLaneSignalLoss l s) := by
  unfold execLaneSignalLoss
  extract_lets +onlyGivenNames x1
  refine cut (P := Upd 0x338380 s x1) ?_ (fun h2 => ?_)
  · unfold x1
    refine Upd.step (State.cdrLost_upd ..) rfl ?_
    refine Upd.step (State.clrF_upd ..) rfl ?_
    exact Upd.refl _ _
  clear_value x1
  refine UpdO.next ?_
  refine Upd.ite ?_ ?_
  · exact h2
  · refine Upd.step (State.laneTo_upd ..) rfl ?_
    exact h2

theorem execLaneCdrLock_upd (l : Fin 512) (s : State) : UpdO 0x338380 s (execLaneCdrLock l s) := by
  unfold execLaneCdrLock
  extract_lets +onlyGivenNames x1
  clear_value x1
  refine UpdO.ite ?_ ?_
  · extract_lets +onlyGivenNames x2
    refine cut (P := Upd 0x338380 s x2) ?_ (fun h3 => ?_)
    · unfold x2
      refine Upd.step (State.clrF_upd ..) rfl ?_
      refine Upd.step (State.wf_upd ..) rfl ?_
      refine Upd.step (State.setF_upd ..) rfl ?_
      exact Upd.refl _ _
    clear_value x2
    refine UpdO.next ?_
    refine Upd.step (State.laneTo_upd ..) rfl ?_
    refine Upd.step (State.setLane_upd ..) rfl ?_
    exact h3
  · refine UpdO.next ?_
    exact Upd.refl _ _

theorem execLaneLossOfLock_upd (l : Fin 512) (s : State) : UpdO 0x338380 s (execLaneLossOfLock l s) := by
  unfold execLaneLossOfLock
  extract_lets +onlyGivenNames x1
  clear_value x1
  extract_lets +onlyGivenNames x2
  refine cut (P := Upd 0x338380 s x2) ?_ (fun h3 => ?_)
  · unfold x2
    refine Upd.step (State.cdrLost_upd ..) rfl ?_
    exact Upd.refl _ _
  clear_value x2
  refine UpdO.next ?_
  refine Upd.ite ?_ ?_
  · exact h3
  · refine Upd.step (State.laneWait_upd ..) rfl ?_
    exact h3

theorem State.setEye_upd (s : State) (l : Nat) (w : Nat) (h : Nat) : Upd 0x200 s (State.setEye s l w h) := by
  unfold State.setEye
  refine Upd.step (State.wr_upd ..) rfl ?_
  exact Upd.refl _ _

theorem execLaneAdaptDone_upd (l : Fin 512) (width : BitVec 6) (height : BitVec 10) (ctle : BitVec 4) (dfe : BitVec 8) (s : State) : UpdO 0x338380 s (execLaneAdaptDone l width height ctle dfe s) := by
  unfold execLaneAdaptDone
  extract_lets +onlyGivenNames x1
  clear_value x1
  refine UpdO.ite ?_ ?_
  · refine UpdO.next ?_
    exact Upd.refl _ _
  · extract_lets +onlyGivenNames x2
    refine cut (P := Upd 0x338380 s x2) ?_ (fun h3 => ?_)
    · unfold x2
      refine Upd.ite ?_ ?_
      · exact Upd.refl _ _
      · refine Upd.step (State.wf_upd ..) rfl ?_
        refine Upd.step (State.wf_upd ..) rfl ?_
        exact Upd.refl _ _
    clear_value x2
    extract_lets +onlyGivenNames x4
    refine cut (P := Upd 0x338380 s x4) ?_ (fun h5 => ?_)
    · unfold x4
      refine Upd.step (State.setEye_upd ..) rfl ?_
      exact h3
    clear_value x4
    refine UpdO.ite ?_ ?_
    · refine UpdO.next ?_
      refine Upd.step (State.laneDown_upd ..) rfl ?_
      exact h5
    · refine UpdO.ite ?_ ?_
      · refine UpdO.next ?_
        refine Upd.step (State.laneTo_upd ..) rfl ?_
        exact h5
      · refine UpdO.next ?_
        refine Upd.step (State.laneEvt_upd ..) rfl ?_
        refine Upd.step (State.laneTo_upd ..) rfl ?_
        exact h5

theorem execLaneDownRearm_upd (l : Fin 512) (s : State) : UpdO 0x338380 s (execLaneDownRearm l s) := by
  unfold execLaneDownRearm
  extract_lets +onlyGivenNames x1
  clear_value x1
  refine UpdO.ite ?_ ?_
  · refine UpdO.next ?_
    refine Upd.step (State.laneTo_upd ..) rfl ?_
    refine Upd.step (State.clrF_upd ..) rfl ?_
    exact Upd.refl _ _
  · refine UpdO.next ?_
    exact Upd.refl _ _

theorem State.winOpenNow_upd (s : State) (l : Nat) : Upd 0x100200 s (State.winOpenNow s l) := by
  unfold State.winOpenNow
  extract_lets +onlyGivenNames x1
  clear_value x1
  refine Upd.step (State.setLane_upd ..) rfl ?_
  refine Upd.step (State.wf_upd ..) rfl ?_
  refine Upd.step (State.wf_upd ..) rfl ?_
  exact Upd.refl _ _

theorem laneCmd_upd (l : Nat) (v : Nat) (s : State) : Upd 0x338380 s (laneCmd l v s) := by
  unfold laneCmd
  extract_lets +onlyGivenNames x1
  clear_value x1
  extract_lets +onlyGivenNames x2
  clear_value x2
  refine Upd.ite ?_ ?_
  · refine Upd.step (State.laneEvt_upd ..) rfl ?_
    exact Upd.refl _ _
  · refine Upd.ite ?_ ?_
    · extract_lets +onlyGivenNames x3
      refine cut (P := Upd 0x338380 s x3) ?_ (fun h4 => ?_)
      · unfold x3
        refine Upd.ite ?_ ?_
        · refine Upd.step (State.laneEvt_upd ..) rfl ?_
          exact Upd.refl _ _
        · exact Upd.refl _ _
      clear_value x3
      refine Upd.ite ?_ ?_
      · refine Upd.step (State.laneEvt_upd ..) rfl ?_
        exact h4
      · exact h4
    · refine Upd.ite ?_ ?_
      · refine Upd.ite ?_ ?_
        · refine Upd.step (State.laneTo_upd ..) rfl ?_
          exact Upd.refl _ _
        · refine Upd.step (State.laneUp_upd ..) rfl ?_
          exact Upd.refl _ _
      · refine Upd.ite ?_ ?_
        · refine Upd.step (State.laneDown_upd ..) rfl ?_
          exact Upd.refl _ _
        · extract_lets +onlyGivenNames x5
          refine cut (P := Upd 0x338380 s x5) ?_ (fun h6 => ?_)
          · unfold x5
            refine Upd.step (State.wf_upd ..) rfl ?_
            refine Upd.step (State.setF_upd ..) rfl ?_
            exact Upd.refl _ _
          clear_value x5
          extract_lets +onlyGivenNames x7
          clear_value x7
          extract_lets +onlyGivenNames x8
          refine cut (P := Upd 0x338380 s x8) ?_ (fun h9 => ?_)
          · unfold x8
            refine Upd.ite ?_ ?_
            · refine Upd.ite ?_ ?_
              · refine Upd.step (State.laneEvt_upd ..) rfl ?_
                exact Upd.refl _ _
              · refine Upd.step (State.setLane_upd ..) rfl ?_
                exact h6
            · exact Upd.refl _ _
          clear_value x8
          refine Upd.ite ?_ ?_
          · extract_lets +onlyGivenNames x10
            refine cut (P := Upd 0x338380 s x10) ?_ (fun h11 => ?_)
            · unfold x10
              refine Upd.step (State.clrF_upd ..) rfl ?_
              exact h9
            clear_value x10
            refine Upd.ite ?_ ?_
            · refine Upd.step (State.setLane_upd ..) rfl ?_
              exact h11
            · refine Upd.step (State.winOpenNow_upd ..) rfl ?_
              exact h11
          · exact h9

theorem State.laneCmdFrom_upd (s : State) (l : Nat) (src : LaneSrc) (bit : Nat) : Upd 0x338380 s (State.laneCmdFrom s l src bit) := by
  unfold State.laneCmdFrom
  split
  · refine Upd.gated _ _ _ rfl ?_ (fun y1 h2 => ?_)
    · exact Upd.refl _ _
    · refine Upd.step (laneCmd_upd ..) rfl ?_
      exact h2
  · refine Upd.ite ?_ ?_
    · refine Upd.step (laneCmd_upd ..) rfl ?_
      exact Upd.refl _ _
    · exact Upd.refl _ _

theorem execSlip_upd (l : Fin 512) (src : LaneSrc) (s : State) : UpdO 0x338380 s (execSlip l src s) := by
  unfold execSlip
  refine UpdO.next ?_
  refine Upd.step (State.laneCmdFrom_upd ..) rfl ?_
  exact Upd.refl _ _

theorem execWinStart_upd (l : Fin 512) (src : LaneSrc) (s : State) : UpdO 0x338380 s (execWinStart l src s) := by
  unfold execWinStart
  refine UpdO.next ?_
  refine Upd.step (State.laneCmdFrom_upd ..) rfl ?_
  exact Upd.refl _ _

theorem execAlignDone_upd (l : Fin 512) (src : LaneSrc) (s : State) : UpdO 0x338380 s (execAlignDone l src s) := by
  unfold execAlignDone
  refine UpdO.next ?_
  refine Upd.step (State.laneCmdFrom_upd ..) rfl ?_
  exact Upd.refl _ _

theorem execAlignFail_upd (l : Fin 512) (src : LaneSrc) (s : State) : UpdO 0x338380 s (execAlignFail l src s) := by
  unfold execAlignFail
  refine UpdO.next ?_
  refine Upd.step (State.laneCmdFrom_upd ..) rfl ?_
  exact Upd.refl _ _

theorem State.rawStatus_upd (s : State) (l : Nat) : Upd 0x100 s (State.rawStatus s l) := by
  unfold State.rawStatus
  refine Upd.ite ?_ ?_
  · extract_lets +onlyGivenNames x1
    clear_value x1
    extract_lets +onlyGivenNames x2
    clear_value x2
    refine Upd.step (State.emit_upd ..) rfl ?_
    exact Upd.refl _ _
  · exact Upd.refl _ _

theorem execSlipSettle_upd (l : Fin 512) (s : State) : UpdO 0x100300 s (execSlipSettle l s) := by
  unfold execSlipSettle
  extract_lets +onlyGivenNames x1
  clear_value x1
  refine UpdO.ite ?_ ?_
  · extract_lets +onlyGivenNames x2
    refine cut (P := Upd 0x100300 s x2) ?_ (fun h3 => ?_)
    · unfold x2
      refine Upd.step (State.clrF_upd ..) rfl ?_
      exact Upd.refl _ _
    clear_value x2
    refine UpdO.next ?_
    refine Upd.step (State.rawStatus_upd ..) rfl ?_
    refine Upd.ite ?_ ?_
    · refine Upd.step (State.winOpenNow_upd ..) rfl ?_
      exact h3
    · exact h3
  · refine UpdO.next ?_
    exact Upd.refl _ _

theorem execAlignWindowClose_upd (l : Fin 512) (com : Fin 1025) (err : Fin 1025) (s : State) : UpdO 0x100300 s (execAlignWindowClose l com err s) := by
  unfold execAlignWindowClose
  extract_lets +onlyGivenNames x1
  clear_value x1
  refine UpdO.ite ?_ ?_
  · extract_lets +onlyGivenNames x2
    clear_value x2
    extract_lets +onlyGivenNames x3
    refine cut (P := Upd 0x100300 s x3) ?_ (fun h4 => ?_)
    · unfold x3
      refine Upd.step (State.setLane_upd ..) rfl ?_
      exact Upd.refl _ _
    clear_value x3
    extract_lets +onlyGivenNames x5
    refine cut (P := Upd 0x100300 s x5) ?_ (fun h6 => ?_)
    · unfold x5
      refine Upd.step (State.wf_upd ..) rfl ?_
      exact h4
    clear_value x5
    extract_lets +onlyGivenNames x7
    refine cut (P := Upd 0x100300 s x7) ?_ (fun h8 => ?_)
    · unfold x7
      refine Upd.step (State.wf_upd ..) rfl ?_
      exact h6
    clear_value x7
    refine UpdO.next ?_
    refine Upd.step (State.rawStatus_upd ..) rfl ?_
    refine Upd.step (State.setF_upd ..) rfl ?_
    exact h8
  · refine UpdO.next ?_
    exact Upd.refl _ _

theorem State.ebErr_upd (s : State) (l : Nat) : Upd 0x338380 s (State.ebErr s l) := by
  unfold State.ebErr
  extract_lets +onlyGivenNames x1
  refine cut (P := Upd 0x338380 s x1) ?_ (fun h2 => ?_)
  · unfold x1
    refine Upd.step (State.laneEvt_upd ..) rfl ?_
    exact Upd.refl _ _
  clear_value x1
  refine Upd.ite ?_ ?_
  · refine Upd.step (State.laneDown_upd ..) rfl ?_
    exact h2
  · exact h2

theorem State.rxDamage_upd (s : State) (l : Nat) (o : RxOpen) : Upd 0x100000 s (State.rxDamage s l o) := by
  unfold State.rxDamage
  refine Upd.ite ?_ ?_
  · refine Upd.step (State.spoil_upd ..) rfl ?_
    exact Upd.refl _ _
  · exact Upd.refl _ _

theorem State.rxCount_upd (s : State) (l : Nat) (d : Dec10) (o : RxOpen) : Upd 0x338380 s (State.rxCount s l d o) := by
  unfold State.rxCount
  extract_lets +onlyGivenNames x1
  clear_value x1
  extract_lets +onlyGivenNames x2
  clear_value x2
  extract_lets +onlyGivenNames x3
  clear_value x3
  extract_lets +onlyGivenNames x4
  refine cut (P := Upd 0x338380 s x4) ?_ (fun h5 => ?_)
  · unfold x4
    refine Upd.ite ?_ ?_
    · refine Upd.step (State.wf_upd ..) rfl ?_
      exact Upd.refl _ _
    · exact Upd.refl _ _
  clear_value x4
  extract_lets +onlyGivenNames x6
  refine cut (P := Upd 0x338380 s x6) ?_ (fun h7 => ?_)
  · unfold x6
    refine Upd.ite ?_ ?_
    · refine Upd.ite ?_ ?_
      · refine Upd.step (State.wf_upd ..) rfl ?_
        exact h5
      · exact h5
    · exact Upd.refl _ _
  clear_value x6
  refine Upd.ite ?_ ?_
  · extract_lets +onlyGivenNames x8
    refine cut (P := Upd 0x338380 s x8) ?_ (fun h9 => ?_)
    · unfold x8
      refine Upd.ite ?_ ?_
      · refine Upd.step (State.cnt_upd ..) rfl ?_
        exact h7
      · exact h7
    clear_value x8
    extract_lets +onlyGivenNames x10
    refine cut (P := Upd 0x338380 s x10) ?_ (fun h11 => ?_)
    · unfold x10
      refine Upd.ite ?_ ?_
      · refine Upd.step (State.cnt_upd ..) rfl ?_
        exact h9
      · exact h9
    clear_value x10
    refine Upd.ite ?_ ?_
    · refine Upd.ite ?_ ?_
      · refine Upd.step (State.laneDown_upd ..) rfl ?_
        exact h11
      · refine Upd.step (State.rxDamage_upd ..) rfl ?_
        exact h11
    · exact h11
  · exact h7

theorem State.rxSymbol_upd (s : State) (l : Nat) (sym : Nat) (o : RxOpen) : Upd 0x338380 s (State.rxSymbol s l sym o) := by
  unfold State.rxSymbol
  extract_lets +onlyGivenNames x1
  clear_value x1
  extract_lets +onlyGivenNames x2
  clear_value x2
  extract_lets +onlyGivenNames x3
  clear_value x3
  extract_lets +onlyGivenNames x4
  clear_value x4
  extract_lets +onlyGivenNames x5
  refine cut (P := Upd 0x338380 s x5) ?_ (fun h6 => ?_)
  · unfold x5
    refine Upd.step (State.setLane_upd ..) rfl ?_
    exact Upd.refl _ _
  clear_value x5
  extract_lets +onlyGivenNames x7
  refine cut (P := Upd 0x338380 s x7) ?_ (fun h8 => ?_)
  · unfold x7
    refine Upd.ite ?_ ?_
    · exact h6
    · refine Upd.step (State.rxCount_upd ..) rfl ?_
      exact h6
  clear_value x7
  refine Upd.ite ?_ ?_
  · refine Upd.step (State.ebErr_upd ..) rfl ?_
    refine Upd.step (State.rxDamage_upd ..) rfl ?_
    exact h8
  · exact h8

theorem State.rawWord_upd (s : State) (l : Nat) (w : List EbSym) : Upd 0x100 s (State.rawWord s l w) := by
  unfold State.rawWord
  refine Upd.ite ?_ ?_
  · extract_lets +onlyGivenNames x1
    clear_value x1
    extract_lets +onlyGivenNames x2
    clear_value x2
    extract_lets +onlyGivenNames x3
    clear_value x3
    refine Upd.step (State.emit_upd ..) rfl ?_
    refine Upd.step (State.emit_upd ..) rfl ?_
    exact Upd.refl _ _
  · exact Upd.refl _ _

theorem State.rxRead_upd (s : State) (l : Nat) (o : RxOpen) : Upd 0x338380 s (State.rxRead s l o) := by
  unfold State.rxRead
  extract_lets +onlyGivenNames x1
  clear_value x1
  extract_lets +onlyGivenNames x2
  clear_value x2
  extract_lets +onlyGivenNames x3
  clear_value x3
  extract_lets +onlyGivenNames x4
  refine cut (P := Upd 0x338380 s x4) ?_ (fun h5 => ?_)
  · unfold x4
    refine Upd.step (State.setLane_upd ..) rfl ?_
    exact Upd.refl _ _
  clear_value x4
  extract_lets +onlyGivenNames x6
  refine cut (P := Upd 0x338380 s x6) ?_ (fun h7 => ?_)
  · unfold x6
    refine Upd.ite ?_ ?_
    · exact h5
    · refine Upd.step (State.rawWord_upd ..) rfl ?_
      exact h5
  clear_value x6
  refine Upd.ite ?_ ?_
  · refine Upd.step (State.ebErr_upd ..) rfl ?_
    refine Upd.step (State.rxDamage_upd ..) rfl ?_
    exact h7
  · exact h7

theorem rxReads_upd (n l : Nat) (o : RxOpen) (s : State) : Upd 0x338380 s (rxReads n l o s) := by
  induction n generalizing s with
  | zero => exact Upd.refl _ _
  | succ n ih =>
    unfold rxReads
    exact Upd.step (ih ..) (by rfl) (Upd.mono (State.rxRead_upd ..) (by rfl))

theorem laneRx_upd (l : Nat) (sym : Nat) (reads : Nat) (o : RxOpen) (s : State) : Upd 0x338380 s (laneRx l sym reads o s) := by
  unfold laneRx
  refine Upd.ite ?_ ?_
  · exact Upd.refl _ _
  · refine Upd.step (rxReads_upd ..) rfl ?_
    refine Upd.step (State.rxSymbol_upd ..) rfl ?_
    exact Upd.refl _ _

theorem execLaneRxSymbol_upd (l : Fin 512) (sym : BitVec 10) (reads : Fin 3) (o : RxOpen) (s : State) : UpdO 0x338380 s (execLaneRxSymbol l sym reads o s) := by
  unfold execLaneRxSymbol
  refine UpdO.next ?_
  refine Upd.step (laneRx_upd ..) rfl ?_
  exact Upd.refl _ _

theorem execLaneCheckDone_upd (l : Fin 512) (s : State) : UpdO 0x338380 s (execLaneCheckDone l s) := by
  unfold execLaneCheckDone
  refine UpdO.next ?_
  refine Upd.ite ?_ ?_
  · refine Upd.step (State.laneUp_upd ..) rfl ?_
    exact Upd.refl _ _
  · exact Upd.refl _ _

theorem execLaneTxeqWrite_upd (r : Req) (l : Fin 512) (v : Word) (s : State) : UpdO 0x18300 s (execLaneTxeqWrite r l v s) := by
  unfold execLaneTxeqWrite
  refine UpdO.next ?_
  refine Upd.gated _ _ _ rfl ?_ (fun y1 h2 => ?_)
  · exact Upd.refl _ _
  · refine Upd.step (State.wr_upd ..) rfl ?_
    exact h2

theorem execLaneEqTrack_upd (l : Fin 512) (up : Bool) (down : Bool) (dfe : BitVec 8) (s : State) : UpdO 0x200 s (execLaneEqTrack l up down dfe s) := by
  unfold execLaneEqTrack
  extract_lets +onlyGivenNames x1
  clear_value x1
  extract_lets +onlyGivenNames x2
  clear_value x2
  refine UpdO.ite ?_ ?_
  · refine UpdO.next ?_
    exact Upd.refl _ _
  · extract_lets +onlyGivenNames x3
    clear_value x3
    extract_lets +onlyGivenNames x4
    clear_value x4
    refine UpdO.next ?_
    refine Upd.step (State.wf_upd ..) rfl ?_
    refine Upd.step (State.wf_upd ..) rfl ?_
    exact Upd.refl _ _

theorem execLaneEyeRefresh_upd (l : Fin 512) (width : BitVec 6) (height : BitVec 10) (s : State) : UpdO 0x200 s (execLaneEyeRefresh l width height s) := by
  unfold execLaneEyeRefresh
  refine UpdO.ite ?_ ?_
  · refine UpdO.next ?_
    exact Upd.refl _ _
  · refine UpdO.next ?_
    refine Upd.step (State.setEye_upd ..) rfl ?_
    exact Upd.refl _ _

theorem rawTx_upd (l : Nat) (w : Option (BitVec 80)) (s : State) : Upd 0x100300 s (rawTx l w s) := by
  unfold rawTx
  extract_lets +onlyGivenNames x1
  clear_value x1
  extract_lets +onlyGivenNames x2
  clear_value x2
  refine Upd.ite ?_ ?_
  · exact Upd.refl _ _
  · extract_lets +onlyGivenNames x3
    clear_value x3
    extract_lets +onlyGivenNames x4
    clear_value x4
    extract_lets +onlyGivenNames x5
    refine cut (P := Upd 0x100300 s x5) ?_ (fun h6 => ?_)
    · unfold x5
      refine Upd.ite ?_ ?_
      · refine Upd.step (State.cnt_upd ..) rfl ?_
        exact Upd.refl _ _
      · exact Upd.refl _ _
    clear_value x5
    refine Upd.step (State.sendLane_upd ..) rfl ?_
    exact h6

theorem execRawWordTx_upd (l : Fin 512) (w : Option (BitVec 80)) (s : State) : UpdO 0x100300 s (execRawWordTx l w s) := by
  unfold execRawWordTx
  refine UpdO.next ?_
  refine Upd.step (rawTx_upd ..) rfl ?_
  exact Upd.refl _ _

theorem rawRx_upd (l : Nat) (w : Nat) (reads : Nat) (s : State) : Upd 0x338380 s (rawRx l w reads s) := by
  unfold rawRx
  refine Upd.ite ?_ ?_
  · exact Upd.refl _ _
  · refine Upd.step (rxReads_upd ..) rfl ?_
    refine Upd.foldl ?_ (fun y1 a2 h3 => ?_)
    · exact Upd.refl _ _
    · refine Upd.step (State.rxSymbol_upd ..) rfl ?_
      exact h3

theorem execRawWordRx_upd (l : Fin 512) (w : BitVec 80) (reads : Fin 17) (s : State) : UpdO 0x338380 s (execRawWordRx l w reads s) := by
  unfold execRawWordRx
  refine UpdO.next ?_
  refine Upd.step (rawRx_upd ..) rfl ?_
  exact Upd.refl _ _

theorem execPrbsCheck_upd (l : Fin 512) (bits : List Bool) (s : State) : UpdO 0x100200 s (execPrbsCheck l bits s) := by
  unfold execPrbsCheck
  extract_lets +onlyGivenNames x1
  clear_value x1
  refine UpdO.ite ?_ ?_
  · refine UpdO.next ?_
    exact Upd.refl _ _
  · extract_lets +onlyGivenNames x2
    clear_value x2
    extract_lets +onlyGivenNames x3
    clear_value x3
    split
    · extract_lets +onlyGivenNames x4
      clear_value x4
      extract_lets +onlyGivenNames x5
      refine cut (P := Upd 0x100200 s x5) ?_ (fun h6 => ?_)
      · unfold x5
        refine Upd.step (State.wf_upd ..) rfl ?_
        refine Upd.step (State.setLane_upd ..) rfl ?_
        exact Upd.refl _ _
      clear_value x5
      refine UpdO.next ?_
      refine Upd.ite ?_ ?_
      · exact h6
      · refine Upd.step (State.cnt64_upd ..) rfl ?_
        exact h6

end Sys2Proof.Machine
end

