-- ==== Sys2Proof/Laws/FrameConfig.lean ====
section
/-! SUPPORT. What each operation of Sys2Proof/Machine/Config.lean may change: the fields whose bits are set, in the order of State. -/
namespace Sys2Proof.Machine

theorem State.cfgCounts_upd (s : State) : Upd 0x200 s (State.cfgCounts s) := by
  unfold State.cfgCounts
  extract_lets +onlyGivenNames x1
  clear_value x1
  extract_lets +onlyGivenNames x2
  clear_value x2
  refine Upd.step (State.wf_upd ..) rfl ?_
  refine Upd.step (State.wf_upd ..) rfl ?_
  exact Upd.refl _ _

theorem State.cfgSet_upd (s : State) (x : CfgGroup) : Upd 0x4000200 s (State.cfgSet s x) := by
  unfold State.cfgSet
  refine Upd.step (State.cfgCounts_upd ..) rfl ?_
  refine Upd.step (Upd.set_cfg _ _) rfl ?_
  exact Upd.refl _ _

theorem State.cfgDrop_upd (s : State) (g : Nat) : Upd 0x4000200 s (State.cfgDrop s g) := by
  unfold State.cfgDrop
  refine Upd.step (State.cfgCounts_upd ..) rfl ?_
  refine Upd.step (Upd.set_cfg _ _) rfl ?_
  exact Upd.refl _ _

theorem State.cfgAdd_upd (s : State) (x : CfgGroup) : Upd 0x4000200 s (State.cfgAdd s x) := by
  unfold State.cfgAdd
  refine Upd.step (State.cfgCounts_upd ..) rfl ?_
  refine Upd.step (Upd.set_cfg _ _) rfl ?_
  exact Upd.refl _ _

theorem State.cfgEnd_upd (s : State) (x : CfgGroup) (status : Nat) (detail : Nat) (n : Nat) : Upd 0x4000000 s (State.cfgEnd s x status detail n) := by
  unfold State.cfgEnd
  refine Upd.ite ?_ ?_
  · refine Upd.step (Upd.set_cfg _ _) rfl ?_
    exact Upd.refl _ _
  · exact Upd.refl _ _

theorem State.setCfgRec_upd (s : State) (f : Nat) (x : Option FieldImg) (src : Nat) : Upd 0x4000200 s (State.setCfgRec s f x src) := by
  unfold State.setCfgRec
  extract_lets +onlyGivenNames x1
  clear_value x1
  extract_lets +onlyGivenNames x2
  refine cut (P := Upd 0x4000200 s x2) ?_ (fun h3 => ?_)
  · unfold x2
    refine Upd.step (Upd.set_cfg _ _) rfl ?_
    exact Upd.refl _ _
  clear_value x2
  refine Upd.step (State.wr_upd ..) rfl ?_
  refine Upd.step (State.wf_upd ..) rfl ?_
  exact h3

theorem State.setCfgState_upd (s : State) (f : Nat) (v : Nat) : Upd 0x200 s (State.setCfgState s f v) := by
  unfold State.setCfgState
  refine Upd.step (State.wf_upd ..) rfl ?_
  exact Upd.refl _ _

theorem State.cfgFailField_upd (s : State) (f : Nat) : Upd 0x1019e380 s (State.cfgFailField s f) := by
  unfold State.cfgFailField
  refine Upd.step (State.setCfgState_upd ..) rfl ?_
  refine Upd.step (State.gsrAssert_upd ..) rfl ?_
  exact Upd.refl _ _

theorem State.reloadFail_upd (s : State) (f : Nat) (kind : Nat) (site : Nat) : Upd 0x1419e380 s (State.reloadFail s f kind site) := by
  unfold State.reloadFail
  extract_lets +onlyGivenNames x1
  refine cut (P := Upd 0x1419e380 s x1) ?_ (fun h2 => ?_)
  · unfold x1
    refine Upd.step (State.setCfgRec_upd ..) rfl ?_
    refine Upd.step (State.setF_upd ..) rfl ?_
    refine Upd.step (State.cfgFailField_upd ..) rfl ?_
    exact Upd.refl _ _
  clear_value x1
  refine Upd.ite ?_ ?_
  · refine Upd.step (State.siteStat_upd ..) rfl ?_
    exact h2
  · exact h2

theorem State.cfgFail_upd (s : State) (x : CfgGroup) (cause : Nat) (sect : Nat) (status : Nat) (detail : Nat) : Upd 0x4020280 s (State.cfgFail s x cause sect status detail) := by
  unfold State.cfgFail
  extract_lets +onlyGivenNames x1
  refine cut (P := Upd 0x4020280 s x1) ?_ (fun h2 => ?_)
  · unfold x1
    refine Upd.step (State.setF_upd ..) rfl ?_
    refine Upd.step (State.wf_upd ..) rfl ?_
    refine Upd.step (State.wf_upd ..) rfl ?_
    exact Upd.refl _ _
  clear_value x1
  extract_lets +onlyGivenNames x3
  refine cut (P := Upd 0x4020280 s x3) ?_ (fun h4 => ?_)
  · unfold x3
    refine Upd.step (State.setF_upd ..) rfl ?_
    refine Upd.step (State.setF_upd ..) rfl ?_
    exact h2
  clear_value x3
  extract_lets +onlyGivenNames x5
  clear_value x5
  extract_lets +onlyGivenNames x6
  refine cut (P := Upd 0x4020280 s x6) ?_ (fun h7 => ?_)
  · unfold x6
    refine Upd.step (Upd.set_cfg _ _) rfl ?_
    exact h4
  clear_value x6
  extract_lets +onlyGivenNames x8
  refine cut (P := Upd 0x4020280 s x8) ?_ (fun h9 => ?_)
  · unfold x8
    refine Upd.ite ?_ ?_
    · refine Upd.step (State.recordO_upd ..) rfl ?_
      exact h7
    · exact h2
  clear_value x8
  refine Upd.step (State.cfgDrop_upd ..) rfl ?_
  refine Upd.step (State.cfgEnd_upd ..) rfl ?_
  exact h9

theorem cfgPass1_upd (g : Nat) (img : CfgImage) (rd : Rsp) (s : State) : Upd 0x4020280 s (cfgPass1 g img rd s) := by
  unfold cfgPass1
  split
  · exact Upd.refl _ _
  · refine Upd.ite ?_ ?_
    · exact Upd.refl _ _
    · refine Upd.ite ?_ ?_
      · refine Upd.step (State.cfgFail_upd ..) rfl ?_
        exact Upd.refl _ _
      · split
        · refine Upd.step (State.cfgFail_upd ..) rfl ?_
          exact Upd.refl _ _
        · extract_lets +onlyGivenNames x1
          clear_value x1
          refine Upd.ite ?_ ?_
          · refine Upd.step (State.cfgDrop_upd ..) rfl ?_
            refine Upd.step (State.cfgEnd_upd ..) rfl ?_
            exact Upd.refl _ _
          · refine Upd.step (State.cfgSet_upd ..) rfl ?_
            exact Upd.refl _ _

theorem execCfgPass1Done_upd (g : Nat) (img : CfgImage) (rd : Rsp) (s : State) : UpdO 0x4020280 s (execCfgPass1Done g img rd s) := by
  unfold execCfgPass1Done
  refine UpdO.next ?_
  refine Upd.step (cfgPass1_upd ..) rfl ?_
  exact Upd.refl _ _

theorem State.bmZero_upd (s : State) (f : Nat) (b : Nat) : Upd 0x4000 s (State.bmZero s f b) := by
  unfold State.bmZero
  refine Upd.step (Upd.set_mem _ _ ?_) rfl ?_
  · (intro h; simp_all +zetaDelta [MemSt.wf, tabWf_tabPut, tabWf_tabKeep])
  · exact Upd.refl _ _

theorem State.unconfigure_upd (s : State) (f : Nat) : Upd 0x1a300 s (State.unconfigure s f) := by
  unfold State.unconfigure
  extract_lets +onlyGivenNames x1
  refine cut (P := Upd 0x1a300 s x1) ?_ (fun h2 => ?_)
  · unfold x1
    refine Upd.step (State.clrF_upd ..) rfl ?_
    refine Upd.step (State.putDesign_upd ..) rfl ?_
    exact Upd.refl _ _
  clear_value x1
  refine Upd.step (State.ckUpdate_upd ..) rfl ?_
  refine Upd.step (State.fieldChange_upd ..) rfl ?_
  exact h2

theorem State.writerTake_upd (s : State) (f : Nat) (i : FieldImg) : Upd 0x1019e380 s (State.writerTake s f i) := by
  unfold State.writerTake
  extract_lets +onlyGivenNames x1
  refine cut (P := Upd 0x1019e380 s x1) ?_ (fun h2 => ?_)
  · unfold x1
    refine Upd.step (State.loadImgClk_upd ..) rfl ?_
    refine Upd.step (State.unconfigure_upd ..) rfl ?_
    refine Upd.step (State.gsrAssert_upd ..) rfl ?_
    exact Upd.refl _ _
  clear_value x1
  extract_lets +onlyGivenNames x3
  refine cut (P := Upd 0x1019e380 s x3) ?_ (fun h4 => ?_)
  · unfold x3
    refine Upd.step (State.clrF_upd ..) rfl ?_
    refine Upd.step (State.clrF_upd ..) rfl ?_
    exact h2
  clear_value x3
  extract_lets +onlyGivenNames x5
  refine cut (P := Upd 0x1019e380 s x5) ?_ (fun h6 => ?_)
  · unfold x5
    refine Upd.foldl ?_ (fun y7 a8 h9 => ?_)
    · exact h4
    · refine Upd.ite ?_ ?_
      · refine Upd.step (State.bmZero_upd ..) rfl ?_
        exact h9
      · exact h9
  clear_value x5
  refine Upd.step (State.wf_upd ..) rfl ?_
  refine Upd.step (State.setCfgState_upd ..) rfl ?_
  exact h6

theorem cfgWriterStart_upd (s : State) : Upd 0x1419e380 s (cfgWriterStart s) := by
  unfold cfgWriterStart
  refine Upd.ite ?_ ?_
  · exact Upd.refl _ _
  · split
    · exact Upd.refl _ _
    · split
      · exact Upd.refl _ _
      · split
        · exact Upd.refl _ _
        · refine Upd.step (State.writerTake_upd ..) rfl ?_
          refine Upd.step (State.cfgSet_upd ..) rfl ?_
          exact Upd.refl _ _

theorem execCfgWriterStart_upd (s : State) : UpdO 0x1419e380 s (execCfgWriterStart s) := by
  unfold execCfgWriterStart
  refine UpdO.next ?_
  refine Upd.step (cfgWriterStart_upd ..) rfl ?_
  exact Upd.refl _ _

theorem State.bmInitData_upd (s : State) (f : Nat) (i : FieldImg) : Upd 0x4000 s (State.bmInitData s f i) := by
  unfold State.bmInitData
  refine Upd.foldl ?_ (fun y1 a2 h3 => ?_)
  · exact Upd.refl _ _
  · split
    · extract_lets +onlyGivenNames x4
      clear_value x4
      refine Upd.foldl ?_ (fun y5 a6 h7 => ?_)
      · exact h3
      · split
        · refine Upd.step (State.bmPut_upd ..) rfl ?_
          exact h7

theorem State.cfgAllWritten_upd (s : State) (x : CfgGroup) : Upd 0x4020280 s (State.cfgAllWritten s x) := by
  unfold State.cfgAllWritten
  refine Upd.ite ?_ ?_
  · exact Upd.refl _ _
  · refine Upd.ite ?_ ?_
    · extract_lets +onlyGivenNames x1
      refine cut (P := Upd 0x4020280 s x1) ?_ (fun h2 => ?_)
      · unfold x1
        refine Upd.step (State.cfgSet_upd ..) rfl ?_
        exact Upd.refl _ _
      clear_value x1
      refine Upd.ite ?_ ?_
      · exact h2
      · extract_lets +onlyGivenNames x3
        refine cut (P := Upd 0x4020280 s x3) ?_ (fun h4 => ?_)
        · unfold x3
          refine Upd.step (State.setF_upd ..) rfl ?_
          exact h2
        clear_value x3
        extract_lets +onlyGivenNames x5
        refine cut (P := Upd 0x4020280 s x5) ?_ (fun h6 => ?_)
        · unfold x5
          refine Upd.step (State.recordO_upd ..) rfl ?_
          exact h4
        clear_value x5
        refine Upd.step (Upd.set_cfg _ _) rfl ?_
        exact h6
    · refine Upd.ite ?_ ?_
      · refine Upd.step (State.cfgDrop_upd ..) rfl ?_
        refine Upd.ite ?_ ?_
        · refine Upd.step (State.cfgEnd_upd ..) rfl ?_
          exact Upd.refl _ _
        · exact Upd.refl _ _
      · refine Upd.ite ?_ ?_
        · refine Upd.step (State.cfgSet_upd ..) rfl ?_
          exact Upd.refl _ _
        · refine Upd.step (State.cfgSet_upd ..) rfl ?_
          exact Upd.refl _ _

theorem cfgWritten_upd (f : Nat) (ok : Bool) (s : State) : Upd 0x141be380 s (cfgWritten f ok s) := by
  unfold cfgWritten
  split
  · exact Upd.refl _ _
  · split
    · exact Upd.refl _ _
    · refine Upd.ite ?_ ?_
      · extract_lets +onlyGivenNames x1
        refine cut (P := Upd 0x141be380 s x1) ?_ (fun h2 => ?_)
        · unfold x1
          refine Upd.step (State.putDesign_upd ..) rfl ?_
          exact Upd.refl _ _
        clear_value x1
        extract_lets +onlyGivenNames x3
        refine cut (P := Upd 0x141be380 s x3) ?_ (fun h4 => ?_)
        · unfold x3
          refine Upd.step (State.setCfgRec_upd ..) rfl ?_
          refine Upd.step (State.initCells_upd ..) rfl ?_
          refine Upd.step (State.bmInitData_upd ..) rfl ?_
          exact h2
        clear_value x3
        extract_lets +onlyGivenNames x5
        clear_value x5
        refine Upd.step (State.cfgAllWritten_upd ..) rfl ?_
        refine Upd.step (State.cfgSet_upd ..) rfl ?_
        refine Upd.step (State.setCfgState_upd ..) rfl ?_
        exact h4
      · refine Upd.ite ?_ ?_
        · extract_lets +onlyGivenNames x6
          refine cut (P := Upd 0x141be380 s x6) ?_ (fun h7 => ?_)
          · unfold x6
            refine Upd.step (State.reloadFail_upd ..) rfl ?_
            exact Upd.refl _ _
          clear_value x6
          extract_lets +onlyGivenNames x8
          clear_value x8
          refine Upd.step (State.cfgAllWritten_upd ..) rfl ?_
          refine Upd.step (State.cfgSet_upd ..) rfl ?_
          exact h7
        · extract_lets +onlyGivenNames x9
          refine cut (P := Upd 0x141be380 s x9) ?_ (fun h10 => ?_)
          · unfold x9
            refine Upd.step (State.setCfgRec_upd ..) rfl ?_
            refine Upd.step (State.cfgFailField_upd ..) rfl ?_
            exact Upd.refl _ _
          clear_value x9
          refine Upd.step (State.cfgFail_upd ..) rfl ?_
          exact h10

theorem execCfgFieldWritten_upd (f : Fin 128) (ok : Bool) (s : State) : UpdO 0x141be380 s (execCfgFieldWritten f ok s) := by
  unfold execCfgFieldWritten
  refine UpdO.next ?_
  refine Upd.step (cfgWritten_upd ..) rfl ?_
  exact Upd.refl _ _

theorem State.cfgReload_upd (s : State) (kind : Nat) (site : Nat) (chan : Nat) (fs : List Nat) : Upd 0x141be380 s (State.cfgReload s kind site chan fs) := by
  unfold State.cfgReload
  extract_lets +onlyGivenNames x1
  clear_value x1
  extract_lets +onlyGivenNames x2
  clear_value x2
  extract_lets +onlyGivenNames x3
  refine cut (P := Upd 0x141be380 s x3) ?_ (fun h4 => ?_)
  · unfold x3
    refine Upd.foldl ?_ (fun y5 a6 h7 => ?_)
    · exact Upd.refl _ _
    · refine Upd.step (State.reloadFail_upd ..) rfl ?_
      exact h7
  clear_value x3
  extract_lets +onlyGivenNames x8
  clear_value x8
  extract_lets +onlyGivenNames x9
  refine cut (P := Upd 0x141be380 s x9) ?_ (fun h10 => ?_)
  · unfold x9
    refine Upd.step (State.cfgAdd_upd ..) rfl ?_
    exact h4
  clear_value x9
  refine Upd.ite ?_ ?_
  · refine Upd.step (State.cfgAllWritten_upd ..) rfl ?_
    exact h10
  · exact h10

theorem State.startField_upd (s : State) (x : CfgGroup) (st : Nat) (f : Nat) : Upd 0x1e380 s (State.startField s x st f) := by
  unfold State.startField
  split
  · extract_lets +onlyGivenNames x1
    refine cut (P := Upd 0x1e380 s x1) ?_ (fun h2 => ?_)
    · unfold x1
      split
      · refine Upd.step (State.loadClk_upd ..) rfl ?_
        exact Upd.refl _ _
      · exact Upd.refl _ _
    clear_value x1
    extract_lets +onlyGivenNames x3
    refine cut (P := Upd 0x1e380 s x3) ?_ (fun h4 => ?_)
    · unfold x3
      refine Upd.step (State.clrF_upd ..) rfl ?_
      refine Upd.step (State.setF_upd ..) rfl ?_
      exact h2
    clear_value x3
    refine Upd.step (State.ckUpdate_upd ..) rfl ?_
    refine Upd.step (State.fieldChange_upd ..) rfl ?_
    exact h4
  · refine Upd.step (State.fieldChange_upd ..) rfl ?_
    exact Upd.refl _ _
  · refine Upd.step (State.gsrRelease_upd ..) rfl ?_
    exact Upd.refl _ _
  · refine Upd.step (State.fieldChange_upd ..) rfl ?_
    exact Upd.refl _ _

theorem cfgStep_upd (g : Nat) (s : State) : Upd 0x401e380 s (cfgStep g s) := by
  unfold cfgStep
  split
  · exact Upd.refl _ _
  · extract_lets +onlyGivenNames x1
    clear_value x1
    split
    · exact Upd.refl _ _
    · refine Upd.ite ?_ ?_
      · exact Upd.refl _ _
      · extract_lets +onlyGivenNames x2
        clear_value x2
        extract_lets +onlyGivenNames x3
        refine cut (P := Upd 0x401e380 s x3) ?_ (fun h4 => ?_)
        · unfold x3
          refine Upd.foldl ?_ (fun y5 a6 h7 => ?_)
          · exact Upd.refl _ _
          · refine Upd.step (State.wf_upd ..) rfl ?_
            refine Upd.step (State.setCfgState_upd ..) rfl ?_
            refine Upd.step (State.startField_upd ..) rfl ?_
            exact h7
        clear_value x3
        refine Upd.ite ?_ ?_
        · refine Upd.step (State.cfgDrop_upd ..) rfl ?_
          refine Upd.step (State.cfgEnd_upd ..) rfl ?_
          exact h4
        · refine Upd.step (State.cfgSet_upd ..) rfl ?_
          exact h4

theorem execCfgStartupStep_upd (g : Nat) (s : State) : UpdO 0x401e380 s (execCfgStartupStep g s) := by
  unfold execCfgStartupStep
  refine UpdO.next ?_
  refine Upd.step (cfgStep_upd ..) rfl ?_
  exact Upd.refl _ _

theorem cfgLockTimeout_upd (g : Nat) (s : State) : Upd 0x141be380 s (cfgLockTimeout g s) := by
  unfold cfgLockTimeout
  split
  · exact Upd.refl _ _
  · extract_lets +onlyGivenNames x1
    clear_value x1
    split
    · exact Upd.refl _ _
    · refine Upd.ite ?_ ?_
      · exact Upd.refl _ _
      · extract_lets +onlyGivenNames x2
        refine cut (P := Upd 0x141be380 s x2) ?_ (fun h3 => ?_)
        · unfold x2
          refine Upd.foldl ?_ (fun y4 a5 h6 => ?_)
          · exact Upd.refl _ _
          · refine Upd.step (State.setF_upd ..) rfl ?_
            refine Upd.step (State.cfgFailField_upd ..) rfl ?_
            exact h6
        clear_value x2
        refine Upd.step (State.cfgFail_upd ..) rfl ?_
        exact h3

theorem execCfgLockTimeout_upd (g : Nat) (s : State) : UpdO 0x141be380 s (execCfgLockTimeout g s) := by
  unfold execCfgLockTimeout
  refine UpdO.next ?_
  refine Upd.step (cfgLockTimeout_upd ..) rfl ?_
  exact Upd.refl _ _

theorem State.cfgSiteAbort_upd (s : State) (n : Nat) : Upd 0x1419e380 s (State.cfgSiteAbort s n) := by
  unfold State.cfgSiteAbort
  refine Upd.foldl ?_ (fun y1 a2 h3 => ?_)
  · exact Upd.refl _ _
  · extract_lets +onlyGivenNames x4
    refine cut (P := Upd 0x1419e380 s x4) ?_ (fun h5 => ?_)
    · unfold x4
      refine Upd.foldl ?_ (fun y6 a7 h8 => ?_)
      · exact h3
      · refine Upd.step (State.gsrAssert_upd ..) rfl ?_
        exact h8
    clear_value x4
    refine Upd.step (State.cfgDrop_upd ..) rfl ?_
    refine Upd.step (State.cfgEnd_upd ..) rfl ?_
    exact h5

theorem execCfgStoreCopy_upd (f : Fin 128) (s : State) : UpdO 0x200 s (execCfgStoreCopy f s) := by
  unfold execCfgStoreCopy
  refine UpdO.ite ?_ ?_
  · extract_lets +onlyGivenNames x1
    refine cut (P := Upd 0x200 s x1) ?_ (fun h2 => ?_)
    · unfold x1
      refine Upd.step (State.wf_upd ..) rfl ?_
      exact Upd.refl _ _
    clear_value x1
    refine UpdO.next ?_
    refine Upd.ite ?_ ?_
    · exact h2
    · refine Upd.step (State.setF_upd ..) rfl ?_
      exact h2
  · refine UpdO.next ?_
    exact Upd.refl _ _

theorem State.cfgCorrect_upd (s : State) (f : Nat) (w : Nat) : Upd 0x2000 s (State.cfgCorrect s f w) := by
  unfold State.cfgCorrect
  extract_lets +onlyGivenNames x1
  clear_value x1
  refine Upd.ite ?_ ?_
  · exact Upd.refl _ _
  · refine Upd.step (State.flipCfg_upd ..) rfl ?_
    exact Upd.refl _ _

theorem cfgScrubWord_upd (f : Nat) (frame : Nat) (w : Nat) (s : State) : Upd 0x22280 s (cfgScrubWord f frame w s) := by
  unfold cfgScrubWord
  extract_lets +onlyGivenNames x1
  clear_value x1
  extract_lets +onlyGivenNames x2
  clear_value x2
  refine Upd.ite ?_ ?_
  · refine Upd.step (State.reportO_upd ..) rfl ?_
    refine Upd.step (State.cnt_upd ..) rfl ?_
    refine Upd.step (State.setF_upd ..) rfl ?_
    refine Upd.step (State.cfgCorrect_upd ..) rfl ?_
    exact Upd.refl _ _
  · refine Upd.ite ?_ ?_
    · extract_lets +onlyGivenNames x3
      clear_value x3
      refine Upd.step (State.reportO_upd ..) rfl ?_
      refine Upd.step (State.wr_upd ..) rfl ?_
      refine Upd.step (State.cnt_upd ..) rfl ?_
      refine Upd.step (State.setF_upd ..) rfl ?_
      exact Upd.refl _ _
    · exact Upd.refl _ _

theorem cfgScrub_upd (f : Nat) (frame : Nat) (s : State) : Upd 0x141be380 s (cfgScrub f frame s) := by
  unfold cfgScrub
  extract_lets +onlyGivenNames x1
  clear_value x1
  extract_lets +onlyGivenNames x2
  clear_value x2
  refine Upd.ite ?_ ?_
  · exact Upd.refl _ _
  · extract_lets +onlyGivenNames x3
    refine cut (P := Upd 0x141be380 s x3) ?_ (fun h4 => ?_)
    · unfold x3
      refine Upd.foldl ?_ (fun y5 a6 h7 => ?_)
      · exact Upd.refl _ _
      · refine Upd.step (cfgScrubWord_upd ..) rfl ?_
        exact h7
    clear_value x3
    refine Upd.ite ?_ ?_
    · exact h4
    · split
      · refine Upd.step (State.cfgReload_upd ..) rfl ?_
        exact h4
      · refine Upd.step (State.setCfgState_upd ..) rfl ?_
        refine Upd.step (State.gsrAssert_upd ..) rfl ?_
        exact h4
      · exact h4

theorem execCfgScrubRead_upd (f : Fin 128) (frame : Fin 17408) (upsets : List (Fin 8 × Fin 72)) (s : State) : UpdO 0x141be380 s (execCfgScrubRead f frame upsets s) := by
  unfold execCfgScrubRead
  refine UpdO.next ?_
  refine Upd.step (cfgScrub_upd ..) rfl ?_
  refine Upd.step (State.flipCfg_upd ..) rfl ?_
  exact Upd.refl _ _

theorem xspiCmd_upd (v : Word) (s : State) : Upd 0x4000300 s (xspiCmd v s) := by
  unfold xspiCmd
  refine Upd.ite ?_ ?_
  · exact Upd.refl _ _
  · refine Upd.ite ?_ ?_
    · refine Upd.step (State.setF_upd ..) rfl ?_
      exact Upd.refl _ _
    · extract_lets +onlyGivenNames x1
      clear_value x1
      extract_lets +onlyGivenNames x2
      clear_value x2
      extract_lets +onlyGivenNames x3
      refine cut (P := Upd 0x4000300 s x3) ?_ (fun h4 => ?_)
      · unfold x3
        refine Upd.step (State.emit_upd ..) rfl ?_
        refine Upd.step (State.setF_upd ..) rfl ?_
        exact Upd.refl _ _
      clear_value x3
      refine Upd.step (Upd.set_cfg _ _) rfl ?_
      exact h4

theorem execCfgXspiCmd_upd (r : Req) (v : Word) (s : State) : UpdO 0x4018300 s (execCfgXspiCmd r v s) := by
  unfold execCfgXspiCmd
  refine UpdO.next ?_
  refine Upd.gated _ _ _ rfl ?_ (fun y1 h2 => ?_)
  · exact Upd.refl _ _
  · refine Upd.step (xspiCmd_upd ..) rfl ?_
    exact h2

theorem xspiDone_upd (data : List Byte) (s : State) : Upd 0x4000200 s (xspiDone data s) := by
  unfold xspiDone
  split
  · exact Upd.refl _ _
  · refine Upd.ite ?_ ?_
    · exact Upd.refl _ _
    · extract_lets +onlyGivenNames x1
      clear_value x1
      extract_lets +onlyGivenNames x2
      refine cut (P := Upd 0x4000200 s x2) ?_ (fun h3 => ?_)
      · unfold x2
        refine Upd.foldl ?_ (fun y4 a5 h6 => ?_)
        · exact Upd.refl _ _
        · extract_lets +onlyGivenNames x7
          clear_value x7
          refine Upd.step (State.wr_upd ..) rfl ?_
          exact h6
      clear_value x2
      extract_lets +onlyGivenNames x8
      refine cut (P := Upd 0x4000200 s x8) ?_ (fun h9 => ?_)
      · unfold x8
        refine Upd.step (State.setF_upd ..) rfl ?_
        refine Upd.step (State.clrF_upd ..) rfl ?_
        exact h3
      clear_value x8
      refine Upd.step (Upd.set_cfg _ _) rfl ?_
      exact h9

theorem execCfgXspiDone_upd (data : List Byte) (s : State) : UpdO 0x4000200 s (execCfgXspiDone data s) := by
  unfold execCfgXspiDone
  refine UpdO.next ?_
  refine Upd.step (xspiDone_upd ..) rfl ?_
  exact Upd.refl _ _

end Sys2Proof.Machine
end

