-- ==== Sys2Proof/Laws/FrameDramOps.lean ====
section
/-! SUPPORT. What each operation of Sys2Proof/Machine/DramOps.lean may change: the fields whose bits are set, in the order of State. -/
namespace Sys2Proof.Machine

theorem State.setDdr_upd (s : State) (c : Nat) (x : DdrSt) : Upd 0x1000000 s (State.setDdr s c x) := by
  unfold State.setDdr
  refine Upd.step (Upd.set_dram _ _ ?_) rfl ?_
  · exact id
  · exact Upd.refl _ _

theorem State.ddrStat_upd (s : State) (c : Nat) (f : Fld) : Upd 0x200 s (State.ddrStat s c f) := by
  unfold State.ddrStat
  refine Upd.step (State.setF_upd ..) rfl ?_
  exact Upd.refl _ _

theorem State.dramEvt_upd (s : State) (n : Nat) (f : Fld) : Upd 0x18300 s (State.dramEvt s n f) := by
  unfold State.dramEvt
  refine Upd.ite ?_ ?_
  · exact Upd.refl _ _
  · refine Upd.step (State.evt_upd ..) rfl ?_
    exact Upd.refl _ _

theorem State.dramEvtAll_upd (s : State) (f : Fld) : Upd 0x18300 s (State.dramEvtAll s f) := by
  unfold State.dramEvtAll
  refine Upd.foldl ?_ (fun y1 a2 h3 => ?_)
  · exact Upd.refl _ _
  · refine Upd.step (State.dramEvt_upd ..) rfl ?_
    exact h3

theorem State.retire_upd (s : State) (c : Nat) (p : Nat) : Upd 0x801038380 s (State.retire s c p) := by
  unfold State.retire
  extract_lets +onlyGivenNames x1
  clear_value x1
  extract_lets +onlyGivenNames x2
  clear_value x2
  refine Upd.ite ?_ ?_
  · exact Upd.refl _ _
  · extract_lets +onlyGivenNames x3
    refine cut (P := Upd 0x801038380 s x3) ?_ (fun h4 => ?_)
    · unfold x3
      refine Upd.step (State.ddrStat_upd ..) rfl ?_
      exact Upd.refl _ _
    clear_value x3
    extract_lets +onlyGivenNames x5
    clear_value x5
    refine Upd.ite ?_ ?_
    · extract_lets +onlyGivenNames x6
      refine cut (P := Upd 0x801038380 s x6) ?_ (fun h7 => ?_)
      · unfold x6
        refine Upd.step (State.wf_upd ..) rfl ?_
        exact h4
      clear_value x6
      extract_lets +onlyGivenNames x8
      clear_value x8
      extract_lets +onlyGivenNames x9
      refine cut (P := Upd 0x801038380 s x9) ?_ (fun h10 => ?_)
      · unfold x9
        refine Upd.step (State.wr_upd ..) rfl ?_
        refine Upd.step (State.setDdr_upd ..) rfl ?_
        exact h7
      clear_value x9
      extract_lets +onlyGivenNames x11
      refine cut (P := Upd 0x801038380 s x11) ?_ (fun h12 => ?_)
      · unfold x11
        refine Upd.step (Upd.set_ledger _ _) rfl ?_
        exact h10
      clear_value x11
      refine Upd.step (State.dramEvtAll_upd ..) rfl ?_
      refine Upd.step (State.reportO_upd ..) rfl ?_
      refine Upd.step (State.recordO_upd ..) rfl ?_
      exact h12
    · refine Upd.step (State.reportO_upd ..) rfl ?_
      refine Upd.step (State.wf_upd ..) rfl ?_
      exact h4

theorem State.storeLine_upd (s : State) (c : Nat) (line : Nat) (x : DLine) : Upd 0x1000000 s (State.storeLine s c line x) := by
  unfold State.storeLine
  refine Upd.step (Upd.set_dram _ _ ?_) rfl ?_
  · exact fun h => tabWf_tabPut _ _ h
  · exact Upd.refl _ _

theorem State.queueLine_upd (s : State) (c : Nat) (line : Nat) (x : DLine) : Upd 0x1000000 s (State.queueLine s c line x) := by
  unfold State.queueLine
  extract_lets +onlyGivenNames x1
  clear_value x1
  refine Upd.step (State.setDdr_upd ..) rfl ?_
  exact Upd.refl _ _

theorem State.setFilled_upd (s : State) (c : Nat) (blk : Nat) : Upd 0x1000000 s (State.setFilled s c blk) := by
  unfold State.setFilled
  refine Upd.step (Upd.set_dram _ _ ?_) rfl ?_
  · exact id
  · exact Upd.refl _ _

theorem State.fillBlock_upd (s : State) (c : Nat) (blk : Nat) : Upd 0x1000000 s (State.fillBlock s c blk) := by
  unfold State.fillBlock
  extract_lets keep d x lines
  have h : Upd 0x1000000 s x := Upd.mono (State.setDdr_upd ..) rfl
  clear_value x
  refine Upd.step (State.setFilled_upd ..) rfl (Upd.step (Upd.set_dram _ _ ?_) rfl h)
  exact fun h => DramSt.wf_keep x.dram _ (fun k => !(k / 2 ^ 32 == c && keep (k % 2 ^ 32))) h (by rfl)

theorem State.unfill_upd (s : State) (g : Nat) (n : Nat) : Upd 0x1000000 s (State.unfill s g n) := by
  unfold State.unfill
  refine Upd.step (Upd.set_dram _ _ ?_) rfl ?_
  · exact id
  · exact Upd.refl _ _

theorem State.ddrUe_upd (s : State) (c : Nat) (line : Nat) (mid : Nat) (patrol : Bool) : Upd 0x801038380 s (State.ddrUe s c line mid patrol) := by
  unfold State.ddrUe
  extract_lets +onlyGivenNames x1
  clear_value x1
  extract_lets +onlyGivenNames x2
  clear_value x2
  extract_lets +onlyGivenNames x3
  refine cut (P := Upd 0x801038380 s x3) ?_ (fun h4 => ?_)
  · unfold x3
    refine Upd.ite ?_ ?_
    · exact Upd.refl _ _
    · refine Upd.step (State.wr_upd ..) rfl ?_
      refine Upd.step (State.wr64_upd ..) rfl ?_
      exact Upd.refl _ _
  clear_value x3
  refine Upd.step (State.retire_upd ..) rfl ?_
  refine Upd.step (State.ddrStat_upd ..) rfl ?_
  refine Upd.step (State.cnt_upd ..) rfl ?_
  exact h4

theorem State.ddrCe_upd (s : State) (c : Nat) : Upd 0x200 s (State.ddrCe s c) := by
  unfold State.ddrCe
  refine Upd.step (State.ddrStat_upd ..) rfl ?_
  refine Upd.step (State.cnt_upd ..) rfl ?_
  exact Upd.refl _ _

theorem State.readLine_upd (s : State) (c : Nat) (line : Nat) (mid : Nat) (e : DramEcc) (patrol : Bool) : UpdP 0x801038380 s (State.readLine s c line mid e patrol) := by
  unfold State.readLine
  split
  · refine UpdP.ite ?_ ?_
    · refine UpdP.mk ?_
      refine Upd.step (State.ddrUe_upd ..) rfl ?_
      exact Upd.refl _ _
    · refine UpdP.ite ?_ ?_
      · refine UpdP.mk ?_
        exact Upd.refl _ _
      · cases e <;> dsimp only
        · refine UpdP.mk ?_
          exact Upd.refl _ _
        · refine UpdP.mk ?_
          refine Upd.step (State.ddrCe_upd ..) rfl ?_
          exact Upd.refl _ _
        · refine UpdP.mk ?_
          refine Upd.step (State.ddrUe_upd ..) rfl ?_
          exact Upd.refl _ _
        · refine UpdP.mk ?_
          exact Upd.refl _ _

theorem State.activate_upd (s : State) (c : Nat) (bank : Nat) (mid : Nat) : Upd 0x1018300 s (State.activate s c bank mid) := by
  unfold State.activate
  extract_lets +onlyGivenNames x1
  clear_value x1
  extract_lets +onlyGivenNames x2
  clear_value x2
  extract_lets +onlyGivenNames x3
  clear_value x3
  extract_lets +onlyGivenNames x4
  clear_value x4
  extract_lets +onlyGivenNames x5
  clear_value x5
  extract_lets +onlyGivenNames x6
  refine cut (P := Upd 0x1018300 s x6) ?_ (fun h7 => ?_)
  · unfold x6
    refine Upd.step (State.setDdr_upd ..) rfl ?_
    exact Upd.refl _ _
  clear_value x6
  extract_lets +onlyGivenNames x8
  clear_value x8
  refine Upd.ite ?_ ?_
  · exact h7
  · split
    · exact h7
    · refine Upd.ite ?_ ?_
      · exact h7
      · extract_lets +onlyGivenNames x9
        clear_value x9
        extract_lets +onlyGivenNames x10
        refine cut (P := Upd 0x1018300 s x10) ?_ (fun h11 => ?_)
        · unfold x10
          refine Upd.step (State.setDdr_upd ..) rfl ?_
          exact h7
        clear_value x10
        extract_lets +onlyGivenNames x12
        refine cut (P := Upd 0x1018300 s x12) ?_ (fun h13 => ?_)
        · unfold x12
          refine Upd.step (State.wr_upd ..) rfl ?_
          exact h11
        clear_value x12
        refine Upd.step (State.dramEvt_upd ..) rfl ?_
        refine Upd.step (State.ddrStat_upd ..) rfl ?_
        refine Upd.step (State.cnt_upd ..) rfl ?_
        exact h13

theorem State.devices_upd (s : State) (c : Nat) (line : Nat) (mid : Nat) (act : Option (Fin 32)) (rfm : Nat) : Upd 0x1018300 s (State.devices s c line mid act rfm) := by
  unfold State.devices
  extract_lets +onlyGivenNames x1
  refine cut (P := Upd 0x1018300 s x1) ?_ (fun h2 => ?_)
  · unfold x1
    split
    · refine Upd.step (State.activate_upd ..) rfl ?_
      exact Upd.refl _ _
    · exact Upd.refl _ _
  clear_value x1
  refine Upd.ite ?_ ?_
  · exact h2
  · refine Upd.step (State.cnt_upd ..) rfl ?_
    exact h2

theorem State.portMax_upd (s : State) (c : Nat) (p : Nat) (ns : Nat) : Upd 0x200 s (State.portMax s c p ns) := by
  unfold State.portMax
  extract_lets +onlyGivenNames x1
  clear_value x1
  refine Upd.step (State.wf_upd ..) rfl ?_
  exact Upd.refl _ _

theorem State.freqStart_upd (s : State) (c : Nat) (f : Nat) : Upd 0x1018300 s (State.freqStart s c f) := by
  unfold State.freqStart
  refine Upd.step (State.dramEvtAll_upd ..) rfl ?_
  refine Upd.step (State.wf_upd ..) rfl ?_
  refine Upd.step (State.setDdr_upd ..) rfl ?_
  exact Upd.refl _ _

theorem State.freqGo_upd (s : State) (c : Nat) (f : Nat) : Upd 0x1018300 s (State.freqGo s c f) := by
  unfold State.freqGo
  refine Upd.ite ?_ ?_
  · refine Upd.step (State.freqStart_upd ..) rfl ?_
    exact Upd.refl _ _
  · refine Upd.step (State.ddrStat_upd ..) rfl ?_
    exact Upd.refl _ _

theorem State.ddrOut_upd (s : State) (c : Nat) : Upd 0x20280 s (State.ddrOut s c) := by
  unfold State.ddrOut
  extract_lets +onlyGivenNames x1
  refine cut (P := Upd 0x20280 s x1) ?_ (fun h2 => ?_)
  · unfold x1
    refine Upd.step (State.ddrStat_upd ..) rfl ?_
    refine Upd.step (State.wf_upd ..) rfl ?_
    exact Upd.refl _ _
  clear_value x1
  refine Upd.step (State.reportO_upd ..) rfl ?_
  exact h2

theorem State.retrainTo_upd (s : State) (c : Nat) (o : Option Nat) : Upd 0x1038380 s (State.retrainTo s c o) := by
  unfold State.retrainTo
  split
  · refine Upd.step (State.freqStart_upd ..) rfl ?_
    refine Upd.step (State.ddrStat_upd ..) rfl ?_
    refine Upd.step (State.ddrStat_upd ..) rfl ?_
    exact Upd.refl _ _
  · refine Upd.step (State.ddrOut_upd ..) rfl ?_
    exact Upd.refl _ _

theorem State.retrainFail_upd (s : State) (c : Nat) : Upd 0x1038380 s (State.retrainFail s c) := by
  unfold State.retrainFail
  extract_lets +onlyGivenNames x1
  clear_value x1
  extract_lets +onlyGivenNames x2
  refine cut (P := Upd 0x1038380 s x2) ?_ (fun h3 => ?_)
  · unfold x2
    refine Upd.step (State.clrF_upd ..) rfl ?_
    exact Upd.refl _ _
  clear_value x2
  refine Upd.step (State.retrainTo_upd ..) rfl ?_
  exact h3

end Sys2Proof.Machine
end

