-- ==== Sys2Proof/Laws/FrameDrbg.lean ====
section
/-! SUPPORT. What each operation of Sys2Proof/Machine/Drbg.lean may change: the fields whose bits are set, in the order of State. -/
namespace Sys2Proof.Machine

theorem State.takeSeed_upd (s : State) : UpdP 0x8000000 s (State.takeSeed s) := by
  unfold State.takeSeed
  extract_lets +onlyGivenNames x1
  clear_value x1
  refine UpdP.mk ?_
  refine Upd.step (Upd.set_sec _ _) rfl ?_
  exact Upd.refl _ _

theorem State.drbgStart_upd (s : State) : Upd 0x8000000 s (State.drbgStart s) := by
  unfold State.drbgStart
  extract_lets +onlyGivenNames x1
  refine cut (P := UpdP 0x8000000 s x1) ?_ (fun h2 => ?_)
  · unfold x1
    refine UpdP.step (State.takeSeed_upd ..) rfl ?_
    exact Upd.refl _ _
  clear_value x1
  extract_lets +onlyGivenNames x3
  refine cut (P := Upd 0x8000000 s x3) ?_ (fun h4 => ?_)
  · unfold x3
    exact h2
  clear_value x3
  refine Upd.step (Upd.set_sec _ _) rfl ?_
  exact h4

theorem State.drbgReseed_upd (s : State) : Upd 0x8000000 s (State.drbgReseed s) := by
  unfold State.drbgReseed
  extract_lets +onlyGivenNames x1
  refine cut (P := UpdP 0x8000000 s x1) ?_ (fun h2 => ?_)
  · unfold x1
    refine UpdP.step (State.takeSeed_upd ..) rfl ?_
    exact Upd.refl _ _
  clear_value x1
  extract_lets +onlyGivenNames x3
  refine cut (P := Upd 0x8000000 s x3) ?_ (fun h4 => ?_)
  · unfold x3
    exact h2
  clear_value x3
  refine Upd.step (Upd.set_sec _ _) rfl ?_
  exact h4

theorem State.draw_upd (s : State) (n : Nat) : UpdP 0x8000000 s (State.draw s n) := by
  unfold State.draw
  extract_lets +onlyGivenNames x1
  refine cut (P := Upd 0x8000000 s x1) ?_ (fun h2 => ?_)
  · unfold x1
    refine Upd.ite ?_ ?_
    · exact Upd.refl _ _
    · refine Upd.step (State.drbgReseed_upd ..) rfl ?_
      exact Upd.refl _ _
  clear_value x1
  extract_lets +onlyGivenNames x3
  clear_value x3
  refine UpdP.mk ?_
  refine Upd.step (Upd.set_sec _ _) rfl ?_
  exact h2

end Sys2Proof.Machine
end

