-- ==== Sys2Proof/Laws/FrameEncOps.lean ====
section
/-! SUPPORT. What each operation of Sys2Proof/Machine/EncOps.lean may change: the fields whose bits are set, in the order of State. -/
namespace Sys2Proof.Machine

theorem State.encEvt_upd (s : State) (n : Nat) (f : Fld) : Upd 0x18300 s (State.encEvt s n f) := by
  unfold State.encEvt
  refine Upd.step (State.evt_upd ..) rfl ?_
  exact Upd.refl _ _

theorem State.setCached_upd (s : State) (c : Nat) (n : Nat) (area : Nat) (i : Nat) (x : Option CLine) : Upd 0x1000000 s (State.setCached s c n area i x) := by
  unfold State.setCached
  extract_lets +onlyGivenNames x1
  clear_value x1
  refine Upd.step (State.setDdr_upd ..) rfl ?_
  exact Upd.refl _ _

theorem State.setRoot_upd (s : State) (c : Nat) (n : Nat) (i : Nat) (v : Nat) : Upd 0x1000000 s (State.setRoot s c n i v) := by
  unfold State.setRoot
  extract_lets +onlyGivenNames x1
  clear_value x1
  extract_lets +onlyGivenNames x2
  clear_value x2
  extract_lets +onlyGivenNames x3
  clear_value x3
  refine Upd.step (State.setDdr_upd ..) rfl ?_
  exact Upd.refl _ _

theorem State.encAlarm_upd (s : State) (c : Nat) (n : Nat) (line : Nat) (lev : Nat) (mid : Nat) : Upd 0x38380 s (State.encAlarm s c n line lev mid) := by
  unfold State.encAlarm
  extract_lets +onlyGivenNames x1
  clear_value x1
  extract_lets +onlyGivenNames x2
  refine cut (P := Upd 0x38380 s x2) ?_ (fun h3 => ?_)
  · unfold x2
    refine Upd.ite ?_ ?_
    · exact Upd.refl _ _
    · refine Upd.step (State.wr_upd ..) rfl ?_
      refine Upd.step (State.wr64_upd ..) rfl ?_
      exact Upd.refl _ _
  clear_value x2
  extract_lets +onlyGivenNames x4
  refine cut (P := Upd 0x38380 s x4) ?_ (fun h5 => ?_)
  · unfold x4
    refine Upd.step (State.cnt_upd ..) rfl ?_
    exact h3
  clear_value x4
  extract_lets +onlyGivenNames x6
  clear_value x6
  extract_lets +onlyGivenNames x7
  refine cut (P := Upd 0x38380 s x7) ?_ (fun h8 => ?_)
  · unfold x7
    refine Upd.step (State.wf_upd ..) rfl ?_
    exact h5
  clear_value x7
  extract_lets +onlyGivenNames x9
  refine cut (P := Upd 0x38380 s x9) ?_ (fun h10 => ?_)
  · unfold x9
    refine Upd.step (State.encEvt_upd ..) rfl ?_
    exact h8
  clear_value x9
  split
  · rename_i v11 v12 v13 v14
    refine cut (P := Upd 0x38380 s v13) (UpdP.out ?_ v14) (fun h15 => ?_)
    · refine UpdP.step (State.fresh_upd ..) rfl ?_
      exact h10
    split
    · rename_i v16 v17 v18 v19
      refine cut (P := Upd 0x38380 s v18) (UpdP.out ?_ v19) (fun h20 => ?_)
      · refine UpdP.step (State.fresh_upd ..) rfl ?_
        exact h15
      extract_lets +onlyGivenNames x21
      refine cut (P := Upd 0x38380 s x21) ?_ (fun h22 => ?_)
      · unfold x21
        refine Upd.step (State.record_upd ..) rfl ?_
        exact h20
      clear_value x21
      refine Upd.ite ?_ ?_
      · refine Upd.step (State.encEvt_upd ..) rfl ?_
        refine Upd.step (State.wf_upd ..) rfl ?_
        exact h22
      · exact h22

theorem State.bringCtr_upd (s : State) (c : Nat) (n : Nat) (g : EncGeo) (mid : Nat) (k : Nat) (i : Nat) (e : List DramEcc) : UpdQ 0x801038380 s (State.bringCtr s c n g mid k i e) := by
  unfold State.bringCtr
  extract_lets +onlyGivenNames x1
  clear_value x1
  refine UpdQ.ite ?_ ?_
  · refine UpdQ.mk ?_
    refine Upd.step (State.setCached_upd ..) rfl ?_
    exact Upd.refl _ _
  · extract_lets +onlyGivenNames x2
    clear_value x2
    split
    · rename_i v3 v4 v5
      refine cut (P := Upd 0x801038380 s v4) (UpdP.out ?_ v5) (fun h6 => ?_)
      · refine UpdP.step (State.readLine_upd ..) rfl ?_
        exact Upd.refl _ _
      refine UpdQ.mk ?_
      refine Upd.step (State.encEvt_upd ..) rfl ?_
      exact h6
    · rename_i v7 v8 v9 v10
      refine cut (P := Upd 0x801038380 s v9) (UpdP.out ?_ v10) (fun h11 => ?_)
      · refine UpdP.step (State.readLine_upd ..) rfl ?_
        exact Upd.refl _ _
      refine UpdQ.ite ?_ ?_
      · refine UpdQ.mk ?_
        refine Upd.step (State.setCached_upd ..) rfl ?_
        exact h11
      · refine UpdQ.mk ?_
        refine Upd.step (State.encAlarm_upd ..) rfl ?_
        exact h11

theorem State.walkDown_upd (s : State) (c n : Nat) (g : EncGeo) (mid j lo k : Nat) (e : List DramEcc) :
    UpdQ 0x801038380 s (s.walkDown c n g mid j lo k e) := by
  induction k generalizing s e with
  | zero => exact Upd.refl _ _
  | succ k ih =>
    unfold State.walkDown
    refine UpdQ.ite (Upd.refl _ _) ?_
    have h := State.bringCtr_upd s c n g mid k (j / 8 ^ (k + 1)) e
    split
    · rename_i he
      exact UpdQ.step (ih ..) (by rfl) (UpdQ.out h he)
    · exact UpdQ.step h (by rfl) (Upd.refl _ _)

theorem State.encWalk_upd (s : State) (c : Nat) (n : Nat) (g : EncGeo) (mid : Nat) (j : Nat) (lo : Nat) (e : List DramEcc) : UpdQ 0x801038380 s (State.encWalk s c n g mid j lo e) := by
  unfold State.encWalk
  extract_lets +onlyGivenNames x1
  clear_value x1
  refine UpdQ.step (State.walkDown_upd ..) rfl ?_
  exact Upd.refl _ _

theorem State.encCount_upd (s : State) (c : Nat) (n : Nat) (j : Nat) : Upd 0x200 s (State.encCount s c n j) := by
  unfold State.encCount
  extract_lets +onlyGivenNames x1
  clear_value x1
  refine Upd.step (State.cnt_upd ..) rfl ?_
  exact Upd.refl _ _

theorem State.macLine_upd (s : State) (c : Nat) (n : Nat) (g : EncGeo) (mid : Nat) (j : Nat) (e : List DramEcc) : UpdQ 0x801038380 s (State.macLine s c n g mid j e) := by
  unfold State.macLine
  split
  · refine UpdQ.mk ?_
    exact Upd.refl _ _
  · refine UpdQ.ite ?_ ?_
    · refine UpdQ.mk ?_
      exact Upd.refl _ _
    · split
      · rename_i v1 v2 v3 v4
        refine cut (P := Upd 0x801038380 s v3) (UpdP.out ?_ v4) (fun h5 => ?_)
        · refine UpdP.step (State.readLine_upd ..) rfl ?_
          exact Upd.refl _ _
        exact h5

theorem State.encReadLine_upd (s : State) (c : Nat) (n : Nat) (g : EncGeo) (mid : Nat) (j : Nat) (e : List DramEcc) : UpdQ 0x801038380 s (State.encReadLine s c n g mid j e) := by
  unfold State.encReadLine
  split
  · rename_i v1 v2 v3 v4
    refine cut (P := Upd 0x801038380 s v3) (UpdQ.out ?_ v4) (fun h5 => ?_)
    · refine UpdQ.step (State.encWalk_upd ..) rfl ?_
      exact Upd.refl _ _
    exact h5
  · rename_i v6 v7 v8 v9
    refine cut (P := Upd 0x801038380 s v8) (UpdQ.out ?_ v9) (fun h10 => ?_)
    · refine UpdQ.step (State.encWalk_upd ..) rfl ?_
      exact Upd.refl _ _
    extract_lets +onlyGivenNames x11
    clear_value x11
    refine UpdQ.ite ?_ ?_
    · exact h10
    · split
      · rename_i v12 v13 v14 v15
        refine cut (P := Upd 0x801038380 s v14) (UpdQ.out ?_ v15) (fun h16 => ?_)
        · refine UpdQ.step (State.macLine_upd ..) rfl ?_
          exact h10
        exact h16
      · rename_i v17 v18 v19 v20 v21
        refine cut (P := Upd 0x801038380 s v20) (UpdQ.out ?_ v21) (fun h22 => ?_)
        · refine UpdQ.step (State.macLine_upd ..) rfl ?_
          exact h10
        extract_lets +onlyGivenNames x23
        clear_value x23
        split
        · rename_i v24 v25 v26
          refine cut (P := Upd 0x801038380 s v25) (UpdP.out ?_ v26) (fun h27 => ?_)
          · refine UpdP.step (State.readLine_upd ..) rfl ?_
            exact h22
          exact h27
        · rename_i v28 v29 v30 v31
          refine cut (P := Upd 0x801038380 s v30) (UpdP.out ?_ v31) (fun h32 => ?_)
          · refine UpdP.step (State.readLine_upd ..) rfl ?_
            exact h22
          extract_lets +onlyGivenNames x33
          clear_value x33
          refine UpdQ.ite ?_ ?_
          · extract_lets +onlyGivenNames x34
            refine cut (P := Upd 0x801038380 s x34) ?_ (fun h35 => ?_)
            · unfold x34
              refine Upd.ite ?_ ?_
              · exact h32
              · refine Upd.step (State.setCached_upd ..) rfl ?_
                exact h32
            clear_value x34
            exact h35
          · refine UpdQ.mk ?_
            refine Upd.step (State.encAlarm_upd ..) rfl ?_
            exact h32

theorem State.encPut_upd (s : State) (c : Nat) (n : Nat) (g : EncGeo) (mid : Nat) (j : Nat) (x : Nat) (e : List DramEcc) : UpdQ 0x801038380 s (State.encPut s c n g mid j x e) := by
  unfold State.encPut
  extract_lets +onlyGivenNames x1
  clear_value x1
  extract_lets +onlyGivenNames x2
  clear_value x2
  refine UpdQ.ite ?_ ?_
  · refine UpdQ.mk ?_
    refine Upd.step (State.encEvt_upd ..) rfl ?_
    exact Upd.refl _ _
  · split
    · rename_i v3 v4 v5 v6
      refine cut (P := Upd 0x801038380 s v5) (UpdQ.out ?_ v6) (fun h7 => ?_)
      · refine UpdQ.step (State.macLine_upd ..) rfl ?_
        exact Upd.refl _ _
      exact h7
    · rename_i v8 v9 v10 v11 v12
      refine cut (P := Upd 0x801038380 s v11) (UpdQ.out ?_ v12) (fun h13 => ?_)
      · refine UpdQ.step (State.macLine_upd ..) rfl ?_
        exact Upd.refl _ _
      extract_lets +onlyGivenNames x14
      clear_value x14
      extract_lets +onlyGivenNames x15
      clear_value x15
      extract_lets +onlyGivenNames x16
      clear_value x16
      extract_lets +onlyGivenNames x17
      clear_value x17
      extract_lets +onlyGivenNames x18
      refine cut (P := Upd 0x801038380 s x18) ?_ (fun h19 => ?_)
      · unfold x18
        refine Upd.step (State.setCached_upd ..) rfl ?_
        exact h13
      clear_value x18
      extract_lets +onlyGivenNames x20
      refine cut (P := Upd 0x801038380 s x20) ?_ (fun h21 => ?_)
      · unfold x20
        refine Upd.step (State.setCached_upd ..) rfl ?_
        exact h19
      clear_value x20
      extract_lets +onlyGivenNames x22
      refine cut (P := Upd 0x801038380 s x22) ?_ (fun h23 => ?_)
      · unfold x22
        refine Upd.step (State.queueLine_upd ..) rfl ?_
        exact h21
      clear_value x22
      refine UpdQ.mk ?_
      refine Upd.step (State.setFilled_upd ..) rfl ?_
      exact h23

theorem State.encWriteLine_upd (s : State) (c : Nat) (n : Nat) (g : EncGeo) (mid : Nat) (j : Nat) (x : Nat) (lo : Nat) (len : Nat) (e : List DramEcc) : UpdQ 0x801038380 s (State.encWriteLine s c n g mid j x lo len e) := by
  unfold State.encWriteLine
  refine UpdQ.ite ?_ ?_
  · split
    · rename_i v1 v2 v3 v4
      refine cut (P := Upd 0x801038380 s v3) (UpdQ.out ?_ v4) (fun h5 => ?_)
      · refine UpdQ.step (State.encWalk_upd ..) rfl ?_
        exact Upd.refl _ _
      exact h5
    · rename_i v6 v7 v8 v9
      refine cut (P := Upd 0x801038380 s v8) (UpdQ.out ?_ v9) (fun h10 => ?_)
      · refine UpdQ.step (State.encWalk_upd ..) rfl ?_
        exact Upd.refl _ _
      refine UpdQ.step (State.encPut_upd ..) rfl ?_
      exact h10
  · split
    · rename_i v11 v12 v13 v14
      refine cut (P := Upd 0x801038380 s v13) (UpdQ.out ?_ v14) (fun h15 => ?_)
      · refine UpdQ.step (State.encReadLine_upd ..) rfl ?_
        exact Upd.refl _ _
      exact h15
    · rename_i v16 v17 v18 v19 v20
      refine cut (P := Upd 0x801038380 s v19) (UpdQ.out ?_ v20) (fun h21 => ?_)
      · refine UpdQ.step (State.encReadLine_upd ..) rfl ?_
        exact Upd.refl _ _
      refine UpdQ.step (State.encPut_upd ..) rfl ?_
      exact h21

theorem State.encEvict_upd (s : State) (c : Nat) (n : Nat) (area : Nat) (i : Nat) (e : List DramEcc) : Upd 0x801038380 s (State.encEvict s c n area i e) := by
  unfold State.encEvict
  extract_lets +onlyGivenNames x1
  clear_value x1
  split
  · exact Upd.refl _ _
  · refine Upd.ite ?_ ?_
    · exact Upd.refl _ _
    · refine Upd.ite ?_ ?_
      · refine Upd.step (State.setCached_upd ..) rfl ?_
        exact Upd.refl _ _
      · refine Upd.ite ?_ ?_
        · refine Upd.step (State.setCached_upd ..) rfl ?_
          refine Upd.step (State.queueLine_upd ..) rfl ?_
          exact Upd.refl _ _
        · extract_lets +onlyGivenNames x2
          clear_value x2
          split
          · rename_i v3 v4 v5 v6 v7
            refine cut (P := Upd 0x801038380 s v6) (UpdQ.out ?_ v7) (fun h8 => ?_)
            · refine UpdQ.ite ?_ ?_
              · refine UpdQ.mk ?_
                exact Upd.refl _ _
              · refine UpdQ.step (State.encWalk_upd ..) rfl ?_
                exact Upd.refl _ _
            extract_lets +onlyGivenNames x9
            clear_value x9
            refine Upd.ite ?_ ?_
            · exact h8
            · refine Upd.ite ?_ ?_
              · refine Upd.step (State.encEvt_upd ..) rfl ?_
                exact h8
              · extract_lets +onlyGivenNames x10
                refine cut (P := Upd 0x801038380 s x10) ?_ (fun h11 => ?_)
                · unfold x10
                  refine Upd.ite ?_ ?_
                  · refine Upd.step (State.setRoot_upd ..) rfl ?_
                    exact h8
                  · refine Upd.step (State.setCached_upd ..) rfl ?_
                    exact h8
                clear_value x10
                extract_lets +onlyGivenNames x12
                clear_value x12
                extract_lets +onlyGivenNames x13
                clear_value x13
                extract_lets +onlyGivenNames x14
                clear_value x14
                refine Upd.step (State.setCached_upd ..) rfl ?_
                refine Upd.step (State.queueLine_upd ..) rfl ?_
                exact h11

theorem State.encDrop_upd (s : State) (n : Nat) : Upd 0x1000000 s (State.encDrop s n) := by
  unfold State.encDrop
  refine Upd.foldl ?_ (fun y1 a2 h3 => ?_)
  · exact Upd.refl _ _
  · extract_lets +onlyGivenNames x4
    clear_value x4
    refine Upd.step (State.setDdr_upd ..) rfl ?_
    exact h3

theorem State.drawKeys_upd (s : State) : UpdP 0x8000080 s (State.drawKeys s) := by
  unfold State.drawKeys
  extract_lets +onlyGivenNames x1
  refine cut (P := UpdP 0x8000080 s x1) ?_ (fun h2 => ?_)
  · unfold x1
    refine UpdP.step (State.draw_upd ..) rfl ?_
    refine Upd.step (State.drbgReseed_upd ..) rfl ?_
    exact Upd.refl _ _
  clear_value x1
  extract_lets +onlyGivenNames x3
  refine cut (P := UpdP 0x8000080 s x3) ?_ (fun h4 => ?_)
  · unfold x3
    refine UpdP.step (State.draw_upd ..) rfl ?_
    exact h2
  clear_value x3
  extract_lets +onlyGivenNames x5
  refine cut (P := UpdP 0x8000080 s x5) ?_ (fun h6 => ?_)
  · unfold x5
    refine UpdP.step (State.draw_upd ..) rfl ?_
    exact h4
  clear_value x5
  extract_lets +onlyGivenNames x7
  refine cut (P := UpdP 0x8000080 s x7) ?_ (fun h8 => ?_)
  · unfold x7
    refine UpdP.step (State.fresh_upd ..) rfl ?_
    exact h6
  clear_value x7
  extract_lets +onlyGivenNames x9
  clear_value x9
  exact h8

theorem State.encStart_upd (s : State) (n : Nat) (d : Nat) : Upd 0x9000280 s (State.encStart s n d) := by
  unfold State.encStart
  split
  · rename_i v1 v2 v3 v4
    refine cut (P := Upd 0x9000280 s v3) (UpdP.out ?_ v4) (fun h5 => ?_)
    · refine UpdP.step (State.drawKeys_upd ..) rfl ?_
      exact Upd.refl _ _
    extract_lets +onlyGivenNames x6
    extract_lets +onlyGivenNames x7
    refine cut (P := Upd 0x9000280 s x7) ?_ (fun h8 => ?_)
    · unfold x7
      refine Upd.step (State.encDrop_upd ..) rfl ?_
      refine Upd.step (Upd.set_dram _ _ ?_) rfl ?_
      · exact id
      · exact h5
    clear_value x7
    refine Upd.step (State.wf_upd ..) rfl ?_
    refine Upd.step (State.setF_upd ..) rfl ?_
    refine Upd.step (State.wf_upd ..) rfl ?_
    exact h8

theorem State.encOff_upd (s : State) (n : Nat) : Upd 0x1000200 s (State.encOff s n) := by
  unfold State.encOff
  extract_lets +onlyGivenNames x1
  extract_lets +onlyGivenNames x2
  refine cut (P := Upd 0x1000200 s x2) ?_ (fun h3 => ?_)
  · unfold x2
    refine Upd.step (State.encDrop_upd ..) rfl ?_
    refine Upd.step (Upd.set_dram _ _ ?_) rfl ?_
    · exact id
    · exact Upd.refl _ _
  clear_value x2
  extract_lets +onlyGivenNames x4
  refine cut (P := Upd 0x1000200 s x4) ?_ (fun h5 => ?_)
  · unfold x4
    refine Upd.step (State.unfill_upd ..) rfl ?_
    exact h3
  clear_value x4
  refine Upd.step (State.wf_upd ..) rfl ?_
  refine Upd.step (State.wf_upd ..) rfl ?_
  refine Upd.step (State.clrF_upd ..) rfl ?_
  exact h5

end Sys2Proof.Machine
end

