-- ==== Sys2Proof/Laws/FrameDram.lean ====
section
/-! SUPPORT. What each operation of Sys2Proof/Machine/Dram.lean may change: the fields whose bits are set, in the order of State. -/
namespace Sys2Proof.Machine

theorem dramOwnWrite_upd (g : Nat) (v : Word) (s : State) : Upd 0x1000200 s (dramOwnWrite g v s) := by
  unfold dramOwnWrite
  extract_lets +onlyGivenNames x1
  clear_value x1
  extract_lets +onlyGivenNames x2
  clear_value x2
  refine Upd.ite ?_ ?_
  · exact Upd.refl _ _
  · refine Upd.ite ?_ ?_
    · refine Upd.step (State.setF_upd ..) rfl ?_
      exact Upd.refl _ _
    · extract_lets +onlyGivenNames x3
      refine cut (P := Upd 0x1000200 s x3) ?_ (fun h4 => ?_)
      · unfold x3
        refine Upd.ite ?_ ?_
        · exact Upd.refl _ _
        · refine Upd.step (State.unfill_upd ..) rfl ?_
          exact Upd.refl _ _
      clear_value x3
      refine Upd.step (State.wf_upd ..) rfl ?_
      exact h4

theorem execDramOwnWrite_upd (r : Req) (g : Fin 3072) (v : Word) (s : State) : UpdO 0x1018300 s (execDramOwnWrite r g v s) := by
  unfold execDramOwnWrite
  refine UpdO.next ?_
  refine Upd.gatedIf _ _ _ rfl ?_ (fun y1 h2 => ?_)
  · exact Upd.refl _ _
  · refine Upd.step (dramOwnWrite_upd ..) rfl ?_
    exact h2

theorem State.dramReply_upd (s : State) (c : Nat) (q : DramReq) (op : Nat) (code : Rsp) (data : List Nat) : Upd 0x10080380 s (State.dramReply s c q op code data) := by
  unfold State.dramReply
  extract_lets +onlyGivenNames x1
  clear_value x1
  extract_lets +onlyGivenNames x2
  refine cut (P := Upd 0x10080380 s x2) ?_ (fun h3 => ?_)
  · unfold x2
    refine Upd.ite ?_ ?_
    · exact Upd.refl _ _
    · refine Upd.step (State.emit_upd ..) rfl ?_
      exact Upd.refl _ _
  clear_value x2
  extract_lets +onlyGivenNames x4
  clear_value x4
  extract_lets +onlyGivenNames x5
  refine cut (P := Upd 0x10080380 s x5) ?_ (fun h6 => ?_)
  · unfold x5
    refine Upd.step (State.agentAnswer_upd ..) rfl ?_
    exact h3
  clear_value x5
  refine Upd.step (State.agentAnswer_upd ..) rfl ?_
  exact h6

theorem State.dramRefuses_upd (s : State) (c : Nat) (q : DramReq) : UpdP 0x200 s (State.dramRefuses s c q) := by
  unfold State.dramRefuses
  extract_lets +onlyGivenNames x1
  clear_value x1
  extract_lets +onlyGivenNames x2
  clear_value x2
  refine UpdP.ite ?_ ?_
  · refine UpdP.mk ?_
    exact Upd.refl _ _
  · refine UpdP.ite ?_ ?_
    · refine UpdP.mk ?_
      exact Upd.refl _ _
    · refine UpdP.ite ?_ ?_
      · refine UpdP.mk ?_
        exact Upd.refl _ _
      · split
        · refine UpdP.mk ?_
          exact Upd.refl _ _
        · refine UpdP.ite ?_ ?_
          · refine UpdP.mk ?_
            exact Upd.refl _ _
          · refine UpdP.ite ?_ ?_
            · refine UpdP.mk ?_
              refine Upd.step (State.cnt_upd ..) rfl ?_
              exact Upd.refl _ _
            · refine UpdP.mk ?_
              exact Upd.refl _ _

theorem State.dramLine_upd (s : State) (c : Nat) (slot : Option Nat) (mid : Nat) (line : Nat) (e : List DramEcc) : UpdQ 0x801038380 s (State.dramLine s c slot mid line e) := by
  unfold State.dramLine
  refine UpdQ.ite ?_ ?_
  · refine UpdQ.mk ?_
    exact Upd.refl _ _
  · split
    · extract_lets +onlyGivenNames x1
      clear_value x1
      refine UpdQ.step (State.encReadLine_upd ..) rfl ?_
      refine Upd.step (State.encCount_upd ..) rfl ?_
      exact Upd.refl _ _
    · split
      · rename_i v2 v3 v4 v5
        refine cut (P := Upd 0x801038380 s v4) (UpdP.out ?_ v5) (fun h6 => ?_)
        · refine UpdP.step (State.readLine_upd ..) rfl ?_
          exact Upd.refl _ _
        exact h6

theorem State.dramLines_upd (s : State) (c : Nat) (slot : Option Nat) (mid : Nat) (l : List Nat) (e : List DramEcc) :
    UpdP 0x801038380 s (s.dramLines c slot mid l e) := by
  induction l generalizing s e with
  | nil => exact Upd.refl _ _
  | cons a t ih =>
    unfold State.dramLines
    exact UpdP.mk (UpdP.snd (UpdP.step (ih ..) (by rfl) (UpdQ.snd (State.dramLine_upd ..))))

theorem dramRead_upd (c : Nat) (q : DramReq) (d : DramServe) (s : State) : Upd 0x8110b8380 s (dramRead c q d s) := by
  unfold dramRead
  split
  · exact Upd.refl _ _
  · extract_lets +onlyGivenNames x1
    clear_value x1
    extract_lets +onlyGivenNames x2
    clear_value x2
    split
    · rename_i v3 v4 v5 v6
      refine cut (P := Upd 0x8110b8380 s v5) (UpdP.out ?_ v6) (fun h7 => ?_)
      · refine UpdP.step (State.dramRefuses_upd ..) rfl ?_
        exact Upd.refl _ _
      extract_lets +onlyGivenNames x8
      refine cut (P := Upd 0x8110b8380 s x8) ?_ (fun h9 => ?_)
      · unfold x8
        refine Upd.ite ?_ ?_
        · refine Upd.step (State.dramEvt_upd ..) rfl ?_
          exact h7
        · exact h7
      clear_value x8
      refine Upd.step (State.dramReply_upd ..) rfl ?_
      exact h9
    · rename_i v10 v11 v12
      refine cut (P := Upd 0x8110b8380 s v11) (UpdP.out ?_ v12) (fun h13 => ?_)
      · refine UpdP.step (State.dramRefuses_upd ..) rfl ?_
        exact Upd.refl _ _
      extract_lets +onlyGivenNames x14
      clear_value x14
      refine Upd.ite ?_ ?_
      · exact h13
      · extract_lets +onlyGivenNames x15
        refine cut (P := Upd 0x8110b8380 s x15) ?_ (fun h16 => ?_)
        · unfold x15
          refine Upd.step (State.devices_upd ..) rfl ?_
          exact h13
        clear_value x15
        split
        · rename_i v17 v18 v19 v20
          refine cut (P := Upd 0x8110b8380 s v19) (UpdP.out ?_ v20) (fun h21 => ?_)
          · refine UpdP.step (State.dramLines_upd ..) rfl ?_
            exact h16
          extract_lets +onlyGivenNames x22
          refine cut (P := Upd 0x8110b8380 s x22) ?_ (fun h23 => ?_)
          · unfold x22
            refine Upd.step (State.portMax_upd ..) rfl ?_
            exact h21
          clear_value x22
          refine Upd.ite ?_ ?_
          · refine Upd.step (State.dramReply_upd ..) rfl ?_
            refine Upd.step (State.dramEvt_upd ..) rfl ?_
            exact h23
          · refine Upd.step (State.dramReply_upd ..) rfl ?_
            exact h23

theorem execDramReadRequest_upd (c : Fin 12) (q : DramReq) (d : DramServe) (s : State) : UpdO 0x8110b8380 s (execDramReadRequest c q d s) := by
  unfold execDramReadRequest
  refine UpdO.next ?_
  refine Upd.step (dramRead_upd ..) rfl ?_
  exact Upd.refl _ _

theorem State.dramPut_upd (s : State) (c : Nat) (slot : Option Nat) (mid : Nat) (line : Nat) (x : Nat) (lo : Nat) (len : Nat) (e : List DramEcc) : UpdQ 0x801038380 s (State.dramPut s c slot mid line x lo len e) := by
  unfold State.dramPut
  split
  · extract_lets +onlyGivenNames x1
    clear_value x1
    refine UpdQ.step (State.encWriteLine_upd ..) rfl ?_
    refine Upd.step (State.encCount_upd ..) rfl ?_
    exact Upd.refl _ _
  · extract_lets +onlyGivenNames x2
    clear_value x2
    extract_lets +onlyGivenNames x3
    refine cut (P := Upd 0x801038380 s x3) ?_ (fun h4 => ?_)
    · unfold x3
      refine Upd.ite ?_ ?_
      · exact Upd.refl _ _
      · refine Upd.step (State.cnt_upd ..) rfl ?_
        refine Upd.step (State.fillBlock_upd ..) rfl ?_
        exact Upd.refl _ _
    clear_value x3
    refine UpdQ.ite ?_ ?_
    · refine UpdQ.mk ?_
      refine Upd.step (State.queueLine_upd ..) rfl ?_
      exact h4
    · split
      · rename_i v5 v6 v7 v8
        refine cut (P := Upd 0x801038380 s v7) (UpdP.out ?_ v8) (fun h9 => ?_)
        · refine UpdP.step (State.readLine_upd ..) rfl ?_
          exact h4
        refine UpdQ.mk ?_
        refine Upd.step (State.queueLine_upd ..) rfl ?_
        exact h9
      · rename_i v10 v11 v12
        refine cut (P := Upd 0x801038380 s v11) (UpdP.out ?_ v12) (fun h13 => ?_)
        · refine UpdP.step (State.readLine_upd ..) rfl ?_
          exact h4
        refine UpdQ.mk ?_
        refine Upd.step (State.queueLine_upd ..) rfl ?_
        exact h13

theorem State.dramPuts_upd (s : State) (c : Nat) (slot : Option Nat) (mid lo len : Nat) (l : List (Nat × Nat)) (e : List DramEcc) :
    UpdP 0x801038380 s (s.dramPuts c slot mid lo len l e) := by
  induction l generalizing s e with
  | nil => exact Upd.refl _ _
  | cons a t ih =>
    unfold State.dramPuts
    exact UpdP.mk (UpdP.snd (UpdP.step (ih ..) (by rfl) (UpdQ.snd (State.dramPut_upd ..))))

theorem dramWrite_upd (c : Nat) (q : DramReq) (d : DramServe) (s : State) : Upd 0x8110b8380 s (dramWrite c q d s) := by
  unfold dramWrite
  split
  · exact Upd.refl _ _
  · extract_lets +onlyGivenNames x1
    clear_value x1
    split
    · rename_i v2 v3 v4 v5
      refine cut (P := Upd 0x8110b8380 s v4) (UpdP.out ?_ v5) (fun h6 => ?_)
      · refine UpdP.step (State.dramRefuses_upd ..) rfl ?_
        exact Upd.refl _ _
      refine Upd.step (State.dramReply_upd ..) rfl ?_
      exact h6
    · rename_i v7 v8 v9
      refine cut (P := Upd 0x8110b8380 s v8) (UpdP.out ?_ v9) (fun h10 => ?_)
      · refine UpdP.step (State.dramRefuses_upd ..) rfl ?_
        exact Upd.refl _ _
      extract_lets +onlyGivenNames x11
      clear_value x11
      refine Upd.ite ?_ ?_
      · exact h10
      · extract_lets +onlyGivenNames x12
        refine cut (P := Upd 0x8110b8380 s x12) ?_ (fun h13 => ?_)
        · unfold x12
          refine Upd.step (State.devices_upd ..) rfl ?_
          exact h10
        clear_value x12
        extract_lets +onlyGivenNames x14
        clear_value x14
        extract_lets +onlyGivenNames x15
        clear_value x15
        split
        · rename_i v16 v17 v18 v19
          refine cut (P := Upd 0x8110b8380 s v18) (UpdP.out ?_ v19) (fun h20 => ?_)
          · refine UpdP.step (State.dramPuts_upd ..) rfl ?_
            exact h13
          refine Upd.step (State.dramReply_upd ..) rfl ?_
          exact h20

theorem execDramWriteRequest_upd (c : Fin 12) (q : DramReq) (d : DramServe) (s : State) : UpdO 0x8110b8380 s (execDramWriteRequest c q d s) := by
  unfold execDramWriteRequest
  refine UpdO.next ?_
  refine Upd.step (dramWrite_upd ..) rfl ?_
  exact Upd.refl _ _

theorem dramDrain_upd (c : Nat) (sub : Nat) (n : Nat) (urgent : Bool) (s : State) : Upd 0x1000000 s (dramDrain c sub n urgent s) := by
  unfold dramDrain
  extract_lets +onlyGivenNames x1
  clear_value x1
  extract_lets +onlyGivenNames x2
  clear_value x2
  refine Upd.ite ?_ ?_
  · exact Upd.refl _ _
  · refine Upd.foldl ?_ (fun y3 a4 h5 => ?_)
    · refine Upd.step (State.setDdr_upd ..) rfl ?_
      exact Upd.refl _ _
    · refine Upd.step (State.storeLine_upd ..) rfl ?_
      exact h5

theorem execDramWriteDrain_upd (c : Fin 12) (sub : Fin 2) (n : Fin 65) (urgent : Bool) (s : State) : UpdO 0x1000000 s (execDramWriteDrain c sub n urgent s) := by
  unfold execDramWriteDrain
  refine UpdO.next ?_
  refine Upd.step (dramDrain_upd ..) rfl ?_
  exact Upd.refl _ _

theorem execDramBackgroundFill_upd (c : Fin 12) (s : State) : UpdO 0x1000000 s (execDramBackgroundFill c s) := by
  unfold execDramBackgroundFill
  extract_lets +onlyGivenNames x1
  clear_value x1
  extract_lets +onlyGivenNames x2
  clear_value x2
  refine UpdO.ite ?_ ?_
  · refine UpdO.next ?_
    refine Upd.step (State.fillBlock_upd ..) rfl ?_
    exact Upd.refl _ _
  · refine UpdO.next ?_
    exact Upd.refl _ _

theorem execDramRefresh_upd (c : Fin 12) (rank : Fin 4) (s : State) : UpdO 0x1000000 s (execDramRefresh c rank s) := by
  unfold execDramRefresh
  extract_lets +onlyGivenNames x1
  clear_value x1
  extract_lets +onlyGivenNames x2
  clear_value x2
  refine UpdO.ite ?_ ?_
  · refine UpdO.next ?_
    refine Upd.step (State.setDdr_upd ..) rfl ?_
    exact Upd.refl _ _
  · refine UpdO.next ?_
    exact Upd.refl _ _

theorem tempRank_upd (c : Nat) (hot : Nat) (s : State) (p : Nat) : Upd 0x1000200 s (tempRank c hot s p) := by
  unfold tempRank
  extract_lets +onlyGivenNames x1
  clear_value x1
  extract_lets +onlyGivenNames x2
  clear_value x2
  refine Upd.ite ?_ ?_
  · exact Upd.refl _ _
  · refine Upd.ite ?_ ?_
    · extract_lets +onlyGivenNames x3
      refine cut (P := Upd 0x1000200 s x3) ?_ (fun h4 => ?_)
      · unfold x3
        refine Upd.step (State.setDdr_upd ..) rfl ?_
        exact Upd.refl _ _
      clear_value x3
      refine Upd.ite ?_ ?_
      · exact h4
      · refine Upd.step (State.ddrStat_upd ..) rfl ?_
        refine Upd.step (State.setF_upd ..) rfl ?_
        exact h4
    · refine Upd.ite ?_ ?_
      · exact Upd.refl _ _
      · extract_lets +onlyGivenNames x5
        clear_value x5
        extract_lets +onlyGivenNames x6
        refine cut (P := Upd 0x1000200 s x6) ?_ (fun h7 => ?_)
        · unfold x6
          refine Upd.step (State.setDdr_upd ..) rfl ?_
          exact Upd.refl _ _
        clear_value x6
        refine Upd.ite ?_ ?_
        · refine Upd.step (State.clrF_upd ..) rfl ?_
          exact h7
        · exact h7

theorem execDramTempPoll_upd (c : Fin 12) (hot : BitVec 4) (crit : BitVec 4) (s : State) : UpdO 0x1020280 s (execDramTempPoll c hot crit s) := by
  unfold execDramTempPoll
  extract_lets +onlyGivenNames x1
  refine cut (P := Upd 0x1020280 s x1) ?_ (fun h2 => ?_)
  · unfold x1
    refine Upd.foldl ?_ (fun y3 a4 h5 => ?_)
    · exact Upd.refl _ _
    · refine Upd.step (tempRank_upd ..) rfl ?_
      exact h5
  clear_value x1
  refine UpdO.ite ?_ ?_
  · extract_lets +onlyGivenNames x6
    refine cut (P := Upd 0x1020280 s x6) ?_ (fun h7 => ?_)
    · unfold x6
      refine Upd.step (State.ddrStat_upd ..) rfl ?_
      exact h2
    clear_value x6
    refine UpdO.next ?_
    refine Upd.step (State.reportO_upd ..) rfl ?_
    exact h7
  · refine UpdO.next ?_
    exact h2

theorem execDramRhWindowEnd_upd (c : Fin 12) (s : State) : UpdO 0x1000000 s (execDramRhWindowEnd c s) := by
  unfold execDramRhWindowEnd
  refine UpdO.next ?_
  refine Upd.step (State.setDdr_upd ..) rfl ?_
  exact Upd.refl _ _

theorem execDramThrottleExpire_upd (c : Fin 12) (rank : Fin 4) (sub : Fin 2) (bank : Fin 32) (mid : BitVec 12) (s : State) : UpdO 0x1000000 s (execDramThrottleExpire c rank sub bank mid s) := by
  unfold execDramThrottleExpire
  extract_lets +onlyGivenNames x1
  clear_value x1
  refine UpdO.next ?_
  refine Upd.step (State.setDdr_upd ..) rfl ?_
  exact Upd.refl _ _

theorem patrolRead_upd (c : Nat) (e : DramEcc) (act : Option (Fin 32)) (s : State) : Upd 0x801038380 s (patrolRead c e act s) := by
  unfold patrolRead
  extract_lets +onlyGivenNames x1
  clear_value x1
  extract_lets +onlyGivenNames x2
  clear_value x2
  extract_lets +onlyGivenNames x3
  clear_value x3
  extract_lets +onlyGivenNames x4
  clear_value x4
  refine Upd.ite ?_ ?_
  · exact Upd.refl _ _
  · extract_lets +onlyGivenNames x5
    clear_value x5
    refine Upd.ite ?_ ?_
    · refine Upd.step (State.setDdr_upd ..) rfl ?_
      exact Upd.refl _ _
    · extract_lets +onlyGivenNames x6
      refine cut (P := Upd 0x801038380 s x6) ?_ (fun h7 => ?_)
      · unfold x6
        refine Upd.step (State.setDdr_upd ..) rfl ?_
        exact Upd.refl _ _
      clear_value x6
      extract_lets +onlyGivenNames x8
      refine cut (P := Upd 0x801038380 s x8) ?_ (fun h9 => ?_)
      · unfold x8
        split
        · refine Upd.step (State.activate_upd ..) rfl ?_
          exact h7
        · exact h7
      clear_value x8
      refine UpdP.snd ?_
      refine UpdP.step (State.readLine_upd ..) rfl ?_
      exact h9

theorem execDramPatrolRead_upd (c : Fin 12) (ecc : DramEcc) (act : Option (Fin 32)) (s : State) : UpdO 0x801038380 s (execDramPatrolRead c ecc act s) := by
  unfold execDramPatrolRead
  refine UpdO.next ?_
  refine Upd.step (patrolRead_upd ..) rfl ?_
  exact Upd.refl _ _

theorem execDramTrack_upd (c : Fin 12) (zq : Bool) (s : State) : UpdO 0x1000000 s (execDramTrack c zq s) := by
  unfold execDramTrack
  extract_lets +onlyGivenNames x1
  clear_value x1
  refine UpdO.ite ?_ ?_
  · refine UpdO.next ?_
    exact Upd.refl _ _
  · refine UpdO.ite ?_ ?_
    · refine UpdO.ite ?_ ?_
      · refine UpdO.next ?_
        refine Upd.step (State.setDdr_upd ..) rfl ?_
        exact Upd.refl _ _
      · refine UpdO.next ?_
        exact Upd.refl _ _
    · refine UpdO.ite ?_ ?_
      · refine UpdO.next ?_
        refine Upd.step (State.setDdr_upd ..) rfl ?_
        exact Upd.refl _ _
      · refine UpdO.next ?_
        exact Upd.refl _ _

theorem execDramRetrainStep_upd (c : Fin 12) (res : Fin 3) (s : State) : UpdO 0x1038380 s (execDramRetrainStep c res s) := by
  unfold execDramRetrainStep
  extract_lets +onlyGivenNames x1
  clear_value x1
  refine UpdO.ite ?_ ?_
  · split
    · refine UpdO.next ?_
      exact Upd.refl _ _
    · refine UpdO.next ?_
      refine Upd.step (State.ddrStat_upd ..) rfl ?_
      refine Upd.step (State.wf_upd ..) rfl ?_
      exact Upd.refl _ _
    · refine UpdO.next ?_
      refine Upd.step (State.retrainFail_upd ..) rfl ?_
      exact Upd.refl _ _
  · refine UpdO.next ?_
    exact Upd.refl _ _

theorem ddrFreqWrite_upd (c : Nat) (v : Word) (s : State) : Upd 0x1018300 s (ddrFreqWrite c v s) := by
  unfold ddrFreqWrite
  refine Upd.ite ?_ ?_
  · refine Upd.step (State.freqGo_upd ..) rfl ?_
    exact Upd.refl _ _
  · exact Upd.refl _ _

theorem execDdrFreqGo_upd (r : Req) (c : Fin 12) (v : Word) (s : State) : UpdO 0x1018300 s (execDdrFreqGo r c v s) := by
  unfold execDdrFreqGo
  refine UpdO.next ?_
  refine Upd.gated _ _ _ rfl ?_ (fun y1 h2 => ?_)
  · exact Upd.refl _ _
  · refine Upd.step (ddrFreqWrite_upd ..) rfl ?_
    exact h2

theorem execDdrFreqDone_upd (c : Fin 12) (s : State) : UpdO 0x1000200 s (execDdrFreqDone c s) := by
  unfold execDdrFreqDone
  split
  · refine UpdO.next ?_
    exact Upd.refl _ _
  · extract_lets +onlyGivenNames x1
    clear_value x1
    refine UpdO.next ?_
    refine Upd.step (State.wf_upd ..) rfl ?_
    refine Upd.step (State.wf_upd ..) rfl ?_
    refine Upd.step (State.setDdr_upd ..) rfl ?_
    exact Upd.refl _ _

theorem execDramCaparError_upd (c : Fin 12) (rank : Fin 4) (s : State) : UpdO 0x801038380 s (execDramCaparError c rank s) := by
  unfold execDramCaparError
  extract_lets +onlyGivenNames x1
  clear_value x1
  extract_lets +onlyGivenNames x2
  clear_value x2
  extract_lets +onlyGivenNames x3
  refine cut (P := Upd 0x801038380 s x3) ?_ (fun h4 => ?_)
  · unfold x3
    refine Upd.step (State.setDdr_upd ..) rfl ?_
    exact Upd.refl _ _
  clear_value x3
  extract_lets +onlyGivenNames x5
  refine cut (P := Upd 0x801038380 s x5) ?_ (fun h6 => ?_)
  · unfold x5
    refine Upd.step (State.ddrStat_upd ..) rfl ?_
    refine Upd.step (State.cnt_upd ..) rfl ?_
    exact h4
  clear_value x5
  refine UpdO.next ?_
  refine Upd.ite ?_ ?_
  · refine Upd.step (State.retire_upd ..) rfl ?_
    exact h6
  · exact h6

theorem State.migEnd_upd (s : State) (c : Nat) (src : Nat) : Upd 0x1000200 s (State.migEnd s c src) := by
  unfold State.migEnd
  extract_lets +onlyGivenNames x1
  clear_value x1
  extract_lets +onlyGivenNames x2
  clear_value x2
  extract_lets +onlyGivenNames x3
  clear_value x3
  extract_lets +onlyGivenNames x4
  refine cut (P := Upd 0x1000200 s x4) ?_ (fun h5 => ?_)
  · unfold x4
    refine Upd.step (State.wf_upd ..) rfl ?_
    refine Upd.step (State.wf_upd ..) rfl ?_
    exact Upd.refl _ _
  clear_value x4
  extract_lets +onlyGivenNames x6
  refine cut (P := Upd 0x1000200 s x6) ?_ (fun h7 => ?_)
  · unfold x6
    refine Upd.step (State.wf_upd ..) rfl ?_
    refine Upd.step (State.wf_upd ..) rfl ?_
    exact h5
  clear_value x6
  refine Upd.step (State.ddrStat_upd ..) rfl ?_
  refine Upd.step (State.setDdr_upd ..) rfl ?_
  exact h7

theorem migLine_upd (c : Nat) (e : DramEcc) (s : State) : Upd 0x1000200 s (migLine c e s) := by
  unfold migLine
  split
  · exact Upd.refl _ _
  · refine Upd.ite ?_ ?_
    · exact Upd.refl _ _
    · extract_lets +onlyGivenNames x1
      clear_value x1
      extract_lets +onlyGivenNames x2
      clear_value x2
      refine Upd.ite ?_ ?_
      · refine Upd.step (State.migEnd_upd ..) rfl ?_
        exact Upd.refl _ _
      · extract_lets +onlyGivenNames x3
        clear_value x3
        extract_lets +onlyGivenNames x4
        clear_value x4
        extract_lets +onlyGivenNames x5
        refine cut (P := Upd 0x1000200 s x5) ?_ (fun h6 => ?_)
        · unfold x5
          refine Upd.ite ?_ ?_
          · refine Upd.ite ?_ ?_
            · exact Upd.refl _ _
            · refine Upd.step (State.fillBlock_upd ..) rfl ?_
              exact Upd.refl _ _
          · split
            · refine Upd.ite ?_ ?_
              · exact Upd.refl _ _
              · refine Upd.ite ?_ ?_
                · refine Upd.step (State.cnt_upd ..) rfl ?_
                  refine Upd.step (State.storeLine_upd ..) rfl ?_
                  exact Upd.refl _ _
                · cases e <;> dsimp only
                  · exact Upd.refl _ _
                  · refine Upd.step (State.ddrCe_upd ..) rfl ?_
                    exact Upd.refl _ _
                  · exact Upd.refl _ _
                  · refine Upd.step (State.storeLine_upd ..) rfl ?_
                    exact Upd.refl _ _
        clear_value x5
        extract_lets +onlyGivenNames x7
        clear_value x7
        extract_lets +onlyGivenNames x8
        refine cut (P := Upd 0x1000200 s x8) ?_ (fun h9 => ?_)
        · unfold x8
          refine Upd.step (State.wr_upd ..) rfl ?_
          refine Upd.step (State.setDdr_upd ..) rfl ?_
          exact h6
        clear_value x8
        refine Upd.ite ?_ ?_
        · refine Upd.step (State.migEnd_upd ..) rfl ?_
          exact h9
        · exact h9

theorem execDramMigrateLine_upd (c : Fin 12) (ecc : DramEcc) (s : State) : UpdO 0x1000200 s (execDramMigrateLine c ecc s) := by
  unfold execDramMigrateLine
  refine UpdO.next ?_
  refine Upd.step (migLine_upd ..) rfl ?_
  exact Upd.refl _ _

theorem State.encEnable_upd (s : State) (n : Nat) (d : Nat) : Upd 0x9018380 s (State.encEnable s n d) := by
  unfold State.encEnable
  refine Upd.ite ?_ ?_
  · refine Upd.step (State.encStart_upd ..) rfl ?_
    exact Upd.refl _ _
  · refine Upd.step (State.encEvt_upd ..) rfl ?_
    exact Upd.refl _ _

theorem encCtrlWrite_upd (n : Nat) (v : Word) (s : State) : Upd 0x9018380 s (encCtrlWrite n v s) := by
  unfold encCtrlWrite
  extract_lets +onlyGivenNames x1
  clear_value x1
  refine Upd.ite ?_ ?_
  · refine Upd.ite ?_ ?_
    · refine Upd.step (State.encEnable_upd ..) rfl ?_
      exact Upd.refl _ _
    · refine Upd.step (Upd.set_dram _ _ ?_) rfl ?_
      · exact id
      · exact Upd.refl _ _
  · refine Upd.ite ?_ ?_
    · refine Upd.step (State.wf_upd ..) rfl ?_
      exact Upd.refl _ _
    · refine Upd.step (State.encOff_upd ..) rfl ?_
      refine Upd.ite ?_ ?_
      · refine Upd.step (State.encEvt_upd ..) rfl ?_
        exact Upd.refl _ _
      · exact Upd.refl _ _

theorem execEncEnable_upd (r : Req) (n : Fin 65) (v : Word) (s : State) : UpdO 0x9018380 s (execEncEnable r n v s) := by
  unfold execEncEnable
  refine UpdO.next ?_
  refine Upd.gated _ _ _ rfl ?_ (fun y1 h2 => ?_)
  · exact Upd.refl _ _
  · refine Upd.step (encCtrlWrite_upd ..) rfl ?_
    exact h2

theorem execEncDisable_upd (r : Req) (n : Fin 65) (v : Word) (s : State) : UpdO 0x9018380 s (execEncDisable r n v s) := by
  unfold execEncDisable
  refine UpdO.next ?_
  refine Upd.gated _ _ _ rfl ?_ (fun y1 h2 => ?_)
  · exact Upd.refl _ _
  · refine Upd.step (encCtrlWrite_upd ..) rfl ?_
    exact h2

theorem execEncWriteback_upd (c : Fin 12) (n : Fin 65) (area : Fin 14) (line : Nat) (ecc : List DramEcc) (s : State) : UpdO 0x801038380 s (execEncWriteback c n area line ecc s) := by
  unfold execEncWriteback
  refine UpdO.ite ?_ ?_
  · refine UpdO.next ?_
    exact Upd.refl _ _
  · refine UpdO.next ?_
    refine Upd.step (State.encEvict_upd ..) rfl ?_
    exact Upd.refl _ _

end Sys2Proof.Machine
end

