-- ==== Sys2Proof/Laws/FrameRing.lean ====
section
/-! SUPPORT. What each operation of Sys2Proof/Machine/Ring.lean may change: the fields whose bits are set, in the order of State. -/
namespace Sys2Proof.Machine

theorem State.inject_upd (s : State) (q : RingReq) (src : Nat) (dst : Nat) : Upd 0x10080280 s (State.inject s q src dst) := by
  unfold State.inject
  extract_lets +onlyGivenNames x1
  clear_value x1
  extract_lets +onlyGivenNames x2
  clear_value x2
  extract_lets +onlyGivenNames x3
  refine cut (P := Upd 0x10080280 s x3) ?_ (fun h4 => ?_)
  · unfold x3
    refine Upd.ite ?_ ?_
    · refine Upd.step (State.setStop_upd ..) rfl ?_
      exact Upd.refl _ _
    · exact Upd.refl _ _
  clear_value x3
  refine Upd.foldl ?_ (fun y5 a6 h7 => ?_)
  · exact h4
  · refine Upd.step (State.place_upd ..) rfl ?_
    exact h7

theorem ringInject_upd (q : RingReq) (s : State) : Upd 0x10080380 s (ringInject q s) := by
  unfold ringInject
  refine Upd.ite ?_ ?_
  · refine Upd.step (State.refuse_upd ..) rfl ?_
    exact Upd.refl _ _
  · split
    · refine Upd.step (State.refuse_upd ..) rfl ?_
      exact Upd.refl _ _
    · split
      · exact Upd.refl _ _
      · refine Upd.ite ?_ ?_
        · exact Upd.refl _ _
        · refine Upd.step (State.inject_upd ..) rfl ?_
          exact Upd.refl _ _

theorem execRingRequestInject_upd (q : RingReq) (s : State) : UpdO 0x10080380 s (execRingRequestInject q s) := by
  unfold execRingRequestInject
  refine UpdO.ite ?_ ?_
  · refine UpdO.next ?_
    exact Upd.refl _ _
  · refine UpdO.next ?_
    refine Upd.step (ringInject_upd ..) rfl ?_
    exact Upd.refl _ _

theorem State.timeOut_upd (s : State) (n : Nat) (p : Pend) : Upd 0x200098300 s (State.timeOut s n p) := by
  unfold State.timeOut
  extract_lets +onlyGivenNames x1
  clear_value x1
  extract_lets +onlyGivenNames x2
  clear_value x2
  extract_lets +onlyGivenNames x3
  refine cut (P := Upd 0x200098300 s x3) ?_ (fun h4 => ?_)
  · unfold x3
    refine Upd.ite ?_ ?_
    · refine Upd.foldl ?_ (fun y5 a6 h7 => ?_)
      · refine Upd.step (State.setStop_upd ..) rfl ?_
        exact Upd.refl _ _
      · refine Upd.step (State.guestResponse_upd ..) rfl ?_
        exact h7
    · refine Upd.step (State.complete_upd ..) rfl ?_
      exact Upd.refl _ _
  clear_value x3
  extract_lets +onlyGivenNames x8
  refine cut (P := Upd 0x200098300 s x8) ?_ (fun h9 => ?_)
  · unfold x8
    refine Upd.step (State.stopEvt_upd ..) rfl ?_
    exact h4
  clear_value x8
  refine Upd.ite ?_ ?_
  · refine Upd.step (State.setStop_upd ..) rfl ?_
    exact h9
  · exact h9

theorem ringTimeout_upd (mid : Nat) (tag : Nat) (s : State) : Upd 0x200098300 s (ringTimeout mid tag s) := by
  unfold ringTimeout
  refine Upd.foldl ?_ (fun y1 a2 h3 => ?_)
  · exact Upd.refl _ _
  · split
    · exact h3
    · refine Upd.step (State.timeOut_upd ..) rfl ?_
      exact h3

theorem execRingResponseTimeout_upd (mid : BitVec 12) (tag : BitVec 8) (s : State) : UpdO 0x200098300 s (execRingResponseTimeout mid tag s) := by
  unfold execRingResponseTimeout
  refine UpdO.next ?_
  refine Upd.step (ringTimeout_upd ..) rfl ?_
  exact Upd.refl _ _

theorem creditReturn_upd (n : Nat) (receiver : Nat) (cls : Nat) (s : State) : Upd 0x10080280 s (creditReturn n receiver cls s) := by
  unfold creditReturn
  extract_lets +onlyGivenNames x1
  clear_value x1
  extract_lets +onlyGivenNames x2
  clear_value x2
  refine Upd.ite ?_ ?_
  · exact Upd.refl _ _
  · extract_lets +onlyGivenNames x3
    refine cut (P := Upd 0x10080280 s x3) ?_ (fun h4 => ?_)
    · unfold x3
      refine Upd.step (State.setStop_upd ..) rfl ?_
      exact Upd.refl _ _
    clear_value x3
    refine Upd.foldl ?_ (fun y5 a6 h7 => ?_)
    · exact h4
    · refine Upd.step (State.ringPump_upd ..) rfl ?_
      exact h7

theorem execRingCreditReturn_upd (sender : BitVec 11) (receiver : BitVec 11) (cls : BitVec 2) (s : State) : UpdO 0x10080280 s (execRingCreditReturn sender receiver cls s) := by
  unfold execRingCreditReturn
  refine UpdO.next ?_
  refine Upd.step (creditReturn_upd ..) rfl ?_
  exact Upd.refl _ _

theorem execRingInjectHold_upd (stop : BitVec 11) (s : State) : UpdO 0x80000 s (execRingInjectHold stop s) := by
  unfold execRingInjectHold
  refine UpdO.next ?_
  refine Upd.ite ?_ ?_
  · refine Upd.step (State.setStop_upd ..) rfl ?_
    exact Upd.refl _ _
  · exact Upd.refl _ _

theorem bellRequest_upd (q : RingReq) (s : State) : Upd 0x98300 s (bellRequest q s) := by
  unfold bellRequest
  extract_lets +onlyGivenNames x1
  clear_value x1
  refine Upd.ite ?_ ?_
  · refine Upd.step (State.refuse_upd ..) rfl ?_
    exact Upd.refl _ _
  · split
    · refine Upd.step (State.refuse_upd ..) rfl ?_
      exact Upd.refl _ _
    · split
      · exact Upd.refl _ _
      · refine Upd.ite ?_ ?_
        · exact Upd.refl _ _
        · refine Upd.ite ?_ ?_
          · refine Upd.step (State.refuse_upd ..) rfl ?_
            refine Upd.step (State.stopEvt_upd ..) rfl ?_
            exact Upd.refl _ _
          · extract_lets +onlyGivenNames x2
            clear_value x2
            refine Upd.ite ?_ ?_
            · exact Upd.refl _ _
            · refine Upd.step (State.setStop_upd ..) rfl ?_
              exact Upd.refl _ _

theorem execBellRequest_upd (q : RingReq) (s : State) : UpdO 0x98300 s (execBellRequest q s) := by
  unfold execBellRequest
  refine UpdO.next ?_
  refine Upd.step (bellRequest_upd ..) rfl ?_
  exact Upd.refl _ _

theorem bellAdmit_upd (n : Nat) (s : State) : Upd 0x10080280 s (bellAdmit n s) := by
  unfold bellAdmit
  extract_lets +onlyGivenNames x1
  clear_value x1
  split
  · exact Upd.refl _ _
  · refine Upd.ite ?_ ?_
    · exact Upd.refl _ _
    · extract_lets +onlyGivenNames x2
      clear_value x2
      refine Upd.step (State.place_upd ..) rfl ?_
      refine Upd.step (State.setStop_upd ..) rfl ?_
      exact Upd.refl _ _

theorem execBellAdmit_upd (stop : BitVec 11) (s : State) : UpdO 0x10080280 s (execBellAdmit stop s) := by
  unfold execBellAdmit
  refine UpdO.next ?_
  refine Upd.step (bellAdmit_upd ..) rfl ?_
  exact Upd.refl _ _

theorem State.bellDiscard_upd (s : State) (b : Nat) (n : Nat) : Upd 0x98300 s (State.bellDiscard s b n) := by
  unfold State.bellDiscard
  extract_lets +onlyGivenNames x1
  clear_value x1
  refine Upd.ite ?_ ?_
  · exact Upd.refl _ _
  · refine Upd.step (State.stopEvt_upd ..) rfl ?_
    refine Upd.step (State.cnt_upd ..) rfl ?_
    refine Upd.step (State.setStop_upd ..) rfl ?_
    exact Upd.refl _ _

theorem bellCtrl_upd (n : Nat) (b : Nat) (v : Word) (s : State) : Upd 0x98300 s (bellCtrl n b v s) := by
  unfold bellCtrl
  extract_lets +onlyGivenNames x1
  refine cut (P := Upd 0x98300 s x1) ?_ (fun h2 => ?_)
  · unfold x1
    refine Upd.step (State.wr_upd ..) rfl ?_
    exact Upd.refl _ _
  clear_value x1
  refine Upd.ite ?_ ?_
  · exact h2
  · refine Upd.foldl ?_ (fun y3 a4 h5 => ?_)
    · exact h2
    · refine Upd.step (State.bellDiscard_upd ..) rfl ?_
      exact h5

theorem execRingBellCtrlWrite_upd (r : Req) (stop : BitVec 11) (v : Word) (s : State) : UpdO 0x98300 s (execRingBellCtrlWrite r stop v s) := by
  unfold execRingBellCtrlWrite
  split
  · refine UpdO.next ?_
    refine Upd.ite ?_ ?_
    · refine Upd.gated _ _ _ rfl ?_ (fun y1 h2 => ?_)
      · exact Upd.refl _ _
      · refine Upd.step (bellCtrl_upd ..) rfl ?_
        exact h2
    · refine Upd.step (State.emit_upd ..) rfl ?_
      exact Upd.refl _ _
  · refine UpdO.next ?_
    refine Upd.step (State.emit_upd ..) rfl ?_
    exact Upd.refl _ _

theorem fieldInitiate_upd (f : Nat) (iq : BitVec 68) (beats : List (BitVec 128)) (s : State) : Upd 0x10098380 s (fieldInitiate f iq beats s) := by
  unfold fieldInitiate
  extract_lets +onlyGivenNames x1
  clear_value x1
  extract_lets +onlyGivenNames x2
  clear_value x2
  refine Upd.ite ?_ ?_
  · exact Upd.refl _ _
  · extract_lets +onlyGivenNames x3
    clear_value x3
    refine Upd.ite ?_ ?_
    · refine Upd.step (bellRequest_upd ..) rfl ?_
      exact Upd.refl _ _
    · refine Upd.step (ringInject_upd ..) rfl ?_
      exact Upd.refl _ _

theorem execFieldRingInitiate_upd (f : Fin 128) (iq : BitVec 68) (beats : List (BitVec 128)) (s : State) : UpdO 0x10098380 s (execFieldRingInitiate f iq beats s) := by
  unfold execFieldRingInitiate
  refine UpdO.next ?_
  refine Upd.step (fieldInitiate_upd ..) rfl ?_
  exact Upd.refl _ _

theorem fieldRespond_upd (f : Nat) (tag : Nat) (code : Nat) (data : List Nat) (s : State) : Upd 0x10080280 s (fieldRespond f tag code data s) := by
  unfold fieldRespond
  extract_lets +onlyGivenNames x1
  clear_value x1
  extract_lets +onlyGivenNames x2
  clear_value x2
  refine Upd.ite ?_ ?_
  · exact Upd.refl _ _
  · split
    · exact Upd.refl _ _
    · refine Upd.ite ?_ ?_
      · refine Upd.step (State.respond_upd ..) rfl ?_
        refine Upd.step (State.setStop_upd ..) rfl ?_
        exact Upd.refl _ _
      · exact Upd.refl _ _

theorem execFieldRingTargetResponse_upd (f : Fin 128) (tag : BitVec 8) (code : BitVec 3) (data : List (BitVec 512)) (s : State) : UpdO 0x10080280 s (execFieldRingTargetResponse f tag code data s) := by
  unfold execFieldRingTargetResponse
  refine UpdO.next ?_
  refine Upd.step (fieldRespond_upd ..) rfl ?_
  exact Upd.refl _ _

end Sys2Proof.Machine
end

