-- ==== Sys2Proof/Laws/FrameHost.lean ====
section
/-! SUPPORT. What each operation of Sys2Proof/Machine/Host.lean may change: the fields whose bits are set, in the order of State. -/
namespace Sys2Proof.Machine

theorem State.dbRise_upd (s : State) (e : Nat) (old : Nat) (c : Nat) : Upd 0x18300 s (State.dbRise s e old c) := by
  unfold State.dbRise
  extract_lets +onlyGivenNames x1
  clear_value x1
  extract_lets +onlyGivenNames x2
  clear_value x2
  extract_lets +onlyGivenNames x3
  refine cut (P := Upd 0x18300 s x3) ?_ (fun h4 => ?_)
  · unfold x3
    refine Upd.step (State.wr_upd ..) rfl ?_
    exact Upd.refl _ _
  clear_value x3
  refine Upd.ite ?_ ?_
  · exact h4
  · refine Upd.ite ?_ ?_
    · refine Upd.foldl ?_ (fun y5 a6 h7 => ?_)
      · exact h4
      · refine Upd.ite ?_ ?_
        · refine Upd.step (State.pf0Raise_upd ..) rfl ?_
          exact h7
        · exact h7
    · refine Upd.ite ?_ ?_
      · refine Upd.step (State.sicRaise_upd ..) rfl ?_
        exact h4
      · refine Upd.ite ?_ ?_
        · refine Upd.step (State.emit_upd ..) rfl ?_
          exact h4
        · refine Upd.ite ?_ ?_
          · refine Upd.step (State.emit_upd ..) rfl ?_
            exact h4
          · exact h4

theorem State.doorbell_upd (s : State) (e : Nat) (b : Nat) (c : Nat) : Upd 0x18300 s (State.doorbell s e b c) := by
  unfold State.doorbell
  extract_lets +onlyGivenNames x1
  clear_value x1
  refine Upd.step (State.dbRise_upd ..) rfl ?_
  refine Upd.step (State.wr_upd ..) rfl ?_
  exact Upd.refl _ _

theorem State.setMbxQ_upd (s : State) (c : Nat) (q : MbxQ) : Upd 0x2000200 s (State.setMbxQ s c q) := by
  unfold State.setMbxQ
  extract_lets +onlyGivenNames x1
  clear_value x1
  extract_lets +onlyGivenNames x2
  clear_value x2
  extract_lets +onlyGivenNames x3
  refine cut (P := Upd 0x2000200 s x3) ?_ (fun h4 => ?_)
  · unfold x3
    refine Upd.step (Upd.set_host _ _) rfl ?_
    exact Upd.refl _ _
  clear_value x3
  extract_lets +onlyGivenNames x5
  refine cut (P := Upd 0x2000200 s x5) ?_ (fun h6 => ?_)
  · unfold x5
    refine Upd.step (State.wf_upd ..) rfl ?_
    refine Upd.step (State.wf_upd ..) rfl ?_
    exact h4
  clear_value x5
  extract_lets +onlyGivenNames x7
  refine cut (P := Upd 0x2000200 s x7) ?_ (fun h8 => ?_)
  · unfold x7
    refine Upd.step (State.wf_upd ..) rfl ?_
    refine Upd.step (State.wf_upd ..) rfl ?_
    exact h6
  clear_value x7
  extract_lets +onlyGivenNames x9
  clear_value x9
  extract_lets +onlyGivenNames x10
  clear_value x10
  refine Upd.step (State.wr_upd ..) rfl ?_
  exact h8

theorem State.chDoorbell_upd (s : State) (c : Nat) (sideB : Bool) : Upd 0x18300 s (State.chDoorbell s c sideB) := by
  unfold State.chDoorbell
  refine Upd.ite ?_ ?_
  · refine Upd.step (State.doorbell_upd ..) rfl ?_
    exact Upd.refl _ _
  · refine Upd.step (State.doorbell_upd ..) rfl ?_
    exact Upd.refl _ _

theorem State.mbxPush_upd (s : State) (c : Nat) (sideB : Bool) (v : Word) : Upd 0x2018300 s (State.mbxPush s c sideB v) := by
  unfold State.mbxPush
  extract_lets +onlyGivenNames x1
  clear_value x1
  extract_lets +onlyGivenNames x2
  clear_value x2
  refine Upd.ite ?_ ?_
  · refine Upd.step (State.setF_upd ..) rfl ?_
    exact Upd.refl _ _
  · refine Upd.step (State.chDoorbell_upd ..) rfl ?_
    refine Upd.step (State.setMbxQ_upd ..) rfl ?_
    exact Upd.refl _ _

theorem State.mbxPop_upd (s : State) (c : Nat) (sideB : Bool) : UpdP 0x2018300 s (State.mbxPop s c sideB) := by
  unfold State.mbxPop
  extract_lets +onlyGivenNames x1
  clear_value x1
  split
  · refine UpdP.mk ?_
    refine Upd.step (State.setF_upd ..) rfl ?_
    exact Upd.refl _ _
  · extract_lets +onlyGivenNames x2
    refine cut (P := Upd 0x2018300 s x2) ?_ (fun h3 => ?_)
    · unfold x2
      refine Upd.step (State.setMbxQ_upd ..) rfl ?_
      exact Upd.refl _ _
    clear_value x2
    refine UpdP.mk ?_
    refine Upd.ite ?_ ?_
    · refine Upd.step (State.chDoorbell_upd ..) rfl ?_
      exact h3
    · exact h3

theorem Upd.mbxAccess {m : Nat} {s x : State} {k : Bool → State} (r : Req) (c a : Nat) (write : Bool) (e : 0x18300 &&& m = 0x18300) (h : Upd m s x)
    (g : ∀ b, Upd m s (k b)) : Upd m s (x.mbxAccess r c a write k) := by
  unfold State.mbxAccess
  refine Upd.ite (Upd.step (Upd.mono (m := 0x18300) (State.answer_upd ..) rfl) e h) (Upd.ite (Upd.step (Upd.mono (m := 0x18300) (State.answer_upd ..) rfl) e h) ?_)
  split
  · exact Upd.step (Upd.mono (m := 0x18300) (State.answer_upd ..) rfl) e (Upd.step (Upd.mono (m := 0x18300) (State.stopEvt_upd ..) rfl) e h)
  · split
    · exact Upd.step (Upd.mono (m := 0x18300) (State.answer_upd ..) rfl) e h
    · exact Upd.ite (Upd.step (Upd.mono (m := 0x18300) (State.answer_upd ..) rfl) e h) (g _)

theorem execMbxPush_upd (r : Req) (c : Fin 128) (v : Word) (s : State) : UpdO 0x2018300 s (execMbxPush r c v s) := by
  unfold execMbxPush
  extract_lets +onlyGivenNames x1
  clear_value x1
  refine UpdO.next ?_
  refine Upd.mbxAccess _ _ _ _ rfl ?_ (fun b2 => ?_)
  · exact Upd.refl _ _
  · refine Upd.step (State.answer_upd ..) rfl ?_
    refine Upd.step (State.mbxPush_upd ..) rfl ?_
    exact Upd.refl _ _

theorem execMbxPop_upd (r : Req) (c : Fin 128) (s : State) : UpdO 0x2018300 s (execMbxPop r c s) := by
  unfold execMbxPop
  extract_lets +onlyGivenNames x1
  clear_value x1
  refine UpdO.next ?_
  refine Upd.mbxAccess _ _ _ _ rfl ?_ (fun b2 => ?_)
  · exact Upd.refl _ _
  · refine Upd.step (State.answer_upd ..) rfl ?_
    refine UpdP.snd ?_
    refine UpdP.step (State.mbxPop_upd ..) rfl ?_
    exact Upd.refl _ _

theorem State.mbxDiscard_upd (s : State) (c : Nat) : Upd 0x2000200 s (State.mbxDiscard s c) := by
  unfold State.mbxDiscard
  extract_lets +onlyGivenNames x1
  clear_value x1
  extract_lets +onlyGivenNames x2
  clear_value x2
  refine Upd.ite ?_ ?_
  · exact Upd.refl _ _
  · extract_lets +onlyGivenNames x3
    clear_value x3
    extract_lets +onlyGivenNames x4
    refine cut (P := Upd 0x2000200 s x4) ?_ (fun h5 => ?_)
    · unfold x4
      refine Upd.step (State.cnt_upd ..) rfl ?_
      refine Upd.step (State.cnt_upd ..) rfl ?_
      exact Upd.refl _ _
    clear_value x4
    refine Upd.step (State.setMbxQ_upd ..) rfl ?_
    refine Upd.step (State.setF_upd ..) rfl ?_
    refine Upd.step (State.setF_upd ..) rfl ?_
    exact h5

theorem fpbindWrite_upd (m : Nat) (v : Word) (s : State) : Upd 0x2000200 s (fpbindWrite m v s) := by
  unfold fpbindWrite
  refine Upd.step (State.wr_upd ..) rfl ?_
  refine Upd.step (State.mbxDiscard_upd ..) rfl ?_
  exact Upd.refl _ _

theorem execMbxFpbindWrite_upd (r : Req) (m : Fin 48) (v : Word) (s : State) : UpdO 0x2018300 s (execMbxFpbindWrite r m v s) := by
  unfold execMbxFpbindWrite
  refine UpdO.next ?_
  refine Upd.gated _ _ _ rfl ?_ (fun y1 h2 => ?_)
  · exact Upd.refl _ _
  · refine Upd.step (fpbindWrite_upd ..) rfl ?_
    exact h2

theorem execMbxBindWrite_upd (r : Req) (c : Fin 128) (v : Word) (s : State) : UpdO 0x18300 s (execMbxBindWrite r c v s) := by
  unfold execMbxBindWrite
  refine UpdO.next ?_
  refine Upd.gated _ _ _ rfl ?_ (fun y1 h2 => ?_)
  · exact Upd.refl _ _
  · refine Upd.step (State.wr_upd ..) rfl ?_
    exact h2

theorem execMbxLockSet_upd (r : Req) (v : Word) (s : State) : UpdO 0x18300 s (execMbxLockSet r v s) := by
  unfold execMbxLockSet
  refine UpdO.next ?_
  refine Upd.gated _ _ _ rfl ?_ (fun y1 h2 => ?_)
  · exact Upd.refl _ _
  · refine Upd.step (State.setIf_upd ..) rfl ?_
    exact h2

theorem hbWrite_upd (v : Word) (s : State) : Upd 0x2000200 s (hbWrite v s) := by
  unfold hbWrite
  extract_lets +onlyGivenNames x1
  refine cut (P := Upd 0x2000200 s x1) ?_ (fun h2 => ?_)
  · unfold x1
    refine Upd.step (State.wf_upd ..) rfl ?_
    exact Upd.refl _ _
  clear_value x1
  extract_lets +onlyGivenNames x3
  refine cut (P := Upd 0x2000200 s x3) ?_ (fun h4 => ?_)
  · unfold x3
    refine Upd.step (State.wf_upd ..) rfl ?_
    exact h2
  clear_value x3
  refine Upd.step (Upd.set_host _ _) rfl ?_
  exact h4

theorem execCommonsHbWrite_upd (r : Req) (v : Word) (s : State) : UpdO 0x2018300 s (execCommonsHbWrite r v s) := by
  unfold execCommonsHbWrite
  refine UpdO.next ?_
  refine Upd.gated _ _ _ rfl ?_ (fun y1 h2 => ?_)
  · exact Upd.refl _ _
  · refine Upd.step (hbWrite_upd ..) rfl ?_
    exact h2

theorem hostEoi_upd (v : Nat) (s : State) : Upd 0x10300 s (hostEoi v s) := by
  unfold hostEoi
  extract_lets +onlyGivenNames x1
  clear_value x1
  refine Upd.ite ?_ ?_
  · extract_lets +onlyGivenNames x2
    refine cut (P := Upd 0x10300 s x2) ?_ (fun h3 => ?_)
    · unfold x2
      refine Upd.step (State.setVstat_upd ..) rfl ?_
      exact Upd.refl _ _
    clear_value x2
    refine Upd.ite ?_ ?_
    · refine Upd.step (State.pf0Raise_upd ..) rfl ?_
      exact h3
    · exact h3
  · exact Upd.refl _ _

theorem execHostEoi_upd (r : Req) (v : Word) (s : State) : UpdO 0x18300 s (execHostEoi r v s) := by
  unfold execHostEoi
  refine UpdO.next ?_
  refine Upd.gated _ _ _ rfl ?_ (fun y1 h2 => ?_)
  · exact Upd.refl _ _
  · refine Upd.step (hostEoi_upd ..) rfl ?_
    exact h2

theorem State.setDma_upd (s : State) (ch : Nat) (l : List DmaDesc) : Upd 0x2000000 s (State.setDma s ch l) := by
  unfold State.setDma
  refine Upd.step (Upd.set_host _ _) rfl ?_
  exact Upd.refl _ _

theorem State.setDmaState_upd (s : State) (ch : Nat) (v : Nat) : Upd 0x200 s (State.setDmaState s ch v) := by
  unfold State.setDmaState
  refine Upd.step (State.wf_upd ..) rfl ?_
  exact Upd.refl _ _

theorem State.dmaBell_upd (s : State) (ch : Nat) : Upd 0x18300 s (State.dmaBell s ch) := by
  unfold State.dmaBell
  refine Upd.ite ?_ ?_
  · refine Upd.step (State.doorbell_upd ..) rfl ?_
    exact Upd.refl _ _
  · refine Upd.step (State.doorbell_upd ..) rfl ?_
    exact Upd.refl _ _

theorem State.dmaRun_upd (s : State) (ch : Nat) : Upd 0x200 s (State.dmaRun s ch) := by
  unfold State.dmaRun
  refine Upd.ite ?_ ?_
  · refine Upd.step (State.setDmaState_upd ..) rfl ?_
    exact Upd.refl _ _
  · refine Upd.step (State.setDmaState_upd ..) rfl ?_
    exact Upd.refl _ _

theorem State.dmaSettle_upd (s : State) (ch : Nat) : Upd 0x2000200 s (State.dmaSettle s ch) := by
  unfold State.dmaSettle
  extract_lets +onlyGivenNames x1
  clear_value x1
  refine Upd.ite ?_ ?_
  · exact Upd.refl _ _
  · refine Upd.step (State.setDmaState_upd ..) rfl ?_
    refine Upd.step (State.setDma_upd ..) rfl ?_
    exact Upd.refl _ _

theorem dmaCtrlWrite_upd (ch : Nat) (v : Word) (s : State) : Upd 0x2000200 s (dmaCtrlWrite ch v s) := by
  unfold dmaCtrlWrite
  extract_lets +onlyGivenNames x1
  clear_value x1
  extract_lets +onlyGivenNames x2
  clear_value x2
  extract_lets +onlyGivenNames x3
  clear_value x3
  extract_lets +onlyGivenNames x4
  refine cut (P := Upd 0x2000200 s x4) ?_ (fun h5 => ?_)
  · unfold x4
    refine Upd.ite ?_ ?_
    · exact Upd.refl _ _
    · refine Upd.step (State.wf_upd ..) rfl ?_
      exact Upd.refl _ _
  clear_value x4
  refine Upd.ite ?_ ?_
  · refine Upd.ite ?_ ?_
    · refine Upd.step (State.dmaRun_upd ..) rfl ?_
      refine Upd.step (State.setDma_upd ..) rfl ?_
      refine Upd.step (State.setF_upd ..) rfl ?_
      exact h5
    · refine Upd.ite ?_ ?_
      · refine Upd.step (State.dmaRun_upd ..) rfl ?_
        exact h5
      · exact h5
  · refine Upd.ite ?_ ?_
    · refine Upd.step (State.dmaSettle_upd ..) rfl ?_
      refine Upd.step (State.setDma_upd ..) rfl ?_
      refine Upd.step (State.clrF_upd ..) rfl ?_
      exact h5
    · exact h5

theorem dmaTailWrite_upd (ch : Nat) (v : Word) (s : State) : Upd 0x200 s (dmaTailWrite ch v s) := by
  unfold dmaTailWrite
  extract_lets +onlyGivenNames x1
  clear_value x1
  refine Upd.ite ?_ ?_
  · refine Upd.step (State.setF_upd ..) rfl ?_
    exact Upd.refl _ _
  · extract_lets +onlyGivenNames x2
    refine cut (P := Upd 0x200 s x2) ?_ (fun h3 => ?_)
    · unfold x2
      refine Upd.step (State.wf_upd ..) rfl ?_
      exact Upd.refl _ _
    clear_value x2
    refine Upd.ite ?_ ?_
    · refine Upd.step (State.dmaRun_upd ..) rfl ?_
      exact h3
    · exact h3

theorem dmaRingWrite_upd (ch : Nat) (v : Word) (s : State) : Upd 0x200 s (dmaRingWrite ch v s) := by
  unfold dmaRingWrite
  extract_lets +onlyGivenNames x1
  clear_value x1
  refine Upd.ite ?_ ?_
  · exact Upd.refl _ _
  · refine Upd.step (State.wr_upd ..) rfl ?_
    refine Upd.step (State.wr_upd ..) rfl ?_
    refine Upd.step (State.wr_upd ..) rfl ?_
    exact Upd.refl _ _

theorem execDmaTailWrite_upd (r : Req) (ch : Fin 80) (v : Word) (s : State) : UpdO 0x18300 s (execDmaTailWrite r ch v s) := by
  unfold execDmaTailWrite
  refine UpdO.next ?_
  refine Upd.gated _ _ _ rfl ?_ (fun y1 h2 => ?_)
  · exact Upd.refl _ _
  · refine Upd.step (dmaTailWrite_upd ..) rfl ?_
    exact h2

theorem execDmaResume_upd (r : Req) (ch : Fin 80) (v : Word) (s : State) : UpdO 0x2018300 s (execDmaResume r ch v s) := by
  unfold execDmaResume
  refine UpdO.next ?_
  refine Upd.gated _ _ _ rfl ?_ (fun y1 h2 => ?_)
  · exact Upd.refl _ _
  · refine Upd.step (dmaCtrlWrite_upd ..) rfl ?_
    exact h2

theorem execDmaEnClear_upd (r : Req) (ch : Fin 80) (v : Word) (s : State) : UpdO 0x2018300 s (execDmaEnClear r ch v s) := by
  unfold execDmaEnClear
  refine UpdO.next ?_
  refine Upd.gated _ _ _ rfl ?_ (fun y1 h2 => ?_)
  · exact Upd.refl _ _
  · refine Upd.step (dmaCtrlWrite_upd ..) rfl ?_
    exact h2

theorem execDmaEnSet_upd (r : Req) (ch : Fin 80) (v : Word) (s : State) : UpdO 0x2018300 s (execDmaEnSet r ch v s) := by
  unfold execDmaEnSet
  refine UpdO.next ?_
  refine Upd.gated _ _ _ rfl ?_ (fun y1 h2 => ?_)
  · exact Upd.refl _ _
  · refine Upd.step (dmaCtrlWrite_upd ..) rfl ?_
    exact h2

theorem execDmaRingWrite_upd (r : Req) (ch : Fin 80) (v : Word) (s : State) : UpdO 0x18300 s (execDmaRingWrite r ch v s) := by
  unfold execDmaRingWrite
  refine UpdO.next ?_
  refine Upd.gated _ _ _ rfl ?_ (fun y1 h2 => ?_)
  · exact Upd.refl _ _
  · refine Upd.step (dmaRingWrite_upd ..) rfl ?_
    exact h2

theorem dmaFetch_upd (ch : Nat) (d : Nat) (err : Bool) (s : State) : Upd 0x2000000 s (dmaFetch ch d err s) := by
  unfold dmaFetch
  extract_lets +onlyGivenNames x1
  clear_value x1
  extract_lets +onlyGivenNames x2
  clear_value x2
  extract_lets +onlyGivenNames x3
  clear_value x3
  refine Upd.ite ?_ ?_
  · refine Upd.step (State.setDma_upd ..) rfl ?_
    exact Upd.refl _ _
  · exact Upd.refl _ _

theorem execDmaDescFetch_upd (ch : Fin 80) (d : BitVec 256) (err : Bool) (s : State) : UpdO 0x2000000 s (execDmaDescFetch ch d err s) := by
  unfold execDmaDescFetch
  refine UpdO.next ?_
  refine Upd.step (dmaFetch_upd ..) rfl ?_
  exact Upd.refl _ _

theorem dmaIssue_upd (ch : Nat) (data : List (BitVec 512)) (s : State) : Upd 0x12080380 s (dmaIssue ch data s) := by
  unfold dmaIssue
  extract_lets +onlyGivenNames x1
  clear_value x1
  refine Upd.ite ?_ ?_
  · exact Upd.refl _ _
  · split
    · exact Upd.refl _ _
    · split
      · exact Upd.refl _ _
      · refine Upd.ite ?_ ?_
        · exact Upd.refl _ _
        · extract_lets +onlyGivenNames x2
          clear_value x2
          extract_lets +onlyGivenNames x3
          refine cut (P := Upd 0x12080380 s x3) ?_ (fun h4 => ?_)
          · unfold x3
            refine Upd.step (State.setDma_upd ..) rfl ?_
            exact Upd.refl _ _
          clear_value x3
          extract_lets +onlyGivenNames x5
          clear_value x5
          refine Upd.step (ringInject_upd ..) rfl ?_
          exact h4

theorem execDmaPieceIssue_upd (ch : Fin 80) (data : List (BitVec 512)) (s : State) : UpdO 0x12080380 s (execDmaPieceIssue ch data s) := by
  unfold execDmaPieceIssue
  refine UpdO.next ?_
  refine Upd.step (dmaIssue_upd ..) rfl ?_
  exact Upd.refl _ _

theorem dmaPieceDone_upd (ch : Nat) (slot : Nat) (o : Nat) (code : Rsp) (he : Bool) (data : List (BitVec 512)) (s : State) : Upd 0x2000300 s (dmaPieceDone ch slot o code he data s) := by
  unfold dmaPieceDone
  extract_lets +onlyGivenNames x1
  clear_value x1
  split
  · exact Upd.refl _ _
  · split
    · exact Upd.refl _ _
    · extract_lets +onlyGivenNames x2
      clear_value x2
      extract_lets +onlyGivenNames x3
      clear_value x3
      extract_lets +onlyGivenNames x4
      clear_value x4
      extract_lets +onlyGivenNames x5
      refine cut (P := Upd 0x2000300 s x5) ?_ (fun h6 => ?_)
      · unfold x5
        refine Upd.ite ?_ ?_
        · refine Upd.step (State.emit_upd ..) rfl ?_
          exact Upd.refl _ _
        · exact Upd.refl _ _
      clear_value x5
      extract_lets +onlyGivenNames x7
      clear_value x7
      extract_lets +onlyGivenNames x8
      clear_value x8
      refine Upd.step (State.dmaSettle_upd ..) rfl ?_
      refine Upd.step (State.setDma_upd ..) rfl ?_
      exact h6

theorem execDmaPieceComplete_upd (ch : Fin 80) (slot : BitVec 16) (ofs : BitVec 25) (code : Rsp) (hostErr : Bool) (data : List (BitVec 512)) (s : State) : UpdO 0x2000300 s (execDmaPieceComplete ch slot ofs code hostErr data s) := by
  unfold execDmaPieceComplete
  refine UpdO.next ?_
  refine Upd.step (dmaPieceDone_upd ..) rfl ?_
  exact Upd.refl _ _

theorem State.dmaHalt_upd (s : State) (ch : Nat) (slot : Nat) (code : Nat) : Upd 0x2018300 s (State.dmaHalt s ch slot code) := by
  unfold State.dmaHalt
  extract_lets +onlyGivenNames x1
  clear_value x1
  refine Upd.ite ?_ ?_
  · exact Upd.refl _ _
  · extract_lets +onlyGivenNames x2
    refine cut (P := Upd 0x2018300 s x2) ?_ (fun h3 => ?_)
    · unfold x2
      refine Upd.step (State.wf_upd ..) rfl ?_
      refine Upd.step (State.wf_upd ..) rfl ?_
      refine Upd.step (State.setF_upd ..) rfl ?_
      exact Upd.refl _ _
    clear_value x2
    extract_lets +onlyGivenNames x4
    refine cut (P := Upd 0x2018300 s x4) ?_ (fun h5 => ?_)
    · unfold x4
      refine Upd.step (State.setDma_upd ..) rfl ?_
      refine Upd.step (State.setDmaState_upd ..) rfl ?_
      exact h3
    clear_value x4
    refine Upd.step (State.dmaBell_upd ..) rfl ?_
    exact h5

theorem dmaWriteback_upd (ch : Nat) (s : State) : Upd 0x2018300 s (dmaWriteback ch s) := by
  unfold dmaWriteback
  split
  · exact Upd.refl _ _
  · refine Upd.ite ?_ ?_
    · exact Upd.refl _ _
    · extract_lets +onlyGivenNames x1
      clear_value x1
      split
      · extract_lets +onlyGivenNames x2
        clear_value x2
        extract_lets +onlyGivenNames x3
        clear_value x3
        extract_lets +onlyGivenNames x4
        refine cut (P := Upd 0x2018300 s x4) ?_ (fun h5 => ?_)
        · unfold x4
          refine Upd.ite ?_ ?_
          · refine Upd.step (State.emit_upd ..) rfl ?_
            exact Upd.refl _ _
          · exact Upd.refl _ _
        clear_value x4
        extract_lets +onlyGivenNames x6
        refine cut (P := Upd 0x2018300 s x6) ?_ (fun h7 => ?_)
        · unfold x6
          refine Upd.step (State.wf_upd ..) rfl ?_
          refine Upd.step (State.setDma_upd ..) rfl ?_
          exact h5
        clear_value x6
        extract_lets +onlyGivenNames x8
        refine cut (P := Upd 0x2018300 s x8) ?_ (fun h9 => ?_)
        · unfold x8
          refine Upd.step (State.setIf_upd ..) rfl ?_
          refine Upd.step (State.setF_upd ..) rfl ?_
          exact h7
        clear_value x8
        extract_lets +onlyGivenNames x10
        refine cut (P := Upd 0x2018300 s x10) ?_ (fun h11 => ?_)
        · unfold x10
          refine Upd.ite ?_ ?_
          · refine Upd.step (State.cnt64_upd ..) rfl ?_
            exact h9
          · exact h9
        clear_value x10
        extract_lets +onlyGivenNames x12
        refine cut (P := Upd 0x2018300 s x12) ?_ (fun h13 => ?_)
        · unfold x12
          refine Upd.ite ?_ ?_
          · refine Upd.step (State.dmaBell_upd ..) rfl ?_
            exact h11
          · exact h11
        clear_value x12
        extract_lets +onlyGivenNames x14
        refine cut (P := Upd 0x2018300 s x14) ?_ (fun h15 => ?_)
        · unfold x14
          refine Upd.ite ?_ ?_
          · exact h13
          · refine Upd.step (State.dmaHalt_upd ..) rfl ?_
            exact h13
        clear_value x14
        extract_lets +onlyGivenNames x16
        refine cut (P := Upd 0x2018300 s x16) ?_ (fun h17 => ?_)
        · unfold x16
          refine Upd.ite ?_ ?_
          · refine Upd.step (State.dmaRun_upd ..) rfl ?_
            exact h15
          · exact h15
        clear_value x16
        refine Upd.step (State.dmaSettle_upd ..) rfl ?_
        exact h17

theorem execDmaWriteback_upd (ch : Fin 80) (s : State) : UpdO 0x2018300 s (execDmaWriteback ch s) := by
  unfold execDmaWriteback
  refine UpdO.next ?_
  refine Upd.step (dmaWriteback_upd ..) rfl ?_
  exact Upd.refl _ _

theorem State.dmaStop_upd (s : State) (ch : Nat) : Upd 0x2000200 s (State.dmaStop s ch) := by
  unfold State.dmaStop
  refine Upd.step (State.setDmaState_upd ..) rfl ?_
  refine Upd.step (State.setDma_upd ..) rfl ?_
  refine Upd.step (State.clrF_upd ..) rfl ?_
  exact Upd.refl _ _

end Sys2Proof.Machine
end

