-- ==== Sys2Proof/Laws/FrameFcu.lean ====
section
/-! SUPPORT. What each operation of Sys2Proof/Machine/Fcu.lean may change: the fields whose bits are set, in the order of State. -/
namespace Sys2Proof.Machine

theorem execFailEntryApply_upd (l : Fin 512) (ue : Bool) (mue : Bool) (s : State) : UpdO 0xb20280 s (execFailEntryApply l ue mue s) := by
  unfold execFailEntryApply
  extract_lets +onlyGivenNames x1
  clear_value x1
  split
  · refine UpdO.next ?_
    exact Upd.refl _ _
  · refine UpdO.ite ?_ ?_
    · refine UpdO.next ?_
      exact Upd.refl _ _
    · refine UpdO.next ?_
      refine Upd.step (State.applyEntry_upd ..) rfl ?_
      refine Upd.step (State.setLk_upd ..) rfl ?_
      exact Upd.refl _ _

theorem State.codePass_upd (s : State) (l : Nat) (ue : Nat) (raws : List Nat) : UpdP 0x20280 s (State.codePass s l ue raws) := by
  unfold State.codePass
  refine UpdP.foldl ?_ (fun y1 a2 h3 => ?_)
  · refine UpdP.mk ?_
    exact Upd.refl _ _
  · refine UpdP.ite ?_ ?_
    · refine UpdP.mk ?_
      refine Upd.step (State.eccDrop_upd ..) rfl ?_
      exact h3
    · exact h3

theorem logWrite_upd (l : Nat) (ue : Nat) (s : State) : Upd 0x102a0380 s (logWrite l ue s) := by
  unfold logWrite
  extract_lets +onlyGivenNames x1
  clear_value x1
  extract_lets +onlyGivenNames x2
  clear_value x2
  extract_lets +onlyGivenNames x3
  clear_value x3
  refine Upd.ite ?_ ?_
  · exact Upd.refl _ _
  · extract_lets +onlyGivenNames x4
    clear_value x4
    extract_lets +onlyGivenNames x5
    clear_value x5
    extract_lets +onlyGivenNames x6
    clear_value x6
    extract_lets +onlyGivenNames x7
    clear_value x7
    refine Upd.ite ?_ ?_
    · exact Upd.refl _ _
    · split
      · rename_i v8 v9 v10 v11
        refine cut (P := Upd 0x102a0380 s v10) (UpdP.out ?_ v11) (fun h12 => ?_)
        · refine UpdP.step (State.codePass_upd ..) rfl ?_
          refine Upd.step (State.setFcu_upd ..) rfl ?_
          exact Upd.refl _ _
        refine Upd.ite ?_ ?_
        · exact h12
        · extract_lets +onlyGivenNames x13
          clear_value x13
          extract_lets +onlyGivenNames x14
          refine cut (P := Upd 0x102a0380 s x14) ?_ (fun h15 => ?_)
          · unfold x14
            refine Upd.step (State.setFcu_upd ..) rfl ?_
            exact h12
          clear_value x14
          refine Upd.step (ringInject_upd ..) rfl ?_
          exact h15

theorem execFailLogWrite_upd (l : Fin 512) (ue : BitVec 4) (s : State) : UpdO 0x102a0380 s (execFailLogWrite l ue s) := by
  unfold execFailLogWrite
  refine UpdO.next ?_
  refine Upd.step (logWrite_upd ..) rfl ?_
  exact Upd.refl _ _

theorem execFailLogWriteDone_upd (l : Fin 512) (code : Rsp) (s : State) : UpdO 0x200200 s (execFailLogWriteDone l code s) := by
  unfold execFailLogWriteDone
  extract_lets +onlyGivenNames x1
  clear_value x1
  extract_lets +onlyGivenNames x2
  clear_value x2
  split
  · refine UpdO.next ?_
    exact Upd.refl _ _
  · extract_lets +onlyGivenNames x3
    refine cut (P := Upd 0x200200 s x3) ?_ (fun h4 => ?_)
    · unfold x3
      refine Upd.step (State.setFcu_upd ..) rfl ?_
      exact Upd.refl _ _
    clear_value x3
    refine UpdO.ite ?_ ?_
    · refine UpdO.next ?_
      refine Upd.ite ?_ ?_
      · refine Upd.step (State.wr_upd ..) rfl ?_
        exact h4
      · exact h4
    · refine UpdO.next ?_
      refine Upd.step (State.setF_upd ..) rfl ?_
      refine Upd.step (State.logDrop_upd ..) rfl ?_
      exact h4

theorem fabForward_upd (l : Nat) (ue : Nat) (s : State) : Upd 0x101a0380 s (fabForward l ue s) := by
  unfold fabForward
  extract_lets +onlyGivenNames x1
  clear_value x1
  extract_lets +onlyGivenNames x2
  clear_value x2
  refine Upd.ite ?_ ?_
  · exact Upd.refl _ _
  · split
    · rename_i v3 v4 v5 v6
      refine cut (P := Upd 0x101a0380 s v5) (UpdP.out ?_ v6) (fun h7 => ?_)
      · refine UpdP.step (State.codePass_upd ..) rfl ?_
        refine Upd.step (State.setLk_upd ..) rfl ?_
        exact Upd.refl _ _
      refine Upd.ite ?_ ?_
      · exact h7
      · refine Upd.step (ringInject_upd ..) rfl ?_
        exact h7

theorem execFcuFabForward_upd (l : Fin 512) (ue : BitVec 4) (s : State) : UpdO 0x101a0380 s (execFcuFabForward l ue s) := by
  unfold execFcuFabForward
  refine UpdO.next ?_
  refine Upd.step (fabForward_upd ..) rfl ?_
  exact Upd.refl _ _

theorem fcuClr_upd (n : Nat) (v : Word) (s : State) : Upd 0x200200 s (fcuClr n v s) := by
  unfold fcuClr
  extract_lets +onlyGivenNames x1
  clear_value x1
  extract_lets +onlyGivenNames x2
  clear_value x2
  extract_lets +onlyGivenNames x3
  clear_value x3
  refine Upd.ite ?_ ?_
  · exact Upd.refl _ _
  · refine Upd.ite ?_ ?_
    · refine Upd.step (State.setF_upd ..) rfl ?_
      exact Upd.refl _ _
    · refine Upd.step (State.setF_upd ..) rfl ?_
      refine Upd.step (State.setFcu_upd ..) rfl ?_
      exact Upd.refl _ _

theorem execFcuClr_upd (r : Req) (n : Fin 32) (v : Word) (s : State) : UpdO 0x218300 s (execFcuClr r n v s) := by
  unfold execFcuClr
  refine UpdO.next ?_
  refine Upd.gated _ _ _ rfl ?_ (fun y1 h2 => ?_)
  · exact Upd.refl _ _
  · refine Upd.step (fcuClr_upd ..) rfl ?_
    exact h2

theorem execFcuClrDone_upd (n : Fin 32) (s : State) : UpdO 0x200200 s (execFcuClrDone n s) := by
  unfold execFcuClrDone
  extract_lets +onlyGivenNames x1
  clear_value x1
  split
  · refine UpdO.next ?_
    exact Upd.refl _ _
  · extract_lets +onlyGivenNames x2
    refine cut (P := Upd 0x200200 s x2) ?_ (fun h3 => ?_)
    · unfold x2
      refine Upd.foldl ?_ (fun y4 a5 h6 => ?_)
      · exact Upd.refl _ _
      · refine Upd.step (State.clearGran_upd ..) rfl ?_
        exact h6
    clear_value x2
    refine UpdO.next ?_
    refine Upd.step (State.setF_upd ..) rfl ?_
    refine Upd.step (State.clrF_upd ..) rfl ?_
    refine Upd.step (State.setFcu_upd ..) rfl ?_
    exact h3

theorem fcuGranWrite_upd (n : Nat) (g : Nat) (v : Word) (s : State) : Upd 0x200 s (fcuGranWrite n g v s) := by
  unfold fcuGranWrite
  extract_lets +onlyGivenNames x1
  clear_value x1
  extract_lets +onlyGivenNames x2
  clear_value x2
  extract_lets +onlyGivenNames x3
  clear_value x3
  refine Upd.ite ?_ ?_
  · refine Upd.ite ?_ ?_
    · exact Upd.refl _ _
    · refine Upd.step (State.setF_upd ..) rfl ?_
      exact Upd.refl _ _
  · refine Upd.step (State.wr_upd ..) rfl ?_
    exact Upd.refl _ _

theorem execFcuGranWrite_upd (r : Req) (n : Fin 32) (g : Fin 512) (v : Word) (s : State) : UpdO 0x18300 s (execFcuGranWrite r n g v s) := by
  unfold execFcuGranWrite
  refine UpdO.next ?_
  refine Upd.gatedIf _ _ _ rfl ?_ (fun y1 h2 => ?_)
  · exact Upd.refl _ _
  · refine Upd.step (fcuGranWrite_upd ..) rfl ?_
    exact h2

theorem execFcuRecordRead_upd (r : Req) (n : Fin 32) (rn : Fin 32768) (s : State) : UpdO 0x218300 s (execFcuRecordRead r n rn s) := by
  unfold execFcuRecordRead
  refine UpdO.ite ?_ ?_
  · refine UpdO.next ?_
    refine Upd.step (State.answer_upd ..) rfl ?_
    exact Upd.refl _ _
  · split
    · extract_lets +onlyGivenNames x1
      refine cut (P := Upd 0x218300 s x1) ?_ (fun h2 => ?_)
      · unfold x1
        refine Upd.step (State.clrTo_upd ..) rfl ?_
        exact Upd.refl _ _
      clear_value x1
      extract_lets +onlyGivenNames x3
      clear_value x3
      extract_lets +onlyGivenNames x4
      clear_value x4
      extract_lets +onlyGivenNames x5
      refine cut (P := Upd 0x218300 s x5) ?_ (fun h6 => ?_)
      · unfold x5
        refine Upd.step (State.setFcu_upd ..) rfl ?_
        exact h2
      clear_value x5
      refine UpdO.next ?_
      refine Upd.step (State.answer_upd ..) rfl ?_
      exact h6
    · refine UpdO.next ?_
      refine Upd.step (State.answer_upd ..) rfl ?_
      refine Upd.step (State.regDenied_upd ..) rfl ?_
      exact Upd.refl _ _
    · refine UpdO.next ?_
      refine Upd.step (State.answer_upd ..) rfl ?_
      exact Upd.refl _ _

theorem recWrite_upd (n : Nat) (rn : Nat) (v : Word) (s : State) : Upd 0x200000 s (recWrite n rn v s) := by
  unfold recWrite
  extract_lets +onlyGivenNames x1
  refine cut (P := Upd 0x200000 s x1) ?_ (fun h2 => ?_)
  · unfold x1
    refine Upd.step (State.clrTo_upd ..) rfl ?_
    exact Upd.refl _ _
  clear_value x1
  extract_lets +onlyGivenNames x3
  clear_value x3
  split
  · refine Upd.step (State.setRec_upd ..) rfl ?_
    exact h2

theorem execFcuRecordWrite_upd (r : Req) (n : Fin 32) (rn : Fin 32768) (v : Word) (s : State) : UpdO 0x218300 s (execFcuRecordWrite r n rn v s) := by
  unfold execFcuRecordWrite
  refine UpdO.ite ?_ ?_
  · refine UpdO.next ?_
    refine Upd.step (State.answer_upd ..) rfl ?_
    exact Upd.refl _ _
  · split
    · refine UpdO.next ?_
      refine Upd.step (State.answer_upd ..) rfl ?_
      refine Upd.step (recWrite_upd ..) rfl ?_
      exact Upd.refl _ _
    · refine UpdO.next ?_
      refine Upd.step (State.answer_upd ..) rfl ?_
      refine Upd.step (State.regDenied_upd ..) rfl ?_
      exact Upd.refl _ _
    · refine UpdO.next ?_
      refine Upd.step (State.answer_upd ..) rfl ?_
      exact Upd.refl _ _

theorem lrCtrlWrite_upd (l : Nat) (v : Word) (s : State) : Upd 0x318300 s (lrCtrlWrite l v s) := by
  unfold lrCtrlWrite
  extract_lets +onlyGivenNames x1
  refine cut (P := Upd 0x318300 s x1) ?_ (fun h2 => ?_)
  · unfold x1
    refine Upd.step (State.wr_upd ..) rfl ?_
    exact Upd.refl _ _
  clear_value x1
  extract_lets +onlyGivenNames x3
  clear_value x3
  extract_lets +onlyGivenNames x4
  refine cut (P := Upd 0x318300 s x4) ?_ (fun h5 => ?_)
  · unfold x4
    refine Upd.ite ?_ ?_
    · exact h2
    · refine Upd.step (State.fcuCnt_upd ..) rfl ?_
      refine Upd.step (State.setLk_upd ..) rfl ?_
      exact h2
  clear_value x4
  refine Upd.ite ?_ ?_
  · refine Upd.step (State.tallyCheck_upd ..) rfl ?_
    exact h5
  · exact h5

theorem execLrCtrlWrite_upd (r : Req) (l : Fin 512) (v : Word) (s : State) : UpdO 0x318300 s (execLrCtrlWrite r l v s) := by
  unfold execLrCtrlWrite
  refine UpdO.next ?_
  refine Upd.gated _ _ _ rfl ?_ (fun y1 h2 => ?_)
  · exact Upd.refl _ _
  · refine Upd.step (lrCtrlWrite_upd ..) rfl ?_
    exact h2

theorem lrLogWrite_upd (l : Nat) (a : Nat) (w : Word) (s : State) : Upd 0x200200 s (lrLogWrite l a w s) := by
  unfold lrLogWrite
  extract_lets +onlyGivenNames x1
  clear_value x1
  extract_lets +onlyGivenNames x2
  clear_value x2
  extract_lets +onlyGivenNames x3
  clear_value x3
  extract_lets +onlyGivenNames x4
  refine cut (P := Upd 0x200200 s x4) ?_ (fun h5 => ?_)
  · unfold x4
    refine Upd.step (State.wr_upd ..) rfl ?_
    exact Upd.refl _ _
  clear_value x4
  extract_lets +onlyGivenNames x6
  refine cut (P := Upd 0x200200 s x6) ?_ (fun h7 => ?_)
  · unfold x6
    refine Upd.step (State.setFcu_upd ..) rfl ?_
    exact h5
  clear_value x6
  refine Upd.step (State.logDrop_upd ..) rfl ?_
  refine Upd.step (State.wr_upd ..) rfl ?_
  exact h7

theorem execLrLogConfigWrite_upd (r : Req) (l : Fin 512) (w : Fin 3) (v : Word) (s : State) : UpdO 0x218300 s (execLrLogConfigWrite r l w v s) := by
  unfold execLrLogConfigWrite
  extract_lets +onlyGivenNames x1
  clear_value x1
  refine UpdO.next ?_
  refine Upd.gated _ _ _ rfl ?_ (fun y2 h3 => ?_)
  · exact Upd.refl _ _
  · refine Upd.step (lrLogWrite_upd ..) rfl ?_
    exact h3

end Sys2Proof.Machine
end

