-- ==== Sys2Proof/Laws/FrameTally.lean ====
section
/-! SUPPORT. What each operation of Sys2Proof/Machine/Tally.lean may change: the fields whose bits are set, in the order of State. -/
namespace Sys2Proof.Machine

theorem execMatchReportApply_upd (l : Fin 512) (s : State) : UpdO 0x318300 s (execMatchReportApply l s) := by
  unfold execMatchReportApply
  extract_lets +onlyGivenNames x1
  clear_value x1
  split
  · refine UpdO.next ?_
    exact Upd.refl _ _
  · refine UpdO.next ?_
    refine Upd.step (State.matchReport_upd ..) rfl ?_
    refine Upd.step (State.setLk_upd ..) rfl ?_
    exact Upd.refl _ _

theorem execTallyStepTimeout_upd (g : Fin 64) (s : State) : UpdO 0x218300 s (execTallyStepTimeout g s) := by
  unfold execTallyStepTimeout
  refine UpdO.next ?_
  refine Upd.ite ?_ ?_
  · refine Upd.step (State.tallyClose_upd ..) rfl ?_
    exact Upd.refl _ _
  · exact Upd.refl _ _

theorem tallyBroadcast_upd (g : Nat) (s : State) : Upd 0x398300 s (tallyBroadcast g s) := by
  unfold tallyBroadcast
  extract_lets +onlyGivenNames x1
  clear_value x1
  split
  · exact Upd.refl _ _
  · extract_lets +onlyGivenNames x2
    clear_value x2
    extract_lets +onlyGivenNames x3
    refine cut (P := Upd 0x398300 s x3) ?_ (fun h4 => ?_)
    · unfold x3
      refine Upd.step (State.setTally_upd ..) rfl ?_
      exact Upd.refl _ _
    clear_value x3
    extract_lets +onlyGivenNames x5
    clear_value x5
    extract_lets +onlyGivenNames x6
    refine cut (P := Upd 0x398300 s x6) ?_ (fun h7 => ?_)
    · unfold x6
      refine Upd.ite ?_ ?_
      · exact h4
      · refine Upd.foldl ?_ (fun y8 a9 h10 => ?_)
        · exact h4
        · refine Upd.ite ?_ ?_
          · refine Upd.step (State.bellQueue_upd ..) rfl ?_
            exact h10
          · exact h10
    clear_value x6
    extract_lets +onlyGivenNames x11
    refine cut (P := Upd 0x398300 s x11) ?_ (fun h12 => ?_)
    · unfold x11
      refine Upd.ite ?_ ?_
      · refine Upd.step (State.wf_upd ..) rfl ?_
        exact h7
      · exact h7
    clear_value x11
    refine Upd.ite ?_ ?_
    · exact h12
    · refine Upd.ite ?_ ?_
      · split
        · exact h12
        · refine Upd.step (bellRequest_upd ..) rfl ?_
          exact h12
      · split
        · exact h12
        · extract_lets +onlyGivenNames x13
          clear_value x13
          refine Upd.step (State.setLk_upd ..) rfl ?_
          exact h12

theorem execTallyResultBroadcast_upd (g : Fin 64) (s : State) : UpdO 0x398300 s (execTallyResultBroadcast g s) := by
  unfold execTallyResultBroadcast
  refine UpdO.next ?_
  refine Upd.step (tallyBroadcast_upd ..) rfl ?_
  exact Upd.refl _ _

theorem tallyCtrlWrite_upd (g : Nat) (v : Word) (s : State) : Upd 0x200200 s (tallyCtrlWrite g v s) := by
  unfold tallyCtrlWrite
  extract_lets +onlyGivenNames x1
  refine cut (P := Upd 0x200200 s x1) ?_ (fun h2 => ?_)
  · unfold x1
    refine Upd.step (State.wr_upd ..) rfl ?_
    exact Upd.refl _ _
  clear_value x1
  refine Upd.ite ?_ ?_
  · exact h2
  · refine Upd.step (State.tallyAbandon_upd ..) rfl ?_
    exact h2

theorem execTallyCtrlWrite_upd (r : Req) (g : Fin 64) (v : Word) (s : State) : UpdO 0x218300 s (execTallyCtrlWrite r g v s) := by
  unfold execTallyCtrlWrite
  refine UpdO.next ?_
  refine Upd.gated _ _ _ rfl ?_ (fun y1 h2 => ?_)
  · exact Upd.refl _ _
  · refine Upd.step (tallyCtrlWrite_upd ..) rfl ?_
    exact h2

end Sys2Proof.Machine
end

