-- ==== Sys2Proof/Laws/FrameLinkPath.lean ====
section
/-! SUPPORT. What each operation of Sys2Proof/Machine/LinkPath.lean may change: the fields whose bits are set, in the order of State. -/
namespace Sys2Proof.Machine

theorem State.txErr_upd (s : State) (l : Nat) : Upd 0x200 s (State.txErr s l) := by
  unfold State.txErr
  refine Upd.step (State.setF_upd ..) rfl ?_
  refine Upd.step (State.cnt_upd ..) rfl ?_
  exact Upd.refl _ _

theorem State.offerData_upd (s : State) (l : Nat) (user : Nat) (apply : Option Nat) (payload : List Byte) : Upd 0x100200 s (State.offerData s l user apply payload) := by
  unfold State.offerData
  extract_lets +onlyGivenNames x1
  clear_value x1
  refine Upd.ite ?_ ?_
  · refine Upd.step (State.setF_upd ..) rfl ?_
    refine Upd.step (State.cnt_upd ..) rfl ?_
    exact Upd.refl _ _
  · refine Upd.step (State.setLk_upd ..) rfl ?_
    exact Upd.refl _ _

theorem State.portFrame_upd (s : State) (l : Nat) (beats : List DWord) : Upd 0x100200 s (State.portFrame s l beats) := by
  unfold State.portFrame
  extract_lets +onlyGivenNames x1
  clear_value x1
  extract_lets +onlyGivenNames x2
  clear_value x2
  extract_lets +onlyGivenNames x3
  clear_value x3
  extract_lets +onlyGivenNames x4
  clear_value x4
  refine Upd.ite ?_ ?_
  · refine Upd.step (State.txErr_upd ..) rfl ?_
    exact Upd.refl _ _
  · extract_lets +onlyGivenNames x5
    clear_value x5
    refine Upd.step (State.offerData_upd ..) rfl ?_
    exact Upd.refl _ _

theorem dlpBeat_upd (f : Nat) (p : Nat) (d : DWord) (last : Bool) (s : State) : Upd 0x100200 s (dlpBeat f p d last s) := by
  unfold dlpBeat
  split
  · exact Upd.refl _ _
  · extract_lets +onlyGivenNames x1
    clear_value x1
    refine Upd.ite ?_ ?_
    · exact Upd.refl _ _
    · refine Upd.ite ?_ ?_
      · exact Upd.refl _ _
      · extract_lets +onlyGivenNames x2
        clear_value x2
        refine Upd.ite ?_ ?_
        · refine Upd.step (State.portFrame_upd ..) rfl ?_
          refine Upd.step (State.setLk_upd ..) rfl ?_
          exact Upd.refl _ _
        · refine Upd.step (State.setLk_upd ..) rfl ?_
          exact Upd.refl _ _

theorem execDlpTxBeat_upd (f : Fin 128) (port : Fin 32) (d : DWord) (last : Bool) (s : State) : UpdO 0x100200 s (execDlpTxBeat f port d last s) := by
  unfold execDlpTxBeat
  refine UpdO.next ?_
  refine Upd.step (dlpBeat_upd ..) rfl ?_
  exact Upd.refl _ _

theorem State.portPacket_upd {s t : State} {l : Nat} {p : DlpPkt} (e : s.portPacket l = some (p, t)) : Upd 0x100000 s t := by
  unfold State.portPacket at e
  dsimp only at e
  split at e
  · cases e; exact Upd.mono (State.setLk_upd ..) (by rfl)
  · split at e
    · cases e; exact Upd.mono (State.setLk_upd ..) (by rfl)
    · split at e
      · cases e; exact Upd.mono (State.setLk_upd ..) (by rfl)
      · cases e

theorem State.portBeats_upd (s : State) (l : Nat) (n : Nat) (p : DlpPkt) : Upd 0x100100 s (State.portBeats s l n p) := by
  unfold State.portBeats
  extract_lets +onlyGivenNames x1
  clear_value x1
  extract_lets +onlyGivenNames x2
  clear_value x2
  extract_lets +onlyGivenNames x3
  refine cut (P := Upd 0x100100 s x3) ?_ (fun h4 => ?_)
  · unfold x3
    refine Upd.step (State.setLk_upd ..) rfl ?_
    exact Upd.refl _ _
  clear_value x3
  extract_lets +onlyGivenNames x5
  refine cut (P := Upd 0x100100 s x5) ?_ (fun h6 => ?_)
  · unfold x5
    refine Upd.ite ?_ ?_
    · exact h4
    · refine Upd.step (State.emit_upd ..) rfl ?_
      exact h4
  clear_value x5
  refine Upd.ite ?_ ?_
  · refine Upd.step (State.retCredit_upd ..) rfl ?_
    exact h6
  · exact h6

theorem dlpDeliver_upd (l : Nat) (n : Nat) (ue : Bool) (s : State) : Upd 0x120380 s (dlpDeliver l n ue s) := by
  unfold dlpDeliver
  refine Upd.ite ?_ ?_
  · exact Upd.refl _ _
  · split
    · refine Upd.step (State.portBeats_upd ..) rfl ?_
      exact Upd.refl _ _
    · split
      · rename_i v1 v2
        exact Upd.refl _ _
      · rename_i v3 v4 v5 v6
        refine cut (P := Upd 0x120380 s v5) (Upd.step (State.portPacket_upd v6) rfl ?_) (fun h7 => ?_)
        · exact Upd.refl _ _
        refine Upd.ite ?_ ?_
        · refine Upd.step (State.eccDrop_upd ..) rfl ?_
          exact h7
        · refine Upd.ite ?_ ?_
          · extract_lets +onlyGivenNames x8
            refine cut (P := Upd 0x120380 s x8) ?_ (fun h9 => ?_)
            · unfold x8
              refine Upd.step (State.fcuCnt_upd ..) rfl ?_
              exact h7
            clear_value x8
            refine Upd.ite ?_ ?_
            · refine Upd.step (State.retCredit_upd ..) rfl ?_
              exact h9
            · exact h9
          · refine Upd.step (State.portBeats_upd ..) rfl ?_
            exact h7

theorem execDlpRxDeliver_upd (l : Fin 512) (n : Fin 64) (ue : Bool) (s : State) : UpdO 0x120380 s (execDlpRxDeliver l n ue s) := by
  unfold execDlpRxDeliver
  refine UpdO.next ?_
  refine Upd.step (dlpDeliver_upd ..) rfl ?_
  exact Upd.refl _ _

theorem State.rxAccepted_upd (s : State) (l n : Nat) (q : List (Nat × Bool)) : Upd 0x100000 s (s.rxAccepted l n q) := by
  induction q generalizing s with
  | nil => exact Upd.refl _ _
  | cons a t ih =>
    unfold State.rxAccepted
    refine Upd.ite (Upd.step (ih ..) (by rfl) ?_) (Upd.refl _ _)
    have h : Upd 0x100000 s (s.setLk l { s.lk l with owe := t }) := Upd.mono (State.setLk_upd ..) rfl
    exact Upd.ite (Upd.step (State.retCredit_upd ..) (by rfl) h) h

theorem State.rxSettle_upd (s : State) (l : Nat) : Upd 0x100000 s (State.rxSettle s l) := by
  unfold State.rxSettle
  refine Upd.step (State.rxAccepted_upd ..) rfl ?_
  exact Upd.refl _ _

theorem rxRingWrite_upd (l : Nat) (s : State) : Upd 0x10180380 s (rxRingWrite l s) := by
  unfold rxRingWrite
  extract_lets +onlyGivenNames x1
  clear_value x1
  split
  · exact Upd.refl _ _
  · extract_lets +onlyGivenNames x2
    clear_value x2
    refine Upd.ite ?_ ?_
    · exact Upd.refl _ _
    · extract_lets +onlyGivenNames x3
      clear_value x3
      extract_lets +onlyGivenNames x4
      clear_value x4
      extract_lets +onlyGivenNames x5
      refine cut (P := Upd 0x10180380 s x5) ?_ (fun h6 => ?_)
      · unfold x5
        refine Upd.step (State.setLk_upd ..) rfl ?_
        exact Upd.refl _ _
      clear_value x5
      extract_lets +onlyGivenNames x7
      refine cut (P := Upd 0x10180380 s x7) ?_ (fun h8 => ?_)
      · unfold x7
        refine Upd.foldl ?_ (fun y9 a10 h11 => ?_)
        · exact h6
        · extract_lets +onlyGivenNames x12
          clear_value x12
          refine Upd.step (ringInject_upd ..) rfl ?_
          exact h11
      clear_value x7
      refine Upd.step (State.rxSettle_upd ..) rfl ?_
      exact h8

theorem execLinkRxRingWrite_upd (l : Fin 512) (s : State) : UpdO 0x10180380 s (execLinkRxRingWrite l s) := by
  unfold execLinkRxRingWrite
  refine UpdO.next ?_
  refine Upd.step (rxRingWrite_upd ..) rfl ?_
  exact Upd.refl _ _

theorem execLinkTxFetch_upd (l : Fin 512) (s : State) : UpdO 0x10180380 s (execLinkTxFetch l s) := by
  unfold execLinkTxFetch
  extract_lets +onlyGivenNames x1
  clear_value x1
  extract_lets +onlyGivenNames x2
  clear_value x2
  refine UpdO.ite ?_ ?_
  · refine UpdO.next ?_
    exact Upd.refl _ _
  · extract_lets +onlyGivenNames x3
    refine cut (P := Upd 0x10180380 s x3) ?_ (fun h4 => ?_)
    · unfold x3
      refine Upd.step (State.setLk_upd ..) rfl ?_
      exact Upd.refl _ _
    clear_value x3
    refine UpdO.next ?_
    refine Upd.step (ringInject_upd ..) rfl ?_
    exact h4

theorem State.chunkIn_upd (s : State) (l : Nat) (c : Nat) : Upd 0x100200 s (State.chunkIn s l c) := by
  unfold State.chunkIn
  extract_lets +onlyGivenNames x1
  clear_value x1
  extract_lets +onlyGivenNames x2
  clear_value x2
  extract_lets +onlyGivenNames x3
  clear_value x3
  extract_lets +onlyGivenNames x4
  clear_value x4
  extract_lets +onlyGivenNames x5
  clear_value x5
  extract_lets +onlyGivenNames x6
  clear_value x6
  extract_lets +onlyGivenNames x7
  clear_value x7
  extract_lets +onlyGivenNames x8
  clear_value x8
  extract_lets +onlyGivenNames x9
  refine cut (P := Upd 0x100200 s x9) ?_ (fun h10 => ?_)
  · unfold x9
    refine Upd.step (State.setLk_upd ..) rfl ?_
    exact Upd.refl _ _
  clear_value x9
  refine Upd.ite ?_ ?_
  · extract_lets +onlyGivenNames x11
    clear_value x11
    extract_lets +onlyGivenNames x12
    refine cut (P := Upd 0x100200 s x12) ?_ (fun h13 => ?_)
    · unfold x12
      refine Upd.step (State.setLk_upd ..) rfl ?_
      exact h10
    clear_value x12
    refine Upd.ite ?_ ?_
    · refine Upd.step (State.txErr_upd ..) rfl ?_
      exact h13
    · exact h13
  · split
    · extract_lets +onlyGivenNames x14
      clear_value x14
      refine Upd.ite ?_ ?_
      · refine Upd.step (State.txErr_upd ..) rfl ?_
        exact h10
      · refine Upd.step (State.offerData_upd ..) rfl ?_
        exact h10
    · extract_lets +onlyGivenNames x15
      refine cut (P := Upd 0x100200 s x15) ?_ (fun h16 => ?_)
      · unfold x15
        refine Upd.ite ?_ ?_
        · refine Upd.step (State.txErr_upd ..) rfl ?_
          exact h10
        · exact h10
      clear_value x15
      refine Upd.ite ?_ ?_
      · exact h16
      · extract_lets +onlyGivenNames x17
        clear_value x17
        refine Upd.ite ?_ ?_
        · refine Upd.step (State.txErr_upd ..) rfl ?_
          exact h16
        · refine Upd.ite ?_ ?_
          · refine Upd.step (State.setLk_upd ..) rfl ?_
            exact h16
          · refine Upd.step (State.offerData_upd ..) rfl ?_
            exact h16

theorem execLinkTxChunk_upd (l : Fin 512) (code : Rsp) (data : BitVec 2048) (s : State) : UpdO 0x100200 s (execLinkTxChunk l code data s) := by
  unfold execLinkTxChunk
  extract_lets +onlyGivenNames x1
  clear_value x1
  refine UpdO.ite ?_ ?_
  · refine UpdO.next ?_
    exact Upd.refl _ _
  · extract_lets +onlyGivenNames x2
    refine cut (P := Upd 0x100200 s x2) ?_ (fun h3 => ?_)
    · unfold x2
      refine Upd.step (State.setLk_upd ..) rfl ?_
      exact Upd.refl _ _
    clear_value x2
    refine UpdO.ite ?_ ?_
    · refine UpdO.next ?_
      refine Upd.step (State.chunkIn_upd ..) rfl ?_
      exact h3
    · refine UpdO.next ?_
      refine Upd.step (State.txErr_upd ..) rfl ?_
      refine Upd.step (State.setLk_upd ..) rfl ?_
      exact h3

end Sys2Proof.Machine
end

