-- ==== Sys2Proof/Laws/FrameMill.lean ====
section
/-! SUPPORT. What each operation of Sys2Proof/Machine/Mill.lean may change: the fields whose bits are set, in the order of State. -/
namespace Sys2Proof.Machine

theorem State.millEvt_upd (s : State) (e : Nat) (f : Fld) : Upd 0x18300 s (State.millEvt s e f) := by
  unfold State.millEvt
  refine Upd.step (State.evt_upd ..) rfl ?_
  exact Upd.refl _ _

theorem State.millCnt_upd (s : State) (e : Nat) (c : Nat) (n : Nat) : Upd 0x200 s (State.millCnt s e c n) := by
  unfold State.millCnt
  refine Upd.step (State.cnt_upd ..) rfl ?_
  exact Upd.refl _ _

theorem State.millError_upd (s : State) (e : Nat) (err : Nat) : Upd 0x918300 s (State.millError s e err) := by
  unfold State.millError
  extract_lets +onlyGivenNames x1
  clear_value x1
  extract_lets +onlyGivenNames x2
  clear_value x2
  extract_lets +onlyGivenNames x3
  refine cut (P := Upd 0x918300 s x3) ?_ (fun h4 => ?_)
  · unfold x3
    refine Upd.ite ?_ ?_
    · refine Upd.step (State.millFlush_upd ..) rfl ?_
      exact Upd.refl _ _
    · exact Upd.refl _ _
  clear_value x3
  extract_lets +onlyGivenNames x5
  refine cut (P := Upd 0x918300 s x5) ?_ (fun h6 => ?_)
  · unfold x5
    refine Upd.step (State.wf_upd ..) rfl ?_
    refine Upd.step (State.wf_upd ..) rfl ?_
    exact h4
  clear_value x5
  refine Upd.step (State.millEvt_upd ..) rfl ?_
  refine Upd.step (State.wf_upd ..) rfl ?_
  exact h6

theorem State.millStart_upd (s : State) (e : Nat) (src : Bool) : Upd 0x10880380 s (State.millStart s e src) := by
  unfold State.millStart
  extract_lets +onlyGivenNames x1
  clear_value x1
  extract_lets +onlyGivenNames x2
  refine cut (P := Upd 0x10880380 s x2) ?_ (fun h3 => ?_)
  · unfold x2
    refine Upd.foldl ?_ (fun y4 a5 h6 => ?_)
    · exact Upd.refl _ _
    · refine Upd.step (State.wr_upd ..) rfl ?_
      exact h6
  clear_value x2
  extract_lets +onlyGivenNames x7
  refine cut (P := Upd 0x10880380 s x7) ?_ (fun h8 => ?_)
  · unfold x7
    refine Upd.step (State.wf_upd ..) rfl ?_
    refine Upd.step (State.wf_upd ..) rfl ?_
    refine Upd.step (State.wf_upd ..) rfl ?_
    exact h3
  clear_value x7
  extract_lets +onlyGivenNames x9
  refine cut (P := Upd 0x10880380 s x9) ?_ (fun h10 => ?_)
  · unfold x9
    refine Upd.step (State.setMill_upd ..) rfl ?_
    refine Upd.step (State.wf_upd ..) rfl ?_
    exact h8
  clear_value x9
  refine Upd.step (ringInject_upd ..) rfl ?_
  exact h10

theorem millCtrl_upd (e : Nat) (v : Word) (s : State) : Upd 0x10998380 s (millCtrl e v s) := by
  unfold millCtrl
  extract_lets +onlyGivenNames x1
  clear_value x1
  extract_lets +onlyGivenNames x2
  clear_value x2
  extract_lets +onlyGivenNames x3
  refine cut (P := Upd 0x10998380 s x3) ?_ (fun h4 => ?_)
  · unfold x3
    refine Upd.step (State.wf_upd ..) rfl ?_
    exact Upd.refl _ _
  clear_value x3
  extract_lets +onlyGivenNames x5
  clear_value x5
  extract_lets +onlyGivenNames x6
  clear_value x6
  extract_lets +onlyGivenNames x7
  clear_value x7
  refine Upd.ite ?_ ?_
  · exact h4
  · refine Upd.ite ?_ ?_
    · refine Upd.step (State.millEvt_upd ..) rfl ?_
      exact h4
    · refine Upd.ite ?_ ?_
      · refine Upd.ite ?_ ?_
        · refine Upd.step (State.millStart_upd ..) rfl ?_
          exact h4
        · refine Upd.step (State.millEvt_upd ..) rfl ?_
          exact h4
      · refine Upd.ite ?_ ?_
        · refine Upd.ite ?_ ?_
          · refine Upd.step (State.setMill_upd ..) rfl ?_
            exact h4
          · refine Upd.step (State.millEvt_upd ..) rfl ?_
            exact h4
        · refine Upd.ite ?_ ?_
          · refine Upd.step (State.millError_upd ..) rfl ?_
            exact h4
          · exact h4

theorem State.millCtrlCmd_upd (s : State) (r : Req) (e : Nat) (v : Word) : Upd 0x10998380 s (State.millCtrlCmd s r e v) := by
  unfold State.millCtrlCmd
  refine Upd.gated _ _ _ rfl ?_ (fun y1 h2 => ?_)
  · exact Upd.refl _ _
  · refine Upd.step (millCtrl_upd ..) rfl ?_
    exact h2

theorem execMillCtrlStart_upd (r : Req) (e : Fin 64) (v : Word) (s : State) : UpdO 0x10998380 s (execMillCtrlStart r e v s) := by
  unfold execMillCtrlStart
  refine UpdO.next ?_
  refine Upd.step (State.millCtrlCmd_upd ..) rfl ?_
  exact Upd.refl _ _

theorem execMillCtrlClose_upd (r : Req) (e : Fin 64) (v : Word) (s : State) : UpdO 0x10998380 s (execMillCtrlClose r e v s) := by
  unfold execMillCtrlClose
  refine UpdO.next ?_
  refine Upd.step (State.millCtrlCmd_upd ..) rfl ?_
  exact Upd.refl _ _

theorem execMillCtrlAbort_upd (r : Req) (e : Fin 64) (v : Word) (s : State) : UpdO 0x10998380 s (execMillCtrlAbort r e v s) := by
  unfold execMillCtrlAbort
  refine UpdO.next ?_
  refine Upd.step (State.millCtrlCmd_upd ..) rfl ?_
  exact Upd.refl _ _

theorem State.millSrcNext_upd (s : State) (e : Nat) : Upd 0x10080380 s (State.millSrcNext s e) := by
  unfold State.millSrcNext
  extract_lets +onlyGivenNames x1
  clear_value x1
  extract_lets +onlyGivenNames x2
  clear_value x2
  refine Upd.ite ?_ ?_
  · refine Upd.step (ringInject_upd ..) rfl ?_
    exact Upd.refl _ _
  · refine Upd.step (State.wf_upd ..) rfl ?_
    exact Upd.refl _ _

theorem millDescLoaded_upd (e : Nat) (d : Nat) (s : State) : Upd 0x10998380 s (millDescLoaded e d s) := by
  unfold millDescLoaded
  extract_lets +onlyGivenNames x1
  clear_value x1
  extract_lets +onlyGivenNames x2
  clear_value x2
  refine Upd.ite ?_ ?_
  · exact Upd.refl _ _
  · split
    · refine Upd.step (State.millError_upd ..) rfl ?_
      refine Upd.step (State.wf_upd ..) rfl ?_
      exact Upd.refl _ _
    · extract_lets +onlyGivenNames x3
      refine cut (P := Upd 0x10998380 s x3) ?_ (fun h4 => ?_)
      · unfold x3
        refine Upd.step (State.setMill_upd ..) rfl ?_
        exact Upd.refl _ _
      clear_value x3
      refine Upd.ite ?_ ?_
      · refine Upd.step (State.millSrcNext_upd ..) rfl ?_
        exact h4
      · refine Upd.step (State.wf_upd ..) rfl ?_
        exact h4

theorem execMillDescLoaded_upd (e : Fin 64) (d : BitVec 2048) (s : State) : UpdO 0x10998380 s (execMillDescLoaded e d s) := by
  unfold execMillDescLoaded
  refine UpdO.next ?_
  refine Upd.step (millDescLoaded_upd ..) rfl ?_
  exact Upd.refl _ _

theorem State.millTake_upd (s : State) (e : Nat) (raw : Nat) : Upd 0x818300 s (State.millTake s e raw) := by
  unfold State.millTake
  extract_lets +onlyGivenNames x1
  clear_value x1
  split
  · refine Upd.step (State.millEvt_upd ..) rfl ?_
    refine Upd.step (State.millCnt_upd ..) rfl ?_
    exact Upd.refl _ _
  · extract_lets +onlyGivenNames x2
    clear_value x2
    extract_lets +onlyGivenNames x3
    refine cut (P := Upd 0x818300 s x3) ?_ (fun h4 => ?_)
    · unfold x3
      refine Upd.step (State.millCnt_upd ..) rfl ?_
      exact Upd.refl _ _
    clear_value x3
    refine Upd.ite ?_ ?_
    · refine Upd.step (State.millCnt_upd ..) rfl ?_
      exact h4
    · extract_lets +onlyGivenNames x5
      clear_value x5
      refine Upd.ite ?_ ?_
      · extract_lets +onlyGivenNames x6
        refine cut (P := Upd 0x818300 s x6) ?_ (fun h7 => ?_)
        · unfold x6
          refine Upd.step (State.setMill_upd ..) rfl ?_
          exact h4
        clear_value x6
        refine Upd.step (State.millEvt_upd ..) rfl ?_
        refine Upd.step (State.millCnt_upd ..) rfl ?_
        exact h7
      · refine Upd.step (State.wr_upd ..) rfl ?_
        refine Upd.step (State.setMill_upd ..) rfl ?_
        exact h4

theorem execMillSrcRead_upd (e : Fin 64) (d : BitVec 2048) (s : State) : UpdO 0x10898380 s (execMillSrcRead e d s) := by
  unfold execMillSrcRead
  extract_lets +onlyGivenNames x1
  clear_value x1
  refine UpdO.ite ?_ ?_
  · refine UpdO.next ?_
    exact Upd.refl _ _
  · extract_lets +onlyGivenNames x2
    clear_value x2
    extract_lets +onlyGivenNames x3
    refine cut (P := Upd 0x10898380 s x3) ?_ (fun h4 => ?_)
    · unfold x3
      refine Upd.foldl ?_ (fun y5 a6 h7 => ?_)
      · exact Upd.refl _ _
      · refine Upd.step (State.millTake_upd ..) rfl ?_
        exact h7
    clear_value x3
    extract_lets +onlyGivenNames x8
    clear_value x8
    refine UpdO.next ?_
    refine Upd.step (State.millSrcNext_upd ..) rfl ?_
    refine Upd.step (State.setMill_upd ..) rfl ?_
    exact h4

theorem execMillIntakeEntry_upd (e : Fin 64) (ue : Bool) (s : State) : UpdO 0x918300 s (execMillIntakeEntry e ue s) := by
  unfold execMillIntakeEntry
  extract_lets +onlyGivenNames x1
  clear_value x1
  split
  · refine UpdO.next ?_
    exact Upd.refl _ _
  · refine UpdO.ite ?_ ?_
    · refine UpdO.next ?_
      exact Upd.refl _ _
    · extract_lets +onlyGivenNames x2
      refine cut (P := Upd 0x918300 s x2) ?_ (fun h3 => ?_)
      · unfold x2
        refine Upd.step (State.setMill_upd ..) rfl ?_
        exact Upd.refl _ _
      clear_value x2
      extract_lets +onlyGivenNames x4
      refine cut (P := Upd 0x918300 s x4) ?_ (fun h5 => ?_)
      · unfold x4
        refine Upd.ite ?_ ?_
        · refine Upd.step (State.millEvt_upd ..) rfl ?_
          refine Upd.step (State.millCnt_upd ..) rfl ?_
          exact h3
        · refine Upd.step (State.millTake_upd ..) rfl ?_
          exact h3
      clear_value x4
      refine UpdO.next ?_
      refine Upd.step (State.millPump_upd ..) rfl ?_
      exact h5

theorem execMillIntakeDrained_upd (e : Fin 64) (s : State) : UpdO 0x200 s (execMillIntakeDrained e s) := by
  unfold execMillIntakeDrained
  extract_lets +onlyGivenNames x1
  clear_value x1
  extract_lets +onlyGivenNames x2
  clear_value x2
  refine UpdO.next ?_
  refine Upd.ite ?_ ?_
  · refine Upd.step (State.wf_upd ..) rfl ?_
    exact Upd.refl _ _
  · exact Upd.refl _ _

theorem millAnalyse_upd (e : Nat) (ue : Bool) (s : State) : Upd 0x800200 s (millAnalyse e ue s) := by
  unfold millAnalyse
  extract_lets +onlyGivenNames x1
  clear_value x1
  extract_lets +onlyGivenNames x2
  clear_value x2
  refine Upd.ite ?_ ?_
  · exact Upd.refl _ _
  · extract_lets +onlyGivenNames x3
    clear_value x3
    extract_lets +onlyGivenNames x4
    clear_value x4
    extract_lets +onlyGivenNames x5
    clear_value x5
    extract_lets +onlyGivenNames x6
    refine cut (P := Upd 0x800200 s x6) ?_ (fun h7 => ?_)
    · unfold x6
      refine Upd.step (State.wf_upd ..) rfl ?_
      exact Upd.refl _ _
    clear_value x6
    refine Upd.ite ?_ ?_
    · refine Upd.step (State.setMill_upd ..) rfl ?_
      exact h7
    · extract_lets +onlyGivenNames x8
      refine cut (P := Upd 0x800200 s x8) ?_ (fun h9 => ?_)
      · unfold x8
        refine Upd.step (State.setMill_upd ..) rfl ?_
        exact h7
      clear_value x8
      extract_lets +onlyGivenNames x10
      refine cut (P := Upd 0x800200 s x10) ?_ (fun h11 => ?_)
      · unfold x10
        split
        · refine Upd.step (State.millCnt_upd ..) rfl ?_
          exact h9
        · exact h9
      clear_value x10
      refine Upd.step (State.cnt64_upd ..) rfl ?_
      exact h11

theorem execMillRegionAnalyse_upd (e : Fin 64) (ue : Bool) (s : State) : UpdO 0x800200 s (execMillRegionAnalyse e ue s) := by
  unfold execMillRegionAnalyse
  refine UpdO.next ?_
  refine Upd.step (millAnalyse_upd ..) rfl ?_
  exact Upd.refl _ _

theorem State.millIssue_upd (s : State) (e : Nat) (pad : Bool) : Upd 0x10880380 s (State.millIssue s e pad) := by
  unfold State.millIssue
  extract_lets +onlyGivenNames x1
  clear_value x1
  extract_lets +onlyGivenNames x2
  clear_value x2
  extract_lets +onlyGivenNames x3
  refine cut (P := Upd 0x10880380 s x3) ?_ (fun h4 => ?_)
  · unfold x3
    refine Upd.foldl ?_ (fun y5 a6 h7 => ?_)
    · exact Upd.refl _ _
    · extract_lets +onlyGivenNames x8
      clear_value x8
      refine Upd.step (ringInject_upd ..) rfl ?_
      exact h7
  clear_value x3
  refine Upd.step (State.wr_upd ..) rfl ?_
  refine Upd.step (State.setMill_upd ..) rfl ?_
  exact h4

theorem State.millTerminate_upd (s : State) (e : Nat) : Upd 0x10880380 s (State.millTerminate s e) := by
  unfold State.millTerminate
  extract_lets +onlyGivenNames x1
  clear_value x1
  refine Upd.step (State.millIssue_upd ..) rfl ?_
  refine Upd.step (State.setMill_upd ..) rfl ?_
  exact Upd.refl _ _

theorem millWrite_upd (e : Nat) (s : State) : Upd 0x10998380 s (millWrite e s) := by
  unfold millWrite
  extract_lets +onlyGivenNames x1
  clear_value x1
  refine Upd.ite ?_ ?_
  · exact Upd.refl _ _
  · split
    · refine Upd.ite ?_ ?_
      · refine Upd.step (State.millIssue_upd ..) rfl ?_
        refine Upd.step (State.setMill_upd ..) rfl ?_
        exact Upd.refl _ _
      · refine Upd.step (State.millError_upd ..) rfl ?_
        refine Upd.step (State.millTerminate_upd ..) rfl ?_
        exact Upd.refl _ _
    · refine Upd.ite ?_ ?_
      · refine Upd.step (State.millTerminate_upd ..) rfl ?_
        exact Upd.refl _ _
      · exact Upd.refl _ _

theorem execMillRecordWrite_upd (e : Fin 64) (s : State) : UpdO 0x10998380 s (execMillRecordWrite e s) := by
  unfold execMillRecordWrite
  refine UpdO.next ?_
  refine Upd.step (millWrite_upd ..) rfl ?_
  exact Upd.refl _ _

theorem execMillJobDone_upd (e : Fin 64) (s : State) : UpdO 0x18300 s (execMillJobDone e s) := by
  unfold execMillJobDone
  refine UpdO.next ?_
  refine Upd.ite ?_ ?_
  · refine Upd.step (State.millEvt_upd ..) rfl ?_
    refine Upd.step (State.wf_upd ..) rfl ?_
    exact Upd.refl _ _
  · exact Upd.refl _ _

theorem execMillWriteError_upd (e : Fin 64) (what : Fin 3) (region : BitVec 12) (s : State) : UpdO 0x918300 s (execMillWriteError e what region s) := by
  unfold execMillWriteError
  extract_lets +onlyGivenNames x1
  clear_value x1
  refine UpdO.ite ?_ ?_
  · refine UpdO.next ?_
    refine Upd.ite ?_ ?_
    · refine Upd.step (State.wf_upd ..) rfl ?_
      refine Upd.step (State.millError_upd ..) rfl ?_
      exact Upd.refl _ _
    · exact Upd.refl _ _
  · refine UpdO.next ?_
    refine Upd.ite ?_ ?_
    · refine Upd.step (State.millError_upd ..) rfl ?_
      exact Upd.refl _ _
    · exact Upd.refl _ _

theorem State.millSiteReset_upd (s : State) (e : Nat) : Upd 0x918300 s (State.millSiteReset s e) := by
  unfold State.millSiteReset
  extract_lets +onlyGivenNames x1
  clear_value x1
  refine Upd.ite ?_ ?_
  · extract_lets +onlyGivenNames x2
    refine cut (P := Upd 0x918300 s x2) ?_ (fun h3 => ?_)
    · unfold x2
      refine Upd.step (State.millError_upd ..) rfl ?_
      exact Upd.refl _ _
    clear_value x2
    refine Upd.step (State.setMill_upd ..) rfl ?_
    exact h3
  · exact Upd.refl _ _

end Sys2Proof.Machine
end

