-- ==== Sys2Proof/Laws/FrameSites.lean ====
section
/-! SUPPORT. What each operation of Sys2Proof/Machine/Sites.lean may change: the fields whose bits are set, in the order of State. -/
namespace Sys2Proof.Machine

theorem State.sicEval_upd (s : State) (n : Nat) : Upd 0x18300 s (State.sicEval s n) := by
  unfold State.sicEval
  refine Upd.ite ?_ ?_
  · exact Upd.refl _ _
  · refine Upd.foldl ?_ (fun y1 a2 h3 => ?_)
    · exact Upd.refl _ _
    · refine Upd.ite ?_ ?_
      · refine Upd.step (State.sicRaise_upd ..) rfl ?_
        exact h3
      · exact h3

theorem sicEoi_upd (n : Nat) (v : Nat) (s : State) : Upd 0x18300 s (sicEoi n v s) := by
  unfold sicEoi
  extract_lets +onlyGivenNames x1
  clear_value x1
  refine Upd.ite ?_ ?_
  · refine Upd.foldl ?_ (fun y2 a3 h4 => ?_)
    · refine Upd.step (State.setVstat_upd ..) rfl ?_
      exact Upd.refl _ _
    · refine Upd.ite ?_ ?_
      · refine Upd.step (State.sicRaise_upd ..) rfl ?_
        exact h4
      · exact h4
  · exact Upd.refl _ _

theorem execSicEoi_upd (r : Req) (n : Fin 64) (v : Word) (s : State) : UpdO 0x18300 s (execSicEoi r n v s) := by
  unfold execSicEoi
  refine UpdO.next ?_
  refine Upd.gated _ _ _ rfl ?_ (fun y1 h2 => ?_)
  · exact Upd.refl _ _
  · refine Upd.step (sicEoi_upd ..) rfl ?_
    exact h2

theorem State.pf0Eval_upd (s : State) : Upd 0x10300 s (State.pf0Eval s) := by
  unfold State.pf0Eval
  refine Upd.foldl ?_ (fun y1 a2 h3 => ?_)
  · exact Upd.refl _ _
  · refine Upd.ite ?_ ?_
    · refine Upd.step (State.pf0Raise_upd ..) rfl ?_
      exact h3
    · exact h3

theorem State.fnHere_upd (s : State) (fn : Nat) : Upd 0x10100 s (State.fnHere s fn) := by
  unfold State.fnHere
  refine Upd.ite ?_ ?_
  · exact Upd.refl _ _
  · extract_lets +onlyGivenNames x1
    clear_value x1
    extract_lets +onlyGivenNames x2
    clear_value x2
    extract_lets +onlyGivenNames x3
    refine cut (P := Upd 0x10100 s x3) ?_ (fun h4 => ?_)
    · unfold x3
      refine Upd.step (Upd.set_pcie _ _) rfl ?_
      exact Upd.refl _ _
    clear_value x3
    refine Upd.foldl ?_ (fun y5 a6 h7 => ?_)
    · exact h4
    · refine Upd.ite ?_ ?_
      · refine Upd.step (State.emit_upd ..) rfl ?_
        exact h7
      · exact h7

theorem msixEnable_upd (fn : Nat) (s : State) : Upd 0x18300 s (msixEnable fn s) := by
  unfold msixEnable
  extract_lets +onlyGivenNames x1
  clear_value x1
  extract_lets +onlyGivenNames x2
  refine cut (P := Upd 0x18300 s x2) ?_ (fun h3 => ?_)
  · unfold x2
    refine Upd.step (Upd.set_pcie _ _) rfl ?_
    exact Upd.refl _ _
  clear_value x2
  refine Upd.ite ?_ ?_
  · refine Upd.step (State.pf0Eval_upd ..) rfl ?_
    exact h3
  · refine Upd.step (State.sicEval_upd ..) rfl ?_
    refine Upd.step (State.fnHere_upd ..) rfl ?_
    exact h3

theorem execMsixEnable_upd (fn : Fin 65) (s : State) : UpdO 0x18300 s (execMsixEnable fn s) := by
  unfold execMsixEnable
  refine UpdO.next ?_
  refine Upd.step (msixEnable_upd ..) rfl ?_
  exact Upd.refl _ _

theorem msixUnmask_upd (fn : Nat) (v : Nat) (s : State) : Upd 0x10100 s (msixUnmask fn v s) := by
  unfold msixUnmask
  extract_lets +onlyGivenNames x1
  clear_value x1
  extract_lets +onlyGivenNames x2
  clear_value x2
  extract_lets +onlyGivenNames x3
  clear_value x3
  extract_lets +onlyGivenNames x4
  refine cut (P := Upd 0x10100 s x4) ?_ (fun h5 => ?_)
  · unfold x4
    refine Upd.step (Upd.set_pcie _ _) rfl ?_
    exact Upd.refl _ _
  clear_value x4
  refine Upd.ite ?_ ?_
  · refine Upd.step (State.emit_upd ..) rfl ?_
    exact h5
  · exact h5

theorem execMsixUnmask_upd (fn : Fin 65) (v : Fin 256) (s : State) : UpdO 0x10100 s (execMsixUnmask fn v s) := by
  unfold execMsixUnmask
  refine UpdO.next ?_
  refine Upd.step (msixUnmask_upd ..) rfl ?_
  exact Upd.refl _ _

theorem State.bankReset_upd (s : State) (b : Nat) : Upd 0x40000e00 s (State.bankReset s b) := by
  unfold State.bankReset
  extract_lets +onlyGivenNames x1
  clear_value x1
  extract_lets +onlyGivenNames x2
  refine cut (P := Upd 0x40000e00 s x2) ?_ (fun h3 => ?_)
  · unfold x2
    refine Upd.step (State.regsLost_upd ..) rfl ?_
    exact Upd.refl _ _
  clear_value x2
  refine Upd.step (State.setF_upd ..) rfl ?_
  refine Upd.step (Upd.set_gpio _ _) rfl ?_
  exact h3

theorem State.tcritCount_upd (s : State) (n : Nat) : Upd 0x200 s (State.tcritCount s n) := by
  unfold State.tcritCount
  refine Upd.ite ?_ ?_
  · exact Upd.refl _ _
  · refine Upd.step (State.wf_upd ..) rfl ?_
    exact Upd.refl _ _

theorem State.setFieldOwner_upd (s : State) (f : Nat) (n : Nat) : Upd 0x4001af00 s (State.setFieldOwner s f n) := by
  unfold State.setFieldOwner
  extract_lets +onlyGivenNames x1
  refine cut (P := Upd 0x4001af00 s x1) ?_ (fun h2 => ?_)
  · unfold x1
    refine Upd.step (State.stileUpdateField_upd ..) rfl ?_
    refine Upd.step (State.wf_upd ..) rfl ?_
    exact Upd.refl _ _
  clear_value x1
  split
  · refine Upd.step (State.bankReset_upd ..) rfl ?_
    exact h2
  · exact h2

theorem State.fieldBlank_upd (s : State) (f : Nat) : Upd 0x401a300 s (State.fieldBlank s f) := by
  unfold State.fieldBlank
  refine Upd.step (State.setCfgRec_upd ..) rfl ?_
  refine Upd.step (State.setCfgState_upd ..) rfl ?_
  refine Upd.step (State.unconfigure_upd ..) rfl ?_
  exact Upd.refl _ _

theorem State.fieldGrant_upd (s : State) (f : Nat) (n : Nat) : Upd 0x5419ef80 s (State.fieldGrant s f n) := by
  unfold State.fieldGrant
  extract_lets +onlyGivenNames x1
  refine cut (P := Upd 0x5419ef80 s x1) ?_ (fun h2 => ?_)
  · unfold x1
    refine Upd.foldl ?_ (fun y3 a4 h5 => ?_)
    · exact Upd.refl _ _
    · refine Upd.step (State.bmZero_upd ..) rfl ?_
      exact h5
  clear_value x1
  extract_lets +onlyGivenNames x6
  refine cut (P := Upd 0x5419ef80 s x6) ?_ (fun h7 => ?_)
  · unfold x6
    refine Upd.step (State.setFieldOwner_upd ..) rfl ?_
    refine Upd.step (State.fieldBlank_upd ..) rfl ?_
    refine Upd.step (State.gsrAssert_upd ..) rfl ?_
    exact h2
  clear_value x6
  extract_lets +onlyGivenNames x8
  refine cut (P := Upd 0x5419ef80 s x8) ?_ (fun h9 => ?_)
  · unfold x8
    refine Upd.ite ?_ ?_
    · refine Upd.step (State.setSiteHold_upd ..) rfl ?_
      exact h7
    · exact h7
  clear_value x8
  refine Upd.step (State.sicEval_upd ..) rfl ?_
  refine Upd.step (State.siteStat_upd ..) rfl ?_
  exact h9

theorem State.fieldRevoke_upd (s : State) (f : Nat) : Upd 0x5419ef80 s (State.fieldRevoke s f) := by
  unfold State.fieldRevoke
  extract_lets +onlyGivenNames x1
  clear_value x1
  extract_lets +onlyGivenNames x2
  refine cut (P := Upd 0x5419ef80 s x2) ?_ (fun h3 => ?_)
  · unfold x2
    refine Upd.step (State.clrF_upd ..) rfl ?_
    refine Upd.step (State.fieldBlank_upd ..) rfl ?_
    refine Upd.step (State.gsrAssert_upd ..) rfl ?_
    exact Upd.refl _ _
  clear_value x2
  extract_lets +onlyGivenNames x4
  refine cut (P := Upd 0x5419ef80 s x4) ?_ (fun h5 => ?_)
  · unfold x4
    refine Upd.step (State.setSiteHold_upd ..) rfl ?_
    refine Upd.step (State.setFieldOwner_upd ..) rfl ?_
    exact h3
  clear_value x4
  refine Upd.step (State.siteStat_upd ..) rfl ?_
  refine Upd.step (State.tcritCount_upd ..) rfl ?_
  exact h5

theorem State.granChange_upd (s : State) (g : Nat) (n : Nat) : Upd 0x1c300 s (State.granChange s g n) := by
  unfold State.granChange
  extract_lets +onlyGivenNames x1
  clear_value x1
  extract_lets +onlyGivenNames x2
  refine cut (P := Upd 0x1c300 s x2) ?_ (fun h3 => ?_)
  · unfold x2
    refine Upd.ite ?_ ?_
    · refine Upd.step (State.grFill_upd ..) rfl ?_
      exact Upd.refl _ _
    · exact Upd.refl _ _
  clear_value x2
  extract_lets +onlyGivenNames x4
  refine cut (P := Upd 0x1c300 s x4) ?_ (fun h5 => ?_)
  · unfold x4
    refine Upd.step (State.wf_upd ..) rfl ?_
    exact h3
  clear_value x4
  refine Upd.step (State.sicEval_upd ..) rfl ?_
  refine Upd.step (State.siteStat_upd ..) rfl ?_
  refine Upd.step (State.siteStat_upd ..) rfl ?_
  exact h5

theorem State.ownStore_upd (s : State) (r : Req) (gran : Bool) (i : Nat) (n : Nat) : UpdP 0x7419ef80 s (State.ownStore s r gran i n) := by
  unfold State.ownStore
  extract_lets +onlyGivenNames x1
  clear_value x1
  refine UpdP.ite ?_ ?_
  · refine UpdP.mk ?_
    exact Upd.refl _ _
  · refine UpdP.ite ?_ ?_
    · refine UpdP.mk ?_
      refine Upd.step (State.setF_upd ..) rfl ?_
      exact Upd.refl _ _
    · refine UpdP.ite ?_ ?_
      · refine UpdP.mk ?_
        refine Upd.step (State.setF_upd ..) rfl ?_
        refine Upd.step (Upd.set_fills _ _) rfl ?_
        exact Upd.refl _ _
      · refine UpdP.mk ?_
        refine Upd.ite ?_ ?_
        · refine Upd.step (State.granChange_upd ..) rfl ?_
          exact Upd.refl _ _
        · refine Upd.step (State.fieldRevoke_upd ..) rfl ?_
          exact Upd.refl _ _

theorem ownWrite_upd (r : Req) (gran : Bool) (i : Nat) (n : Nat) (a : Nat) (s : State) : Upd 0x7419ef80 s (ownWrite r gran i n a s) := by
  unfold ownWrite
  split
  · rename_i v1 v2 v3
    refine cut (P := Upd 0x7419ef80 s v2) (UpdP.out ?_ v3) (fun h4 => ?_)
    · refine UpdP.step (State.ownStore_upd ..) rfl ?_
      exact Upd.refl _ _
    exact h4
  · rename_i v5 v6 v7
    refine cut (P := Upd 0x7419ef80 s v6) (UpdP.out ?_ v7) (fun h8 => ?_)
    · refine UpdP.step (State.ownStore_upd ..) rfl ?_
      exact Upd.refl _ _
    refine Upd.ite ?_ ?_
    · exact Upd.refl _ _
    · refine Upd.step (State.answer_upd ..) rfl ?_
      exact h8

theorem execFldOwnWrite_upd (r : Req) (f : Fin 128) (v : Word) (s : State) : UpdO 0x7419ef80 s (execFldOwnWrite r f v s) := by
  unfold execFldOwnWrite
  extract_lets +onlyGivenNames x1
  clear_value x1
  refine UpdO.next ?_
  refine Upd.gatedBy _ _ _ rfl ?_ (fun y2 h3 => ?_)
  · exact Upd.refl _ _
  · refine Upd.ite ?_ ?_
    · refine Upd.step (ownWrite_upd ..) rfl ?_
      exact h3
    · refine Upd.step (State.answer_upd ..) rfl ?_
      exact h3

theorem execGranOwnWrite_upd (r : Req) (g : Fin 32) (v : Word) (s : State) : UpdO 0x7419ef80 s (execGranOwnWrite r g v s) := by
  unfold execGranOwnWrite
  extract_lets +onlyGivenNames x1
  clear_value x1
  refine UpdO.next ?_
  refine Upd.gatedBy _ _ _ rfl ?_ (fun y2 h3 => ?_)
  · exact Upd.refl _ _
  · refine Upd.ite ?_ ?_
    · refine Upd.step (ownWrite_upd ..) rfl ?_
      exact h3
    · refine Upd.step (State.answer_upd ..) rfl ?_
      exact h3

theorem grantFillDone_upd (s : State) : Upd 0x7419ef80 s (grantFillDone s) := by
  unfold grantFillDone
  split
  · exact Upd.refl _ _
  · extract_lets +onlyGivenNames x1
    refine cut (P := Upd 0x7419ef80 s x1) ?_ (fun h2 => ?_)
    · unfold x1
      refine Upd.step (Upd.set_fills _ _) rfl ?_
      exact Upd.refl _ _
    clear_value x1
    extract_lets +onlyGivenNames x3
    refine cut (P := Upd 0x7419ef80 s x3) ?_ (fun h4 => ?_)
    · unfold x3
      refine Upd.ite ?_ ?_
      · refine Upd.ite ?_ ?_
        · refine Upd.step (State.granChange_upd ..) rfl ?_
          exact h2
        · refine Upd.step (State.fieldGrant_upd ..) rfl ?_
          exact h2
      · exact h2
    clear_value x3
    extract_lets +onlyGivenNames x5
    refine cut (P := Upd 0x7419ef80 s x5) ?_ (fun h6 => ?_)
    · unfold x5
      refine Upd.ite ?_ ?_
      · refine Upd.step (State.clrF_upd ..) rfl ?_
        exact h4
      · exact h4
    clear_value x5
    split
    · exact h6
    · extract_lets +onlyGivenNames x7
      clear_value x7
      refine Upd.step (State.answerBy_upd ..) rfl ?_
      refine Upd.step (State.answer_upd ..) rfl ?_
      exact h6

theorem State.sicDiscard_upd (s : State) (n : Nat) : Upd 0x18200 s (State.sicDiscard s n) := by
  unfold State.sicDiscard
  extract_lets +onlyGivenNames x1
  clear_value x1
  extract_lets +onlyGivenNames x2
  clear_value x2
  extract_lets +onlyGivenNames x3
  clear_value x3
  extract_lets +onlyGivenNames x4
  clear_value x4
  extract_lets +onlyGivenNames x5
  refine cut (P := Upd 0x18200 s x5) ?_ (fun h6 => ?_)
  · unfold x5
    refine Upd.step (State.setSrt_upd ..) rfl ?_
    exact Upd.refl _ _
  clear_value x5
  extract_lets +onlyGivenNames x7
  clear_value x7
  extract_lets +onlyGivenNames x8
  refine cut (P := Upd 0x18200 s x8) ?_ (fun h9 => ?_)
  · unfold x8
    refine Upd.step (Upd.set_pcie _ _) rfl ?_
    exact h6
  clear_value x8
  extract_lets +onlyGivenNames x10
  refine cut (P := Upd 0x18200 s x10) ?_ (fun h11 => ?_)
  · unfold x10
    refine Upd.ite ?_ ?_
    · exact h9
    · refine Upd.step (State.cnt_upd ..) rfl ?_
      exact h9
  clear_value x10
  refine Upd.step (State.wf_upd ..) rfl ?_
  refine Upd.step (State.wr64_upd ..) rfl ?_
  exact h11

theorem State.siteQuiet_upd (s : State) (n : Nat) : Upd 0x14b9e380 s (State.siteQuiet s n) := by
  unfold State.siteQuiet
  extract_lets +onlyGivenNames x1
  refine cut (P := Upd 0x14b9e380 s x1) ?_ (fun h2 => ?_)
  · unfold x1
    refine Upd.foldl ?_ (fun y3 a4 h5 => ?_)
    · exact Upd.refl _ _
    · refine Upd.step (State.gsrAssert_upd ..) rfl ?_
      refine Upd.step (State.setSiteHold_upd ..) rfl ?_
      exact h5
  clear_value x1
  extract_lets +onlyGivenNames x6
  refine cut (P := Upd 0x14b9e380 s x6) ?_ (fun h7 => ?_)
  · unfold x6
    refine Upd.foldl ?_ (fun y8 a9 h10 => ?_)
    · exact h2
    · refine Upd.ite ?_ ?_
      · refine Upd.step (State.stopReset_upd ..) rfl ?_
        exact h10
      · exact h10
  clear_value x6
  extract_lets +onlyGivenNames x11
  refine cut (P := Upd 0x14b9e380 s x11) ?_ (fun h12 => ?_)
  · unfold x11
    refine Upd.foldl ?_ (fun y13 a14 h15 => ?_)
    · exact h7
    · refine Upd.ite ?_ ?_
      · refine Upd.step (State.stopReset_upd ..) rfl ?_
        refine Upd.step (State.millSiteReset_upd ..) rfl ?_
        exact h15
      · exact h15
  clear_value x11
  extract_lets +onlyGivenNames x16
  refine cut (P := Upd 0x14b9e380 s x16) ?_ (fun h17 => ?_)
  · unfold x16
    refine Upd.step (State.cfgSiteAbort_upd ..) rfl ?_
    refine Upd.step (State.tallyAbandon_upd ..) rfl ?_
    exact h12
  clear_value x16
  extract_lets +onlyGivenNames x18
  refine cut (P := Upd 0x14b9e380 s x18) ?_ (fun h19 => ?_)
  · unfold x18
    refine Upd.foldl ?_ (fun y20 a21 h22 => ?_)
    · exact h17
    · refine Upd.step (State.ctrlDown_upd ..) rfl ?_
      refine Upd.step (State.fcuSiteReset_upd ..) rfl ?_
      exact h22
  clear_value x18
  refine Upd.ite ?_ ?_
  · refine Upd.step (State.wf_upd ..) rfl ?_
    refine Upd.step (State.wf_upd ..) rfl ?_
    exact h19
  · exact h19

theorem State.siteReset_upd (s : State) (n : Nat) (cause : Nat) : Upd 0x16b9e380 s (State.siteReset s n cause) := by
  unfold State.siteReset
  extract_lets +onlyGivenNames x1
  clear_value x1
  extract_lets +onlyGivenNames x2
  clear_value x2
  refine Upd.ite ?_ ?_
  · exact Upd.refl _ _
  · extract_lets +onlyGivenNames x3
    refine cut (P := Upd 0x16b9e380 s x3) ?_ (fun h4 => ?_)
    · unfold x3
      refine Upd.step (State.cnt_upd ..) rfl ?_
      exact Upd.refl _ _
    clear_value x3
    refine Upd.ite ?_ ?_
    · refine Upd.step (State.siteStat_upd ..) rfl ?_
      exact h4
    · extract_lets +onlyGivenNames x5
      clear_value x5
      extract_lets +onlyGivenNames x6
      refine cut (P := Upd 0x16b9e380 s x6) ?_ (fun h7 => ?_)
      · unfold x6
        refine Upd.step (State.setSrt_upd ..) rfl ?_
        exact h4
      clear_value x6
      extract_lets +onlyGivenNames x8
      refine cut (P := Upd 0x16b9e380 s x8) ?_ (fun h9 => ?_)
      · unfold x8
        refine Upd.step (State.clrF_upd ..) rfl ?_
        refine Upd.step (State.wf_upd ..) rfl ?_
        refine Upd.step (State.wf_upd ..) rfl ?_
        exact h7
      clear_value x8
      refine Upd.step (State.siteQuiet_upd ..) rfl ?_
      refine Upd.step (State.sicDiscard_upd ..) rfl ?_
      refine Upd.step (State.dmaStop_upd ..) rfl ?_
      exact h9

theorem State.siteRun_upd (s : State) (n : Nat) : Upd 0x4000200 s (State.siteRun s n) := by
  unfold State.siteRun
  extract_lets +onlyGivenNames x1
  clear_value x1
  refine Upd.ite ?_ ?_
  · exact Upd.refl _ _
  · extract_lets +onlyGivenNames x2
    refine cut (P := Upd 0x4000200 s x2) ?_ (fun h3 => ?_)
    · unfold x2
      refine Upd.step (State.clrF_upd ..) rfl ?_
      exact Upd.refl _ _
    clear_value x2
    extract_lets +onlyGivenNames x4
    clear_value x4
    refine Upd.ite ?_ ?_
    · exact h3
    · refine Upd.step (State.cfgAdd_upd ..) rfl ?_
      exact h3

theorem siteCmd_upd (r : Req) (n : Nat) (v : Word) (s : State) : Upd 0x16b9e380 s (siteCmd r n v s) := by
  unfold siteCmd
  refine Upd.ite ?_ ?_
  · refine Upd.step (State.siteReset_upd ..) rfl ?_
    exact Upd.refl _ _
  · refine Upd.ite ?_ ?_
    · refine Upd.step (State.siteRun_upd ..) rfl ?_
      exact Upd.refl _ _
    · exact Upd.refl _ _

theorem execSiteCmdReset_upd (r : Req) (n : Fin 64) (v : Word) (s : State) : UpdO 0x16b9e380 s (execSiteCmdReset r n v s) := by
  unfold execSiteCmdReset
  refine UpdO.next ?_
  refine Upd.gated _ _ _ rfl ?_ (fun y1 h2 => ?_)
  · exact Upd.refl _ _
  · refine Upd.step (siteCmd_upd ..) rfl ?_
    exact h2

theorem execSiteCmdRun_upd (r : Req) (n : Fin 64) (v : Word) (s : State) : UpdO 0x16b9e380 s (execSiteCmdRun r n v s) := by
  unfold execSiteCmdRun
  refine UpdO.next ?_
  refine Upd.gated _ _ _ rfl ?_ (fun y1 h2 => ?_)
  · exact Upd.refl _ _
  · refine Upd.step (siteCmd_upd ..) rfl ?_
    exact h2

theorem siteDrainEnd_upd (n : Nat) (s : State) : Upd 0x141be380 s (siteDrainEnd n s) := by
  unfold siteDrainEnd
  extract_lets +onlyGivenNames x1
  clear_value x1
  refine Upd.ite ?_ ?_
  · exact Upd.refl _ _
  · extract_lets +onlyGivenNames x2
    clear_value x2
    extract_lets +onlyGivenNames x3
    refine cut (P := Upd 0x141be380 s x3) ?_ (fun h4 => ?_)
    · unfold x3
      refine Upd.ite ?_ ?_
      · refine Upd.step (State.siteStat_upd ..) rfl ?_
        exact Upd.refl _ _
      · exact Upd.refl _ _
    clear_value x3
    extract_lets +onlyGivenNames x5
    clear_value x5
    extract_lets +onlyGivenNames x6
    refine cut (P := Upd 0x141be380 s x6) ?_ (fun h7 => ?_)
    · unfold x6
      refine Upd.step (State.setSrt_upd ..) rfl ?_
      exact h4
    clear_value x6
    refine Upd.ite ?_ ?_
    · refine Upd.step (State.cfgReload_upd ..) rfl ?_
      exact h7
    · refine Upd.foldl ?_ (fun y8 a9 h10 => ?_)
      · exact h7
      · refine Upd.ite ?_ ?_
        · refine Upd.step (State.setCfgState_upd ..) rfl ?_
          exact h10
        · exact h10

theorem execSiteResetDrainEnd_upd (n : Fin 64) (s : State) : UpdO 0x141be380 s (execSiteResetDrainEnd n s) := by
  unfold execSiteResetDrainEnd
  refine UpdO.next ?_
  refine Upd.step (siteDrainEnd_upd ..) rfl ?_
  exact Upd.refl _ _

theorem siteResetDone_upd (n : Nat) (s : State) : Upd 0x1419e380 s (siteResetDone n s) := by
  unfold siteResetDone
  extract_lets +onlyGivenNames x1
  clear_value x1
  extract_lets +onlyGivenNames x2
  clear_value x2
  refine Upd.ite ?_ ?_
  · exact Upd.refl _ _
  · extract_lets +onlyGivenNames x3
    refine cut (P := Upd 0x1419e380 s x3) ?_ (fun h4 => ?_)
    · unfold x3
      refine Upd.step (State.setSrt_upd ..) rfl ?_
      exact Upd.refl _ _
    clear_value x3
    extract_lets +onlyGivenNames x5
    refine cut (P := Upd 0x1419e380 s x5) ?_ (fun h6 => ?_)
    · unfold x5
      refine Upd.step (State.wf_upd ..) rfl ?_
      exact h4
    clear_value x5
    extract_lets +onlyGivenNames x7
    refine cut (P := Upd 0x1419e380 s x7) ?_ (fun h8 => ?_)
    · unfold x7
      refine Upd.ite ?_ ?_
      · exact h6
      · refine Upd.step (State.setF_upd ..) rfl ?_
        exact h6
    clear_value x7
    extract_lets +onlyGivenNames x9
    refine cut (P := Upd 0x1419e380 s x9) ?_ (fun h10 => ?_)
    · unfold x9
      refine Upd.foldl ?_ (fun y11 a12 h13 => ?_)
      · exact h8
      · refine Upd.step (State.setSiteHold_upd ..) rfl ?_
        exact h13
    clear_value x9
    extract_lets +onlyGivenNames x14
    refine cut (P := Upd 0x1419e380 s x14) ?_ (fun h15 => ?_)
    · unfold x14
      refine Upd.foldl ?_ (fun y16 a17 h18 => ?_)
      · exact h10
      · refine Upd.step (State.cfgSet_upd ..) rfl ?_
        exact h18
    clear_value x14
    refine Upd.step (State.siteStat_upd ..) rfl ?_
    exact h15

theorem execSiteResetComplete_upd (n : Fin 64) (s : State) : UpdO 0x1419e380 s (execSiteResetComplete n s) := by
  unfold execSiteResetComplete
  refine UpdO.next ?_
  refine Upd.step (siteResetDone_upd ..) rfl ?_
  exact Upd.refl _ _

theorem State.fnReset_upd (s : State) (fn : Nat) : Upd 0x10200 s (State.fnReset s fn) := by
  unfold State.fnReset
  extract_lets +onlyGivenNames x1
  clear_value x1
  extract_lets +onlyGivenNames x2
  refine cut (P := Upd 0x10200 s x2) ?_ (fun h3 => ?_)
  · unfold x2
    refine Upd.step (Upd.set_pcie _ _) rfl ?_
    exact Upd.refl _ _
  clear_value x2
  refine Upd.foldl ?_ (fun y4 a5 h6 => ?_)
  · exact h3
  · refine Upd.step (State.wr_upd ..) rfl ?_
    exact h6

theorem vfFlr_upd (n : Nat) (s : State) : Upd 0x16b9e380 s (vfFlr n s) := by
  unfold vfFlr
  refine Upd.step (State.fnReset_upd ..) rfl ?_
  refine Upd.step (State.siteReset_upd ..) rfl ?_
  exact Upd.refl _ _

theorem execVfFlr_upd (n : Fin 64) (s : State) : UpdO 0x16b9e380 s (execVfFlr n s) := by
  unfold execVfFlr
  refine UpdO.next ?_
  refine Upd.step (vfFlr_upd ..) rfl ?_
  exact Upd.refl _ _

theorem vfCut_upd (m : Nat) (s : State) : Upd 0x16b9e380 s (vfCut m s) := by
  unfold vfCut
  extract_lets +onlyGivenNames x1
  clear_value x1
  extract_lets +onlyGivenNames x2
  refine cut (P := Upd 0x16b9e380 s x2) ?_ (fun h3 => ?_)
  · unfold x2
    refine Upd.foldl ?_ (fun y4 a5 h6 => ?_)
    · exact Upd.refl _ _
    · refine Upd.ite ?_ ?_
      · refine Upd.step (vfFlr_upd ..) rfl ?_
        exact h6
      · exact h6
  clear_value x2
  refine Upd.step (Upd.set_pcie _ _) rfl ?_
  exact h3

theorem execVfEnableClear_upd (numVfs : Fin 65) (s : State) : UpdO 0x16b9e380 s (execVfEnableClear numVfs s) := by
  unfold execVfEnableClear
  refine UpdO.next ?_
  refine Upd.step (vfCut_upd ..) rfl ?_
  exact Upd.refl _ _

theorem pfFlr_upd (s : State) : Upd 0x16b9e380 s (pfFlr s) := by
  unfold pfFlr
  extract_lets +onlyGivenNames x1
  refine cut (P := Upd 0x16b9e380 s x1) ?_ (fun h2 => ?_)
  · unfold x1
    refine Upd.foldl ?_ (fun y3 a4 h5 => ?_)
    · exact Upd.refl _ _
    · refine Upd.step (State.dmaStop_upd ..) rfl ?_
      exact h5
  clear_value x1
  refine Upd.step (vfCut_upd ..) rfl ?_
  refine Upd.step (State.wr_upd ..) rfl ?_
  refine Upd.step (State.fnReset_upd ..) rfl ?_
  exact h2

theorem execPfFlr_upd (s : State) : UpdO 0x16b9e380 s (execPfFlr s) := by
  unfold execPfFlr
  refine UpdO.next ?_
  refine Upd.step (pfFlr_upd ..) rfl ?_
  exact Upd.refl _ _

theorem execPcieLinkLoss_upd (s : State) : UpdO 0x16b9e380 s (execPcieLinkLoss s) := by
  unfold execPcieLinkLoss
  refine UpdO.next ?_
  extract_lets +onlyGivenNames x1
  refine cut (P := Upd 0x16b9e380 s x1) ?_ (fun h2 => ?_)
  · unfold x1
    refine Upd.step (pfFlr_upd ..) rfl ?_
    exact Upd.refl _ _
  clear_value x1
  refine Upd.step (Upd.set_pcie _ _) rfl ?_
  exact h2

theorem execPcieLinkUp_upd (s : State) : UpdO 0x10100 s (execPcieLinkUp s) := by
  unfold execPcieLinkUp
  refine UpdO.next ?_
  refine Upd.step (State.emit_upd ..) rfl ?_
  refine Upd.step (Upd.set_pcie _ _) rfl ?_
  exact Upd.refl _ _

end Sys2Proof.Machine
end

