-- ==== Sys2Proof/Laws/FrameClocks.lean ====
section
/-! SUPPORT. What each operation of Sys2Proof/Machine/Clocks.lean may change: the fields whose bits are set, in the order of State. -/
namespace Sys2Proof.Machine

theorem State.setWin_upd (s : State) (i : Nat) (l : List Nat) : Upd 0x400000 s (State.setWin s i l) := by
  unfold State.setWin
  refine Upd.step (Upd.set_clk _ _) rfl ?_
  exact Upd.refl _ _

theorem refJudge_upd (i : Nat) (n : Nat) (s : State) : Upd 0x400200 s (refJudge i n s) := by
  unfold refJudge
  refine Upd.ite ?_ ?_
  · exact Upd.refl _ _
  · split
    · extract_lets +onlyGivenNames x1
      refine cut (P := Upd 0x400200 s x1) ?_ (fun h2 => ?_)
      · unfold x1
        refine Upd.step (State.setWin_upd ..) rfl ?_
        exact Upd.refl _ _
      clear_value x1
      refine Upd.ite ?_ ?_
      · extract_lets +onlyGivenNames x3
        refine cut (P := Upd 0x400200 s x3) ?_ (fun h4 => ?_)
        · unfold x3
          refine Upd.ite ?_ ?_
          · exact h2
          · refine Upd.step (State.wf_upd ..) rfl ?_
            exact h2
        clear_value x3
        refine Upd.step (State.wf_upd ..) rfl ?_
        refine Upd.step (State.setF_upd ..) rfl ?_
        exact h4
      · refine Upd.step (State.clrF_upd ..) rfl ?_
        exact h2
    · refine Upd.step (State.setWin_upd ..) rfl ?_
      exact Upd.refl _ _

theorem execRefJudgeWindow_upd (i : Fin 2) (n : BitVec 20) (s : State) : UpdO 0x400200 s (execRefJudgeWindow i n s) := by
  unfold execRefJudgeWindow
  refine UpdO.next ?_
  refine Upd.step (refJudge_upd ..) rfl ?_
  exact Upd.refl _ _

theorem State.fallback_upd (s : State) (nmi : Bool) : Upd 0x16fbe380 s (State.fallback s nmi) := by
  unfold State.fallback
  extract_lets +onlyGivenNames x1
  clear_value x1
  extract_lets +onlyGivenNames x2
  refine cut (P := Upd 0x16fbe380 s x2) ?_ (fun h3 => ?_)
  · unfold x2
    refine Upd.step (State.setF_upd ..) rfl ?_
    refine Upd.step (State.wf_upd ..) rfl ?_
    refine Upd.step (State.wf_upd ..) rfl ?_
    exact Upd.refl _ _
  clear_value x2
  extract_lets +onlyGivenNames x4
  refine cut (P := Upd 0x16fbe380 s x4) ?_ (fun h5 => ?_)
  · unfold x4
    refine Upd.step (State.setF_upd ..) rfl ?_
    refine Upd.step (State.setF_upd ..) rfl ?_
    exact h3
  clear_value x4
  extract_lets +onlyGivenNames x6
  clear_value x6
  extract_lets +onlyGivenNames x7
  refine cut (P := Upd 0x16fbe380 s x7) ?_ (fun h8 => ?_)
  · unfold x7
    refine Upd.step (Upd.set_clk _ _) rfl ?_
    exact h5
  clear_value x7
  extract_lets +onlyGivenNames x9
  refine cut (P := Upd 0x16fbe380 s x9) ?_ (fun h10 => ?_)
  · unfold x9
    refine Upd.ite ?_ ?_
    · refine Upd.step (State.emit_upd ..) rfl ?_
      exact h8
    · exact h8
  clear_value x9
  extract_lets +onlyGivenNames x11
  refine cut (P := Upd 0x16fbe380 s x11) ?_ (fun h12 => ?_)
  · unfold x11
    refine Upd.step (State.reportO_upd ..) rfl ?_
    exact h10
  clear_value x11
  extract_lets +onlyGivenNames x13
  refine cut (P := Upd 0x16fbe380 s x13) ?_ (fun h14 => ?_)
  · unfold x13
    refine Upd.step (State.stretchAll_upd ..) rfl ?_
    exact h12
  clear_value x13
  extract_lets +onlyGivenNames x15
  refine cut (P := Upd 0x16fbe380 s x15) ?_ (fun h16 => ?_)
  · unfold x15
    refine Upd.foldl ?_ (fun y17 a18 h19 => ?_)
    · exact h14
    · refine Upd.ite ?_ ?_
      · exact h19
      · refine Upd.step (State.laneDown_upd ..) rfl ?_
        exact h19
  clear_value x15
  extract_lets +onlyGivenNames x20
  refine cut (P := Upd 0x16fbe380 s x20) ?_ (fun h21 => ?_)
  · unfold x20
    refine Upd.step (pfFlr_upd ..) rfl ?_
    exact h16
  clear_value x20
  extract_lets +onlyGivenNames x22
  refine cut (P := Upd 0x16fbe380 s x22) ?_ (fun h23 => ?_)
  · unfold x22
    refine Upd.foldl ?_ (fun y24 a25 h26 => ?_)
    · exact h21
    · refine Upd.ite ?_ ?_
      · refine Upd.step (State.siteReset_upd ..) rfl ?_
        exact h26
      · exact h26
  clear_value x22
  refine Upd.step (Upd.set_pcie _ _) rfl ?_
  exact h23

theorem State.refBad_upd (s : State) (i : Nat) (f : Fld) : Upd 0x16fbe380 s (State.refBad s i f) := by
  unfold State.refBad
  extract_lets +onlyGivenNames x1
  refine cut (P := Upd 0x16fbe380 s x1) ?_ (fun h2 => ?_)
  · unfold x1
    refine Upd.step (State.setWin_upd ..) rfl ?_
    refine Upd.step (State.clrF_upd ..) rfl ?_
    refine Upd.step (State.setF_upd ..) rfl ?_
    exact Upd.refl _ _
  clear_value x1
  refine Upd.ite ?_ ?_
  · refine Upd.step (State.fallback_upd ..) rfl ?_
    exact h2
  · split
    · rename_i v3 v4 v5 v6
      refine cut (P := Upd 0x16fbe380 s v5) (UpdP.out ?_ v6) (fun h7 => ?_)
      · refine UpdP.step (State.fresh_upd ..) rfl ?_
        exact h2
      refine Upd.step (State.reportSites_upd ..) rfl ?_
      exact h7

theorem execRefLoss_upd (i : Fin 2) (s : State) : UpdO 0x16fbe380 s (execRefLoss i s) := by
  unfold execRefLoss
  refine UpdO.next ?_
  refine Upd.ite ?_ ?_
  · refine Upd.step (State.refBad_upd ..) rfl ?_
    exact Upd.refl _ _
  · exact Upd.refl _ _

theorem refDevWindow_upd (i : Nat) (n : Nat) (s : State) : Upd 0x16fbe380 s (refDevWindow i n s) := by
  unfold refDevWindow
  refine Upd.ite ?_ ?_
  · extract_lets +onlyGivenNames x1
    clear_value x1
    extract_lets +onlyGivenNames x2
    refine cut (P := Upd 0x16fbe380 s x2) ?_ (fun h3 => ?_)
    · unfold x2
      refine Upd.step (State.wf_upd ..) rfl ?_
      exact Upd.refl _ _
    clear_value x2
    refine Upd.ite ?_ ?_
    · refine Upd.step (State.refBad_upd ..) rfl ?_
      exact h3
    · exact h3
  · exact Upd.refl _ _

theorem execRefDevWindow_upd (i : Fin 2) (n : BitVec 17) (s : State) : UpdO 0x16fbe380 s (execRefDevWindow i n s) := by
  unfold execRefDevWindow
  refine UpdO.next ?_
  refine Upd.step (refDevWindow_upd ..) rfl ?_
  exact Upd.refl _ _

theorem State.w1c_upd (s : State) (a : Nat) (mask : Word) (v : Word) : Upd 0x200 s (State.w1c s a mask v) := by
  unfold State.w1c
  refine Upd.step (State.wr_upd ..) rfl ?_
  exact Upd.refl _ _

theorem clkRootWrite_upd (r : Req) (v : Word) (s : State) : Upd 0x16fbe380 s (clkRootWrite r v s) := by
  unfold clkRootWrite
  extract_lets +onlyGivenNames x1
  refine cut (P := Upd 0x16fbe380 s x1) ?_ (fun h2 => ?_)
  · unfold x1
    refine Upd.step (State.w1c_upd ..) rfl ?_
    exact Upd.refl _ _
  clear_value x1
  extract_lets +onlyGivenNames x3
  clear_value x3
  extract_lets +onlyGivenNames x4
  clear_value x4
  refine Upd.ite ?_ ?_
  · exact h2
  · refine Upd.ite ?_ ?_
    · refine Upd.step (State.setF_upd ..) rfl ?_
      exact h2
    · refine Upd.ite ?_ ?_
      · refine Upd.step (State.setF_upd ..) rfl ?_
        exact h2
      · refine Upd.ite ?_ ?_
        · refine Upd.step (State.fallback_upd ..) rfl ?_
          exact h2
        · refine Upd.step (State.setF_upd ..) rfl ?_
          refine Upd.step (State.wf_upd ..) rfl ?_
          exact h2

theorem execClkRootWrite_upd (r : Req) (v : Word) (s : State) : UpdO 0x16fbe380 s (execClkRootWrite r v s) := by
  unfold execClkRootWrite
  refine UpdO.next ?_
  refine Upd.gated _ _ _ rfl ?_ (fun y1 h2 => ?_)
  · exact Upd.refl _ _
  · refine Upd.step (clkRootWrite_upd ..) rfl ?_
    exact h2

theorem clockSwitchDone_upd (s : State) : Upd 0x418300 s (clockSwitchDone s) := by
  unfold clockSwitchDone
  refine Upd.ite ?_ ?_
  · extract_lets +onlyGivenNames x1
    clear_value x1
    extract_lets +onlyGivenNames x2
    refine cut (P := Upd 0x418300 s x2) ?_ (fun h3 => ?_)
    · unfold x2
      refine Upd.step (State.clrF_upd ..) rfl ?_
      refine Upd.step (State.wf_upd ..) rfl ?_
      exact Upd.refl _ _
    clear_value x2
    refine Upd.ite ?_ ?_
    · refine Upd.step (State.stretchAll_upd ..) rfl ?_
      extract_lets +onlyGivenNames x4
      refine cut (P := Upd 0x418300 s x4) ?_ (fun h5 => ?_)
      · unfold x4
        refine Upd.step (State.clrF_upd ..) rfl ?_
        exact h3
      clear_value x4
      refine Upd.step (Upd.set_clk _ _) rfl ?_
      exact h5
    · exact h3
  · exact Upd.refl _ _

theorem execClockSwitchDone_upd (s : State) : UpdO 0x418300 s (execClockSwitchDone s) := by
  unfold execClockSwitchDone
  refine UpdO.next ?_
  refine Upd.step (clockSwitchDone_upd ..) rfl ?_
  exact Upd.refl _ _

theorem execIntFail_upd (s : State) : UpdO 0x400300 s (execIntFail s) := by
  unfold execIntFail
  refine UpdO.next ?_
  refine Upd.ite ?_ ?_
  · refine Upd.step (State.emit_upd ..) rfl ?_
    extract_lets +onlyGivenNames x1
    refine cut (P := Upd 0x400300 s x1) ?_ (fun h2 => ?_)
    · unfold x1
      refine Upd.step (State.setF_upd ..) rfl ?_
      exact Upd.refl _ _
    clear_value x1
    refine Upd.step (Upd.set_clk _ _) rfl ?_
    exact h2
  · exact Upd.refl _ _

theorem State.safeState_upd (s : State) : Upd 0x1500100 s (State.safeState s) := by
  unfold State.safeState
  extract_lets +onlyGivenNames x1
  refine cut (P := Upd 0x1500100 s x1) ?_ (fun h2 => ?_)
  · unfold x1
    refine Upd.foldl ?_ (fun y3 a4 h5 => ?_)
    · exact Upd.refl _ _
    · refine Upd.step (State.setDdr_upd ..) rfl ?_
      exact h5
  clear_value x1
  extract_lets +onlyGivenNames x6
  refine cut (P := Upd 0x1500100 s x6) ?_ (fun h7 => ?_)
  · unfold x6
    refine Upd.foldl ?_ (fun y8 a9 h10 => ?_)
    · exact h2
    · refine Upd.ite ?_ ?_
      · exact h10
      · refine Upd.step (State.sendLane_upd ..) rfl ?_
        exact h10
  clear_value x6
  refine Upd.step (Upd.set_clk _ _) rfl ?_
  exact h7

theorem execRootStop_upd (s : State) : UpdO 0x1500100 s (execRootStop s) := by
  unfold execRootStop
  refine UpdO.next ?_
  refine Upd.step (State.safeState_upd ..) rfl ?_
  exact Upd.refl _ _

theorem clkGateWrite_upd (n : Nat) (v : Word) (s : State) : Upd 0x200 s (clkGateWrite n v s) := by
  unfold clkGateWrite
  extract_lets +onlyGivenNames x1
  clear_value x1
  extract_lets +onlyGivenNames x2
  clear_value x2
  refine Upd.ite ?_ ?_
  · refine Upd.step (State.setF_upd ..) rfl ?_
    refine Upd.ite ?_ ?_
    · exact Upd.refl _ _
    · refine Upd.step (State.wf_upd ..) rfl ?_
      exact Upd.refl _ _
  · refine Upd.ite ?_ ?_
    · refine Upd.step (State.setF_upd ..) rfl ?_
      exact Upd.refl _ _
    · refine Upd.step (State.clrF_upd ..) rfl ?_
      refine Upd.step (State.clrF_upd ..) rfl ?_
      exact Upd.refl _ _

theorem execClkGateWrite_upd (r : Req) (n : Fin 36) (v : Word) (s : State) : UpdO 0x18300 s (execClkGateWrite r n v s) := by
  unfold execClkGateWrite
  refine UpdO.next ?_
  refine Upd.gated _ _ _ rfl ?_ (fun y1 h2 => ?_)
  · exact Upd.refl _ _
  · refine Upd.step (clkGateWrite_upd ..) rfl ?_
    exact h2

theorem execClkGateReady_upd (n : Fin 36) (s : State) : UpdO 0x200 s (execClkGateReady n s) := by
  unfold execClkGateReady
  refine UpdO.next ?_
  refine Upd.step (State.setIf_upd ..) rfl ?_
  exact Upd.refl _ _

theorem clkmonWrite_upd (r : Req) (v : Word) (s : State) : Upd 0x200 s (clkmonWrite r v s) := by
  unfold clkmonWrite
  extract_lets +onlyGivenNames x1
  clear_value x1
  extract_lets +onlyGivenNames x2
  refine cut (P := Upd 0x200 s x2) ?_ (fun h3 => ?_)
  · unfold x2
    refine Upd.step (State.w1c_upd ..) rfl ?_
    exact Upd.refl _ _
  clear_value x2
  refine Upd.ite ?_ ?_
  · exact h3
  · extract_lets +onlyGivenNames x4
    clear_value x4
    extract_lets +onlyGivenNames x5
    clear_value x5
    refine Upd.ite ?_ ?_
    · refine Upd.step (State.wr_upd ..) rfl ?_
      exact h3
    · refine Upd.step (State.setF_upd ..) rfl ?_
      exact h3

theorem execClkmonCtrlWrite_upd (r : Req) (v : Word) (s : State) : UpdO 0x18300 s (execClkmonCtrlWrite r v s) := by
  unfold execClkmonCtrlWrite
  refine UpdO.next ?_
  refine Upd.gated _ _ _ rfl ?_ (fun y1 h2 => ?_)
  · exact Upd.refl _ _
  · refine Upd.step (clkmonWrite_upd ..) rfl ?_
    exact h2

theorem execTtcSyncMeasure_upd (die : Fin 9) (s : State) : UpdO 0x200 s (execTtcSyncMeasure die s) := by
  unfold execTtcSyncMeasure
  extract_lets +onlyGivenNames x1
  clear_value x1
  refine UpdO.next ?_
  refine Upd.ite ?_ ?_
  · exact Upd.refl _ _
  · refine Upd.step (State.wr_upd ..) rfl ?_
    exact Upd.refl _ _

end Sys2Proof.Machine
end

