-- ==== Sys2Proof/Laws/FrameGpio.lean ====
section
/-! SUPPORT. What each operation of Sys2Proof/Machine/Gpio.lean may change: the fields whose bits are set, in the order of State. -/
namespace Sys2Proof.Machine

theorem State.setBank_upd (s : State) (b : Nat) (x : BankSt) : Upd 0x40000000 s (State.setBank s b x) := by
  unfold State.setBank
  refine Upd.step (Upd.set_gpio _ _) rfl ?_
  exact Upd.refl _ _

theorem State.gpioLevels_upd (s : State) (b : Nat) : Upd 0x200 s (State.gpioLevels s b) := by
  unfold State.gpioLevels
  refine Upd.foldl ?_ (fun y1 a2 h3 => ?_)
  · exact Upd.refl _ _
  · extract_lets +onlyGivenNames x4
    clear_value x4
    refine Upd.ite ?_ ?_
    · refine Upd.step (State.setPinBit_upd ..) rfl ?_
      exact h3
    · exact h3

theorem ioPinWrite_upd (b : Nat) (p : Nat) (v : Word) (s : State) : Upd 0x200 s (ioPinWrite b p v s) := by
  unfold ioPinWrite
  refine Upd.ite ?_ ?_
  · refine Upd.step (State.setF_upd ..) rfl ?_
    exact Upd.refl _ _
  · extract_lets +onlyGivenNames x1
    clear_value x1
    extract_lets +onlyGivenNames x2
    clear_value x2
    refine Upd.step (State.gpioLevels_upd ..) rfl ?_
    refine Upd.step (State.wr_upd ..) rfl ?_
    exact Upd.refl _ _

theorem execIoPinWrite_upd (r : Req) (b : Fin 24) (p : Fin 16) (v : Word) (s : State) : UpdO 0x18300 s (execIoPinWrite r b p v s) := by
  unfold execIoPinWrite
  refine UpdO.next ?_
  refine Upd.gated _ _ _ rfl ?_ (fun y1 h2 => ?_)
  · exact Upd.refl _ _
  · refine Upd.step (ioPinWrite_upd ..) rfl ?_
    exact h2

theorem gpioOut_upd (b : Nat) (g : Word → Word) (s : State) : Upd 0x200 s (gpioOut b g s) := by
  unfold gpioOut
  refine Upd.step (State.wr_upd ..) rfl ?_
  exact Upd.refl _ _

theorem gpioSet_upd (b : Nat) (v : Word) (s : State) : Upd 0x200 s (gpioSet b v s) := by
  unfold gpioSet
  refine Upd.step (gpioOut_upd ..) rfl ?_
  exact Upd.refl _ _

theorem gpioClr_upd (b : Nat) (v : Word) (s : State) : Upd 0x200 s (gpioClr b v s) := by
  unfold gpioClr
  refine Upd.step (gpioOut_upd ..) rfl ?_
  exact Upd.refl _ _

theorem gpioTgl_upd (b : Nat) (v : Word) (s : State) : Upd 0x200 s (gpioTgl b v s) := by
  unfold gpioTgl
  refine Upd.step (gpioOut_upd ..) rfl ?_
  exact Upd.refl _ _

theorem execGpioSet_upd (r : Req) (b : Fin 24) (v : Word) (s : State) : UpdO 0x18300 s (execGpioSet r b v s) := by
  unfold execGpioSet
  refine UpdO.next ?_
  refine Upd.gated _ _ _ rfl ?_ (fun y1 h2 => ?_)
  · exact Upd.refl _ _
  · refine Upd.step (gpioSet_upd ..) rfl ?_
    exact h2

theorem execGpioClr_upd (r : Req) (b : Fin 24) (v : Word) (s : State) : UpdO 0x18300 s (execGpioClr r b v s) := by
  unfold execGpioClr
  refine UpdO.next ?_
  refine Upd.gated _ _ _ rfl ?_ (fun y1 h2 => ?_)
  · exact Upd.refl _ _
  · refine Upd.step (gpioClr_upd ..) rfl ?_
    exact h2

theorem execGpioTgl_upd (r : Req) (b : Fin 24) (v : Word) (s : State) : UpdO 0x18300 s (execGpioTgl r b v s) := by
  unfold execGpioTgl
  refine UpdO.next ?_
  refine Upd.gated _ _ _ rfl ?_ (fun y1 h2 => ?_)
  · exact Upd.refl _ _
  · refine Upd.step (gpioTgl_upd ..) rfl ?_
    exact h2

theorem gpioInput_upd (b : Nat) (p : Nat) (v : Bool) (s : State) : Upd 0x200 s (gpioInput b p v s) := by
  unfold gpioInput
  refine Upd.ite ?_ ?_
  · exact Upd.refl _ _
  · extract_lets +onlyGivenNames x1
    clear_value x1
    extract_lets +onlyGivenNames x2
    refine cut (P := Upd 0x200 s x2) ?_ (fun h3 => ?_)
    · unfold x2
      refine Upd.step (State.setPinBit_upd ..) rfl ?_
      refine Upd.step (State.setPinBit_upd ..) rfl ?_
      exact Upd.refl _ _
    clear_value x2
    extract_lets +onlyGivenNames x4
    clear_value x4
    extract_lets +onlyGivenNames x5
    clear_value x5
    refine Upd.step (State.gpioLevels_upd ..) rfl ?_
    refine Upd.ite ?_ ?_
    · refine Upd.step (State.setPinBit_upd ..) rfl ?_
      exact h3
    · exact h3

theorem execGpioInputChange_upd (b : Fin 24) (p : Fin 16) (v : Bool) (s : State) : UpdO 0x200 s (execGpioInputChange b p v s) := by
  unfold execGpioInputChange
  refine UpdO.next ?_
  refine Upd.step (gpioInput_upd ..) rfl ?_
  exact Upd.refl _ _

theorem execTrigInEdge_upd (b : Fin 24) (p : Fin 16) (s : State) : UpdO 0x10000200 s (execTrigInEdge b p s) := by
  unfold execTrigInEdge
  extract_lets +onlyGivenNames x1
  clear_value x1
  extract_lets +onlyGivenNames x2
  clear_value x2
  extract_lets +onlyGivenNames x3
  clear_value x3
  refine UpdO.next ?_
  refine Upd.ite ?_ ?_
  · refine Upd.step (State.xtFireBy_upd ..) rfl ?_
    exact Upd.refl _ _
  · exact Upd.refl _ _

theorem State.trigOut_upd (s : State) (c : Nat) : Upd 0x100 s (State.trigOut s c) := by
  unfold State.trigOut
  refine Upd.foldl ?_ (fun y1 a2 h3 => ?_)
  · exact Upd.refl _ _
  · extract_lets +onlyGivenNames x4
    clear_value x4
    extract_lets +onlyGivenNames x5
    clear_value x5
    refine Upd.ite ?_ ?_
    · refine Upd.step (State.emit_upd ..) rfl ?_
      exact h3
    · exact h3

theorem i2cGo_upd (b : Nat) (v : Word) (s : State) : Upd 0x40000300 s (i2cGo b v s) := by
  unfold i2cGo
  extract_lets +onlyGivenNames x1
  clear_value x1
  refine Upd.ite ?_ ?_
  · exact Upd.refl _ _
  · extract_lets +onlyGivenNames x2
    clear_value x2
    extract_lets +onlyGivenNames x3
    clear_value x3
    refine Upd.ite ?_ ?_
    · refine Upd.step (State.setF_upd ..) rfl ?_
      exact Upd.refl _ _
    · extract_lets +onlyGivenNames x4
      clear_value x4
      refine Upd.step (State.emit_upd ..) rfl ?_
      refine Upd.step (State.setF_upd ..) rfl ?_
      refine Upd.step (State.setBank_upd ..) rfl ?_
      exact Upd.refl _ _

theorem execI2cGo_upd (r : Req) (b : Fin 24) (v : Word) (s : State) : UpdO 0x40018300 s (execI2cGo r b v s) := by
  unfold execI2cGo
  refine UpdO.next ?_
  refine Upd.gated _ _ _ rfl ?_ (fun y1 h2 => ?_)
  · exact Upd.refl _ _
  · refine Upd.step (i2cGo_upd ..) rfl ?_
    exact h2

theorem State.bufByte_upd (s : State) (a : Nat) (i : Nat) (d : Byte) : Upd 0x200 s (State.bufByte s a i d) := by
  unfold State.bufByte
  extract_lets +onlyGivenNames x1
  clear_value x1
  refine Upd.step (State.wr_upd ..) rfl ?_
  exact Upd.refl _ _

theorem State.bufBytes_upd (s : State) (a : Nat) (l : List Byte) : Upd 0x200 s (State.bufBytes s a l) := by
  unfold State.bufBytes
  refine Upd.foldl ?_ (fun y1 a2 h3 => ?_)
  · exact Upd.refl _ _
  · refine Upd.step (State.bufByte_upd ..) rfl ?_
    exact h3

theorem i2cEnd_upd (b : Nat) (f : Option Fld) (n : Nat) (rx : List Byte) (s : State) : Upd 0x40000280 s (i2cEnd b f n rx s) := by
  unfold i2cEnd
  split
  · exact Upd.refl _ _
  · extract_lets +onlyGivenNames x1
    clear_value x1
    extract_lets +onlyGivenNames x2
    clear_value x2
    extract_lets +onlyGivenNames x3
    clear_value x3
    extract_lets +onlyGivenNames x4
    clear_value x4
    extract_lets +onlyGivenNames x5
    refine cut (P := Upd 0x40000280 s x5) ?_ (fun h6 => ?_)
    · unfold x5
      refine Upd.ite ?_ ?_
      · refine UpdP.snd ?_
        refine UpdP.step (State.fresh_upd ..) rfl ?_
        exact Upd.refl _ _
      · exact Upd.refl _ _
    clear_value x5
    extract_lets +onlyGivenNames x7
    clear_value x7
    extract_lets +onlyGivenNames x8
    refine cut (P := Upd 0x40000280 s x8) ?_ (fun h9 => ?_)
    · unfold x8
      refine Upd.step (State.wf_upd ..) rfl ?_
      refine Upd.step (State.clrF_upd ..) rfl ?_
      refine Upd.step (State.setBank_upd ..) rfl ?_
      exact h6
    clear_value x8
    extract_lets +onlyGivenNames x10
    refine cut (P := Upd 0x40000280 s x10) ?_ (fun h11 => ?_)
    · unfold x10
      refine Upd.step (State.bufBytes_upd ..) rfl ?_
      exact h9
    clear_value x10
    extract_lets +onlyGivenNames x12
    refine cut (P := Upd 0x40000280 s x12) ?_ (fun h13 => ?_)
    · unfold x12
      split
      · refine Upd.step (State.setF_upd ..) rfl ?_
        exact h11
      · exact h11
    clear_value x12
    refine Upd.step (State.setF_upd ..) rfl ?_
    exact h13

theorem execI2cDone_upd (b : Fin 24) (e : I2cEnd) (n : Fin 33) (rx : List Byte) (s : State) : UpdO 0x40000280 s (execI2cDone b e n rx s) := by
  unfold execI2cDone
  refine UpdO.next ?_
  split
  · refine Upd.step (i2cEnd_upd ..) rfl ?_
    exact Upd.refl _ _
  · refine Upd.step (i2cEnd_upd ..) rfl ?_
    exact Upd.refl _ _
  · refine Upd.step (i2cEnd_upd ..) rfl ?_
    exact Upd.refl _ _
  · refine Upd.step (i2cEnd_upd ..) rfl ?_
    exact Upd.refl _ _
  · refine Upd.step (i2cEnd_upd ..) rfl ?_
    exact Upd.refl _ _

theorem execI2cStretchTimeout_upd (b : Fin 24) (n : Fin 33) (rx : List Byte) (s : State) : UpdO 0x40000280 s (execI2cStretchTimeout b n rx s) := by
  unfold execI2cStretchTimeout
  refine UpdO.next ?_
  refine Upd.step (i2cEnd_upd ..) rfl ?_
  exact Upd.refl _ _

theorem spiGo_upd (b : Nat) (v : Word) (s : State) : Upd 0x40000300 s (spiGo b v s) := by
  unfold spiGo
  extract_lets +onlyGivenNames x1
  clear_value x1
  extract_lets +onlyGivenNames x2
  clear_value x2
  refine Upd.ite ?_ ?_
  · exact Upd.refl _ _
  · refine Upd.ite ?_ ?_
    · refine Upd.step (State.setF_upd ..) rfl ?_
      exact Upd.refl _ _
    · refine Upd.ite ?_ ?_
      · exact Upd.refl _ _
      · extract_lets +onlyGivenNames x3
        clear_value x3
        refine Upd.step (State.emit_upd ..) rfl ?_
        refine Upd.step (State.setF_upd ..) rfl ?_
        refine Upd.step (State.setBank_upd ..) rfl ?_
        exact Upd.refl _ _

theorem execSpiGo_upd (r : Req) (b : Fin 24) (v : Word) (s : State) : UpdO 0x40018300 s (execSpiGo r b v s) := by
  unfold execSpiGo
  refine UpdO.next ?_
  refine Upd.gated _ _ _ rfl ?_ (fun y1 h2 => ?_)
  · exact Upd.refl _ _
  · refine Upd.step (spiGo_upd ..) rfl ?_
    exact h2

theorem execSpiDone_upd (b : Fin 24) (rx : List Byte) (s : State) : UpdO 0x40000200 s (execSpiDone b rx s) := by
  unfold execSpiDone
  refine UpdO.next ?_
  split
  · exact Upd.refl _ _
  · extract_lets +onlyGivenNames x1
    clear_value x1
    extract_lets +onlyGivenNames x2
    clear_value x2
    extract_lets +onlyGivenNames x3
    refine cut (P := Upd 0x40000200 s x3) ?_ (fun h4 => ?_)
    · unfold x3
      refine Upd.step (State.setBank_upd ..) rfl ?_
      exact Upd.refl _ _
    clear_value x3
    refine Upd.step (State.setF_upd ..) rfl ?_
    refine Upd.step (State.clrF_upd ..) rfl ?_
    refine Upd.step (State.bufBytes_upd ..) rfl ?_
    exact h4

theorem State.setUart_upd (s : State) (b : Nat) (x : BankSt) : Upd 0x40000200 s (State.setUart s b x) := by
  unfold State.setUart
  extract_lets +onlyGivenNames x1
  clear_value x1
  extract_lets +onlyGivenNames x2
  refine cut (P := Upd 0x40000200 s x2) ?_ (fun h3 => ?_)
  · unfold x2
    refine Upd.step (State.wf_upd ..) rfl ?_
    refine Upd.step (State.wf_upd ..) rfl ?_
    refine Upd.step (State.setBank_upd ..) rfl ?_
    exact Upd.refl _ _
  clear_value x2
  refine Upd.step (State.wf_upd ..) rfl ?_
  refine Upd.step (State.wf_upd ..) rfl ?_
  exact h3

theorem uartStart_upd (b : Nat) (s : State) : Upd 0x40000300 s (uartStart b s) := by
  unfold uartStart
  extract_lets +onlyGivenNames x1
  clear_value x1
  extract_lets +onlyGivenNames x2
  clear_value x2
  split
  · refine Upd.ite ?_ ?_
    · refine Upd.step (State.emit_upd ..) rfl ?_
      refine Upd.step (State.setUart_upd ..) rfl ?_
      exact Upd.refl _ _
    · exact Upd.refl _ _
  · exact Upd.refl _ _

theorem uartTx_upd (b : Nat) (v : Word) (s : State) : Upd 0x40000300 s (uartTx b v s) := by
  unfold uartTx
  extract_lets +onlyGivenNames x1
  clear_value x1
  refine Upd.ite ?_ ?_
  · refine Upd.step (State.setF_upd ..) rfl ?_
    exact Upd.refl _ _
  · refine Upd.step (uartStart_upd ..) rfl ?_
    refine Upd.step (State.setUart_upd ..) rfl ?_
    exact Upd.refl _ _

theorem execUartTx_upd (r : Req) (b : Fin 24) (v : Word) (s : State) : UpdO 0x40018300 s (execUartTx r b v s) := by
  unfold execUartTx
  refine UpdO.next ?_
  refine Upd.gated _ _ _ rfl ?_ (fun y1 h2 => ?_)
  · exact Upd.refl _ _
  · refine Upd.step (uartTx_upd ..) rfl ?_
    exact h2

theorem execUartTxByteSent_upd (b : Fin 24) (s : State) : UpdO 0x40000300 s (execUartTxByteSent b s) := by
  unfold execUartTxByteSent
  refine UpdO.next ?_
  refine Upd.ite ?_ ?_
  · refine Upd.step (uartStart_upd ..) rfl ?_
    refine Upd.step (State.setBank_upd ..) rfl ?_
    exact Upd.refl _ _
  · exact Upd.refl _ _

theorem uartRx_upd (b : Nat) (d : Byte) (fe : Bool) (pe : Bool) (brk : Bool) (s : State) : Upd 0x40000200 s (uartRx b d fe pe brk s) := by
  unfold uartRx
  extract_lets +onlyGivenNames x1
  clear_value x1
  extract_lets +onlyGivenNames x2
  clear_value x2
  refine Upd.ite ?_ ?_
  · exact Upd.refl _ _
  · extract_lets +onlyGivenNames x3
    clear_value x3
    extract_lets +onlyGivenNames x4
    refine cut (P := Upd 0x40000200 s x4) ?_ (fun h5 => ?_)
    · unfold x4
      refine Upd.step (State.setIf_upd ..) rfl ?_
      refine Upd.step (State.setIf_upd ..) rfl ?_
      refine Upd.step (State.setIf_upd ..) rfl ?_
      exact Upd.refl _ _
    clear_value x4
    refine Upd.ite ?_ ?_
    · refine Upd.step (State.setF_upd ..) rfl ?_
      exact h5
    · refine Upd.step (State.setUart_upd ..) rfl ?_
      exact h5

theorem execUartRxByte_upd (b : Fin 24) (d : Byte) (frameErr : Bool) (parityErr : Bool) (brk : Bool) (s : State) : UpdO 0x40000200 s (execUartRxByte b d frameErr parityErr brk s) := by
  unfold execUartRxByte
  refine UpdO.next ?_
  refine Upd.step (uartRx_upd ..) rfl ?_
  exact Upd.refl _ _

theorem State.uartPop_upd (s : State) (b : Nat) : UpdP 0x40000200 s (State.uartPop s b) := by
  unfold State.uartPop
  split
  · refine UpdP.mk ?_
    exact Upd.refl _ _
  · refine UpdP.mk ?_
    refine Upd.step (State.setUart_upd ..) rfl ?_
    exact Upd.refl _ _

theorem execUartRx_upd (r : Req) (b : Fin 24) (s : State) : UpdO 0x40018300 s (execUartRx r b s) := by
  unfold execUartRx
  extract_lets +onlyGivenNames x1
  clear_value x1
  refine UpdO.next ?_
  refine Upd.gatedBy _ _ _ rfl ?_ (fun y2 h3 => ?_)
  · exact Upd.refl _ _
  · split
    · rename_i v4 v5 v6 v7
      refine cut (P := Upd 0x40018300 s v6) (UpdP.out ?_ v7) (fun h8 => ?_)
      · refine UpdP.step (State.uartPop_upd ..) rfl ?_
        exact h3
      refine Upd.step (State.answer_upd ..) rfl ?_
      exact h8

theorem execCtsNChange_upd (b : Fin 24) (v : Bool) (s : State) : UpdO 0x40000300 s (execCtsNChange b v s) := by
  unfold execCtsNChange
  refine UpdO.next ?_
  refine Upd.step (uartStart_upd ..) rfl ?_
  refine Upd.step (State.setBank_upd ..) rfl ?_
  exact Upd.refl _ _

end Sys2Proof.Machine
end

