-- ==== Sys2Proof/Laws/FrameCores.lean ====
section
/-! SUPPORT. What each operation of Sys2Proof/Machine/Cores.lean may change: the fields whose bits are set, in the order of State. -/
namespace Sys2Proof.Machine

theorem State.setCore_upd (s : State) (c : Nat) (x : CoreSt) : Upd 0x100000000 s (State.setCore s c x) := by
  unfold State.setCore
  refine Upd.step (Upd.set_cores _ _) rfl ?_
  exact Upd.refl _ _

theorem State.coreHalt_upd (s : State) (c : Nat) (st : Nat) : Upd 0x10000200 s (State.coreHalt s c st) := by
  unfold State.coreHalt
  extract_lets +onlyGivenNames x1
  clear_value x1
  extract_lets +onlyGivenNames x2
  refine cut (P := Upd 0x10000200 s x2) ?_ (fun h3 => ?_)
  · unfold x2
    refine Upd.step (State.wr64_upd ..) rfl ?_
    refine Upd.step (State.wf_upd ..) rfl ?_
    exact Upd.refl _ _
  clear_value x2
  refine Upd.step (State.xtFireMgmt_upd ..) rfl ?_
  exact h3

theorem State.cmnRestart_upd (s : State) (cause : Nat) (core : Nat) : Upd 0x100020280 s (State.cmnRestart s cause core) := by
  unfold State.cmnRestart
  refine Upd.ite ?_ ?_
  · exact Upd.refl _ _
  · refine Upd.ite ?_ ?_
    · refine Upd.step (State.cnt_upd ..) rfl ?_
      exact Upd.refl _ _
    · refine Upd.ite ?_ ?_
      · exact Upd.refl _ _
      · extract_lets +onlyGivenNames x1
        clear_value x1
        extract_lets +onlyGivenNames x2
        clear_value x2
        extract_lets +onlyGivenNames x3
        clear_value x3
        extract_lets +onlyGivenNames x4
        clear_value x4
        extract_lets +onlyGivenNames x5
        clear_value x5
        extract_lets +onlyGivenNames x6
        refine cut (P := Upd 0x100020280 s x6) ?_ (fun h7 => ?_)
        · unfold x6
          refine Upd.step (State.wf_upd ..) rfl ?_
          refine Upd.step (State.wf_upd ..) rfl ?_
          exact Upd.refl _ _
        clear_value x6
        extract_lets +onlyGivenNames x8
        refine cut (P := Upd 0x100020280 s x8) ?_ (fun h9 => ?_)
        · unfold x8
          refine Upd.ite ?_ ?_
          · refine Upd.step (State.wf_upd ..) rfl ?_
            exact h7
          · exact h7
        clear_value x8
        extract_lets +onlyGivenNames x10
        refine cut (P := Upd 0x100020280 s x10) ?_ (fun h11 => ?_)
        · unfold x10
          refine Upd.ite ?_ ?_
          · refine Upd.step (State.wf_upd ..) rfl ?_
            refine Upd.step (State.setF_upd ..) rfl ?_
            exact h9
          · exact h9
        clear_value x10
        extract_lets +onlyGivenNames x12
        clear_value x12
        extract_lets +onlyGivenNames x13
        refine cut (P := Upd 0x100020280 s x13) ?_ (fun h14 => ?_)
        · unfold x13
          refine Upd.step (Upd.set_cores _ _) rfl ?_
          exact h11
        clear_value x13
        extract_lets +onlyGivenNames x15
        refine cut (P := Upd 0x100020280 s x15) ?_ (fun h16 => ?_)
        · unfold x15
          refine Upd.step (State.cnt_upd ..) rfl ?_
          exact h14
        clear_value x15
        extract_lets +onlyGivenNames x17
        refine cut (P := Upd 0x100020280 s x17) ?_ (fun h18 => ?_)
        · unfold x17
          refine Upd.foldl ?_ (fun y19 a20 h21 => ?_)
          · exact h16
          · refine Upd.ite ?_ ?_
            · refine Upd.step (State.wf_upd ..) rfl ?_
              exact h21
            · exact h21
        clear_value x17
        refine Upd.ite ?_ ?_
        · extract_lets +onlyGivenNames x22
          refine cut (P := Upd 0x100020280 s x22) ?_ (fun h23 => ?_)
          · unfold x22
            refine Upd.foldl ?_ (fun y24 a25 h26 => ?_)
            · exact h18
            · refine Upd.step (State.wf_upd ..) rfl ?_
              exact h26
          clear_value x22
          refine Upd.step (State.recordO_upd ..) rfl ?_
          refine Upd.step (State.wf_upd ..) rfl ?_
          exact h23
        · refine Upd.step (State.recordO_upd ..) rfl ?_
          refine Upd.step (State.wf_upd ..) rfl ?_
          exact h18

theorem State.coreTrap_upd (s : State) (c : Nat) (typ : Nat) (pc : DWord) : Upd 0x110020380 s (State.coreTrap s c typ pc) := by
  unfold State.coreTrap
  extract_lets +onlyGivenNames x1
  clear_value x1
  extract_lets +onlyGivenNames x2
  clear_value x2
  refine Upd.ite ?_ ?_
  · extract_lets +onlyGivenNames x3
    refine cut (P := Upd 0x110020380 s x3) ?_ (fun h4 => ?_)
    · unfold x3
      refine Upd.step (State.wf_upd ..) rfl ?_
      refine Upd.step (State.setCore_upd ..) rfl ?_
      exact Upd.refl _ _
    clear_value x3
    refine Upd.step (State.cmnRestart_upd ..) rfl ?_
    refine Upd.step (State.emit_upd ..) rfl ?_
    refine Upd.step (State.coreHalt_upd ..) rfl ?_
    exact h4
  · extract_lets +onlyGivenNames x5
    refine cut (P := Upd 0x110020380 s x5) ?_ (fun h6 => ?_)
    · unfold x5
      refine Upd.step (State.setCore_upd ..) rfl ?_
      exact Upd.refl _ _
    clear_value x5
    refine Upd.step (State.wf_upd ..) rfl ?_
    refine Upd.step (State.setF_upd ..) rfl ?_
    exact h6

theorem winEnter_upd (c : Nat) (pc : DWord) (s : State) : Upd 0x110020380 s (winEnter c pc s) := by
  unfold winEnter
  refine Upd.ite ?_ ?_
  · exact Upd.refl _ _
  · extract_lets +onlyGivenNames x1
    clear_value x1
    extract_lets +onlyGivenNames x2
    clear_value x2
    extract_lets +onlyGivenNames x3
    clear_value x3
    extract_lets +onlyGivenNames x4
    clear_value x4
    refine Upd.ite ?_ ?_
    · refine Upd.step (State.coreTrap_upd ..) rfl ?_
      exact Upd.refl _ _
    · extract_lets +onlyGivenNames x5
      clear_value x5
      refine Upd.step (State.wf_upd ..) rfl ?_
      refine Upd.step (State.setCore_upd ..) rfl ?_
      exact Upd.refl _ _

theorem execWinEnter_upd (c : Fin 4) (pc : DWord) (s : State) : UpdO 0x110020380 s (execWinEnter c pc s) := by
  unfold execWinEnter
  refine UpdO.next ?_
  refine Upd.step (winEnter_upd ..) rfl ?_
  exact Upd.refl _ _

theorem winLeave_upd (c : Nat) (pc : DWord) (s : State) : Upd 0x110020380 s (winLeave c pc s) := by
  unfold winLeave
  refine Upd.ite ?_ ?_
  · exact Upd.refl _ _
  · extract_lets +onlyGivenNames x1
    clear_value x1
    extract_lets +onlyGivenNames x2
    clear_value x2
    refine Upd.ite ?_ ?_
    · refine Upd.step (State.setCore_upd ..) rfl ?_
      exact Upd.refl _ _
    · extract_lets +onlyGivenNames x3
      clear_value x3
      refine Upd.ite ?_ ?_
      · refine Upd.step (State.wf_upd ..) rfl ?_
        refine Upd.step (State.setCore_upd ..) rfl ?_
        exact Upd.refl _ _
      · extract_lets +onlyGivenNames x4
        clear_value x4
        refine Upd.ite ?_ ?_
        · refine Upd.step (State.coreTrap_upd ..) rfl ?_
          exact Upd.refl _ _
        · refine Upd.step (State.wf_upd ..) rfl ?_
          refine Upd.step (State.setCore_upd ..) rfl ?_
          exact Upd.refl _ _

theorem execWinLeave_upd (c : Fin 4) (pc : DWord) (s : State) : UpdO 0x110020380 s (execWinLeave c pc s) := by
  unfold execWinLeave
  refine UpdO.next ?_
  refine Upd.step (winLeave_upd ..) rfl ?_
  exact Upd.refl _ _

theorem execCoreTrap_upd (c : Fin 4) (typ : BitVec 8) (pc : DWord) (s : State) : UpdO 0x110020380 s (execCoreTrap c typ pc s) := by
  unfold execCoreTrap
  extract_lets +onlyGivenNames x1
  clear_value x1
  refine UpdO.next ?_
  refine Upd.ite ?_ ?_
  · exact Upd.refl _ _
  · refine Upd.ite ?_ ?_
    · exact Upd.refl _ _
    · refine Upd.ite ?_ ?_
      · refine Upd.ite ?_ ?_
        · refine Upd.step (State.coreHalt_upd ..) rfl ?_
          refine Upd.step (State.setCore_upd ..) rfl ?_
          exact Upd.refl _ _
        · refine Upd.step (State.cnt_upd ..) rfl ?_
          exact Upd.refl _ _
      · refine Upd.step (State.coreTrap_upd ..) rfl ?_
        exact Upd.refl _ _

theorem trapRet_upd (c : Nat) (s : State) : Upd 0x100000200 s (trapRet c s) := by
  unfold trapRet
  refine Upd.ite ?_ ?_
  · exact Upd.refl _ _
  · extract_lets +onlyGivenNames x1
    clear_value x1
    extract_lets +onlyGivenNames x2
    clear_value x2
    extract_lets +onlyGivenNames x3
    refine cut (P := Upd 0x100000200 s x3) ?_ (fun h4 => ?_)
    · unfold x3
      refine Upd.step (State.setCore_upd ..) rfl ?_
      exact Upd.refl _ _
    clear_value x3
    refine Upd.step (State.wf_upd ..) rfl ?_
    refine Upd.step (State.clrF_upd ..) rfl ?_
    exact h4

theorem execTrapRet_upd (c : Fin 4) (s : State) : UpdO 0x100000200 s (execTrapRet c s) := by
  unfold execTrapRet
  refine UpdO.next ?_
  refine Upd.step (trapRet_upd ..) rfl ?_
  exact Upd.refl _ _

theorem execCoreInterrupt_upd (c : Fin 4) (src : Fin 4) (pc : DWord) (s : State) : UpdO 0x110020380 s (execCoreInterrupt c src pc s) := by
  unfold execCoreInterrupt
  refine UpdO.next ?_
  refine Upd.ite ?_ ?_
  · refine Upd.step (State.coreTrap_upd ..) rfl ?_
    refine Upd.step (State.wf_upd ..) rfl ?_
    exact Upd.refl _ _
  · exact Upd.refl _ _

theorem coreKick_upd (c : Nat) (s : State) : Upd 0x100000000 s (coreKick c s) := by
  unfold coreKick
  refine Upd.step (State.setCore_upd ..) rfl ?_
  exact Upd.refl _ _

theorem execCmnCoreKick_upd (r : Req) (c : Fin 4) (a2 : Word) (s : State) : UpdO 0x100018300 s (execCmnCoreKick r c a2 s) := by
  unfold execCmnCoreKick
  refine UpdO.next ?_
  refine Upd.gated _ _ _ rfl ?_ (fun y1 h2 => ?_)
  · exact Upd.refl _ _
  · refine Upd.step (coreKick_upd ..) rfl ?_
    exact h2

theorem execCoreWdtExpire_upd (c : Fin 4) (s : State) : UpdO 0x100020280 s (execCoreWdtExpire c s) := by
  unfold execCoreWdtExpire
  refine UpdO.next ?_
  refine Upd.ite ?_ ?_
  · refine Upd.step (State.cmnRestart_upd ..) rfl ?_
    exact Upd.refl _ _
  · exact Upd.refl _ _

theorem execHbWdtExpire_upd (s : State) : UpdO 0x100020280 s (execHbWdtExpire s) := by
  unfold execHbWdtExpire
  refine UpdO.next ?_
  refine Upd.ite ?_ ?_
  · refine Upd.step (State.cmnRestart_upd ..) rfl ?_
    exact Upd.refl _ _
  · exact Upd.refl _ _

theorem execReeveWdtExpire_upd (s : State) : UpdO 0x200 s (execReeveWdtExpire s) := by
  unfold execReeveWdtExpire
  refine UpdO.next ?_
  refine Upd.ite ?_ ?_
  · exact Upd.refl _ _
  · refine Upd.step (State.cntF_upd ..) rfl ?_
    refine Upd.step (State.wf_upd ..) rfl ?_
    exact Upd.refl _ _

theorem execReeveRestartDone_upd (s : State) : UpdO 0x20280 s (execReeveRestartDone s) := by
  unfold execReeveRestartDone
  refine UpdO.next ?_
  refine Upd.ite ?_ ?_
  · refine Upd.step (State.recordO_upd ..) rfl ?_
    refine Upd.step (State.wf_upd ..) rfl ?_
    exact Upd.refl _ _
  · exact Upd.refl _ _

theorem State.dbgCoreHalt_upd (s : State) (c : Nat) : Upd 0x10000200 s (State.dbgCoreHalt s c) := by
  unfold State.dbgCoreHalt
  refine Upd.ite ?_ ?_
  · refine Upd.step (State.coreHalt_upd ..) rfl ?_
    exact Upd.refl _ _
  · exact Upd.refl _ _

theorem State.dbgCoreRun_upd (s : State) (c : Nat) : Upd 0x102000200 s (State.dbgCoreRun s c) := by
  unfold State.dbgCoreRun
  refine Upd.ite ?_ ?_
  · exact Upd.refl _ _
  · extract_lets +onlyGivenNames x1
    clear_value x1
    extract_lets +onlyGivenNames x2
    refine cut (P := Upd 0x102000200 s x2) ?_ (fun h3 => ?_)
    · unfold x2
      refine Upd.step (State.setCore_upd ..) rfl ?_
      refine Upd.step (State.wf_upd ..) rfl ?_
      exact Upd.refl _ _
    clear_value x2
    refine Upd.ite ?_ ?_
    · extract_lets +onlyGivenNames x4
      refine cut (P := Upd 0x102000200 s x4) ?_ (fun h5 => ?_)
      · unfold x4
        refine Upd.step (State.wf_upd ..) rfl ?_
        exact h3
      clear_value x4
      refine Upd.step (Upd.set_host _ _) rfl ?_
      exact h5
    · exact h3

theorem State.dbgCoreStep_upd (s : State) (c : Nat) : Upd 0x100000280 s (State.dbgCoreStep s c) := by
  unfold State.dbgCoreStep
  refine Upd.ite ?_ ?_
  · exact Upd.refl _ _
  · split
    · rename_i v1 v2 v3 v4
      refine cut (P := Upd 0x100000280 s v3) (UpdP.out ?_ v4) (fun h5 => ?_)
      · refine UpdP.step (State.fresh_upd ..) rfl ?_
        exact Upd.refl _ _
      extract_lets +onlyGivenNames x6
      clear_value x6
      refine Upd.step (State.wr64_upd ..) rfl ?_
      refine Upd.step (State.setCore_upd ..) rfl ?_
      exact h5

theorem coreCmd_upd (v : Word) (s : State) : Upd 0x112000280 s (coreCmd v s) := by
  unfold coreCmd
  refine Upd.foldl ?_ (fun y1 a2 h3 => ?_)
  · exact Upd.refl _ _
  · refine Upd.ite ?_ ?_
    · refine Upd.step (State.dbgCoreHalt_upd ..) rfl ?_
      exact h3
    · refine Upd.ite ?_ ?_
      · refine Upd.step (State.dbgCoreRun_upd ..) rfl ?_
        exact h3
      · refine Upd.ite ?_ ?_
        · refine Upd.step (State.dbgCoreStep_upd ..) rfl ?_
          exact h3
        · exact h3

theorem execDbgCoreHalt_upd (r : Req) (v : Word) (s : State) : UpdO 0x112018380 s (execDbgCoreHalt r v s) := by
  unfold execDbgCoreHalt
  refine UpdO.next ?_
  refine Upd.gated _ _ _ rfl ?_ (fun y1 h2 => ?_)
  · exact Upd.refl _ _
  · refine Upd.step (coreCmd_upd ..) rfl ?_
    exact h2

theorem execDbgCoreRun_upd (r : Req) (v : Word) (s : State) : UpdO 0x112018380 s (execDbgCoreRun r v s) := by
  unfold execDbgCoreRun
  refine UpdO.next ?_
  refine Upd.gated _ _ _ rfl ?_ (fun y1 h2 => ?_)
  · exact Upd.refl _ _
  · refine Upd.step (coreCmd_upd ..) rfl ?_
    exact h2

theorem execDbgCoreStep_upd (r : Req) (v : Word) (s : State) : UpdO 0x112018380 s (execDbgCoreStep r v s) := by
  unfold execDbgCoreStep
  refine UpdO.next ?_
  refine Upd.gated _ _ _ rfl ?_ (fun y1 h2 => ?_)
  · exact Upd.refl _ _
  · refine Upd.step (coreCmd_upd ..) rfl ?_
    exact h2

theorem State.patchLoad_upd (s : State) (level : Nat) (l : List PatchEnt) (ram : List (BitVec 256)) : Upd 0x100000200 s (State.patchLoad s level l ram) := by
  unfold State.patchLoad
  extract_lets +onlyGivenNames x1
  clear_value x1
  extract_lets +onlyGivenNames x2
  refine cut (P := Upd 0x100000200 s x2) ?_ (fun h3 => ?_)
  · unfold x2
    refine Upd.foldl ?_ (fun y4 a5 h6 => ?_)
    · exact Upd.refl _ _
    · refine Upd.step (State.wr_upd ..) rfl ?_
      exact h6
  clear_value x2
  extract_lets +onlyGivenNames x7
  refine cut (P := Upd 0x100000200 s x7) ?_ (fun h8 => ?_)
  · unfold x7
    refine Upd.step (State.wf_upd ..) rfl ?_
    refine Upd.step (State.wf_upd ..) rfl ?_
    exact h3
  clear_value x7
  refine Upd.step (Upd.set_cores _ _) rfl ?_
  exact h8

end Sys2Proof.Machine
end

