-- ==== Sys2Proof/Laws/FrameParish.lean ====
section
/-! SUPPORT. What each operation of Sys2Proof/Machine/Parish.lean may change: the fields whose bits are set, in the order of State. -/
namespace Sys2Proof.Machine

theorem parInGo_upd (m : Nat) (v : Word) (s : State) : Upd 0x20200 s (parInGo m v s) := by
  unfold parInGo
  refine Upd.ite ?_ ?_
  · exact Upd.refl _ _
  · extract_lets +onlyGivenNames x1
    clear_value x1
    refine Upd.step (State.record_upd ..) rfl ?_
    exact Upd.refl _ _

theorem execParInGo_upd (r : Req) (m : Fin 5) (v : Word) (s : State) : UpdO 0x38300 s (execParInGo r m v s) := by
  unfold execParInGo
  refine UpdO.next ?_
  refine Upd.gated _ _ _ rfl ?_ (fun y1 h2 => ?_)
  · exact Upd.refl _ _
  · refine Upd.step (parInGo_upd ..) rfl ?_
    exact h2

theorem State.eraseBlock_upd (s : State) (b : Nat) : Upd 0x20200 s (State.eraseBlock s b) := by
  unfold State.eraseBlock
  extract_lets +onlyGivenNames x1
  clear_value x1
  extract_lets +onlyGivenNames x2
  clear_value x2
  extract_lets +onlyGivenNames x3
  clear_value x3
  extract_lets +onlyGivenNames x4
  clear_value x4
  extract_lets +onlyGivenNames x5
  refine cut (P := Upd 0x20200 s x5) ?_ (fun h6 => ?_)
  · unfold x5
    refine Upd.step (Upd.set_par _ _) rfl ?_
    exact Upd.refl _ _
  clear_value x5
  refine Upd.ite ?_ ?_
  · exact h6
  · refine Upd.step (State.setF_upd ..) rfl ?_
    refine Upd.step (State.cnt_upd ..) rfl ?_
    exact h6

theorem State.putSlot_upd (s : State) (r : PRec) : Upd 0x20000 s (State.putSlot s r) := by
  unfold State.putSlot
  refine Upd.step (Upd.set_par _ _) rfl ?_
  exact Upd.refl _ _

theorem flushRec_upd (s : State) (r : PRec) : Upd 0x20200 s (flushRec s r) := by
  unfold flushRec
  extract_lets +onlyGivenNames x1
  clear_value x1
  extract_lets +onlyGivenNames x2
  refine cut (P := Upd 0x20200 s x2) ?_ (fun h3 => ?_)
  · unfold x2
    refine Upd.step (State.eraseBlock_upd ..) rfl ?_
    exact Upd.refl _ _
  clear_value x2
  extract_lets +onlyGivenNames x4
  clear_value x4
  extract_lets +onlyGivenNames x5
  refine cut (P := Upd 0x20200 s x5) ?_ (fun h6 => ?_)
  · unfold x5
    refine Upd.ite ?_ ?_
    · refine Upd.step (State.wf_upd ..) rfl ?_
      exact h3
    · exact h3
  clear_value x5
  extract_lets +onlyGivenNames x7
  clear_value x7
  extract_lets +onlyGivenNames x8
  refine cut (P := Upd 0x20200 s x8) ?_ (fun h9 => ?_)
  · unfold x8
    refine Upd.ite ?_ ?_
    · refine Upd.step (State.putSlot_upd ..) rfl ?_
      exact h6
    · exact Upd.refl _ _
  clear_value x8
  refine Upd.step (State.wf_upd ..) rfl ?_
  refine Upd.step (State.putSlot_upd ..) rfl ?_
  exact h9

theorem State.flush_upd (s : State) (fail : Bool) : Upd 0x20200 s (State.flush s fail) := by
  unfold State.flush
  refine Upd.ite ?_ ?_
  · exact Upd.refl _ _
  · refine Upd.ite ?_ ?_
    · refine Upd.step (State.setF_upd ..) rfl ?_
      exact Upd.refl _ _
    · extract_lets +onlyGivenNames x1
      clear_value x1
      extract_lets +onlyGivenNames x2
      refine cut (P := Upd 0x20200 s x2) ?_ (fun h3 => ?_)
      · unfold x2
        refine Upd.ite ?_ ?_
        · refine Upd.foldl ?_ (fun y4 a5 h6 => ?_)
          · exact Upd.refl _ _
          · refine Upd.step (flushRec_upd ..) rfl ?_
            exact h6
        · exact Upd.refl _ _
      clear_value x2
      refine Upd.step (State.wf_upd ..) rfl ?_
      refine Upd.step (Upd.set_par _ _) rfl ?_
      exact h3

theorem execParishFlush_upd (fail : Bool) (s : State) : UpdO 0x20200 s (execParishFlush fail s) := by
  unfold execParishFlush
  refine UpdO.next ?_
  refine Upd.step (State.flush_upd ..) rfl ?_
  exact Upd.refl _ _

theorem renumber_upd (s : State) (l : List PRec) : Upd 0x20200 s (renumber s l) := by
  unfold renumber
  refine Upd.foldl ?_ (fun y1 a2 h3 => ?_)
  · exact Upd.refl _ _
  · extract_lets +onlyGivenNames x4
    clear_value x4
    refine Upd.step (State.wf_upd ..) rfl ?_
    refine Upd.step (Upd.set_par _ _) rfl ?_
    exact h3

theorem parishScan_upd (s : State) : Upd 0x20200 s (parishScan s) := by
  unfold parishScan
  refine Upd.ite ?_ ?_
  · refine Upd.step (State.setF_upd ..) rfl ?_
    exact Upd.refl _ _
  · extract_lets +onlyGivenNames x1
    clear_value x1
    extract_lets +onlyGivenNames x2
    clear_value x2
    extract_lets +onlyGivenNames x3
    refine cut (P := Upd 0x20200 s x3) ?_ (fun h4 => ?_)
    · unfold x3
      split
      · refine Upd.step (Upd.set_par _ _) rfl ?_
        exact Upd.refl _ _
      · extract_lets +onlyGivenNames x5
        clear_value x5
        split
        · extract_lets +onlyGivenNames x6
          clear_value x6
          extract_lets +onlyGivenNames x7
          clear_value x7
          extract_lets +onlyGivenNames x8
          refine cut (P := Upd 0x20200 s x8) ?_ (fun h9 => ?_)
          · unfold x8
            refine Upd.step (State.wf_upd ..) rfl ?_
            refine Upd.step (State.wf_upd ..) rfl ?_
            refine Upd.step (State.wf_upd ..) rfl ?_
            exact Upd.refl _ _
          clear_value x8
          extract_lets +onlyGivenNames x10
          refine cut (P := Upd 0x20200 s x10) ?_ (fun h11 => ?_)
          · unfold x10
            refine Upd.ite ?_ ?_
            · exact h9
            · refine Upd.step (State.setF_upd ..) rfl ?_
              refine Upd.step (State.cnt_upd ..) rfl ?_
              exact h9
          clear_value x10
          refine Upd.step (Upd.set_par _ _) rfl ?_
          exact h11
    clear_value x3
    refine Upd.step (renumber_upd ..) rfl ?_
    refine Upd.step (Upd.set_par _ _) rfl ?_
    exact h4

theorem execParishScan_upd (s : State) : UpdO 0x20200 s (execParishScan s) := by
  unfold execParishScan
  refine UpdO.next ?_
  refine Upd.step (parishScan_upd ..) rfl ?_
  exact Upd.refl _ _

theorem State.incSites_upd (s : State) (e : Nat) (sites : Nat) : Upd 0x18300 s (State.incSites s e sites) := by
  unfold State.incSites
  extract_lets +onlyGivenNames x1
  clear_value x1
  extract_lets +onlyGivenNames x2
  clear_value x2
  extract_lets +onlyGivenNames x3
  clear_value x3
  extract_lets +onlyGivenNames x4
  refine cut (P := Upd 0x18300 s x4) ?_ (fun h5 => ?_)
  · unfold x4
    refine Upd.foldl ?_ (fun y6 a7 h8 => ?_)
    · exact Upd.refl _ _
    · refine Upd.ite ?_ ?_
      · refine Upd.step (State.siteStat_upd ..) rfl ?_
        refine Upd.step (State.wf_upd ..) rfl ?_
        refine Upd.step (State.wf_upd ..) rfl ?_
        exact h8
      · exact h8
  clear_value x4
  refine Upd.step (State.wr64_upd ..) rfl ?_
  exact h5

theorem State.incJoin_upd (s : State) (e : Nat) (r : Report) : Upd 0x38300 s (State.incJoin s e r) := by
  unfold State.incJoin
  extract_lets +onlyGivenNames x1
  clear_value x1
  extract_lets +onlyGivenNames x2
  refine cut (P := Upd 0x38300 s x2) ?_ (fun h3 => ?_)
  · unfold x2
    refine Upd.step (State.cnt_upd ..) rfl ?_
    exact Upd.refl _ _
  clear_value x2
  extract_lets +onlyGivenNames x4
  refine cut (P := Upd 0x38300 s x4) ?_ (fun h5 => ?_)
  · unfold x4
    refine Upd.step (State.wf_upd ..) rfl ?_
    exact h3
  clear_value x4
  extract_lets +onlyGivenNames x6
  clear_value x6
  extract_lets +onlyGivenNames x7
  clear_value x7
  extract_lets +onlyGivenNames x8
  refine cut (P := Upd 0x38300 s x8) ?_ (fun h9 => ?_)
  · unfold x8
    refine Upd.step (Upd.set_par _ _) rfl ?_
    exact h5
  clear_value x8
  refine Upd.step (State.incSites_upd ..) rfl ?_
  exact h9

theorem State.incOpenNew_upd (s : State) (e : Nat) (key : Nat) (r : Report) : Upd 0x38300 s (State.incOpenNew s e key r) := by
  unfold State.incOpenNew
  extract_lets +onlyGivenNames x1
  clear_value x1
  extract_lets +onlyGivenNames x2
  clear_value x2
  extract_lets +onlyGivenNames x3
  refine cut (P := Upd 0x38300 s x3) ?_ (fun h4 => ?_)
  · unfold x3
    refine Upd.step (State.wr_upd ..) rfl ?_
    exact Upd.refl _ _
  clear_value x3
  extract_lets +onlyGivenNames x5
  refine cut (P := Upd 0x38300 s x5) ?_ (fun h6 => ?_)
  · unfold x5
    refine Upd.step (State.wr_upd ..) rfl ?_
    exact h4
  clear_value x5
  extract_lets +onlyGivenNames x7
  refine cut (P := Upd 0x38300 s x7) ?_ (fun h8 => ?_)
  · unfold x7
    refine Upd.step (State.wr_upd ..) rfl ?_
    exact h6
  clear_value x7
  extract_lets +onlyGivenNames x9
  refine cut (P := Upd 0x38300 s x9) ?_ (fun h10 => ?_)
  · unfold x9
    refine Upd.step (State.wr64_upd ..) rfl ?_
    refine Upd.step (State.wr64_upd ..) rfl ?_
    exact h8
  clear_value x9
  extract_lets +onlyGivenNames x11
  clear_value x11
  extract_lets +onlyGivenNames x12
  refine cut (P := Upd 0x38300 s x12) ?_ (fun h13 => ?_)
  · unfold x12
    refine Upd.step (Upd.set_par _ _) rfl ?_
    exact h10
  clear_value x12
  refine Upd.step (State.pf0Raise_upd ..) rfl ?_
  refine Upd.step (State.incSites_upd ..) rfl ?_
  exact h13

theorem State.fcReport_upd (s : State) (r : Report) : Upd 0x38300 s (State.fcReport s r) := by
  unfold State.fcReport
  split
  · refine Upd.step (State.incJoin_upd ..) rfl ?_
    exact Upd.refl _ _
  · split
    · refine Upd.step (State.incOpenNew_upd ..) rfl ?_
      exact Upd.refl _ _
    · extract_lets +onlyGivenNames x1
      refine cut (P := Upd 0x38300 s x1) ?_ (fun h2 => ?_)
      · unfold x1
        refine Upd.step (State.setF_upd ..) rfl ?_
        exact Upd.refl _ _
      clear_value x1
      refine Upd.ite ?_ ?_
      · refine Upd.step (State.incJoin_upd ..) rfl ?_
        exact h2
      · refine Upd.step (State.incOpenNew_upd ..) rfl ?_
        exact h2

theorem execFcReport_upd (s : State) : UpdO 0x38300 s (execFcReport s) := by
  unfold execFcReport
  split
  · refine UpdO.next ?_
    exact Upd.refl _ _
  · refine UpdO.next ?_
    refine Upd.step (State.fcReport_upd ..) rfl ?_
    refine Upd.step (Upd.set_par _ _) rfl ?_
    exact Upd.refl _ _

theorem State.incClose_upd (s : State) (e : Nat) : Upd 0x20200 s (State.incClose s e) := by
  unfold State.incClose
  refine Upd.ite ?_ ?_
  · exact Upd.refl _ _
  · extract_lets +onlyGivenNames x1
    clear_value x1
    extract_lets +onlyGivenNames x2
    refine cut (P := Upd 0x20200 s x2) ?_ (fun h3 => ?_)
    · unfold x2
      refine Upd.step (State.clrF_upd ..) rfl ?_
      exact Upd.refl _ _
    clear_value x2
    extract_lets +onlyGivenNames x4
    clear_value x4
    extract_lets +onlyGivenNames x5
    clear_value x5
    extract_lets +onlyGivenNames x6
    clear_value x6
    extract_lets +onlyGivenNames x7
    refine cut (P := Upd 0x20200 s x7) ?_ (fun h8 => ?_)
    · unfold x7
      refine Upd.step (State.stage_upd ..) rfl ?_
      exact h3
    clear_value x7
    extract_lets +onlyGivenNames x9
    clear_value x9
    refine Upd.step (State.wf_upd ..) rfl ?_
    exact h8

theorem execIncidentClose_upd (e : Fin 64) (s : State) : UpdO 0x20200 s (execIncidentClose e s) := by
  unfold execIncidentClose
  refine UpdO.next ?_
  refine Upd.step (State.incClose_upd ..) rfl ?_
  exact Upd.refl _ _

theorem fcAck_upd (v : Word) (s : State) : Upd 0x200 s (fcAck v s) := by
  unfold fcAck
  extract_lets +onlyGivenNames x1
  clear_value x1
  refine Upd.ite ?_ ?_
  · refine Upd.step (State.setF_upd ..) rfl ?_
    exact Upd.refl _ _
  · exact Upd.refl _ _

theorem execFcAck_upd (r : Req) (v : Word) (s : State) : UpdO 0x18300 s (execFcAck r v s) := by
  unfold execFcAck
  refine UpdO.next ?_
  refine Upd.gated _ _ _ rfl ?_ (fun y1 h2 => ?_)
  · exact Upd.refl _ _
  · refine Upd.step (fcAck_upd ..) rfl ?_
    exact h2

end Sys2Proof.Machine
end

