-- ==== Sys2Proof/Laws/FrameSecurity.lean ====
section
/-! SUPPORT. What each operation of Sys2Proof/Machine/Security.lean may change: the fields whose bits are set, in the order of State. -/
namespace Sys2Proof.Machine

theorem State.lcLoad_upd (s : State) (st : Nat) : Upd 0x200 s (State.lcLoad s st) := by
  unfold State.lcLoad
  extract_lets +onlyGivenNames x1
  clear_value x1
  extract_lets +onlyGivenNames x2
  clear_value x2
  refine Upd.step (State.wr_upd ..) rfl ?_
  exact Upd.refl _ _

theorem State.senseFuses_upd (s : State) : Upd 0x8020280 s (State.senseFuses s) := by
  unfold State.senseFuses
  extract_lets +onlyGivenNames x1
  clear_value x1
  extract_lets +onlyGivenNames x2
  clear_value x2
  extract_lets +onlyGivenNames x3
  clear_value x3
  extract_lets +onlyGivenNames x4
  refine cut (P := Upd 0x8020280 s x4) ?_ (fun h5 => ?_)
  · unfold x4
    refine Upd.ite ?_ ?_
    · exact Upd.refl _ _
    · refine Upd.step (Upd.set_sec _ _) rfl ?_
      exact Upd.refl _ _
  clear_value x4
  extract_lets +onlyGivenNames x6
  refine cut (P := Upd 0x8020280 s x6) ?_ (fun h7 => ?_)
  · unfold x6
    refine Upd.step (State.lcLoad_upd ..) rfl ?_
    exact h5
  clear_value x6
  extract_lets +onlyGivenNames x8
  refine cut (P := Upd 0x8020280 s x8) ?_ (fun h9 => ?_)
  · unfold x8
    refine Upd.step (State.wf_upd ..) rfl ?_
    refine Upd.step (State.wf_upd ..) rfl ?_
    exact h7
  clear_value x8
  extract_lets +onlyGivenNames x10
  refine cut (P := Upd 0x8020280 s x10) ?_ (fun h11 => ?_)
  · unfold x10
    refine Upd.ite ?_ ?_
    · refine Upd.step (State.setF_upd ..) rfl ?_
      refine Upd.step (State.setF_upd ..) rfl ?_
      exact h9
    · exact h9
  clear_value x10
  extract_lets +onlyGivenNames x12
  refine cut (P := Upd 0x8020280 s x12) ?_ (fun h13 => ?_)
  · unfold x12
    refine Upd.ite ?_ ?_
    · exact h11
    · refine Upd.step (State.recordO_upd ..) rfl ?_
      exact h11
  clear_value x12
  refine Upd.foldl ?_ (fun y14 a15 h16 => ?_)
  · exact h13
  · refine Upd.ite ?_ ?_
    · refine Upd.step (State.recordO_upd ..) rfl ?_
      exact h16
    · exact h16

theorem State.lcTorn_upd (s : State) : Upd 0x8000000 s (State.lcTorn s) := by
  unfold State.lcTorn
  split
  · exact Upd.refl _ _
  · refine Upd.step (Upd.set_sec _ _) rfl ?_
    exact Upd.refl _ _

theorem State.sessionBase_upd (s : State) : Upd 0x200 s (State.sessionBase s) := by
  unfold State.sessionBase
  extract_lets +onlyGivenNames x1
  clear_value x1
  refine Upd.step (State.wf_upd ..) rfl ?_
  refine Upd.step (State.wf_upd ..) rfl ?_
  refine Upd.step (State.wf_upd ..) rfl ?_
  exact Upd.refl _ _

theorem State.zeroise_upd (s : State) : Upd 0x8000200 s (State.zeroise s) := by
  unfold State.zeroise
  extract_lets +onlyGivenNames x1
  clear_value x1
  extract_lets +onlyGivenNames x2
  refine cut (P := Upd 0x8000200 s x2) ?_ (fun h3 => ?_)
  · unfold x2
    refine Upd.step (Upd.set_sec _ _) rfl ?_
    exact Upd.refl _ _
  clear_value x2
  refine Upd.step (State.clrF_upd ..) rfl ?_
  refine Upd.step (State.clrF_upd ..) rfl ?_
  exact h3

theorem State.encOffAll_upd (s : State) : Upd 0x1000200 s (State.encOffAll s) := by
  unfold State.encOffAll
  refine Upd.foldl ?_ (fun y1 a2 h3 => ?_)
  · exact Upd.refl _ _
  · refine Upd.ite ?_ ?_
    · exact h3
    · refine Upd.step (State.encOff_upd ..) rfl ?_
      exact h3

theorem State.bkLog_upd (s : State) (cause : Nat) : Upd 0x200 s (State.bkLog s cause) := by
  unfold State.bkLog
  extract_lets +onlyGivenNames x1
  clear_value x1
  refine Upd.ite ?_ ?_
  · refine Upd.step (State.cntF_upd ..) rfl ?_
    exact Upd.refl _ _
  · extract_lets +onlyGivenNames x2
    refine cut (P := Upd 0x200 s x2) ?_ (fun h3 => ?_)
    · unfold x2
      refine Upd.step (State.wr_upd ..) rfl ?_
      exact Upd.refl _ _
    clear_value x2
    extract_lets +onlyGivenNames x4
    refine cut (P := Upd 0x200 s x4) ?_ (fun h5 => ?_)
    · unfold x4
      refine Upd.step (State.wr_upd ..) rfl ?_
      exact h3
    clear_value x4
    refine Upd.step (State.wf_upd ..) rfl ?_
    exact h5

theorem State.bkAlarm_upd (s : State) (cause : Nat) (all : Bool) : Upd 0x9020200 s (State.bkAlarm s cause all) := by
  unfold State.bkAlarm
  extract_lets +onlyGivenNames x1
  refine cut (P := Upd 0x9020200 s x1) ?_ (fun h2 => ?_)
  · unfold x1
    refine Upd.step (State.bkLog_upd ..) rfl ?_
    refine Upd.step (State.zeroise_upd ..) rfl ?_
    exact Upd.refl _ _
  clear_value x1
  refine Upd.ite ?_ ?_
  · exact h2
  · extract_lets +onlyGivenNames x3
    refine cut (P := Upd 0x9020200 s x3) ?_ (fun h4 => ?_)
    · unfold x3
      refine Upd.step (State.stage_upd ..) rfl ?_
      exact h2
    clear_value x3
    extract_lets +onlyGivenNames x5
    refine cut (P := Upd 0x9020200 s x5) ?_ (fun h6 => ?_)
    · unfold x5
      refine Upd.step (State.report_upd ..) rfl ?_
      refine Upd.step (State.setF_upd ..) rfl ?_
      exact h4
    clear_value x5
    refine Upd.ite ?_ ?_
    · refine Upd.step (State.encOffAll_upd ..) rfl ?_
      exact h6
    · exact h6

theorem execTamperAlarm_upd (i : Fin 2) (s : State) : UpdO 0x9020200 s (execTamperAlarm i s) := by
  unfold execTamperAlarm
  extract_lets +onlyGivenNames x1
  clear_value x1
  refine UpdO.next ?_
  refine Upd.ite ?_ ?_
  · refine Upd.step (State.bkAlarm_upd ..) rfl ?_
    exact Upd.refl _ _
  · exact Upd.refl _ _

theorem execVbatLow_upd (s : State) : UpdO 0x9020200 s (execVbatLow s) := by
  unfold execVbatLow
  refine UpdO.next ?_
  refine Upd.step (State.bkAlarm_upd ..) rfl ?_
  refine Upd.step (State.clrF_upd ..) rfl ?_
  exact Upd.refl _ _

theorem execOscStop_upd (s : State) : UpdO 0x9020200 s (execOscStop s) := by
  unfold execOscStop
  refine UpdO.next ?_
  refine Upd.step (State.bkAlarm_upd ..) rfl ?_
  refine Upd.step (State.clrF_upd ..) rfl ?_
  exact Upd.refl _ _

theorem execBackupDomainReset_upd (s : State) : UpdO 0x8000e40 s (execBackupDomainReset s) := by
  unfold execBackupDomainReset
  extract_lets +onlyGivenNames x1
  refine cut (P := Upd 0x8000e40 s x1) ?_ (fun h2 => ?_)
  · unfold x1
    refine Upd.step (State.zeroise_upd ..) rfl ?_
    exact Upd.refl _ _
  clear_value x1
  extract_lets +onlyGivenNames x3
  refine cut (P := Upd 0x8000e40 s x3) ?_ (fun h4 => ?_)
  · unfold x3
    refine Upd.step (State.regsLost_upd ..) rfl ?_
    exact h2
  clear_value x3
  refine UpdO.next ?_
  refine Upd.step (Upd.set_rtc_sec _ _ _) rfl ?_
  exact h4

theorem bkLogClr_upd (v : Word) (s : State) : Upd 0x200 s (bkLogClr v s) := by
  unfold bkLogClr
  refine Upd.ite ?_ ?_
  · refine Upd.step (Upd.set_regs _ _ ?_) rfl ?_
    · exact fun h => tabWf_tabKeep _ h
    · exact Upd.refl _ _
  · exact Upd.refl _ _

theorem execBkLogClr_upd (r : Req) (v : Word) (s : State) : UpdO 0x18300 s (execBkLogClr r v s) := by
  unfold execBkLogClr
  refine UpdO.next ?_
  refine Upd.gated _ _ _ rfl ?_ (fun y1 h2 => ?_)
  · exact Upd.refl _ _
  · refine Upd.step (bkLogClr_upd ..) rfl ?_
    exact h2

theorem rtcSetCmd_upd (v : Word) (s : State) : Upd 0x8000000 s (rtcSetCmd v s) := by
  unfold rtcSetCmd
  refine Upd.ite ?_ ?_
  · refine Upd.step (Upd.set_sec _ _) rfl ?_
    exact Upd.refl _ _
  · exact Upd.refl _ _

theorem execBkRtcSet_upd (r : Req) (v : Word) (s : State) : UpdO 0x8018300 s (execBkRtcSet r v s) := by
  unfold execBkRtcSet
  refine UpdO.next ?_
  refine Upd.gated _ _ _ rfl ?_ (fun y1 h2 => ?_)
  · exact Upd.refl _ _
  · refine Upd.step (rtcSetCmd_upd ..) rfl ?_
    exact h2

theorem State.rtcLoad_upd (s : State) : Upd 0x80202c0 s (State.rtcLoad s) := by
  unfold State.rtcLoad
  extract_lets +onlyGivenNames x1
  clear_value x1
  extract_lets +onlyGivenNames x2
  clear_value x2
  extract_lets +onlyGivenNames x3
  clear_value x3
  extract_lets +onlyGivenNames x4
  clear_value x4
  extract_lets +onlyGivenNames x5
  refine cut (P := Upd 0x80202c0 s x5) ?_ (fun h6 => ?_)
  · unfold x5
    refine Upd.step (Upd.set_rtc_sec _ _ _) rfl ?_
    exact Upd.refl _ _
  clear_value x5
  refine Upd.step (State.recordO_upd ..) rfl ?_
  refine Upd.step (State.setF_upd ..) rfl ?_
  exact h6

theorem drngFail_upd (s : State) : Upd 0x8020280 s (drngFail s) := by
  unfold drngFail
  extract_lets +onlyGivenNames x1
  clear_value x1
  refine Upd.ite ?_ ?_
  · exact Upd.refl _ _
  · extract_lets +onlyGivenNames x2
    clear_value x2
    extract_lets +onlyGivenNames x3
    clear_value x3
    extract_lets +onlyGivenNames x4
    refine cut (P := Upd 0x8020280 s x4) ?_ (fun h5 => ?_)
    · unfold x4
      refine Upd.step (Upd.set_sec _ _) rfl ?_
      exact Upd.refl _ _
    clear_value x4
    extract_lets +onlyGivenNames x6
    refine cut (P := Upd 0x8020280 s x6) ?_ (fun h7 => ?_)
    · unfold x6
      refine Upd.step (State.setF_upd ..) rfl ?_
      refine Upd.step (State.cnt_upd ..) rfl ?_
      exact h5
    clear_value x6
    extract_lets +onlyGivenNames x8
    refine cut (P := Upd 0x8020280 s x8) ?_ (fun h9 => ?_)
    · unfold x8
      refine Upd.step (State.recordO_upd ..) rfl ?_
      exact h7
    clear_value x8
    refine Upd.ite ?_ ?_
    · refine Upd.step (State.recordO_upd ..) rfl ?_
      refine Upd.step (State.setF_upd ..) rfl ?_
      refine Upd.step (State.wf_upd ..) rfl ?_
      exact h9
    · refine Upd.ite ?_ ?_
      · refine Upd.step (State.wf_upd ..) rfl ?_
        exact h9
      · exact h9

theorem encServe_upd (n : Nat) (s : State) : Upd 0x9018380 s (encServe n s) := by
  induction n generalizing s with
  | zero => exact Upd.refl _ _
  | succ n ih =>
    unfold encServe
    split
    · exact Upd.refl _ _
    · refine Upd.step (ih ..) (by rfl) (Upd.step (State.encEnable_upd ..) (by rfl) ?_)
      exact Upd.step (Upd.set_dram _ _ id) (by rfl) (Upd.refl _ _)

theorem State.drngPass_upd (s : State) : Upd 0x8000200 s (State.drngPass s) := by
  unfold State.drngPass
  extract_lets +onlyGivenNames x1
  clear_value x1
  extract_lets +onlyGivenNames x2
  refine cut (P := Upd 0x8000200 s x2) ?_ (fun h3 => ?_)
  · unfold x2
    refine Upd.ite ?_ ?_
    · refine Upd.step (State.drbgStart_upd ..) rfl ?_
      exact Upd.refl _ _
    · exact Upd.refl _ _
  clear_value x2
  refine Upd.ite ?_ ?_
  · refine Upd.step (State.setF_upd ..) rfl ?_
    refine Upd.step (State.wf_upd ..) rfl ?_
    exact h3
  · exact h3

theorem State.drngBits_upd (s : State) : Upd 0x9018380 s (State.drngBits s) := by
  unfold State.drngBits
  extract_lets +onlyGivenNames x1
  refine cut (P := Upd 0x9018380 s x1) ?_ (fun h2 => ?_)
  · unfold x1
    refine Upd.ite ?_ ?_
    · refine Upd.step (State.drngPass_upd ..) rfl ?_
      exact Upd.refl _ _
    · exact Upd.refl _ _
  clear_value x1
  refine Upd.step (encServe_upd ..) rfl ?_
  exact h2

theorem State.drngBit_upd (s : State) (b : Bool) : Upd 0x9038380 s (State.drngBit s b) := by
  unfold State.drngBit
  refine Upd.ite ?_ ?_
  · exact Upd.refl _ _
  · extract_lets +onlyGivenNames x1
    clear_value x1
    extract_lets +onlyGivenNames x2
    clear_value x2
    extract_lets +onlyGivenNames x3
    refine cut (P := Upd 0x9038380 s x3) ?_ (fun h4 => ?_)
    · unfold x3
      refine Upd.step (Upd.set_sec _ _) rfl ?_
      exact Upd.refl _ _
    clear_value x3
    refine Upd.ite ?_ ?_
    · refine Upd.step (drngFail_upd ..) rfl ?_
      exact h4
    · refine Upd.ite ?_ ?_
      · refine Upd.step (State.drngBits_upd ..) rfl ?_
        exact h4
      · exact h4

theorem drngRaw_upd (l : List Bool) (s : State) : Upd 0x9038380 s (drngRaw l s) := by
  unfold drngRaw
  refine Upd.foldl ?_ (fun y1 a2 h3 => ?_)
  · exact Upd.refl _ _
  · refine Upd.step (State.drngBit_upd ..) rfl ?_
    exact h3

theorem execDrngReady_upd (raw : List Bool) (s : State) : UpdO 0x9038380 s (execDrngReady raw s) := by
  unfold execDrngReady
  refine UpdO.next ?_
  refine Upd.step (drngRaw_upd ..) rfl ?_
  exact Upd.refl _ _

theorem execDrngHealthFail_upd (raw : List Bool) (s : State) : UpdO 0x9038380 s (execDrngHealthFail raw s) := by
  unfold execDrngHealthFail
  refine UpdO.next ?_
  refine Upd.step (drngRaw_upd ..) rfl ?_
  exact Upd.refl _ _

theorem State.pkeStart_upd (s : State) (op : Nat) (w : PkeWhy) : Upd 0x8000200 s (State.pkeStart s op w) := by
  unfold State.pkeStart
  refine Upd.step (State.setF_upd ..) rfl ?_
  refine Upd.step (Upd.set_sec _ _) rfl ?_
  exact Upd.refl _ _

theorem State.lcEnd_upd (s : State) (chan : Nat) (st : Nat) (d : Nat) : Upd 0x8000000 s (State.lcEnd s chan st d) := by
  unfold State.lcEnd
  refine Upd.step (Upd.set_sec _ _) rfl ?_
  exact Upd.refl _ _

theorem State.provBlow_upd (s : State) (p : LcProv) : Upd 0x8000200 s (State.provBlow s p) := by
  unfold State.provBlow
  extract_lets +onlyGivenNames x1
  clear_value x1
  extract_lets +onlyGivenNames x2
  extract_lets +onlyGivenNames x3
  clear_value x3
  extract_lets +onlyGivenNames x4
  clear_value x4
  extract_lets +onlyGivenNames x5
  refine cut (P := Upd 0x8000200 s x5) ?_ (fun h6 => ?_)
  · unfold x5
    refine Upd.step (Upd.set_sec _ _) rfl ?_
    exact Upd.refl _ _
  clear_value x5
  refine Upd.step (State.wf_upd ..) rfl ?_
  exact h6

theorem State.lcApply_upd (s : State) (dst : Nat) (chan : Nat) (p : LcProv) : Upd 0x9000200 s (State.lcApply s dst chan p) := by
  unfold State.lcApply
  extract_lets +onlyGivenNames x1
  split
  · refine Upd.ite ?_ ?_
    · refine Upd.step (State.lcEnd_upd ..) rfl ?_
      exact Upd.refl _ _
    · refine Upd.ite ?_ ?_
      · refine Upd.step (State.lcEnd_upd ..) rfl ?_
        refine Upd.step (State.provBlow_upd ..) rfl ?_
        exact Upd.refl _ _
      · unfold x1
        refine Upd.step (Upd.set_sec _ _) rfl ?_
        refine Upd.step (State.provBlow_upd ..) rfl ?_
        exact Upd.refl _ _
  · unfold x1
    refine Upd.step (Upd.set_sec _ _) rfl ?_
    refine Upd.step (State.zeroise_upd ..) rfl ?_
    refine Upd.step (State.encOffAll_upd ..) rfl ?_
    exact Upd.refl _ _
  · unfold x1
    refine Upd.step (Upd.set_sec _ _) rfl ?_
    exact Upd.refl _ _

theorem lcChangeDone_upd (sensed : List (BitVec 8)) (s : State) : Upd 0x8020280 s (lcChangeDone sensed s) := by
  unfold lcChangeDone
  split
  · exact Upd.refl _ _
  · extract_lets +onlyGivenNames x1
    clear_value x1
    extract_lets +onlyGivenNames x2
    clear_value x2
    extract_lets +onlyGivenNames x3
    clear_value x3
    extract_lets +onlyGivenNames x4
    refine cut (P := Upd 0x8020280 s x4) ?_ (fun h5 => ?_)
    · unfold x4
      refine Upd.step (Upd.set_sec _ _) rfl ?_
      exact Upd.refl _ _
    clear_value x4
    extract_lets +onlyGivenNames x6
    refine cut (P := Upd 0x8020280 s x6) ?_ (fun h7 => ?_)
    · unfold x6
      refine Upd.step (State.lcLoad_upd ..) rfl ?_
      exact h5
    clear_value x6
    extract_lets +onlyGivenNames x8
    refine cut (P := Upd 0x8020280 s x8) ?_ (fun h9 => ?_)
    · unfold x8
      refine Upd.foldl ?_ (fun y10 a11 h12 => ?_)
      · exact h7
      · refine Upd.ite ?_ ?_
        · exact h12
        · refine Upd.step (State.recordO_upd ..) rfl ?_
          exact h12
    clear_value x8
    refine Upd.step (State.lcEnd_upd ..) rfl ?_
    refine Upd.step (State.sessionBase_upd ..) rfl ?_
    exact h9

theorem execLifecycleChangeDone_upd (sensed : List (BitVec 8)) (s : State) : UpdO 0x8020280 s (execLifecycleChangeDone sensed s) := by
  unfold execLifecycleChangeDone
  refine UpdO.next ?_
  refine Upd.step (lcChangeDone_upd ..) rfl ?_
  exact Upd.refl _ _

end Sys2Proof.Machine
end

