-- ==== Sys2Proof/Laws/FrameDebug.lean ====
section
/-! SUPPORT. What each operation of Sys2Proof/Machine/Debug.lean may change: the fields whose bits are set, in the order of State. -/
namespace Sys2Proof.Machine

theorem execTapInstruction_upd (code : BitVec 8) (s : State) : UpdO 0x10000000 s (execTapInstruction code s) := by
  unfold execTapInstruction
  extract_lets +onlyGivenNames x1
  clear_value x1
  refine UpdO.next ?_
  refine Upd.step (Upd.set_dbg _ _) rfl ?_
  exact Upd.refl _ _

theorem execDebugDomainReset_upd (s : State) : UpdO 0x18000e00 s (execDebugDomainReset s) := by
  unfold execDebugDomainReset
  extract_lets +onlyGivenNames x1
  refine cut (P := Upd 0x18000e00 s x1) ?_ (fun h2 => ?_)
  · unfold x1
    refine Upd.step (State.regsLost_upd ..) rfl ?_
    exact Upd.refl _ _
  clear_value x1
  extract_lets +onlyGivenNames x3
  clear_value x3
  extract_lets +onlyGivenNames x4
  clear_value x4
  extract_lets +onlyGivenNames x5
  refine cut (P := Upd 0x18000e00 s x5) ?_ (fun h6 => ?_)
  · unfold x5
    refine Upd.step (Upd.set_sec_dbg _ _ _) rfl ?_
    exact h2
  clear_value x5
  refine UpdO.next ?_
  refine Upd.step (State.sessionBase_upd ..) rfl ?_
  exact h6

theorem State.authEnd_upd (s : State) (st : Nat) (res : Nat) : Upd 0x200 s (State.authEnd s st res) := by
  unfold State.authEnd
  refine Upd.step (State.wf_upd ..) rfl ?_
  refine Upd.step (State.wf_upd ..) rfl ?_
  exact Upd.refl _ _

theorem State.authFail_upd (s : State) : Upd 0x10000200 s (State.authFail s) := by
  unfold State.authFail
  extract_lets +onlyGivenNames x1
  refine cut (P := Upd 0x10000200 s x1) ?_ (fun h2 => ?_)
  · unfold x1
    refine Upd.step (State.cntF_upd ..) rfl ?_
    refine Upd.step (State.authEnd_upd ..) rfl ?_
    exact Upd.refl _ _
  clear_value x1
  refine Upd.step (Upd.set_dbg _ _) rfl ?_
  exact h2

theorem State.authRefuse_upd (s : State) (res : Nat) : Upd 0x200 s (State.authRefuse s res) := by
  unfold State.authRefuse
  refine Upd.step (State.authEnd_upd ..) rfl ?_
  exact Upd.refl _ _

theorem State.setAuth_upd (s : State) (i : Nat) (n : Nat) (v : Nat) : Upd 0x200 s (State.setAuth s i n v) := by
  unfold State.setAuth
  refine Upd.foldl ?_ (fun y1 a2 h3 => ?_)
  · exact Upd.refl _ _
  · refine Upd.step (State.bufByte_upd ..) rfl ?_
    exact h3

theorem State.authChallenge_upd (s : State) : Upd 0x10000200 s (State.authChallenge s) := by
  unfold State.authChallenge
  refine Upd.ite ?_ ?_
  · refine Upd.step (State.authEnd_upd ..) rfl ?_
    exact Upd.refl _ _
  · refine Upd.ite ?_ ?_
    · refine Upd.step (State.authRefuse_upd ..) rfl ?_
      exact Upd.refl _ _
    · refine Upd.step (State.authEnd_upd ..) rfl ?_
      refine Upd.step (Upd.set_dbg _ _) rfl ?_
      exact Upd.refl _ _

theorem State.authRespond_upd (s : State) (a : AuthIn) : Upd 0x18000200 s (State.authRespond s a) := by
  unfold State.authRespond
  split
  · extract_lets +onlyGivenNames x1
    clear_value x1
    extract_lets +onlyGivenNames x2
    refine cut (P := Upd 0x18000200 s x2) ?_ (fun h3 => ?_)
    · unfold x2
      refine Upd.step (Upd.set_dbg _ _) rfl ?_
      exact Upd.refl _ _
    extract_lets +onlyGivenNames x4
    refine Upd.ite ?_ ?_
    · refine Upd.step (State.pkeStart_upd ..) rfl ?_
      refine Upd.step (State.authEnd_upd ..) rfl ?_
      exact h3
    · refine Upd.step (State.authFail_upd ..) rfl ?_
      exact h3
  · refine Upd.step (State.authRefuse_upd ..) rfl ?_
    exact Upd.refl _ _

theorem State.authPassword_upd (s : State) : Upd 0x10000200 s (State.authPassword s) := by
  unfold State.authPassword
  refine Upd.ite ?_ ?_
  · refine Upd.step (State.authEnd_upd ..) rfl ?_
    exact Upd.refl _ _
  · refine Upd.ite ?_ ?_
    · refine Upd.ite ?_ ?_
      · refine Upd.step (State.authEnd_upd ..) rfl ?_
        refine Upd.step (State.wf_upd ..) rfl ?_
        refine Upd.step (State.wf_upd ..) rfl ?_
        exact Upd.refl _ _
      · refine Upd.step (State.authFail_upd ..) rfl ?_
        exact Upd.refl _ _
    · refine Upd.step (State.authRefuse_upd ..) rfl ?_
      exact Upd.refl _ _

theorem State.authLoadKey_upd (s : State) (a : AuthIn) : Upd 0x18000200 s (State.authLoadKey s a) := by
  unfold State.authLoadKey
  refine Upd.ite ?_ ?_
  · refine Upd.step (State.authRefuse_upd ..) rfl ?_
    exact Upd.refl _ _
  · refine Upd.ite ?_ ?_
    · refine Upd.step (State.authRefuse_upd ..) rfl ?_
      exact Upd.refl _ _
    · refine Upd.ite ?_ ?_
      · refine Upd.step (State.pkeStart_upd ..) rfl ?_
        refine Upd.step (State.authEnd_upd ..) rfl ?_
        exact Upd.refl _ _
      · refine Upd.step (State.authFail_upd ..) rfl ?_
        exact Upd.refl _ _

theorem State.authRecover_upd (s : State) (a : AuthIn) : Upd 0x18000200 s (State.authRecover s a) := by
  unfold State.authRecover
  refine Upd.ite ?_ ?_
  · refine Upd.step (State.authRefuse_upd ..) rfl ?_
    exact Upd.refl _ _
  · extract_lets +onlyGivenNames x1
    clear_value x1
    refine Upd.ite ?_ ?_
    · refine Upd.step (State.pkeStart_upd ..) rfl ?_
      refine Upd.step (State.authEnd_upd ..) rfl ?_
      exact Upd.refl _ _
    · refine Upd.step (State.authFail_upd ..) rfl ?_
      exact Upd.refl _ _

theorem State.authCmd_upd (s : State) (n : Nat) (a : AuthIn) : Upd 0x18000200 s (State.authCmd s n a) := by
  unfold State.authCmd
  extract_lets +onlyGivenNames x1
  clear_value x1
  refine Upd.ite ?_ ?_
  · refine Upd.step (State.sessionBase_upd ..) rfl ?_
    exact Upd.refl _ _
  · refine Upd.ite ?_ ?_
    · exact Upd.refl _ _
    · split
      · refine Upd.step (State.authChallenge_upd ..) rfl ?_
        exact Upd.refl _ _
      · refine Upd.step (State.authRespond_upd ..) rfl ?_
        exact Upd.refl _ _
      · refine Upd.step (State.authPassword_upd ..) rfl ?_
        exact Upd.refl _ _
      · refine Upd.step (State.authLoadKey_upd ..) rfl ?_
        exact Upd.refl _ _
      · refine Upd.step (State.authRecover_upd ..) rfl ?_
        exact Upd.refl _ _
      · exact Upd.refl _ _

theorem execChallenge_upd (s : State) : UpdO 0x18000200 s (execChallenge s) := by
  unfold execChallenge
  refine UpdO.next ?_
  refine Upd.step (State.authCmd_upd ..) rfl ?_
  exact Upd.refl _ _

theorem execRespond_upd (auth : AuthIn) (s : State) : UpdO 0x18000200 s (execRespond auth s) := by
  unfold execRespond
  refine UpdO.next ?_
  refine Upd.step (State.authCmd_upd ..) rfl ?_
  exact Upd.refl _ _

theorem execPassword_upd (s : State) : UpdO 0x18000200 s (execPassword s) := by
  unfold execPassword
  refine UpdO.next ?_
  refine Upd.step (State.authCmd_upd ..) rfl ?_
  exact Upd.refl _ _

theorem execLock_upd (s : State) : UpdO 0x18000200 s (execLock s) := by
  unfold execLock
  refine UpdO.next ?_
  refine Upd.step (State.authCmd_upd ..) rfl ?_
  exact Upd.refl _ _

theorem execLoadBbkey_upd (auth : AuthIn) (s : State) : UpdO 0x18000200 s (execLoadBbkey auth s) := by
  unfold execLoadBbkey
  refine UpdO.next ?_
  refine Upd.step (State.authCmd_upd ..) rfl ?_
  exact Upd.refl _ _

theorem execRecover_upd (auth : AuthIn) (s : State) : UpdO 0x18000200 s (execRecover auth s) := by
  unfold execRecover
  refine UpdO.next ?_
  refine Upd.step (State.authCmd_upd ..) rfl ?_
  exact Upd.refl _ _

theorem challengeReady_upd (s : State) : Upd 0x18000280 s (challengeReady s) := by
  unfold challengeReady
  refine Upd.ite ?_ ?_
  · extract_lets +onlyGivenNames x1
    refine cut (P := UpdP 0x18000280 s x1) ?_ (fun h2 => ?_)
    · unfold x1
      refine UpdP.step (State.draw_upd ..) rfl ?_
      refine Upd.step (State.drbgReseed_upd ..) rfl ?_
      exact Upd.refl _ _
    clear_value x1
    extract_lets +onlyGivenNames x3
    refine cut (P := UpdP 0x18000280 s x3) ?_ (fun h4 => ?_)
    · unfold x3
      refine UpdP.step (State.draw_upd ..) rfl ?_
      exact h2
    clear_value x3
    extract_lets +onlyGivenNames x5
    clear_value x5
    split
    · rename_i v6 v7 v8 v9
      refine cut (P := Upd 0x18000280 s v8) (UpdP.out ?_ v9) (fun h10 => ?_)
      · refine UpdP.step (State.fresh_upd ..) rfl ?_
        exact h4
      extract_lets +onlyGivenNames x11
      refine cut (P := Upd 0x18000280 s x11) ?_ (fun h12 => ?_)
      · unfold x11
        refine Upd.step (State.setAuth_upd ..) rfl ?_
        refine Upd.step (State.setAuth_upd ..) rfl ?_
        refine Upd.step (State.setAuth_upd ..) rfl ?_
        exact h10
      clear_value x11
      extract_lets +onlyGivenNames x13
      refine cut (P := Upd 0x18000280 s x13) ?_ (fun h14 => ?_)
      · unfold x13
        refine Upd.step (State.setAuth_upd ..) rfl ?_
        exact h12
      clear_value x13
      refine Upd.step (State.authEnd_upd ..) rfl ?_
      refine Upd.step (Upd.set_dbg _ _) rfl ?_
      exact h14
  · exact Upd.refl _ _

theorem execChallengeReady_upd (s : State) : UpdO 0x18000280 s (execChallengeReady s) := by
  unfold execChallengeReady
  refine UpdO.next ?_
  refine Upd.step (challengeReady_upd ..) rfl ?_
  exact Upd.refl _ _

theorem execAuthFailWaitEnd_upd (s : State) : UpdO 0x10000200 s (execAuthFailWaitEnd s) := by
  unfold execAuthFailWaitEnd
  extract_lets +onlyGivenNames x1
  clear_value x1
  extract_lets +onlyGivenNames x2
  refine cut (P := Upd 0x10000200 s x2) ?_ (fun h3 => ?_)
  · unfold x2
    refine Upd.step (Upd.set_dbg _ _) rfl ?_
    exact Upd.refl _ _
  clear_value x2
  refine UpdO.next ?_
  refine Upd.ite ?_ ?_
  · refine Upd.step (State.wf_upd ..) rfl ?_
    exact h3
  · exact h3

theorem State.fieldStop_upd (s : State) (f : Nat) (src : Nat) (ch : Nat) : Upd 0x10018300 s (State.fieldStop s f src ch) := by
  unfold State.fieldStop
  extract_lets +onlyGivenNames x1
  clear_value x1
  extract_lets +onlyGivenNames x2
  clear_value x2
  extract_lets +onlyGivenNames x3
  refine cut (P := Upd 0x10018300 s x3) ?_ (fun h4 => ?_)
  · unfold x3
    refine Upd.step (Upd.set_dbg _ _) rfl ?_
    exact Upd.refl _ _
  clear_value x3
  extract_lets +onlyGivenNames x5
  refine cut (P := Upd 0x10018300 s x5) ?_ (fun h6 => ?_)
  · unfold x5
    refine Upd.step (State.setF_upd ..) rfl ?_
    refine Upd.step (State.wf_upd ..) rfl ?_
    refine Upd.step (State.setF_upd ..) rfl ?_
    exact h4
  clear_value x5
  extract_lets +onlyGivenNames x7
  refine cut (P := Upd 0x10018300 s x7) ?_ (fun h8 => ?_)
  · unfold x7
    refine Upd.step (State.wf_upd ..) rfl ?_
    refine Upd.step (State.wf_upd ..) rfl ?_
    exact h6
  clear_value x7
  refine Upd.step (State.ckUpdate_upd ..) rfl ?_
  refine Upd.step (State.wr64_upd ..) rfl ?_
  exact h8

theorem State.fieldHaltReq_upd (s : State) (f : Nat) (src : Nat) (ch : Nat) : Upd 0x10018300 s (State.fieldHaltReq s f src ch) := by
  unfold State.fieldHaltReq
  refine Upd.ite ?_ ?_
  · exact Upd.refl _ _
  · refine Upd.ite ?_ ?_
    · refine Upd.step (State.fieldStop_upd ..) rfl ?_
      exact Upd.refl _ _
    · refine Upd.step (Upd.set_dbg _ _) rfl ?_
      exact Upd.refl _ _

theorem State.fieldRun_upd (s : State) (f : Nat) : Upd 0x18300 s (State.fieldRun s f) := by
  unfold State.fieldRun
  refine Upd.ite ?_ ?_
  · refine Upd.step (State.ckUpdate_upd ..) rfl ?_
    refine Upd.step (State.wf_upd ..) rfl ?_
    refine Upd.step (State.clrF_upd ..) rfl ?_
    exact Upd.refl _ _
  · exact Upd.refl _ _

theorem State.fieldStepN_upd (s : State) (f : Nat) (n : Nat) : Upd 0x10018300 s (State.fieldStepN s f n) := by
  unfold State.fieldStepN
  extract_lets +onlyGivenNames x1
  clear_value x1
  refine Upd.ite ?_ ?_
  · refine Upd.step (State.setF_upd ..) rfl ?_
    exact Upd.refl _ _
  · extract_lets +onlyGivenNames x2
    clear_value x2
    extract_lets +onlyGivenNames x3
    refine cut (P := Upd 0x10018300 s x3) ?_ (fun h4 => ?_)
    · unfold x3
      refine Upd.step (Upd.set_dbg _ _) rfl ?_
      exact Upd.refl _ _
    clear_value x3
    refine Upd.step (State.ckUpdate_upd ..) rfl ?_
    refine Upd.step (State.wf_upd ..) rfl ?_
    refine Upd.step (State.clrF_upd ..) rfl ?_
    exact h4

theorem fldCmd_upd (f : Nat) (v : Word) (s : State) : Upd 0x10018300 s (fldCmd f v s) := by
  unfold fldCmd
  refine Upd.ite ?_ ?_
  · refine Upd.step (State.fieldHaltReq_upd ..) rfl ?_
    exact Upd.refl _ _
  · refine Upd.ite ?_ ?_
    · refine Upd.step (State.fieldRun_upd ..) rfl ?_
      exact Upd.refl _ _
    · refine Upd.ite ?_ ?_
      · refine Upd.step (State.fieldStepN_upd ..) rfl ?_
        exact Upd.refl _ _
      · exact Upd.refl _ _

theorem execDbgFldHalt_upd (r : Req) (f : Fin 128) (v : Word) (s : State) : UpdO 0x10018300 s (execDbgFldHalt r f v s) := by
  unfold execDbgFldHalt
  refine UpdO.next ?_
  refine Upd.gated _ _ _ rfl ?_ (fun y1 h2 => ?_)
  · exact Upd.refl _ _
  · refine Upd.step (fldCmd_upd ..) rfl ?_
    exact h2

theorem execDbgFldRun_upd (r : Req) (f : Fin 128) (v : Word) (s : State) : UpdO 0x10018300 s (execDbgFldRun r f v s) := by
  unfold execDbgFldRun
  refine UpdO.next ?_
  refine Upd.gated _ _ _ rfl ?_ (fun y1 h2 => ?_)
  · exact Upd.refl _ _
  · refine Upd.step (fldCmd_upd ..) rfl ?_
    exact h2

theorem execDbgFldStep_upd (r : Req) (f : Fin 128) (v : Word) (s : State) : UpdO 0x10018300 s (execDbgFldStep r f v s) := by
  unfold execDbgFldStep
  refine UpdO.next ?_
  refine Upd.gated _ _ _ rfl ?_ (fun y1 h2 => ?_)
  · exact Upd.refl _ _
  · refine Upd.step (fldCmd_upd ..) rfl ?_
    exact h2

theorem execFieldHaltStop_upd (f : Fin 128) (s : State) : UpdO 0x10018300 s (execFieldHaltStop f s) := by
  unfold execFieldHaltStop
  refine UpdO.next ?_
  split
  · refine Upd.step (State.fieldStop_upd ..) rfl ?_
    exact Upd.refl _ _
  · exact Upd.refl _ _

theorem execStepDone_upd (f : Fin 128) (s : State) : UpdO 0x10000200 s (execStepDone f s) := by
  unfold execStepDone
  refine UpdO.next ?_
  refine Upd.ite ?_ ?_
  · extract_lets +onlyGivenNames x1
    clear_value x1
    extract_lets +onlyGivenNames x2
    clear_value x2
    extract_lets +onlyGivenNames x3
    refine cut (P := Upd 0x10000200 s x3) ?_ (fun h4 => ?_)
    · unfold x3
      refine Upd.step (Upd.set_dbg _ _) rfl ?_
      exact Upd.refl _ _
    clear_value x3
    refine Upd.step (State.setF_upd ..) rfl ?_
    refine Upd.step (State.setF_upd ..) rfl ?_
    refine Upd.step (State.wf_upd ..) rfl ?_
    exact h4
  · exact Upd.refl _ _

theorem fldCapture_upd (f : Nat) (v : Word) (s : State) : Upd 0x200 s (fldCapture f v s) := by
  unfold fldCapture
  refine Upd.ite ?_ ?_
  · exact Upd.refl _ _
  · refine Upd.step (State.setF_upd ..) rfl ?_
    exact Upd.refl _ _

theorem execDbgFldCapture_upd (r : Req) (f : Fin 128) (v : Word) (s : State) : UpdO 0x18300 s (execDbgFldCapture r f v s) := by
  unfold execDbgFldCapture
  refine UpdO.next ?_
  refine Upd.gated _ _ _ rfl ?_ (fun y1 h2 => ?_)
  · exact Upd.refl _ _
  · refine Upd.step (fldCapture_upd ..) rfl ?_
    exact h2

theorem State.shadowCopy_upd (s : State) (f : Nat) : Upd 0x10000000 s (State.shadowCopy s f) := by
  unfold State.shadowCopy
  extract_lets +onlyGivenNames x1
  extract_lets +onlyGivenNames x2
  refine Upd.step (Upd.set_dbg _ _) rfl ?_
  exact Upd.refl _ _

theorem execCaptureDone_upd (f : Fin 128) (s : State) : UpdO 0x10000200 s (execCaptureDone f s) := by
  unfold execCaptureDone
  extract_lets +onlyGivenNames x1
  clear_value x1
  refine UpdO.next ?_
  refine Upd.ite ?_ ?_
  · refine Upd.step (State.setF_upd ..) rfl ?_
    refine Upd.step (State.clrF_upd ..) rfl ?_
    refine Upd.step (State.shadowCopy_upd ..) rfl ?_
    exact Upd.refl _ _
  · exact Upd.refl _ _

theorem State.xtFence_upd (s : State) (f : Nat) : Upd 0x200 s (State.xtFence s f) := by
  unfold State.xtFence
  refine Upd.ite ?_ ?_
  · refine Upd.step (State.setF_upd ..) rfl ?_
    exact Upd.refl _ _
  · exact Upd.refl _ _

theorem xtPulse_upd (r : Req) (v : Word) (s : State) : Upd 0x10000200 s (xtPulse r v s) := by
  unfold xtPulse
  refine Upd.foldl ?_ (fun y1 a2 h3 => ?_)
  · exact Upd.refl _ _
  · refine Upd.ite ?_ ?_
    · refine Upd.step (State.xtFire_upd ..) rfl ?_
      exact h3
    · exact h3

theorem execDbgXtPulse_upd (r : Req) (v : Word) (s : State) : UpdO 0x10018300 s (execDbgXtPulse r v s) := by
  unfold execDbgXtPulse
  refine UpdO.next ?_
  refine Upd.gated _ _ _ rfl ?_ (fun y1 h2 => ?_)
  · exact Upd.refl _ _
  · refine Upd.step (xtPulse_upd ..) rfl ?_
    exact h2

theorem execXtTimeCompare_upd (c : Fin 16) (s : State) : UpdO 0x10000200 s (execXtTimeCompare c s) := by
  unfold execXtTimeCompare
  extract_lets +onlyGivenNames x1
  clear_value x1
  refine UpdO.next ?_
  refine Upd.ite ?_ ?_
  · refine Upd.step (State.xtFire_upd ..) rfl ?_
    refine Upd.step (State.clrF_upd ..) rfl ?_
    exact Upd.refl _ _
  · exact Upd.refl _ _

theorem execTriggerTapOut_upd (f : Fin 128) (t : Fin 4) (s : State) : UpdO 0x10000200 s (execTriggerTapOut f t s) := by
  unfold execTriggerTapOut
  refine UpdO.next ?_
  split
  · refine Upd.ite ?_ ?_
    · refine Upd.step (State.xtFireBy_upd ..) rfl ?_
      exact Upd.refl _ _
    · exact Upd.refl _ _
  · exact Upd.refl _ _

theorem State.xtFields_upd (s : State) (c : Nat) : Upd 0x10018300 s (State.xtFields s c) := by
  unfold State.xtFields
  extract_lets +onlyGivenNames x1
  clear_value x1
  refine Upd.foldl ?_ (fun y2 a3 h4 => ?_)
  · exact Upd.refl _ _
  · refine Upd.ite ?_ ?_
    · exact h4
    · extract_lets +onlyGivenNames x5
      clear_value x5
      extract_lets +onlyGivenNames x6
      refine cut (P := Upd 0x10018300 s x6) ?_ (fun h7 => ?_)
      · unfold x6
        refine Upd.ite ?_ ?_
        · refine Upd.step (State.fieldHaltReq_upd ..) rfl ?_
          exact h4
        · refine Upd.ite ?_ ?_
          · refine Upd.step (State.fieldRun_upd ..) rfl ?_
            exact h4
          · exact h4
      clear_value x6
      refine Upd.ite ?_ ?_
      · refine Upd.foldl ?_ (fun y8 a9 h10 => ?_)
        · exact h7
        · refine Upd.ite ?_ ?_
          · refine Upd.step (State.emit_upd ..) rfl ?_
            exact h10
          · exact h10
      · exact h7

theorem State.xtOthers_upd (s : State) (c : Nat) : Upd 0x10000300 s (State.xtOthers s c) := by
  unfold State.xtOthers
  extract_lets +onlyGivenNames x1
  refine cut (P := Upd 0x10000300 s x1) ?_ (fun h2 => ?_)
  · unfold x1
    refine Upd.foldl ?_ (fun y3 a4 h5 => ?_)
    · exact Upd.refl _ _
    · extract_lets +onlyGivenNames x6
      clear_value x6
      refine Upd.ite ?_ ?_
      · refine Upd.step (State.wr_upd ..) rfl ?_
        exact h5
      · exact h5
  clear_value x1
  extract_lets +onlyGivenNames x7
  refine cut (P := Upd 0x10000300 s x7) ?_ (fun h8 => ?_)
  · unfold x7
    refine Upd.ite ?_ ?_
    · refine Upd.ite ?_ ?_
      · refine Upd.foldl ?_ (fun y9 a10 h11 => ?_)
        · exact h2
        · refine Upd.step (State.dbgCoreHalt_upd ..) rfl ?_
          exact h11
      · exact h2
    · exact Upd.refl _ _
  clear_value x7
  refine Upd.step (State.trigOut_upd ..) rfl ?_
  exact h8

theorem execXtEventArrive_upd (c : Fin 16) (s : State) : UpdO 0x10018300 s (execXtEventArrive c s) := by
  unfold execXtEventArrive
  refine UpdO.next ?_
  refine Upd.ite ?_ ?_
  · refine Upd.step (State.xtOthers_upd ..) rfl ?_
    refine Upd.step (State.xtFields_upd ..) rfl ?_
    refine Upd.step (Upd.set_dbg _ _) rfl ?_
    exact Upd.refl _ _
  · exact Upd.refl _ _

end Sys2Proof.Machine
end

