-- ==== Sys2Proof/Laws/FrameStartOps.lean ====
section
/-! SUPPORT. What each operation of Sys2Proof/Machine/StartOps.lean may change: the fields whose bits are set, in the order of State. -/
namespace Sys2Proof.Machine

theorem State.setMode_upd (s : State) (m : Mode) : Upd 0x204 s (State.setMode s m) := by
  unfold State.setMode
  refine Upd.step (State.wf_upd ..) rfl ?_
  refine Upd.step (Upd.set_mode _ _) rfl ?_
  exact Upd.refl _ _

theorem State.coldClear_upd (s : State) : Upd 0x7fffffe34 s s.coldClear := by
  unfold State.coldClear
  have h := State.lcTorn_upd s
  generalize s.lcTorn = x at h
  refine Upd.step (k := 0x7fffffe34) (x := x) ⟨?_, fun g => ⟨?_, rfl, rfl⟩, rfl, ⟨[], rfl⟩, Nat.le_refl _⟩ (by rfl) (Upd.mono h (by rfl))
  · constructor <;> first | exact fun _ => rfl | exact fun h => absurd h (by decide)
  · exact State.regsWf_iff.mpr ⟨tabWf_tabKeep _ (State.regsWf_iff.mp g.1).1, rfl, rfl⟩

theorem State.startRegs_upd (s : State) (warm : Bool) (denied : Bool) (cause : Nat) (boot : Word) (chans : List Nat) : Upd 0x80000200 s (State.startRegs s warm denied cause boot chans) := by
  unfold State.startRegs
  extract_lets +onlyGivenNames x1
  refine cut (P := Upd 0x80000200 s x1) ?_ (fun h2 => ?_)
  · unfold x1
    refine Upd.step (Upd.set_start _ _) rfl ?_
    exact Upd.refl _ _
  clear_value x1
  extract_lets +onlyGivenNames x3
  refine cut (P := Upd 0x80000200 s x3) ?_ (fun h4 => ?_)
  · unfold x3
    refine Upd.step (State.wf_upd ..) rfl ?_
    refine Upd.step (State.wf_upd ..) rfl ?_
    exact h2
  clear_value x3
  extract_lets +onlyGivenNames x5
  refine cut (P := Upd 0x80000200 s x5) ?_ (fun h6 => ?_)
  · unfold x5
    refine Upd.step (State.wr_upd ..) rfl ?_
    exact h4
  clear_value x5
  refine Upd.step (State.setIf_upd ..) rfl ?_
  exact h6

theorem State.coldStart_upd (s : State) (cause : Nat) (denied : Bool) : Upd 0x7fffffe34 s (State.coldStart s cause denied) := by
  unfold State.coldStart
  extract_lets +onlyGivenNames x1
  clear_value x1
  extract_lets +onlyGivenNames x2
  refine cut (P := Upd 0x7fffffe34 s x2) ?_ (fun h3 => ?_)
  · unfold x2
    refine Upd.step (State.setMode_upd ..) rfl ?_
    refine Upd.step (State.startRegs_upd ..) rfl ?_
    refine Upd.step (State.coldClear_upd ..) rfl ?_
    exact Upd.refl _ _
  clear_value x2
  refine Upd.ite ?_ ?_
  · refine Upd.step (State.wf_upd ..) rfl ?_
    exact h3
  · exact h3

theorem State.warmRegs_upd (s : State) : Upd 0x200 s (State.warmRegs s) := by
  unfold State.warmRegs
  extract_lets +onlyGivenNames x1
  refine cut (P := Upd 0x200 s x1) ?_ (fun h2 => ?_)
  · unfold x1
    refine Upd.foldl ?_ (fun y3 a4 h5 => ?_)
    · exact Upd.refl _ _
    · extract_lets +onlyGivenNames x6
      clear_value x6
      refine Upd.step (State.wf_upd ..) rfl ?_
      refine Upd.step (State.wr_upd ..) rfl ?_
      exact h5
  clear_value x1
  extract_lets +onlyGivenNames x7
  refine cut (P := Upd 0x200 s x7) ?_ (fun h8 => ?_)
  · unfold x7
    refine Upd.foldl ?_ (fun y9 a10 h11 => ?_)
    · exact h2
    · refine Upd.step (State.tcritCount_upd ..) rfl ?_
      exact h11
  clear_value x7
  extract_lets +onlyGivenNames x12
  refine cut (P := Upd 0x200 s x12) ?_ (fun h13 => ?_)
  · unfold x12
    refine Upd.foldl ?_ (fun y14 a15 h16 => ?_)
    · exact h8
    · extract_lets +onlyGivenNames x17
      clear_value x17
      refine Upd.step (State.wf_upd ..) rfl ?_
      refine Upd.step (State.wr_upd ..) rfl ?_
      exact h16
  clear_value x12
  extract_lets +onlyGivenNames x18
  refine cut (P := Upd 0x200 s x18) ?_ (fun h19 => ?_)
  · unfold x18
    refine Upd.foldl ?_ (fun y20 a21 h22 => ?_)
    · exact h13
    · extract_lets +onlyGivenNames x23
      clear_value x23
      refine Upd.step (State.wf_upd ..) rfl ?_
      refine Upd.step (State.wr_upd ..) rfl ?_
      exact h22
  clear_value x18
  refine Upd.step (State.wf_upd ..) rfl ?_
  exact h19

theorem State.remapTorn_upd (s : State) (k : Nat) (v : Word) : Upd 0x4000 s (State.remapTorn s k v) := by
  unfold State.remapTorn
  refine Upd.ite ?_ ?_
  · exact Upd.refl _ _
  · split
    · extract_lets +onlyGivenNames x1
      clear_value x1
      refine Upd.ite ?_ ?_
      · extract_lets +onlyGivenNames x2
        clear_value x2
        extract_lets +onlyGivenNames x3
        clear_value x3
        refine Upd.step (Upd.set_mem _ _ ?_) rfl ?_
        · (intro h; simp_all +zetaDelta [MemSt.wf, tabWf_tabPut, tabWf_tabKeep])
        · exact Upd.refl _ _
      · exact Upd.refl _ _
    · extract_lets +onlyGivenNames x4
      clear_value x4
      refine Upd.ite ?_ ?_
      · refine Upd.foldl ?_ (fun y5 a6 h7 => ?_)
        · exact Upd.refl _ _
        · extract_lets +onlyGivenNames x8
          clear_value x8
          extract_lets +onlyGivenNames x9
          clear_value x9
          refine Upd.step (Upd.set_mem _ _ ?_) rfl ?_
          · (intro h; simp_all +zetaDelta [MemSt.wf, tabWf_tabPut, tabWf_tabKeep])
          · exact h7
      · exact Upd.refl _ _
    · exact Upd.refl _ _

theorem State.remapLoad_upd (s : State) : Upd 0x200 s (State.remapLoad s) := by
  unfold State.remapLoad
  refine Upd.foldl ?_ (fun y1 a2 h3 => ?_)
  · exact Upd.refl _ _
  · refine Upd.ite ?_ ?_
    · extract_lets +onlyGivenNames x4
      clear_value x4
      extract_lets +onlyGivenNames x5
      clear_value x5
      split
      · refine Upd.step (State.wr_upd ..) rfl ?_
        exact h3
      · exact h3
    · refine Upd.ite ?_ ?_
      · extract_lets +onlyGivenNames x6
        clear_value x6
        split
        · refine Upd.step (State.wr_upd ..) rfl ?_
          exact h3
        · exact h3
      · exact h3

theorem State.warmStart_upd (s : State) (cause : Nat) : Upd 0x7fffffe34 s (s.warmStart cause) := by
  unfold State.warmStart
  extract_lets x1 x2 mig keep x3 boot chans
  refine Upd.step (State.warmRegs_upd ..) (by rfl) (Upd.step (State.setMode_upd ..) (by rfl) (Upd.step (State.startRegs_upd ..) (by rfl) ?_))
  have h1 : Upd 0x7fffffe34 s x1 := by
    refine Upd.foldl (Upd.refl _ _) (fun y a h => ?_)
    exact Upd.step (State.remapTorn_upd ..) (by rfl) h
  clear_value x1
  have h2 : Upd 0x7fffffe34 x1 x2 := Upd.mono (State.coldClear_upd x1) rfl
  refine Upd.trans h1 ⟨?_, fun g => ⟨?_, g.2.1, g.2.2⟩, h2.later⟩
  · constructor <;> first | exact fun _ => rfl | exact fun h => absurd h (by decide) | exact h2.keep.pending | exact h2.keep.part | exact h2.keep.now | exact h2.keep.rtc | exact h2.keep.free | exact h2.keep.outs | exact h2.keep.ledger
  · exact State.regsWf_iff.mpr ⟨tabWf_tabKeep _ (State.regsWf_iff.mp g.1).1, rfl, rfl⟩

theorem State.rankInit_upd (s : State) (c : Nat) (n : Nat) (spare : Option Nat) (used : Option Nat) (ranks : List Nat) (p : Nat) : Upd 0x200 s (State.rankInit s c n spare used ranks p) := by
  unfold State.rankInit
  extract_lets +onlyGivenNames x1
  clear_value x1
  extract_lets +onlyGivenNames x2
  refine cut (P := Upd 0x200 s x2) ?_ (fun h3 => ?_)
  · unfold x2
    refine Upd.step (State.wr_upd ..) rfl ?_
    exact Upd.refl _ _
  clear_value x2
  refine Upd.ite ?_ ?_
  · exact h3
  · refine Upd.ite ?_ ?_
    · split
      · refine Upd.step (State.wf_upd ..) rfl ?_
        refine Upd.step (State.wf_upd ..) rfl ?_
        exact h3
      · refine Upd.step (State.wf_upd ..) rfl ?_
        exact h3
    · refine Upd.ite ?_ ?_
      · refine Upd.step (State.wf_upd ..) rfl ?_
        exact h3
      · refine Upd.step (State.wf_upd ..) rfl ?_
        refine Upd.step (State.wf_upd ..) rfl ?_
        exact h3

theorem State.rankSetup_upd (s : State) (c : Nat) : Upd 0x200 s (State.rankSetup s c) := by
  unfold State.rankSetup
  refine Upd.ite ?_ ?_
  · exact Upd.refl _ _
  · extract_lets +onlyGivenNames x1
    clear_value x1
    extract_lets +onlyGivenNames x2
    clear_value x2
    extract_lets +onlyGivenNames x3
    clear_value x3
    extract_lets +onlyGivenNames x4
    clear_value x4
    extract_lets +onlyGivenNames x5
    clear_value x5
    extract_lets +onlyGivenNames x6
    clear_value x6
    refine Upd.foldl ?_ (fun y7 a8 h9 => ?_)
    · exact Upd.refl _ _
    · refine Upd.step (State.rankInit_upd ..) rfl ?_
      exact h9

theorem State.trainAt_upd (s : State) (c : Nat) (o : Option Nat) : Upd 0x20280 s (State.trainAt s c o) := by
  unfold State.trainAt
  extract_lets +onlyGivenNames x1
  clear_value x1
  split
  · refine Upd.step (State.rankSetup_upd ..) rfl ?_
    refine Upd.step (State.wf_upd ..) rfl ?_
    refine Upd.step (State.wf_upd ..) rfl ?_
    exact Upd.refl _ _
  · extract_lets +onlyGivenNames x2
    refine cut (P := Upd 0x20280 s x2) ?_ (fun h3 => ?_)
    · unfold x2
      refine Upd.step (State.setF_upd ..) rfl ?_
      refine Upd.step (State.wf_upd ..) rfl ?_
      exact Upd.refl _ _
    clear_value x2
    refine Upd.step (State.recordO_upd ..) rfl ?_
    exact h3

theorem State.trainChan_upd (s : State) (x : ChanStart) : Upd 0x1020280 s (State.trainChan s x) := by
  unfold State.trainChan
  extract_lets +onlyGivenNames x1
  clear_value x1
  extract_lets +onlyGivenNames x2
  clear_value x2
  extract_lets +onlyGivenNames x3
  refine cut (P := Upd 0x1020280 s x3) ?_ (fun h4 => ?_)
  · unfold x3
    refine Upd.step (State.wr_upd ..) rfl ?_
    exact Upd.refl _ _
  clear_value x3
  extract_lets +onlyGivenNames x5
  refine cut (P := Upd 0x1020280 s x5) ?_ (fun h6 => ?_)
  · unfold x5
    refine Upd.foldl ?_ (fun y7 a8 h9 => ?_)
    · exact h4
    · refine Upd.step (State.wf_upd ..) rfl ?_
      exact h9
  clear_value x5
  extract_lets +onlyGivenNames x10
  clear_value x10
  extract_lets +onlyGivenNames x11
  refine cut (P := Upd 0x1020280 s x11) ?_ (fun h12 => ?_)
  · unfold x11
    refine Upd.step (State.setDdr_upd ..) rfl ?_
    exact h6
  clear_value x11
  extract_lets +onlyGivenNames x13
  refine cut (P := Upd 0x1020280 s x13) ?_ (fun h14 => ?_)
  · unfold x13
    refine Upd.step (State.wf_upd ..) rfl ?_
    exact h12
  clear_value x13
  refine Upd.ite ?_ ?_
  · exact h14
  · extract_lets +onlyGivenNames x15
    refine cut (P := Upd 0x1020280 s x15) ?_ (fun h16 => ?_)
    · unfold x15
      refine Upd.foldl ?_ (fun y17 a18 h19 => ?_)
      · exact h14
      · refine Upd.step (State.wf_upd ..) rfl ?_
        exact h19
    clear_value x15
    extract_lets +onlyGivenNames x20
    refine cut (P := Upd 0x1020280 s x20) ?_ (fun h21 => ?_)
    · unfold x20
      refine Upd.step (State.wf_upd ..) rfl ?_
      exact h16
    clear_value x20
    refine Upd.step (State.trainAt_upd ..) rfl ?_
    exact h21

theorem State.buildIntlv_upd (s : State) : Upd 0x200 s (State.buildIntlv s) := by
  unfold State.buildIntlv
  extract_lets +onlyGivenNames x1
  clear_value x1
  extract_lets +onlyGivenNames x2
  clear_value x2
  extract_lets +onlyGivenNames x3
  clear_value x3
  refine Upd.step (State.wr_upd ..) rfl ?_
  exact Upd.refl _ _

theorem State.step10_upd (s : State) : Upd 0x1020280 s s.step10 := by
  unfold State.step10
  extract_lets x
  have h : Upd 0x1020280 s x := Upd.step (State.buildIntlv_upd ..) (by rfl) (Upd.refl _ _)
  clear_value x
  refine Upd.ite (Upd.step (Upd.set_dram _ _ id) (by rfl) h) (Upd.ite h ?_)
  have h2 : Upd 0x1020280 s x.encOffAll := Upd.step (State.encOffAll_upd ..) (by rfl) h
  refine Upd.step (State.recordO_upd ..) (by rfl) (UpdP.snd (UpdP.step (State.fresh_upd ..) (by rfl) ?_))
  exact Upd.step (Upd.set_dram _ _ id) (by rfl) h2

theorem State.coresRelease_upd (s : State) (hold : Bool) : Upd 0x100000200 s (State.coresRelease s hold) := by
  unfold State.coresRelease
  extract_lets +onlyGivenNames x1
  clear_value x1
  extract_lets +onlyGivenNames x2
  refine cut (P := Upd 0x100000200 s x2) ?_ (fun h3 => ?_)
  · unfold x2
    refine Upd.step (Upd.set_cores _ _) rfl ?_
    exact Upd.refl _ _
  clear_value x2
  refine Upd.foldl ?_ (fun y4 a5 h6 => ?_)
  · exact h3
  · refine Upd.step (State.setCore_upd ..) rfl ?_
    refine Upd.step (State.wf_upd ..) rfl ?_
    refine Upd.step (State.wr_upd ..) rfl ?_
    exact h6

theorem State.commonsStart_upd (s : State) (slot : Nat) : Upd 0x102000200 s (State.commonsStart s slot) := by
  unfold State.commonsStart
  extract_lets +onlyGivenNames x1
  clear_value x1
  extract_lets +onlyGivenNames x2
  refine cut (P := Upd 0x102000200 s x2) ?_ (fun h3 => ?_)
  · unfold x2
    refine Upd.step (State.coresRelease_upd ..) rfl ?_
    refine Upd.step (State.wf_upd ..) rfl ?_
    exact Upd.refl _ _
  clear_value x2
  extract_lets +onlyGivenNames x4
  clear_value x4
  extract_lets +onlyGivenNames x5
  refine cut (P := Upd 0x102000200 s x5) ?_ (fun h6 => ?_)
  · unfold x5
    refine Upd.step (Upd.set_host _ _) rfl ?_
    exact h3
  clear_value x5
  refine Upd.ite ?_ ?_
  · exact h6
  · refine Upd.step (State.wf_upd ..) rfl ?_
    exact h6

end Sys2Proof.Machine
end

