-- ==== Sys2Proof/Laws/FrameStart.lean ====
section
/-! SUPPORT. What each operation of Sys2Proof/Machine/Start.lean may change: the fields whose bits are set, in the order of State. -/
namespace Sys2Proof.Machine

theorem State.startRecord_upd (s : State) : Upd 0x20280 s (State.startRecord s) := by
  unfold State.startRecord
  refine Upd.step (State.recordO_upd ..) rfl ?_
  exact Upd.refl _ _

theorem State.startStop_upd (s : State) (code : Nat) (arg : Nat) : Upd 0x80020280 s (State.startStop s code arg) := by
  unfold State.startStop
  extract_lets +onlyGivenNames x1
  refine cut (P := Upd 0x80020280 s x1) ?_ (fun h2 => ?_)
  · unfold x1
    refine Upd.step (State.wf_upd ..) rfl ?_
    refine Upd.step (State.wf_upd ..) rfl ?_
    exact Upd.refl _ _
  clear_value x1
  refine Upd.step (State.startRecord_upd ..) rfl ?_
  refine Upd.step (Upd.set_start _ _) rfl ?_
  exact h2

theorem State.stepDone_upd (s : State) (n : Nat) : Upd 0x200 s (State.stepDone s n) := by
  unfold State.stepDone
  refine Upd.step (State.wf_upd ..) rfl ?_
  exact Upd.refl _ _

theorem startFuses_upd (s : State) : Upd 0x88020280 s (startFuses s) := by
  unfold startFuses
  extract_lets +onlyGivenNames x1
  refine cut (P := Upd 0x88020280 s x1) ?_ (fun h2 => ?_)
  · unfold x1
    refine Upd.step (State.senseFuses_upd ..) rfl ?_
    exact Upd.refl _ _
  clear_value x1
  extract_lets +onlyGivenNames x3
  refine cut (P := Upd 0x88020280 s x3) ?_ (fun h4 => ?_)
  · unfold x3
    refine Upd.ite ?_ ?_
    · exact h2
    · refine Upd.step (State.sessionBase_upd ..) rfl ?_
      exact h2
  clear_value x3
  refine Upd.ite ?_ ?_
  · refine Upd.step (State.startStop_upd ..) rfl ?_
    exact h4
  · refine Upd.step (State.stepDone_upd ..) rfl ?_
    exact h4

theorem startRefs_upd (s : State) : Upd 0x400210 s (startRefs s) := by
  unfold startRefs
  extract_lets +onlyGivenNames x1
  refine Upd.ite ?_ ?_
  · unfold x1
    extract_lets +onlyGivenNames x2
    refine cut (P := Upd 0x400210 s x2) ?_ (fun h3 => ?_)
    · unfold x2
      refine Upd.step (State.clrF_upd ..) rfl ?_
      refine Upd.step (State.wf_upd ..) rfl ?_
      refine Upd.step (State.wf_upd ..) rfl ?_
      exact Upd.refl _ _
    clear_value x2
    refine Upd.step (State.stepDone_upd ..) rfl ?_
    refine Upd.step (Upd.set_ttc_clk _ _ _) rfl ?_
    exact h3
  · refine Upd.ite ?_ ?_
    · unfold x1
      extract_lets +onlyGivenNames x4
      refine cut (P := Upd 0x400210 s x4) ?_ (fun h5 => ?_)
      · unfold x4
        refine Upd.step (State.clrF_upd ..) rfl ?_
        refine Upd.step (State.wf_upd ..) rfl ?_
        refine Upd.step (State.wf_upd ..) rfl ?_
        exact Upd.refl _ _
      clear_value x4
      refine Upd.step (State.stepDone_upd ..) rfl ?_
      refine Upd.step (Upd.set_ttc_clk _ _ _) rfl ?_
      exact h5
    · exact Upd.refl _ _

theorem startSram_upd (s : State) : Upd 0x20200 s (startSram s) := by
  unfold startSram
  extract_lets +onlyGivenNames x1
  clear_value x1
  extract_lets +onlyGivenNames x2
  refine cut (P := Upd 0x20200 s x2) ?_ (fun h3 => ?_)
  · unfold x2
    refine Upd.ite ?_ ?_
    · refine Upd.step (State.wf_upd ..) rfl ?_
      refine Upd.step (Upd.set_par _ _) rfl ?_
      exact Upd.refl _ _
    · exact Upd.refl _ _
  clear_value x2
  refine Upd.step (State.stepDone_upd ..) rfl ?_
  exact h3

theorem State.logCopy_upd (s : State) : Upd 0x20280 s (State.logCopy s) := by
  unfold State.logCopy
  extract_lets +onlyGivenNames x1
  clear_value x1
  extract_lets +onlyGivenNames x2
  clear_value x2
  extract_lets +onlyGivenNames x3
  refine cut (P := Upd 0x20280 s x3) ?_ (fun h4 => ?_)
  · unfold x3
    refine Upd.step (State.setIf_upd ..) rfl ?_
    exact Upd.refl _ _
  clear_value x3
  extract_lets +onlyGivenNames x5
  refine cut (P := Upd 0x20280 s x5) ?_ (fun h6 => ?_)
  · unfold x5
    refine Upd.foldl ?_ (fun y7 a8 h9 => ?_)
    · exact h4
    · extract_lets +onlyGivenNames x10
      clear_value x10
      extract_lets +onlyGivenNames x11
      clear_value x11
      extract_lets +onlyGivenNames x12
      clear_value x12
      refine Upd.step (State.stage_upd ..) rfl ?_
      exact h9
  clear_value x5
  extract_lets +onlyGivenNames x13
  refine cut (P := Upd 0x20280 s x13) ?_ (fun h14 => ?_)
  · unfold x13
    refine Upd.ite ?_ ?_
    · refine Upd.step (State.recordO_upd ..) rfl ?_
      exact h6
    · exact h6
  clear_value x13
  refine Upd.step (bkLogClr_upd ..) rfl ?_
  exact h14

theorem State.patchStart_upd (s : State) (p : Option PatchRec) : Upd 0x100020280 s (State.patchStart s p) := by
  unfold State.patchStart
  split
  · exact Upd.refl _ _
  · refine Upd.ite ?_ ?_
    · refine Upd.step (State.patchLoad_upd ..) rfl ?_
      exact Upd.refl _ _
    · refine Upd.step (State.recordO_upd ..) rfl ?_
      exact Upd.refl _ _

theorem State.bindTable_upd (s : State) (l : List Word) : Upd 0x200 s (State.bindTable s l) := by
  unfold State.bindTable
  extract_lets +onlyGivenNames x1
  refine cut (P := Upd 0x200 s x1) ?_ (fun h2 => ?_)
  · unfold x1
    refine Upd.ite ?_ ?_
    · exact Upd.refl _ _
    · refine Upd.foldl ?_ (fun y3 a4 h5 => ?_)
      · exact Upd.refl _ _
      · refine Upd.step (State.wr_upd ..) rfl ?_
        exact h5
  clear_value x1
  refine Upd.step (State.setF_upd ..) rfl ?_
  exact h2

theorem State.warmReload_upd (s : State) : Upd 0x141be380 s (State.warmReload s) := by
  unfold State.warmReload
  refine Upd.step (State.cfgReload_upd ..) rfl ?_
  exact Upd.refl _ _

theorem startFlash_upd (x : StartIn) (s : State) : Upd 0x1941be384 s (startFlash x s) := by
  unfold startFlash
  refine Upd.ite ?_ ?_
  · exact Upd.refl _ _
  · extract_lets +onlyGivenNames x1
    clear_value x1
    extract_lets +onlyGivenNames x2
    clear_value x2
    extract_lets +onlyGivenNames x3
    refine cut (P := Upd 0x1941be384 s x3) ?_ (fun h4 => ?_)
    · unfold x3
      refine Upd.step (Upd.set_pcie_cfg _ _ _) rfl ?_
      exact Upd.refl _ _
    clear_value x3
    extract_lets +onlyGivenNames x5
    clear_value x5
    extract_lets +onlyGivenNames x6
    clear_value x6
    extract_lets +onlyGivenNames x7
    refine cut (P := Upd 0x1941be384 s x7) ?_ (fun h8 => ?_)
    · unfold x7
      split
      · exact h4
      · extract_lets +onlyGivenNames x9
        refine cut (P := Upd 0x1941be384 s x9) ?_ (fun h10 => ?_)
        · unfold x9
          refine Upd.step (State.wr_upd ..) rfl ?_
          refine Upd.step (Upd.set_start _ _) rfl ?_
          exact h4
        clear_value x9
        refine Upd.ite ?_ ?_
        · exact h10
        · refine Upd.step (State.setMode_upd ..) rfl ?_
          exact h10
    clear_value x7
    refine Upd.ite ?_ ?_
    · refine Upd.step (State.startStop_upd ..) rfl ?_
      exact h8
    · extract_lets +onlyGivenNames x11
      refine cut (P := Upd 0x1941be384 s x11) ?_ (fun h12 => ?_)
      · unfold x11
        refine Upd.step (State.bindTable_upd ..) rfl ?_
        exact h8
      clear_value x11
      extract_lets +onlyGivenNames x13
      refine cut (P := Upd 0x1941be384 s x13) ?_ (fun h14 => ?_)
      · unfold x13
        refine Upd.step (State.wr_upd ..) rfl ?_
        refine Upd.step (State.wr_upd ..) rfl ?_
        exact h12
      clear_value x13
      extract_lets +onlyGivenNames x15
      refine cut (P := Upd 0x1941be384 s x15) ?_ (fun h16 => ?_)
      · unfold x15
        refine Upd.step (State.patchStart_upd ..) rfl ?_
        refine Upd.step (State.logCopy_upd ..) rfl ?_
        exact h14
      clear_value x15
      extract_lets +onlyGivenNames x17
      clear_value x17
      extract_lets +onlyGivenNames x18
      clear_value x18
      extract_lets +onlyGivenNames x19
      refine cut (P := Upd 0x1941be384 s x19) ?_ (fun h20 => ?_)
      · unfold x19
        refine Upd.step (Upd.set_par_start _ _ _) rfl ?_
        exact h16
      clear_value x19
      extract_lets +onlyGivenNames x21
      refine cut (P := Upd 0x1941be384 s x21) ?_ (fun h22 => ?_)
      · unfold x21
        refine Upd.ite ?_ ?_
        · refine Upd.step (State.warmReload_upd ..) rfl ?_
          exact h20
        · exact h20
      clear_value x21
      refine Upd.step (State.stepDone_upd ..) rfl ?_
      exact h22

theorem startDiesUp_upd (x : StartIn) (s : State) : Upd 0x7a380 s (startDiesUp x s) := by
  unfold startDiesUp
  extract_lets +onlyGivenNames x1
  refine cut (P := Upd 0x7a380 s x1) ?_ (fun h2 => ?_)
  · unfold x1
    refine Upd.step (State.kelkSelect_upd ..) rfl ?_
    exact Upd.refl _ _
  clear_value x1
  refine Upd.ite ?_ ?_
  · refine Upd.step (State.wf_upd ..) rfl ?_
    exact h2
  · exact h2

theorem State.kelkStop_upd (s : State) (d : Nat) : Upd 0x80021280 s (State.kelkStop s d) := by
  unfold State.kelkStop
  refine Upd.step (State.startStop_upd ..) rfl ?_
  refine Upd.step (Upd.set_diesDown _ _) rfl ?_
  exact Upd.refl _ _

theorem State.startKelk_upd (s : State) (cut : List Nat) : Upd 0x80021280 s (State.startKelk s cut) := by
  unfold State.startKelk
  split
  · refine Upd.step (State.kelkStop_upd ..) rfl ?_
    exact Upd.refl _ _
  · refine Upd.step (State.stepDone_upd ..) rfl ?_
    refine Upd.step (Upd.set_diesDown _ _) rfl ?_
    exact Upd.refl _ _

theorem startDies_upd (x : StartIn) (s : State) : Upd 0x8007b380 s (startDies x s) := by
  unfold startDies
  split
  · refine Upd.step (State.startStop_upd ..) rfl ?_
    exact Upd.refl _ _
  · refine Upd.step (State.startKelk_upd ..) rfl ?_
    refine Upd.step (startDiesUp_upd ..) rfl ?_
    exact Upd.refl _ _

theorem startFill_upd (s : State) : Upd 0x143be380 s (startFill s) := by
  unfold startFill
  extract_lets +onlyGivenNames x1
  clear_value x1
  extract_lets +onlyGivenNames x2
  clear_value x2
  extract_lets +onlyGivenNames x3
  clear_value x3
  extract_lets +onlyGivenNames x4
  refine cut (P := Upd 0x143be380 s x4) ?_ (fun h5 => ?_)
  · unfold x4
    refine Upd.ite ?_ ?_
    · refine Upd.step (Upd.set_fab_mem_cap_dbg _ _ _ _ _ ?_) rfl ?_
      · exact fun _ => rfl
      · exact Upd.refl _ _
    · exact Upd.refl _ _
  clear_value x4
  extract_lets +onlyGivenNames x6
  refine cut (P := Upd 0x143be380 s x6) ?_ (fun h7 => ?_)
  · unfold x6
    refine Upd.ite ?_ ?_
    · exact h5
    · refine Upd.ite ?_ ?_
      · refine Upd.step (State.warmReload_upd ..) rfl ?_
        exact h5
      · refine Upd.ite ?_ ?_
        · refine Upd.step (State.cfgAdd_upd ..) rfl ?_
          exact h5
        · exact h5
  clear_value x6
  refine Upd.step (State.stepDone_upd ..) rfl ?_
  refine Upd.step (State.remapLoad_upd ..) rfl ?_
  exact h7

theorem State.startVerified_upd (s : State) (cut : List Nat) : Upd 0x80021280 s (State.startVerified s cut) := by
  unfold State.startVerified
  split
  · refine Upd.step (State.kelkStop_upd ..) rfl ?_
    exact Upd.refl _ _
  · refine Upd.step (State.stepDone_upd ..) rfl ?_
    exact Upd.refl _ _

theorem State.startVerify_upd (s : State) (x : StartIn) : Upd 0x8007b380 s (State.startVerify s x) := by
  unfold State.startVerify
  refine Upd.step (State.startVerified_upd ..) rfl ?_
  refine Upd.step (State.selectCrossings_upd ..) rfl ?_
  refine Upd.step (State.kelkVerify_upd ..) rfl ?_
  exact Upd.refl _ _

theorem startPosture_upd (s : State) : Upd 0x80000200 s (startPosture s) := by
  unfold startPosture
  refine Upd.step (State.stepDone_upd ..) rfl ?_
  refine Upd.step (Upd.set_start _ _) rfl ?_
  exact Upd.refl _ _

theorem startRelease_upd (s : State) : Upd 0x80000200 s (startRelease s) := by
  unfold startRelease
  refine Upd.step (State.stepDone_upd ..) rfl ?_
  refine Upd.step (Upd.set_start _ _) rfl ?_
  exact Upd.refl _ _

theorem startAdapt_upd (l : List LaneStart) (s : State) : Upd 0x200 s (startAdapt l s) := by
  unfold startAdapt
  refine Upd.ite ?_ ?_
  · exact Upd.refl _ _
  · refine Upd.foldl ?_ (fun y1 a2 h3 => ?_)
    · exact Upd.refl _ _
    · refine Upd.step (State.wf_upd ..) rfl ?_
      refine Upd.step (State.wf_upd ..) rfl ?_
      exact h3

theorem startTrain_upd (x : StartIn) (s : State) : Upd 0x8107b380 s (startTrain x s) := by
  unfold startTrain
  extract_lets +onlyGivenNames x1
  refine cut (P := Upd 0x8107b380 s x1) ?_ (fun h2 => ?_)
  · unfold x1
    refine Upd.step (startAdapt_upd ..) rfl ?_
    exact Upd.refl _ _
  clear_value x1
  extract_lets +onlyGivenNames x3
  refine cut (P := Upd 0x8107b380 s x3) ?_ (fun h4 => ?_)
  · unfold x3
    refine Upd.foldl ?_ (fun y5 a6 h7 => ?_)
    · exact h2
    · refine Upd.step (State.trainChan_upd ..) rfl ?_
      exact h7
  clear_value x3
  split
  · refine Upd.ite ?_ ?_
    · refine Upd.step (State.startVerify_upd ..) rfl ?_
      refine Upd.step (State.setF_upd ..) rfl ?_
      exact h4
    · refine Upd.step (State.startStop_upd ..) rfl ?_
      exact h4
  · refine Upd.step (State.startVerify_upd ..) rfl ?_
    exact h4

theorem startCommons_upd (x : StartIn) (s : State) : Upd 0x186020280 s (startCommons x s) := by
  unfold startCommons
  extract_lets +onlyGivenNames x1
  clear_value x1
  extract_lets +onlyGivenNames x2
  clear_value x2
  extract_lets +onlyGivenNames x3
  clear_value x3
  extract_lets +onlyGivenNames x4
  clear_value x4
  extract_lets +onlyGivenNames x5
  clear_value x5
  extract_lets +onlyGivenNames x6
  refine cut (P := Upd 0x186020280 s x6) ?_ (fun h7 => ?_)
  · unfold x6
    refine Upd.step (Upd.set_cores _ _) rfl ?_
    exact Upd.refl _ _
  clear_value x6
  split
  · refine Upd.step (State.startStop_upd ..) rfl ?_
    exact h7
  · extract_lets +onlyGivenNames x8
    refine cut (P := Upd 0x186020280 s x8) ?_ (fun h9 => ?_)
    · unfold x8
      refine Upd.step (State.wf_upd ..) rfl ?_
      refine Upd.step (State.commonsStart_upd ..) rfl ?_
      exact h7
    clear_value x8
    extract_lets +onlyGivenNames x10
    clear_value x10
    extract_lets +onlyGivenNames x11
    refine cut (P := Upd 0x186020280 s x11) ?_ (fun h12 => ?_)
    · unfold x11
      refine Upd.ite ?_ ?_
      · exact h9
      · refine Upd.step (Upd.set_cfg _ _) rfl ?_
        exact h9
    clear_value x11
    refine Upd.step (State.stepDone_upd ..) rfl ?_
    exact h12

theorem State.startGroups_upd (s : State) : Upd 0x4000200 s (State.startGroups s) := by
  unfold State.startGroups
  refine Upd.foldl ?_ (fun y1 a2 h3 => ?_)
  · exact Upd.refl _ _
  · refine Upd.ite ?_ ?_
    · refine Upd.ite ?_ ?_
      · refine Upd.step (State.cfgDrop_upd ..) rfl ?_
        exact h3
      · refine Upd.step (State.cfgSet_upd ..) rfl ?_
        exact h3
    · exact h3

theorem startEnd_upd (s : State) : Upd 0x84020280 s (startEnd s) := by
  unfold startEnd
  refine Upd.ite ?_ ?_
  · exact Upd.refl _ _
  · extract_lets +onlyGivenNames x1
    refine cut (P := Upd 0x84020280 s x1) ?_ (fun h2 => ?_)
    · unfold x1
      refine Upd.step (State.startRecord_upd ..) rfl ?_
      refine Upd.step (State.setF_upd ..) rfl ?_
      refine Upd.step (State.stepDone_upd ..) rfl ?_
      refine Upd.step (State.startGroups_upd ..) rfl ?_
      exact Upd.refl _ _
    clear_value x1
    refine Upd.step (Upd.set_start _ _) rfl ?_
    exact h2

theorem startStep_upd (x : StartIn) (s : State) : Upd 0x19f7ff394 s (startStep x s) := by
  unfold startStep
  refine Upd.ite ?_ ?_
  · exact Upd.refl _ _
  · split
    · refine Upd.step (startFuses_upd ..) rfl ?_
      exact Upd.refl _ _
    · refine Upd.step (startRefs_upd ..) rfl ?_
      exact Upd.refl _ _
    · refine Upd.step (startSram_upd ..) rfl ?_
      exact Upd.refl _ _
    · refine Upd.step (startFlash_upd ..) rfl ?_
      exact Upd.refl _ _
    · refine Upd.step (startDies_upd ..) rfl ?_
      exact Upd.refl _ _
    · refine Upd.step (startFill_upd ..) rfl ?_
      exact Upd.refl _ _
    · refine Upd.step (startPosture_upd ..) rfl ?_
      exact Upd.refl _ _
    · refine Upd.step (startTrain_upd ..) rfl ?_
      exact Upd.refl _ _
    · refine Upd.step (State.stepDone_upd ..) rfl ?_
      refine Upd.step (State.step10_upd ..) rfl ?_
      exact Upd.refl _ _
    · refine Upd.step (startRelease_upd ..) rfl ?_
      exact Upd.refl _ _
    · refine Upd.step (startCommons_upd ..) rfl ?_
      exact Upd.refl _ _
    · refine Upd.step (startEnd_upd ..) rfl ?_
      exact Upd.refl _ _
    · refine Upd.step (State.stepDone_upd ..) rfl ?_
      exact Upd.refl _ _

theorem execStartStepComplete_upd (x : StartIn) (s : State) : UpdO 0x19f7ff394 s (execStartStepComplete x s) := by
  unfold execStartStepComplete
  refine UpdO.next ?_
  refine Upd.step (startStep_upd ..) rfl ?_
  exact Upd.refl _ _

theorem execRefclkWaitTimeout_upd (s : State) : UpdO 0x80020280 s (execRefclkWaitTimeout s) := by
  unfold execRefclkWaitTimeout
  refine UpdO.next ?_
  refine Upd.ite ?_ ?_
  · refine Upd.step (State.startStop_upd ..) rfl ?_
    exact Upd.refl _ _
  · exact Upd.refl _ _

theorem execGangBootLoad_upd (s : State) : UpdO 0x84000200 s (execGangBootLoad s) := by
  unfold execGangBootLoad
  refine UpdO.next ?_
  refine Upd.ite ?_ ?_
  · refine Upd.step (State.cfgAdd_upd ..) rfl ?_
    refine Upd.step (Upd.set_start _ _) rfl ?_
    exact Upd.refl _ _
  · exact Upd.refl _ _

theorem State.startBegin_upd (s : State) : Upd 0x7fffffe34 s (State.startBegin s) := by
  unfold State.startBegin
  extract_lets +onlyGivenNames x1
  clear_value x1
  extract_lets +onlyGivenNames x2
  clear_value x2
  refine Upd.ite ?_ ?_
  · refine Upd.step (State.warmStart_upd ..) rfl ?_
    exact Upd.refl _ _
  · refine Upd.step (State.coldStart_upd ..) rfl ?_
    exact Upd.refl _ _

theorem State.holdHub_upd (s : State) : Upd 0x88201080 s (State.holdHub s) := by
  unfold State.holdHub
  extract_lets +onlyGivenNames x1
  refine cut (P := Upd 0x88201080 s x1) ?_ (fun h2 => ?_)
  · unfold x1
    refine Upd.step (State.tearRecords_upd ..) rfl ?_
    refine Upd.step (State.lcTorn_upd ..) rfl ?_
    exact Upd.refl _ _
  clear_value x1
  refine Upd.step (Upd.set_diesDown_start _ _ _) rfl ?_
  exact h2

theorem State.retain_upd (s : State) (cause : Nat) : Upd 0x88221280 s (State.retain s cause) := by
  unfold State.retain
  extract_lets +onlyGivenNames x1
  clear_value x1
  extract_lets +onlyGivenNames x2
  clear_value x2
  extract_lets +onlyGivenNames x3
  refine cut (P := Upd 0x88221280 s x3) ?_ (fun h4 => ?_)
  · unfold x3
    refine Upd.step (Upd.set_start _ _) rfl ?_
    exact Upd.refl _ _
  clear_value x3
  refine Upd.ite ?_ ?_
  · refine Upd.step (State.holdHub_upd ..) rfl ?_
    exact h4
  · extract_lets +onlyGivenNames x5
    refine cut (P := Upd 0x88221280 s x5) ?_ (fun h6 => ?_)
    · unfold x5
      refine Upd.step (State.flush_upd ..) rfl ?_
      exact h4
    clear_value x5
    refine Upd.step (Upd.set_start _ _) rfl ?_
    exact h6

theorem resetFall_upd (s : State) : Upd 0x88221280 s (resetFall s) := by
  unfold resetFall
  refine Upd.ite ?_ ?_
  · exact Upd.refl _ _
  · extract_lets +onlyGivenNames x1
    clear_value x1
    extract_lets +onlyGivenNames x2
    refine cut (P := Upd 0x88221280 s x2) ?_ (fun h3 => ?_)
    · unfold x2
      refine Upd.step (Upd.set_start _ _) rfl ?_
      exact Upd.refl _ _
    clear_value x2
    refine Upd.ite ?_ ?_
    · exact h3
    · refine Upd.step (State.retain_upd ..) rfl ?_
      exact h3

theorem execResetNFall_upd (s : State) : UpdO 0x88221280 s (execResetNFall s) := by
  unfold execResetNFall
  refine UpdO.next ?_
  refine Upd.step (resetFall_upd ..) rfl ?_
  exact Upd.refl _ _

theorem State.startIfReady_upd (s : State) : Upd 0x7fffffe34 s (State.startIfReady s) := by
  unfold State.startIfReady
  refine Upd.ite ?_ ?_
  · refine Upd.step (State.startBegin_upd ..) rfl ?_
    exact Upd.refl _ _
  · exact Upd.refl _ _

theorem execResetNRise_upd (s : State) : UpdO 0x7fffffe34 s (execResetNRise s) := by
  unfold execResetNRise
  refine UpdO.next ?_
  refine Upd.step (State.startIfReady_upd ..) rfl ?_
  refine Upd.step (Upd.set_start _ _) rfl ?_
  exact Upd.refl _ _

theorem State.drainAll_upd (s : State) : Upd 0x1000000 s (State.drainAll s) := by
  unfold State.drainAll
  refine Upd.foldl ?_ (fun y1 a2 h3 => ?_)
  · exact Upd.refl _ _
  · extract_lets +onlyGivenNames x4
    clear_value x4
    extract_lets +onlyGivenNames x5
    refine cut (P := Upd 0x1000000 s x5) ?_ (fun h6 => ?_)
    · unfold x5
      refine Upd.foldl ?_ (fun y7 a8 h9 => ?_)
      · exact h3
      · refine Upd.step (State.storeLine_upd ..) rfl ?_
        exact h9
    clear_value x5
    refine Upd.step (State.setDdr_upd ..) rfl ?_
    exact h6

theorem retentionDone_upd (s : State) : Upd 0x7fffffeb4 s (retentionDone s) := by
  unfold retentionDone
  refine Upd.ite ?_ ?_
  · exact Upd.refl _ _
  · extract_lets +onlyGivenNames x1
    refine cut (P := Upd 0x7fffffeb4 s x1) ?_ (fun h2 => ?_)
    · unfold x1
      refine Upd.step (State.holdHub_upd ..) rfl ?_
      refine Upd.step (State.drainAll_upd ..) rfl ?_
      exact Upd.refl _ _
    clear_value x1
    refine Upd.ite ?_ ?_
    · refine Upd.step (State.wf_upd ..) rfl ?_
      refine Upd.step (Upd.set_start _ _) rfl ?_
      exact h2
    · refine Upd.step (State.startIfReady_upd ..) rfl ?_
      exact h2

theorem execRetentionDone_upd (s : State) : UpdO 0x7fffffeb4 s (execRetentionDone s) := by
  unfold execRetentionDone
  refine UpdO.next ?_
  refine Upd.step (retentionDone_upd ..) rfl ?_
  exact Upd.refl _ _

theorem startCmd_upd (v : Word) (s : State) : Upd 0x7fffffeb4 s (startCmd v s) := by
  unfold startCmd
  split
  · refine Upd.step (State.coldStart_upd ..) rfl ?_
    refine Upd.step (State.flush_upd ..) rfl ?_
    exact Upd.refl _ _
  · refine Upd.ite ?_ ?_
    · exact Upd.refl _ _
    · refine Upd.step (State.retain_upd ..) rfl ?_
      exact Upd.refl _ _
  · exact Upd.refl _ _

theorem execStartCmdCold_upd (r : Req) (v : Word) (s : State) : UpdO 0x7ffffffb4 s (execStartCmdCold r v s) := by
  unfold execStartCmdCold
  refine UpdO.next ?_
  refine Upd.gated _ _ _ rfl ?_ (fun y1 h2 => ?_)
  · exact Upd.refl _ _
  · refine Upd.step (startCmd_upd ..) rfl ?_
    exact h2

theorem execStartCmdWarm_upd (r : Req) (v : Word) (s : State) : UpdO 0x7ffffffb4 s (execStartCmdWarm r v s) := by
  unfold execStartCmdWarm
  refine UpdO.next ?_
  refine Upd.gated _ _ _ rfl ?_ (fun y1 h2 => ?_)
  · exact Upd.refl _ _
  · refine Upd.step (startCmd_upd ..) rfl ?_
    exact h2

theorem execPowerOn_upd (vbat : Bool) (gang : Bool) (gangId : Fin 16) (boot : Word) (s : State) : UpdO 0x7fffffe34 s (execPowerOn vbat gang gangId boot s) := by
  unfold execPowerOn
  extract_lets +onlyGivenNames x1
  clear_value x1
  extract_lets +onlyGivenNames x2
  clear_value x2
  extract_lets +onlyGivenNames x3
  refine cut (P := Upd 0x7fffffe34 s x3) ?_ (fun h4 => ?_)
  · unfold x3
    refine Upd.step (Upd.set_cfg_start _ _ _) rfl ?_
    exact Upd.refl _ _
  clear_value x3
  refine UpdO.next ?_
  refine Upd.step (State.wf_upd ..) rfl ?_
  refine Upd.step (State.coldStart_upd ..) rfl ?_
  exact h4

theorem execBrownOut_upd (s : State) : UpdO 0x88201080 s (execBrownOut s) := by
  unfold execBrownOut
  refine UpdO.next ?_
  extract_lets +onlyGivenNames x1
  refine cut (P := Upd 0x88201080 s x1) ?_ (fun h2 => ?_)
  · unfold x1
    refine Upd.step (State.holdHub_upd ..) rfl ?_
    exact Upd.refl _ _
  clear_value x1
  refine Upd.step (Upd.set_start _ _) rfl ?_
  exact h2

theorem State.tripHold_upd (s : State) (cause : Nat) : Upd 0x81500100 s (State.tripHold s cause) := by
  unfold State.tripHold
  extract_lets +onlyGivenNames x1
  refine cut (P := Upd 0x81500100 s x1) ?_ (fun h2 => ?_)
  · unfold x1
    refine Upd.step (State.safeState_upd ..) rfl ?_
    exact Upd.refl _ _
  clear_value x1
  refine Upd.step (Upd.set_start _ _) rfl ?_
  exact h2

theorem execRailOutOfRange_upd (g : Fin 5) (s : State) : UpdO 0x81500100 s (execRailOutOfRange g s) := by
  unfold execRailOutOfRange
  refine UpdO.next ?_
  refine Upd.ite ?_ ?_
  · exact Upd.refl _ _
  · refine Upd.ite ?_ ?_
    · refine Upd.step (State.tripHold_upd ..) rfl ?_
      exact Upd.refl _ _
    · refine Upd.step (Upd.set_start _ _) rfl ?_
      exact Upd.refl _ _

end Sys2Proof.Machine
end

