-- ==== Sys2Proof/Laws/FrameAuth.lean ====
section
/-! SUPPORT. What each operation of Sys2Proof/Machine/Auth.lean may change: the fields whose bits are set, in the order of State. -/
namespace Sys2Proof.Machine

theorem State.pkePass_upd (s : State) (a1 : PkeWhy) : Upd 0x7fffffeb4 s (State.pkePass s a1) := by
  unfold State.pkePass
  split
  · refine Upd.ite ?_ ?_
    · refine Upd.step (State.pkeStart_upd ..) rfl ?_
      exact Upd.refl _ _
    · refine Upd.step (State.lcApply_upd ..) rfl ?_
      exact Upd.refl _ _
  · refine Upd.ite ?_ ?_
    · extract_lets +onlyGivenNames x1
      clear_value x1
      refine Upd.step (State.authEnd_upd ..) rfl ?_
      refine Upd.step (State.wf_upd ..) rfl ?_
      refine Upd.step (State.wf_upd ..) rfl ?_
      exact Upd.refl _ _
    · refine Upd.step (State.authFail_upd ..) rfl ?_
      exact Upd.refl _ _
  · refine Upd.ite ?_ ?_
    · refine Upd.step (State.pkeStart_upd ..) rfl ?_
      exact Upd.refl _ _
    · refine Upd.ite ?_ ?_
      · extract_lets +onlyGivenNames x2
        clear_value x2
        extract_lets +onlyGivenNames x3
        refine cut (P := Upd 0x7fffffeb4 s x3) ?_ (fun h4 => ?_)
        · unfold x3
          refine Upd.step (Upd.set_sec _ _) rfl ?_
          exact Upd.refl _ _
        clear_value x3
        extract_lets +onlyGivenNames x5
        refine cut (P := Upd 0x7fffffeb4 s x5) ?_ (fun h6 => ?_)
        · unfold x5
          refine Upd.step (State.setF_upd ..) rfl ?_
          refine Upd.step (State.setF_upd ..) rfl ?_
          exact h4
        clear_value x5
        refine Upd.step (State.authEnd_upd ..) rfl ?_
        refine Upd.step (State.recordO_upd ..) rfl ?_
        exact h6
      · refine Upd.step (State.authFail_upd ..) rfl ?_
        exact Upd.refl _ _
  · refine Upd.step (State.coldStart_upd ..) rfl ?_
    refine Upd.step (Upd.set_sec _ _) rfl ?_
    exact Upd.refl _ _

theorem State.pkeDeny_upd (s : State) (a1 : PkeWhy) : Upd 0x18000200 s (State.pkeDeny s a1) := by
  unfold State.pkeDeny
  split
  · refine Upd.step (State.lcEnd_upd ..) rfl ?_
    exact Upd.refl _ _
  · refine Upd.step (State.authFail_upd ..) rfl ?_
    exact Upd.refl _ _

theorem pkeDone_upd (op : Nat) (res : Nat) (s : State) : Upd 0x7fffffeb4 s (pkeDone op res s) := by
  unfold pkeDone
  refine Upd.ite ?_ ?_
  · exact Upd.refl _ _
  · extract_lets +onlyGivenNames x1
    refine cut (P := Upd 0x7fffffeb4 s x1) ?_ (fun h2 => ?_)
    · unfold x1
      refine Upd.step (State.wf_upd ..) rfl ?_
      refine Upd.step (State.wf_upd ..) rfl ?_
      exact Upd.refl _ _
    clear_value x1
    split
    · refine Upd.ite ?_ ?_
      · extract_lets +onlyGivenNames x3
        clear_value x3
        extract_lets +onlyGivenNames x4
        refine cut (P := Upd 0x7fffffeb4 s x4) ?_ (fun h5 => ?_)
        · unfold x4
          refine Upd.step (Upd.set_sec _ _) rfl ?_
          exact h2
        clear_value x4
        extract_lets +onlyGivenNames x6
        refine cut (P := Upd 0x7fffffeb4 s x6) ?_ (fun h7 => ?_)
        · unfold x6
          refine Upd.ite ?_ ?_
          · refine Upd.step (State.pkePass_upd ..) rfl ?_
            exact h5
          · refine Upd.step (State.pkeDeny_upd ..) rfl ?_
            exact h5
        clear_value x6
        refine Upd.step (State.wf_upd ..) rfl ?_
        exact h7
      · exact h2
    · exact h2

theorem execPkeOpDone_upd (op : Fin 6) (res : Fin 6) (s : State) : UpdO 0x7fffffeb4 s (execPkeOpDone op res s) := by
  unfold execPkeOpDone
  refine UpdO.next ?_
  refine Upd.ite ?_ ?_
  · exact Upd.refl _ _
  · refine Upd.step (pkeDone_upd ..) rfl ?_
    exact Upd.refl _ _

end Sys2Proof.Machine
end

