-- ==== Sys2Proof/Laws/FrameCommonsOps.lean ====
section
/-! SUPPORT. What each operation of Sys2Proof/Machine/CommonsOps.lean may change: the fields whose bits are set, in the order of State. -/
namespace Sys2Proof.Machine

theorem State.setReq_upd (s : State) (c : Nat) (q : Option CmdReq) : Upd 0x400000000 s (State.setReq s c q) := by
  unfold State.setReq
  refine Upd.step (Upd.set_com _ _) rfl ?_
  exact Upd.refl _ _

theorem State.cmnSend_upd (s : State) (c : Nat) (q : CmdReq) : Upd 0x402018300 s (State.cmnSend s c q) := by
  unfold State.cmnSend
  split
  · exact Upd.refl _ _
  · refine Upd.ite ?_ ?_
    · refine Upd.step (State.setReq_upd ..) rfl ?_
      split
      · refine Upd.foldl ?_ (fun y1 a2 h3 => ?_)
        · exact Upd.refl _ _
        · refine Upd.step (State.mbxPush_upd ..) rfl ?_
          exact h3
      · exact Upd.refl _ _
    · refine Upd.step (State.setReq_upd ..) rfl ?_
      exact Upd.refl _ _

theorem State.cmnReply_upd (s : State) (c : Nat) (q : CmdReq) (st : Nat) (d : Nat) (ws : List Word) : Upd 0x402018300 s (State.cmnReply s c q st d ws) := by
  unfold State.cmnReply
  refine Upd.step (State.cmnSend_upd ..) rfl ?_
  exact Upd.refl _ _

theorem State.cmnPop_upd {s t : State} {c : Nat} {w : Word} (e : s.cmnPop c = some (w, t)) : Upd 0x2018300 s t := by
  unfold State.cmnPop at e
  split at e
  · cases e
  · rename_i b _
    by_cases hq : (if b then (s.mbxQ c).toB else (s.mbxQ c).toA).isEmpty = true
    · rw [if_pos hq] at e
      cases e
    · rw [if_neg hq] at e
      injection e with e
      exact UpdP.out (State.mbxPop_upd s c b) e

theorem cmnWords_upd (c n : Nat) (q : CmdReq) (s : State) : UpdP 0x2018300 s (cmnWords c n q s) := by
  induction n generalizing q s with
  | zero => exact Upd.refl _ _
  | succ n ih =>
    unfold cmnWords
    split
    · rename_i he
      exact UpdP.step (ih ..) (by rfl) (Upd.step (State.cmnPop_upd he) (by rfl) (Upd.refl _ _))
    · exact Upd.refl _ _

theorem cmnDrain_upd (c n : Nat) (s : State) : Upd 0x2018300 s (cmnDrain c n s) := by
  induction n generalizing s with
  | zero => exact Upd.refl _ _
  | succ n ih =>
    unfold cmnDrain
    split
    · rename_i he
      exact Upd.step (ih ..) (by rfl) (Upd.step (State.cmnPop_upd he) (by rfl) (Upd.refl _ _))
    · exact Upd.refl _ _

theorem State.cmnCheck_upd (s : State) (c : Nat) (q : CmdReq) : Upd 0x402018300 s (State.cmnCheck s c q) := by
  unfold State.cmnCheck
  refine Upd.ite ?_ ?_
  · refine Upd.step (State.cmnReply_upd ..) rfl ?_
    exact Upd.refl _ _
  · split
    · refine Upd.step (State.cmnReply_upd ..) rfl ?_
      exact Upd.refl _ _
    · refine Upd.ite ?_ ?_
      · refine Upd.step (State.setReq_upd ..) rfl ?_
        exact Upd.refl _ _
      · refine Upd.step (State.cmnReply_upd ..) rfl ?_
        exact Upd.refl _ _

theorem State.cmnTake_upd (s : State) (c : Nat) (q : CmdReq) : Upd 0x402018300 s (State.cmnTake s c q) := by
  unfold State.cmnTake
  split
  · rename_i v1 v2 v3 v4
    refine cut (P := Upd 0x402018300 s v3) (UpdP.out ?_ v4) (fun h5 => ?_)
    · refine UpdP.step (cmnWords_upd ..) rfl ?_
      exact Upd.refl _ _
    refine Upd.ite ?_ ?_
    · refine Upd.step (State.cmnCheck_upd ..) rfl ?_
      exact h5
    · refine Upd.step (State.setReq_upd ..) rfl ?_
      exact h5

theorem headerPop_upd (c : Nat) (s : State) : Upd 0x402018300 s (headerPop c s) := by
  unfold headerPop
  refine Upd.ite ?_ ?_
  · exact Upd.refl _ _
  · split
    · refine Upd.ite ?_ ?_
      · refine Upd.step (State.cmnSend_upd ..) rfl ?_
        exact Upd.refl _ _
      · refine Upd.ite ?_ ?_
        · exact Upd.refl _ _
        · refine Upd.step (State.cmnTake_upd ..) rfl ?_
          exact Upd.refl _ _
    · exact Upd.refl _ _
    · split
      · rename_i v1 v2
        exact Upd.refl _ _
      · rename_i v3 v4 v5 v6
        refine cut (P := Upd 0x402018300 s v5) (Upd.step (State.cmnPop_upd v6) rfl ?_) (fun h7 => ?_)
        · exact Upd.refl _ _
        extract_lets +onlyGivenNames x8
        clear_value x8
        extract_lets +onlyGivenNames x9
        clear_value x9
        extract_lets +onlyGivenNames x10
        refine cut (P := Upd 0x402018300 s x10) ?_ (fun h11 => ?_)
        · unfold x10
          refine Upd.step (Upd.set_com _ _) rfl ?_
          exact h7
        clear_value x10
        refine Upd.ite ?_ ?_
        · refine Upd.step (State.cmnSend_upd ..) rfl ?_
          refine Upd.step (cmnDrain_upd ..) rfl ?_
          exact h11
        · refine Upd.step (State.cmnTake_upd ..) rfl ?_
          exact h11

theorem execCommonsHeaderPop_upd (c : Fin 128) (s : State) : UpdO 0x402018300 s (execCommonsHeaderPop c s) := by
  unfold execCommonsHeaderPop
  refine UpdO.next ?_
  refine Upd.step (headerPop_upd ..) rfl ?_
  exact Upd.refl _ _

theorem lengthTimeout_upd (c : Nat) (s : State) : Upd 0x402018300 s (lengthTimeout c s) := by
  unfold lengthTimeout
  split
  · refine Upd.ite ?_ ?_
    · exact Upd.refl _ _
    · refine Upd.step (State.cmnReply_upd ..) rfl ?_
      exact Upd.refl _ _
  · exact Upd.refl _ _

theorem execCommonsLengthTimeout_upd (c : Fin 128) (s : State) : UpdO 0x402018300 s (execCommonsLengthTimeout c s) := by
  unfold execCommonsLengthTimeout
  refine UpdO.next ?_
  refine Upd.step (lengthTimeout_upd ..) rfl ?_
  exact Upd.refl _ _

theorem Upd.runCmd {m : Nat} {s x : State} {f : CmdReq → State → Ans × State} (c g k : Nat) (e : 0x402018300 &&& m = 0x402018300) (h : Upd m s x)
    (hf : ∀ q y, Upd m s y → UpdP m s (f q y)) : Upd m s (x.runCmd c g k f) := by
  unfold State.runCmd
  split
  · exact h
  · rename_i q _
    refine Upd.ite h (Upd.ite (Upd.step (State.cmnReply_upd ..) e h) ?_)
    have hq := hf q x h
    split
    · rename_i he
      exact UpdP.out hq he
    · rename_i he
      exact Upd.step (State.cmnReply_upd ..) e (UpdP.out hq he)

theorem State.setPhase_upd (s : State) (c : Nat) (n : Nat) (m : List Nat) : Upd 0x400000000 s (State.setPhase s c n m) := by
  unfold State.setPhase
  split
  · refine Upd.step (State.setReq_upd ..) rfl ?_
    exact Upd.refl _ _
  · exact Upd.refl _ _

theorem UpdP.checked {m : Nat} {s x : State} {l : List (Bool × Nat × Nat)} {k : Ans × State} (h : Upd m s x) (g : UpdP m s k) :
    UpdP m s (checked l x k) := by
  unfold Machine.checked
  split
  · exact h
  · exact g

theorem restartComplete_upd (seq : Nat) (s : State) : Upd 0x50e018300 s (restartComplete seq s) := by
  unfold restartComplete
  refine Upd.ite ?_ ?_
  · exact Upd.refl _ _
  · extract_lets +onlyGivenNames x1
    refine cut (P := Upd 0x50e018300 s x1) ?_ (fun h2 => ?_)
    · unfold x1
      refine Upd.step (State.coresRelease_upd ..) rfl ?_
      exact Upd.refl _ _
    clear_value x1
    extract_lets +onlyGivenNames x3
    refine cut (P := Upd 0x50e018300 s x3) ?_ (fun h4 => ?_)
    · unfold x3
      refine Upd.step (State.wf_upd ..) rfl ?_
      refine Upd.step (hbWrite_upd ..) rfl ?_
      exact h2
    clear_value x3
    extract_lets +onlyGivenNames x5
    refine cut (P := Upd 0x50e018300 s x5) ?_ (fun h6 => ?_)
    · unfold x5
      refine Upd.step (Upd.set_cfg_sec _ _ _) rfl ?_
      exact h4
    clear_value x5
    refine Upd.foldl ?_ (fun y7 a8 h9 => ?_)
    · exact h6
    · split
      · refine Upd.ite ?_ ?_
        · refine Upd.step (State.cmnSend_upd ..) rfl ?_
          exact h9
        · refine Upd.step (State.cmnReply_upd ..) rfl ?_
          exact h9
      · exact h9

theorem execCommonsRestartComplete_upd (seq : BitVec 16) (s : State) : UpdO 0x50e018300 s (execCommonsRestartComplete seq s) := by
  unfold execCommonsRestartComplete
  refine UpdO.next ?_
  refine Upd.step (restartComplete_upd ..) rfl ?_
  exact Upd.refl _ _

end Sys2Proof.Machine
end

