-- ==== Sys2Proof/Laws/FrameLink.lean ====
section
/-! SUPPORT. What each operation of Sys2Proof/Machine/Link.lean may change: the fields whose bits are set, in the order of State. -/
namespace Sys2Proof.Machine

theorem execComWatchdog_upd (l : Fin 512) (s : State) : UpdO 0x338380 s (execComWatchdog l s) := by
  unfold execComWatchdog
  refine UpdO.next ?_
  refine Upd.ite ?_ ?_
  · refine Upd.step (State.linkEvt_upd ..) rfl ?_
    refine Upd.step (State.toHelloWait_upd ..) rfl ?_
    exact Upd.refl _ _
  · exact Upd.refl _ _

theorem execSkpReceive_upd (l : Fin 512) (afterCom : Bool) (run : Nat) (o : RxOpen) (s : State) : UpdO 0x100200 s (execSkpReceive l afterCom run o s) := by
  unfold execSkpReceive
  refine UpdO.next ?_
  refine Upd.ite ?_ ?_
  · refine Upd.step (State.spoil_upd ..) rfl ?_
    refine Upd.step (State.linkCnt_upd ..) rfl ?_
    exact Upd.refl _ _
  · exact Upd.refl _ _

theorem linkSetIn_upd (l : Nat) (set : Nat) (s : State) : Upd 0x338380 s (linkSetIn l set s) := by
  unfold linkSetIn
  extract_lets +onlyGivenNames x1
  clear_value x1
  extract_lets +onlyGivenNames x2
  clear_value x2
  refine Upd.ite ?_ ?_
  · exact Upd.refl _ _
  · refine Upd.ite ?_ ?_
    · refine Upd.step (State.linkCnt_upd ..) rfl ?_
      exact Upd.refl _ _
    · refine Upd.ite ?_ ?_
      · refine Upd.step (State.linkEvt_upd ..) rfl ?_
        refine Upd.step (State.toHelloWait_upd ..) rfl ?_
        exact Upd.refl _ _
      · refine Upd.ite ?_ ?_
        · exact Upd.refl _ _
        · extract_lets +onlyGivenNames x3
          clear_value x3
          extract_lets +onlyGivenNames x4
          clear_value x4
          extract_lets +onlyGivenNames x5
          refine cut (P := Upd 0x338380 s x5) ?_ (fun h6 => ?_)
          · unfold x5
            refine Upd.step (State.limitsIn_upd ..) rfl ?_
            refine Upd.step (State.ackSeq_upd ..) rfl ?_
            exact Upd.refl _ _
          clear_value x5
          refine Upd.ite ?_ ?_
          · refine Upd.step (State.nakIn_upd ..) rfl ?_
            exact h6
          · exact h6

theorem Upd.setIn {m : Nat} {s x : State} {k : State → State} (l : Nat) (bad inFrame : Bool) (e : 0x100000 &&& m = 0x100000) (h : Upd m s x)
    (g : ∀ y, Upd m s y → Upd m s (k y)) : Upd m s (setIn l bad inFrame k x) := by
  have hi := Upd.mono (m := 0x100000) (UpdP.snd (State.innerEnds_upd x l bad inFrame)) (by rfl)
  unfold Machine.setIn
  exact Upd.ite (Upd.step hi e h) (g _ (Upd.step hi e h))

theorem execLinkSetReceive_upd (l : Fin 512) (set : BitVec 48) (bad : Bool) (inFrame : Bool) (s : State) : UpdO 0x338380 s (execLinkSetReceive l set bad inFrame s) := by
  unfold execLinkSetReceive
  refine UpdO.next ?_
  refine Upd.setIn _ _ _ rfl ?_ (fun y1 h2 => ?_)
  · exact Upd.refl _ _
  · refine Upd.step (linkSetIn_upd ..) rfl ?_
    exact h2

theorem State.timeFail_upd (s : State) (l : Nat) : Upd 0x118300 s (State.timeFail s l) := by
  unfold State.timeFail
  refine Upd.step (State.linkEvt_upd ..) rfl ?_
  refine Upd.step (State.linkCnt_upd ..) rfl ?_
  refine Upd.step (State.setLk_upd ..) rfl ?_
  exact Upd.refl _ _

theorem timeSetIn_upd (l : Nat) (set : Nat) (ph : Nat) (wait : Nat) (s : State) : Upd 0x118300 s (timeSetIn l set ph wait s) := by
  unfold timeSetIn
  refine Upd.ite ?_ ?_
  · exact Upd.refl _ _
  · refine Upd.ite ?_ ?_
    · refine Upd.step (State.linkCnt_upd ..) rfl ?_
      exact Upd.refl _ _
    · extract_lets +onlyGivenNames x1
      clear_value x1
      split
      · exact Upd.refl _ _
      · refine Upd.ite ?_ ?_
        · exact Upd.refl _ _
        · extract_lets +onlyGivenNames x2
          clear_value x2
          extract_lets +onlyGivenNames x3
          clear_value x3
          extract_lets +onlyGivenNames x4
          clear_value x4
          refine Upd.ite ?_ ?_
          · refine Upd.step (State.timeFail_upd ..) rfl ?_
            exact Upd.refl _ _
          · extract_lets +onlyGivenNames x5
            clear_value x5
            extract_lets +onlyGivenNames x6
            refine cut (P := Upd 0x118300 s x6) ?_ (fun h7 => ?_)
            · unfold x6
              refine Upd.step (State.wr_upd ..) rfl ?_
              refine Upd.step (State.setLk_upd ..) rfl ?_
              exact Upd.refl _ _
            clear_value x6
            refine Upd.step (State.sendItem_upd ..) rfl ?_
            exact h7

theorem execTimeSetReceive_upd (l : Fin 512) (set : BitVec 96) (bad : Bool) (inFrame : Bool) (ph : Fin 256) (wait : Nat) (s : State) : UpdO 0x118300 s (execTimeSetReceive l set bad inFrame ph wait s) := by
  unfold execTimeSetReceive
  refine UpdO.next ?_
  refine Upd.setIn _ _ _ rfl ?_ (fun y1 h2 => ?_)
  · exact Upd.refl _ _
  · refine Upd.step (timeSetIn_upd ..) rfl ?_
    exact h2

theorem frameRx_upd (l : Nat) (f : RxFrame) (s : State) : Upd 0x118300 s (frameRx l f s) := by
  unfold frameRx
  refine Upd.ite ?_ ?_
  · refine Upd.step (State.frameIn_upd ..) rfl ?_
    refine UpdP.snd ?_
    refine UpdP.step (State.frameEnds_upd ..) rfl ?_
    exact Upd.refl _ _
  · exact Upd.refl _ _

theorem execNormalFrameReceive_upd (l : Fin 512) (f : RxFrame) (s : State) : UpdO 0x118300 s (execNormalFrameReceive l f s) := by
  unfold execNormalFrameReceive
  refine UpdO.next ?_
  refine Upd.step (frameRx_upd ..) rfl ?_
  exact Upd.refl _ _

theorem helloGrant_upd (l : Nat) (s : State) : Upd 0x318300 s (helloGrant l s) := by
  unfold helloGrant
  extract_lets +onlyGivenNames x1
  clear_value x1
  split
  · exact Upd.refl _ _
  · extract_lets +onlyGivenNames x2
    refine cut (P := Upd 0x318300 s x2) ?_ (fun h3 => ?_)
    · unfold x2
      refine Upd.step (State.setLk_upd ..) rfl ?_
      exact Upd.refl _ _
    clear_value x2
    refine Upd.ite ?_ ?_
    · refine Upd.step (State.helloAck_upd ..) rfl ?_
      exact h3
    · refine Upd.ite ?_ ?_
      · exact h3
      · extract_lets +onlyGivenNames x4
        clear_value x4
        extract_lets +onlyGivenNames x5
        refine cut (P := Upd 0x318300 s x5) ?_ (fun h6 => ?_)
        · unfold x5
          refine Upd.step (State.wr64_upd ..) rfl ?_
          exact h3
        clear_value x5
        extract_lets +onlyGivenNames x7
        clear_value x7
        extract_lets +onlyGivenNames x8
        clear_value x8
        extract_lets +onlyGivenNames x9
        clear_value x9
        extract_lets +onlyGivenNames x10
        refine cut (P := Upd 0x318300 s x10) ?_ (fun h11 => ?_)
        · unfold x10
          refine Upd.step (State.returnGrans_upd ..) rfl ?_
          exact h6
        clear_value x10
        extract_lets +onlyGivenNames x12
        clear_value x12
        extract_lets +onlyGivenNames x13
        refine cut (P := Upd 0x318300 s x13) ?_ (fun h14 => ?_)
        · unfold x13
          refine Upd.foldl ?_ (fun y15 a16 h17 => ?_)
          · exact h11
          · extract_lets +onlyGivenNames x18
            clear_value x18
            refine Upd.step (State.clearGran_upd ..) rfl ?_
            refine Upd.step (State.wr_upd ..) rfl ?_
            exact h17
        clear_value x13
        extract_lets +onlyGivenNames x19
        clear_value x19
        extract_lets +onlyGivenNames x20
        clear_value x20
        extract_lets +onlyGivenNames x21
        refine cut (P := Upd 0x318300 s x21) ?_ (fun h22 => ?_)
        · unfold x21
          refine Upd.ite ?_ ?_
          · refine Upd.step (State.setLk_upd ..) rfl ?_
            exact h6
          · refine Upd.step (State.setLk_upd ..) rfl ?_
            exact h14
        clear_value x21
        extract_lets +onlyGivenNames x23
        clear_value x23
        extract_lets +onlyGivenNames x24
        refine cut (P := Upd 0x318300 s x24) ?_ (fun h25 => ?_)
        · unfold x24
          refine Upd.step (State.wf_upd ..) rfl ?_
          exact h22
        clear_value x24
        extract_lets +onlyGivenNames x26
        refine cut (P := Upd 0x318300 s x26) ?_ (fun h27 => ?_)
        · unfold x26
          refine Upd.step (State.helloAck_upd ..) rfl ?_
          exact h25
        clear_value x26
        refine Upd.step (State.linkEvt_upd ..) rfl ?_
        refine Upd.step (State.wf_upd ..) rfl ?_
        exact h27

theorem execHelloGrant_upd (l : Fin 512) (s : State) : UpdO 0x318300 s (execHelloGrant l s) := by
  unfold execHelloGrant
  refine UpdO.next ?_
  refine Upd.step (helloGrant_upd ..) rfl ?_
  exact Upd.refl _ _

theorem execFrameAbortReceive_upd (l : Fin 512) (s : State) : UpdO 0x100200 s (execFrameAbortReceive l s) := by
  unfold execFrameAbortReceive
  refine UpdO.next ?_
  refine Upd.ite ?_ ?_
  · refine Upd.step (State.linkCnt_upd ..) rfl ?_
    refine UpdP.snd ?_
    refine UpdP.step (State.frameEnds_upd ..) rfl ?_
    exact Upd.refl _ _
  · exact Upd.refl _ _

theorem execStraySymbolReceive_upd (l : Fin 512) (o : RxOpen) (s : State) : UpdO 0x100200 s (execStraySymbolReceive l o s) := by
  unfold execStraySymbolReceive
  refine UpdO.next ?_
  refine Upd.ite ?_ ?_
  · refine Upd.step (State.spoil_upd ..) rfl ?_
    refine Upd.step (State.linkCnt_upd ..) rfl ?_
    exact Upd.refl _ _
  · exact Upd.refl _ _

theorem State.bellEnds_upd (s : State) (l : Nat) (f : RxFrame) (inFrame : Bool) : Upd 0x118300 s (State.bellEnds s l f inFrame) := by
  unfold State.bellEnds
  refine Upd.step (State.bellCheck_upd ..) rfl ?_
  refine Upd.ite ?_ ?_
  · refine Upd.step (State.spoil_upd ..) rfl ?_
    exact Upd.refl _ _
  · exact Upd.refl _ _

theorem bellIn_upd (l : Nat) (f : RxFrame) (second : Bool) (inFrame : Bool) (s : State) : Upd 0x118300 s (bellIn l f second inFrame s) := by
  unfold bellIn
  refine Upd.ite ?_ ?_
  · extract_lets +onlyGivenNames x1
    clear_value x1
    split
    · extract_lets +onlyGivenNames x2
      refine cut (P := Upd 0x118300 s x2) ?_ (fun h3 => ?_)
      · unfold x2
        refine Upd.step (State.setLk_upd ..) rfl ?_
        exact Upd.refl _ _
      clear_value x2
      extract_lets +onlyGivenNames x4
      refine cut (P := Upd 0x118300 s x4) ?_ (fun h5 => ?_)
      · unfold x4
        refine Upd.ite ?_ ?_
        · refine Upd.step (State.linkCnt_upd ..) rfl ?_
          exact h3
        · exact h3
      clear_value x4
      refine Upd.ite ?_ ?_
      · refine Upd.ite ?_ ?_
        · exact h5
        · refine Upd.step (State.bellEnds_upd ..) rfl ?_
          exact h5
      · refine Upd.step (State.bellEnds_upd ..) rfl ?_
        exact h5
  · refine Upd.step (State.bellEnds_upd ..) rfl ?_
    exact Upd.refl _ _

theorem bellRx_upd (l : Nat) (f : RxFrame) (second : Bool) (inFrame : Bool) (s : State) : Upd 0x118300 s (bellRx l f second inFrame s) := by
  unfold bellRx
  refine Upd.ite ?_ ?_
  · refine Upd.step (bellIn_upd ..) rfl ?_
    refine UpdP.snd ?_
    refine UpdP.step (State.innerEnds_upd ..) rfl ?_
    exact Upd.refl _ _
  · exact Upd.refl _ _

theorem execBellCopyReceive_upd (l : Fin 512) (f : RxFrame) (second : Bool) (inFrame : Bool) (s : State) : UpdO 0x118300 s (execBellCopyReceive l f second inFrame s) := by
  unfold execBellCopyReceive
  refine UpdO.next ?_
  refine Upd.step (bellRx_upd ..) rfl ?_
  exact Upd.refl _ _

theorem frameStart_upd (l : Nat) (ty : Nat) (s : State) : Upd 0x100300 s (frameStart l ty s) := by
  unfold frameStart
  extract_lets +onlyGivenNames x1
  clear_value x1
  split
  · exact Upd.refl _ _
  · refine Upd.ite ?_ ?_
    · refine Upd.step (State.atDrop_upd ..) rfl ?_
      refine Upd.step (State.setLk_upd ..) rfl ?_
      exact Upd.refl _ _
    · refine Upd.ite ?_ ?_
      · extract_lets +onlyGivenNames x2
        clear_value x2
        extract_lets +onlyGivenNames x3
        refine cut (P := Upd 0x100300 s x3) ?_ (fun h4 => ?_)
        · unfold x3
          refine Upd.step (State.setLk_upd ..) rfl ?_
          exact Upd.refl _ _
        clear_value x3
        refine Upd.step (State.sendFrame_upd ..) rfl ?_
        exact h4
      · exact Upd.refl _ _

theorem execNormalFrameTransmit_upd (l : Fin 512) (ty : BitVec 4) (s : State) : UpdO 0x100300 s (execNormalFrameTransmit l ty s) := by
  unfold execNormalFrameTransmit
  refine UpdO.next ?_
  refine Upd.step (frameStart_upd ..) rfl ?_
  exact Upd.refl _ _

theorem execBellFrameTransmit_upd (l : Fin 512) (s : State) : UpdO 0x100300 s (execBellFrameTransmit l s) := by
  unfold execBellFrameTransmit
  refine UpdO.next ?_
  refine Upd.step (State.bellSend_upd ..) rfl ?_
  exact Upd.refl _ _

theorem execSkpTransmit_upd (l : Fin 512) (s : State) : UpdO 0x100300 s (execSkpTransmit l s) := by
  unfold execSkpTransmit
  refine UpdO.next ?_
  refine Upd.ite ?_ ?_
  · refine Upd.step (State.sendLane_upd ..) rfl ?_
    refine Upd.step (State.bellSend_upd ..) rfl ?_
    exact Upd.refl _ _
  · exact Upd.refl _ _

theorem execLinkSetTransmit_upd (l : Fin 512) (s : State) : UpdO 0x100300 s (execLinkSetTransmit l s) := by
  unfold execLinkSetTransmit
  refine UpdO.next ?_
  refine Upd.ite ?_ ?_
  · refine Upd.step (State.sendLinkSet_upd ..) rfl ?_
    exact Upd.refl _ _
  · refine Upd.ite ?_ ?_
    · refine Upd.step (State.sendRst_upd ..) rfl ?_
      exact Upd.refl _ _
    · exact Upd.refl _ _

theorem execNakRepeat_upd (l : Fin 512) (s : State) : UpdO 0x100300 s (execNakRepeat l s) := by
  unfold execNakRepeat
  refine UpdO.next ?_
  refine Upd.ite ?_ ?_
  · refine Upd.step (State.sendLinkSet_upd ..) rfl ?_
    exact Upd.refl _ _
  · exact Upd.refl _ _

theorem execReplayTimeout_upd (l : Fin 512) (s : State) : UpdO 0x338380 s (execReplayTimeout l s) := by
  unfold execReplayTimeout
  refine UpdO.next ?_
  refine Upd.ite ?_ ?_
  · refine Upd.step (State.replayNow_upd ..) rfl ?_
    exact Upd.refl _ _
  · exact Upd.refl _ _

theorem linkCfgWrite_upd (l : Nat) (v : Word) (s : State) : Upd 0x338380 s (linkCfgWrite l v s) := by
  unfold linkCfgWrite
  extract_lets +onlyGivenNames x1
  refine cut (P := Upd 0x338380 s x1) ?_ (fun h2 => ?_)
  · unfold x1
    refine Upd.step (State.wr_upd ..) rfl ?_
    exact Upd.refl _ _
  clear_value x1
  extract_lets +onlyGivenNames x3
  clear_value x3
  refine Upd.ite ?_ ?_
  · refine Upd.step (State.toResync_upd ..) rfl ?_
    exact h2
  · exact h2

theorem execLinkRestart_upd (r : Req) (l : Fin 512) (v : Word) (s : State) : UpdO 0x338380 s (execLinkRestart r l v s) := by
  unfold execLinkRestart
  refine UpdO.next ?_
  refine Upd.gated _ _ _ rfl ?_ (fun y1 h2 => ?_)
  · exact Upd.refl _ _
  · refine Upd.step (linkCfgWrite_upd ..) rfl ?_
    exact h2

theorem execResyncPeriodEnd_upd (l : Fin 512) (s : State) : UpdO 0x338380 s (execResyncPeriodEnd l s) := by
  unfold execResyncPeriodEnd
  refine UpdO.ite ?_ ?_
  · refine UpdO.next ?_
    exact Upd.refl _ _
  · refine UpdO.ite ?_ ?_
    · refine UpdO.next ?_
      refine Upd.step (State.linkEvt_upd ..) rfl ?_
      refine Upd.step (State.linkMove_upd ..) rfl ?_
      exact Upd.refl _ _
    · refine UpdO.next ?_
      refine Upd.step (State.toHelloWait_upd ..) rfl ?_
      exact Upd.refl _ _

theorem execTimeExchangeDue_upd (l : Fin 512) (ph : Fin 256) (s : State) : UpdO 0x100300 s (execTimeExchangeDue l ph s) := by
  unfold execTimeExchangeDue
  extract_lets +onlyGivenNames x1
  clear_value x1
  extract_lets +onlyGivenNames x2
  clear_value x2
  refine UpdO.ite ?_ ?_
  · extract_lets +onlyGivenNames x3
    clear_value x3
    refine UpdO.next ?_
    refine Upd.step (State.sendItem_upd ..) rfl ?_
    refine Upd.step (State.setLk_upd ..) rfl ?_
    exact Upd.refl _ _
  · refine UpdO.next ?_
    exact Upd.refl _ _

theorem execTimeRspTimeout_upd (l : Fin 512) (s : State) : UpdO 0x118300 s (execTimeRspTimeout l s) := by
  unfold execTimeRspTimeout
  refine UpdO.next ?_
  refine Upd.ite ?_ ?_
  · refine Upd.step (State.timeFail_upd ..) rfl ?_
    exact Upd.refl _ _
  · exact Upd.refl _ _

theorem holdRelease_upd (l : Nat) (s : State) : Upd 0x118300 s (holdRelease l s) := by
  unfold holdRelease
  split
  · exact Upd.refl _ _
  · split
    · refine Upd.ite ?_ ?_
      · extract_lets +onlyGivenNames x1
        clear_value x1
        extract_lets +onlyGivenNames x2
        refine cut (P := Upd 0x118300 s x2) ?_ (fun h3 => ?_)
        · unfold x2
          refine Upd.step (State.releaseFrame_upd ..) rfl ?_
          refine Upd.step (State.setLk_upd ..) rfl ?_
          exact Upd.refl _ _
        clear_value x2
        refine Upd.step (drainHold_upd ..) rfl ?_
        exact h3
      · refine Upd.step (drainHold_upd ..) rfl ?_
        exact Upd.refl _ _
    · refine Upd.step (drainHold_upd ..) rfl ?_
      exact Upd.refl _ _

theorem execHoldQueueRelease_upd (l : Fin 512) (s : State) : UpdO 0x118300 s (execHoldQueueRelease l s) := by
  unfold execHoldQueueRelease
  refine UpdO.next ?_
  refine Upd.step (holdRelease_upd ..) rfl ?_
  exact Upd.refl _ _

theorem ctrlGo_upd (l : Nat) (v : Word) (s : State) : Upd 0x118300 s (ctrlGo l v s) := by
  unfold ctrlGo
  extract_lets +onlyGivenNames x1
  clear_value x1
  extract_lets +onlyGivenNames x2
  clear_value x2
  extract_lets +onlyGivenNames x3
  clear_value x3
  extract_lets +onlyGivenNames x4
  clear_value x4
  refine Upd.ite ?_ ?_
  · exact Upd.refl _ _
  · refine Upd.ite ?_ ?_
    · refine Upd.step (State.ctrlDone_upd ..) rfl ?_
      exact Upd.refl _ _
    · refine Upd.ite ?_ ?_
      · refine Upd.step (State.ctrlDone_upd ..) rfl ?_
        exact Upd.refl _ _
      · extract_lets +onlyGivenNames x5
        clear_value x5
        extract_lets +onlyGivenNames x6
        clear_value x6
        extract_lets +onlyGivenNames x7
        clear_value x7
        extract_lets +onlyGivenNames x8
        clear_value x8
        extract_lets +onlyGivenNames x9
        refine cut (P := Upd 0x118300 s x9) ?_ (fun h10 => ?_)
        · unfold x9
          refine Upd.step (State.setLk_upd ..) rfl ?_
          exact Upd.refl _ _
        clear_value x9
        refine Upd.step (State.wf_upd ..) rfl ?_
        refine Upd.step (State.setF_upd ..) rfl ?_
        exact h10

theorem execLinkCtrlGo_upd (r : Req) (l : Fin 512) (v : Word) (s : State) : UpdO 0x118300 s (execLinkCtrlGo r l v s) := by
  unfold execLinkCtrlGo
  refine UpdO.next ?_
  refine Upd.gated _ _ _ rfl ?_ (fun y1 h2 => ?_)
  · exact Upd.refl _ _
  · refine Upd.step (ctrlGo_upd ..) rfl ?_
    exact h2

theorem execLinkCtrlTimeout_upd (l : Fin 512) (s : State) : UpdO 0x118300 s (execLinkCtrlTimeout l s) := by
  unfold execLinkCtrlTimeout
  refine UpdO.next ?_
  refine Upd.ite ?_ ?_
  · refine Upd.step (State.ctrlDone_upd ..) rfl ?_
    exact Upd.refl _ _
  · exact Upd.refl _ _

theorem State.releaseHeld_upd (s : State) (l : Nat) : Upd 0x118300 s (State.releaseHeld s l) := by
  unfold State.releaseHeld
  extract_lets +onlyGivenNames x1
  clear_value x1
  refine Upd.step (State.afterRx_upd ..) rfl ?_
  refine Upd.step (State.afterFrame_upd ..) rfl ?_
  exact Upd.refl _ _

theorem linkOwnerWrite_upd (l : Nat) (v : Word) (s : State) : Upd 0x118300 s (linkOwnerWrite l v s) := by
  unfold linkOwnerWrite
  extract_lets +onlyGivenNames x1
  refine cut (P := Upd 0x118300 s x1) ?_ (fun h2 => ?_)
  · unfold x1
    refine Upd.step (State.wr_upd ..) rfl ?_
    exact Upd.refl _ _
  clear_value x1
  refine Upd.ite ?_ ?_
  · exact h2
  · refine Upd.step (State.releaseHeld_upd ..) rfl ?_
    refine Upd.step (State.clrF_upd ..) rfl ?_
    refine Upd.step (State.clrF_upd ..) rfl ?_
    exact h2

theorem execLinkOwnerWrite_upd (r : Req) (l : Fin 512) (v : Word) (s : State) : UpdO 0x118300 s (execLinkOwnerWrite r l v s) := by
  unfold execLinkOwnerWrite
  refine UpdO.next ?_
  refine Upd.gatedIf _ _ _ rfl ?_ (fun y1 h2 => ?_)
  · exact Upd.refl _ _
  · refine Upd.step (linkOwnerWrite_upd ..) rfl ?_
    exact h2

theorem fiWrite_upd (l : Nat) (fi : Nat) (v : Word) (s : State) : Upd 0x100200 s (fiWrite l fi v s) := by
  unfold fiWrite
  extract_lets +onlyGivenNames x1
  clear_value x1
  extract_lets +onlyGivenNames x2
  refine cut (P := Upd 0x100200 s x2) ?_ (fun h3 => ?_)
  · unfold x2
    refine Upd.step (State.wr_upd ..) rfl ?_
    exact Upd.refl _ _
  clear_value x2
  refine Upd.ite ?_ ?_
  · extract_lets +onlyGivenNames x4
    clear_value x4
    extract_lets +onlyGivenNames x5
    clear_value x5
    refine Upd.step (State.setLk_upd ..) rfl ?_
    exact h3
  · exact h3

theorem Upd.gatedFi {m : Nat} {s x : State} {k : State → State} (r : Req) (l fi : Nat) (e : 0x18300 &&& m = 0x18300) (h : Upd m s x)
    (g : ∀ y, Upd m s y → Upd m s (k y)) : Upd m s (x.gatedFi r l fi k) :=
  Upd.gatedBy _ _ _ e h fun y hy => Upd.ite (Upd.step (Upd.mono (m := 0x18300) (State.answer_upd ..) rfl) e (g y hy)) (Upd.step (Upd.mono (m := 0x18300) (State.answer_upd ..) rfl) e hy)

theorem execLinkFiTxWrite_upd (r : Req) (l : Fin 512) (v : Word) (s : State) : UpdO 0x118300 s (execLinkFiTxWrite r l v s) := by
  unfold execLinkFiTxWrite
  refine UpdO.next ?_
  refine Upd.gatedFi _ _ _ rfl ?_ (fun y1 h2 => ?_)
  · exact Upd.refl _ _
  · refine Upd.step (fiWrite_upd ..) rfl ?_
    exact h2

theorem execLinkFiRxWrite_upd (r : Req) (l : Fin 512) (v : Word) (s : State) : UpdO 0x118300 s (execLinkFiRxWrite r l v s) := by
  unfold execLinkFiRxWrite
  refine UpdO.next ?_
  refine Upd.gatedFi _ _ _ rfl ?_ (fun y1 h2 => ?_)
  · exact Upd.refl _ _
  · refine Upd.step (fiWrite_upd ..) rfl ?_
    exact h2

theorem execReorderHoldExpire_upd (l : Fin 512) (s : State) : UpdO 0x100300 s (execReorderHoldExpire l s) := by
  unfold execReorderHoldExpire
  refine UpdO.next ?_
  refine Upd.step (State.afterFrame_upd ..) rfl ?_
  exact Upd.refl _ _

end Sys2Proof.Machine
end

