-- ==== Sys2Proof/Laws/FramePower.lean ====
section
/-! SUPPORT. What each operation of Sys2Proof/Machine/Power.lean may change: the fields whose bits are set, in the order of State. -/
namespace Sys2Proof.Machine

theorem State.pllsOff_upd (s : State) : Upd 0x200 s (State.pllsOff s) := by
  unfold State.pllsOff
  refine Upd.foldl ?_ (fun y1 a2 h3 => ?_)
  · exact Upd.refl _ _
  · refine Upd.step (State.clrF_upd ..) rfl ?_
    exact h3

theorem State.pllsOn_upd (s : State) : Upd 0x200 s (State.pllsOn s) := by
  unfold State.pllsOn
  refine Upd.foldl ?_ (fun y1 a2 h3 => ?_)
  · exact Upd.refl _ _
  · extract_lets +onlyGivenNames x4
    clear_value x4
    refine Upd.step (State.setIf_upd ..) rfl ?_
    exact h3

theorem State.ckUpdateAll_upd (s : State) : Upd 0x18300 s (State.ckUpdateAll s) := by
  unfold State.ckUpdateAll
  refine Upd.foldl ?_ (fun y1 a2 h3 => ?_)
  · exact Upd.refl _ _
  · refine Upd.step (State.ckUpdate_upd ..) rfl ?_
    exact h3

theorem State.lanesHold_upd (s : State) : Upd 0x338380 s (State.lanesHold s) := by
  unfold State.lanesHold
  refine Upd.foldl ?_ (fun y1 a2 h3 => ?_)
  · exact Upd.refl _ _
  · refine Upd.ite ?_ ?_
    · exact h3
    · refine Upd.step (State.laneTo_upd ..) rfl ?_
      exact h3

theorem State.lanesGo_upd (s : State) : Upd 0x338380 s (State.lanesGo s) := by
  unfold State.lanesGo
  refine Upd.foldl ?_ (fun y1 a2 h3 => ?_)
  · exact Upd.refl _ _
  · refine Upd.ite ?_ ?_
    · exact h3
    · refine Upd.ite ?_ ?_
      · refine Upd.step (State.laneDown_upd ..) rfl ?_
        exact h3
      · refine Upd.step (State.laneWait_upd ..) rfl ?_
        exact h3

theorem State.hibernate_upd (s : State) : Upd 0x55b87e00 s (State.hibernate s) := by
  unfold State.hibernate
  extract_lets +onlyGivenNames x1
  refine cut (P := Upd 0x55b87e00 s x1) ?_ (fun h2 => ?_)
  · unfold x1
    refine Upd.step (State.encOffAll_upd ..) rfl ?_
    exact Upd.refl _ _
  clear_value x1
  extract_lets +onlyGivenNames x3
  refine cut (P := Upd 0x55b87e00 s x3) ?_ (fun h4 => ?_)
  · unfold x3
    refine Upd.step (State.regsLost_upd ..) rfl ?_
    exact h2
  clear_value x3
  refine Upd.step (Upd.set_diesDown_fab_mem_ring_llp_cap_mill_dram_cfg_dbg_gpio _ _ _ _ _ _ _ _ _ _ _ _ ?_ ?_) rfl ?_
  · exact fun _ => rfl
  · exact fun _ => rfl
  · exact h4

theorem State.enterPwr_upd (s : State) (st : Nat) : Upd 0x20280 s (State.enterPwr s st) := by
  unfold State.enterPwr
  refine Upd.step (State.reportO_upd ..) rfl ?_
  refine Upd.step (State.wf_upd ..) rfl ?_
  exact Upd.refl _ _

theorem pwrCmd_upd (v : Word) (s : State) : Upd 0x88221280 s (pwrCmd v s) := by
  unfold pwrCmd
  extract_lets +onlyGivenNames x1
  clear_value x1
  extract_lets +onlyGivenNames x2
  clear_value x2
  extract_lets +onlyGivenNames x3
  clear_value x3
  refine Upd.ite ?_ ?_
  · refine Upd.step (State.setF_upd ..) rfl ?_
    exact Upd.refl _ _
  · extract_lets +onlyGivenNames x4
    clear_value x4
    extract_lets +onlyGivenNames x5
    refine cut (P := Upd 0x88221280 s x5) ?_ (fun h6 => ?_)
    · unfold x5
      refine Upd.step (Upd.set_start _ _) rfl ?_
      exact Upd.refl _ _
    clear_value x5
    refine Upd.ite ?_ ?_
    · refine Upd.step (State.retain_upd ..) rfl ?_
      exact h6
    · refine Upd.ite ?_ ?_
      · refine Upd.step (State.stepDone_upd ..) rfl ?_
        refine Upd.step (Upd.set_start _ _) rfl ?_
        exact h6
      · exact h6

theorem execPwrCmd_upd (r : Req) (v : Word) (s : State) : UpdO 0x88239380 s (execPwrCmd r v s) := by
  unfold execPwrCmd
  refine UpdO.next ?_
  refine Upd.gated _ _ _ rfl ?_ (fun y1 h2 => ?_)
  · exact Upd.refl _ _
  · refine Upd.step (pwrCmd_upd ..) rfl ?_
    exact h2

theorem powerDone_upd (s : State) : Upd 0xd5bbff80 s (powerDone s) := by
  unfold powerDone
  split
  · exact Upd.refl _ _
  · extract_lets +onlyGivenNames x1
    clear_value x1
    extract_lets +onlyGivenNames x2
    split
    · refine Upd.ite ?_ ?_
      · refine Upd.ite ?_ ?_
        · exact Upd.refl _ _
        · unfold x2
          refine Upd.step (State.enterPwr_upd ..) rfl ?_
          refine Upd.step (Upd.set_start _ _) rfl ?_
          refine Upd.step (Upd.set_start _ _) rfl ?_
          exact Upd.refl _ _
      · extract_lets +onlyGivenNames x3
        refine cut (P := Upd 0xd5bbff80 s x3) ?_ (fun h4 => ?_)
        · unfold x3
          refine Upd.step (State.ckUpdateAll_upd ..) rfl ?_
          refine Upd.step (State.pllsOn_upd ..) rfl ?_
          unfold x2
          refine Upd.step (State.enterPwr_upd ..) rfl ?_
          refine Upd.step (Upd.set_start _ _) rfl ?_
          exact Upd.refl _ _
        clear_value x3
        refine Upd.ite ?_ ?_
        · refine Upd.step (State.lanesGo_upd ..) rfl ?_
          exact h4
        · exact h4
    · refine Upd.step (State.ckUpdateAll_upd ..) rfl ?_
      refine Upd.step (State.pllsOff_upd ..) rfl ?_
      unfold x2
      refine Upd.step (State.enterPwr_upd ..) rfl ?_
      refine Upd.step (Upd.set_start _ _) rfl ?_
      exact Upd.refl _ _
    · refine Upd.step (State.lanesHold_upd ..) rfl ?_
      refine Upd.step (State.ckUpdateAll_upd ..) rfl ?_
      refine Upd.step (State.pllsOff_upd ..) rfl ?_
      unfold x2
      refine Upd.step (State.enterPwr_upd ..) rfl ?_
      refine Upd.step (Upd.set_start _ _) rfl ?_
      refine Upd.step (State.drainAll_upd ..) rfl ?_
      exact Upd.refl _ _
    · refine Upd.step (State.hibernate_upd ..) rfl ?_
      unfold x2
      refine Upd.step (State.enterPwr_upd ..) rfl ?_
      refine Upd.step (Upd.set_start _ _) rfl ?_
      exact Upd.refl _ _
    · exact Upd.refl _ _

theorem execPowerStateChangeDone_upd (s : State) : UpdO 0xd5bbff80 s (execPowerStateChangeDone s) := by
  unfold execPowerStateChangeDone
  refine UpdO.next ?_
  refine Upd.ite ?_ ?_
  · exact Upd.refl _ _
  · refine Upd.step (powerDone_upd ..) rfl ?_
    exact Upd.refl _ _

theorem State.modeBegin_upd (s : State) (m : Mode) (chan : Nat) : Upd 0x80018304 s (State.modeBegin s m chan) := by
  unfold State.modeBegin
  extract_lets +onlyGivenNames x1
  clear_value x1
  extract_lets +onlyGivenNames x2
  clear_value x2
  extract_lets +onlyGivenNames x3
  refine cut (P := Upd 0x80018304 s x3) ?_ (fun h4 => ?_)
  · unfold x3
    refine Upd.ite ?_ ?_
    · refine Upd.step (State.stretchAll_upd ..) rfl ?_
      refine Upd.step (State.setMode_upd ..) rfl ?_
      exact Upd.refl _ _
    · exact Upd.refl _ _
  clear_value x3
  refine Upd.step (Upd.set_start _ _) rfl ?_
  exact h4

theorem State.modeWalk_upd (s : State) (k i : Nat) : UpdL 0x1018300 s (s.modeWalk k i) := by
  induction k generalizing i with
  | zero => exact Upd.refl _ _
  | succ k ih =>
    unfold State.modeWalk
    refine UpdL.ite (Upd.refl _ _) (UpdL.ite (Upd.refl _ _) ?_)
    split
    · exact UpdL.mk (Upd.step (State.freqStart_upd ..) (by rfl) (Upd.refl _ _))
    · exact ih ..

theorem State.modeAdvance_upd (s : State) : Upd 0x81018304 s (State.modeAdvance s) := by
  unfold State.modeAdvance
  split
  · exact Upd.refl _ _
  · split
    · rename_i v1 v2 v3 v4
      refine cut (P := Upd 0x81018304 s v2) (UpdL.out ?_ v4) (fun h5 => ?_)
      · refine UpdL.step (State.modeWalk_upd ..) rfl ?_
        exact Upd.refl _ _
      refine Upd.ite ?_ ?_
      · refine Upd.step (Upd.set_start _ _) rfl ?_
        exact h5
      · extract_lets +onlyGivenNames x6
        refine cut (P := Upd 0x81018304 s x6) ?_ (fun h7 => ?_)
        · unfold x6
          refine Upd.step (State.stretchAll_upd ..) rfl ?_
          refine Upd.step (State.setMode_upd ..) rfl ?_
          exact h5
        clear_value x6
        refine Upd.step (State.setF_upd ..) rfl ?_
        refine Upd.step (Upd.set_start _ _) rfl ?_
        exact h7

theorem capTick_upd (mw : Nat) (s : State) : Upd 0x80018300 s (capTick mw s) := by
  unfold capTick
  extract_lets +onlyGivenNames x1
  refine cut (P := Upd 0x80018300 s x1) ?_ (fun h2 => ?_)
  · unfold x1
    refine Upd.step (State.wr_upd ..) rfl ?_
    exact Upd.refl _ _
  clear_value x1
  extract_lets +onlyGivenNames x3
  clear_value x3
  extract_lets +onlyGivenNames x4
  clear_value x4
  extract_lets +onlyGivenNames x5
  clear_value x5
  refine Upd.ite ?_ ?_
  · refine Upd.step (Upd.set_start _ _) rfl ?_
    exact h2
  · refine Upd.ite ?_ ?_
    · extract_lets +onlyGivenNames x6
      refine cut (P := Upd 0x80018300 s x6) ?_ (fun h7 => ?_)
      · unfold x6
        refine Upd.step (Upd.set_start _ _) rfl ?_
        exact h2
      clear_value x6
      refine Upd.step (State.stretchAll_upd ..) rfl ?_
      refine Upd.step (State.wf_upd ..) rfl ?_
      exact h7
    · refine Upd.ite ?_ ?_
      · refine Upd.ite ?_ ?_
        · refine Upd.step (Upd.set_start _ _) rfl ?_
          exact h2
        · refine Upd.step (State.stretchAll_upd ..) rfl ?_
          refine Upd.step (State.wf_upd ..) rfl ?_
          refine Upd.step (Upd.set_start _ _) rfl ?_
          exact h2
      · refine Upd.step (Upd.set_start _ _) rfl ?_
        exact h2

theorem execPowerCapTick_upd (mw : Word) (s : State) : UpdO 0x80018300 s (execPowerCapTick mw s) := by
  unfold execPowerCapTick
  refine UpdO.next ?_
  refine Upd.ite ?_ ?_
  · exact Upd.refl _ _
  · refine Upd.step (capTick_upd ..) rfl ?_
    exact Upd.refl _ _

theorem execCapLimit_upd (s : State) : UpdO 0x80020280 s (execCapLimit s) := by
  unfold execCapLimit
  refine UpdO.next ?_
  refine Upd.ite ?_ ?_
  · exact Upd.refl _ _
  · extract_lets +onlyGivenNames x1
    clear_value x1
    extract_lets +onlyGivenNames x2
    clear_value x2
    extract_lets +onlyGivenNames x3
    refine cut (P := Upd 0x80020280 s x3) ?_ (fun h4 => ?_)
    · unfold x3
      refine Upd.step (Upd.set_start _ _) rfl ?_
      exact Upd.refl _ _
    clear_value x3
    refine Upd.step (State.recordO_upd ..) rfl ?_
    refine Upd.step (State.reportO_upd ..) rfl ?_
    refine Upd.step (State.setF_upd ..) rfl ?_
    exact h4

theorem thermWarn_upd (s : State) : Upd 0x80038380 s (thermWarn s) := by
  unfold thermWarn
  refine Upd.ite ?_ ?_
  · exact Upd.refl _ _
  · extract_lets +onlyGivenNames x1
    clear_value x1
    extract_lets +onlyGivenNames x2
    refine cut (P := Upd 0x80038380 s x2) ?_ (fun h3 => ?_)
    · unfold x2
      refine Upd.step (State.setF_upd ..) rfl ?_
      refine Upd.step (Upd.set_start _ _) rfl ?_
      exact Upd.refl _ _
    clear_value x2
    refine Upd.step (State.reportO_upd ..) rfl ?_
    refine Upd.step (State.stretchAll_upd ..) rfl ?_
    refine Upd.step (State.wf_upd ..) rfl ?_
    exact h3

theorem execThermWarn_upd (s : State) : UpdO 0x80038380 s (execThermWarn s) := by
  unfold execThermWarn
  refine UpdO.next ?_
  refine Upd.step (thermWarn_upd ..) rfl ?_
  exact Upd.refl _ _

theorem execThermTrip_upd (s : State) : UpdO 0x81520380 s (execThermTrip s) := by
  unfold execThermTrip
  refine UpdO.next ?_
  refine Upd.ite ?_ ?_
  · exact Upd.refl _ _
  · refine Upd.step (State.tripHold_upd ..) rfl ?_
    refine Upd.step (State.flush_upd ..) rfl ?_
    refine Upd.step (State.recordO_upd ..) rfl ?_
    exact Upd.refl _ _

theorem execPwrFailFall_upd (s : State) : UpdO 0x80020280 s (execPwrFailFall s) := by
  unfold execPwrFailFall
  refine UpdO.next ?_
  refine Upd.ite ?_ ?_
  · exact Upd.refl _ _
  · extract_lets +onlyGivenNames x1
    clear_value x1
    extract_lets +onlyGivenNames x2
    refine cut (P := Upd 0x80020280 s x2) ?_ (fun h3 => ?_)
    · unfold x2
      refine Upd.step (State.setF_upd ..) rfl ?_
      refine Upd.step (Upd.set_start _ _) rfl ?_
      exact Upd.refl _ _
    clear_value x2
    split
    · rename_i v4 v5 v6 v7
      refine cut (P := Upd 0x80020280 s v6) (UpdP.out ?_ v7) (fun h8 => ?_)
      · refine UpdP.step (State.fresh_upd ..) rfl ?_
        exact h3
      refine Upd.step (State.flush_upd ..) rfl ?_
      refine Upd.step (State.reportSites_upd ..) rfl ?_
      exact h8

theorem execPwrFailRise_upd (s : State) : UpdO 0x80000000 s (execPwrFailRise s) := by
  unfold execPwrFailRise
  refine UpdO.next ?_
  refine Upd.step (Upd.set_start _ _) rfl ?_
  exact Upd.refl _ _

theorem State.setConv_upd (s : State) (k : Nat) (x : ConvSt) : Upd 0x80000000 s (State.setConv s k x) := by
  unfold State.setConv
  refine Upd.step (Upd.set_start _ _) rfl ?_
  exact Upd.refl _ _

theorem State.coolDown_upd (s : State) : Upd 0x80000000 s (State.coolDown s) := by
  unfold State.coolDown
  refine Upd.ite ?_ ?_
  · refine Upd.step (Upd.set_start _ _) rfl ?_
    exact Upd.refl _ _
  · exact Upd.refl _ _

theorem State.convPush_upd (s : State) (k : Nat) (x : ConvSt) (w : Word) : Upd 0x80000200 s (State.convPush s k x w) := by
  unfold State.convPush
  extract_lets +onlyGivenNames x1
  clear_value x1
  refine Upd.ite ?_ ?_
  · refine Upd.step (State.wf_upd ..) rfl ?_
    refine Upd.step (State.setConv_upd ..) rfl ?_
    exact Upd.refl _ _
  · refine Upd.step (State.cntF_upd ..) rfl ?_
    refine Upd.step (State.setConv_upd ..) rfl ?_
    exact Upd.refl _ _

theorem sensorSample_upd (k : Nat) (v : Int) (satur : Bool) (s : State) : Upd 0x80000200 s (sensorSample k v satur s) := by
  unfold sensorSample
  split
  · exact Upd.refl _ _
  · extract_lets +onlyGivenNames x1
    clear_value x1
    split
    · extract_lets +onlyGivenNames x2
      clear_value x2
      extract_lets +onlyGivenNames x3
      clear_value x3
      extract_lets +onlyGivenNames x4
      clear_value x4
      extract_lets +onlyGivenNames x5
      clear_value x5
      extract_lets +onlyGivenNames x6
      clear_value x6
      extract_lets +onlyGivenNames x7
      refine cut (P := Upd 0x80000200 s x7) ?_ (fun h8 => ?_)
      · unfold x7
        refine Upd.step (Upd.set_start _ _) rfl ?_
        exact Upd.refl _ _
      clear_value x7
      extract_lets +onlyGivenNames x9
      refine cut (P := Upd 0x80000200 s x9) ?_ (fun h10 => ?_)
      · unfold x9
        refine Upd.step (State.wr_upd ..) rfl ?_
        exact h8
      clear_value x9
      refine Upd.step (State.coolDown_upd ..) rfl ?_
      refine Upd.step (State.convPush_upd ..) rfl ?_
      exact h10

theorem execSensorSample_upd (k : Fin 4) (v : BitVec 17) (satur : Bool) (s : State) : UpdO 0x80000200 s (execSensorSample k v satur s) := by
  unfold execSensorSample
  refine UpdO.next ?_
  refine Upd.ite ?_ ?_
  · exact Upd.refl _ _
  · refine Upd.step (sensorSample_upd ..) rfl ?_
    exact Upd.refl _ _

theorem State.monPop_upd (s : State) (k : Nat) : UpdP 0x80000200 s (State.monPop s k) := by
  unfold State.monPop
  extract_lets +onlyGivenNames x1
  clear_value x1
  split
  · refine UpdP.mk ?_
    exact Upd.refl _ _
  · refine UpdP.mk ?_
    refine Upd.step (State.wf_upd ..) rfl ?_
    refine Upd.step (State.setConv_upd ..) rfl ?_
    exact Upd.refl _ _

theorem execMonFifoPop_upd (r : Req) (k : Fin 4) (s : State) : UpdO 0x80018300 s (execMonFifoPop r k s) := by
  unfold execMonFifoPop
  extract_lets +onlyGivenNames x1
  clear_value x1
  refine UpdO.next ?_
  refine Upd.gatedBy _ _ _ rfl ?_ (fun y2 h3 => ?_)
  · exact Upd.refl _ _
  · split
    · rename_i v4 v5 v6 v7
      refine cut (P := Upd 0x80018300 s v6) (UpdP.out ?_ v7) (fun h8 => ?_)
      · refine UpdP.step (State.monPop_upd ..) rfl ?_
        exact h3
      refine Upd.step (State.answer_upd ..) rfl ?_
      exact h8

theorem monChWrite_upd (n : Nat) (v : Word) (s : State) : Upd 0x80000200 s (monChWrite n v s) := by
  unfold monChWrite
  extract_lets +onlyGivenNames x1
  clear_value x1
  extract_lets +onlyGivenNames x2
  clear_value x2
  extract_lets +onlyGivenNames x3
  clear_value x3
  extract_lets +onlyGivenNames x4
  refine cut (P := Upd 0x80000200 s x4) ?_ (fun h5 => ?_)
  · unfold x4
    refine Upd.step (State.wr_upd ..) rfl ?_
    exact Upd.refl _ _
  clear_value x4
  extract_lets +onlyGivenNames x6
  clear_value x6
  extract_lets +onlyGivenNames x7
  clear_value x7
  refine Upd.ite ?_ ?_
  · exact h5
  · extract_lets +onlyGivenNames x8
    clear_value x8
    refine Upd.ite ?_ ?_
    · exact h5
    · extract_lets +onlyGivenNames x9
      clear_value x9
      refine Upd.step (State.setConv_upd ..) rfl ?_
      exact h5

end Sys2Proof.Machine
end

