-- ==== Sys2Proof/Laws/FrameCmdSite.lean ====
section
/-! SUPPORT. What each operation of Sys2Proof/Machine/CmdSite.lean may change: the fields whose bits are set, in the order of State. -/
namespace Sys2Proof.Machine

theorem execSysPing_upd (c : Fin 128) (s : State) : UpdO 0x402018300 s (execSysPing c s) := by
  unfold execSysPing
  refine UpdO.next ?_
  refine Upd.runCmd _ _ _ rfl ?_ (fun q1 y2 h3 => ?_)
  · exact Upd.refl _ _
  · exact h3

theorem execSysIdentify_upd (c : Fin 128) (s : State) : UpdO 0x402018300 s (execSysIdentify c s) := by
  unfold execSysIdentify
  refine UpdO.next ?_
  refine Upd.runCmd _ _ _ rfl ?_ (fun q1 y2 h3 => ?_)
  · exact Upd.refl _ _
  · extract_lets +onlyGivenNames x4
    clear_value x4
    exact h3

theorem sysMode_upd (c : Nat) (q : CmdReq) (s : State) : UpdP 0x481018304 s (sysMode c q s) := by
  unfold sysMode
  extract_lets +onlyGivenNames x1
  clear_value x1
  extract_lets +onlyGivenNames x2
  refine UpdP.ite ?_ ?_
  · unfold x2
    refine UpdP.ite ?_ ?_
    · refine UpdP.mk ?_
      exact Upd.refl _ _
    · refine UpdP.mk ?_
      exact Upd.refl _ _
  · refine UpdP.checked ?_ ?_
    · exact Upd.refl _ _
    · refine UpdP.ite ?_ ?_
      · refine UpdP.mk ?_
        exact Upd.refl _ _
      · split
        · refine UpdP.mk ?_
          exact Upd.refl _ _
        · unfold x2
          refine UpdP.ite ?_ ?_
          · refine UpdP.mk ?_
            refine Upd.step (State.setPhase_upd ..) rfl ?_
            refine Upd.step (State.modeAdvance_upd ..) rfl ?_
            refine Upd.step (State.modeBegin_upd ..) rfl ?_
            exact Upd.refl _ _
          · refine UpdP.mk ?_
            refine Upd.step (State.setPhase_upd ..) rfl ?_
            refine Upd.step (State.modeAdvance_upd ..) rfl ?_
            refine Upd.step (State.modeBegin_upd ..) rfl ?_
            exact Upd.refl _ _

theorem execSysMode_upd (c : Fin 128) (s : State) : UpdO 0x483018304 s (execSysMode c s) := by
  unfold execSysMode
  refine UpdO.next ?_
  refine Upd.runCmd _ _ _ rfl ?_ (fun q1 y2 h3 => ?_)
  · refine Upd.ite ?_ ?_
    · exact Upd.refl _ _
    · refine Upd.step (State.modeAdvance_upd ..) rfl ?_
      exact Upd.refl _ _
  · refine UpdP.step (sysMode_upd ..) rfl ?_
    exact h3

theorem execSysTime_upd (c : Fin 128) (s : State) : UpdO 0x402018300 s (execSysTime c s) := by
  unfold execSysTime
  refine UpdO.next ?_
  refine Upd.runCmd _ _ _ rfl ?_ (fun q1 y2 h3 => ?_)
  · exact Upd.refl _ _
  · exact h3

theorem State.setShare_upd (s : State) (n : Nat) (v : Nat) : Upd 0x200 s (State.setShare s n v) := by
  unfold State.setShare
  refine Upd.foldl ?_ (fun y1 a2 h3 => ?_)
  · exact Upd.refl _ _
  · refine Upd.step (State.wf_upd ..) rfl ?_
    exact h3

theorem State.bellFor_upd (s : State) (stop : Nat) (b : Nat) (o : Nat) : Upd 0x98300 s (State.bellFor s stop b o) := by
  unfold State.bellFor
  extract_lets +onlyGivenNames x1
  clear_value x1
  refine Upd.step (bellCtrl_upd ..) rfl ?_
  exact Upd.refl _ _

theorem State.giveOne_upd (s : State) (t : Nat) (i : Nat) (n : Nat) (arg : Nat) : Upd 0x5719ef80 s (State.giveOne s t i n arg) := by
  unfold State.giveOne
  refine Upd.ite ?_ ?_
  · refine Upd.step (fpbindWrite_upd ..) rfl ?_
    exact Upd.refl _ _
  · refine Upd.ite ?_ ?_
    · exact Upd.refl _ _
    · split
      · refine Upd.step (State.bellFor_upd ..) rfl ?_
        refine Upd.step (State.fieldGrant_upd ..) rfl ?_
        exact Upd.refl _ _
      · refine Upd.step (State.granChange_upd ..) rfl ?_
        exact Upd.refl _ _
      · refine Upd.step (State.sicEval_upd ..) rfl ?_
        refine Upd.step (State.siteStat_upd ..) rfl ?_
        refine Upd.step (linkOwnerWrite_upd ..) rfl ?_
        exact Upd.refl _ _
      · refine Upd.step (fcuGranWrite_upd ..) rfl ?_
        exact Upd.refl _ _
      · refine Upd.step (State.sicEval_upd ..) rfl ?_
        refine Upd.step (State.bellFor_upd ..) rfl ?_
        refine Upd.step (State.wf_upd ..) rfl ?_
        exact Upd.refl _ _
      · refine Upd.step (dramOwnWrite_upd ..) rfl ?_
        exact Upd.refl _ _

theorem State.takeOne_upd (s : State) (t : Nat) (i : Nat) : Upd 0x57bbef80 s (State.takeOne s t i) := by
  unfold State.takeOne
  split
  · refine Upd.step (State.bellFor_upd ..) rfl ?_
    refine Upd.step (State.fieldRevoke_upd ..) rfl ?_
    exact Upd.refl _ _
  · refine Upd.step (State.granChange_upd ..) rfl ?_
    exact Upd.refl _ _
  · extract_lets +onlyGivenNames x1
    clear_value x1
    extract_lets +onlyGivenNames x2
    refine cut (P := Upd 0x57bbef80 s x2) ?_ (fun h3 => ?_)
    · unfold x2
      refine Upd.step (laneCtrlWrite_upd ..) rfl ?_
      exact Upd.refl _ _
    clear_value x2
    extract_lets +onlyGivenNames x4
    clear_value x4
    extract_lets +onlyGivenNames x5
    refine cut (P := Upd 0x57bbef80 s x5) ?_ (fun h6 => ?_)
    · unfold x5
      refine Upd.step (State.setLk_upd ..) rfl ?_
      refine Upd.step (State.returnGrans_upd ..) rfl ?_
      exact h3
    clear_value x5
    refine Upd.step (State.siteStat_upd ..) rfl ?_
    refine Upd.step (linkOwnerWrite_upd ..) rfl ?_
    exact h6
  · refine Upd.step (fcuGranWrite_upd ..) rfl ?_
    exact Upd.refl _ _
  · refine Upd.step (State.bellFor_upd ..) rfl ?_
    refine Upd.step (State.wf_upd ..) rfl ?_
    refine Upd.step (millCtrl_upd ..) rfl ?_
    exact Upd.refl _ _
  · refine Upd.step (dramOwnWrite_upd ..) rfl ?_
    split
    · refine Upd.step (State.encOff_upd ..) rfl ?_
      exact Upd.refl _ _
    · exact Upd.refl _ _
  · refine Upd.step (fpbindWrite_upd ..) rfl ?_
    exact Upd.refl _ _

theorem execSiteCreate_upd (c : Fin 128) (s : State) : UpdO 0x402018300 s (execSiteCreate c s) := by
  unfold execSiteCreate
  refine UpdO.next ?_
  refine Upd.runCmd _ _ _ rfl ?_ (fun q1 y2 h3 => ?_)
  · exact Upd.refl _ _
  · extract_lets +onlyGivenNames x4
    clear_value x4
    refine UpdP.checked ?_ ?_
    · exact h3
    · refine UpdP.ite ?_ ?_
      · exact h3
      · refine UpdP.ite ?_ ?_
        · exact h3
        · refine UpdP.mk ?_
          refine Upd.step (State.wf_upd ..) rfl ?_
          exact h3

theorem State.strip_upd (s : State) (n : Nat) : Upd 0x457bbef80 s (State.strip s n) := by
  unfold State.strip
  extract_lets +onlyGivenNames x1
  clear_value x1
  extract_lets +onlyGivenNames x2
  refine cut (P := Upd 0x457bbef80 s x2) ?_ (fun h3 => ?_)
  · unfold x2
    refine Upd.foldl ?_ (fun y4 a5 h6 => ?_)
    · exact Upd.refl _ _
    · refine Upd.foldl ?_ (fun y7 a8 h9 => ?_)
      · exact h6
      · refine Upd.ite ?_ ?_
        · refine Upd.step (State.takeOne_upd ..) rfl ?_
          exact h9
        · exact h9
  clear_value x2
  extract_lets +onlyGivenNames x10
  refine cut (P := Upd 0x457bbef80 s x10) ?_ (fun h11 => ?_)
  · unfold x10
    refine Upd.step (State.setShare_upd ..) rfl ?_
    refine Upd.step (State.wr_upd ..) rfl ?_
    exact h3
  clear_value x10
  extract_lets +onlyGivenNames x12
  clear_value x12
  extract_lets +onlyGivenNames x13
  refine cut (P := Upd 0x457bbef80 s x13) ?_ (fun h14 => ?_)
  · unfold x13
    refine Upd.step (Upd.set_com _ _) rfl ?_
    exact h11
  clear_value x13
  refine Upd.step (State.wf_upd ..) rfl ?_
  refine Upd.step (State.clrF_upd ..) rfl ?_
  exact h14

theorem siteDestroy_upd (c : Nat) (q : CmdReq) (s : State) : UpdP 0x457bbef80 s (siteDestroy c q s) := by
  unfold siteDestroy
  extract_lets +onlyGivenNames x1
  clear_value x1
  extract_lets +onlyGivenNames x2
  refine UpdP.ite ?_ ?_
  · unfold x2
    refine UpdP.ite ?_ ?_
    · refine UpdP.mk ?_
      refine Upd.step (State.strip_upd ..) rfl ?_
      exact Upd.refl _ _
    · refine UpdP.mk ?_
      exact Upd.refl _ _
  · refine UpdP.checked ?_ ?_
    · exact Upd.refl _ _
    · refine UpdP.ite ?_ ?_
      · refine UpdP.mk ?_
        exact Upd.refl _ _
      · unfold x2
        refine UpdP.ite ?_ ?_
        · refine UpdP.mk ?_
          refine Upd.step (State.strip_upd ..) rfl ?_
          refine Upd.step (State.setPhase_upd ..) rfl ?_
          refine Upd.step (State.siteReset_upd ..) rfl ?_
          exact Upd.refl _ _
        · refine UpdP.mk ?_
          refine Upd.step (State.setPhase_upd ..) rfl ?_
          refine Upd.step (State.siteReset_upd ..) rfl ?_
          exact Upd.refl _ _

theorem execSiteDestroy_upd (c : Fin 128) (s : State) : UpdO 0x457bbef80 s (execSiteDestroy c s) := by
  unfold execSiteDestroy
  refine UpdO.next ?_
  refine Upd.runCmd _ _ _ rfl ?_ (fun q1 y2 h3 => ?_)
  · exact Upd.refl _ _
  · refine UpdP.step (siteDestroy_upd ..) rfl ?_
    exact h3

theorem siteGrant_upd (q : CmdReq) (s : State) : UpdP 0x5719ef80 s (siteGrant q s) := by
  unfold siteGrant
  split
  · extract_lets +onlyGivenNames x1
    clear_value x1
    refine UpdP.checked ?_ ?_
    · exact Upd.refl _ _
    · split
      · refine UpdP.mk ?_
        exact Upd.refl _ _
      · split
        · refine UpdP.mk ?_
          exact Upd.refl _ _
        · extract_lets +onlyGivenNames x2
          clear_value x2
          refine UpdP.ite ?_ ?_
          · refine UpdP.mk ?_
            exact Upd.refl _ _
          · refine UpdP.mk ?_
            refine Upd.foldl ?_ (fun y3 a4 h5 => ?_)
            · exact Upd.refl _ _
            · refine Upd.step (State.giveOne_upd ..) rfl ?_
              exact h5

theorem execSiteGrant_upd (c : Fin 128) (s : State) : UpdO 0x45719ef80 s (execSiteGrant c s) := by
  unfold execSiteGrant
  refine UpdO.next ?_
  refine Upd.runCmd _ _ _ rfl ?_ (fun q1 y2 h3 => ?_)
  · exact Upd.refl _ _
  · refine UpdP.step (siteGrant_upd ..) rfl ?_
    exact h3

theorem siteRevoke_upd (q : CmdReq) (s : State) : UpdP 0x57bbef80 s (siteRevoke q s) := by
  unfold siteRevoke
  split
  · refine UpdP.checked ?_ ?_
    · exact Upd.refl _ _
    · split
      · refine UpdP.mk ?_
        exact Upd.refl _ _
      · split
        · refine UpdP.mk ?_
          exact Upd.refl _ _
        · refine UpdP.mk ?_
          refine Upd.foldl ?_ (fun y1 a2 h3 => ?_)
          · exact Upd.refl _ _
          · refine Upd.step (State.takeOne_upd ..) rfl ?_
            exact h3

theorem execSiteRevoke_upd (c : Fin 128) (s : State) : UpdO 0x457bbef80 s (execSiteRevoke c s) := by
  unfold execSiteRevoke
  refine UpdO.next ?_
  refine Upd.runCmd _ _ _ rfl ?_ (fun q1 y2 h3 => ?_)
  · exact Upd.refl _ _
  · refine UpdP.step (siteRevoke_upd ..) rfl ?_
    exact h3

theorem cmdSiteReset_upd (c : Nat) (q : CmdReq) (s : State) : UpdP 0x416b9e380 s (cmdSiteReset c q s) := by
  unfold cmdSiteReset
  extract_lets +onlyGivenNames x1
  clear_value x1
  extract_lets +onlyGivenNames x2
  clear_value x2
  extract_lets +onlyGivenNames x3
  extract_lets +onlyGivenNames x4
  refine UpdP.ite ?_ ?_
  · unfold x4
    refine UpdP.ite ?_ ?_
    · unfold x3
      refine UpdP.mk ?_
      exact Upd.refl _ _
    · refine UpdP.mk ?_
      exact Upd.refl _ _
  · refine UpdP.checked ?_ ?_
    · exact Upd.refl _ _
    · extract_lets +onlyGivenNames x5
      refine cut (P := Upd 0x416b9e380 s x5) ?_ (fun h6 => ?_)
      · unfold x5
        refine Upd.ite ?_ ?_
        · refine Upd.step (State.wf_upd ..) rfl ?_
          exact Upd.refl _ _
        · exact Upd.refl _ _
      clear_value x5
      extract_lets +onlyGivenNames x7
      refine cut (P := Upd 0x416b9e380 s x7) ?_ (fun h8 => ?_)
      · unfold x7
        refine Upd.ite ?_ ?_
        · refine Upd.step (State.siteRun_upd ..) rfl ?_
          exact h6
        · refine Upd.step (State.siteReset_upd ..) rfl ?_
          exact h6
      clear_value x7
      refine UpdP.ite ?_ ?_
      · unfold x4
        refine UpdP.ite ?_ ?_
        · unfold x3
          refine UpdP.mk ?_
          refine Upd.step (State.setPhase_upd ..) rfl ?_
          exact h8
        · refine UpdP.mk ?_
          refine Upd.step (State.setPhase_upd ..) rfl ?_
          exact h8
      · unfold x3
        exact h8

theorem execSiteReset_upd (c : Fin 128) (s : State) : UpdO 0x416b9e380 s (execSiteReset c s) := by
  unfold execSiteReset
  refine UpdO.next ?_
  refine Upd.runCmd _ _ _ rfl ?_ (fun q1 y2 h3 => ?_)
  · exact Upd.refl _ _
  · refine UpdP.step (cmdSiteReset_upd ..) rfl ?_
    exact h3

theorem siteService_upd (q : CmdReq) (s : State) : UpdP 0x400198300 s (siteService q s) := by
  unfold siteService
  extract_lets +onlyGivenNames x1
  clear_value x1
  extract_lets +onlyGivenNames x2
  clear_value x2
  extract_lets +onlyGivenNames x3
  clear_value x3
  extract_lets +onlyGivenNames x4
  clear_value x4
  extract_lets +onlyGivenNames x5
  clear_value x5
  extract_lets +onlyGivenNames x6
  clear_value x6
  extract_lets +onlyGivenNames x7
  clear_value x7
  refine UpdP.checked ?_ ?_
  · exact Upd.refl _ _
  · refine UpdP.ite ?_ ?_
    · refine UpdP.mk ?_
      exact Upd.refl _ _
    · refine UpdP.checked ?_ ?_
      · exact Upd.refl _ _
      · extract_lets +onlyGivenNames x8
        refine cut (P := Upd 0x400198300 s x8) ?_ (fun h9 => ?_)
        · unfold x8
          refine Upd.step (State.setShare_upd ..) rfl ?_
          exact Upd.refl _ _
        clear_value x8
        extract_lets +onlyGivenNames x10
        refine cut (P := Upd 0x400198300 s x10) ?_ (fun h11 => ?_)
        · unfold x10
          refine Upd.step (State.wf_upd ..) rfl ?_
          refine Upd.step (State.wf_upd ..) rfl ?_
          refine Upd.step (State.wf_upd ..) rfl ?_
          exact h9
        clear_value x10
        extract_lets +onlyGivenNames x12
        refine cut (P := Upd 0x400198300 s x12) ?_ (fun h13 => ?_)
        · unfold x12
          refine Upd.step (State.wf_upd ..) rfl ?_
          exact h11
        clear_value x12
        extract_lets +onlyGivenNames x14
        clear_value x14
        extract_lets +onlyGivenNames x15
        refine cut (P := Upd 0x400198300 s x15) ?_ (fun h16 => ?_)
        · unfold x15
          refine Upd.step (Upd.set_com _ _) rfl ?_
          exact h13
        clear_value x15
        extract_lets +onlyGivenNames x17
        refine cut (P := Upd 0x400198300 s x17) ?_ (fun h18 => ?_)
        · unfold x17
          refine Upd.foldl ?_ (fun y19 a20 h21 => ?_)
          · exact h16
          · refine Upd.step (State.bellFor_upd ..) rfl ?_
            exact h21
        clear_value x17
        extract_lets +onlyGivenNames x22
        refine cut (P := Upd 0x400198300 s x22) ?_ (fun h23 => ?_)
        · unfold x22
          refine Upd.foldl ?_ (fun y24 a25 h26 => ?_)
          · exact h18
          · refine Upd.step (State.bellFor_upd ..) rfl ?_
            exact h26
        clear_value x22
        refine UpdP.mk ?_
        refine Upd.foldl ?_ (fun y27 a28 h29 => ?_)
        · exact h23
        · refine Upd.step (linkOwnerWrite_upd ..) rfl ?_
          exact h29

theorem execSiteService_upd (c : Fin 128) (s : State) : UpdO 0x402198300 s (execSiteService c s) := by
  unfold execSiteService
  refine UpdO.next ?_
  refine Upd.runCmd _ _ _ rfl ?_ (fun q1 y2 h3 => ?_)
  · exact Upd.refl _ _
  · refine UpdP.step (siteService_upd ..) rfl ?_
    exact h3

theorem siteQuery_upd (bus : Rsp) (q : CmdReq) (s : State) : UpdP 0x100 s (siteQuery bus q s) := by
  unfold siteQuery
  extract_lets +onlyGivenNames x1
  clear_value x1
  split
  · refine UpdP.checked ?_ ?_
    · exact Upd.refl _ _
    · refine UpdP.mk ?_
      refine Upd.step (State.emit_upd ..) rfl ?_
      exact Upd.refl _ _

theorem execSiteQuery_upd (c : Fin 128) (bus : Rsp) (s : State) : UpdO 0x402018300 s (execSiteQuery c bus s) := by
  unfold execSiteQuery
  refine UpdO.next ?_
  refine Upd.runCmd _ _ _ rfl ?_ (fun q1 y2 h3 => ?_)
  · exact Upd.refl _ _
  · refine UpdP.step (siteQuery_upd ..) rfl ?_
    exact h3

theorem siteTcrit_upd (q : CmdReq) (s : State) : UpdP 0x18300 s (siteTcrit q s) := by
  unfold siteTcrit
  extract_lets +onlyGivenNames x1
  clear_value x1
  extract_lets +onlyGivenNames x2
  clear_value x2
  extract_lets +onlyGivenNames x3
  clear_value x3
  extract_lets +onlyGivenNames x4
  clear_value x4
  extract_lets +onlyGivenNames x5
  clear_value x5
  extract_lets +onlyGivenNames x6
  clear_value x6
  refine UpdP.checked ?_ ?_
  · exact Upd.refl _ _
  · extract_lets +onlyGivenNames x7
    refine cut (P := Upd 0x18300 s x7) ?_ (fun h8 => ?_)
    · unfold x7
      refine Upd.step (State.stretchField_upd ..) rfl ?_
      refine Upd.step (State.tcritCount_upd ..) rfl ?_
      refine Upd.step (State.wf_upd ..) rfl ?_
      exact Upd.refl _ _
    clear_value x7
    exact h8

theorem execSiteTcrit_upd (c : Fin 128) (s : State) : UpdO 0x402018300 s (execSiteTcrit c s) := by
  unfold execSiteTcrit
  refine UpdO.next ?_
  refine Upd.runCmd _ _ _ rfl ?_ (fun q1 y2 h3 => ?_)
  · exact Upd.refl _ _
  · refine UpdP.step (siteTcrit_upd ..) rfl ?_
    exact h3

theorem State.confEnd_upd (s : State) (c : Nat) (load : Bool) : UpdP 0x4000000 s (State.confEnd s c load) := by
  unfold State.confEnd
  split
  · refine UpdP.mk ?_
    refine Upd.step (Upd.set_cfg _ _) rfl ?_
    exact Upd.refl _ _
  · refine UpdP.mk ?_
    exact Upd.refl _ _

theorem confLoad_upd (c : Nat) (q : CmdReq) (s : State) : UpdP 0x404000200 s (confLoad c q s) := by
  unfold confLoad
  refine UpdP.ite ?_ ?_
  · refine UpdP.step (State.confEnd_upd ..) rfl ?_
    exact Upd.refl _ _
  · extract_lets +onlyGivenNames x1
    clear_value x1
    refine UpdP.checked ?_ ?_
    · exact Upd.refl _ _
    · extract_lets +onlyGivenNames x2
      refine cut (P := Upd 0x404000200 s x2) ?_ (fun h3 => ?_)
      · unfold x2
        refine Upd.step (State.cfgAdd_upd ..) rfl ?_
        exact Upd.refl _ _
      clear_value x2
      refine UpdP.mk ?_
      refine Upd.step (State.setPhase_upd ..) rfl ?_
      exact h3

theorem execConfLoad_upd (c : Fin 128) (s : State) : UpdO 0x406018300 s (execConfLoad c s) := by
  unfold execConfLoad
  refine UpdO.next ?_
  refine Upd.runCmd _ _ _ rfl ?_ (fun q1 y2 h3 => ?_)
  · exact Upd.refl _ _
  · refine UpdP.step (confLoad_upd ..) rfl ?_
    exact h3

theorem confReload_upd (c : Nat) (q : CmdReq) (s : State) : UpdP 0x4141be380 s (confReload c q s) := by
  unfold confReload
  refine UpdP.ite ?_ ?_
  · refine UpdP.step (State.confEnd_upd ..) rfl ?_
    exact Upd.refl _ _
  · extract_lets +onlyGivenNames x1
    clear_value x1
    extract_lets +onlyGivenNames x2
    clear_value x2
    refine UpdP.checked ?_ ?_
    · exact Upd.refl _ _
    · refine UpdP.step (State.confEnd_upd ..) rfl ?_
      refine Upd.step (State.setPhase_upd ..) rfl ?_
      refine Upd.step (State.cfgReload_upd ..) rfl ?_
      exact Upd.refl _ _

theorem execConfReload_upd (c : Fin 128) (s : State) : UpdO 0x4161be380 s (execConfReload c s) := by
  unfold execConfReload
  refine UpdO.next ?_
  refine Upd.runCmd _ _ _ rfl ?_ (fun q1 y2 h3 => ?_)
  · exact Upd.refl _ _
  · refine UpdP.step (confReload_upd ..) rfl ?_
    exact h3

theorem confRemap_upd (ok : Bool) (q : CmdReq) (s : State) : UpdP 0x801038380 s (confRemap ok q s) := by
  unfold confRemap
  extract_lets +onlyGivenNames x1
  clear_value x1
  extract_lets +onlyGivenNames x2
  clear_value x2
  extract_lets +onlyGivenNames x3
  clear_value x3
  extract_lets +onlyGivenNames x4
  clear_value x4
  refine UpdP.checked ?_ ?_
  · exact Upd.refl _ _
  · extract_lets +onlyGivenNames x5
    clear_value x5
    extract_lets +onlyGivenNames x6
    clear_value x6
    extract_lets +onlyGivenNames x7
    refine cut (P := Upd 0x801038380 s x7) ?_ (fun h8 => ?_)
    · unfold x7
      refine Upd.step (Upd.set_ledger _ _) rfl ?_
      exact Upd.refl _ _
    clear_value x7
    split
    · extract_lets +onlyGivenNames x9
      clear_value x9
      refine UpdP.mk ?_
      refine Upd.step (bmRemapWrite_upd ..) rfl ?_
      exact h8
    · refine UpdP.mk ?_
      refine Upd.step (grRemapWrite_upd ..) rfl ?_
      exact h8
    · refine UpdP.mk ?_
      refine Upd.step (State.retire_upd ..) rfl ?_
      exact Upd.refl _ _

theorem execConfRemap_upd (c : Fin 128) (flashOk : Bool) (s : State) : UpdO 0xc03038380 s (execConfRemap c flashOk s) := by
  unfold execConfRemap
  refine UpdO.next ?_
  refine Upd.runCmd _ _ _ rfl ?_ (fun q1 y2 h3 => ?_)
  · exact Upd.refl _ _
  · refine UpdP.step (confRemap_upd ..) rfl ?_
    exact h3

theorem confLedger_upd (bus : Rsp) (q : CmdReq) (s : State) : UpdP 0x100 s (confLedger bus q s) := by
  unfold confLedger
  split
  · extract_lets +onlyGivenNames x1
    clear_value x1
    refine UpdP.checked ?_ ?_
    · exact Upd.refl _ _
    · refine UpdP.mk ?_
      refine Upd.step (State.emit_upd ..) rfl ?_
      exact Upd.refl _ _

theorem execConfLedger_upd (c : Fin 128) (bus : Rsp) (s : State) : UpdO 0x402018300 s (execConfLedger c bus s) := by
  unfold execConfLedger
  refine UpdO.next ?_
  refine Upd.runCmd _ _ _ rfl ?_ (fun q1 y2 h3 => ?_)
  · exact Upd.refl _ _
  · refine UpdP.step (confLedger_upd ..) rfl ?_
    exact h3

end Sys2Proof.Machine
end

