-- ==== Sys2Proof/Laws/FrameCmdSys.lean ====
section
/-! SUPPORT. What each operation of Sys2Proof/Machine/CmdSys.lean may change: the fields whose bits are set, in the order of State. -/
namespace Sys2Proof.Machine

theorem UpdP.byReeve {m : Nat} {s x : State} {k : Ans × State} (h : Upd m s x) (g : UpdP m s k) : UpdP m s (x.byReeve k) := by
  unfold State.byReeve
  exact UpdP.ite g h

theorem secEncOn_upd (q : CmdReq) (s : State) : UpdP 0x9018380 s (secEncOn q s) := by
  unfold secEncOn
  extract_lets +onlyGivenNames x1
  clear_value x1
  extract_lets +onlyGivenNames x2
  clear_value x2
  extract_lets +onlyGivenNames x3
  clear_value x3
  extract_lets +onlyGivenNames x4
  clear_value x4
  refine UpdP.checked ?_ ?_
  · exact Upd.refl _ _
  · refine UpdP.byReeve ?_ ?_
    · exact Upd.refl _ _
    · refine UpdP.ite ?_ ?_
      · refine UpdP.mk ?_
        exact Upd.refl _ _
      · split
        · refine UpdP.mk ?_
          refine Upd.step (State.encEvt_upd ..) rfl ?_
          exact Upd.refl _ _
        · extract_lets +onlyGivenNames x5
          refine cut (P := Upd 0x9018380 s x5) ?_ (fun h6 => ?_)
          · unfold x5
            refine Upd.step (State.wf_upd ..) rfl ?_
            refine Upd.step (State.wf_upd ..) rfl ?_
            exact Upd.refl _ _
          clear_value x5
          refine UpdP.mk ?_
          refine Upd.step (encCtrlWrite_upd ..) rfl ?_
          exact h6

theorem execSecEncOn_upd (c : Fin 128) (s : State) : UpdO 0x40b018380 s (execSecEncOn c s) := by
  unfold execSecEncOn
  refine UpdO.next ?_
  refine Upd.runCmd _ _ _ rfl ?_ (fun q1 y2 h3 => ?_)
  · exact Upd.refl _ _
  · refine UpdP.step (secEncOn_upd ..) rfl ?_
    exact h3

theorem execSecEncOff_upd (c : Fin 128) (s : State) : UpdO 0x40b018380 s (execSecEncOff c s) := by
  unfold execSecEncOff
  refine UpdO.next ?_
  refine Upd.runCmd _ _ _ rfl ?_ (fun q1 y2 h3 => ?_)
  · exact Upd.refl _ _
  · extract_lets +onlyGivenNames x4
    clear_value x4
    extract_lets +onlyGivenNames x5
    clear_value x5
    refine UpdP.checked ?_ ?_
    · exact h3
    · refine UpdP.byReeve ?_ ?_
      · exact h3
      · refine UpdP.mk ?_
        refine Upd.ite ?_ ?_
        · exact h3
        · refine Upd.step (encCtrlWrite_upd ..) rfl ?_
          exact h3

theorem drbg_upd (n : Nat) (s : State) : UpdP 0x8000000 s (drbg n s) := by
  unfold drbg
  extract_lets +onlyGivenNames x1
  refine cut (P := UpdP 0x8000000 s x1) ?_ (fun h2 => ?_)
  · unfold x1
    refine UpdP.step (State.draw_upd ..) rfl ?_
    exact Upd.refl _ _
  clear_value x1
  exact h2

theorem execSecRandom_upd (c : Fin 128) (s : State) : UpdO 0x40a018300 s (execSecRandom c s) := by
  unfold execSecRandom
  refine UpdO.next ?_
  refine Upd.runCmd _ _ _ rfl ?_ (fun q1 y2 h3 => ?_)
  · exact Upd.refl _ _
  · extract_lets +onlyGivenNames x4
    clear_value x4
    refine UpdP.checked ?_ ?_
    · exact h3
    · refine UpdP.byReeve ?_ ?_
      · exact h3
      · refine UpdP.ite ?_ ?_
        · exact h3
        · split
          · rename_i v5 v6 v7 v8
            refine cut (P := Upd 0x40a018300 s v7) (UpdP.out ?_ v8) (fun h9 => ?_)
            · refine UpdP.step (drbg_upd ..) rfl ?_
              exact h3
            exact h9

theorem secLifecycle_upd (c : Nat) (a : LcAuth) (bus : Rsp) (q : CmdReq) (s : State) : UpdP 0x408000200 s (secLifecycle c a bus q s) := by
  unfold secLifecycle
  extract_lets +onlyGivenNames x1
  refine UpdP.ite ?_ ?_
  · unfold x1
    split
    · refine UpdP.mk ?_
      refine Upd.step (Upd.set_sec _ _) rfl ?_
      exact Upd.refl _ _
    · refine UpdP.mk ?_
      exact Upd.refl _ _
  · extract_lets +onlyGivenNames x2
    clear_value x2
    refine UpdP.checked ?_ ?_
    · exact Upd.refl _ _
    · refine UpdP.byReeve ?_ ?_
      · exact Upd.refl _ _
      · refine UpdP.ite ?_ ?_
        · refine UpdP.mk ?_
          exact Upd.refl _ _
        · refine UpdP.checked ?_ ?_
          · exact Upd.refl _ _
          · refine UpdP.mk ?_
            refine Upd.step (State.pkeStart_upd ..) rfl ?_
            refine Upd.step (State.setPhase_upd ..) rfl ?_
            exact Upd.refl _ _

theorem execSecLifecycle_upd (c : Fin 128) (auth : LcAuth) (bus : Rsp) (s : State) : UpdO 0x40a018300 s (execSecLifecycle c auth bus s) := by
  unfold execSecLifecycle
  refine UpdO.next ?_
  refine Upd.runCmd _ _ _ rfl ?_ (fun q1 y2 h3 => ?_)
  · exact Upd.refl _ _
  · refine UpdP.step (secLifecycle_upd ..) rfl ?_
    exact h3

theorem execMonRead_upd (c : Fin 128) (s : State) : UpdO 0x402018300 s (execMonRead c s) := by
  unfold execMonRead
  refine UpdO.next ?_
  refine Upd.runCmd _ _ _ rfl ?_ (fun q1 y2 h3 => ?_)
  · exact Upd.refl _ _
  · extract_lets +onlyGivenNames x4
    clear_value x4
    extract_lets +onlyGivenNames x5
    clear_value x5
    extract_lets +onlyGivenNames x6
    clear_value x6
    refine UpdP.checked ?_ ?_
    · exact h3
    · exact h3

theorem execMonConfig_upd (c : Fin 128) (s : State) : UpdO 0x482018300 s (execMonConfig c s) := by
  unfold execMonConfig
  refine UpdO.next ?_
  refine Upd.runCmd _ _ _ rfl ?_ (fun q1 y2 h3 => ?_)
  · exact Upd.refl _ _
  · extract_lets +onlyGivenNames x4
    clear_value x4
    extract_lets +onlyGivenNames x5
    clear_value x5
    refine UpdP.checked ?_ ?_
    · exact h3
    · refine UpdP.mk ?_
      refine Upd.step (monChWrite_upd ..) rfl ?_
      exact h3

theorem execMonPower_upd (c : Fin 128) (s : State) : UpdO 0x402018300 s (execMonPower c s) := by
  unfold execMonPower
  refine UpdO.next ?_
  refine Upd.runCmd _ _ _ rfl ?_ (fun q1 y2 h3 => ?_)
  · exact Upd.refl _ _
  · extract_lets +onlyGivenNames x4
    clear_value x4
    exact h3

theorem parishRead_upd (bus : Rsp) (q : CmdReq) (s : State) : UpdP 0x100 s (parishRead bus q s) := by
  unfold parishRead
  split
  · extract_lets +onlyGivenNames x1
    clear_value x1
    refine UpdP.checked ?_ ?_
    · exact Upd.refl _ _
    · extract_lets +onlyGivenNames x2
      clear_value x2
      extract_lets +onlyGivenNames x3
      clear_value x3
      extract_lets +onlyGivenNames x4
      clear_value x4
      extract_lets +onlyGivenNames x5
      clear_value x5
      extract_lets +onlyGivenNames x6
      clear_value x6
      refine UpdP.mk ?_
      refine Upd.ite ?_ ?_
      · exact Upd.refl _ _
      · refine Upd.step (State.emit_upd ..) rfl ?_
        exact Upd.refl _ _

theorem execParishRead_upd (c : Fin 128) (bus : Rsp) (s : State) : UpdO 0x402018300 s (execParishRead c bus s) := by
  unfold execParishRead
  refine UpdO.next ?_
  refine Upd.runCmd _ _ _ rfl ?_ (fun q1 y2 h3 => ?_)
  · exact Upd.refl _ _
  · refine UpdP.step (parishRead_upd ..) rfl ?_
    exact h3

theorem execParishMark_upd (c : Fin 128) (s : State) : UpdO 0x402038380 s (execParishMark c s) := by
  unfold execParishMark
  refine UpdO.next ?_
  refine Upd.runCmd _ _ _ rfl ?_ (fun q1 y2 h3 => ?_)
  · exact Upd.refl _ _
  · extract_lets +onlyGivenNames x4
    clear_value x4
    refine UpdP.checked ?_ ?_
    · exact h3
    · extract_lets +onlyGivenNames x5
      clear_value x5
      refine UpdP.mk ?_
      refine Upd.step (State.recordO_upd ..) rfl ?_
      refine Upd.step (State.wr_upd ..) rfl ?_
      exact h3

theorem execParishStatus_upd (c : Fin 128) (s : State) : UpdO 0x402018300 s (execParishStatus c s) := by
  unfold execParishStatus
  refine UpdO.next ?_
  refine Upd.runCmd _ _ _ rfl ?_ (fun q1 y2 h3 => ?_)
  · exact Upd.refl _ _
  · exact h3

theorem execFwVersion_upd (c : Fin 128) (s : State) : UpdO 0x402018300 s (execFwVersion c s) := by
  unfold execFwVersion
  refine UpdO.next ?_
  refine Upd.runCmd _ _ _ rfl ?_ (fun q1 y2 h3 => ?_)
  · exact Upd.refl _ _
  · exact h3

theorem fwUpdate_upd (x : SlotIn) (bus : Rsp) (flashOk : Bool) (q : CmdReq) (s : State) : UpdP 0x100000000 s (fwUpdate x bus flashOk q s) := by
  unfold fwUpdate
  extract_lets +onlyGivenNames x1
  clear_value x1
  extract_lets +onlyGivenNames x2
  refine UpdP.checked ?_ ?_
  · exact Upd.refl _ _
  · refine UpdP.byReeve ?_ ?_
    · exact Upd.refl _ _
    · refine UpdP.checked ?_ ?_
      · exact Upd.refl _ _
      · refine UpdP.ite ?_ ?_
        · extract_lets +onlyGivenNames x3
          clear_value x3
          refine UpdP.mk ?_
          unfold x2
          refine Upd.step (Upd.set_cores _ _) rfl ?_
          exact Upd.refl _ _
        · refine UpdP.mk ?_
          unfold x2
          refine Upd.step (Upd.set_cores _ _) rfl ?_
          exact Upd.refl _ _

theorem execFwUpdate_upd (c : Fin 128) (img : SlotIn) (bus : Rsp) (flashOk : Bool) (s : State) : UpdO 0x502018300 s (execFwUpdate c img bus flashOk s) := by
  unfold execFwUpdate
  refine UpdO.next ?_
  refine Upd.runCmd _ _ _ rfl ?_ (fun q1 y2 h3 => ?_)
  · exact Upd.refl _ _
  · refine UpdP.step (fwUpdate_upd ..) rfl ?_
    exact h3

theorem fwRestart_upd (c : Nat) (s : State) : Upd 0x502038380 s (fwRestart c s) := by
  unfold fwRestart
  split
  · exact Upd.refl _ _
  · extract_lets +onlyGivenNames x1
    refine cut (P := Upd 0x502038380 s x1) ?_ (fun h2 => ?_)
    · unfold x1
      refine Upd.runCmd _ _ _ rfl ?_ (fun q3 y4 h5 => ?_)
      · exact Upd.refl _ _
      · refine UpdP.checked ?_ ?_
        · exact h5
        · refine UpdP.byReeve ?_ ?_
          · exact h5
          · refine UpdP.mk ?_
            refine Upd.step (State.setPhase_upd ..) rfl ?_
            exact h5
    clear_value x1
    extract_lets +onlyGivenNames x6
    clear_value x6
    extract_lets +onlyGivenNames x7
    clear_value x7
    refine Upd.ite ?_ ?_
    · exact h2
    · extract_lets +onlyGivenNames x8
      clear_value x8
      extract_lets +onlyGivenNames x9
      refine cut (P := Upd 0x502038380 s x9) ?_ (fun h10 => ?_)
      · unfold x9
        refine Upd.step (State.cmnRestart_upd ..) rfl ?_
        exact h2
      clear_value x9
      refine Upd.ite ?_ ?_
      · refine Upd.step (State.wf_upd ..) rfl ?_
        refine Upd.step (Upd.set_cores _ _) rfl ?_
        exact h10
      · exact h10

theorem execFwRestart_upd (c : Fin 128) (s : State) : UpdO 0x502038380 s (execFwRestart c s) := by
  unfold execFwRestart
  refine UpdO.next ?_
  refine Upd.step (fwRestart_upd ..) rfl ?_
  exact Upd.refl _ _

theorem fwPatch_upd (p : PatchRec) (bus : Rsp) (q : CmdReq) (s : State) : UpdP 0x100000200 s (fwPatch p bus q s) := by
  unfold fwPatch
  refine UpdP.checked ?_ ?_
  · exact Upd.refl _ _
  · refine UpdP.byReeve ?_ ?_
    · exact Upd.refl _ _
    · refine UpdP.checked ?_ ?_
      · exact Upd.refl _ _
      · refine UpdP.mk ?_
        refine Upd.step (State.patchLoad_upd ..) rfl ?_
        exact Upd.refl _ _

theorem execFwPatch_upd (c : Fin 128) (p : PatchRec) (bus : Rsp) (s : State) : UpdO 0x502018300 s (execFwPatch c p bus s) := by
  unfold execFwPatch
  refine UpdO.next ?_
  refine Upd.runCmd _ _ _ rfl ?_ (fun q1 y2 h3 => ?_)
  · exact Upd.refl _ _
  · refine UpdP.step (fwPatch_upd ..) rfl ?_
    exact h3

end Sys2Proof.Machine
end

