-- ==== Sys2Proof/Laws/FrameGuest.lean ====
section
/-! SUPPORT. What each operation of Sys2Proof/Machine/Guest.lean may change: the fields whose bits are set, in the order of State. -/
namespace Sys2Proof.Machine

theorem State.setGst_upd (s : State) (v : Nat) : Upd 0x200 s (State.setGst s v) := by
  unfold State.setGst
  refine Upd.step (State.wf_upd ..) rfl ?_
  exact Upd.refl _ _

theorem State.guestTarget_upd (s : State) (f : Flit) : Upd 0x210080380 s (State.guestTarget s f) := by
  unfold State.guestTarget
  refine Upd.ite ?_ ?_
  · refine Upd.step (State.toGuest_upd ..) rfl ?_
    exact Upd.refl _ _
  · refine Upd.ite ?_ ?_
    · refine Upd.step (State.respond_upd ..) rfl ?_
      exact Upd.refl _ _
    · exact Upd.refl _ _

theorem State.guestCut_upd (s : State) (code : Nat) : Upd 0x210080280 s (State.guestCut s code) := by
  unfold State.guestCut
  extract_lets +onlyGivenNames x1
  clear_value x1
  extract_lets +onlyGivenNames x2
  clear_value x2
  extract_lets +onlyGivenNames x3
  clear_value x3
  extract_lets +onlyGivenNames x4
  refine cut (P := Upd 0x210080280 s x4) ?_ (fun h5 => ?_)
  · unfold x4
    refine Upd.step (Upd.set_guest _ _) rfl ?_
    exact Upd.refl _ _
  clear_value x4
  extract_lets +onlyGivenNames x6
  refine cut (P := Upd 0x210080280 s x6) ?_ (fun h7 => ?_)
  · unfold x6
    refine Upd.foldl ?_ (fun y8 a9 h10 => ?_)
    · exact h5
    · refine Upd.step (State.respond_upd ..) rfl ?_
      exact h10
  clear_value x6
  refine Upd.step (State.cnt_upd ..) rfl ?_
  exact h7

theorem State.guestFence_upd (s : State) : Upd 0x210080280 s (State.guestFence s) := by
  unfold State.guestFence
  refine Upd.step (State.wf_upd ..) rfl ?_
  refine Upd.step (State.setGst_upd ..) rfl ?_
  refine Upd.step (State.guestCut_upd ..) rfl ?_
  exact Upd.refl _ _

theorem State.guestFail_upd (s : State) : Upd 0x2100a0280 s (State.guestFail s) := by
  unfold State.guestFail
  extract_lets +onlyGivenNames x1
  refine cut (P := Upd 0x2100a0280 s x1) ?_ (fun h2 => ?_)
  · unfold x1
    refine Upd.step (State.guestFence_upd ..) rfl ?_
    exact Upd.refl _ _
  clear_value x1
  extract_lets +onlyGivenNames x3
  clear_value x3
  refine Upd.step (State.reportO_upd ..) rfl ?_
  refine Upd.step (State.recordO_upd ..) rfl ?_
  exact h2

theorem gstCtrl_upd (v : Word) (s : State) : Upd 0x210080380 s (gstCtrl v s) := by
  unfold gstCtrl
  extract_lets +onlyGivenNames x1
  clear_value x1
  refine Upd.ite ?_ ?_
  · refine Upd.ite ?_ ?_
    · exact Upd.refl _ _
    · refine Upd.step (State.guestFence_upd ..) rfl ?_
      exact Upd.refl _ _
  · extract_lets +onlyGivenNames x2
    refine cut (P := Upd 0x210080380 s x2) ?_ (fun h3 => ?_)
    · unfold x2
      refine Upd.ite ?_ ?_
      · refine Upd.step (State.emit_upd ..) rfl ?_
        refine Upd.step (State.setGst_upd ..) rfl ?_
        refine Upd.step (State.guestCut_upd ..) rfl ?_
        exact Upd.refl _ _
      · exact Upd.refl _ _
    clear_value x2
    refine Upd.ite ?_ ?_
    · refine Upd.ite ?_ ?_
      · refine Upd.step (State.setGst_upd ..) rfl ?_
        exact h3
      · refine Upd.step (State.setF_upd ..) rfl ?_
        exact h3
    · exact h3

theorem execGstUnfence_upd (r : Req) (v : Word) (s : State) : UpdO 0x210098380 s (execGstUnfence r v s) := by
  unfold execGstUnfence
  refine UpdO.next ?_
  refine Upd.gated _ _ _ rfl ?_ (fun y1 h2 => ?_)
  · exact Upd.refl _ _
  · refine Upd.step (gstCtrl_upd ..) rfl ?_
    exact h2

theorem execGstFence_upd (r : Req) (v : Word) (s : State) : UpdO 0x210098380 s (execGstFence r v s) := by
  unfold execGstFence
  refine UpdO.next ?_
  refine Upd.gated _ _ _ rfl ?_ (fun y1 h2 => ?_)
  · exact Upd.refl _ _
  · refine Upd.step (gstCtrl_upd ..) rfl ?_
    exact h2

theorem execGstReset_upd (r : Req) (v : Word) (s : State) : UpdO 0x210098380 s (execGstReset r v s) := by
  unfold execGstReset
  refine UpdO.next ?_
  refine Upd.gated _ _ _ rfl ?_ (fun y1 h2 => ?_)
  · exact Upd.refl _ _
  · refine Upd.step (gstCtrl_upd ..) rfl ?_
    exact h2

theorem execGuestTrainDone_upd (rate : Fin 3) (s : State) : UpdO 0x200000200 s (execGuestTrainDone rate s) := by
  unfold execGuestTrainDone
  refine UpdO.next ?_
  refine Upd.ite ?_ ?_
  · refine Upd.step (State.wf_upd ..) rfl ?_
    refine Upd.step (State.setGst_upd ..) rfl ?_
    refine Upd.step (Upd.set_guest _ _) rfl ?_
    exact Upd.refl _ _
  · exact Upd.refl _ _

theorem execGuestTrainTimeout_upd (s : State) : UpdO 0x2100a0280 s (execGuestTrainTimeout s) := by
  unfold execGuestTrainTimeout
  refine UpdO.next ?_
  refine Upd.ite ?_ ?_
  · refine Upd.step (State.guestFail_upd ..) rfl ?_
    refine Upd.step (State.setF_upd ..) rfl ?_
    exact Upd.refl _ _
  · exact Upd.refl _ _

theorem execGuestResetTimeout_upd (s : State) : UpdO 0x2100a0280 s (execGuestResetTimeout s) := by
  unfold execGuestResetTimeout
  refine UpdO.next ?_
  refine Upd.ite ?_ ?_
  · refine Upd.step (State.guestFail_upd ..) rfl ?_
    refine Upd.step (State.setF_upd ..) rfl ?_
    exact Upd.refl _ _
  · exact Upd.refl _ _

theorem execGuestLinkDown_upd (s : State) : UpdO 0x2100a0280 s (execGuestLinkDown s) := by
  unfold execGuestLinkDown
  refine UpdO.next ?_
  refine Upd.ite ?_ ?_
  · exact Upd.refl _ _
  · refine Upd.step (State.guestFail_upd ..) rfl ?_
    exact Upd.refl _ _

theorem State.guestRefuse_upd (s : State) (f : Flit) (code : Nat) : Upd 0x200000100 s (State.guestRefuse s f code) := by
  unfold State.guestRefuse
  refine Upd.ite ?_ ?_
  · refine Upd.foldl ?_ (fun y1 a2 h3 => ?_)
    · exact Upd.refl _ _
    · refine Upd.step (State.toGuest_upd ..) rfl ?_
      exact h3
  · exact Upd.refl _ _

theorem State.guestRequest_upd (s : State) (m : Nat) (f : Flit) : Upd 0x210098380 s (State.guestRequest s m f) := by
  unfold State.guestRequest
  extract_lets +onlyGivenNames x1
  clear_value x1
  extract_lets +onlyGivenNames x2
  clear_value x2
  refine Upd.ite ?_ ?_
  · refine Upd.step (State.cnt_upd ..) rfl ?_
    refine Upd.step (State.guestRefuse_upd ..) rfl ?_
    exact Upd.refl _ _
  · refine Upd.ite ?_ ?_
    · refine Upd.step (State.guestRefuse_upd ..) rfl ?_
      exact Upd.refl _ _
    · split
      · refine Upd.step (State.guestRefuse_upd ..) rfl ?_
        exact Upd.refl _ _
      · extract_lets +onlyGivenNames x3
        refine Upd.ite ?_ ?_
        · refine Upd.ite ?_ ?_
          · refine Upd.step (State.guestRefuse_upd ..) rfl ?_
            refine Upd.step (State.stopEvt_upd ..) rfl ?_
            exact Upd.refl _ _
          · extract_lets +onlyGivenNames x4
            clear_value x4
            refine Upd.ite ?_ ?_
            · exact Upd.refl _ _
            · refine Upd.step (State.setStop_upd ..) rfl ?_
              exact Upd.refl _ _
        · extract_lets +onlyGivenNames x5
          clear_value x5
          extract_lets +onlyGivenNames x6
          refine cut (P := Upd 0x210098380 s x6) ?_ (fun h7 => ?_)
          · unfold x6
            refine Upd.ite ?_ ?_
            · refine Upd.step (State.setStop_upd ..) rfl ?_
              exact Upd.refl _ _
            · exact Upd.refl _ _
          clear_value x6
          refine Upd.step (State.place_upd ..) rfl ?_
          exact h7

theorem State.guestFlit_upd (s : State) (m : Nat) (raw : Nat) : Upd 0x210098380 s (State.guestFlit s m raw) := by
  unfold State.guestFlit
  split
  · refine Upd.step (State.stopEvt_upd ..) rfl ?_
    exact Upd.refl _ _
  · extract_lets +onlyGivenNames x1
    refine cut (P := Upd 0x210098380 s x1) ?_ (fun h2 => ?_)
    · unfold x1
      refine Upd.ite ?_ ?_
      · refine Upd.step (State.stopEvt_upd ..) rfl ?_
        exact Upd.refl _ _
      · exact Upd.refl _ _
    clear_value x1
    extract_lets +onlyGivenNames x3
    refine cut (P := Upd 0x210098380 s x3) ?_ (fun h4 => ?_)
    · unfold x3
      refine Upd.ite ?_ ?_
      · refine Upd.step (State.stopEvt_upd ..) rfl ?_
        exact h2
      · exact h2
    clear_value x3
    extract_lets +onlyGivenNames x5
    clear_value x5
    refine Upd.ite ?_ ?_
    · extract_lets +onlyGivenNames x6
      clear_value x6
      refine Upd.step (State.place_upd ..) rfl ?_
      refine Upd.step (Upd.set_guest _ _) rfl ?_
      exact h4
    · refine Upd.step (State.guestRequest_upd ..) rfl ?_
      exact h4

theorem State.guestCredit_upd (s : State) (b : Nat) : Upd 0x200000100 s (State.guestCredit s b) := by
  unfold State.guestCredit
  extract_lets +onlyGivenNames x1
  clear_value x1
  refine Upd.step (guestPump_upd ..) rfl ?_
  refine Upd.step (Upd.set_guest _ _) rfl ?_
  exact Upd.refl _ _

theorem guestReceive_upd (b : Nat) (s : State) : Upd 0x210098380 s (guestReceive b s) := by
  unfold guestReceive
  extract_lets +onlyGivenNames x1
  clear_value x1
  refine Upd.ite ?_ ?_
  · exact Upd.refl _ _
  · refine Upd.ite ?_ ?_
    · refine Upd.step (State.cnt_upd ..) rfl ?_
      exact Upd.refl _ _
    · extract_lets +onlyGivenNames x2
      clear_value x2
      refine Upd.ite ?_ ?_
      · refine Upd.step (State.cnt_upd ..) rfl ?_
        exact Upd.refl _ _
      · refine Upd.ite ?_ ?_
        · refine Upd.step (State.guestCredit_upd ..) rfl ?_
          exact Upd.refl _ _
        · refine Upd.ite ?_ ?_
          · refine Upd.ite ?_ ?_
            · refine Upd.step (State.setGst_upd ..) rfl ?_
              refine Upd.step (Upd.set_guest _ _) rfl ?_
              exact Upd.refl _ _
            · exact Upd.refl _ _
          · refine Upd.ite ?_ ?_
            · refine Upd.step (State.guestFlit_upd ..) rfl ?_
              exact Upd.refl _ _
            · exact Upd.refl _ _

theorem execGuestFlitReceive_upd (bytes : BitVec 768) (s : State) : UpdO 0x210098380 s (execGuestFlitReceive bytes s) := by
  unfold execGuestFlitReceive
  refine UpdO.next ?_
  refine Upd.step (guestReceive_upd ..) rfl ?_
  exact Upd.refl _ _

end Sys2Proof.Machine
end

