-- ==== Sys2Proof/Laws/FrameRegAccess.lean ====
section
/-! SUPPORT. What each operation of Sys2Proof/Machine/RegAccess.lean may change: the fields whose bits are set, in the order of State. -/
namespace Sys2Proof.Machine

theorem State.plain_upd (s : State) (k : Nat) (b : Blk) (spec : RegSpec) (v : Word) : Upd 0x200 s (State.plain s k b spec v) := by
  unfold State.plain
  refine Upd.step (State.wr_upd ..) rfl ?_
  exact Upd.refl _ _

theorem State.writeField_upd (s : State) (f : Nat) (i : Nat) (k : Nat) (spec : RegSpec) (v : Word) : Upd 0x1001e300 s (State.writeField s f i k spec v) := by
  unfold State.writeField
  extract_lets +onlyGivenNames x1
  clear_value x1
  extract_lets +onlyGivenNames x2
  refine cut (P := Upd 0x1001e300 s x2) ?_ (fun h3 => ?_)
  · unfold x2
    refine Upd.step (State.plain_upd ..) rfl ?_
    exact Upd.refl _ _
  clear_value x2
  refine Upd.ite ?_ ?_
  · refine Upd.step (fckApply_upd ..) rfl ?_
    exact Upd.refl _ _
  · refine Upd.ite ?_ ?_
    · refine Upd.step (State.stretchField_upd ..) rfl ?_
      refine Upd.step (State.tcritCount_upd ..) rfl ?_
      exact h3
    · refine Upd.ite ?_ ?_
      · refine Upd.step (bmRewrite_upd ..) rfl ?_
        exact Upd.refl _ _
      · refine Upd.ite ?_ ?_
        · refine Upd.step (bmFlipArm_upd ..) rfl ?_
          exact Upd.refl _ _
        · refine Upd.ite ?_ ?_
          · refine Upd.step (bmRemapWrite_upd ..) rfl ?_
            exact Upd.refl _ _
          · refine Upd.ite ?_ ?_
            · refine Upd.step (fldCmd_upd ..) rfl ?_
              exact Upd.refl _ _
            · refine Upd.ite ?_ ?_
              · refine Upd.step (fldCapture_upd ..) rfl ?_
                exact Upd.refl _ _
              · refine Upd.ite ?_ ?_
                · refine Upd.step (State.xtFence_upd ..) rfl ?_
                  exact h3
                · exact h3

theorem State.writeDdr_upd (s : State) (c : Nat) (k : Nat) (spec : RegSpec) (v : Word) : Upd 0x1018300 s (State.writeDdr s c k spec v) := by
  unfold State.writeDdr
  extract_lets +onlyGivenNames x1
  clear_value x1
  refine Upd.ite ?_ ?_
  · refine Upd.step (ddrFreqWrite_upd ..) rfl ?_
    exact Upd.refl _ _
  · refine Upd.ite ?_ ?_
    · exact Upd.refl _ _
    · refine Upd.step (State.plain_upd ..) rfl ?_
      exact Upd.refl _ _

theorem State.writeLink_upd (s : State) (l : Nat) (k : Nat) (spec : RegSpec) (v : Word) : Upd 0x338380 s (State.writeLink s l k spec v) := by
  unfold State.writeLink
  extract_lets +onlyGivenNames x1
  clear_value x1
  refine Upd.ite ?_ ?_
  · refine Upd.step (linkCfgWrite_upd ..) rfl ?_
    exact Upd.refl _ _
  · refine Upd.ite ?_ ?_
    · refine Upd.step (linkOwnerWrite_upd ..) rfl ?_
      exact Upd.refl _ _
    · refine Upd.ite ?_ ?_
      · refine Upd.step (ctrlGo_upd ..) rfl ?_
        exact Upd.refl _ _
      · refine Upd.ite ?_ ?_
        · refine Upd.step (fiWrite_upd ..) rfl ?_
          exact Upd.refl _ _
        · refine Upd.step (State.plain_upd ..) rfl ?_
          exact Upd.refl _ _

theorem State.writeFcu_upd (s : State) (n : Nat) (i : Nat) (k : Nat) (spec : RegSpec) (v : Word) : Upd 0x318300 s (State.writeFcu s n i k spec v) := by
  unfold State.writeFcu
  extract_lets +onlyGivenNames x1
  clear_value x1
  extract_lets +onlyGivenNames x2
  clear_value x2
  refine Upd.ite ?_ ?_
  · refine Upd.step (fcuClr_upd ..) rfl ?_
    exact Upd.refl _ _
  · refine Upd.ite ?_ ?_
    · refine Upd.step (fcuGranWrite_upd ..) rfl ?_
      exact Upd.refl _ _
    · refine Upd.ite ?_ ?_
      · refine Upd.step (lrCtrlWrite_upd ..) rfl ?_
        exact Upd.refl _ _
      · refine Upd.ite ?_ ?_
        · refine Upd.step (lrLogWrite_upd ..) rfl ?_
          exact Upd.refl _ _
        · refine Upd.ite ?_ ?_
          · refine Upd.step (lrLogWrite_upd ..) rfl ?_
            exact Upd.refl _ _
          · refine Upd.ite ?_ ?_
            · refine Upd.step (lrLogWrite_upd ..) rfl ?_
              exact Upd.refl _ _
            · refine Upd.step (State.plain_upd ..) rfl ?_
              exact Upd.refl _ _

theorem State.writeAp_upd (s : State) (f : Nat) (k : Nat) (spec : RegSpec) (v : Word) : Upd 0x200 s (State.writeAp s f k spec v) := by
  unfold State.writeAp
  extract_lets +onlyGivenNames x1
  refine Upd.ite ?_ ?_
  · refine Upd.step (State.setF_upd ..) rfl ?_
    exact Upd.refl _ _
  · refine Upd.step (State.plain_upd ..) rfl ?_
    exact Upd.refl _ _

theorem State.writeGpio_upd (s : State) (g : Nat) (i : Nat) (k : Nat) (spec : RegSpec) (v : Word) : Upd 0x40000300 s (State.writeGpio s g i k spec v) := by
  unfold State.writeGpio
  extract_lets +onlyGivenNames x1
  clear_value x1
  extract_lets +onlyGivenNames x2
  clear_value x2
  extract_lets +onlyGivenNames x3
  refine cut (P := Upd 0x40000300 s x3) ?_ (fun h4 => ?_)
  · unfold x3
    refine Upd.step (State.plain_upd ..) rfl ?_
    exact Upd.refl _ _
  clear_value x3
  refine Upd.ite ?_ ?_
  · refine Upd.step (ioPinWrite_upd ..) rfl ?_
    exact Upd.refl _ _
  · refine Upd.ite ?_ ?_
    · refine Upd.step (gpioSet_upd ..) rfl ?_
      exact Upd.refl _ _
    · refine Upd.ite ?_ ?_
      · refine Upd.step (gpioClr_upd ..) rfl ?_
        exact Upd.refl _ _
      · refine Upd.ite ?_ ?_
        · refine Upd.step (gpioTgl_upd ..) rfl ?_
          exact Upd.refl _ _
        · refine Upd.ite ?_ ?_
          · refine Upd.step (State.gpioLevels_upd ..) rfl ?_
            exact h4
          · refine Upd.ite ?_ ?_
            · refine Upd.step (i2cGo_upd ..) rfl ?_
              exact Upd.refl _ _
            · refine Upd.ite ?_ ?_
              · refine Upd.step (spiGo_upd ..) rfl ?_
                exact Upd.refl _ _
              · refine Upd.ite ?_ ?_
                · refine Upd.ite ?_ ?_
                  · refine Upd.step (State.setF_upd ..) rfl ?_
                    exact Upd.refl _ _
                  · exact h4
                · refine Upd.ite ?_ ?_
                  · refine Upd.step (uartTx_upd ..) rfl ?_
                    exact Upd.refl _ _
                  · refine Upd.ite ?_ ?_
                    · refine Upd.step (uartStart_upd ..) rfl ?_
                      exact h4
                    · exact h4

theorem State.writeDbg_upd (s : State) (r : Req) (k : Nat) (spec : RegSpec) (v : Word) : Upd 0x112000280 s (State.writeDbg s r k spec v) := by
  unfold State.writeDbg
  extract_lets +onlyGivenNames x1
  clear_value x1
  refine Upd.ite ?_ ?_
  · refine Upd.step (xtPulse_upd ..) rfl ?_
    exact Upd.refl _ _
  · refine Upd.ite ?_ ?_
    · refine Upd.step (State.plain_upd ..) rfl ?_
      exact Upd.refl _ _
    · refine Upd.ite ?_ ?_
      · refine Upd.step (coreCmd_upd ..) rfl ?_
        exact Upd.refl _ _
      · refine Upd.ite ?_ ?_
        · refine Upd.foldl ?_ (fun y2 a3 h4 => ?_)
          · refine Upd.step (State.plain_upd ..) rfl ?_
            exact Upd.refl _ _
          · refine Upd.step (State.xtFence_upd ..) rfl ?_
            exact h4
        · refine Upd.step (State.plain_upd ..) rfl ?_
          exact Upd.refl _ _

theorem State.writeMbxEp_upd (s : State) (e : Nat) (was : Nat) (k : Nat) (spec : RegSpec) (v : Word) : Upd 0x18300 s (State.writeMbxEp s e was k spec v) := by
  unfold State.writeMbxEp
  extract_lets +onlyGivenNames x1
  refine cut (P := Upd 0x18300 s x1) ?_ (fun h2 => ?_)
  · unfold x1
    refine Upd.step (State.plain_upd ..) rfl ?_
    exact Upd.refl _ _
  clear_value x1
  refine Upd.ite ?_ ?_
  · refine Upd.step (State.dbRise_upd ..) rfl ?_
    exact h2
  · exact h2

theorem State.writeOp_upd (s : State) (r : Req) (k : Nat) (b : Blk) (spec : RegSpec) (o : Nat) (was : Nat) (v : Word) : Upd 0x7ffffffb4 s (State.writeOp s r k b spec o was v) := by
  unfold State.writeOp
  extract_lets +onlyGivenNames x1
  clear_value x1
  extract_lets +onlyGivenNames x2
  clear_value x2
  extract_lets +onlyGivenNames x3
  clear_value x3
  extract_lets +onlyGivenNames x4
  refine cut (P := Upd 0x7ffffffb4 s x4) ?_ (fun h5 => ?_)
  · unfold x4
    refine Upd.step (State.plain_upd ..) rfl ?_
    exact Upd.refl _ _
  clear_value x4
  split
  · refine Upd.step (State.writeField_upd ..) rfl ?_
    exact Upd.refl _ _
  · extract_lets +onlyGivenNames x6
    clear_value x6
    refine Upd.ite ?_ ?_
    · refine Upd.step (grRewrite_upd ..) rfl ?_
      exact Upd.refl _ _
    · refine Upd.ite ?_ ?_
      · refine Upd.step (grFlipArm_upd ..) rfl ?_
        exact Upd.refl _ _
      · refine Upd.ite ?_ ?_
        · refine Upd.step (grRemapWrite_upd ..) rfl ?_
          exact Upd.refl _ _
        · exact h5
  · refine Upd.step (State.writeDdr_upd ..) rfl ?_
    exact Upd.refl _ _
  · refine Upd.ite ?_ ?_
    · refine Upd.step (millCtrl_upd ..) rfl ?_
      exact Upd.refl _ _
    · exact h5
  · refine Upd.ite ?_ ?_
    · extract_lets +onlyGivenNames x7
      clear_value x7
      refine Upd.step (bellCtrl_upd ..) rfl ?_
      exact Upd.refl _ _
    · exact h5
  · refine Upd.ite ?_ ?_
    · refine Upd.step (bellCtrl_upd ..) rfl ?_
      exact Upd.refl _ _
    · exact h5
  · refine Upd.step (State.writeGpio_upd ..) rfl ?_
    exact Upd.refl _ _
  · refine Upd.step (State.writeLink_upd ..) rfl ?_
    exact Upd.refl _ _
  · extract_lets +onlyGivenNames x8
    clear_value x8
    refine Upd.ite ?_ ?_
    · refine Upd.step (laneCtrlWrite_upd ..) rfl ?_
      exact Upd.refl _ _
    · refine Upd.ite ?_ ?_
      · refine Upd.step (laneCmd_upd ..) rfl ?_
        exact Upd.refl _ _
      · refine Upd.ite ?_ ?_
        · refine Upd.step (State.wr_upd ..) rfl ?_
          exact Upd.refl _ _
        · exact h5
  · refine Upd.ite ?_ ?_
    · refine Upd.step (qpllWrite_upd ..) rfl ?_
      exact Upd.refl _ _
    · exact h5
  · refine Upd.step (State.writeFcu_upd ..) rfl ?_
    exact Upd.refl _ _
  · refine Upd.ite ?_ ?_
    · refine Upd.step (tallyCtrlWrite_upd ..) rfl ?_
      exact Upd.refl _ _
    · exact h5
  · refine Upd.ite ?_ ?_
    · refine Upd.step (fcAck_upd ..) rfl ?_
      exact Upd.refl _ _
    · refine Upd.ite ?_ ?_
      · refine Upd.step (parInGo_upd ..) rfl ?_
        exact Upd.refl _ _
      · exact h5
  · extract_lets +onlyGivenNames x9
    clear_value x9
    refine Upd.ite ?_ ?_
    · refine Upd.step (siteCmd_upd ..) rfl ?_
      exact Upd.refl _ _
    · refine Upd.ite ?_ ?_
      · refine Upd.step (sicEoi_upd ..) rfl ?_
        exact Upd.refl _ _
      · exact h5
  · refine Upd.ite ?_ ?_
    · refine Upd.step (dramOwnWrite_upd ..) rfl ?_
      exact Upd.refl _ _
    · refine Upd.ite ?_ ?_
      · exact Upd.refl _ _
      · exact h5
  · extract_lets +onlyGivenNames x10
    clear_value x10
    refine Upd.ite ?_ ?_
    · refine Upd.step (encCtrlWrite_upd ..) rfl ?_
      exact Upd.refl _ _
    · refine Upd.ite ?_ ?_
      · exact Upd.refl _ _
      · exact h5
  · extract_lets +onlyGivenNames x11
    clear_value x11
    refine Upd.ite ?_ ?_
    · refine Upd.step (State.writeAp_upd ..) rfl ?_
      exact Upd.refl _ _
    · refine Upd.ite ?_ ?_
      · refine Upd.ite ?_ ?_
        · refine Upd.step (hostEoi_upd ..) rfl ?_
          exact Upd.refl _ _
        · exact Upd.refl _ _
      · exact h5
  · extract_lets +onlyGivenNames x12
    clear_value x12
    refine Upd.ite ?_ ?_
    · refine Upd.step (dmaCtrlWrite_upd ..) rfl ?_
      exact Upd.refl _ _
    · refine Upd.ite ?_ ?_
      · refine Upd.step (dmaTailWrite_upd ..) rfl ?_
        exact Upd.refl _ _
      · refine Upd.ite ?_ ?_
        · refine Upd.step (dmaRingWrite_upd ..) rfl ?_
          exact Upd.refl _ _
        · refine Upd.ite ?_ ?_
          · exact Upd.refl _ _
          · exact h5
  · refine Upd.step (State.writeMbxEp_upd ..) rfl ?_
    exact Upd.refl _ _
  · refine Upd.ite ?_ ?_
    · refine Upd.step (fpbindWrite_upd ..) rfl ?_
      exact Upd.refl _ _
    · refine Upd.ite ?_ ?_
      · refine Upd.step (hbWrite_upd ..) rfl ?_
        exact Upd.refl _ _
      · exact h5
  · refine Upd.ite ?_ ?_
    · refine Upd.step (coreKick_upd ..) rfl ?_
      exact Upd.refl _ _
    · exact h5
  · refine Upd.ite ?_ ?_
    · refine Upd.step (bkLogClr_upd ..) rfl ?_
      exact Upd.refl _ _
    · refine Upd.ite ?_ ?_
      · refine Upd.step (rtcSetCmd_upd ..) rfl ?_
        exact Upd.refl _ _
      · exact h5
  · refine Upd.step (State.writeDbg_upd ..) rfl ?_
    exact Upd.refl _ _
  · refine Upd.ite ?_ ?_
    · refine Upd.step (xspiCmd_upd ..) rfl ?_
      exact Upd.refl _ _
    · exact h5
  · refine Upd.ite ?_ ?_
    · refine Upd.step (startCmd_upd ..) rfl ?_
      exact Upd.refl _ _
    · refine Upd.ite ?_ ?_
      · refine Upd.step (pwrCmd_upd ..) rfl ?_
        exact Upd.refl _ _
      · exact h5
  · refine Upd.ite ?_ ?_
    · refine Upd.step (monChWrite_upd ..) rfl ?_
      exact Upd.refl _ _
    · exact h5
  · refine Upd.ite ?_ ?_
    · refine Upd.step (clkRootWrite_upd ..) rfl ?_
      exact Upd.refl _ _
    · refine Upd.ite ?_ ?_
      · refine Upd.step (clkGateWrite_upd ..) rfl ?_
        exact Upd.refl _ _
      · refine Upd.ite ?_ ?_
        · refine Upd.step (clkmonWrite_upd ..) rfl ?_
          exact Upd.refl _ _
        · exact h5
  · refine Upd.ite ?_ ?_
    · refine Upd.step (gstCtrl_upd ..) rfl ?_
      exact Upd.refl _ _
    · exact h5
  · exact h5

theorem State.stageLo_upd (s : State) (r : Req) (lo : Nat) (v : Word) : Upd 0x800 s (State.stageLo s r lo v) := by
  unfold State.stageLo
  refine Upd.step (Upd.set_staged _ _ ?_) rfl ?_
  · exact fun h => tabWf_tabPut _ _ h
  · exact Upd.refl _ _

theorem State.counterHi_upd (s : State) (r : Req) (lo : Nat) (v : Word) (events : Nat) : Upd 0xa00 s (State.counterHi s r lo v events) := by
  unfold State.counterHi
  extract_lets +onlyGivenNames x1
  refine cut (P := Upd 0xa00 s x1) ?_ (fun h2 => ?_)
  · unfold x1
    refine Upd.step (Upd.set_staged _ _ ?_) rfl ?_
    · exact fun h => tabWf_tabPut _ _ h
    · exact Upd.refl _ _
  clear_value x1
  split
  · refine Upd.step (State.wr64_upd ..) rfl ?_
    exact h2
  · refine Upd.step (State.wr64_upd ..) rfl ?_
    exact h2

theorem State.writeReg_upd (s : State) (r : Req) (a : Nat) (k : Nat) (b : Blk) (spec : RegSpec) (o : Nat) (v : Word) (hw : List (Nat × HwUpd)) : UpdP 0x7ffffffb4 s (State.writeReg s r a k b spec o v hw) := by
  unfold State.writeReg
  extract_lets +onlyGivenNames x1
  clear_value x1
  extract_lets +onlyGivenNames x2
  clear_value x2
  refine UpdP.ite ?_ ?_
  · refine UpdP.mk ?_
    exact Upd.refl _ _
  · refine UpdP.ite ?_ ?_
    · refine UpdP.mk ?_
      exact Upd.refl _ _
    · refine UpdP.ite ?_ ?_
      · refine UpdP.mk ?_
        refine Upd.step (State.stageLo_upd ..) rfl ?_
        refine Upd.ite ?_ ?_
        · exact Upd.refl _ _
        · refine Upd.step (State.cnt64_upd ..) rfl ?_
          exact Upd.refl _ _
      · refine UpdP.ite ?_ ?_
        · refine UpdP.mk ?_
          refine Upd.step (State.counterHi_upd ..) rfl ?_
          exact Upd.refl _ _
        · extract_lets +onlyGivenNames x3
          clear_value x3
          split
          · extract_lets +onlyGivenNames x4
            refine cut (P := Upd 0x7ffffffb4 s x4) ?_ (fun h5 => ?_)
            · unfold x4
              refine Upd.ite ?_ ?_
              · exact Upd.refl _ _
              · refine Upd.step (State.wr_upd ..) rfl ?_
                exact Upd.refl _ _
            clear_value x4
            extract_lets +onlyGivenNames x6
            refine cut (P := Upd 0x7ffffffb4 s x6) ?_ (fun h7 => ?_)
            · unfold x6
              refine Upd.ite ?_ ?_
              · refine Upd.step (State.regbusDrop_upd ..) rfl ?_
                exact h5
              · exact h5
            clear_value x6
            extract_lets +onlyGivenNames x8
            clear_value x8
            refine UpdP.ite ?_ ?_
            · extract_lets +onlyGivenNames x9
              refine cut (P := UpdP 0x7ffffffb4 s x9) ?_ (fun h10 => ?_)
              · unfold x9
                refine UpdP.step (State.ownStore_upd ..) rfl ?_
                exact h7
              clear_value x9
              exact h10
            · refine UpdP.mk ?_
              refine Upd.step (State.sicEval_upd ..) rfl ?_
              refine Upd.step (State.writeOp_upd ..) rfl ?_
              exact h7

theorem State.writeWord_upd (s : State) (r : Req) (a : Nat) (v : Word) (hw : List (Nat × HwUpd)) : UpdP 0x7ffffffb4 s (State.writeWord s r a v hw) := by
  unfold State.writeWord
  split
  · split
    · split
      · refine UpdP.step (State.writeReg_upd ..) rfl ?_
        exact Upd.refl _ _
      · refine UpdP.mk ?_
        exact Upd.refl _ _
    · refine UpdP.mk ?_
      refine Upd.ite ?_ ?_
      · refine Upd.step (recWrite_upd ..) rfl ?_
        exact Upd.refl _ _
      · exact Upd.refl _ _
    · split
      · refine UpdP.mk ?_
        refine Upd.step (State.mbxPush_upd ..) rfl ?_
        exact Upd.refl _ _
      · refine UpdP.mk ?_
        exact Upd.refl _ _
    · refine UpdP.mk ?_
      exact Upd.refl _ _
  · refine UpdP.mk ?_
    refine Upd.step (State.regDenied_upd ..) rfl ?_
    exact Upd.refl _ _
  · refine UpdP.mk ?_
    exact Upd.refl _ _

theorem State.readReg_upd (s : State) (r : Req) (k : Nat) (b : Blk) (spec : RegSpec) (o : Nat) (peek : Bool) (hw : List (Nat × HwUpd)) : UpdP 0xc0000600 s (State.readReg s r k b spec o peek hw) := by
  unfold State.readReg
  extract_lets +onlyGivenNames x1
  clear_value x1
  extract_lets +onlyGivenNames x2
  clear_value x2
  extract_lets +onlyGivenNames x3
  clear_value x3
  refine UpdP.ite ?_ ?_
  · extract_lets +onlyGivenNames x4
    clear_value x4
    refine UpdP.ite ?_ ?_
    · refine UpdP.mk ?_
      exact Upd.refl _ _
    · refine UpdP.step (State.uartPop_upd ..) rfl ?_
      exact Upd.refl _ _
  · refine UpdP.ite ?_ ?_
    · extract_lets +onlyGivenNames x5
      clear_value x5
      refine UpdP.ite ?_ ?_
      · refine UpdP.mk ?_
        exact Upd.refl _ _
      · refine UpdP.step (State.monPop_upd ..) rfl ?_
        exact Upd.refl _ _
    · extract_lets +onlyGivenNames x6
      clear_value x6
      extract_lets +onlyGivenNames x7
      refine cut (P := Upd 0xc0000600 s x7) ?_ (fun h8 => ?_)
      · unfold x7
        refine Upd.ite ?_ ?_
        · exact Upd.refl _ _
        · refine Upd.ite ?_ ?_
          · exact Upd.refl _ _
          · refine Upd.step (State.wr_upd ..) rfl ?_
            exact Upd.refl _ _
      clear_value x7
      extract_lets +onlyGivenNames x9
      refine cut (P := Upd 0xc0000600 s x9) ?_ (fun h10 => ?_)
      · unfold x9
        refine Upd.ite ?_ ?_
        · exact h8
        · refine Upd.step (State.wr_upd ..) rfl ?_
          exact h8
      clear_value x9
      split
      · extract_lets +onlyGivenNames x11
        clear_value x11
        refine UpdP.mk ?_
        refine Upd.step (Upd.set_latch _ _ ?_) rfl ?_
        · exact fun h => tabWf_tabPut _ _ h
        · exact h10
      · extract_lets +onlyGivenNames x12
        clear_value x12
        refine UpdP.mk ?_
        refine Upd.step (Upd.set_latch _ _ ?_) rfl ?_
        · exact fun h => tabWf_tabPut _ _ h
        · exact h10
      · exact h10
      · exact h10
      · exact h10

theorem State.readWord_upd (s : State) (r : Req) (a : Nat) (peek : Bool) (hw : List (Nat × HwUpd)) : UpdQ 0xc2218780 s (State.readWord s r a peek hw) := by
  unfold State.readWord
  split
  · split
    · split
      · refine UpdQ.mk2 ?_
        refine UpdP.step (State.readReg_upd ..) rfl ?_
        exact Upd.refl _ _
      · refine UpdQ.mk ?_
        exact Upd.refl _ _
    · extract_lets +onlyGivenNames x1
      refine cut (P := Upd 0xc2218780 s x1) ?_ (fun h2 => ?_)
      · unfold x1
        refine Upd.step (State.clrTo_upd ..) rfl ?_
        exact Upd.refl _ _
      clear_value x1
      extract_lets +onlyGivenNames x3
      clear_value x3
      refine UpdQ.ite ?_ ?_
      · extract_lets +onlyGivenNames x4
        clear_value x4
        refine UpdQ.mk ?_
        refine Upd.step (State.setFcu_upd ..) rfl ?_
        exact h2
      · exact h2
    · refine UpdQ.mk ?_
      exact Upd.refl _ _
    · refine UpdQ.mk ?_
      exact Upd.refl _ _
    · refine UpdQ.mk ?_
      exact Upd.refl _ _
    · split
      · refine UpdQ.ite ?_ ?_
        · refine UpdQ.mk ?_
          exact Upd.refl _ _
        · refine UpdQ.mk2 ?_
          refine UpdP.step (State.mbxPop_upd ..) rfl ?_
          exact Upd.refl _ _
      · refine UpdQ.mk ?_
        exact Upd.refl _ _
    · refine UpdQ.mk ?_
      exact Upd.refl _ _
    · split
      · rename_i v5 v6 v7 v8
        refine cut (P := Upd 0xc2218780 s v7) (UpdP.out ?_ v8) (fun h9 => ?_)
        · refine UpdP.step (State.fresh_upd ..) rfl ?_
          exact Upd.refl _ _
        exact h9
  · refine UpdQ.mk ?_
    refine Upd.step (State.regDenied_upd ..) rfl ?_
    exact Upd.refl _ _
  · refine UpdQ.mk ?_
    exact Upd.refl _ _

theorem State.writeParts_upd (s : State) (r : Req) (hw : List (Nat × HwUpd)) (l : List (Nat × Word)) :
    UpdP 0x7ffffffb4 s (s.writeParts r hw l) := by
  induction l generalizing s with
  | nil => exact Upd.refl _ _
  | cons a t ih =>
    unfold State.writeParts
    have h := State.writeWord_upd s r a.1 a.2 hw
    split
    · rename_i he
      exact UpdP.step (ih ..) (by rfl) (UpdP.out h he)
    · exact h

theorem State.writeAccess_upd (s : State) (r : Req) (a : Nat) (data : List Byte) (hw : List (Nat × HwUpd)) : UpdP 0x7ffffffb4 s (State.writeAccess s r a data hw) := by
  unfold State.writeAccess
  refine UpdP.ite ?_ ?_
  · refine UpdP.mk ?_
    exact Upd.refl _ _
  · extract_lets +onlyGivenNames x1
    clear_value x1
    refine UpdP.step (State.writeParts_upd ..) rfl ?_
    exact Upd.refl _ _

theorem State.readParts_upd (s : State) (r : Req) (peek : Bool) (hw : List (Nat × HwUpd)) (l : List Nat) :
    UpdQ 0xc2218780 s (s.readParts r peek hw l) := by
  induction l generalizing s with
  | nil => exact Upd.refl _ _
  | cons a t ih =>
    unfold State.readParts
    have h := State.readWord_upd s r a peek hw
    split
    · rename_i he
      exact UpdQ.mk (UpdQ.snd (UpdQ.step (ih ..) (by rfl) (UpdQ.out h he)))
    · rename_i he
      exact UpdQ.mk (UpdQ.out h he)

theorem State.readAccess_upd (s : State) (r : Req) (a : Nat) (n : Nat) (peek : Bool) (hw : List (Nat × HwUpd)) : UpdQ 0xc2218780 s (State.readAccess s r a n peek hw) := by
  unfold State.readAccess
  refine UpdQ.ite ?_ ?_
  · refine UpdQ.mk ?_
    exact Upd.refl _ _
  · refine UpdQ.ite ?_ ?_
    · split
      · rename_i v1 v2 v3 v4 v5
        refine cut (P := Upd 0xc2218780 s v4) (UpdQ.out ?_ v5) (fun h6 => ?_)
        · refine UpdQ.step (State.readWord_upd ..) rfl ?_
          exact Upd.refl _ _
        exact h6
    · refine UpdQ.step (State.readParts_upd ..) rfl ?_
      exact Upd.refl _ _

theorem State.answerOwn_upd (s : State) (r : Req) (a : Nat) (before : Nat) (code : Rsp) : Upd 0x20000300 s (State.answerOwn s r a before code) := by
  unfold State.answerOwn
  extract_lets +onlyGivenNames x1
  clear_value x1
  refine Upd.ite ?_ ?_
  · extract_lets +onlyGivenNames x2
    clear_value x2
    refine Upd.step (State.answer_upd ..) rfl ?_
    refine Upd.step (Upd.set_fills _ _) rfl ?_
    exact Upd.refl _ _
  · extract_lets +onlyGivenNames x3
    clear_value x3
    refine Upd.step (Upd.set_fills _ _) rfl ?_
    exact Upd.refl _ _

theorem State.regWriteAt_upd (s : State) (r : Req) (o : Nat) (data : List Byte) (hw : List (Nat × HwUpd)) : Upd 0x7ffffffb4 s (State.regWriteAt s r o data hw) := by
  unfold State.regWriteAt
  refine Upd.ite ?_ ?_
  · refine Upd.step (State.emit_upd ..) rfl ?_
    exact Upd.refl _ _
  · refine Upd.ite ?_ ?_
    · refine Upd.step (State.holdAcc_upd ..) rfl ?_
      exact Upd.refl _ _
    · split
      · rename_i v1 v2 v3 v4
        refine cut (P := Upd 0x7ffffffb4 s v3) (UpdP.out ?_ v4) (fun h5 => ?_)
        · refine UpdP.step (State.writeAccess_upd ..) rfl ?_
          exact Upd.refl _ _
        refine Upd.step (State.answerOwn_upd ..) rfl ?_
        exact h5

theorem State.regWrite_upd (s : State) (r : Req) (a : Nat) (data : List Byte) (hw : List (Nat × HwUpd)) : Upd 0x7ffffffb4 s (State.regWrite s r a data hw) := by
  unfold State.regWrite
  refine Upd.step (State.regWriteAt_upd ..) rfl ?_
  exact Upd.refl _ _

theorem execRegisterWrite_upd (r : Req) (a : BitVec 48) (data : List Byte) (hw : List (Nat × HwUpd)) (s : State) : UpdO 0x7ffffffb4 s (execRegisterWrite r a data hw s) := by
  unfold execRegisterWrite
  refine UpdO.next ?_
  refine Upd.step (State.regWrite_upd ..) rfl ?_
  exact Upd.refl _ _

theorem State.regReadAt_upd (s : State) (r : Req) (o : Nat) (n : Nat) (hw : List (Nat × HwUpd)) : Upd 0xe2218780 s (State.regReadAt s r o n hw) := by
  unfold State.regReadAt
  refine Upd.ite ?_ ?_
  · refine Upd.step (State.emit_upd ..) rfl ?_
    exact Upd.refl _ _
  · refine Upd.ite ?_ ?_
    · refine Upd.step (State.holdAcc_upd ..) rfl ?_
      exact Upd.refl _ _
    · split
      · rename_i v1 v2 v3 v4 v5
        refine cut (P := Upd 0xe2218780 s v4) (UpdQ.out ?_ v5) (fun h6 => ?_)
        · refine UpdQ.step (State.readAccess_upd ..) rfl ?_
          exact Upd.refl _ _
        refine Upd.step (State.answer_upd ..) rfl ?_
        exact h6

theorem State.regRead_upd (s : State) (r : Req) (a : Nat) (n : Nat) (hw : List (Nat × HwUpd)) : Upd 0xe2218780 s (State.regRead s r a n hw) := by
  unfold State.regRead
  refine Upd.step (State.regReadAt_upd ..) rfl ?_
  exact Upd.refl _ _

theorem execRcRegisterRead_upd (r : Req) (a : BitVec 48) (len : Nat) (hw : List (Nat × HwUpd)) (s : State) : UpdO 0xe2218780 s (execRcRegisterRead r a len hw s) := by
  unfold execRcRegisterRead
  refine UpdO.next ?_
  refine Upd.step (State.regRead_upd ..) rfl ?_
  exact Upd.refl _ _

theorem execPairLoRead_upd (r : Req) (a : BitVec 48) (wide : Bool) (s : State) : UpdO 0xe2218780 s (execPairLoRead r a wide s) := by
  unfold execPairLoRead
  refine UpdO.ite ?_ ?_
  · refine UpdO.next ?_
    refine Upd.step (State.regRead_upd ..) rfl ?_
    exact Upd.refl _ _
  · refine UpdO.next ?_
    exact Upd.refl _ _

theorem execCounterPairLoWrite_upd (r : Req) (a : BitVec 48) (v : Word) (s : State) : UpdO 0x7ffffffb4 s (execCounterPairLoWrite r a v s) := by
  unfold execCounterPairLoWrite
  refine UpdO.ite ?_ ?_
  · refine UpdO.next ?_
    refine Upd.step (State.regWrite_upd ..) rfl ?_
    exact Upd.refl _ _
  · refine UpdO.next ?_
    exact Upd.refl _ _

theorem execCounterPairHiWrite_upd (r : Req) (a : BitVec 48) (v : Word) (events : Nat) (s : State) : UpdO 0x7ffffffb4 s (execCounterPairHiWrite r a v events s) := by
  unfold execCounterPairHiWrite
  refine UpdO.ite ?_ ?_
  · refine UpdO.next ?_
    refine Upd.step (State.regWrite_upd ..) rfl ?_
    exact Upd.refl _ _
  · refine UpdO.next ?_
    exact Upd.refl _ _

end Sys2Proof.Machine
end

