-- ==== Sys2Proof/Laws/FrameRingArrive.lean ====
section
/-! SUPPORT. What each operation of Sys2Proof/Machine/RingArrive.lean may change: the fields whose bits are set, in the order of State. -/
namespace Sys2Proof.Machine

theorem State.turnBack_upd (s : State) (n : Nat) (lane : Nat) (f : Flit) (code : Nat) : Upd 0x10080280 s (State.turnBack s n lane f code) := by
  unfold State.turnBack
  refine Upd.ite ?_ ?_
  · refine Upd.foldl ?_ (fun y1 a2 h3 => ?_)
    · exact Upd.refl _ _
    · refine Upd.step (State.placeLane_upd ..) rfl ?_
      exact h3
  · exact Upd.refl _ _

theorem State.sendOn_upd (s : State) (n : Nat) (at_ : Nat) (lane : Nat) (port : Nat) (f : Flit) : Upd 0x10098380 s (State.sendOn s n at_ lane port f) := by
  unfold State.sendOn
  refine Upd.ite ?_ ?_
  · refine Upd.step (State.stopEvt_upd ..) rfl ?_
    exact Upd.refl _ _
  · refine Upd.step (State.placeLane_upd ..) rfl ?_
    exact Upd.refl _ _

theorem State.junctionFlit_upd (s : State) (n : Nat) (cur : Nat) (lane : Nat) (port : Nat) (f : Flit) : Upd 0x10098380 s (State.junctionFlit s n cur lane port f) := by
  unfold State.junctionFlit
  extract_lets +onlyGivenNames x1
  clear_value x1
  refine Upd.ite ?_ ?_
  · refine Upd.step (State.sendOn_upd ..) rfl ?_
    exact Upd.refl _ _
  · extract_lets +onlyGivenNames x2
    refine cut (P := Upd 0x10098380 s x2) ?_ (fun h3 => ?_)
    · unfold x2
      refine Upd.ite ?_ ?_
      · refine Upd.step (State.stopEvt_upd ..) rfl ?_
        exact Upd.refl _ _
      · exact Upd.refl _ _
    clear_value x2
    refine Upd.step (State.turnBack_upd ..) rfl ?_
    exact h3

theorem State.regFlit_upd (s : State) (n : Nat) (f : Flit) (o : Nat) : Upd 0x7ffffffb4 s (State.regFlit s n f o) := by
  unfold State.regFlit
  extract_lets +onlyGivenNames x1
  clear_value x1
  refine Upd.ite ?_ ?_
  · refine Upd.step (State.holdAcc_upd ..) rfl ?_
    exact Upd.refl _ _
  · refine Upd.ite ?_ ?_
    · split
      · rename_i v2 v3 v4 v5 v6
        refine cut (P := Upd 0x7ffffffb4 s v5) (UpdQ.out ?_ v6) (fun h7 => ?_)
        · refine UpdQ.step (State.readAccess_upd ..) rfl ?_
          exact Upd.refl _ _
        extract_lets +onlyGivenNames x8
        refine cut (P := Upd 0x7ffffffb4 s x8) ?_ (fun h9 => ?_)
        · unfold x8
          refine Upd.ite ?_ ?_
          · refine Upd.step (State.regbusFault_upd ..) rfl ?_
            exact h7
          · exact h7
        clear_value x8
        extract_lets +onlyGivenNames x10
        clear_value x10
        refine Upd.step (State.respond_upd ..) rfl ?_
        exact h9
    · extract_lets +onlyGivenNames x11
      clear_value x11
      split
      · rename_i v12 v13 v14 v15
        refine cut (P := Upd 0x7ffffffb4 s v14) (UpdP.out ?_ v15) (fun h16 => ?_)
        · refine UpdP.step (State.writeAccess_upd ..) rfl ?_
          exact Upd.refl _ _
        extract_lets +onlyGivenNames x17
        refine cut (P := Upd 0x7ffffffb4 s x17) ?_ (fun h18 => ?_)
        · unfold x17
          refine Upd.ite ?_ ?_
          · refine Upd.step (State.regbusFault_upd ..) rfl ?_
            exact h16
          · exact h16
        clear_value x17
        extract_lets +onlyGivenNames x19
        clear_value x19
        extract_lets +onlyGivenNames x20
        clear_value x20
        extract_lets +onlyGivenNames x21
        clear_value x21
        extract_lets +onlyGivenNames x22
        refine cut (P := Upd 0x7ffffffb4 s x22) ?_ (fun h23 => ?_)
        · unfold x22
          refine Upd.step (Upd.set_fills _ _) rfl ?_
          exact h18
        clear_value x22
        refine Upd.ite ?_ ?_
        · refine Upd.step (State.setStop_upd ..) rfl ?_
          exact h23
        · refine Upd.step (State.respond_upd ..) rfl ?_
          exact h23

theorem State.runAcc_upd (s : State) (r : Req) (a2 : HubAcc) : Upd 0x7ffffffb4 s (State.runAcc s r a2) := by
  unfold State.runAcc
  split
  · refine Upd.step (State.regWriteAt_upd ..) rfl ?_
    exact Upd.refl _ _
  · refine Upd.step (State.regReadAt_upd ..) rfl ?_
    exact Upd.refl _ _
  · refine Upd.step (State.regFlit_upd ..) rfl ?_
    exact Upd.refl _ _

theorem execGrantFillDone_upd (s : State) : UpdO 0x7ffffffb4 s (execGrantFillDone s) := by
  unfold execGrantFillDone
  split
  · refine UpdO.next ?_
    refine Upd.foldl ?_ (fun y1 a2 h3 => ?_)
    · refine Upd.step (grantFillDone_upd ..) rfl ?_
      exact Upd.refl _ _
    · refine Upd.step (State.runAcc_upd ..) rfl ?_
      exact h3
  · refine UpdO.next ?_
    refine Upd.step (grantFillDone_upd ..) rfl ?_
    exact Upd.refl _ _

theorem State.granFlit_upd (s : State) (f : Flit) (g : Nat) (o : Nat) : Upd 0x4000 s (State.granFlit s f g o) := by
  unfold State.granFlit
  extract_lets +onlyGivenNames x1
  clear_value x1
  extract_lets +onlyGivenNames x2
  clear_value x2
  extract_lets +onlyGivenNames x3
  clear_value x3
  extract_lets +onlyGivenNames x4
  clear_value x4
  extract_lets +onlyGivenNames x5
  clear_value x5
  refine Upd.step (State.setGrSt_upd ..) rfl ?_
  exact Upd.refl _ _

theorem State.bmFlit_upd (s : State) (n : Nat) (f : Flit) (i : Nat) (o : Nat) : Upd 0x1009c380 s (State.bmFlit s n f i o) := by
  unfold State.bmFlit
  extract_lets +onlyGivenNames x1
  clear_value x1
  refine Upd.ite ?_ ?_
  · refine Upd.step (State.respond_upd ..) rfl ?_
    refine Upd.step (State.regbusFault_upd ..) rfl ?_
    exact Upd.refl _ _
  · extract_lets +onlyGivenNames x2
    clear_value x2
    split
    · rename_i v3 v4 v5 v6 v7
      refine cut (P := Upd 0x1009c380 s v6) (UpdQ.out ?_ v7) (fun h8 => ?_)
      · refine UpdQ.step (State.bmDebugRun_upd ..) rfl ?_
        exact Upd.refl _ _
      extract_lets +onlyGivenNames x9
      clear_value x9
      refine Upd.step (State.respond_upd ..) rfl ?_
      exact h8

theorem State.agentFlit_upd (s : State) (n : Nat) (f : Flit) : Upd 0x10080380 s (State.agentFlit s n f) := by
  unfold State.agentFlit
  extract_lets +onlyGivenNames x1
  clear_value x1
  extract_lets +onlyGivenNames x2
  clear_value x2
  extract_lets +onlyGivenNames x3
  clear_value x3
  extract_lets +onlyGivenNames x4
  clear_value x4
  refine Upd.ite ?_ ?_
  · refine Upd.step (State.setStop_upd ..) rfl ?_
    exact Upd.refl _ _
  · refine Upd.ite ?_ ?_
    · refine Upd.step (State.respond_upd ..) rfl ?_
      refine Upd.step (State.setStop_upd ..) rfl ?_
      exact Upd.refl _ _
    · extract_lets +onlyGivenNames x5
      refine cut (P := Upd 0x10080380 s x5) ?_ (fun h6 => ?_)
      · unfold x5
        refine Upd.ite ?_ ?_
        · refine Upd.step (State.setStop_upd ..) rfl ?_
          exact Upd.refl _ _
        · refine Upd.step (State.setStop_upd ..) rfl ?_
          exact Upd.refl _ _
      clear_value x5
      refine Upd.foldl ?_ (fun y7 a8 h9 => ?_)
      · exact h6
      · refine Upd.step (State.emit_upd ..) rfl ?_
        exact h9

theorem State.fieldBell_upd (s : State) (n : Nat) (f : Flit) : Upd 0x10080380 s (State.fieldBell s n f) := by
  unfold State.fieldBell
  refine Upd.ite ?_ ?_
  · refine Upd.step (State.respond_upd ..) rfl ?_
    exact Upd.refl _ _
  · extract_lets +onlyGivenNames x1
    refine cut (P := Upd 0x10080380 s x1) ?_ (fun h2 => ?_)
    · unfold x1
      refine Upd.step (State.agentFlit_upd ..) rfl ?_
      exact Upd.refl _ _
    clear_value x1
    refine Upd.ite ?_ ?_
    · refine Upd.step (State.respond_upd ..) rfl ?_
      exact h2
    · exact h2

theorem State.serve_upd (s : State) (n : Nat) (f : Flit) : Upd 0x7ffffffb4 s (State.serve s n f) := by
  unfold State.serve
  split
  · refine Upd.step (State.agentFlit_upd ..) rfl ?_
    exact Upd.refl _ _
  · refine Upd.ite ?_ ?_
    · refine Upd.step (State.fieldBell_upd ..) rfl ?_
      exact Upd.refl _ _
    · refine Upd.step (State.agentFlit_upd ..) rfl ?_
      exact Upd.refl _ _
  · refine Upd.ite ?_ ?_
    · refine Upd.step (State.respond_upd ..) rfl ?_
      exact Upd.refl _ _
    · refine Upd.step (State.regFlit_upd ..) rfl ?_
      exact Upd.refl _ _
  · refine Upd.ite ?_ ?_
    · refine Upd.step (State.respond_upd ..) rfl ?_
      exact Upd.refl _ _
    · refine Upd.step (State.granFlit_upd ..) rfl ?_
      exact Upd.refl _ _
  · refine Upd.ite ?_ ?_
    · refine Upd.step (State.respond_upd ..) rfl ?_
      exact Upd.refl _ _
    · refine Upd.step (State.bmFlit_upd ..) rfl ?_
      exact Upd.refl _ _
  · refine Upd.ite ?_ ?_
    · refine Upd.step (State.respond_upd ..) rfl ?_
      exact Upd.refl _ _
    · refine Upd.step (State.guestTarget_upd ..) rfl ?_
      exact Upd.refl _ _
  · exact Upd.refl _ _

theorem State.bellFlit_upd (s : State) (n : Nat) (port : Nat) (drained : Nat) (f : Flit) : Upd 0x7ffffffb4 s (State.bellFlit s n port drained f) := by
  unfold State.bellFlit
  extract_lets +onlyGivenNames x1
  clear_value x1
  extract_lets +onlyGivenNames x2
  clear_value x2
  extract_lets +onlyGivenNames x3
  clear_value x3
  extract_lets +onlyGivenNames x4
  refine cut (P := Upd 0x7ffffffb4 s x4) ?_ (fun h5 => ?_)
  · unfold x4
    refine Upd.step (State.setStop_upd ..) rfl ?_
    exact Upd.refl _ _
  clear_value x4
  extract_lets +onlyGivenNames x6
  refine cut (P := Upd 0x7ffffffb4 s x6) ?_ (fun h7 => ?_)
  · unfold x6
    refine Upd.foldl ?_ (fun y8 a9 h10 => ?_)
    · exact h5
    · refine Upd.step (State.serve_upd ..) rfl ?_
      exact h10
  clear_value x6
  refine Upd.ite ?_ ?_
  · refine Upd.step (State.serve_upd ..) rfl ?_
    exact h7
  · refine Upd.ite ?_ ?_
    · refine Upd.step (State.stopEvt_upd ..) rfl ?_
      exact h7
    · refine Upd.step (State.setStop_upd ..) rfl ?_
      exact h7

theorem State.target_upd (s : State) (n : Nat) (port : Nat) (drained : Nat) (f : Flit) : Upd 0x7ffffffb4 s (State.target s n port drained f) := by
  unfold State.target
  extract_lets +onlyGivenNames x1
  clear_value x1
  refine Upd.ite ?_ ?_
  · refine Upd.step (State.turnBack_upd ..) rfl ?_
    refine Upd.step (State.stopEvt_upd ..) rfl ?_
    exact Upd.refl _ _
  · refine Upd.ite ?_ ?_
    · refine Upd.step (State.turnBack_upd ..) rfl ?_
      exact Upd.refl _ _
    · refine Upd.ite ?_ ?_
      · refine Upd.step (State.bellFlit_upd ..) rfl ?_
        exact Upd.refl _ _
      · refine Upd.step (State.serve_upd ..) rfl ?_
        exact Upd.refl _ _

theorem State.requester_upd (s : State) (n : Nat) (f : Flit) : Upd 0x200098300 s (State.requester s n f) := by
  unfold State.requester
  refine Upd.ite ?_ ?_
  · refine Upd.step (State.stopEvt_upd ..) rfl ?_
    exact Upd.refl _ _
  · extract_lets +onlyGivenNames x1
    clear_value x1
    split
    · refine Upd.step (State.stopEvt_upd ..) rfl ?_
      refine Upd.step (State.setStop_upd ..) rfl ?_
      exact Upd.refl _ _
    · split
      · refine Upd.step (State.stopEvt_upd ..) rfl ?_
        exact Upd.refl _ _
      · extract_lets +onlyGivenNames x2
        clear_value x2
        refine Upd.ite ?_ ?_
        · refine Upd.step (State.setStop_upd ..) rfl ?_
          exact Upd.refl _ _
        · extract_lets +onlyGivenNames x3
          clear_value x3
          extract_lets +onlyGivenNames x4
          refine cut (P := Upd 0x200098300 s x4) ?_ (fun h5 => ?_)
          · unfold x4
            refine Upd.ite ?_ ?_
            · refine Upd.step (State.setStop_upd ..) rfl ?_
              exact Upd.refl _ _
            · exact Upd.refl _ _
          clear_value x4
          refine Upd.ite ?_ ?_
          · extract_lets +onlyGivenNames x6
            clear_value x6
            refine Upd.step (State.guestResponse_upd ..) rfl ?_
            refine Upd.step (State.setStop_upd ..) rfl ?_
            exact h5
          · refine Upd.step (State.complete_upd ..) rfl ?_
            exact h5

theorem State.response_upd (s : State) (n : Nat) (f : Flit) : Upd 0x200098300 s (State.response s n f) := by
  unfold State.response
  refine Upd.ite ?_ ?_
  · refine Upd.step (State.guestResponse_upd ..) rfl ?_
    exact Upd.refl _ _
  · refine Upd.step (State.requester_upd ..) rfl ?_
    exact Upd.refl _ _

theorem State.flitChecks_upd (s : State) (at_ : Nat) (ce : Bool) (bad : Bool) (bundle : Option Nat) : Upd 0x78380 s (State.flitChecks s at_ ce bad bundle) := by
  unfold State.flitChecks
  extract_lets +onlyGivenNames x1
  refine cut (P := Upd 0x78380 s x1) ?_ (fun h2 => ?_)
  · unfold x1
    refine Upd.ite ?_ ?_
    · refine Upd.step (State.stopEvt_upd ..) rfl ?_
      exact Upd.refl _ _
    · exact Upd.refl _ _
  clear_value x1
  refine Upd.ite ?_ ?_
  · extract_lets +onlyGivenNames x3
    refine cut (P := Upd 0x78380 s x3) ?_ (fun h4 => ?_)
    · unfold x3
      refine Upd.step (State.stopEvt_upd ..) rfl ?_
      exact h2
    clear_value x3
    split
    · refine Upd.step (State.kelkSErr_upd ..) rfl ?_
      exact h4
    · exact h4
  · exact h2

theorem State.takeFlight_upd (s : State) (i : Nat) (x : Flight) : Upd 0x10080280 s (State.takeFlight s i x) := by
  unfold State.takeFlight
  extract_lets +onlyGivenNames x1
  clear_value x1
  refine Upd.step (State.ringPump_upd ..) rfl ?_
  refine Upd.step (Upd.set_ring _ _) rfl ?_
  exact Upd.refl _ _

theorem State.bridgeFlit_upd (s : State) (n : Nat) (x : Flight) (raw : Nat) : Upd 0x10098380 s (State.bridgeFlit s n x raw) := by
  unfold State.bridgeFlit
  extract_lets +onlyGivenNames x1
  clear_value x1
  refine Upd.ite ?_ ?_
  · refine Upd.step (State.stopEvt_upd ..) rfl ?_
    exact Upd.refl _ _
  · extract_lets +onlyGivenNames x2
    clear_value x2
    refine Upd.step (State.ringPump_upd ..) rfl ?_
    refine Upd.step (Upd.set_ring _ _) rfl ?_
    exact Upd.refl _ _

theorem ringArrive_upd (i : Nat) (flips : Nat) (bundle : Option Nat) (drained : Nat) (s : State) : Upd 0x7ffffffb4 s (ringArrive i flips bundle drained s) := by
  unfold ringArrive
  split
  · exact Upd.refl _ _
  · extract_lets +onlyGivenNames x1
    clear_value x1
    extract_lets +onlyGivenNames x2
    clear_value x2
    extract_lets +onlyGivenNames x3
    clear_value x3
    refine Upd.ite ?_ ?_
    · exact Upd.refl _ _
    · refine Upd.ite ?_ ?_
      · refine Upd.step (State.bridgeFlit_upd ..) rfl ?_
        refine Upd.step (State.takeFlight_upd ..) rfl ?_
        exact Upd.refl _ _
      · extract_lets +onlyGivenNames x4
        clear_value x4
        split
        · refine Upd.step (State.stopEvt_upd ..) rfl ?_
          refine Upd.step (State.takeFlight_upd ..) rfl ?_
          exact Upd.refl _ _
        · extract_lets +onlyGivenNames x5
          clear_value x5
          extract_lets +onlyGivenNames x6
          refine cut (P := Upd 0x7ffffffb4 s x6) ?_ (fun h7 => ?_)
          · unfold x6
            refine Upd.step (State.flitChecks_upd ..) rfl ?_
            refine Upd.step (State.takeFlight_upd ..) rfl ?_
            exact Upd.refl _ _
          clear_value x6
          extract_lets +onlyGivenNames x8
          refine cut (P := Upd 0x7ffffffb4 s x8) ?_ (fun h9 => ?_)
          · unfold x8
            refine Upd.ite ?_ ?_
            · refine Upd.step (State.probe_upd ..) rfl ?_
              exact h7
            · exact h7
          clear_value x8
          refine Upd.ite ?_ ?_
          · refine Upd.step (State.junctionFlit_upd ..) rfl ?_
            exact h9
          · refine Upd.ite ?_ ?_
            · refine Upd.step (State.response_upd ..) rfl ?_
              exact h9
            · refine Upd.step (State.target_upd ..) rfl ?_
              exact h9

theorem State.rxCredit_upd (s : State) (i : Option Nat) : Upd 0x100000 s (State.rxCredit s i) := by
  unfold State.rxCredit
  split
  · refine Upd.ite ?_ ?_
    · refine Upd.step (State.rxSettle_upd ..) rfl ?_
      exact Upd.refl _ _
    · exact Upd.refl _ _
  · exact Upd.refl _ _

theorem execRingFlitArrive_upd (i : Nat) (flips : BitVec 656) (bundle : Option (Fin 160)) (drained : Nat) (s : State) : UpdO 0x7ffffffb4 s (execRingFlitArrive i flips bundle drained s) := by
  unfold execRingFlitArrive
  refine UpdO.next ?_
  refine Upd.step (State.rxCredit_upd ..) rfl ?_
  refine Upd.step (ringArrive_upd ..) rfl ?_
  exact Upd.refl _ _

end Sys2Proof.Machine
end

