-- ==== Sys2Proof/Laws/FrameBar.lean ====
section
/-! SUPPORT. What each operation of Sys2Proof/Machine/Bar.lean may change: the fields whose bits are set, in the order of State. -/
namespace Sys2Proof.Machine

theorem State.barReadPiece_upd (s : State) (f : Nat) (o : Nat) (n : Nat) (got : Rsp × List Byte) : UpdQ 0x10080380 s (State.barReadPiece s f o n got) := by
  unfold State.barReadPiece
  split
  · refine UpdQ.mk ?_
    exact Upd.refl _ _
  · extract_lets +onlyGivenNames x1
    clear_value x1
    split
    · refine UpdQ.mk ?_
      exact Upd.refl _ _
    · refine UpdQ.mk ?_
      refine Upd.step (ringInject_upd ..) rfl ?_
      exact Upd.refl _ _

theorem State.barReads_upd (s : State) (f : Nat) (l : List (Nat × Nat)) (res : List (Rsp × List Byte)) :
    UpdQ 0x10080380 s (s.barReads f l res) := by
  induction l generalizing s res with
  | nil => exact Upd.refl _ _
  | cons a t ih =>
    unfold State.barReads
    exact UpdQ.mk (UpdQ.snd (UpdQ.step (ih ..) (by rfl) (UpdQ.snd (State.barReadPiece_upd ..))))

theorem State.bar0Read_upd (s : State) (f : Nat) (o : Nat) (n : Nat) : UpdQ 0xc2218780 s (State.bar0Read s f o n) := by
  unfold State.bar0Read
  extract_lets +onlyGivenNames x1
  clear_value x1
  refine UpdQ.ite ?_ ?_
  · refine UpdQ.mk ?_
    refine Upd.step (State.regbusFault_upd ..) rfl ?_
    exact Upd.refl _ _
  · refine UpdQ.ite ?_ ?_
    · refine UpdQ.mk ?_
      exact Upd.refl _ _
    · split
      · rename_i v2 v3 v4 v5 v6
        refine cut (P := Upd 0xc2218780 s v5) (UpdQ.out ?_ v6) (fun h7 => ?_)
        · refine UpdQ.step (State.readAccess_upd ..) rfl ?_
          exact Upd.refl _ _
        refine UpdQ.mk ?_
        refine Upd.ite ?_ ?_
        · refine Upd.step (State.regbusFault_upd ..) rfl ?_
          exact h7
        · exact h7

theorem State.barCpl_upd (s : State) (f : Nat) (n : Nat) (c : Rsp) (l : List Byte) : Upd 0x300 s (State.barCpl s f n c l) := by
  unfold State.barCpl
  extract_lets +onlyGivenNames x1
  clear_value x1
  extract_lets +onlyGivenNames x2
  refine cut (P := Upd 0x300 s x2) ?_ (fun h3 => ?_)
  · unfold x2
    refine Upd.ite ?_ ?_
    · exact Upd.refl _ _
    · refine Upd.step (State.wf_upd ..) rfl ?_
      refine Upd.step (State.setF_upd ..) rfl ?_
      exact Upd.refl _ _
  clear_value x2
  refine Upd.step (State.emit_upd ..) rfl ?_
  exact h3

theorem msixPut_upd (f : Nat) (o : Nat) (w : Nat) (s : State) : Upd 0x10100 s (msixPut f o w s) := by
  unfold msixPut
  extract_lets +onlyGivenNames x1
  clear_value x1
  refine Upd.ite ?_ ?_
  · exact Upd.refl _ _
  · refine Upd.ite ?_ ?_
    · refine Upd.ite ?_ ?_
      · refine Upd.step (msixUnmask_upd ..) rfl ?_
        exact Upd.refl _ _
      · refine Upd.step (Upd.set_pcie _ _) rfl ?_
        exact Upd.refl _ _
    · refine Upd.step (Upd.set_pcie _ _) rfl ?_
      exact Upd.refl _ _

theorem barRead_upd (f : Nat) (bar : Nat) (o : Nat) (n : Nat) (res : List (Rsp × List Byte)) (s : State) : Upd 0xd2298780 s (barRead f bar o n res s) := by
  unfold barRead
  refine Upd.ite ?_ ?_
  · exact Upd.refl _ _
  · extract_lets +onlyGivenNames x1
    refine cut (P := Upd 0xd2298780 s x1) ?_ (fun h2 => ?_)
    · unfold x1
      refine Upd.step (State.fnHere_upd ..) rfl ?_
      exact Upd.refl _ _
    clear_value x1
    refine Upd.ite ?_ ?_
    · extract_lets +onlyGivenNames x3
      clear_value x3
      refine Upd.step (State.barCpl_upd ..) rfl ?_
      exact h2
    · split
      · rename_i v4 v5 v6 v7 v8
        refine cut (P := Upd 0xd2298780 s v7) (UpdQ.out ?_ v8) (fun h9 => ?_)
        · refine UpdQ.ite ?_ ?_
          · refine UpdQ.step (State.bar0Read_upd ..) rfl ?_
            exact h2
          · refine UpdQ.step (State.barReads_upd ..) rfl ?_
            exact h2
        refine Upd.step (State.barCpl_upd ..) rfl ?_
        exact h9

theorem execBarRead_upd (f : Fin 65) (bar : Fin 3) (ofs : BitVec 40) (len : Fin 4097) (res : List (Rsp × List Byte)) (s : State) : UpdO 0xd2298780 s (execBarRead f bar ofs len res s) := by
  unfold execBarRead
  refine UpdO.next ?_
  refine Upd.step (barRead_upd ..) rfl ?_
  exact Upd.refl _ _

theorem State.werr_upd (s : State) (f : Nat) (bar : Nat) (o : Nat) (a : Option Nat) (c : Rsp) : Upd 0x200 s (State.werr s f bar o a c) := by
  unfold State.werr
  extract_lets +onlyGivenNames x1
  clear_value x1
  extract_lets +onlyGivenNames x2
  clear_value x2
  extract_lets +onlyGivenNames x3
  refine cut (P := Upd 0x200 s x3) ?_ (fun h4 => ?_)
  · unfold x3
    refine Upd.step (State.cnt_upd ..) rfl ?_
    refine Upd.step (State.setF_upd ..) rfl ?_
    exact Upd.refl _ _
  clear_value x3
  refine Upd.ite ?_ ?_
  · exact h4
  · extract_lets +onlyGivenNames x5
    refine cut (P := Upd 0x200 s x5) ?_ (fun h6 => ?_)
    · unfold x5
      refine Upd.step (State.wf_upd ..) rfl ?_
      refine Upd.step (State.wf_upd ..) rfl ?_
      exact h4
    clear_value x5
    extract_lets +onlyGivenNames x7
    refine cut (P := Upd 0x200 s x7) ?_ (fun h8 => ?_)
    · unfold x7
      refine Upd.ite ?_ ?_
      · refine Upd.step (State.wf_upd ..) rfl ?_
        exact h6
      · exact h6
    clear_value x7
    refine Upd.step (State.wr64_upd ..) rfl ?_
    exact h8

theorem State.barWritePiece_upd (s : State) (f : Nat) (o : Nat) (data : List Byte) (got : Rsp) : Upd 0x10080380 s (State.barWritePiece s f o data got) := by
  unfold State.barWritePiece
  split
  · refine Upd.step (State.werr_upd ..) rfl ?_
    exact Upd.refl _ _
  · extract_lets +onlyGivenNames x1
    clear_value x1
    extract_lets +onlyGivenNames x2
    clear_value x2
    extract_lets +onlyGivenNames x3
    refine cut (P := Upd 0x10080380 s x3) ?_ (fun h4 => ?_)
    · unfold x3
      refine Upd.ite ?_ ?_
      · exact Upd.refl _ _
      · refine Upd.step (ringInject_upd ..) rfl ?_
        exact Upd.refl _ _
    clear_value x3
    refine Upd.ite ?_ ?_
    · exact h4
    · refine Upd.step (State.werr_upd ..) rfl ?_
      exact h4

theorem State.barWrites_upd (s : State) (f base : Nat) (data : List Byte) (l : List (Nat × Nat)) (res : List Rsp) :
    Upd 0x10080380 s (s.barWrites f base data l res) := by
  induction l generalizing s res with
  | nil => exact Upd.refl _ _
  | cons a t ih =>
    unfold State.barWrites
    exact Upd.step (ih ..) (by rfl) (State.barWritePiece_upd ..)

theorem State.bar0Write_upd (s : State) (f : Nat) (o : Nat) (data : List Byte) : Upd 0x7ffffffb4 s (State.bar0Write s f o data) := by
  unfold State.bar0Write
  extract_lets +onlyGivenNames x1
  clear_value x1
  extract_lets +onlyGivenNames x2
  clear_value x2
  refine Upd.ite ?_ ?_
  · refine Upd.step (State.werr_upd ..) rfl ?_
    refine Upd.step (State.regbusFault_upd ..) rfl ?_
    exact Upd.refl _ _
  · refine Upd.ite ?_ ?_
    · refine Upd.step (State.werr_upd ..) rfl ?_
      exact Upd.refl _ _
    · extract_lets +onlyGivenNames x3
      clear_value x3
      split
      · rename_i v4 v5 v6 v7
        refine cut (P := Upd 0x7ffffffb4 s v6) (UpdP.out ?_ v7) (fun h8 => ?_)
        · refine UpdP.step (State.writeAccess_upd ..) rfl ?_
          exact Upd.refl _ _
        extract_lets +onlyGivenNames x9
        refine cut (P := Upd 0x7ffffffb4 s x9) ?_ (fun h10 => ?_)
        · unfold x9
          refine Upd.ite ?_ ?_
          · refine Upd.step (State.regbusFault_upd ..) rfl ?_
            exact h8
          · exact h8
        clear_value x9
        extract_lets +onlyGivenNames x11
        clear_value x11
        extract_lets +onlyGivenNames x12
        refine cut (P := Upd 0x7ffffffb4 s x12) ?_ (fun h13 => ?_)
        · unfold x12
          refine Upd.step (Upd.set_fills _ _) rfl ?_
          exact h10
        clear_value x12
        refine Upd.ite ?_ ?_
        · exact h13
        · refine Upd.step (State.werr_upd ..) rfl ?_
          exact h13

theorem barWrite_upd (f : Nat) (bar : Nat) (o : Nat) (data : List Byte) (res : List Rsp) (s : State) : Upd 0x7ffffffb4 s (barWrite f bar o data res s) := by
  unfold barWrite
  refine Upd.ite ?_ ?_
  · exact Upd.refl _ _
  · extract_lets +onlyGivenNames x1
    refine cut (P := Upd 0x7ffffffb4 s x1) ?_ (fun h2 => ?_)
    · unfold x1
      refine Upd.step (State.fnHere_upd ..) rfl ?_
      exact Upd.refl _ _
    clear_value x1
    refine Upd.ite ?_ ?_
    · refine Upd.ite ?_ ?_
      · refine Upd.foldl ?_ (fun y3 a4 h5 => ?_)
        · exact h2
        · refine Upd.step (msixPut_upd ..) rfl ?_
          exact h5
      · exact h2
    · refine Upd.ite ?_ ?_
      · refine Upd.step (State.bar0Write_upd ..) rfl ?_
        exact h2
      · refine Upd.step (State.barWrites_upd ..) rfl ?_
        exact h2

theorem execBarWrite_upd (f : Fin 65) (bar : Fin 3) (ofs : BitVec 40) (data : List Byte) (res : List Rsp) (s : State) : UpdO 0x7ffffffb4 s (execBarWrite f bar ofs data res s) := by
  unfold execBarWrite
  refine UpdO.next ?_
  refine Upd.step (barWrite_upd ..) rfl ?_
  exact Upd.refl _ _

end Sys2Proof.Machine
end

