-- ==== Sys2Proof/Laws/FrameCmdTest.lean ====
section
/-! SUPPORT. What each operation of Sys2Proof/Machine/CmdTest.lean may change: the fields whose bits are set, in the order of State. -/
namespace Sys2Proof.Machine

theorem State.setEq_upd (s : State) (l : Nat) (w : Nat) : Upd 0x200 s (State.setEq s l w) := by
  unfold State.setEq
  refine Upd.step (State.wf_upd ..) rfl ?_
  refine Upd.step (State.wr_upd ..) rfl ?_
  exact Upd.refl _ _

theorem linkUp_upd (q : CmdReq) (s : State) : UpdP 0x338380 s (linkUp q s) := by
  unfold linkUp
  extract_lets +onlyGivenNames x1
  clear_value x1
  extract_lets +onlyGivenNames x2
  clear_value x2
  extract_lets +onlyGivenNames x3
  clear_value x3
  extract_lets +onlyGivenNames x4
  clear_value x4
  extract_lets +onlyGivenNames x5
  clear_value x5
  extract_lets +onlyGivenNames x6
  clear_value x6
  extract_lets +onlyGivenNames x7
  clear_value x7
  extract_lets +onlyGivenNames x8
  clear_value x8
  extract_lets +onlyGivenNames x9
  clear_value x9
  extract_lets +onlyGivenNames x10
  clear_value x10
  extract_lets +onlyGivenNames x11
  clear_value x11
  extract_lets +onlyGivenNames x12
  clear_value x12
  extract_lets +onlyGivenNames x13
  clear_value x13
  refine UpdP.checked ?_ ?_
  · exact Upd.refl _ _
  · extract_lets +onlyGivenNames x14
    refine cut (P := Upd 0x338380 s x14) ?_ (fun h15 => ?_)
    · unfold x14
      refine Upd.ite ?_ ?_
      · refine Upd.step (laneCtrlWrite_upd ..) rfl ?_
        exact Upd.refl _ _
      · exact Upd.refl _ _
    clear_value x14
    extract_lets +onlyGivenNames x16
    clear_value x16
    extract_lets +onlyGivenNames x17
    refine cut (P := Upd 0x338380 s x17) ?_ (fun h18 => ?_)
    · unfold x17
      refine Upd.ite ?_ ?_
      · refine Upd.step (qpllWrite_upd ..) rfl ?_
        exact h15
      · exact Upd.refl _ _
    clear_value x17
    extract_lets +onlyGivenNames x19
    refine cut (P := Upd 0x338380 s x19) ?_ (fun h20 => ?_)
    · unfold x19
      refine Upd.step (laneCtrlWrite_upd ..) rfl ?_
      refine Upd.step (State.setEq_upd ..) rfl ?_
      exact h18
    clear_value x19
    exact h20

theorem execLinkUp_upd (c : Fin 128) (s : State) : UpdO 0x402338380 s (execLinkUp c s) := by
  unfold execLinkUp
  refine UpdO.next ?_
  refine Upd.runCmd _ _ _ rfl ?_ (fun q1 y2 h3 => ?_)
  · exact Upd.refl _ _
  · refine UpdP.step (linkUp_upd ..) rfl ?_
    exact h3

theorem execLinkDown_upd (c : Fin 128) (s : State) : UpdO 0x402338380 s (execLinkDown c s) := by
  unfold execLinkDown
  refine UpdO.next ?_
  refine Upd.runCmd _ _ _ rfl ?_ (fun q1 y2 h3 => ?_)
  · exact Upd.refl _ _
  · extract_lets +onlyGivenNames x4
    clear_value x4
    refine UpdP.checked ?_ ?_
    · exact h3
    · refine UpdP.mk ?_
      refine Upd.step (laneCtrlWrite_upd ..) rfl ?_
      exact h3

theorem execLinkStatus_upd (c : Fin 128) (s : State) : UpdO 0x402018300 s (execLinkStatus c s) := by
  unfold execLinkStatus
  refine UpdO.next ?_
  refine Upd.runCmd _ _ _ rfl ?_ (fun q1 y2 h3 => ?_)
  · exact Upd.refl _ _
  · extract_lets +onlyGivenNames x4
    clear_value x4
    refine UpdP.checked ?_ ?_
    · exact h3
    · exact h3

theorem execLinkEq_upd (c : Fin 128) (s : State) : UpdO 0x402018300 s (execLinkEq c s) := by
  unfold execLinkEq
  refine UpdO.next ?_
  refine Upd.runCmd _ _ _ rfl ?_ (fun q1 y2 h3 => ?_)
  · exact Upd.refl _ _
  · refine UpdP.checked ?_ ?_
    · exact h3
    · refine UpdP.mk ?_
      refine Upd.step (State.setEq_upd ..) rfl ?_
      exact h3

theorem fcuRoute_upd (q : CmdReq) (s : State) : UpdP 0x318300 s (fcuRoute q s) := by
  unfold fcuRoute
  extract_lets +onlyGivenNames x1
  clear_value x1
  extract_lets +onlyGivenNames x2
  clear_value x2
  extract_lets +onlyGivenNames x3
  clear_value x3
  extract_lets +onlyGivenNames x4
  clear_value x4
  extract_lets +onlyGivenNames x5
  clear_value x5
  extract_lets +onlyGivenNames x6
  clear_value x6
  refine UpdP.checked ?_ ?_
  · exact Upd.refl _ _
  · extract_lets +onlyGivenNames x7
    refine cut (P := Upd 0x318300 s x7) ?_ (fun h8 => ?_)
    · unfold x7
      refine Upd.step (lrCtrlWrite_upd ..) rfl ?_
      exact Upd.refl _ _
    clear_value x7
    exact h8

theorem execFcuRoute_upd (c : Fin 128) (s : State) : UpdO 0x402318300 s (execFcuRoute c s) := by
  unfold execFcuRoute
  refine UpdO.next ?_
  refine Upd.runCmd _ _ _ rfl ?_ (fun q1 y2 h3 => ?_)
  · exact Upd.refl _ _
  · refine UpdP.step (fcuRoute_upd ..) rfl ?_
    exact h3

theorem fcuAddr_upd (q : CmdReq) (s : State) : UpdP 0x200200 s (fcuAddr q s) := by
  unfold fcuAddr
  extract_lets +onlyGivenNames x1
  clear_value x1
  extract_lets +onlyGivenNames x2
  clear_value x2
  extract_lets +onlyGivenNames x3
  clear_value x3
  extract_lets +onlyGivenNames x4
  clear_value x4
  extract_lets +onlyGivenNames x5
  clear_value x5
  extract_lets +onlyGivenNames x6
  clear_value x6
  extract_lets +onlyGivenNames x7
  clear_value x7
  extract_lets +onlyGivenNames x8
  clear_value x8
  extract_lets +onlyGivenNames x9
  refine UpdP.checked ?_ ?_
  · exact Upd.refl _ _
  · refine UpdP.mk ?_
    split
    · unfold x9
      refine Upd.step (State.wr64_upd ..) rfl ?_
      exact Upd.refl _ _
    · unfold x9
      refine Upd.step (State.wr64_upd ..) rfl ?_
      exact Upd.refl _ _
    · unfold x9
      refine Upd.step (State.wr64_upd ..) rfl ?_
      exact Upd.refl _ _
    · extract_lets +onlyGivenNames x10
      refine cut (P := Upd 0x200200 s x10) ?_ (fun h11 => ?_)
      · unfold x10
        refine Upd.step (lrLogWrite_upd ..) rfl ?_
        exact Upd.refl _ _
      clear_value x10
      extract_lets +onlyGivenNames x12
      refine cut (P := Upd 0x200200 s x12) ?_ (fun h13 => ?_)
      · unfold x12
        refine Upd.step (lrLogWrite_upd ..) rfl ?_
        exact h11
      clear_value x12
      refine Upd.step (lrLogWrite_upd ..) rfl ?_
      exact h13

theorem execFcuAddr_upd (c : Fin 128) (s : State) : UpdO 0x402218300 s (execFcuAddr c s) := by
  unfold execFcuAddr
  refine UpdO.next ?_
  refine Upd.runCmd _ _ _ rfl ?_ (fun q1 y2 h3 => ?_)
  · exact Upd.refl _ _
  · refine UpdP.step (fcuAddr_upd ..) rfl ?_
    exact h3

theorem fcuClear_upd (c : Nat) (q : CmdReq) (s : State) : UpdP 0x400200200 s (fcuClear c q s) := by
  unfold fcuClear
  extract_lets +onlyGivenNames x1
  clear_value x1
  extract_lets +onlyGivenNames x2
  clear_value x2
  extract_lets +onlyGivenNames x3
  split
  · refine UpdP.checked ?_ ?_
    · exact Upd.refl _ _
    · extract_lets +onlyGivenNames x4
      clear_value x4
      unfold x3
      refine UpdP.ite ?_ ?_
      · refine UpdP.ite ?_ ?_
        · refine UpdP.mk ?_
          refine Upd.step (State.setPhase_upd ..) rfl ?_
          exact Upd.refl _ _
        · refine UpdP.mk ?_
          refine Upd.step (State.setPhase_upd ..) rfl ?_
          exact Upd.refl _ _
      · split
        · refine UpdP.mk ?_
          refine Upd.step (State.setPhase_upd ..) rfl ?_
          refine Upd.step (fcuClr_upd ..) rfl ?_
          refine Upd.step (State.setPhase_upd ..) rfl ?_
          exact Upd.refl _ _
        · refine UpdP.mk ?_
          refine Upd.step (State.setPhase_upd ..) rfl ?_
          exact Upd.refl _ _
  · unfold x3
    refine UpdP.ite ?_ ?_
    · refine UpdP.ite ?_ ?_
      · refine UpdP.mk ?_
        exact Upd.refl _ _
      · refine UpdP.mk ?_
        exact Upd.refl _ _
    · split
      · refine UpdP.mk ?_
        refine Upd.step (State.setPhase_upd ..) rfl ?_
        refine Upd.step (fcuClr_upd ..) rfl ?_
        exact Upd.refl _ _
      · refine UpdP.mk ?_
        exact Upd.refl _ _
  · refine UpdP.mk ?_
    exact Upd.refl _ _

theorem execFcuClear_upd (c : Fin 128) (s : State) : UpdO 0x402218300 s (execFcuClear c s) := by
  unfold execFcuClear
  refine UpdO.next ?_
  refine Upd.runCmd _ _ _ rfl ?_ (fun q1 y2 h3 => ?_)
  · exact Upd.refl _ _
  · refine UpdP.step (fcuClear_upd ..) rfl ?_
    exact h3

theorem execFcuLogrst_upd (c : Fin 128) (s : State) : UpdO 0x402218300 s (execFcuLogrst c s) := by
  unfold execFcuLogrst
  refine UpdO.next ?_
  refine Upd.runCmd _ _ _ rfl ?_ (fun q1 y2 h3 => ?_)
  · exact Upd.refl _ _
  · extract_lets +onlyGivenNames x4
    clear_value x4
    extract_lets +onlyGivenNames x5
    clear_value x5
    refine UpdP.checked ?_ ?_
    · exact h3
    · refine UpdP.mk ?_
      refine Upd.step (lrLogWrite_upd ..) rfl ?_
      refine Upd.step (State.wr_upd ..) rfl ?_
      exact h3

theorem tallyConfig_upd (q : CmdReq) (s : State) : UpdP 0x200200 s (tallyConfig q s) := by
  unfold tallyConfig
  extract_lets +onlyGivenNames x1
  clear_value x1
  extract_lets +onlyGivenNames x2
  clear_value x2
  extract_lets +onlyGivenNames x3
  clear_value x3
  extract_lets +onlyGivenNames x4
  clear_value x4
  refine UpdP.checked ?_ ?_
  · exact Upd.refl _ _
  · refine UpdP.mk ?_
    refine Upd.step (tallyCtrlWrite_upd ..) rfl ?_
    refine Upd.step (State.wr64_upd ..) rfl ?_
    exact Upd.refl _ _

theorem execTallyConfig_upd (c : Fin 128) (s : State) : UpdO 0x402218300 s (execTallyConfig c s) := by
  unfold execTallyConfig
  refine UpdO.next ?_
  refine Upd.runCmd _ _ _ rfl ?_ (fun q1 y2 h3 => ?_)
  · exact Upd.refl _ _
  · refine UpdP.step (tallyConfig_upd ..) rfl ?_
    exact h3

theorem execTallyStatus_upd (c : Fin 128) (s : State) : UpdO 0x402018300 s (execTallyStatus c s) := by
  unfold execTallyStatus
  refine UpdO.next ?_
  refine Upd.runCmd _ _ _ rfl ?_ (fun q1 y2 h3 => ?_)
  · exact Upd.refl _ _
  · extract_lets +onlyGivenNames x4
    clear_value x4
    refine UpdP.checked ?_ ?_
    · exact h3
    · exact h3

theorem cmdMillStart_upd (q : CmdReq) (s : State) : UpdP 0x10998380 s (cmdMillStart q s) := by
  unfold cmdMillStart
  extract_lets +onlyGivenNames x1
  clear_value x1
  extract_lets +onlyGivenNames x2
  clear_value x2
  extract_lets +onlyGivenNames x3
  clear_value x3
  extract_lets +onlyGivenNames x4
  clear_value x4
  extract_lets +onlyGivenNames x5
  clear_value x5
  extract_lets +onlyGivenNames x6
  clear_value x6
  extract_lets +onlyGivenNames x7
  clear_value x7
  extract_lets +onlyGivenNames x8
  clear_value x8
  extract_lets +onlyGivenNames x9
  clear_value x9
  refine UpdP.checked ?_ ?_
  · exact Upd.refl _ _
  · extract_lets +onlyGivenNames x10
    refine cut (P := Upd 0x10998380 s x10) ?_ (fun h11 => ?_)
    · unfold x10
      refine Upd.step (State.wr64_upd ..) rfl ?_
      exact Upd.refl _ _
    clear_value x10
    extract_lets +onlyGivenNames x12
    refine cut (P := Upd 0x10998380 s x12) ?_ (fun h13 => ?_)
    · unfold x12
      refine Upd.ite ?_ ?_
      · refine Upd.step (State.wr_upd ..) rfl ?_
        refine Upd.step (State.wr64_upd ..) rfl ?_
        exact h11
      · exact h11
    clear_value x12
    refine UpdP.mk ?_
    refine Upd.step (millCtrl_upd ..) rfl ?_
    exact h13

theorem execMillStart_upd (c : Fin 128) (s : State) : UpdO 0x412998380 s (execMillStart c s) := by
  unfold execMillStart
  refine UpdO.next ?_
  refine Upd.runCmd _ _ _ rfl ?_ (fun q1 y2 h3 => ?_)
  · exact Upd.refl _ _
  · refine UpdP.step (cmdMillStart_upd ..) rfl ?_
    exact h3

theorem State.millBit_upd (s : State) (e : Nat) (bit : Nat) : Upd 0x10998380 s (State.millBit s e bit) := by
  unfold State.millBit
  refine Upd.step (millCtrl_upd ..) rfl ?_
  exact Upd.refl _ _

theorem execMillClose_upd (c : Fin 128) (s : State) : UpdO 0x412998380 s (execMillClose c s) := by
  unfold execMillClose
  refine UpdO.next ?_
  refine Upd.runCmd _ _ _ rfl ?_ (fun q1 y2 h3 => ?_)
  · exact Upd.refl _ _
  · extract_lets +onlyGivenNames x4
    clear_value x4
    refine UpdP.checked ?_ ?_
    · exact h3
    · refine UpdP.mk ?_
      refine Upd.step (State.millBit_upd ..) rfl ?_
      exact h3

theorem execMillAbort_upd (c : Fin 128) (s : State) : UpdO 0x412998380 s (execMillAbort c s) := by
  unfold execMillAbort
  refine UpdO.next ?_
  refine Upd.runCmd _ _ _ rfl ?_ (fun q1 y2 h3 => ?_)
  · exact Upd.refl _ _
  · extract_lets +onlyGivenNames x4
    clear_value x4
    refine UpdP.checked ?_ ?_
    · exact h3
    · extract_lets +onlyGivenNames x5
      refine cut (P := Upd 0x412998380 s x5) ?_ (fun h6 => ?_)
      · unfold x5
        refine Upd.step (State.millBit_upd ..) rfl ?_
        exact h3
      clear_value x5
      exact h6

theorem execMillStatus_upd (c : Fin 128) (s : State) : UpdO 0x402018300 s (execMillStatus c s) := by
  unfold execMillStatus
  refine UpdO.next ?_
  refine Upd.runCmd _ _ _ rfl ?_ (fun q1 y2 h3 => ?_)
  · exact Upd.refl _ _
  · extract_lets +onlyGivenNames x4
    clear_value x4
    refine UpdP.checked ?_ ?_
    · exact h3
    · exact h3

theorem dramPorts_upd (q : CmdReq) (s : State) : UpdP 0x200 s (dramPorts q s) := by
  unfold dramPorts
  extract_lets +onlyGivenNames x1
  clear_value x1
  extract_lets +onlyGivenNames x2
  clear_value x2
  extract_lets +onlyGivenNames x3
  clear_value x3
  extract_lets +onlyGivenNames x4
  clear_value x4
  extract_lets +onlyGivenNames x5
  clear_value x5
  extract_lets +onlyGivenNames x6
  clear_value x6
  refine UpdP.checked ?_ ?_
  · exact Upd.refl _ _
  · split
    · refine UpdP.mk ?_
      exact Upd.refl _ _
    · extract_lets +onlyGivenNames x7
      refine cut (P := Upd 0x200 s x7) ?_ (fun h8 => ?_)
      · unfold x7
        refine Upd.step (State.wr_upd ..) rfl ?_
        exact Upd.refl _ _
      clear_value x7
      refine UpdP.mk ?_
      refine Upd.foldl ?_ (fun y9 a10 h11 => ?_)
      · exact h8
      · refine Upd.step (State.wf_upd ..) rfl ?_
        refine Upd.step (State.wf_upd ..) rfl ?_
        exact h11

theorem execDramPorts_upd (c : Fin 128) (s : State) : UpdO 0x402018300 s (execDramPorts c s) := by
  unfold execDramPorts
  refine UpdO.next ?_
  refine Upd.runCmd _ _ _ rfl ?_ (fun q1 y2 h3 => ?_)
  · exact Upd.refl _ _
  · refine UpdP.step (dramPorts_upd ..) rfl ?_
    exact h3

theorem execDramStatus_upd (c : Fin 128) (s : State) : UpdO 0x402018300 s (execDramStatus c s) := by
  unfold execDramStatus
  refine UpdO.next ?_
  refine Upd.runCmd _ _ _ rfl ?_ (fun q1 y2 h3 => ?_)
  · exact Upd.refl _ _
  · extract_lets +onlyGivenNames x4
    clear_value x4
    extract_lets +onlyGivenNames x5
    clear_value x5
    extract_lets +onlyGivenNames x6
    clear_value x6
    exact h3

theorem freqWalk_upd (c f mask k i done : Nat) (s : State) : UpdP 0x401018300 s (freqWalk c f mask k i done s) := by
  induction k generalizing i done s with
  | zero => exact Upd.refl _ _
  | succ k ih =>
    unfold freqWalk
    refine UpdP.ite (Upd.refl _ _) (UpdP.ite (ih ..) (UpdP.ite (UpdP.ite ?_ (ih ..)) ?_))
    · exact UpdP.mk (Upd.step (State.setPhase_upd ..) (by rfl) (Upd.refl _ _))
    · refine UpdP.ite (UpdP.mk (Upd.step (State.setPhase_upd ..) (by rfl) (Upd.step (State.freqGo_upd ..) (by rfl) (Upd.refl _ _)))) ?_
      exact UpdP.mk (Upd.step (State.freqGo_upd ..) (by rfl) (Upd.refl _ _))

theorem dramFreq_upd (c : Nat) (q : CmdReq) (s : State) : UpdP 0x401018300 s (dramFreq c q s) := by
  unfold dramFreq
  extract_lets +onlyGivenNames x1
  clear_value x1
  extract_lets +onlyGivenNames x2
  clear_value x2
  split
  · refine UpdP.checked ?_ ?_
    · exact Upd.refl _ _
    · refine UpdP.step (freqWalk_upd ..) rfl ?_
      exact Upd.refl _ _
  · refine UpdP.step (freqWalk_upd ..) rfl ?_
    exact Upd.refl _ _
  · refine UpdP.mk ?_
    exact Upd.refl _ _

theorem execDramFreq_upd (c : Fin 128) (s : State) : UpdO 0x403018300 s (execDramFreq c s) := by
  unfold execDramFreq
  refine UpdO.next ?_
  refine Upd.runCmd _ _ _ rfl ?_ (fun q1 y2 h3 => ?_)
  · exact Upd.refl _ _
  · refine UpdP.step (dramFreq_upd ..) rfl ?_
    exact h3

theorem execDramPatrol_upd (c : Fin 128) (s : State) : UpdO 0x402018300 s (execDramPatrol c s) := by
  unfold execDramPatrol
  refine UpdO.next ?_
  refine Upd.runCmd _ _ _ rfl ?_ (fun q1 y2 h3 => ?_)
  · exact Upd.refl _ _
  · extract_lets +onlyGivenNames x4
    clear_value x4
    extract_lets +onlyGivenNames x5
    clear_value x5
    refine UpdP.checked ?_ ?_
    · exact h3
    · refine UpdP.mk ?_
      refine Upd.foldl ?_ (fun y6 a7 h8 => ?_)
      · exact h3
      · refine Upd.step (State.wf_upd ..) rfl ?_
        refine Upd.step (State.wf_upd ..) rfl ?_
        exact h8

end Sys2Proof.Machine
end

