-- ==== Sys2Proof/Laws/FrameDbgAccess.lean ====
section
/-! SUPPORT. What each operation of Sys2Proof/Machine/DbgAccess.lean may change: the fields whose bits are set, in the order of State. -/
namespace Sys2Proof.Machine

theorem State.dbgEnd_upd (s : State) (code : Nat) (data : Word) : Upd 0x10000000 s (State.dbgEnd s code data) := by
  unfold State.dbgEnd
  refine Upd.step (Upd.set_dbg _ _) rfl ?_
  exact Upd.refl _ _

theorem State.dbgLocal_upd (s : State) (o : Nat) (v : Word) (a : AuthIn) : Upd 0x18000200 s (State.dbgLocal s o v a) := by
  unfold State.dbgLocal
  extract_lets +onlyGivenNames x1
  clear_value x1
  refine Upd.ite ?_ ?_
  · refine Upd.step (State.dbgEnd_upd ..) rfl ?_
    exact Upd.refl _ _
  · refine Upd.ite ?_ ?_
    · refine Upd.step (State.dbgEnd_upd ..) rfl ?_
      refine Upd.step (State.wr_upd ..) rfl ?_
      exact Upd.refl _ _
    · refine Upd.ite ?_ ?_
      · refine Upd.step (State.dbgEnd_upd ..) rfl ?_
        refine Upd.step (State.authCmd_upd ..) rfl ?_
        exact Upd.refl _ _
      · refine Upd.ite ?_ ?_
        · refine Upd.step (State.dbgEnd_upd ..) rfl ?_
          refine Upd.step (State.wr_upd ..) rfl ?_
          exact Upd.refl _ _
        · refine Upd.step (State.dbgEnd_upd ..) rfl ?_
          exact Upd.refl _ _

theorem State.dbgStart_upd (s : State) (cmd : Nat) (au : AuthIn) : Upd 0x18080380 s (State.dbgStart s cmd au) := by
  unfold State.dbgStart
  extract_lets +onlyGivenNames x1
  clear_value x1
  extract_lets +onlyGivenNames x2
  clear_value x2
  extract_lets +onlyGivenNames x3
  clear_value x3
  refine Upd.ite ?_ ?_
  · exact Upd.refl _ _
  · refine Upd.ite ?_ ?_
    · refine Upd.step (State.dbgEnd_upd ..) rfl ?_
      refine Upd.step (State.regbusFault_upd ..) rfl ?_
      exact Upd.refl _ _
    · refine Upd.ite ?_ ?_
      · refine Upd.step (State.dbgLocal_upd ..) rfl ?_
        exact Upd.refl _ _
      · refine Upd.ite ?_ ?_
        · refine Upd.step (State.dbgEnd_upd ..) rfl ?_
          refine Upd.step (State.cnt_upd ..) rfl ?_
          exact Upd.refl _ _
        · extract_lets +onlyGivenNames x4
          clear_value x4
          extract_lets +onlyGivenNames x5
          refine cut (P := Upd 0x18080380 s x5) ?_ (fun h6 => ?_)
          · unfold x5
            refine Upd.step (Upd.set_dbg _ _) rfl ?_
            exact Upd.refl _ _
          clear_value x5
          split
          · exact h6
          · exact h6
          · refine Upd.step (ringInject_upd ..) rfl ?_
            exact h6

theorem dbgAccess_upd (cmd : Nat) (au : AuthIn) (s : State) : Upd 0x18080380 s (dbgAccess cmd au s) := by
  unfold dbgAccess
  refine Upd.ite ?_ ?_
  · exact Upd.refl _ _
  · extract_lets +onlyGivenNames x1
    refine cut (P := Upd 0x18080380 s x1) ?_ (fun h2 => ?_)
    · unfold x1
      refine Upd.step (State.emit_upd ..) rfl ?_
      exact Upd.refl _ _
    clear_value x1
    extract_lets +onlyGivenNames x3
    clear_value x3
    extract_lets +onlyGivenNames x4
    refine cut (P := Upd 0x18080380 s x4) ?_ (fun h5 => ?_)
    · unfold x4
      refine Upd.step (Upd.set_dbg _ _) rfl ?_
      exact h2
    clear_value x4
    refine Upd.ite ?_ ?_
    · refine Upd.step (Upd.set_dbg _ _) rfl ?_
      exact h5
    · refine Upd.step (State.dbgStart_upd ..) rfl ?_
      exact h5

theorem execDbgAccess_upd (cmd : BitVec 82) (auth : AuthIn) (s : State) : UpdO 0x18080380 s (execDbgAccess cmd auth s) := by
  unfold execDbgAccess
  refine UpdO.next ?_
  refine Upd.step (dbgAccess_upd ..) rfl ?_
  exact Upd.refl _ _

theorem dbgComplete_upd (code : Rsp) (data : Word) (s : State) : Upd 0x7ffffffb4 s (dbgComplete code data s) := by
  unfold dbgComplete
  split
  · exact Upd.refl _ _
  · extract_lets +onlyGivenNames x1
    clear_value x1
    extract_lets +onlyGivenNames x2
    clear_value x2
    refine Upd.ite ?_ ?_
    · exact Upd.refl _ _
    · split
      · refine Upd.ite ?_ ?_
        · split
          · rename_i v3 v4 v5 v6
            refine cut (P := Upd 0x7ffffffb4 s v5) (UpdP.out ?_ v6) (fun h7 => ?_)
            · refine UpdP.step (State.writeAccess_upd ..) rfl ?_
              exact Upd.refl _ _
            refine Upd.step (State.dbgEnd_upd ..) rfl ?_
            refine Upd.ite ?_ ?_
            · refine Upd.step (State.regbusFault_upd ..) rfl ?_
              exact h7
            · exact h7
        · split
          · rename_i v8 v9 v10 v11 v12
            refine cut (P := Upd 0x7ffffffb4 s v11) (UpdQ.out ?_ v12) (fun h13 => ?_)
            · refine UpdQ.step (State.readAccess_upd ..) rfl ?_
              exact Upd.refl _ _
            refine Upd.step (State.dbgEnd_upd ..) rfl ?_
            refine Upd.ite ?_ ?_
            · refine Upd.step (State.regbusFault_upd ..) rfl ?_
              exact h13
            · exact h13
      · refine Upd.step (State.dbgEnd_upd ..) rfl ?_
        exact Upd.refl _ _
      · extract_lets +onlyGivenNames x14
        clear_value x14
        refine Upd.step (State.dbgEnd_upd ..) rfl ?_
        exact Upd.refl _ _

theorem execDbgAccessComplete_upd (code : Rsp) (data : Word) (s : State) : UpdO 0x7ffffffb4 s (execDbgAccessComplete code data s) := by
  unfold execDbgAccessComplete
  refine UpdO.next ?_
  refine Upd.step (dbgComplete_upd ..) rfl ?_
  exact Upd.refl _ _

end Sys2Proof.Machine
end

