-- ==== Sys2Proof/Laws/FrameTick.lean ====
section
/-! SUPPORT. What each operation of Sys2Proof/Machine/Tick.lean may change: the fields whose bits are set, in the order of State. -/
namespace Sys2Proof.Machine

theorem State.ttcStep_upd (s : State) : UpdP 0x80 s (State.ttcStep s) := by
  unfold State.ttcStep
  refine UpdP.ite ?_ ?_
  · refine UpdP.ite ?_ ?_
    · split
      · rename_i v1 v2 v3 v4
        refine cut (P := Upd 0x80 s v3) (UpdP.out ?_ v4) (fun h5 => ?_)
        · refine UpdP.step (State.fresh_upd ..) rfl ?_
          exact Upd.refl _ _
        exact h5
    · refine UpdP.mk ?_
      exact Upd.refl _ _
  · refine UpdP.mk ?_
    exact Upd.refl _ _

theorem State.tick_upd (s : State) : Upd 0x1080202f8 s (State.tick s) := by
  unfold State.tick
  split
  · rename_i v1 v2 v3 v4
    refine cut (P := Upd 0x1080202f8 s v3) (UpdP.out ?_ v4) (fun h5 => ?_)
    · refine UpdP.step (State.ttcStep_upd ..) rfl ?_
      exact Upd.refl _ _
    extract_lets +onlyGivenNames x6
    refine cut (P := Upd 0x1080202f8 s x6) ?_ (fun h7 => ?_)
    · unfold x6
      refine Upd.step (Upd.set_now_ttc_cal_rtc _ _ _ _ _) rfl ?_
      exact h5
    clear_value x6
    extract_lets +onlyGivenNames x8
    refine cut (P := Upd 0x1080202f8 s x8) ?_ (fun h9 => ?_)
    · unfold x8
      refine Upd.ite ?_ ?_
      · refine Upd.foldl ?_ (fun y10 a11 h12 => ?_)
        · exact h7
        · refine Upd.step (State.setCore_upd ..) rfl ?_
          exact h12
      · exact h7
    clear_value x8
    refine Upd.ite ?_ ?_
    · refine Upd.step (State.rtcLoad_upd ..) rfl ?_
      exact h9
    · exact h9

end Sys2Proof.Machine
end

