-- ==== Sys2Proof/Laws/FrameStep.lean ====
section
/-! SUPPORT. What each operation of Sys2Proof/Machine/Step.lean may change: the fields whose bits are set, in the order of State. -/
namespace Sys2Proof.Machine

theorem State.withFetchWord_upd (s : State) (nbits : Nat) (w : Nat) : Upd 0x1 s (State.withFetchWord s nbits w) := by
  unfold State.withFetchWord
  split
  · refine Upd.step (Upd.set_pending _ _) rfl ?_
    exact Upd.refl _ _
  · exact Upd.refl _ _

end Sys2Proof.Machine
end

