-- ==== Sys2Proof/Laws/Gate.lean ====
section
/-! SUPPORT. What an access answers: the command's own effect where it is allowed, the response code and no effect where it is not. -/
namespace Sys2Proof.Machine

@[simp] theorem State.answer_ok (s : State) (r : Req) (a : Nat) (d : List Word) : s.answer r a .ok d = s.emit (.rsp r .ok d) := by
  simp [State.answer]

/-- A response that is not FAULT changes nothing but the outputs. -/
theorem State.answer_eq (s : State) (r : Req) (a : Nat) (c : Rsp) (d : List Word) (h : c ≠ .fault) : s.answer r a c d = s.emit (.rsp r c d) := by
  simp [State.answer, h]

theorem State.gatedBy_allows {s : State} {r : Req} {a : Nat} {w : Bool} (k : State → State) (h : s.Allows r a w) : s.gatedBy r a w k = k s := by
  simp [State.gatedBy, h.1, h.2.1]

theorem State.gated_allows {s : State} {r : Req} {a : Nat} {w : Bool} (k : State → State) (h : s.Allows r a w) :
    s.gated r a w k = (k s).emit (.rsp r .ok []) := by
  rw [State.gated, h.2.2, if_neg (by decide), State.gatedBy_allows _ h, State.answer_ok]

theorem State.gatedIf_allows {s : State} {r : Req} {a : Nat} {ok : Bool} (k : State → State) (h : s.Allows r a true) (e : ok = true) :
    s.gatedIf r a ok k = (k s).emit (.rsp r .ok []) := by
  rw [State.gatedIf, h.2.2, if_neg (by decide), State.gatedBy_allows _ h, if_pos e, State.answer_ok]

/-- An access that is not allowed is answered with its code, and nothing else happens but the count of a FAULT or of the firewall's refusal (R34,
R46, R163). -/
theorem State.gatedBy_refused {s : State} {r : Req} {a : Nat} {w : Bool} (k : State → State) (h : s.deaf = false) (g : s.gate r a w ≠ .ok) :
    s.gatedBy r a w k = (s.counted r a w).answer r a (s.gate r a w) [] := by
  unfold State.gatedBy State.counted
  rw [h, if_neg (by decide)]
  split
  · contradiction
  · rename_i e; rw [if_pos e, e]
  · rename_i e; rw [if_neg e]

/-- Nothing is performed in a part that does not run: the access is answered INRESET (R34). -/
theorem State.gatedBy_deaf {s : State} (r : Req) (a : Nat) (w : Bool) (k : State → State) (h : s.deaf = true) :
    s.gatedBy r a w k = s.emit (.rsp r .inReset []) := by
  rw [State.gatedBy, if_pos h, State.answer_eq _ _ _ _ _ (by decide)]

end Sys2Proof.Machine
end

