-- ==== Sys2Proof/WellFormed.lean ====
section
/-! DEFINITION. Well-formed commands: what the operand types leave open is bounded as the rule of each command bounds it (access lengths R36,
packet sizes R146-R147, beats R122 and R167, buffers R506 and R570, wires R556-R557, TLPs R364). Every other command is well formed by its types. -/
namespace Sys2Proof

/-- A command whose operands the spec's sizes admit. -/
def Instr.wf (i : Instr) : Bool :=
  match i with
  | .registerWrite _ _ data _ => decide (0 < data.length) && decide (data.length ≤ 64)
  | .rcRegisterRead _ _ len _ => decide (0 < len) && decide (len ≤ 64)
  | .pairLoRead .. => true
  | .counterPairLoWrite .. => true
  | .counterPairHiWrite .. => true
  | .fckApply .. => true
  | .fieldClockRestart .. => true
  | .stileSend .. => true
  | .stileWordArrive .. => true
  | .stileConsume .. => true
  | .stileCreditReturn .. => true
  | .levelStileChange .. => true
  | .bmPortRead .. => true
  | .bmPortWrite .. => true
  | .bmQueuePush .. => true
  | .bmQueuePop .. => true
  | .queueFlagUpdate .. => true
  | .qrst .. => true
  | .granaryRequest _ _ beats => decide (beats.length ≤ 4)
  | .granaryBankAccess .. => true
  | .granaryReadBeat .. => true
  | .bmPatrolRead .. => true
  | .grPatrolRead .. => true
  | .patrolLate .. => true
  | .bmRewrite .. => true
  | .grRewrite .. => true
  | .bmFlipArm .. => true
  | .grFlipArm .. => true
  | .bmRemapWrite .. => true
  | .bmRemapCopyDone .. => true
  | .grRemapWrite .. => true
  | .grRemapCopyDone .. => true
  | .bmDebugAccess .. => true
  | .bmDebugForcedStall .. => true
  | .grDebugSteal .. => true
  | .ringRequestInject q => decide (q.data.length ≤ 4)
  | .ringFlitArrive _ _ _ drained => decide (drained ≤ 33)
  | .ringResponseTimeout .. => true
  | .ringCreditReturn .. => true
  | .ringInjectHold .. => true
  | .bellRequest q => decide (q.data.length ≤ 1)
  | .bellAdmit .. => true
  | .ringBellCtrlWrite .. => true
  | .fieldRingInitiate _ _ beats => decide (beats.length ≤ 16)
  | .fieldRingTargetResponse _ _ _ data => decide (data.length ≤ 4)
  | .qpllCtrlWrite .. => true
  | .qpllLock .. => true
  | .laneCtrlWrite .. => true
  | .laneSignalDetect .. => true
  | .laneSignalLoss .. => true
  | .laneCdrLock .. => true
  | .laneLossOfLock .. => true
  | .laneAdaptDone .. => true
  | .laneDownRearm .. => true
  | .slip .. => true
  | .slipSettle .. => true
  | .winStart .. => true
  | .alignWindowClose .. => true
  | .alignDone .. => true
  | .alignFail .. => true
  | .laneRxSymbol .. => true
  | .laneCheckDone .. => true
  | .laneTxeqWrite .. => true
  | .laneEqTrack .. => true
  | .laneEyeRefresh .. => true
  | .rawWordTx .. => true
  | .rawWordRx .. => true
  | .comWatchdog .. => true
  | .skpReceive .. => true
  | .linkSetReceive .. => true
  | .timeSetReceive .. => true
  | .normalFrameReceive .. => true
  | .helloGrant .. => true
  | .frameAbortReceive .. => true
  | .straySymbolReceive .. => true
  | .bellCopyReceive .. => true
  | .normalFrameTransmit .. => true
  | .bellFrameTransmit .. => true
  | .skpTransmit .. => true
  | .linkSetTransmit .. => true
  | .nakRepeat .. => true
  | .replayTimeout .. => true
  | .linkRestart .. => true
  | .resyncPeriodEnd .. => true
  | .timeExchangeDue .. => true
  | .timeRspTimeout .. => true
  | .holdQueueRelease .. => true
  | .linkCtrlGo .. => true
  | .linkCtrlTimeout .. => true
  | .linkOwnerWrite .. => true
  | .linkFiTxWrite .. => true
  | .linkFiRxWrite .. => true
  | .reorderHoldExpire .. => true
  | .failEntryApply .. => true
  | .failLogWrite .. => true
  | .failLogWriteDone .. => true
  | .fcuFabForward .. => true
  | .fcuClr .. => true
  | .fcuClrDone .. => true
  | .fcuGranWrite .. => true
  | .fcuRecordRead .. => true
  | .fcuRecordWrite .. => true
  | .lrCtrlWrite .. => true
  | .lrLogConfigWrite .. => true
  | .matchReportApply .. => true
  | .tallyStepTimeout .. => true
  | .tallyResultBroadcast .. => true
  | .tallyCtrlWrite .. => true
  | .dlpTxBeat .. => true
  | .dlpRxDeliver .. => true
  | .linkRxRingWrite .. => true
  | .linkTxFetch .. => true
  | .linkTxChunk .. => true
  | .millCtrlStart .. => true
  | .millCtrlClose .. => true
  | .millCtrlAbort .. => true
  | .millDescLoaded .. => true
  | .millSrcRead .. => true
  | .millIntakeEntry .. => true
  | .millIntakeDrained .. => true
  | .millRegionAnalyse .. => true
  | .millRecordWrite .. => true
  | .millJobDone .. => true
  | .millWriteError .. => true
  | .fldOwnWrite .. => true
  | .granOwnWrite .. => true
  | .grantFillDone .. => true
  | .siteCmdReset .. => true
  | .siteResetDrainEnd .. => true
  | .siteResetComplete .. => true
  | .siteCmdRun .. => true
  | .sicEoi .. => true
  | .msixEnable .. => true
  | .msixUnmask .. => true
  | .dramOwnWrite .. => true
  | .dramReadRequest .. => true
  | .dramWriteRequest .. => true
  | .dramWriteDrain .. => true
  | .dramBackgroundFill .. => true
  | .dramRefresh .. => true
  | .dramTempPoll .. => true
  | .dramRhWindowEnd .. => true
  | .dramThrottleExpire .. => true
  | .dramPatrolRead .. => true
  | .dramTrack .. => true
  | .dramRetrainStep .. => true
  | .ddrFreqGo .. => true
  | .ddrFreqDone .. => true
  | .dramCaparError .. => true
  | .dramMigrateLine .. => true
  | .encEnable .. => true
  | .encDisable .. => true
  | .encWriteback .. => true
  | .barRead .. => true
  | .barWrite _ _ _ data _ => decide (0 < data.length) && decide (data.length ≤ 4096)
  | .vfFlr .. => true
  | .pfFlr .. => true
  | .pcieLinkLoss .. => true
  | .vfEnableClear .. => true
  | .hostEoi .. => true
  | .dmaTailWrite .. => true
  | .dmaDescFetch .. => true
  | .dmaPieceIssue _ data => decide (data.length ≤ 4)
  | .dmaPieceComplete _ _ _ _ _ data => decide (data.length ≤ 4)
  | .dmaWriteback .. => true
  | .dmaResume .. => true
  | .dmaEnClear .. => true
  | .dmaEnSet .. => true
  | .dmaRingWrite .. => true
  | .mbxPush .. => true
  | .mbxPop .. => true
  | .mbxFpbindWrite .. => true
  | .mbxBindWrite .. => true
  | .mbxLockSet .. => true
  | .commonsHbWrite .. => true
  | .commonsHeaderPop .. => true
  | .commonsLengthTimeout .. => true
  | .sysPing .. => true
  | .sysIdentify .. => true
  | .sysMode .. => true
  | .sysTime .. => true
  | .siteCreate .. => true
  | .siteDestroy .. => true
  | .siteGrant .. => true
  | .siteRevoke .. => true
  | .siteReset .. => true
  | .siteService .. => true
  | .siteQuery .. => true
  | .siteTcrit .. => true
  | .confLoad .. => true
  | .confReload .. => true
  | .confRemap .. => true
  | .confLedger .. => true
  | .linkUp .. => true
  | .linkDown .. => true
  | .linkStatus .. => true
  | .linkEq .. => true
  | .fcuRoute .. => true
  | .fcuAddr .. => true
  | .fcuClear .. => true
  | .fcuLogrst .. => true
  | .tallyConfig .. => true
  | .tallyStatus .. => true
  | .millStart .. => true
  | .millClose .. => true
  | .millAbort .. => true
  | .millStatus .. => true
  | .dramPorts .. => true
  | .dramStatus .. => true
  | .dramFreq .. => true
  | .dramPatrol .. => true
  | .secEncOn .. => true
  | .secEncOff .. => true
  | .secRandom .. => true
  | .secLifecycle .. => true
  | .monRead .. => true
  | .monConfig .. => true
  | .monPower .. => true
  | .parishRead .. => true
  | .parishMark .. => true
  | .parishStatus .. => true
  | .fwVersion .. => true
  | .fwUpdate .. => true
  | .fwRestart .. => true
  | .fwPatch .. => true
  | .winEnter .. => true
  | .winLeave .. => true
  | .coreTrap .. => true
  | .trapRet .. => true
  | .coreInterrupt .. => true
  | .cmnCoreKick .. => true
  | .coreWdtExpire .. => true
  | .hbWdtExpire .. => true
  | .commonsRestartComplete .. => true
  | .reeveWdtExpire .. => true
  | .reeveRestartDone .. => true
  | .lifecycleChangeDone .. => true
  | .pkeOpDone .. => true
  | .drngReady .. => true
  | .drngHealthFail .. => true
  | .tamperAlarm .. => true
  | .vbatLow .. => true
  | .oscStop .. => true
  | .backupDomainReset .. => true
  | .bkRtcSet .. => true
  | .bkLogClr .. => true
  | .dbgAccess .. => true
  | .dbgAccessComplete .. => true
  | .debugDomainReset .. => true
  | .tapInstruction .. => true
  | .challenge .. => true
  | .challengeReady .. => true
  | .respond .. => true
  | .password .. => true
  | .lock .. => true
  | .loadBbkey .. => true
  | .recover .. => true
  | .authFailWaitEnd .. => true
  | .dbgXtPulse .. => true
  | .xtTimeCompare .. => true
  | .triggerTapOut .. => true
  | .xtEventArrive .. => true
  | .dbgFldHalt .. => true
  | .fieldHaltStop .. => true
  | .dbgFldRun .. => true
  | .dbgFldStep .. => true
  | .stepDone .. => true
  | .dbgFldCapture .. => true
  | .captureDone .. => true
  | .dbgCoreHalt .. => true
  | .dbgCoreRun .. => true
  | .dbgCoreStep .. => true
  | .cfgPass1Done .. => true
  | .cfgWriterStart .. => true
  | .cfgFieldWritten .. => true
  | .cfgStartupStep .. => true
  | .cfgLockTimeout .. => true
  | .cfgStoreCopy .. => true
  | .cfgScrubRead .. => true
  | .cfgXspiCmd .. => true
  | .cfgXspiDone data => decide (data.length ≤ 256)
  | .powerOn .. => true
  | .resetNFall .. => true
  | .resetNRise .. => true
  | .startCmdCold .. => true
  | .startCmdWarm .. => true
  | .retentionDone .. => true
  | .startStepComplete .. => true
  | .gangBootLoad .. => true
  | .railOutOfRange .. => true
  | .brownOut .. => true
  | .pwrCmd .. => true
  | .powerStateChangeDone .. => true
  | .powerCapTick .. => true
  | .capLimit .. => true
  | .thermWarn .. => true
  | .thermTrip .. => true
  | .pwrFailFall .. => true
  | .pwrFailRise .. => true
  | .sensorSample .. => true
  | .monFifoPop .. => true
  | .refJudgeWindow .. => true
  | .refclkWaitTimeout .. => true
  | .refLoss .. => true
  | .refDevWindow .. => true
  | .clkRootWrite .. => true
  | .clockSwitchDone .. => true
  | .intFail .. => true
  | .rootStop .. => true
  | .clkGateWrite .. => true
  | .clkGateReady .. => true
  | .clkmonCtrlWrite .. => true
  | .ttcSyncMeasure .. => true
  | .kelkSRetestDone _ found => decide (found.length ≤ 68)
  | .kelkWRetestDone _ found => decide (found.length ≤ 34)
  | .kelkWCrossingRestart .. => true
  | .gstUnfence .. => true
  | .gstFence .. => true
  | .gstReset .. => true
  | .guestTrainDone .. => true
  | .guestTrainTimeout .. => true
  | .guestFlitReceive .. => true
  | .guestResetTimeout .. => true
  | .guestLinkDown .. => true
  | .ioPinWrite .. => true
  | .gpioSet .. => true
  | .gpioClr .. => true
  | .gpioTgl .. => true
  | .gpioInputChange .. => true
  | .trigInEdge .. => true
  | .i2cGo .. => true
  | .i2cDone _ _ _ rx => decide (rx.length ≤ 32)
  | .i2cStretchTimeout _ _ rx => decide (rx.length ≤ 32)
  | .spiGo .. => true
  | .spiDone .. => true
  | .uartTx .. => true
  | .uartTxByteSent .. => true
  | .uartRxByte .. => true
  | .uartRx .. => true
  | .parInGo .. => true
  | .parishFlush .. => true
  | .parishScan .. => true
  | .fcReport .. => true
  | .incidentClose .. => true
  | .fcAck .. => true
  | .activeClockEdge _ edges .. => decide (edges.length ≤ 4)
  | .prbsCheck .. => true
  | .ctsNChange .. => true
  | .pcieLinkUp .. => true

end Sys2Proof
end

