-- ==== Sys2Proof/Tests/Slice0.lean ====
section
/-! SUPPORT. Tests: ill-formed commands refused, and for each clause of a statement a small state and operands that meet its hypotheses, with
what the command leaves there. Expected values are those of the spec's rules and worked examples. -/
namespace Sys2Proof.Tests
open Sys2Proof Sys2Proof.Machine

set_option maxRecDepth 20000
set_option Elab.async false

/-- Commons core C0 as management. -/
def mg : Req := ⟨1, 0x7F⟩
/-- The Reeve. -/
def rv : Req := ⟨0, 0x7F⟩
/-- The host's physical function. -/
def pf : Req := ⟨0x20, 0x7F⟩
/-- The debug port. -/
def db : Req := ⟨8, 0x7F⟩
/-- The virtual function of a site. -/
def vf (n : Nat) : Req := ⟨BitVec.ofNat 12 (0x40 + n), BitVec.ofNat 7 n⟩
/-- A state in which every die answers. -/
def up : State := { State.reset with diesDown := 0, pcie := { linkUp := true } }
/-- A field running a design, with its fabric's write enable. -/
def runF (s : State) (f : Nat) : State := s.setFrt f { configured := true, gsr := false, we := true, io := true }
/-- What a test asks of the state a command gives. -/
def after (c : Instr) (s : State) (f : State → Bool) : Bool := match exec c s with | .next t => f t | _ => false
/-- Registers other than those that pass a test are unchanged. -/
def regsBut (p : Nat → Bool) (s t : State) : Bool := (s.regs ++ t.regs).all (fun e => p e.1 || t.rd e.1 == s.rd e.1)
/-- A register that gives notice. -/
def notice (k : Nat) : Bool := decide (noticeReg k)

/-! ### Ill-formed commands (R36, R122, R146, R147, R163, R167, R364, R506, R556, R557, R570) -/

theorem test_wf_access : Instr.wf (.registerWrite mg 0x800000 [] []) = false ∧ Instr.wf (.registerWrite mg 0x800000 (List.replicate 65 0) []) = false ∧
    Instr.wf (.rcRegisterRead mg 0x800000 0 []) = false ∧ Instr.wf (.rcRegisterRead mg 0x800000 65 []) = false ∧
    Instr.wf (.registerWrite mg 0x800000 (List.replicate 64 0) []) = true := by decide +kernel
theorem test_wf_ring : Instr.wf (.granaryRequest 0 0 (List.replicate 5 (0, 0))) = false ∧
    Instr.wf (.ringRequestInject ⟨mg, 2, 0, 3, 0, 0, List.replicate 5 0⟩) = false ∧ Instr.wf (.bellRequest ⟨mg, 3, 0, 3, 0, 0, [0, 0]⟩) = false ∧
    Instr.wf (.ringFlitArrive 0 0 none 34) = false ∧ Instr.wf (.fieldRingInitiate 0 0 (List.replicate 17 0)) = false ∧
    Instr.wf (.fieldRingTargetResponse 0 0 0 (List.replicate 5 0)) = false ∧ Instr.wf (.fieldRingInitiate 0 0 (List.replicate 16 0)) = true := by decide +kernel
theorem test_wf_fabric : Instr.wf (.activeClockEdge 0 (List.replicate 5 (0, true)) [] [] [] [] []) = false ∧ Instr.wf (.activeClockEdge 0 [(0, true)] [] [] [] [] []) = true := by
  decide +kernel
theorem test_wf_host : Instr.wf (.barWrite 0 0 0 [] []) = false ∧ Instr.wf (.barWrite 0 0 0 [1] []) = true ∧
    Instr.wf (.dmaPieceIssue 0 (List.replicate 5 0)) = false ∧ Instr.wf (.dmaPieceComplete 0 0 0 .ok false (List.replicate 5 0)) = false := by decide +kernel
theorem test_wf_flash : Instr.wf (.cfgXspiDone (List.replicate 257 0)) = false := by decide +kernel
theorem test_wf_kelk : Instr.wf (.kelkSRetestDone 0 (List.replicate 69 0)) = false ∧ Instr.wf (.kelkWRetestDone 0 (List.replicate 35 0)) = false := by decide +kernel
theorem test_wf_i2c : Instr.wf (.i2cDone 0 .ok 0 (List.replicate 33 0)) = false ∧ Instr.wf (.i2cStretchTimeout 0 0 (List.replicate 33 0)) = false := by
  decide +kernel



theorem test_tick : (up.pending = [] ∧ up.sec.rtcSet = false ∧ up.coreHeldByDebug = false ∧ up.ttcRuns = false) ∧
    (match step up with | .next t => t.now == 1 && t.ttc == 0 && t.rtc == 1 | _ => false) = true := by decide

theorem test_tick_runs : (((up.wf startBlk R.START_STAT_STEP 14).clrF clkBlk R.CLK_REF_STAT_TTC_FREE).ttcRuns = true ∧
    ((up.wf startBlk R.START_STAT_STEP 14).clrF clkBlk R.CLK_REF_STAT_TTC_FREE).flag clkBlk R.CLK_REF_STAT_TTC_FREE = false) ∧
    (match step ((up.wf startBlk R.START_STAT_STEP 14).clrF clkBlk R.CLK_REF_STAT_TTC_FREE) with | .next t => t.ttc == 1 && t.cal == 1 | _ => false) = true := by decide

theorem test_reset : State.reset.fieldOwner 127 = 0x7F ∧ State.reset.rd (fieldPage 5 + R.FCK_CTRL) = 0x202000 ∧
    State.reset.rf startBlk R.START_STAT_STEP = 0 ∧ State.reset.fieldInReset 37 = true := by decide



theorem test_inv : State.reset.Inv ∧ (match step State.reset with | .next _ => true | _ => false) = true := by
  exact ⟨⟨by decide, by decide, by decide⟩, by decide⟩



theorem test_refused : ((up.gate (vf 9) (startBlk + R.START_CMD) true = .denied ∧ up.deaf = false) ∧
    after (.startCmdCold (vf 9) 1) up (fun t => t.outs == [.rsp (vf 9) .denied []]) = true) := by decide

theorem test_refused_inReset : { up with diesDown := 2 }.gate mg (fieldPage 5 + R.FCK_APPLY) true = .inReset ∧
    after (.fckApply mg 5 1) { up with diesDown := 2 } (fun t => t.outs == [.rsp mg .inReset []]) = true := by decide +kernel

theorem test_refused_stop : (up.gate (vf 9) (fieldPage 5 + R.FCK_APPLY) true = .denied ∧
      up.regDeny (vf 9) (fieldPage 5 + R.FCK_APPLY) true = some (stopNo 0 0 (jfPos 0)) ∧ stopRegs (stopNo 0 0 (jfPos 0)) = some (spineBlk (jfPos 0))) ∧
    after (.fckApply (vf 9) 5 1) up (fun t => t.outs == [.rsp (vf 9) .denied []] && t.rd (spineBlk (jfPos 0) + R.RING_DENY_CNT) == 1 &&
      t.flag (spineBlk (jfPos 0)) R.RING_STAT_DENY) = true := by decide +kernel

theorem test_deaf : { up with start := { up.start with hold := true } }.deaf = true ∧
    after (.gpioSet mg 3 1) { up with start := { up.start with hold := true } } (fun t => t.outs == [.rsp mg .inReset []]) = true := by decide

theorem test_hubWaits : { up with fills := [⟨false, 3, 9, some mg, []⟩] }.grantWaits mg (startBlk + R.START_CMD) = true ∧
    after (.startCmdCold mg 1) { up with fills := [⟨false, 3, 9, some mg, []⟩] } (fun t => t.outs == [] && t.start == up.start) = true := by decide

theorem test_siteCode : (up.Allows mg (linkBlk 7 + R.LINK_OWNER) true ∧ (100 : Word).toNat % 128 = 100) ∧
    after (.linkOwnerWrite mg 7 100) up (fun t => t.outs == [.rsp mg .fault []] && t.rd (linkBlk 7 + R.LINK_OWNER) == up.rd (linkBlk 7 + R.LINK_OWNER) &&
      t.rd (regbusBlk 5 64 + R.REGBUS_FAULT_CNT) == 1 && t.rf (regbusBlk 5 64) R.REGBUS_STAT_FAULT_SEEN == 1) = true := by decide

theorem test_registerWrite : (up.deaf = false ∧ regionOfs 0x1F0000EE0004 % 4 = 0 ∧ up.locGate mg (regionOfs 0x1F0000EE0004) true = .ok ∧
    locOf mg (regionOfs 0x1F0000EE0004) = .reg (kelkBlk + 4) ∧ (regHere (kelkBlk + 4)).isSome = true) ∧
    after (.registerWrite mg 0x1F0000EE0004 (toBytes 4 0x10000) []) (up.wr (kelkBlk + 4) 0x8001_0003) (fun t =>
      t.outs == [.rsp mg .ok []] && t.rd (kelkBlk + 4) == 0x8000_0003) = true := by decide

theorem test_registerWrite_set : up.locGate (vf 9) (3 * 0x1000000 + 0xF000) true = .ok ∧
    after (.registerWrite (vf 9) (BitVec.ofNat 48 (0x1F0000000000 + 3 * 0x1000000 + 0xF000)) (toBytes 4 5) [(regbusBlk 3 9, .setBits 4)])
      (up.wr (regbusBlk 3 9) 7) (fun t => t.rd (regbusBlk 3 9) == 6) = true := by decide

theorem test_registerWrite_fault : (up.deaf = false ∧ regionOfs 0x1F0004800002 % 4 = 2) ∧
    after (.registerWrite mg 0x1F0004800002 (toBytes 4 5) []) up (fun t => t.outs == [.rsp mg .fault []] &&
      t.flag (regbusBlk 4 64) R.REGBUS_STAT_FAULT_SEEN && t.rd (regbusBlk 4 64 + R.REGBUS_FAULT_CNT) == 1) = true := by decide

theorem test_rcRegisterRead : (up.locGate mg (regionOfs 0x1F0000EE0004) false = .ok ∧ isDbg mg = false) ∧
    after (.rcRegisterRead mg 0x1F0000EE0004 4 []) (up.wr (kelkBlk + 4) 0x8001_0003) (fun t =>
      t.outs == [.rsp mg .ok [0x8001_0003]] && t.rd (kelkBlk + 4) == 0x8001_0000) = true := by decide

theorem test_pairLoRead : (up.locGate mg (regionOfs 0x1F0000ED0000) false = .ok ∧ (regHere (clkBlk + R.TTC_LO)).isSome = true ∧
    pairAt (clkBlk + R.TTC_LO) = .lo) ∧
    after (.pairLoRead mg (BitVec.ofNat 48 (0x1F0000000000 + clkBlk + R.TTC_LO)) false) { up with ttc := 0x1_FFFF_FC40 } (fun t =>
      t.outs == [.rsp mg .ok [0xFFFF_FC40]] && tabGet (fun _ => 0) t.latch (pairKey (clkBlk + R.TTC_LO) mg) == 1) = true := by decide


theorem test_counterPair : ((locOf mg (laneBlk 3 + 0x28) = .reg (laneBlk 3 + 0x28)) ∧ (regHere (laneBlk 3 + 0x28)).isSome = true ∧
    (regHere (laneBlk 3 + 0x28)).all (fun x => x.2.1.pair == .ctrLo && x.2.1.mask (· == .rw) != 0) = true ∧
    up.locGate mg (laneBlk 3 + 0x28) true = .ok) ∧
    after (.counterPairLoWrite mg (BitVec.ofNat 48 (0x1F0000000000 + laneBlk 3 + 0x28)) 0xFFFFFFFF) up (fun t => t.outs == [.rsp mg .ok []] &&
      tabGet (fun _ => none) t.staged (pairKey (laneBlk 3 + 0x28) mg) == some 0xFFFFFFFF && t.regs == [] &&
      after (.counterPairHiWrite mg (BitVec.ofNat 48 (0x1F0000000000 + laneBlk 3 + 0x2C)) 2 3) t (fun u => u.rd64 (laneBlk 3 + 0x28) == 0x3_0000_0002)) =
      true := by decide

theorem test_registerWrite_waits : ({ up with fills := [⟨false, 3, 9, some mg, []⟩] }.grantWaits mg (regionOfs 0x1F0000EE0004) = true ∧
      { up with fills := [⟨false, 3, 9, some mg, []⟩] }.deaf = false) ∧
    after (.registerWrite mg 0x1F0000EE0004 (toBytes 4 5) []) { up with fills := [⟨false, 3, 9, some mg, []⟩] } (fun t => t.outs == [] &&
      t.fills == [⟨false, 3, 9, some mg, [.write 0xEE0004 (toBytes 4 5) []]⟩] &&
      after (.rcRegisterRead mg 0x1F0000EE0004 4 []) t (fun u => u.outs == [] &&
        u.fills == [⟨false, 3, 9, some mg, [.write 0xEE0004 (toBytes 4 5) [], .read 0xEE0004 4 []]⟩])) = true := by decide

theorem test_registerAccess_deaf : { up with clk := { up.clk with safe := true } }.deaf = true ∧
    after (.rcRegisterRead mg 0x1F0000EE0004 4 []) { up with clk := { up.clk with safe := true } } (fun t => t.outs == [.rsp mg .inReset []] &&
      after (.registerWrite mg 0x1F0000EE0004 (toBytes 4 5) []) t (fun u => u.outs.length == 2)) = true := by decide

def fck1 : State := (up.wf (fieldPage 37) R.FCK_CTRL_MULT_NEXT 30).wf (fieldPage 37) R.FCK_CTRL_CK_EN_NEXT 1

theorem test_fckApply : (fck1.Allows mg (fieldPage 37 + R.FCK_APPLY) true ∧ natBit (1 : Word).toNat 0 = true ∧
    fck1.flag (fieldPage 37) R.FCK_STAT_SWITCHING = false ∧ (fck1.staged_ 37).legal fck1.fabLimit = true) ∧
    after (.fckApply mg 37 1) fck1 (fun t => t.outs.head? == some (.rsp mg .ok []) && (t.frt 37).pend == some (fck1.staged_ 37) &&
      t.flag (fieldPage 37) R.FCK_STAT_SWITCHING && t.rf (fieldPage 37) R.FCK_STAT_CK_ON == 0 &&
      regsBut (fun k => k == fieldPage 37 + 8 || notice k) fck1 t) = true := by decide

theorem test_fckApply_refused : (up.Allows mg (fieldPage 5 + R.FCK_APPLY) true ∧ natBit (1 : Word).toNat 0 = true ∧
    ((fck1.wf (fieldPage 37) R.FCK_CTRL_MULT_NEXT 41).staged_ 37).legal up.fabLimit = false) ∧
    after (.fckApply mg 37 1) (fck1.wf (fieldPage 37) R.FCK_CTRL_MULT_NEXT 41) (fun t => t.flag (fieldPage 37) R.FCK_STAT_REFUSED &&
      t.outs == [.rsp mg .ok []] && (t.frt 37).pend == none) = true := by decide

theorem test_fieldClockRestart : (((runF up 37).setFrt 37 { configured := true, pend := some ⟨30, [10, 4, 4, 4], 1⟩ }).frt 37).pend =
      some ⟨30, [10, 4, 4, 4], 1⟩ ∧
    after (.fieldClockRestart 37) ((runF up 37).setFrt 37 { configured := true, pend := some ⟨30, [10, 4, 4, 4], 1⟩ }) (fun t =>
      (t.frt 37).pend == none && t.rf (fieldPage 37) R.FCK_STAT_CK_ON == 1 && !t.flag (fieldPage 37) R.FCK_STAT_SWITCHING &&
      t.flag (fieldPage 37) R.FCK_STAT_LOCKED && t.rf (fieldPage 37) R.FCK_CTRL_MULT == 30 && t.rf (fieldPage 37) R.FCK_DIV_DIV == 10) = true := by
  decide

/-- Fields 9 and 10 running, with a 16-bit channel 3 on the east edge of field 9. -/
def st0 : State :=
  let s := ((runF (runF up 9) 10).wf (fieldPage 9) R.FCK_STAT_CK_ON 1).wf (fieldPage 10) R.FCK_STAT_CK_ON 1
  { s with fab := { s.fab with design := [(9, { stileW := [(3 * 256 + 3, 16)] })] } }
def st1 : State := st0.setChan 9 3 3 { credits := 3, transit := [0x1234] }
def st2 : State := st0.setChan 9 3 3 { credits := 3, buf := [0x1234] }

theorem test_stileSend : (st0.crossOpen 9 3 = true ∧ st0.fieldHalted 9 = false ∧ (st0.frt 9).we = true ∧ 3 < stileChans 9 3 ∧
    0 < st0.stileWidth 9 3 3 ∧ st0.stileTxRuns 9 3 3 = true ∧ 0 < (st0.chan 9 3 3).credits) ∧
    after (.stileSend 9 3 3 0xA1234) st0 (fun t => t.chan 9 3 3 == { credits := 3, transit := [0x1234] } && t.regs == st0.regs) = true := by decide

theorem test_stileSend_none : ((st0.setChan 9 3 3 { credits := 0 }).chan 9 3 3).credits = 0 := by decide

theorem test_stileSend_stopped : (st0.wf (fieldPage 9) R.FCK_STAT_CK_ON 0).stileTxRuns 9 3 3 = false := by decide

theorem test_stileWordArrive : (st1.chan 9 3 3).transit = [0x1234] ∧
    after (.stileWordArrive 9 3 3 .clean) st1 (fun t => t.chan 9 3 3 == { credits := 3, buf := [0x1234] }) = true := by decide

/-- Channel 0 of the south edge of field 0 crosses dies over Kelk-W groups. -/
def st3 : State := (runF (runF up 0) 64).setChan 0 0 0 { credits := 3, transit := [7] }

theorem test_stileWordArrive_ce : ((groupServes 1536).2.2 = (0, 0) ∧ (st3.chan 0 0 0).transit = [7]) ∧
    after (.stileWordArrive 0 0 0 (.ce 1536)) st3 (fun t => (t.chan 0 0 0).buf == [7] && t.rf (kelkBlk + 4 * 1536) R.KELK_W_ERR == 1) = true := by decide

theorem test_stileWordArrive_ue : ((groupServes 1536).2.2 = (0, 0) ∧ (stilePeer 0 0).isSome = true) ∧
    after (.stileWordArrive 0 0 0 (.ue 1536)) st3 (fun t => t.crossLost 0 0 && t.flag (kelkBlk + 4 * 1536) R.KELK_W_UE_EVT && t.grpState 1536 == 1) = true := by decide

theorem test_stileConsume : (stilePeer 9 3 = some (10, 2, 256, 64) ∧ st2.fieldInReset 10 = false ∧ st2.fieldHalted 10 = false ∧ st2.stileRxRuns 10 2 3 = true ∧
    (st2.chan 9 3 3).buf = [0x1234]) ∧
    after (.stileConsume 9 3 3) st2 (fun t => t.outs == [.stileWord 9 3 3 0x1234] && t.chan 9 3 3 == { credits := 3, ret := 1 }) = true := by decide

theorem test_stileCreditReturn : ((st0.setChan 9 3 3 { credits := 3, ret := 1 }).crossOpen 9 3 = true ∧
    0 < ((st0.setChan 9 3 3 { credits := 3, ret := 1 }).chan 9 3 3).ret) ∧
    after (.stileCreditReturn 9 3 3) (st0.setChan 9 3 3 { credits := 3, ret := 1 }) (fun t => t.chan 9 3 3 == {}) = true := by decide

theorem test_levelStileChange : (st0.crossOpen 9 3 = true ∧ st0.fieldHalted 9 = false ∧ 63 < stileLevels 9 3) ∧
    after (.levelStileChange 9 3 63 true) st0 (fun t => t.outs == [.stileLevel 9 3 63 true]) = true := by decide

/-- A true dual-port BM of 64-bit ports with ECC, in field 2, and a queue BM of 32-bit ports. -/
def bp (w : Fin 7) (m : Fin 3) : BmPort := ⟨w, 0, ⟨0, false⟩, false, m⟩
def bmG : BmCfg := ⟨true, false, bp 6 0, bp 5 0, 0, 0⟩
def bmQ : BmCfg := ⟨false, true, bp 5 0, bp 5 0, 2047, 1⟩
def bm0 : State :=
  let s := (runF up 2).wf (fieldPage 2) R.FCK_DIV_DIV 10
  { s with fab := { s.fab with design := [(2, { bms := [(4, bmG), (5, bmQ)] })] } }
def bm1 : State := bm0.bmPut 2 4 10 (codeWord 0x1122334455667788 (check8 0x1122334455667788))

theorem test_bmPortRead : (bm1.bmLive 2 4 = some bmG ∧ bmG.queue = false ∧ (bmPortOf bmG false).dir.val ≠ 2 ∧ (bmPortOf bmG false).oreg = false ∧
    (bm1.bmSt 2 4).other false 10 .apart = none ∧ bm1.inRow 2 bmG (bmPortOf bmG false)) ∧
    after (.bmPortRead 2 4 false 640 true false false .apart) bm1 (fun t =>
      t.outs == [.bmDout 2 4 false 0x1122334455667788 false] && t.mem.bm == bm1.mem.bm && t.regs == bm1.regs) = true := by decide

theorem test_bmPortRead_ce : after (.bmPortRead 2 4 true 672 true false false .apart) (bm1.bmPut 2 4 10
      (codeWord 0x1122334455667789 (check8 0x1122334455667788))) (fun t =>
      t.outs == [.bmDout 2 4 true 0x11223344 false] && t.rd (fieldPage 2 + R.BM_CE_CNT) == 1 &&
      regsBut (fun k => (bmErrRegs 2).contains k || notice k) bm1 t) = true := by decide

theorem test_bmPortRead_within : ((bm1.setBmSt 2 4 { last := some ⟨true, false, 10, codeWord 7 0, 7, 0⟩ }).bmSt 2 4).other false 10 .within =
    some ⟨true, false, 10, codeWord 7 0, 7, 0⟩ := by decide

/-- At the same edge as the other port's write the old word is presented, with its own check. -/
theorem test_bmPortRead_same : after (.bmPortRead 2 4 false 640 true false false .same)
    (bm1.setBmSt 2 4 { last := some ⟨true, false, 10, codeWord 7 (check8 7), 7, 0⟩ }) (fun t => t.outs == [.bmDout 2 4 false 7 false]) = true := by
  decide

theorem test_bmPortWrite : (bm1.bmLive 2 4 = some bmG ∧ bmG.queue = false ∧ (bmPortOf bmG true).dir.val ≠ 1 ∧ (bm1.frt 2).we = true ∧
    bm1.flag (fieldPage 2) R.BM_FLIP_CTRL_ARM = false) ∧
    after (.bmPortWrite 2 4 true 672 0xAABBCCDD 0xF true false false .apart) bm1 (fun t =>
      t.bmWord 2 4 10 == codeWord 0xAABBCCDD55667788 (check8 0xAABBCCDD55667788) && t.mem.bm.length == 1 && t.regs == bm1.regs) = true := by decide

theorem test_bmPortRead_rmw : (bm1.setBmSt 2 4 { narrowA := true }).bmLive 2 4 = some bmG ∧
    ((bm1.setBmSt 2 4 { narrowA := true }).bmSt 2 4).narrow false = true ∧
    after (.bmPortRead 2 4 false 640 true false true .apart) (bm1.setBmSt 2 4 { narrowA := true }) (fun t =>
      t.flag (fieldPage 2) R.BM_STAT_RMW_COLL && t.rf (fieldPage 2) R.BM_EVT_IDX_COLL_BM == 4 && t.outs == []) = true := by decide

def bq1 : State := bm0.setBmSt 2 5 { head := 3, count := 1, wcount := 1, rcount := 1 }

theorem test_bmQueuePush : (bq1.bmLive 2 5 = some bmQ ∧ bmQ.queue = true ∧ (bq1.bmSt 2 5).held = false ∧ (bq1.frt 2).we = true ∧
    (bq1.bmSt 2 5).wcount < qCap bmQ) ∧
    after (.bmQueuePush 2 5 0xCAFE) bq1 (fun t => (t.bmSt 2 5).count == 2 && (t.bmSt 2 5).wcount == 2 && t.bmWord 2 5 2 == codeWord 0xCAFE 0) = true := by
  decide

theorem test_bmQueuePush_full : qCap bmQ ≤ ((bm0.setBmSt 2 5 { count := 2048, wcount := 2048 }).bmSt 2 5).wcount ∧
    after (.bmQueuePush 2 5 1) (bm0.setBmSt 2 5 { count := 2048, wcount := 2048 }) (fun t => t.flag (fieldPage 2) R.BM_STAT_QOVF &&
      t.rf (fieldPage 2) R.BM_EVT_IDX_QERR_BM == 5) = true := by decide

def bq2 : State := bq1.bmPut 2 5 1 (codeWord (0xCAFE * 2 ^ 32) 0)

theorem test_bmQueuePop : (bq2.bmLive 2 5 = some bmQ ∧ (bq2.bmSt 2 5).held = false ∧ 0 < (bq2.bmSt 2 5).rcount ∧ bmQ.pb.oreg = false ∧
    bq2.inRow 2 bmQ bmQ.pb) ∧
    after (.bmQueuePop 2 5 true false) bq2 (fun t => t.outs == [.bmDout 2 5 true 0xCAFE false] && (t.bmSt 2 5).head == 4 &&
      (t.bmSt 2 5).count == 0) = true := by decide

theorem test_bmQueuePop_empty : (bm0.bmSt 2 5).rcount = 0 ∧
    after (.bmQueuePop 2 5 true false) bm0 (fun t => t.flag (fieldPage 2) R.BM_STAT_QUNF && t.mem == bm0.mem) = true := by decide

theorem test_queueFlagUpdate : after (.queueFlagUpdate 2 5 false) (bm0.setBmSt 2 5 { count := 7 }) (fun t => (t.bmSt 2 5).rcount == 7) = true := by decide

theorem test_qrst : after (.qrst 2 5 true 0 0) bq1 (fun t => (t.bmSt 2 5).empty && (t.bmSt 2 5).count == 0 && (t.bmSt 2 5).holdA == 3) = true ∧
    after (.qrst 2 5 false 2 3) (bm0.setBmSt 2 5 { holdA := 3, holdB := 3 }) (fun t => (t.bmSt 2 5).holdA == 1 && (t.bmSt 2 5).holdB == 0) = true := by
  decide

theorem test_bmPatrolRead : (bm1.wf (fieldPage 2) R.BM_PATROL_PERIOD 1).rf (fieldPage 2) R.BM_PATROL_PERIOD ≠ 0 ∧ bm1.eccBms 2 = [4] ∧
    after (.bmPatrolRead 2) (bm1.wf (fieldPage 2) R.BM_PATROL_PERIOD 1) (fun t => tabGet (fun _ => 0) t.mem.patrol 2 == 1 &&
      t.mem.bm == bm1.mem.bm) = true := by decide

def bm2 : State := bm1.bmPut 2 4 10 (codeWord 0x1122334455667789 (check8 0x1122334455667788))

theorem test_bmRewrite : (bm2.Allows mg (fieldPage 2 + R.BM_REWRITE) true ∧ natBit (0x8000100A : Word).toNat 31 = true ∧
    bm2.bmCfg 2 (natBits (0x8000100A : Word).toNat 16 10) = some bmG ∧ bmG.ecc = true) ∧
    after (.bmRewrite mg 2 0x8000100A) bm2 (fun t => t.mem.bm == bm1.mem.bm && t.outs.head? == some (.rsp mg .ok [])) = true := by decide

theorem test_bmFlipArm : up.Allows mg (fieldPage 2 + R.BM_FLIP_CTRL) true ∧
    after (.bmFlipArm mg 2 0xFFFFFFFF) up (fun t => t.rd (fieldPage 2 + R.BM_FLIP_CTRL) == 0x8000007F &&
      regsBut (· == fieldPage 2 + R.BM_FLIP_CTRL) up t) = true := by decide

theorem test_bmRemapWrite : up.Allows mg (fieldPage 2 + R.BM_REMAP + 4 * 17) true ∧ natBit (up.bmRemap 2 4 1) 31 = false ∧
    after (.bmRemapWrite mg 2 17 0x8000000A) up (fun t => t.rd (fieldPage 2 + R.BM_REMAP + 4 * 17) == 0xC000000A) = true := by decide

def bm3 : State := bm2.wr (fieldPage 2 + R.BM_REMAP + 4 * 17) 0xC000000A

theorem test_bmRemapWrite_refused : bm3.Allows mg (fieldPage 2 + R.BM_REMAP + 4 * 17) true ∧ natBit (bm3.bmRemap 2 4 1) 31 = true ∧
    after (.bmRemapWrite mg 2 17 0x8000000B) bm3 (fun t => t.flag (fieldPage 2) R.BM_STAT_REMAP_REFUSED &&
      t.rd (fieldPage 2 + R.BM_REMAP + 4 * 17) == 0xC000000A) = true := by decide

theorem test_bmRemapWrite_held : natBit (bm3.bmRemap 2 4 1) 31 = true ∧ natBits (bm3.bmRemap 2 4 1) 9 0 = natBits (10 : Word).toNat 9 0 ∧
    after (.bmRemapWrite mg 2 18 10) bm3 (fun t => t.flag (fieldPage 2) R.BM_STAT_REMAP_REFUSED &&
      t.rd (fieldPage 2 + R.BM_REMAP + 4 * 18) == 0) = true := by decide

theorem test_bmRemapCopyDone : natBit (bm3.bmRemap 2 4 1) 30 = true ∧ bm3.bmCfg 2 4 = some bmG ∧
    after (.bmRemapCopyDone 2 17) bm3 (fun t => t.rd (fieldPage 2 + R.BM_REMAP + 4 * 17) == 0x8000000A &&
      t.bmWord 2 4 10 == codeWord 0x1122334455667788 (check8 0x1122334455667788)) = true := by decide

theorem test_bmDebugAccess : ((isCommons mg || isDbg mg) = true ∧ bm1.dieDown 1 = false ∧ bm1.bmCfg 2 4 = some bmG ∧
    bm1.flag (fieldPage 2) R.BM_FLIP_CTRL_ARM = false) ∧
    after (.bmDebugAccess mg 2 4 10 (some true) (some 0xAABBCCDD)) bm1 (fun t =>
      t.bmWord 2 4 10 == codeWord 0xAABBCCDD55667788 (check8 0xAABBCCDD55667788) && t.outs == [.rsp mg .ok []]) = true ∧
    after (.bmDebugAccess mg 2 4 10 none none) bm1 (fun t => t.outs == [.rsp mg .ok [0x55667788, 0x11223344]]) = true := by decide

theorem test_bmDebugAccess_denied : (isCommons rv || isDbg rv) = false := by decide

theorem test_bmDebugForcedStall : up.flag (fieldPage 2) R.FCK_STAT_HALTED = false ∧
    after (.bmDebugForcedStall 2) up (fun t => t.rd (fieldPage 2 + R.BM_STEAL_CNT) == 1) = true := by decide

def gq0 : State := { (runF up 7).wf (fieldPage 7) R.FCK_STAT_CK_ON 1 with fab := { (runF up 7).fab with design := [(7, { granPort := true })] } }
def gq1 (b : GrReq) : State := gq0.setGrSt 1 (({} : GrSt).push 4 b)

theorem test_granaryRequest : ((gq0.designOf 7).granPort = true ∧ (gq0.frt 7).we = true ∧ gq0.fieldInReset 7 = false ∧ gq0.grFenced 7 = false ∧
    gq0.ckRuns 7 (gq0.designOf 7).granCk.val = true ∧
    natBits (0x20000004 : Word).toNat 31 30 < 2 ∧ natBits (0x20000004 : Word).toNat 16 0 % 4 + natBits (0x20000004 : Word).toNat 29 28 ≤ 3) ∧
    after (.granaryRequest 7 0x20000004 []) gq0 (fun t => (t.grSt 1).q == [[], [], [], [], [⟨false, 4, 3, 0, [], {}, false⟩], []] &&
      (t.grSt 1).reads == [0, 0, 0, 1]) = true := by decide

theorem test_granaryBank_write : (((gq1 ⟨true, 9, 1, 0, [(5, 0xFFFF)], {}, false⟩).grSt 1).winner 2 = some 4) ∧
    after (.granaryBankAccess 1 2) (gq1 ⟨true, 9, 1, 0, [(5, 0xFFFF)], {}, false⟩) (fun t => t.grQuarter 1 9 == codeQuarter 5 (check9 5) &&
      (t.grSt 1).q == [[], [], [], [], [], []] && t.grQuarter 1 8 == 0) = true := by decide

theorem test_granaryBank_read : after (.granaryBankAccess 1 2) ((gq1 ⟨false, 9, 1, 6, [], {}, false⟩).grPut 1 9 (codeQuarter 5 (check9 5 ^^^ 4)))
    (fun t => (t.grSt 1).beats == [[], [], [], [⟨5, 6, true, false⟩]] && t.rd (granBlk 1 + R.GR_CE_CNT) == 1 &&
      after (.granaryReadBeat 7) t (fun u => u.outs.head? == some (.grBeat 7 5 6 true false) && (u.grSt 1).beats == [[], [], [], []])) = true := by
  decide

theorem test_grPatrolRead : up.rf (granBlk 3) R.GR_PATROL_PERIOD ≠ 0 ∧ after (.grPatrolRead 3) (up.setGrSt 3 { patrol := 131071 }) (fun t =>
    (t.grSt 3).patrol == 0 && t.flag (granBlk 3) R.GR_STAT_PATROL_DONE) = true := by decide

theorem test_patrolLate : after (.patrolLate (.granary 3)) up (fun t => t.flag (granBlk 3) R.GR_STAT_PATROL_LATE) = true ∧
    after (.patrolLate (.field 3)) up (fun t => t.flag (fieldPage 3) R.BM_STAT_PATROL_LATE) = true := by decide

theorem test_grRewrite : (up.Allows mg (granBlk 3 + R.GR_REWRITE) true ∧ up.flag (granBlk 3) R.GR_FLIP_CTRL_ARM = false) ∧
    after (.grRewrite mg 3 0x80000010) (up.grPut 3 16 (codeQuarter 7 (check9 6))) (fun t => t.grQuarter 3 16 == codeQuarter 6 (check9 6)) = true := by
  decide

theorem test_grFlipArm : up.Allows mg (granBlk 3 + R.GR_FLIP_CTRL) true ∧
    after (.grFlipArm mg 3 0x80000000) up (fun t => t.flag (granBlk 3) R.GR_FLIP_CTRL_ARM) = true := by decide

theorem test_grRemap : (up.Allows mg (granBlk 3 + R.GR_REMAP + 4 * 15) true ∧ natBit (up.grRemap 3 15) 31 = false) ∧
    after (.grRemapWrite mg 3 15 0x80000005) (up.grPut 3 21 (codeQuarter 7 (check9 7))) (fun t => t.grRemap 3 15 == 0xC0000005 &&
      after (.grRemapWrite mg 3 15 0x80000006) t (fun u => u.flag (granBlk 3) R.GR_STAT_REMAP_REFUSED && u.grRemap 3 15 == 0xC0000005) &&
      after (.grRemapCopyDone 3 15) t (fun u => u.grRemap 3 15 == 0x80000005 && u.mem.grSpare == [((3 * 16 + 15) * 4 + 1, codeQuarter 7 (check9 7))] &&
        u.grQuarter 3 21 == codeQuarter 7 (check9 7))) = true := by decide

/-- A debug read of quarter 9 that has waited 64 busy cycles of bank 2, with port 1 requesting too. -/
def gd1 : State := up.setGrSt 1 (((({} : GrSt).push 5 ⟨false, 9, 1, 0, [], {}, false⟩).push 1 ⟨false, 9, 1, 0, [], {}, false⟩) |> fun x =>
  { x with busy := x.busy.set 2 64 })

theorem test_grDebugSteal : ((gd1.grSt 1).steals 2 = true ∧ (gd1.grSt 1).q.getD 5 [] = [⟨false, 9, 1, 0, [], {}, false⟩]) ∧
    after (.grDebugSteal 1 2) gd1 (fun t => t.rd (granBlk 1 + R.GR_STEAL_CNT) == 1 && (t.grSt 1).q.getD 5 [] == [] &&
      (t.grSt 1).q.getD 1 [] == [⟨false, 9, 1, 0, [], {}, false⟩]) = true ∧ (gq0.grSt 1).steals 2 = false := by decide

theorem test_code : natBit 5 2 = true ∧ check8 5 = 0x07 ^^^ 0x0D ∧ cols8.getD 7 0 = 0x19 := by decide +kernel

def fl17 : Flit := { addr := 0x120140000100, mid := 0x105, sid := 1, cls := 1, op := 1, tag := 7, dst := 200, src := 3, len := 7, data := 5 }
theorem test_flit_ce : (flitCheck (fl17.encode.toNat ^^^ 2 ^ 60)).map (fun x => (x.1 == fl17, x.2)) = some (true, true, false) := by decide +kernel
theorem test_ecc_ue : (eccRead cols8 8 (5 ^^^ 2 ^ 3 ^^^ 2 ^ 9) (check8 5)).ue = true := by decide +kernel

/-- Field 5, owned by management, with a ring port. -/
def rg0 : State := let s := runF up 5; { s with fab := { s.fab with design := [(5, { ringPort := true })] } }
def rgq : RingReq := ⟨mg, 1, 1, 7, 0x11, 0x120140000100, []⟩

theorem test_ringRequestInject : (badForm rgq = false ∧ rg0.sourceDst rgq = some (fieldStopNo 5) ∧ midStop 1 (fieldStopNo 5) = some (stopNo 0 0 2) ∧
    rg0.hasCredit (stopNo 0 0 2) (nextHop (stopNo 0 0 2) (fieldStopNo 5)) 1 = true ∧ rg0.stopInReset (stopNo 0 0 2) = false) ∧
    (rg0.reqFlits rgq 2 (fieldStopNo 5)).length = 1 ∧ rg0.ring.wait = [] ∧
    rg0.slotFree (linkOf 2 (nextHop 2 (fieldStopNo 5)) (laneOf 2 (fieldStopNo 5))) false = true ∧
    after (.ringRequestInject rgq) rg0 (fun t => t.ring.flight.length == 1 && t.ring.wait == [] && (t.stopSt (stopNo 0 0 2)).out.length == 1) = true := by
  decide +kernel

theorem test_ringRequest_refused : badForm { rgq with op := 5 } = true ∧ rg0.sourceDst { rgq with addr := 0x120200000000 } = none ∧
    badForm { rgq with addr := 0x120200000000 } = false ∧
    after (.ringRequestInject { rgq with op := 5 }) rg0 (fun t => t.outs == [.rsp mg .fault []] &&
      t.rd (regbusBlk 1 64 + R.REGBUS_FAULT_CNT) == 1) = true := by decide +kernel

def rg1 : State := { rg0 with now := 10 ^ 9 }.setStop 2 { out := [⟨1, 127, 0x11, 1, 1, 0x120140000100, 7, 0, []⟩], used := [(21, 1)] }
theorem test_ringResponseTimeout : (midStops 1 = [2] ∧ 2 ≠ jgStop ∧ stopRegs 2 = some (spineBlk 2) ∧ 0 + rg1.rspTmo 2 ≤ rg1.now) ∧
    after (.ringResponseTimeout 1 0x11) rg1 (fun t => (t.stopSt 2).out == [] && t.flag (spineBlk 2) R.RING_STAT_TMO &&
      t.outs == [.ringDone 2 1 0x11 5 []]) = true := by decide +kernel

theorem test_ringResponseTimeout_early : (rg1.setStop 2 { out := [⟨1, 127, 0x11, 1, 1, 0x120140000100, 7, 10 ^ 9, []⟩] }).now < 10 ^ 9 + rg1.rspTmo 2 := by
  decide +kernel

theorem test_ringCreditReturn : rg1.creditsHeld 2 5 1 < assocGet 0 (rg1.stopSt 2).used (5 * 4 + 1) ∧ rg1.ring.wait = [] ∧
    after (.ringCreditReturn 2 5 1) rg1 (fun t => assocGet 0 (t.stopSt 2).used 21 == 0 &&
      after (.ringCreditReturn 2 5 1) t (fun u => u == t)) = true := by decide +kernel

/-- A flit that has waited at stop 2 since time 0. -/
def rg2 : State := { rg1 with ring := { rg1.ring with wait := [⟨2, 0, 17, false, 0, 0, ({ cls := 1, op := 1, dst := 3, src := 2 } : Flit).encode⟩] } }
theorem test_ringInjectHold : (rg2.holdDue 2 = true ∧ rg1.holdDue 2 = false) ∧
    after (.ringInjectHold 2) rg2 (fun t => (t.stopSt 2).hold && (t.stopSt 2).used == [(21, 1)]) = true := by decide +kernel

def bl0 : State := rg0.wr (spineBlk 2 + R.RING_BELL_CTRL) 0x80000002
def blq : RingReq := ⟨mg, 3, 0, 3, 0x12, 0x120140000100, [0xABCD]⟩
theorem test_bell : (badForm blq = false ∧ bl0.sourceDst blq = some (fieldStopNo 5) ∧ midStop 1 (fieldStopNo 5) = some 2 ∧
    bl0.bellAllows 2 (bl0.ringDie 0x120140000100) = true ∧ rg0.bellAllows 2 (rg0.ringDie 0x120140000100) = false) ∧
    after (.bellRequest blq) bl0 (fun t => (t.stopSt 2).bellInj.length == 1 && after (.bellAdmit 2) t (fun u =>
      (u.stopSt 2).bellInj == [] && (u.stopSt 2).bellWait && u.ring.flight.length == 1)) = true ∧
    after (.bellRequest blq) rg0 (fun t => t.outs == [.rsp mg .denied []] && t.flag (spineBlk 2) R.RING_STAT_BELL_DENY) = true := by
  decide +kernel

theorem test_bellCtrl : (stopRegs 2 = some (spineBlk 2) ∧ bl0.Allows rv (spineBlk 2 + R.RING_BELL_CTRL) true) ∧
    after (.ringBellCtrlWrite rv 2 0xFFFFFFFF) bl0 (fun t => t.rd (spineBlk 2 + R.RING_BELL_CTRL) == 0x8000021F) = true ∧
    after (.ringBellCtrlWrite rv 2 0) (bl0.setStop 2 { bellInj := [{}] }) (fun t => (t.stopSt 2).bellInj == [] &&
      t.rd (spineBlk 2 + R.RING_BELL_DENY_CNT) == 1) = true := by decide +kernel

theorem test_fieldInitiate : (rg0.fieldPort 5 = true ∧ (rg0.frt 5).we = true ∧ rg0.fieldInReset 5 = false) ∧
    after (.fieldRingInitiate 5 (BitVec.ofNat 68 (2 ^ 64 + 2 ^ 62 + 7 * 2 ^ 56 + 3 * 2 ^ 48 + 0x100000000040)) []) rg0 (fun t =>
      (t.stopSt (fieldStopNo 5)).out == [⟨0x105, 0x7F, 3, 1, 1, 0x100000000040, 7, 0, []⟩]) = true := by decide +kernel

theorem test_fieldRespond : after (.fieldRingTargetResponse 5 0x11 0 [7]) (rg0.setStop (fieldStopNo 5) { inq := [{ op := 1, tag := 0x11, cls := 1 }] })
    (fun t => (t.stopSt (fieldStopNo 5)).inq == [] && t.ring.flight.length == 1) = true := by decide +kernel

def fl19 (d : Nat) : Flit := { addr := 0x100000000040, mid := 1, sid := 0x7F, cls := 1, op := 1, tag := 7, dst := d, src := 2, len := 15 }
/-- A flit placed at a stop on its way. -/
def onWay (c : Nat) (f : Flit) : State := { up with ring := { up.ring with flight := [⟨c, 0, 0, false, 0, 0, f.encode⟩] } }

theorem test_arrive_junction : (flitCheck (fl19 (granStopNo 0)).encode.toNat = some (fl19 (granStopNo 0), false, false) ∧
    nextHop 2 (granStopNo 0) = stopNo 0 0 0 ∧ isBridge (stopNo 0 0 0) = false ∧
    (onWay 2 (fl19 (granStopNo 0))).junctionCode 2 (granStopNo 0) (fl19 (granStopNo 0)) = 0) ∧
    after (.ringFlitArrive 0 0 none 0) (onWay 2 (fl19 (granStopNo 0))) (fun t => t.ring.flight.map (·.cur) == [0] &&
      after (.ringFlitArrive 0 0 none 0) t (fun u => (u.grSt 0).q.getD 5 [] == [⟨false, 4, 1, 7, [], fl19 (granStopNo 0), false⟩] &&
        u.ring.flight == [] && u.outs == [])) = true := by decide +kernel

theorem test_arrive_denied : (onWay 0 { fl19 (granStopNo 0) with sid := 5 }).ownerPasses 5 0x100000000040 = false ∧
    after (.ringFlitArrive 0 0 none 0) (onWay 0 { fl19 (granStopNo 0) with sid := 5 }) (fun t => t.ring.flight.length == 1 &&
      t.flag (stopBlk 0 0 16) R.RING_STAT_DENY) = true := by decide +kernel

theorem test_arrive_bridge : (nextHop 0 (stopNo 5 0 3) = stopNo 1 0 17 ∧ isBridge (stopNo 1 0 17) = true) ∧
    after (.ringFlitArrive 0 1 none 0) (onWay 0 { fl19 (stopNo 5 0 3) with rsp := true }) (fun t =>
      t.ring.flight.map (fun x => (x.cur, x.raw)) == [(stopNo 1 0 17, ({ fl19 (stopNo 5 0 3) with rsp := true } : Flit).encode ^^^ 1)]) = true := by decide +kernel

theorem test_arrive_drop : flitCheck (((fl19 (granStopNo 0)).encode ^^^ BitVec.ofNat 656 (2 ^ 60 + 2 ^ 65)).toNat) = none ∧
    after (.ringFlitArrive 0 (BitVec.ofNat 656 (2 ^ 60 + 2 ^ 65)) none 0) (onWay 2 (fl19 (granStopNo 0))) (fun t => t.ring.flight == [] &&
      t.flag (spineBlk 0) R.RING_STAT_HDR_DROP && t.rd (spineBlk 0 + R.RING_HDR_DROP_CNT) == 1) = true := by decide +kernel

theorem test_arrive_response : after (.ringFlitArrive 0 0 none 0) ((onWay 0 { fl19 (fieldStopNo 5) with rsp := true, mid := 0x105, op := 8, data := 9 }).setFrt 5
      { configured := true, gsr := false } |>.setStop (fieldStopNo 5) { out := [⟨0x105, 0x7F, 7, 1, 1, 0x100000000040, 7, 0, []⟩] }) (fun t =>
    (t.stopSt (fieldStopNo 5)).out == [] && t.outs == [.ringDone (fieldStopNo 5) 0x105 7 0 [9]]) = true := by decide +kernel

/-- Lane 37 in a state, with EN in mode LLP. -/
def ln (st : Nat) : State := (up.wr (laneBlk 37 + R.LANE_CTRL) 0x80000000).wf (laneBlk 37) R.LANE_STAT_STATE st

theorem test_qpll : (up.Allows mg (quadBlk 9 + R.QPLL_CTRL) true ∧ up.pllBusy 9 false = false ∧ up.pllBusy 9 true = false) ∧
    after (.qpllCtrlWrite mg 9 0x80A0_8140) up (fun t => t.rd (quadBlk 9 + R.QPLL_CTRL) == 0x80A0_8140 &&
      after (.qpllLock 9 true) t (fun u => u.pllLocked 9 true)) = true ∧
    after (.qpllCtrlWrite mg 9 0x80A0_809F) up (fun t => t.flag (quadBlk 9) R.QPLL_STAT_REFUSED && t.rd (quadBlk 9) == up.rd (quadBlk 9)) = true := by
  decide +kernel

theorem test_laneCtrl : (up.Allows mg (laneBlk 37 + R.LANE_CTRL) true ∧ up.fastLanes + 1 ≤ up.laneCap ∧ up.refFallback = false) ∧
    after (.laneCtrlWrite mg 37 0x80000000) up (fun t => t.laneState 37 == 1 && after (.laneCtrlWrite mg 37 0) t (fun u => u.laneState 37 == 0)) =
      true ∧
    after (.laneCtrlWrite mg 37 0x80000000) { up with clk := { up.clk with fb := true } } (fun t => t.laneState 37 == 7 &&
      t.rf (laneBlk 37) R.LANE_STAT_DOWN_CAUSE == 4) = true := by decide +kernel

/-- 512 lanes of four-tenths full rate stand at the limit: here a mode with 128 and the first 128 lanes fast. -/
def full : State := { up with mode := .fallow, regs := (List.range 128).map (fun l => (laneBlk l + R.LANE_STAT, 0x10000000)) }
theorem test_laneCtrl_refused : (full.laneState 200 = 0 ∧ full.fastCfg 200 0x80000000 = true ∧ full.laneCap ≤ full.fastLanes ∧
    full.Allows mg (laneBlk 200 + R.LANE_CTRL) true) ∧
    after (.laneCtrlWrite mg 200 0x80000000) full (fun t => t.flag (laneBlk 200) R.LANE_STAT_RATE_REFUSED &&
      t.rd (laneBlk 200 + R.LANE_CTRL) == full.rd (laneBlk 200 + R.LANE_CTRL)) = true := by decide +kernel

theorem test_laneSignal : after (.laneSignalDetect 37) (ln 1) (fun t => t.laneState 37 == 2 && t.flag (laneBlk 37) R.LANE_STAT_SIG_DET &&
      after (.laneSignalLoss 37) t (fun u => u.laneState 37 == 1 && !u.flag (laneBlk 37) R.LANE_STAT_SIG_DET)) = true := by decide +kernel

theorem test_laneCdr : ((ln 2).setF (quadBlk 9) R.QPLL_STAT_LOCK0).pllLocked (quadOf 37) ((ln 2).flag (laneBlk 37) R.LANE_CTRL_PLL) = true ∧
    after (.laneCdrLock 37) ((ln 2).setF (quadBlk 9) R.QPLL_STAT_LOCK0) (fun t => t.laneState 37 == 3 && t.flag (laneBlk 37) R.LANE_STAT_CDR_LOCK &&
      after (.laneLossOfLock 37) t (fun u => u.laneState 37 == 1 && u.flag (laneBlk 37) R.LANE_STAT_LOL)) = true := by decide +kernel

theorem test_laneAdapt : (ln 3).laneState 37 = 3 ∧ (ln 3).laneMode 37 = 0 ∧
    after (.laneAdaptDone 37 20 40 5 9) (ln 3) (fun t => t.laneState 37 == 4 && t.flag (laneBlk 37) R.LANE_STAT_ALIGN_REQ &&
      t.rd (laneBlk 37 + R.LANE_EYE) == 0x80140028 && t.rf (laneBlk 37) R.LANE_RXEQ_CTLE == 5) = true ∧
    after (.laneAdaptDone 37 15 40 5 9) (ln 3) (fun t => t.laneState 37 == 7 && t.rf (laneBlk 37) R.LANE_STAT_DOWN_CAUSE == 3 &&
      after (.laneDownRearm 37) t (fun u => u.laneState 37 == 1)) = true ∧
    after (.laneAdaptDone 37 16 25 5 9) ((ln 3).wf (laneBlk 37) R.LANE_CTRL_MODE 3) (fun t => t.laneState 37 == 8) = true := by decide +kernel

theorem test_laneCheck : (ln 5).linkState 37 = 0 ∧ after (.laneCheckDone 37) (ln 5) (fun t => t.laneState 37 == 6 && t.linkState 37 == 1 &&
    t.flag (laneBlk 37) R.LANE_STAT_UP_EVT) = true := by decide +kernel

theorem test_slip : ((ln 4).laneState 37 = 4 ∧ (ln 4).Allows mg (laneBlk 37 + R.LANE_CMD) true ∧ (ln 4).flag (laneBlk 37) R.LANE_ALIGN_SLIP_BUSY = false) ∧
    after (.slip 37 (.reg mg 0)) (ln 4) (fun t => t.flag (laneBlk 37) R.LANE_ALIGN_SLIP_BUSY && t.rf (laneBlk 37) R.LANE_ALIGN_SLIPS == 1 &&
      after (.winStart 37 (.reg mg 0)) t (fun u => (u.lane 37).winWait && after (.slipSettle 37) u (fun v => (v.lane 37).winOpen &&
        after (.laneRxSymbol 37 0x17C 0 ⟨false, false⟩) v (fun w => w.rf (laneBlk 37) R.LANE_ALIGN_COM_WIN + w.rf (laneBlk 37) R.LANE_ALIGN_ERR_WIN == 1) &&
        after (.alignWindowClose 37 3 0) v (fun w => w.flag (laneBlk 37) R.LANE_ALIGN_WIN_DONE && w.rf (laneBlk 37) R.LANE_ALIGN_COM_WIN == 3)))) =
      true := by decide +kernel

theorem test_align : after (.alignDone 37 (.reg mg 0)) (ln 4) (fun t => t.laneState 37 == 5) = true ∧
    after (.alignDone 37 (.reg mg 0)) ((ln 4).wf (laneBlk 37) R.LANE_CTRL_MODE 2) (fun t => t.laneState 37 == 6) = true ∧
    after (.alignFail 37 (.reg mg 0)) (ln 4) (fun t => t.laneState 37 == 7 && t.rf (laneBlk 37) R.LANE_STAT_DOWN_CAUSE == 1) = true ∧
    after (.slip 37 (.reg mg 0)) (ln 5) (fun t => t.flag (laneBlk 37) R.LANE_STAT_SLIP_IGNORED && t.laneState 37 == 5) = true := by decide +kernel

theorem test_rxSymbol : (dec10 0x3FF none).val = none ∧ (ln 6).laneState 37 = 6 ∧
    after (.laneRxSymbol 37 0x3FF 0 ⟨false, false⟩) (ln 6) (fun t => t.rd (laneBlk 37 + R.LANE_CV_CNT) == 1) = true ∧
    after (.laneRxSymbol 37 0x3FF 0 ⟨false, false⟩) (ln 5) (fun t => t.laneState 37 == 7 && t.rf (laneBlk 37) R.LANE_STAT_DOWN_CAUSE == 2) = true := by
  decide +kernel

theorem test_eq : up.Allows mg (laneBlk 37 + R.LANE_TXEQ) true ∧
    after (.laneTxeqWrite mg 37 0x1F0F05) up (fun t => t.rf (laneBlk 37) R.LANE_TXEQ_POST == 20 && t.rf (laneBlk 37) R.LANE_TXEQ_PRE == 10 &&
      t.rf (laneBlk 37) R.LANE_TXEQ_AMP == 5) = true ∧
    after (.laneEqTrack 37 true false 7) (ln 6) (fun t => t.rf (laneBlk 37) R.LANE_RXEQ_CTLE == 1 && t.rf (laneBlk 37) R.LANE_RXEQ_DFE1 == 7) = true ∧
    after (.laneEyeRefresh 37 33 44) (ln 6) (fun t => t.rd (laneBlk 37 + R.LANE_EYE) == 0x8021002C) = true := by decide +kernel

/-- Lane 37 UP in raw mode with eight symbols in its elastic buffer, bound to port 0. -/
def rawLn : State := (((ln 6).wf (laneBlk 37) R.LANE_CTRL_MODE 2).setF (lrBlk 37) R.LR_CTRL_PORT_EN).setLane 37
  { ({} : LaneRt) with eb := { q := ⟨0x234, 0⟩ :: List.replicate 7 ⟨0, 0⟩, run := true } }

theorem test_raw : after (.rawWordTx 37 (some 0x1234)) ((ln 6).wf (laneBlk 37) R.LANE_CTRL_MODE 2) (fun t => t.outs == [.laneTx 37 (.raw 0x1234) false]) =
      true ∧
    after (.rawWordTx 37 none) ((ln 6).wf (laneBlk 37) R.LANE_CTRL_MODE 1) (fun t => t.rd (laneBlk 37 + R.TX_FILL_CNT) == 8) = true ∧
    (rawLn.laneState 37 = 6 ∧ rawLn.laneMode 37 = 2 ∧ rawLn.lrOn 37 R.LR_CTRL_PORT_EN = true ∧ (rawLn.lane 37).eb.q.length = 8) ∧
    after (.rawWordRx 37 0x1234 8) rawLn (fun t => t.outs.take 2 ==
      [.dlpRx 0 1 3 [0] false, .dlpRx 0 0 3 [0x234] false] && (t.lane 37).eb.q.length == 8) = true := by decide +kernel

theorem test_prbs : after (.prbsCheck 37 [true, false, true]) (ln 8) (fun t => !t.flag (laneBlk 37) R.LANE_PRBS_CHK_LOCK &&
    (t.lane 37).prbs.seen == 3) = true := by decide +kernel

/-- Link 37 in a state. -/
def lk (st : Nat) : State := up.wf (linkBlk 37) R.LINK_STAT_STATE st
def lkx (st : Nat) (x : LinkSt) : State := (lk st).setLk 37 x
def frm : LFrame := ⟨3, none, 5, 0, [1, 2]⟩

theorem test_comWatchdog : (lk 2).linkState 37 = 2 ∧ after (.comWatchdog 37) (lkx 2 { rxNext := 7, replay := [frm], txNext := 6 }) (fun t =>
    t.linkState 37 == 1 && t.rf (linkBlk 37) R.LINK_STAT_CAUSE == 2 && (t.lk 37).replay == [] && t.rd (linkBlk 37 + R.TX_DISCARD_CNT) == 1) = true := by
  decide +kernel

def rstSet : BitVec 48 := BitVec.ofNat 48 (leBytes (linkSetBytes 0 false true 0 0 0))
theorem test_linkSet_rst : (crc8 (toBytes 5 rstSet.toNat) = rstSet.toNat / 2 ^ 40 ∧ natBit rstSet.toNat 13 = true) ∧
    after (.linkSetReceive 37 rstSet false false) (lk 2) (fun t => t.linkState 37 == 1 && t.rf (linkBlk 37) R.LINK_STAT_CAUSE == 4 &&
      t.flag (linkBlk 37) R.LINK_STAT_PEER_RST_EVT) = true := by decide +kernel

theorem test_linkRestart : up.Allows mg (linkBlk 37 + R.LINK_CFG) true ∧
    after (.linkRestart mg 37 0) (lk 2) (fun t => t.linkState 37 == 3 && t.rf (linkBlk 37) R.LINK_STAT_CAUSE == 5 &&
      t.rd (linkBlk 37 + R.LINK_CFG) == 0x00010400 && after (.resyncPeriodEnd 37) t (fun u => u.linkState 37 == 1)) = true ∧
    after (.resyncPeriodEnd 37) (lkx 3 { resyncs := [0, 0, 0, 0] }) (fun u => u.linkState 37 == 4) = true := by decide +kernel

theorem test_replayTimeout : after (.replayTimeout 37) (lkx 2 { replay := [frm] }) (fun t => t.rd (linkBlk 37 + R.REPLAY_CNT) == 1 &&
      (t.lk 37).runs == 1 && t.outs == [.laneTx 37 (.frame frm.encode none) false]) = true ∧
    after (.replayTimeout 37) (lkx 2 { replay := [frm], runs := 3 }) (fun t => t.linkState 37 == 3 && t.rf (linkBlk 37) R.LINK_STAT_CAUSE == 3) =
      true := by decide +kernel

theorem test_helloGrant : after (.helloGrant 37) (lkx 1 { hello := [(0xABC, 100, 4)], grant := some (0xABC, 100), granted := 100 }) (fun t =>
      t.linkState 37 == 2 && t.rf (linkBlk 37) R.LINK_HELLO_GRANTED == 100 && t.rf (linkBlk 37) R.LINK_HELLO2_KEPT == 1 &&
      (t.lk 37).waitq.map (·.ty) == [2]) = true := by decide +kernel

theorem test_time : after (.timeExchangeDue 37 12) ((lkx 2 { caps := 4 }).setF (linkBlk 37) R.LINK_CFG_TIME_EN) (fun t =>
      (t.lk 37).exch == some 2700 && (t.lk 37).tseq == 1 && after (.timeRspTimeout 37) t (fun u => (u.lk 37).exch == none &&
        u.flag (linkBlk 37) R.LINK_STAT_TIME_ERR)) = true := by decide +kernel

/-- A TIME RESPONSE of exchange 1 whose hold is 200. -/
def tset : BitVec 96 := BitVec.ofNat 96 (leBytes (timeSetBytes 1 1 200))
/-- An ACTIVE link with that exchange open, its TTC copy at 27 ns. -/
def timed : State := { ((lkx 2 { exch := some 1000, tseq := 1 }).wr (clkBlk + R.TTC_SYNC) 0x20) with ttc := 27 }
theorem test_timeSet : (crc8 (toBytes 11 tset.toNat) = tset.toNat / 2 ^ 88 ∧ tset.toNat % 4 = 1 ∧ natBits tset.toNat 15 8 = 1 ∧
    natBits tset.toNat 79 16 * 256 + natBits tset.toNat 87 80 = 200) ∧
    (256 * timed.ttcLink 37 + 168 = 1576 + timed.rxLat 37 ∧ 9768 = 256 * timed.ttcLink 37 + 168 + 0 + timed.txLat 37) ∧
    after (.timeSetReceive 37 tset false true 168 0) timed (fun t =>
      t.rd (linkBlk 37 + R.LINK_TIME_RTT) == 376 && t.outs == [.laneTx 37 (.timeSet (timeSetBytes 2 1 9956)) false]) = true := by decide +kernel

theorem test_ctrl : up.Allows mg (linkBlk 37 + R.LINK_CTRL_CMD) true ∧ after (.linkCtrlGo mg 37 0) (lk 2) (fun t =>
      t.flag (linkBlk 37) R.LINK_CTRL_STAT_BUSY && t.rf (linkBlk 37) R.LINK_CTRL_STAT_TAG == 1 && (t.lk 37).waitq.map (·.ty) == [5] &&
      after (.linkCtrlTimeout 37) t (fun u => u.rf (linkBlk 37) R.LINK_CTRL_CODE_CODE == 6 && !u.flag (linkBlk 37) R.LINK_CTRL_STAT_BUSY)) = true ∧
    after (.linkCtrlGo mg 37 0) (lk 1) (fun t => t.rf (linkBlk 37) R.LINK_CTRL_CODE_CODE == 7) = true := by decide +kernel

theorem test_owner : (up.Allows mg (linkBlk 37 + R.LINK_OWNER) true ∧ siteCodeOk ((9 : Word).toNat % 128) = true) ∧
    after (.linkOwnerWrite mg 37 0x80000009) up (fun t => t.linkOwner 37 == 9 && after (.linkFiTxWrite mg 37 0x90000002) t (fun u =>
      u.rd (linkBlk 37 + R.LINK_FI_TX) == 0x93000002 && after (.linkOwnerWrite mg 37 9) u (fun v => !v.flag (linkBlk 37) R.LINK_FI_TX_EN))) = true ∧
    up.Allows mg (linkBlk 37 + R.LINK_FI_RX) true ∧ after (.linkFiRxWrite mg 37 0x90000002) up (fun t => t.outs == [.rsp mg .denied []]) = true := by
  decide +kernel

theorem test_skpReceive : (lk 2).linkOpen 37 = true ∧ after (.skpReceive 37 true 4 ⟨true, false⟩) (lk 2) (fun t => t.regs == (lk 2).regs) = true ∧
    after (.skpReceive 37 true 3 ⟨true, false⟩) (lk 2) (fun t => (t.lk 37).spoilF && t.rd (linkBlk 37 + R.FRAME_ERR_CNT) == 1) = true ∧
    after (.frameAbortReceive 37) (lk 2) (fun t => t.rd (linkBlk 37 + R.ABORT_RX_CNT) == 1) = true ∧
    after (.straySymbolReceive 37 ⟨true, true⟩) (lk 2) (fun t => t.rd (linkBlk 37 + R.FRAME_ERR_CNT) == 1) = true := by decide +kernel

def ackSet : BitVec 48 := BitVec.ofNat 48 (leBytes (linkSetBytes 5 false false 32 32 4))
theorem test_linkSet_ack : (crc8 (toBytes 5 ackSet.toNat) = ackSet.toNat / 2 ^ 40 ∧ natBit ackSet.toNat 13 = false ∧ natBit ackSet.toNat 12 = false) ∧
    after (.linkSetReceive 37 ackSet false false) (lkx 2 { txNext := 7, replay := [frm, { frm with seq := 6 }], runs := 2 }) (fun t =>
      (t.lk 37).replay == [{ frm with seq := 6 }] && (t.lk 37).runs == 0 && (t.lk 37).limD == 32 && (t.lk 37).limC == 4) = true ∧
    after (.linkSetReceive 37 ackSet false true) (lkx 2 { spoilB := true }) (fun t => (t.lk 37).spoilF && !(t.lk 37).spoilB && (t.lk 37).limC == 0) =
      true := by decide +kernel

/-- A HELLO frame with SEQ 5. -/
def hel (q : Nat) : RxFrame := ⟨({ ty := 1, apply := none, seq := q, tspec := 0, payload := toBytes 8 0xABC ++ toBytes 2 100 ++ [1, 4, 0, 0, 0, 0] } : LFrame).encode, false⟩
theorem test_frameReceive : (classify (hel 5) = 0 ∧ (frameOf (hel 5).bytes).seq = 5 ∧ (lk 1).fiFrame 37 R.LINK_FI_RX 1 = false) ∧
    after (.normalFrameReceive 37 (hel 5)) (lkx 1 { rxNext := 5, naked := true }) (fun t => (t.lk 37).rxNext == 6 && !(t.lk 37).naked &&
      (t.lk 37).hello == [(0xABC, 100, 4)]) = true ∧
    classify ⟨[1, 2], false⟩ = 1 ∧ after (.normalFrameReceive 37 ⟨[1, 2], false⟩) (lk 1) (fun t => (t.lk 37).naked &&
      t.rd (linkBlk 37 + R.NAK_TX_CNT) == 1) = true := by decide +kernel

def bel (q : Nat) : RxFrame := ⟨bellBytes q [0x13, 2, 0, 0, 0], false⟩
theorem test_bellReceive : (bellBad (bel 4) = false ∧ reportOk 0x13 [2, 0, 0, 0] = true ∧ (lk 2).fiBell 37 R.LINK_FI_RX = false) ∧
    after (.bellCopyReceive 37 (bel 4) false false) ((lk 2).wf (linkBlk 37) R.LINK_OWNER_SITE 9) (fun t => (t.lk 37).mq == [[2, 0, 0, 0]] &&
      after (.bellCopyReceive 37 (bel 4) true false) t (fun u => u.rd (linkBlk 37 + R.BELL_DUP_CNT) == 1 && (u.lk 37).mq == [[2, 0, 0, 0]])) = true ∧
    after (.bellCopyReceive 37 ⟨[1], false⟩ false true) (lk 2) (fun t => (t.lk 37).spoilF && t.rd (linkBlk 37 + R.BELL_CRC_CNT) == 1 && (t.lk 37).bellBad) = true := by
  decide +kernel

theorem test_frameTransmit : (lkx 2 { waitq := [frm], limD := 32 }).mayStart 37 frm = true ∧ (lkx 2 { waitq := [frm], limD := 32 }).atRefused 37 frm = false ∧
    after (.normalFrameTransmit 37 3) (lkx 2 { waitq := [frm], limD := 32, txNext := 9 }) (fun t => (t.lk 37).replay == [{ frm with seq := 9 }] &&
      (t.lk 37).sentD == 1 && t.outs == [.laneTx 37 (.frame ({ frm with seq := 9 } : LFrame).encode none) false]) = true ∧
    after (.bellFrameTransmit 37) (lkx 2 { bellq := [[0x13, 2, 0, 0, 0]], bseq := 4, caps := 2 }) (fun t => t.outs.length == 2 && (t.lk 37).bseq == 5) = true ∧
    after (.skpTransmit 37) (lkx 2 { bellq := [[0x13, 2, 0, 0, 0]], caps := 2 }) (fun t => t.outs.length == 3) = true ∧
    (let a : LFrame := { frm with apply := some 7 }; (lkx 2 { waitq := [a] }).atRefused 37 a = true ∧
      after (.normalFrameTransmit 37 3) (lkx 2 { waitq := [a] }) (fun t => t.rd (lrBlk 37 + R.LR_AT_DROP_CNT) == 1)) ∧
    after (.reorderHoldExpire 37) (lkx 2 { heldTx := some frm }) (fun t => t.outs == [.laneTx 37 (.frame frm.encode none) false]) = true := by
  decide +kernel

theorem test_sets : after (.skpTransmit 37) (lk 1) (fun t => t.outs == [.laneTx 37 .skp false]) = true ∧
    after (.linkSetTransmit 37) (lkx 2 { rxNext := 6, rlD := 32 }) (fun t => t.outs == [.laneTx 37 (.linkSet (linkSetBytes 5 false false 32 0 0)) false]) = true ∧
    after (.linkSetTransmit 37) (lk 3) (fun t => t.outs == (lk 3).sent 37 [.linkSet (linkSetBytes 0 false true 0 0 0), .com]) = true ∧
    after (.nakRepeat 37) (lkx 2 { rxNext := 6, naked := true }) (fun t => t.rd (linkBlk 37 + R.NAK_TX_CNT) == 1) = true := by decide +kernel

theorem test_hold : after (.holdQueueRelease 37) ((lkx 2 { hold := [⟨{ frm with apply := some 0 }, true⟩] })) (fun t => (t.lk 37).hold == [] &&
    (t.lk 37).rel.length == 1) = true := by decide +kernel

/-- Link 37 ACTIVE for site 9 with 64 channels granted in granule 3 of FCU 2. -/
def fc0 (x : LinkSt) : State := ((lkx 2 { x with granted := 64 }).wf (linkBlk 37) R.LINK_OWNER_SITE 9).wr (granReg 2 3)
  (BitVec.ofNat 32 (9 + 2 ^ 7 + 5 * 2 ^ 8))
def fe (raw : Nat) : FEntry := ⟨raw, 77, true, true⟩

theorem test_failEntry : ((fc0 {}).chanRec 37 10 = some (32768 * 2 + 64 * 3 + 10) ∧ (fc0 {}).linkHeldBack 37 = false) ∧
    after (.failEntryApply 37 false false) (fc0 { failq := [fe (5 + (10 + 3 * 2 ^ 12) * 2 ^ 32)] }) (fun t =>
      natBits (t.recCells (32768 * 2 + 64 * 3 + 10)).1.toNat 31 0 == 3 && (t.lk 37).failq == [] && (t.lk 37).rlF == 1) = true ∧
    after (.failEntryApply 37 false false) (fc0 { failq := [fe 5] }) (fun t => t.rd (fcuBlk 2 + R.FCU_BAD_CNT) == 1) = true ∧
    after (.failEntryApply 37 true false) (fc0 { failq := [fe 5] }) (fun t => t.rd (fcuBlk 2 + R.FCU_ECC_DROP_CNT) == 1) = true := by decide +kernel

theorem test_recApply : (recApply (2 ^ 32 - 1) 0 5 2 9 false).1 % 2 ^ 32 = 1 ∧ natBits (recApply (2 ^ 32 - 1) 0 5 2 9 false).2.1 7 0 = 1 := by
  decide +kernel

def lg0 : State := (fc0 {}).setFcu 2 { logq := [⟨5, 1, 0⟩, ⟨6, 2, 0⟩, ⟨5, 3, 0⟩] }
theorem test_failLog : lg0.stopReady (lg0.fcuReq 37 3 (lg0.lrAddr 37 R.LR_LOG_BASE_LO) 16 []) = true ∧ after (.failLogWrite 37 0) lg0 (fun t => (t.fcu 2).fly == [⟨5, 2, true⟩] && (t.fcu 2).logq == [⟨6, 2, 0⟩] &&
      after (.failLogWriteDone 37 .ok) t (fun u => u.rd (lrBlk 37 + R.LR_LOG_WPTR) == 2 && (u.fcu 2).fly == []) &&
      after (.failLogWriteDone 37 .denied) t (fun u => u.flag (lrBlk 37) R.LR_STAT_LOG_ERR &&
        u.rd64 (fcuBlk 2 + R.FAIL_LOG_DROPPED_LO) == 2)) = true ∧
    after (.failLogWrite 37 15) lg0 (fun t => (t.fcu 2).fly == [] && t.rd (fcuBlk 2 + R.FCU_ECC_DROP_CNT) == 2) = true := by decide +kernel

theorem test_fabForward : after (.fcuFabForward 37 0) (((fc0 { fabq := [fe 1] }).setF (lrBlk 37) R.LR_CTRL_FAB_EN).setF (lrBlk 37) R.LR_CTRL_FAB_PATH)
    (fun t => (t.lk 37).fabq == []) = true ∧
    after (.fcuFabForward 37 15) (((fc0 { fabq := [fe 1] }).setF (lrBlk 37) R.LR_CTRL_FAB_EN).setF (lrBlk 37) R.LR_CTRL_FAB_PATH)
      (fun t => t.rd (fcuBlk 2 + R.FCU_ECC_DROP_CNT) == 1 && t.ring.wait.isEmpty) = true := by decide +kernel

theorem test_fcuClr : up.Allows mg (fcuBlk 2 + R.FCU_CLR) true ∧ after (.fcuClr mg 2 0x80030003) ((fc0 {}).setRec (65536 + 192) 5 6) (fun t =>
      t.flag (fcuBlk 2) R.FCU_STAT_CLR_BUSY && after (.fcuClrDone 2) t (fun u => u.recCells (65536 + 192) == (0, 0) &&
        u.flag (fcuBlk 2) R.FCU_STAT_CLR_DONE && !u.flag (fcuBlk 2) R.FCU_STAT_CLR_BUSY)) = true ∧
    after (.fcuClr mg 2 0x80020003) up (fun t => t.flag (fcuBlk 2) R.FCU_STAT_CLR_DONE) = true := by decide +kernel

theorem test_fcuGran : (up.Allows mg (granReg 2 3) true ∧ siteCodeOk ((9 : Word).toNat % 128) = true) ∧
    after (.fcuGranWrite mg 2 3 9) up (fun t => t.rf (granReg 2 3) ⟨0, 6, 0⟩ == 9) = true ∧
    after (.fcuGranWrite mg 2 3 8) (fc0 {}) (fun t => t.flag (fcuBlk 2) R.FCU_STAT_GRAN_REFUSED) = true := by decide +kernel

theorem test_record : ((fc0 {}).recGate (vf 9) 2 200 false = .ok ∧ (fc0 {}).recGate (vf 9) 2 200 true = .ok ∧ (fc0 {}).deaf = false) ∧
    after (.fcuRecordRead (vf 9) 2 200) ((fc0 {}).setRec (65536 + 200) 5 0) (fun t => t.outs == [.rsp (vf 9) .ok [5]]) = true ∧
    after (.fcuRecordWrite (vf 9) 2 200 0x3000) (fc0 {}) (fun t => natBits (t.recCells (65536 + 200)).1.toNat 36 35 == 3) = true := by decide +kernel

theorem test_lr : up.Allows mg (lrBlk 37 + R.LR_CTRL) true ∧ after (.lrCtrlWrite mg 37 0x7FFFFFFF) (fc0 { fabq := [fe 1] }) (fun t =>
      t.rd (lrBlk 37 + R.LR_CTRL) == 0x67FF000F && (t.lk 37).fabq == [] && t.rd (fcuBlk 2 + R.FCU_FAB_DROP_CNT) == 1) = true ∧
    up.Allows mg (lrBlk 37 + (lrLogReg 0 0).1) true ∧ after (.lrLogConfigWrite mg 37 0 0x00050014) (lg0.wr (lrBlk 37 + R.LR_LOG_RPTR) 9) (fun t =>
      t.rd (lrBlk 37 + R.LR_CFG) == 0x00050014 && t.rd (lrBlk 37 + R.LR_LOG_WPTR) == 9 && (t.fcu 2).logq == [⟨6, 2, 0⟩]) = true := by decide +kernel

/-- The group of site 9 with link 37 contributing. -/
def ty0 (x : LinkSt) : State := (((fc0 x).setF (lrBlk 37) R.LR_CTRL_TALLY_EN).setF (tallyBlk 9) R.TALLY_CTRL_EN)

theorem test_matchReport : ((ty0 { mq := [[6, 3, 0]] }).contributes 9 37 = true ∧ (ty0 {}).siteInReset 9 = false ∧
    (ty0 {}).flag (tallyBlk 9) R.TALLY_CTRL_EN = true) ∧
    after (.matchReportApply 37) (ty0 { mq := [[6, 3, 0]] }) (fun t => (t.tally 9).cur == 3 && (t.lk 37).mq == [] && (t.lk 37).tl.uni == some true &&
      (t.tally 9).res.length == 1) = true ∧
    after (.matchReportApply 37) (fc0 { mq := [[6, 3, 0]] }) (fun t => t.rd (tallyBlk 9 + R.TALLY_STALE_CNT) == 1) = true := by decide +kernel

theorem test_tallyTimeout : after (.tallyStepTimeout 9) ((ty0 {}).setOpen 9 { isOpen := true, cur := 4 }) (fun t => !(t.tally 9).isOpen &&
    (t.tally 9).res.map (·.step) == [4] && t.flag (tallyBlk 9) R.TALLY_STAT_TIMEOUT) = true := by decide +kernel

def tres : TallyRes := ⟨4, true, true, 3, false, false, [37], some 37, some 0, 0⟩
theorem test_tallyBroadcast : after (.tallyResultBroadcast 9) ((ty0 { caps := 2 }).setTally 9 { res := [tres] }) (fun t =>
      (t.lk 37).bellq == [matchResult 9 tres] && (t.tally 9).res == []) = true ∧
    after (.tallyResultBroadcast 9) (((ty0 {}).setTally 9 { res := [{ tres with tmo := true }] }).setF (tallyBlk 9) R.TALLY_CTRL_FAB_EN) (fun t =>
      (t.lk 37).tallyq == [tallyBeat 9 { tres with tmo := true }]) = true := by decide +kernel

theorem test_tallyCtrl : up.Allows (vf 9) (tallyBlk 9 + R.TALLY_CTRL) true = false ∧ up.Allows mg (tallyBlk 9 + R.TALLY_CTRL) true ∧
    after (.tallyCtrlWrite mg 9 0) ((ty0 {}).setOpen 9 { isOpen := true }) (fun t => !(t.tally 9).isOpen &&
      t.rd (tallyBlk 9 + R.TALLY_CTRL) == 1) = true := by decide +kernel

/-- Link 37, bound to port 3 of field 8, ACTIVE. -/
def lp0 (x : LinkSt) : State := (((runF (lkx 2 x) 8).setF (lrBlk 37) R.LR_CTRL_PORT_EN).wf (lrBlk 37) R.LR_CTRL_PORT_FIELD 1).wf (lrBlk 37) R.LR_CTRL_PORT 3

theorem test_dlpTx : ((lp0 {}).linkAtPort 8 3 = some 37 ∧ (lp0 {}).laneMode 37 = 0 ∧ (lp0 {}).lrOn 37 R.LR_CTRL_DATA_PATH = false ∧
    (lp0 {}).fieldInReset 8 = false ∧ ((lp0 {}).frt 8).we = true) ∧
    after (.dlpTxBeat 8 3 0x20007 false) (lp0 {}) (fun t => (t.lk 37).dlpTx == [0x20007] &&
      after (.dlpTxBeat 8 3 0x1122 true) t (fun u => (u.lk 37).waitq == [⟨3, none, 0, 7, [0x22, 0x11]⟩] && (u.lk 37).dlpTx == [])) = true := by
  decide +kernel

/-- The same link with its field not configured. -/
def lpd : State := (((lkx 2 { tallyq := [9] }).setF (lrBlk 37) R.LR_CTRL_PORT_EN).wf (lrBlk 37) R.LR_CTRL_PORT_FIELD 1).wf (lrBlk 37) R.LR_CTRL_PORT 3
theorem test_dlpRx : after (.dlpRxDeliver 37 1 false) (lp0 { tallyq := [9], rel := [⟨frm, true⟩] }) (fun t => t.outs == [.dlpRx 8 3 2 [9] true] &&
      after (.dlpRxDeliver 37 1 false) t (fun u => u.outs.head? == some (.dlpRx 8 3 0 [0x20000] false) && (u.lk 37).rlD == 0 &&
        after (.dlpRxDeliver 37 1 false) u (fun v => v.outs.head? == some (.dlpRx 8 3 0 [0x201] true) && (v.lk 37).rlD == 1))) = true ∧
    after (.dlpRxDeliver 37 2 true) ((lp0 { fabq := [fe 1] }).setF (lrBlk 37) R.LR_CTRL_FAB_EN) (fun t => (t.lk 37).fabq == [] && t.outs == [] &&
      t.rd (fcuBlk 2 + R.FCU_ECC_DROP_CNT) == 1) = true ∧
    lpd.fieldInReset (lpd.portField 37) = true ∧ after (.dlpRxDeliver 37 2 false) lpd (fun t => (t.lk 37).tallyq == [] &&
      t.rd (fcuBlk 2 + R.FCU_FAB_DROP_CNT) == 1) = true := by decide +kernel

def lpr (x : LinkSt) : State := (lp0 x).setF (lrBlk 37) R.LR_CTRL_DATA_PATH
theorem test_linkRing : (lpr {}).stopReady ((lpr {}).linkReq 37 4 ((lpr {}).lrAddr 37 R.LR_RX_ADDR_LO) 64 0 []) = true ∧
    (lpr {}).stopReady ((lpr {}).linkReq 37 2 ((lpr {}).lrAddr 37 R.LR_TX_ADDR_LO) 64 0 []) = true ∧ after (.linkRxRingWrite 37) (lpr { rel := [⟨frm, true⟩] }) (fun t => (t.lk 37).rel == [] && (t.lk 37).rlD == 1) = true ∧
    after (.linkTxFetch 37) (lpr { limD := 4 }) (fun t => (t.lk 37).reads == 1 && (t.lk 37).txTag == 1) = true ∧
    after (.linkTxChunk 37 .ok (BitVec.ofNat 2048 (2 ^ 31 + 2 * 2 ^ 16 + 7 + 0x1122 * 2 ^ 128))) (lpr { reads := 1 }) (fun t =>
      (t.lk 37).waitq == [⟨3, none, 0, 7, [0x22, 0x11]⟩] && (t.lk 37).reads == 0) = true ∧
    after (.linkTxChunk 37 .inReset 0) (lpr { reads := 1 }) (fun t => t.flag (lrBlk 37) R.LR_STAT_TX_ERR) = true := by decide +kernel

/-- Engine 5 in a state of a job, owned by site 9. -/
def ml (st : Nat) (x : MillSt) : State := ((up.wf (millBlk 5) R.MILL_STAT_STATE st).wf (millBlk 5) R.MILL_OWNER_SITE 9).setMill 5 x
/-- With the clock of the Mill on. -/
def mlc (st : Nat) (x : MillSt) : State := (ml st x).setF (clkBlk + 64) R.CLK_GATE_READY
/-- A row group and a column group of one spare each over a 16 by 16 region. -/
def mdesc : MillDesc := ⟨15, 240, 0, 0, 1, 1, 0, 0, 100, false, false, 0x1000, 128, [⟨false, 1, 1, 0, 15, 0, 15⟩, ⟨true, 1, 1, 0, 15, 0, 15⟩]⟩
/-- Its descriptor as bytes. -/
def mbytes : BitVec 2048 := BitVec.ofNat 2048 (15 + 240 * 256 ^ 8 + 256 ^ 26 + 256 ^ 28 + 100 * 256 ^ 32 + 2 * 256 ^ 36 + 0x1000 * 256 ^ 40 +
  128 * 256 ^ 48 + (256 + 65536 + 15 * 256 ^ 6 + 15 * 256 ^ 10) * 256 ^ 64 + (1 + 256 + 65536 + 15 * 256 ^ 6 + 15 * 256 ^ 10) * 256 ^ 80)

theorem test_millCtrl : up.Allows mg (millBlk 5 + R.MILL_CTRL) true ∧
    after (.millCtrlStart mg 5 1) (ml 4 { closed := true }) (fun t => t.millState 5 == 1 && t.millE 5 == { src := true }) = true ∧
    after (.millCtrlStart mg 5 0) (ml 2 {}) (fun t => t.millState 5 == 2 && t.flag (millBlk 5) R.MILL_STAT_REFUSED) = true ∧
    after (.millCtrlClose mg 5 0) (ml 2 {}) (fun t => (t.millE 5).closed && t.millState 5 == 2) = true ∧
    after (.millCtrlAbort mg 5 0) (ml 2 { intake := [(0, 3)] }) (fun t => t.millState 5 == 5 && t.rf (millBlk 5) R.MILL_STAT_ERR == 6 &&
      t.rd (fcuBlk 3 + R.FCU_MILL_DROP_CNT) == 1) = true := by decide +kernel

theorem test_millDesc : (descCheck mbytes.toNat = none ∧ descAt mbytes.toNat = mdesc ∧ (mlc 1 {}).flag (clkBlk + 64) R.CLK_GATE_READY = true) ∧
    after (.millDescLoaded 5 mbytes) (mlc 1 {}) (fun t => t.millState 5 == 2 && (t.millE 5).desc == mdesc) = true ∧
    descCheck (mbytes.toNat + 256 ^ 27) = some 27 ∧
    after (.millDescLoaded 5 (mbytes + BitVec.ofNat 2048 (256 ^ 27))) (mlc 1 {}) (fun t => t.millState 5 == 5 &&
      t.rf (millBlk 5) R.MILL_STAT_DESC_OFS == 27) = true := by decide +kernel

theorem test_millTake : millCellOf mdesc (0x5A * 2 ^ 64) = some ⟨0, 10, 5⟩ ∧
    after (.millIntakeEntry 5 false) (ml 2 { desc := mdesc, intake := [(0x5A * 2 ^ 64, 0)] }) (fun t => (t.millE 5).cells == [⟨0, 10, 5⟩] &&
      t.rd (millBlk 5 + R.MILL_TAKEN_CNT) == 1 && t.rd (millBlk 5 + R.MILL_STORED) == 1) = true ∧
    after (.millIntakeEntry 5 true) (ml 2 { desc := mdesc, intake := [(0, 0)] }) (fun t => t.rd (millBlk 5 + R.MILL_INTAKE_UE_CNT) == 1) = true ∧
    after (.millIntakeEntry 5 false) (ml 2 { desc := mdesc, intake := [(1 * 2 ^ 52, 0)] }) (fun t => t.rd (millBlk 5 + R.MILL_RANGE_CNT) == 1) = true ∧
    after (.millSrcRead 5 0x5A0000000000000000) ((ml 1 { desc := mdesc, src := true }).wr (millBlk 5 + R.MILL_SRC_CNT) 1) (fun t =>
      t.millState 5 == 3 && (t.millE 5).srcNext == 1 && (t.millE 5).cells == [⟨0, 10, 5⟩]) = true ∧
    after (.millIntakeDrained 5) (ml 2 { closed := true }) (fun t => t.millState 5 == 3) = true := by decide +kernel

/-- Two cells of one row are repaired by the row spare (R279). -/
def mcells : List MillCell := [⟨0, 10, 5⟩, ⟨0, 10, 7⟩]
theorem test_millAnalyse : (analyseRegion mdesc mcells false false).verdict = 1 ∧
    (analyseRegion mdesc mcells false false).lines.map (fun l => (l.col, l.g, l.addr)) = [(false, 0, 10)] ∧
    (analyseRegion mdesc [⟨0, 1, 1⟩, ⟨0, 2, 2⟩, ⟨0, 3, 3⟩] false false).verdict = 2 ∧
    after (.millRegionAnalyse 5 false) (ml 3 { desc := mdesc, cells := mcells }) (fun t => (t.millE 5).pend.isSome && (t.millE 5).next == 0 &&
      t.rd (millBlk 5 + R.MILL_N_REPAIRED) == 1 && after (.millRecordWrite 5) t (fun u => (u.millE 5).next == 1 && (u.millE 5).buf.length == 48 &&
        after (.millRecordWrite 5) u (fun v => (v.millE 5).fin && (v.millE 5).lines == 1 && after (.millJobDone 5) v (fun w => w.millState 5 == 4)))) = true ∧
    after (.millRegionAnalyse 5 false) (ml 3 { desc := mdesc }) (fun t => (t.millE 5).pend == none && (t.millE 5).next == 1) = true ∧
    after (.millRecordWrite 5) (ml 3 { desc := { mdesc with size := 64 }, pend := some (List.replicate 52 0) }) (fun t => t.millState 5 == 5 &&
      t.rf (millBlk 5) R.MILL_STAT_ERR == 5) = true := by decide +kernel

theorem test_millWriteError : after (.millWriteError 5 2 7) (ml 3 {}) (fun t => t.millState 5 == 5 && t.rf (millBlk 5) R.MILL_STAT_ERR == 4 &&
      t.rf (millBlk 5) R.MILL_PROGRESS_REGION == 7) = true ∧
    after (.millWriteError 5 1 0) (ml 1 {}) (fun t => t.rf (millBlk 5) R.MILL_STAT_ERR == 3) = true := by decide +kernel

theorem test_millRepairs : descAt mbytes.toNat = mdesc ∧ (analyseRegion mdesc mcells false false).verdict = 1 := by decide +kernel

/-- Site 9 LIVE and owning field 40 and granary 3. -/
def sv : State := (((up.wf (siteBlk 9) R.SITE_STAT_STATE 1).wf (ownBlk + 160) R.FLD_OWN_SITE 9).wf (ownBlk + 12) R.GRAN_OWN_SITE 9)

theorem test_fldOwn : up.Allows mg (ownBlk + 160) true ∧ up.fieldOwner 40 = 0x7F ∧
    after (.fldOwnWrite mg 40 9) up (fun t => t.fills == [⟨false, 40, 9, some mg, []⟩] && t.outs == [] && t.flag ownBlk R.OWN_STAT_BUSY &&
      after .grantFillDone t (fun u => u.fieldOwner 40 == 9 && u.fills == [] && u.outs == [.rsp mg .ok []] && !u.flag ownBlk R.OWN_STAT_BUSY)) = true ∧
    after (.fldOwnWrite mg 40 8) sv (fun t => t.fieldOwner 40 == 9 && t.flag ownBlk R.OWN_STAT_OWN_REFUSED) = true ∧
    after (.fldOwnWrite mg 40 0x7F) sv (fun t => t.fieldOwner 40 == 0x7F && t.flag (siteBlk 9) R.SITE_STAT_GRANT_CHG) = true ∧
    after (.fldOwnWrite mg 40 9) sv (fun t => t.regs == sv.regs) = true := by decide +kernel

theorem test_granOwn : up.Allows mg (ownBlk + R.GRAN_OWN + 12) true ∧
    after (.granOwnWrite mg 3 9) up (fun t => t.fills == [⟨true, 3, 9, some mg, []⟩] && after .grantFillDone t (fun u => u.granOwner 3 == 9)) = true ∧
    after (.granOwnWrite mg 3 8) sv (fun t => t.granOwner 3 == 9 && t.flag ownBlk R.OWN_STAT_OWN_REFUSED) = true ∧
    after (.granOwnWrite mg 3 0x7F) sv (fun t => t.granOwner 3 == 0x7F) = true ∧
    after (.granOwnWrite mg 3 9) up (fun t => after (.rcRegisterRead mg (BitVec.ofNat 48 (0x1F0000000000 + ownBlk + R.GRAN_OWN + 12)) 4 []) t (fun u => u.outs == [] &&
      after .grantFillDone u (fun v => v.outs == [.rsp mg .ok [9], .rsp mg .ok []]))) = true := by decide +kernel

/-- Site 9's class SITE routed to vector 3, enabled, its VF able to send; GRANT_CHG pending in its status. -/
def si (x y : Word) : State :=
  let s := ((((sv.wr (siteBlk 9 + R.SIC_EN) 0x80).wr (siteBlk 9 + R.SIC_ROUTE + 4) 0x03000000).wr (siteBlk 9 + R.SITE_IE) 4).wr
    (siteBlk 9 + R.SIC_VSTAT_LO) x)
  let s := if y = 0 then s else s.setF (siteBlk 9) R.SITE_STAT_GRANT_CHG
  { s with pcie := { s.pcie with vfEn := true, numVfs := 16, msixEn := [(10, true)], msixUnmask := [(10 * 256 + 3, true)] } }

theorem test_sicEoi : ((si 8 1).Allows (vf 9) (siteBlk 9 + R.SIC_EOI) true ∧ (si 8 1).sicRoute 9 7 = 3 ∧ (si 8 1).sicLevel 9 7 = true ∧
      (si 8 1).fnCanSend 10 = true) ∧
    after (.sicEoi (vf 9) 9 3) (si 8 1) (fun t => t.outs == [.rsp (vf 9) .ok [], .msix 10 3] && t.vstat (siteBlk 9 + R.SIC_VSTAT_LO) 3) = true ∧
    after (.sicEoi (vf 9) 9 3) (si 8 0) (fun t => t.outs == [.rsp (vf 9) .ok []] && !t.vstat (siteBlk 9 + R.SIC_VSTAT_LO) 3) = true ∧
    after (.sicEoi (vf 9) 9 3) (si 0 1) (fun t => t.outs == [.rsp (vf 9) .ok []]) = true := by decide +kernel

theorem test_msix : after (.msixEnable 10) { si 0 1 with pcie := { msixUnmask := [(10 * 256 + 3, true)] } } (fun t =>
      t.outs.head? == some (.msix 10 3) && t.outs.length == 11 && t.fnCanSend 10 && t.pcie.numVfs == 10) = true ∧
    after (.msixEnable 0) up (fun t => tabGet (fun _ => false) t.pcie.msixEn 0) = true ∧
    after (.msixUnmask 10 67) { up with pcie := { msixPend := [(10 * 256 + 3, true)] } } (fun t => t.outs == [.msix 10 3] && t.pcie.msixPend == []) =
      true := by decide +kernel

theorem test_siteCmdReset : (sv.Allows (vf 9) (siteBlk 9 + R.SITE_CMD) true ∧ sv.siteState 9 = 1) ∧
    after (.siteCmdReset (vf 9) 9 0) (sv.clrF (siteBlk 9) R.SITE_RST_CFG_FIELD_ACTION) (fun t => t.siteState 9 == 2 && t.rf (siteBlk 9) R.SITE_STAT_CAUSE == 2 && (t.frt 40).siteHold &&
      t.rd (siteBlk 9 + R.SITE_RST_CNT) == 1 &&
      after (.siteCmdReset mg 9 0) t (fun u => u.flag (siteBlk 9) R.SITE_STAT_MERGED && u.rd (siteBlk 9 + R.SITE_RST_CNT) == 2) &&
      after (.siteResetDrainEnd 9) t (fun u => (u.srt 9).step == 6 && after (.siteResetComplete 9) u (fun v => v.siteState 9 == 1 &&
        v.flag (siteBlk 9) R.SITE_STAT_HELD && v.flag (siteBlk 9) R.SITE_STAT_RESET_DONE && !(v.frt 40).siteHold &&
        after (.siteCmdRun mg 9 0) v (fun w => !w.flag (siteBlk 9) R.SITE_STAT_HELD)))) = true := by decide +kernel

def svf : State := { sv with pcie := { sv.pcie with vfEn := true, numVfs := 12, msixEn := [(10, true)] } }
theorem test_port : after (.vfFlr 9) svf (fun t => t.siteState 9 == 2 && t.rf (siteBlk 9) R.SITE_STAT_CAUSE == 1 && t.pcie.msixEn == []) = true ∧
    after (.vfEnableClear 5) svf (fun t => t.siteState 9 == 2 && t.pcie.vfEn && t.pcie.numVfs == 5) = true ∧
    after .pcieLinkUp State.reset (fun t => t.pcie.linkUp) = true := by decide +kernel

theorem test_portLoss : after .pfFlr svf (fun t => t.siteState 9 == 2 && !t.pcie.vfEn) = true ∧
    after .pcieLinkLoss svf (fun t => t.siteState 9 == 2 && !t.pcie.linkUp) = true := by decide +kernel

/-- Two channels of 16 GiB, controller 0 ACTIVE with rank 0 in service; granule 0 owned by site 9, its block 0 filled where asked. -/
def dr (fill : Bool) (x : DdrSt) : State :=
  let s := ((up.wf dramHub R.DRAM_INTLV_MASK 3).wf dramHub R.DRAM_INTLV_CAP_GIB 16).wf dramHub R.DRAM_OWN_SITE 9
  let s := ((s.wf (ddrBlk 0) R.DDR_STAT_STATE 2).wf (rankBlk 0 0) R.DDR_RANK_STATE 1).wf (ddrBlk 0) R.DDR_CTRL_RANK_GIB 16
  let s := s.setDdr 0 x
  if fill then s.setFilled 0 0 else s
/-- Site 9 asks for the byte at address `a`. -/
def dq (a : Nat) (len : BitVec 6) (d : List (BitVec 512)) : DramReq := ⟨vf 9, 1, false, BitVec.ofNat 48 a, len, false, d⟩
def dv (e : List DramEcc) : DramServe := ⟨none, 0, e, 100⟩
def dd (c : Rsp) (a : Nat) (d : List Nat) : Output := .dramDone 0 (vf 9) a c d

theorem test_dramOwn : up.Allows mg (dramHub + R.DRAM_OWN + 28) true ∧ up.dramOwner 7 = 0x7F ∧
    after (.dramOwnWrite mg 7 9) (up.setFilled 3 7168) (fun t => t.dramOwner 7 == 9 && !t.isFilled 3 7168) = true ∧
    after (.dramOwnWrite mg 0 8) (dr true {}) (fun t => t.dramOwner 0 == 9 && t.flag dramHub R.DRAM_HSTAT_OWN_REFUSED) = true ∧
    after (.dramOwnWrite mg 0 0x7F) (dr true {}) (fun t => t.dramOwner 0 == 0x7F) = true := by decide +kernel

theorem test_dramRead : ((dr true {}).reqLines 0 (dq 4 7 []) = some [0] ∧ (dr true {}).dramRefuses 0 (dq 4 7 []) = (none, dr true {}) ∧
      (dr true {}).encOf 0 = none) ∧
    after (.dramReadRequest 0 (dq 4 7 []) (dv [])) ((dr true {}).storeLine 0 0 ⟨0x1122334455667788990000, false⟩) (fun t =>
      t.outs.contains (dd .ok 4 [0x11223344556677 * 2 ^ 32])) = true ∧
    after (.dramReadRequest 0 (dq 4 7 []) (dv [])) (dr false {}) (fun t => t.outs.contains (dd .ok 4 [0])) = true ∧
    after (.dramReadRequest 0 (dq 4 7 []) (dv [.ue])) (dr true {}) (fun t => t.outs.contains (dd .poisoned 4 []) &&
      t.rd (ddrBlk 0 + R.DDR_UE_CNT) == 1) = true ∧
    after (.dramReadRequest 0 (dq 0x40000000 7 []) (dv [])) (dr true {}) (fun t => t.outs.contains (dd .denied 0x40000000 [])) = true := by decide +kernel

theorem test_dramWrite : (dr true {}).dramRoom 0 [0] = true ∧
    after (.dramWriteRequest 0 (dq 0 63 [5]) (dv [])) (dr true {}) (fun t => t.lineAt 0 0 == (⟨5, false⟩, true) && t.outs.contains (dd .ok 0 []) &&
      after (.dramWriteDrain 0 0 8 false) t (fun u => u.lineAt 0 0 == (⟨5, false⟩, false))) = true ∧
    after (.dramWriteRequest 0 (dq 1 0 [0xAB00]) (dv [])) ((dr true {}).storeLine 0 0 ⟨0x112233, false⟩) (fun t =>
      t.lineAt 0 0 == (⟨0x11AB33, false⟩, true)) = true ∧
    after (.dramWriteRequest 0 (dq 1 0 [0xAB00]) (dv [])) ((dr true {}).storeLine 0 0 ⟨0x112233, true⟩) (fun t => (t.lineAt 0 0).1.poison) = true := by
  decide +kernel

theorem test_dramFill : after (.dramBackgroundFill 0) (dr false {}) (fun t => t.isFilled 0 0) = true ∧
    after (.dramRefresh 0 0) { dr false {} with now := 4000 } (fun t => tabGet (fun _ => 0) (t.ddr 0).ref 0 == 4000) = true ∧
    after (.dramTempPoll 0 0 1) (dr false {}) (fun t => t.flag (rankBlk 0 0) R.DDR_RANK_REF_X2 && t.flag (ddrBlk 0) R.DDR_STAT_TEMP_CRIT &&
      t.par.reports.map (·.code) == [0x63] && after (.dramTempPoll 0 0 0) t (fun u => u.flag (rankBlk 0 0) R.DDR_RANK_REF_X2 &&
        after (.dramTempPoll 0 0 0) u (fun v => !v.flag (rankBlk 0 0) R.DDR_RANK_REF_X2))) = true ∧
    after (.dramRhWindowEnd 0) (dr false { act := [(3, ⟨1, [(5, 1)]⟩)] }) (fun t => (t.ddr 0).act == []) = true ∧
    after (.dramThrottleExpire 0 1 1 3 5) (dr false { thr := [⟨99, 5, 9, 0⟩, ⟨98, 5, 9, 0⟩] }) (fun t => (t.ddr 0).thr == [⟨98, 5, 9, 0⟩]) = true := by
  decide +kernel

theorem test_dramPatrol : after (.dramPatrolRead 0 .ce none) ((dr true {}).wf (ddrBlk 0) R.DDR_PATROL_PERIOD 1) (fun t => (t.ddr 0).patrol == 1 &&
      t.rd (ddrBlk 0 + R.DDR_CE_CNT) == 1) = true ∧
    after (.dramPatrolRead 0 .ue none) ((dr false {}).wf (ddrBlk 0) R.DDR_PATROL_PERIOD 1) (fun t => (t.ddr 0).patrol == 4) = true ∧
    after (.dramTrack 0 true) { dr false {} with now := 128000000 } (fun t => (t.ddr 0).zq == 128000000) = true ∧
    after (.dramTrack 0 false) { dr false {} with now := 10000000 } (fun t => (t.ddr 0).dqs == 10000000) = true := by decide +kernel

/-- Set points 0 and 1 trained, 0 in force. -/
def fs : State := ((((dr true {}).setF (fspBlk 0 0) R.DDR_FSP0_TRAINED).wf (fspBlk 0 0) R.DDR_FSP0_RATE 4800).setF (fspBlk 0 1)
  R.DDR_FSP0_TRAINED).wf (fspBlk 0 1) R.DDR_FSP0_RATE 4400
def fs1 : State := fs.setDdr 0 { bin := 5600 }
theorem test_ddrFreq : fs1.Allows mg (ddrBlk 0 + R.DDR_FREQ) true ∧ fs1.fspOk 0 1 = true ∧ fs1.rf (ddrBlk 0) R.DDR_STAT_POSTURE < modeNo fs1.mode ∧
    after (.ddrFreqDone 0) (fs.setDdr 0 { target := some 1 }) (fun u => u.ddrState 0 == 2 && u.rf (ddrBlk 0) R.DDR_STAT_FSP == 1) = true ∧
    after (.ddrFreqGo mg 0 0x80000002) fs1 (fun t => t.flag (ddrBlk 0) R.DDR_STAT_FREQ_REFUSED) = true ∧
    after (.dramRetrainStep 0 1) fs1 (fun t => t.rf (ddrBlk 0) R.DDR_STAT_POSTURE == 1) = true ∧
    (fs1.clrF (fspBlk 0 0) R.DDR_FSP0_TRAINED).fspBest 0 (some 0) = some 1 ∧
    after (.dramRetrainStep 0 2) (dr true {}) (fun t => t.ddrState 0 == 4) = true := by decide +kernel

theorem test_dramCapar : after (.dramCaparError 0 0) (dr true {}) (fun t => t.rd (ddrBlk 0 + R.DDR_CAPAR_CNT) == 1 && t.rankState 0 0 == 1) = true ∧
    after (.dramCaparError 0 0) (dr true { capar := [(0, [0, 0])] }) (fun t => t.rankState 0 0 == 5) = true := by decide +kernel

def mgr (k : Nat) : State := ((dr true { mig := some (0, k) }).wf (ddrBlk 0) R.DDR_CTRL_SPARE_RANK 1).wf (rankBlk 0 0) R.DDR_RANK_STATE 3
theorem test_dramMigrate : after (.dramMigrateLine 0 .ue) (mgr 0) (fun t => (t.ddr 0).mig == some (0, 1) && (t.lineAt 0 0).1.poison &&
      t.rd (ddrBlk 0 + R.DDR_MIG_POISON) == 1) = true ∧
    after (.dramMigrateLine 0 .clean) (mgr (16 * 2 ^ 24 - 1)) (fun t => t.rankState 0 0 == 4 && t.rankState 0 1 == 1 && (t.ddr 0).mig == none) = true := by
  decide +kernel

/-- Slot 9 ready to be enabled over granule 0 with granule 1 for metadata. -/
def en : State := ((((dr false {}).wf (dramHub + 4) R.DRAM_OWN_SITE 9).wf (encBlk 9) R.ENC_REGION_MGRAN 1)).wf secBlk R.SEC_DRNG_STAT_STATE 1
/-- The same with three conditioned blocks for a reseed. -/
def enr : State := { en with sec := { en.sec with ent := { pool := [1, 2, 3] } } }
/-- The slot ACTIVE over one data granule. -/
def ea (x : DdrSt) : State := ((en.setDdr 0 x).wf (encBlk 9) R.ENC_STAT_STATE 1).wf (encBlk 9) R.ENC_CTRL_DGRAN 1

theorem test_encEnable : (en.Allows rv (encBlk 9 + R.ENC_CTRL) true ∧ en.encLegal 9 1 = true ∧ en.encLegal 9 2 = false) ∧
    enr.keyReady = true ∧ en.keyReady = false ∧
    after (.encEnable rv 9 1) enr (fun t => t.encState 9 == 1 && t.encD 9 == 1 && t.sec.ent.pool == []) = true ∧
    after (.encEnable rv 9 2) enr (fun t => t.flag (encBlk 9) R.ENC_STAT_REFUSED) = true ∧
    after (.encEnable rv 9 1) en (fun t => t.dram.wait == [(9, 1)]) = true ∧
    after (.encDisable rv 9 3) en (fun t => t.encD 9 == 3) = true ∧
    after (.encDisable rv 9 0) ((ea {}).setFilled 0 5) (fun t => t.encState 9 == 0 && !t.isFilled 0 5) = true := by decide +kernel

/-- A cached MAC line, a dirty level-0 line and its parent. -/
def ca : DdrSt := { cache := [(cacheKey 9 0 2, some ⟨7, true⟩), (cacheKey 9 1 2, some ⟨3, true⟩), (cacheKey 9 1 3, some ⟨3, false⟩),
  (cacheKey 9 2 0, some ⟨0, true⟩)] }
theorem test_encWriteback : ((ea ca).cached 0 9 0 2 = some ⟨7, true⟩ ∧ 2 ≤ ((ea ca).encGeo 0 9).top ∧ (ea ca).cached 0 9 2 0 = some ⟨0, true⟩) ∧
    after (.encWriteback 0 9 0 2 []) (ea ca) (fun t => t.cached 0 9 0 2 == none && t.lineAt 0 (((ea ca).encGeo 0 9).line 0 2) == (⟨7, false⟩, true)) = true ∧
    after (.encWriteback 0 9 1 3 []) (ea ca) (fun t => t.cached 0 9 1 3 == none && (t.ddr 0).q0 == [] && (t.ddr 0).q1 == []) = true ∧
    after (.encWriteback 0 9 1 2 []) (ea ca) (fun t => t.cached 0 9 1 2 == none && ctrGet (t.cachedVal 0 9 2 0) 2 == 1) = true := by decide +kernel

theorem test_protectedLine : ((ea ca).encPut 0 9 ((ea ca).encGeo 0 9) 0x49 19 5 []).1 = true := by decide +kernel

/-- Channel 1 between PF0 (A, doorbell 3) and Commons (B, doorbell 4), with words queued. -/
def mb (q : MbxQ) : State := (up.wr (mbxHub + 4) (BitVec.ofNat 32 (2 ^ 31 + 3 * 2 ^ 26 + 4 * 2 ^ 21 + 65))).setMbxQ 1 q
def mfull : List Word := List.replicate 16 7

theorem test_mbx : ((mb {}).recoveryOnly = false ∧ (mb {}).deaf = false ∧ (mb {}).mbxSide 1 0x20 = some false ∧ (mb {}).mbxSide 1 1 = some true) ∧
    after (.mbxPush pf 1 9) (mb {}) (fun t => t.mbxQ 1 == { toB := [9] } && t.rd (mbxEp 65) == 16 && t.rf (mbxBlk 1) R.MBX_STAT_B_IN_COUNT == 1 &&
      after (.mbxPop mg 1) t (fun u => u.mbxQ 1 == {} && u.outs.head? == some (.rsp mg .ok [9]) &&
        after (.mbxPop mg 1) u (fun v => v.outs.head? == some (.rsp mg .ok [0]) && v.flag (mbxBlk 1) R.MBX_STAT_B_RX_EMPTY_READ))) = true ∧
    (mb {}).regDeny pf (mbxBlk 1) true = none ∧ (mb {}).regDeny mg (mbxBlk 1 + 0x40) false = none ∧ (mb {}).siteInReset ((mb {}).portChanOwner 1) = false ∧
    after (.mbxPop pf 1) { mb {} with clk := { (mb {}).clk with safe := true } } (fun t => t.outs == [.rsp pf .inReset []]) = true ∧
    after (.mbxPush pf 1 9) (mb { toB := mfull }) (fun t => t.flag (mbxBlk 1) R.MBX_STAT_A_TX_OVF && (t.mbxQ 1).toB == mfull) = true ∧
    after (.mbxPush mg 1 9) (mb {}) (fun t => t.rd (mbxEp 0) == 8) = true := by decide +kernel

theorem test_mbxHub : up.Allows mg (mbxHub + R.MBX_FPBIND + 12) true ∧ up.Allows rv (mbxHub + 4) true ∧ up.Allows rv (mbxHub + R.MBX_LOCK) true ∧
    up.Allows mg (mbxHub + R.COMMONS_HB) true ∧
    after (.mbxFpbindWrite mg 3 0xFFFFFFFF) (up.setMbxQ 83 { toA := [1] }) (fun t => t.rd (mbxHub + R.MBX_FPBIND + 12) == 0x80000FFF &&
      t.mbxQ 83 == {} && t.flag (mbxBlk 83) R.MBX_STAT_A_DISCARDED) = true ∧
    after (.mbxBindWrite rv 1 0xFFFFFFFF) up (fun t => t.rd (mbxHub + 4) == 0xFFE03FFF) = true ∧
    after (.mbxLockSet rv 1) up (fun t => t.flag mbxHub R.MBX_LOCK_LOCKED && after (.mbxBindWrite rv 1 7) t (fun u =>
      u.outs.head? == some (.rsp rv .denied []))) = true ∧
    after (.commonsHbWrite mg 0x12340000) { up with now := 50 } (fun t => t.rf mbxHub R.COMMONS_HB_SEQ == 0x1234 && t.host.hbAt == 50) = true := by
  decide +kernel

def eoi : State := { ((mb {}).wr (mbxEp 0) 8).wr (mbxEp 0 + R.MBX_DBMASK) 0 with pcie := { linkUp := true, msixEn := [(0, true)], msixUnmask := [(3, true)] } }
theorem test_hostEoi : (eoi.Allows pf (fnBlk 0 + R.HOST_EOI) true ∧ eoi.pf0Cond 3 = true ∧ eoi.pf0Cond 4 = false) ∧
    after (.hostEoi pf 3) (eoi.setVstat (fnBlk 0 + R.HOST_VSTAT) 3 true) (fun t => t.outs == [.rsp pf .ok [], .msix 0 3]) = true ∧
    after (.hostEoi pf 4) (eoi.setVstat (fnBlk 0 + R.HOST_VSTAT) 4 true) (fun t => t.outs == [.rsp pf .ok []] &&
      !t.vstat (fnBlk 0 + R.HOST_VSTAT) 4) = true := by decide +kernel

/-- Channel 2 of PF0 with a ring of 16 slots. -/
def dm (en : Bool) (st : Nat) (l : List DmaDesc) : State :=
  let s := (((up.wf (dmaBlk 2) R.DMA_CTRL_RSIZE 4).wf (dmaBlk 2) R.DMA_STAT_STATE st).wf (dmaBlk 2) R.DMA_TAIL_TAIL 5).setDma 2 l
  if en then s.setF (dmaBlk 2) R.DMA_CTRL_EN else s
/-- A write of 300 bytes to DRAM, all its pieces back. -/
def de (next : Nat) (out : List (Nat × Nat)) (f : Option (Nat × Nat × Bool)) : DmaDesc := ⟨0, 0x5000, 0x100, 300, 1, 1, next, out, f⟩

theorem test_dmaRegs : up.Allows pf (dmaBlk 2 + R.DMA_TAIL) true ∧ up.Allows pf (dmaBlk 2 + R.DMA_CTRL) true ∧ up.Allows pf (dmaBlk 2 + R.DMA_RING_LO) true ∧
    after (.dmaTailWrite pf 2 7) (dm true 0 []) (fun t => t.dmaTail 2 == 7 && t.dmaState 2 == 1) = true ∧
    after (.dmaTailWrite pf 2 16) (dm true 0 []) (fun t => t.dmaTail 2 == 5 && t.flag (dmaBlk 2) R.DMA_STAT_TAIL_REFUSED) = true ∧
    after (.dmaResume pf 2 0) (dm true 2 []) (fun t => t.dmaState 2 == 1) = true ∧
    after (.dmaEnClear pf 2 0) (dm true 1 [de 0 [] none]) (fun t => t.dmaState 2 == 3 && !t.dmaEn 2 && t.dma 2 == []) = true ∧
    after (.dmaEnClear pf 2 0) (dm true 1 [de 256 [(0, 256)] none]) (fun t => t.dmaState 2 == 1 && (t.dma 2).length == 1) = true ∧
    after (.dmaEnSet pf 2 8) (dm false 3 []) (fun t => t.dmaEn 2 && t.dmaState 2 == 1 && t.dmaSize 2 == 256) = true ∧
    after (.dmaRingWrite pf 2 0x12345678) (dm false 3 []) (fun t => t.rd (dmaBlk 2 + R.DMA_RING_LO) == 0x12345000 && t.dmaTail 2 == 0) = true := by
  decide +kernel

theorem test_dmaWork : after (.dmaDescFetch 2 (BitVec.ofNat 256 (0x5000 + 0x100 * 2 ^ 64 + 300 * 2 ^ 128 + 2 ^ 160 + 2 ^ 163)) false) (dm true 1 []) (fun t =>
      t.dma 2 == [de 0 [] none]) = true ∧
    after (.dmaPieceIssue 2 []) (dm true 1 [de 0 [] none]) (fun t => t.dma 2 == [de 256 [(0, 256)] none]) = true ∧
    after (.dmaPieceComplete 2 0 256 .ok false [5]) (dm true 1 [de 300 [(256, 44)] none]) (fun t => t.dma 2 == [de 300 [] none] &&
      t.outs == [.hostWrite 2 0x5100 44 [5]] && after (.dmaWriteback 2) t (fun u => u.dma 2 == [] && u.dmaHead 2 == 1 &&
        u.rd (dmaBlk 2 + R.DMA_BYTES_LO) == 300 && u.outs.contains (.hostWrite 2 28 4 [2 ^ 31 + 300]))) = true ∧
    after (.dmaPieceComplete 2 0 256 .denied false []) (dm true 1 [de 300 [(256, 44)] none]) (fun t => (t.dma 2).map (·.fail) == [some (256, 3, false)] &&
      after (.dmaWriteback 2) t (fun u => u.dmaState 2 == 2 && u.rf (dmaBlk 2) R.DMA_STAT_CODE == 3)) = true := by decide +kernel

/-- Aperture 0 of PF0 open on granary 0. -/
def bar : State := { ((up.setF (fnBlk 0) R.HOST_AP_EN).wf (fnBlk 0) R.HOST_AP_BASE 0x4000) with kelk := { unreach := 0 } }

theorem test_bar0 : ((up.fnHere 0).readAccess (fnReq 0) 0xEA0000 4 false []).1 = .ok ∧ ((up.fnHere 0).writeAccess (fnReq 0) 0xDC0000 [0, 0, 0, 0] []).1 = .denied ∧
    ((up.fnHere 0).writeAccess (fnReq 0) 0xC80004 [0, 0x12, 0, 0] []).1 = .ok ∧
    after (.barRead 0 0 0xEA0000 4 []) up (fun t => t.outs.map (fun o => match o with | .hostCpl 0 .ok l => l.length | _ => 0) == [4]) = true ∧
    after (.barWrite 0 0 0xC80004 [0, 0x12, 0, 0] []) up (fun t => t.rd (dmaBlk 0 + R.DMA_RING_LO) == 0x1000) = true := by decide +kernel

theorem test_aperture : (up.barAddr 0 1 0 = none ∧ (up.fnHere 0).barPieces 0 8 0 8 = [(0, 8)] ∧ (bar.fnHere 0).barAddr 0 1 0 = some 0x100000000000 ∧
      (bar.fnHere 0).pieceCode (fnReq 0) 0x100000000000 false .ok = .ok) ∧
    after (.barRead 0 1 0 8 []) up (fun t => t.outs == [.hostCpl 0 .noTarget []] && t.flag (fnBlk 0) R.HOST_FN_ERR_RERR) = true ∧
    after (.barRead 0 1 0 2 [(.ok, [3, 4])]) bar (fun t => t.outs.head? == some (.hostCpl 0 .ok [3, 4])) = true ∧
    after (.barWrite 0 1 8 [1] []) up (fun t => t.rd (fnBlk 0 + R.HOST_FN_WERR_CNT) == 1 && t.rf (fnBlk 0) R.HOST_FN_ERR_WOFS == 1 &&
      t.rd (fnBlk 0 + R.HOST_FN_WADDR_LO) == 8) = true := by decide +kernel

theorem test_bar4 : after (.barRead 0 2 60 4 []) up (fun t => t.outs == [.hostCpl 0 .ok [1, 0, 0, 0]]) = true ∧
    after (.barWrite 0 2 60 [0, 0, 0, 0] []) { up with pcie := { linkUp := true, msixPend := [(3, true)] } } (fun t => t.outs == [.msix 0 3] &&
      after (.barWrite 0 2 60 [1, 0, 0, 0] []) t (fun u => u.pcie.msixUnmask == [])) = true := by decide +kernel

def fi (st : List (Fin 4 × BitVec 16)) : FieldImg := ⟨{}, 30, [10, 4, 4, 4], 1, [1], [], st, 0, 77⟩
def up4 : List (Fin 4 × BitVec 16) := [(0, 1), (1, 1), (2, 1), (3, 1)]
/-- A load group of site 9 for field 40. -/
def cg (x : CfgGroup) : State := { up with ttc := 200000, cfg := { groups := [x], next := 2 } }
def gr (pass step : Nat) (w b d : List Nat) : CfgGroup := ⟨1, 2, 9, 3, pass, [(40, fi up4)], w, b, d, step, 0⟩
def im (hdr : Bool) : CfgImage := ⟨hdr, up4, 3, 0, 0, false, 0, 77, [⟨1, 40, 1, true, true, true, some (fi up4)⟩]⟩

theorem test_cfgPass1 : after (.cfgPass1Done 1 (im false) .ok) (cg (gr 1 0 [] [] [])) (fun t => t.rf cfgBlk R.CFG_ERR_CAUSE == 1 &&
      t.cfg.ends == [(3, 0x13, 0xFFFF, 0)] && t.cfg.groups == []) = true ∧
    after (.cfgPass1Done 1 (im true) .ok) ((cg (gr 1 0 [] [] [])).wf (ownBlk + 160) R.FLD_OWN_SITE 9) (fun t => t.cfgGrp 1 == some (gr 2 0 [40] [] [])) = true ∧
    after (.cfgPass1Done 1 (im true) .denied) (cg (gr 1 0 [] [] [])) (fun t => t.rf cfgBlk R.CFG_ERR_CAUSE == 12) = true := by decide +kernel

theorem test_cfgWriter : (gr 2 0 [40] [] []).img 40 = some (fi up4) ∧ after .cfgWriterStart (cg (gr 2 0 [40] [] [])) (fun t => t.cfgState 40 == 1 && (t.frt 40).gsr &&
      t.rf (fieldPage 40) R.FCK_CTRL_MULT == 30 && t.cfgGrp 1 == some (gr 2 0 [] [40] []) &&
      after (.cfgFieldWritten 40 true) t (fun u => u.cfgState 40 == 2 && u.cfgRec 40 == some (fi up4) && u.rd (fieldPage 40 + R.CFG_FIMG) == 77)) = true ∧
    after (.cfgFieldWritten 40 false) (cg (gr 2 0 [] [40] [])) (fun u => u.cfgState 40 == 5 && u.rf cfgBlk R.CFG_ERR_CAUSE == 5 && u.cfg.groups == []) = true := by
  decide +kernel

theorem test_cfgStartup : after (.cfgStartupStep 1) (cg (gr 3 0 [] [] [40])) (fun t => (t.frt 40).configured && t.cfgState 40 == 3 &&
      (t.cfgGrp 1).map (·.step) == some 1) = true ∧
    after (.cfgStartupStep 1) (cg (gr 3 3 [] [] [40])) (fun t => (t.frt 40).we && t.cfgState 40 == 4 && t.cfg.groups == []) = true ∧
    after (.cfgLockTimeout 1) (cg (gr 3 0 [] [] [40])) (fun t => t.cfgState 40 == 5 && t.flag (fieldPage 40) R.CFG_FSTAT_LOCK_TMO) = true := by decide +kernel

/-- Field 40 HELD from flash, the scrubber on. -/
def scr (a : Nat) : State := ((((up.wf (fieldPage 40) R.CFG_FSTAT_SRC 2).wf (fieldPage 40) R.CFG_FSTAT_STATE 4).setF cfgBlk R.CFG_SCRUB_EN).wf cfgBlk
  R.CFG_SCRUB_ACTION a).wf dramHub R.DRAM_INTLV_MASK 1
theorem test_cfgScrub : after (.cfgScrubRead 40 5 [(0, 3)]) (scr 0) (fun t => t.rd (fieldPage 40 + R.CFG_CE_CNT) == 1 && t.cfgUpset 40 40 == 0) = true ∧
    after (.cfgScrubRead 40 5 [(0, 3), (0, 4)]) (scr 2) (fun t => t.cfgState 40 == 2 && t.rd (cfgBlk + R.CFG_SCRUB_LAST) == 0x280005 && t.par.reports.map (·.code) == [0x81]) = true ∧
    after (.cfgStoreCopy 40) ((scr 0).wr (cfgBlk + R.CFG_STORE_LO) 0x1000) (fun t => t.rf (fieldPage 40) R.CFG_FSTAT_SRC == 1 &&
      t.flag cfgBlk R.CFG_ENG_STAT_COPY_DONE) = true := by decide +kernel

theorem test_cfgXspi : up.Allows mg (cfgBlk + R.CFG_XSPI_CMD) true ∧ after (.cfgXspiCmd mg 0x80030004) up (fun t => t.flag cfgBlk R.CFG_XSPI_STAT_BUSY &&
      after (.cfgXspiDone [1, 2, 3, 4]) t (fun u => u.rd (cfgBlk + R.CFG_XSPI_BUF) == 0x04030201 && u.flag cfgBlk R.CFG_XSPI_STAT_DONE && u.cfg.xspi == none)) = true ∧
    after (.cfgXspiCmd mg 0x80030004) { up with cfg := { groups := [⟨1, 0, 0, 0, 1, [], [], [], [], 0, 0⟩] } } (fun t =>
      t.flag cfgBlk R.CFG_XSPI_STAT_REFUSED) = true := by decide +kernel

def kelk1 : State := (up.wf kelkBlk R.KELK_S_STATE 1).setBnd 0 { list := [3] }

theorem test_kelkSRetestDone : kelk1.bndState 0 = 1 ∧
    after (.kelkSRetestDone 0 [3, 9, 10]) kelk1 (fun t => (t.bnd 0).list == [3, 9, 10] && t.bndState 0 == 0 && t.flag kelkBlk R.KELK_S_CHG &&
      t.rf kelkBlk R.KELK_S_NFAIL == 3 && regsBut (fun k => k == kelkBlk || notice k) kelk1 t) = true := by decide

theorem test_kelkSRetestDone_down : after (.kelkSRetestDone 0 [9, 10, 11, 12]) kelk1 (fun t => t.bndState 0 == 2) = true := by decide

theorem test_kelkWRetestDone : (up.wf kelkBlk R.KELK_W_STATE 1).grpState 0 = 1 ∧
    after (.kelkWRetestDone 0 [5]) (up.wf kelkBlk R.KELK_W_STATE 1) (fun t => (t.grp 0).list == [5] && t.grpState 0 == 0) = true := by decide

def kelk2 : State := { up with fab := { up.fab with lost := [(0, true)] } }

theorem test_kelkWCrossingRestart : ((stilePeer 0 0).isSome = true ∧ kelk2.crossLost 0 0 = true ∧ kelk2.crossHasGroups 0 0 = true) ∧
    after (.kelkWCrossingRestart 0 0) kelk2 (fun t => !t.crossLost 0 0) = true := by decide

/-- The hub runs; a battery-backed key is held. -/
def sc (all : Bool) : State :=
  let s := (up.setF bkBlk R.BK_TAMPER0_EN).setF secBlk R.SEC_KEY_STAT_BBKEY_VALID
  let s := if all then (s.setF bkBlk R.BK_TAMPER0_ALL).wf (encBlk 9) R.ENC_STAT_STATE 1 else s
  { s with start := { s.start with hold := false }, sec := { s.sec with bbkey := some 5 }, rtc := 7000000000 }

theorem test_tamper : after (.tamperAlarm 0) (sc true) (fun t => t.sec.bbkey == none && t.rd (bkBlk + R.BK_LOG_LO) == 7 &&
      t.rf bkBlk R.BK_LOG_CNT_USED == 1 && t.encState 9 == 0 && t.flag bkBlk R.BK_STAT_ALARM && t.par.reports.map (·.code) == [0x26]) = true ∧
    after .vbatLow (sc false) (fun t => !t.flag bkBlk R.BK_STAT_VBAT_OK && natBits (t.rd (bkBlk + R.BK_LOG_HI)).toNat 30 27 == 3) = true ∧
    after .oscStop (sc false) (fun t => !t.flag bkBlk R.BK_STAT_RTC_VALID && natBits (t.rd (bkBlk + R.BK_LOG_HI)).toNat 30 27 == 4 &&
      after .backupDomainReset t (fun u => u.rd (bkBlk + R.BK_LOG_HI) == 0 && u.rtc == 0)) = true := by decide +kernel

theorem test_backup : up.Allows rv (bkBlk + R.BK_LOG_CLR) true ∧ up.Allows mg (bkBlk + R.BK_RTC_CMD) true ∧
    after (.bkLogClr rv 1) ((up.wr (bkBlk + R.BK_LOG_LO + 8) 5).wr (bkBlk + R.BK_LOG_CNT) 2) (fun t => t.regs == up.regs) = true ∧
    after (.bkRtcSet mg 1) up (fun t => t.sec.rtcSet) = true := by decide +kernel

/-- The DRNG in a state, forty ones run, 255 bits of a block and a pool collected. -/
def dg (st : Nat) (pool : List Nat) : State :=
  let s := up.wf secBlk R.SEC_DRNG_STAT_STATE st
  { s with sec := { s.sec with ent := { last := some true, run := 40, ref := true, seen := 40, hits := 40, count := 255, pool := pool } } }
theorem test_drng_fail : after (.drngHealthFail [true]) (dg 1 [5]) (fun t => t.drngState == 2 && t.rd (secBlk + R.SEC_DRNG_FAIL_CNT) == 1 &&
      t.sec.ent == {}) = true ∧
    after (.drngHealthFail [true]) { dg 1 [] with sec := { (dg 1 []).sec with fails := [0, 0] } } (fun t => t.drngState == 3) = true := by decide +kernel
theorem test_drng_ready : after (.drngReady [false]) (dg 2 [1, 2, 3, 4, 5, 6, 7]) (fun t => t.drngState == 1 && t.sec.ent.pool.length == 8) = true ∧
    after (.drngReady [false]) (dg 0 [1, 2, 3, 4, 5, 6]) (fun t => t.drngState == 0 && t.sec.ent.pool.length == 7 && t.sec.ent.count == 0) = true := by
  decide +kernel
theorem test_drng_init : after (.drngReady [false]) (dg 0 [1, 2, 3, 4, 5, 6, 7]) (fun t => t.drngState == 1 && t.sec.ent.pool.length == 5 &&
      t.sec.drbg.key.length == 32 && t.sec.drbg.calls == 1) = true := by decide +kernel

theorem test_lifecycle : lcWinner [0xFF, 0xFF, 0xFF] = 1 ∧
    after (.lifecycleChangeDone [0xFF, 0xFF, 0xFE]) { up with sec := { up.sec with lc := [0xFF, 0xFF, 0xFF], change := some ⟨2, 5, 0⟩ } } (fun t =>
      t.sec.lc == [0xFFFF, 0xFFFF, 0xFEFF] && t.lc == 2 && t.sec.ends == [(5, 0, 0)] && t.sec.change == none) = true := by decide +kernel

def pv0 : LcProv := ⟨0, 0, 0, 0, 0, 0, true, true⟩
def pk (w : PkeWhy) : State := { up with sec := { up.sec with pke := [(2, w)] } }
theorem test_pke : after (.pkeOpDone 4 0) up (fun t => t.rf secBlk R.SEC_PKE_STAT_LAST_OP == 4) = true ∧
    after (.pkeOpDone 2 0) (pk (.lifecycle 3 5 pv0)) (fun t => t.sec.change == some ⟨3, 5, 0⟩ && t.sec.pke == []) = true ∧
    after (.pkeOpDone 2 1) (pk (.lifecycle 3 5 pv0)) (fun t => t.sec.ends == [(5, 0x12, 0)]) = true ∧
    after (.pkeOpDone 2 0) (pk (.respond true 2)) (fun t => t.rf dlocBlk R.DBG_SESSION_LEVEL == 2) = true ∧
    after (.pkeOpDone 2 0) (pk (.respond false 2)) (fun t => t.rf dlocBlk R.DBG_AUTH_STAT_AUTH_FAIL_CNT == 1 && t.dbg.wait) = true := by decide +kernel

/-- Core 1 in a state, in window `w`. -/
def co (st w : Nat) (x : CoreSt) : State := (((up.wf (coreBlk 1) R.CMN_CORE_STAT_STATE st).wf (coreBlk 1) R.CMN_CORE_STAT_WP w).wf mbxHub
  R.COMMONS_HB_STATE 1).setCore 1 x

theorem test_windows : after (.winEnter 1 100) (co 1 6 { live := [5, 6] }) (fun t => t.coreWp 1 == 0 && (t.core 1).live == [5, 6, 0]) = true ∧
    after (.winEnter 1 100) (co 1 6 { live := [0, 6] }) (fun t => t.coreWp 1 == 7 && t.coreTd 1 && (t.core 1).typ == 1 && (t.core 1).tpc == 100) = true ∧
    after (.winLeave 1 100) (co 1 0 { live := [6, 0] }) (fun t => t.coreWp 1 == 6 && (t.core 1).live == [6]) = true ∧
    after (.winLeave 1 100) (co 1 0 { live := [0], stack := [[]] }) (fun t => t.coreTd 1 && (t.core 1).typ == 2) = true := by decide +kernel

theorem test_traps : after (.coreTrap 1 3 100) (co 1 2 { live := [2], st := 9 }) (fun t => t.coreTd 1 && (t.core 1).tpc == 100 && (t.core 1).tst == 9 && (t.core 1).twp == 2 &&
      after (.trapRet 1) t (fun u => !u.coreTd 1 && u.coreWp 1 == 2 && (u.core 1).pc == 100) && after (.coreTrap 1 4 200) t (fun u =>
        u.coreState 1 == 4 && u.rf (coreBlk 1) R.CMN_CORE_STAT_HALT_CODE == 0x304 && u.outs.contains .reeveNmi && u.rd (mgmtBlk + R.CMN_RESTART_CNT) == 1)) = true ∧
    after (.coreTrap 1 8 100) ((co 1 2 {}).wf dlocBlk R.DBG_SESSION_LEVEL 3) (fun t => t.coreState 1 == 3) = true ∧
    after (.coreTrap 1 8 100) ((co 1 2 {}).wf dlocBlk R.DBG_SESSION_LEVEL 1) (fun t => t.coreState 1 == 1 && t.rd (mgmtBlk + R.PATCH_TRAP_SKIP) == 1) = true ∧
    after (.coreInterrupt 1 3 100) ((co 2 2 { live := [2] }).wr (mgmtBlk + R.CMN_IRQ_ROUTE) 0x40) (fun t => t.coreState 1 == 1 && (t.core 1).typ == 0x10) = true := by
  decide +kernel

/-- The spill handler's frame comes back by the fill handler. -/
theorem test_spillFill : after (.trapRet 1) ((co 1 7 { typ := 1, live := [3, 4], win := [(50, 8)] }).setF (coreBlk 1) R.CMN_CORE_STAT_TD) (fun t =>
      (t.core 1).live == [4] && (t.core 1).stack.map (fun f => f.getD 2 0) == [8]) = true ∧
    after (.trapRet 1) ((co 1 7 { typ := 2, twp := 4, stack := [[0, 0, 8]] }).setF (coreBlk 1) R.CMN_CORE_STAT_TD) (fun t =>
      (t.core 1).live == [3] && (t.core 1).win == [(50, 8)]) = true := by decide +kernel

def kickReq : Req := ⟨2, 0x7F⟩
theorem test_watchdogs : (co 1 0 {}).Allows kickReq (coreBlk 1 + R.CMN_CORE_KICK) true ∧
    after (.cmnCoreKick kickReq 1 0) { co 1 0 {} with now := 50 } (fun t => (t.core 1).kick == 50) = true ∧
    after (.coreWdtExpire 1) { (co 1 0 {}).setF mgmtBlk R.CMN_WDT_CORE_WDT_EN with now := 300000000 } (fun t => t.coreState 1 == 5 && t.hbState == 2 &&
      t.rf mgmtBlk R.CMN_RST_STAT_LAST_CAUSE == 3) = true ∧
    after .hbWdtExpire { co 1 0 {} with now := 1000000000 } (fun t => t.coreState 1 == 5 && t.rf mgmtBlk R.CMN_RST_STAT_LAST_CAUSE == 2) = true ∧
    after .reeveWdtExpire { co 1 0 {} with start := { hold := false } } (fun t => t.rf mgmtBlk R.REEVE_STAT_STATE == 2 &&
      after .reeveRestartDone t (fun u => u.rf mgmtBlk R.REEVE_STAT_STATE == 1)) = true := by decide +kernel

theorem test_runControl : ((co 1 0 {}).wf dlocBlk R.DBG_SESSION_LEVEL 3).Allows db (dbgBlk + R.DBG_CORE_CMD) true ∧
    after (.dbgCoreHalt db 2) ((co 1 0 { live := [0], pc := 7 }).wf dlocBlk R.DBG_SESSION_LEVEL 3) (fun t => t.coreState 1 == 3 && t.rd (coreBlk 1 + R.CMN_CORE_PC_LO) == 7 &&
      after (.dbgCoreRun db 0x20) t (fun u => u.coreState 1 == 1)) = true := by decide +kernel

/-- A debug session at a level. -/
def dsn (lv : Nat) : State := up.wf dlocBlk R.DBG_SESSION_LEVEL lv
/-- A DBG_ACCESS command: OP, address and data. -/
def acc (op a v : Nat) : BitVec 82 := BitVec.ofNat 82 (op + a * 4 + v * 2 ^ 50)
/-- The TAP with DBG_ACCESS selected. -/
def tp (s : State) : State := { s with dbg := { s.dbg with ir := 0x20 } }

theorem test_dbgAccess : after (.dbgAccess (acc 1 0x1F0000D00000 0) noAuth) { tp (dsn 3) with dbg := { ir := 0x20, acc := some 5 } } (fun t => t.dbg.overrun && t.dbg.acc == some 5) = true ∧
    after (.dbgAccess (acc 0 0 0) noAuth) (tp (dsn 3)) (fun t => !t.dbg.overrun && t.outs.length == 1) = true ∧
    after (.dbgAccess (acc 1 0xD00002 0) noAuth) (tp (dsn 3)) (fun t => t.dbg.code == 1 && t.rd (regbusBlk 0 (regbusIdx 0x7F) + R.REGBUS_FAULT_CNT) == 1) = true ∧
    after (.dbgAccess (acc 2 0x1F0000D00000 7) noAuth) (tp (dsn 1)) (fun t => t.dbg.code == 3 && t.rd (dlocBlk + R.DBG_DENY_CNT) == 1) = true ∧
    after (.dbgAccess (acc 2 0x1F0000D00000 7) noAuth) (tp (dsn 2)) (fun t => t.dbg.acc == some (acc 2 0x1F0000D00000 7).toNat) = true ∧
    after (.dbgAccess (acc 3 0x204 7) noAuth) (tp (dsn 0)) (fun t => t.rd (dlocBlk + 0x204) == 7) = true := by decide +kernel

/-- The time of cross-trigger channel 0 in the device-register region, and an access to it. -/
def xa : Nat := dbgBlk + 0x104
def xc (op v : Nat) : Nat := (acc op (0x1F0000000000 + xa) v).toNat
theorem test_dbgComplete : regionOf (natBits (xc 1 0) 49 2) = .regs xa ∧ (dsn 3).deaf = false ∧ ((dsn 3).readAccess dbgReq xa 4 true []).1 = .ok ∧
    after (.dbgAccessComplete .ok 0) { (dsn 3).wr xa 9 with dbg := { acc := some (xc 1 0) } } (fun t => t.dbg.acc == none && t.dbg.data == 9) = true ∧
    regionOf (natBits (xc 2 7) 49 2) = .regs xa ∧ ((dsn 3).writeAccess dbgReq xa (toBytes 4 7) []).1 = .ok ∧
    after (.dbgAccessComplete .ok 0) { dsn 3 with dbg := { acc := some (xc 2 7) } } (fun t =>
      t.dbg.acc == none && t.dbg.code == 0 && t.rd xa == 7) = true := by decide +kernel

theorem test_tap : after (.tapInstruction 8) up (fun t => t.dbg.ir == 8 && t.dbg.pins == 2) = true ∧
    after (.tapInstruction 5) up (fun t => t.dbg.ir == 0xFF && t.dbg.pins == 0) = true ∧
    after .debugDomainReset (((dsn 3).wf secBlk R.SEC_LC_STAT_STATE 3).wr (dlocBlk + 0x204) 5) (fun t => t.rf dlocBlk R.DBG_SESSION_LEVEL == 0 && t.rd (dlocBlk + 0x204) == 0) = true ∧
    after .lock ((dsn 3).wf secBlk R.SEC_LC_STAT_STATE 3) (fun t => t.rf dlocBlk R.DBG_SESSION_LEVEL == 0) = true := by decide +kernel

/-- Life-cycle SAMPLE, with a debug key in row 1 and level 3 asked for. -/
def au : State := ((dsn 0).wf secBlk R.SEC_LC_STAT_STATE 4).wr (dlocBlk + 0x260) 3
/-- A challenge waits and the DRNG has the bits it needs. -/
def drngUp : State :=
  let s := { au.wf secBlk R.SEC_DRNG_STAT_STATE 1 with dbg := { chalWait := true } }
  { s with sec := { s.sec with ent := { s.sec.ent with pool := [1, 2, 3] }, drbg := drbgInit [1] [2] } }
theorem test_auth : debugKey au.lc = some (1, 3) ∧ after .challenge au (fun t => t.rf dlocBlk R.DBG_AUTH_STAT_STATE == 1 && t.dbg.chalWait) = true ∧
    after .challenge { au with dbg := { wait := true } } (fun t => t.rf dlocBlk R.DBG_AUTH_STAT_STATE == 5) = true ∧
    after .challengeReady drngUp (fun t =>
      t.dbg.chal.isSome && !t.dbg.chalWait && t.free == 1 && t.sec.ent.pool == []) = true ∧
    after (.respond noAuth) au (fun t => t.rf dlocBlk R.DBG_AUTH_STAT_RESULT == 2) = true ∧
    after (.respond ⟨77, true, 0⟩) { au with dbg := { chal := some (1, 2) } } (fun t => t.dbg.wait && t.rf dlocBlk R.DBG_AUTH_STAT_AUTH_FAIL_CNT == 1) = true ∧
    after .authFailWaitEnd { au.wf dlocBlk R.DBG_AUTH_STAT_STATE 5 with dbg := { wait := true } } (fun t => !t.dbg.wait &&
      t.rf dlocBlk R.DBG_AUTH_STAT_STATE == 0) = true := by decide +kernel

/-- A life-cycle state with key row `i` holding `v`. -/
def kr (lc i v lv : Nat) : State :=
  let s := (dsn lv).wf secBlk R.SEC_LC_STAT_STATE lc
  { s with sec := { s.sec with present := 2 ^ i, rows := [(i, v)], flags := 2 } }
def rcv (w : Word) : State := ((kr 7 0 77 0).wr (dlocBlk + 0x200) 0x4C434131).wr (dlocBlk + 0x20C) w
theorem test_authKeys : after (.respond ⟨77, true, 0⟩) { (kr 4 1 77 1).wr (dlocBlk + 0x260) 3 with dbg := { chal := some (1, 2) } } (fun t =>
      t.sec.pke == [(3, .respond true 3)] && t.dbg.chal == none) = true ∧
    after .password ((kr 2 5 0x1234 1).wr (dlocBlk + 0x200) 0x1234) (fun t => t.rf dlocBlk R.DBG_SESSION_LEVEL == 2 && t.rf dlocBlk R.DBG_SESSION_METHOD == 3) = true ∧
    after .password ((kr 2 5 0x1234 1).wr (dlocBlk + 0x200) 0x1235) (fun t => t.rf dlocBlk R.DBG_SESSION_LEVEL == 1 && t.dbg.wait) = true ∧
    after (.loadBbkey ⟨77, true, 9⟩) ((kr 3 2 77 2).wr (dlocBlk + 0x200) 0x42424B31) (fun t => t.sec.pke == [(2, .bbkey false true 9)]) = true ∧
    after (.loadBbkey ⟨77, true, 9⟩) ((kr 3 2 77 1).wr (dlocBlk + 0x200) 0x42424B31) (fun t => t.rf dlocBlk R.DBG_AUTH_STAT_RESULT == 3) = true ∧
    after (.recover ⟨77, true, 0⟩) (rcv 0x0507) (fun t => t.sec.pke == [(2, .recover 5)]) = true ∧
    after (.recover ⟨77, true, 0⟩) { rcv 0x0207 with sec := { (rcv 0).sec with lc := [0xFFFFFFFFFF] } } (fun t =>
      t.dbg.wait) = true := by decide +kernel

/-- Field 3 of a level-3 session: halted, or running clock 0. -/
def fh (st : Nat) : State := ((up.wf dlocBlk R.DBG_SESSION_LEVEL 3).wf (fieldPage 3) R.DBG_FLD_STAT_STATE st).setFrt 3 { configured := true, ckEn := 1, we := true, gsr := false, io := true }
def cmdF : Nat := fieldPage 3 + R.DBG_FLD_CMD
theorem test_runControlField : (fh 0).Allows db cmdF true ∧
    after (.dbgFldHalt db 3 0x80000000) (up.wf dlocBlk R.DBG_SESSION_LEVEL 3) (fun t => t.fldState 3 == 1 && t.rf (fieldPage 3) R.DBG_FLD_STAT_HALT_SRC == 1) = true ∧
    after (.dbgFldHalt db 3 0x80000000) (fh 0) (fun t => t.fldState 3 == 0 && t.dbg.halt == [(3, 1, 0)]) = true ∧
    after (.dbgFldRun db 3 0x40000000) (fh 1) (fun t => t.fldState 3 == 0) = true ∧
    after (.dbgFldStep db 3 0x20000000) (fh 1) (fun t => t.fldState 3 == 2 && t.dbg.step == [(3, 257)]) = true ∧
    after (.dbgFldStep db 3 0x20000004) (fh 0) (fun t => t.flag (fieldPage 3) R.DBG_FLD_STAT_CMD_REFUSED) = true := by decide +kernel

theorem test_haltStop : after (.fieldHaltStop 3) { fh 0 with dbg := { halt := [(3, 2, 5)] } } (fun t => t.fldState 3 == 1 && t.dbg.halt == [] &&
      t.rf (fieldPage 3) R.DBG_FLD_STAT_HALT_CH == 5 && t.flag (fieldPage 3) R.FCK_STAT_HALTED) = true ∧
    after (.stepDone 3) { fh 2 with dbg := { step := [(3, 1)] } } (fun t => t.fldState 3 == 1 && t.dbg.step == [] &&
      t.flag (fieldPage 3) R.DBG_FLD_STAT_STEP_DONE) = true ∧
    (fh 1).Allows db (fieldPage 3 + R.DBG_FLD_RB) true ∧
    after (.dbgFldCapture db 3 0x80000000) (fh 1) (fun t => t.flag (fieldPage 3) R.DBG_FLD_STAT_RB_BUSY) = true ∧
    after (.dbgFldCapture db 3 0x80000000) (fh 0) (fun t => t.flag (fieldPage 3) R.DBG_FLD_STAT_RB_REFUSED) = true ∧
    after (.captureDone 3) { (fh 1).setF (fieldPage 3) R.DBG_FLD_STAT_RB_BUSY with fab := { q := [(3 * 262144 + 9, true)] } } (fun t =>
      t.dbg.q == [(3 * 262144 + 9, true)] && t.flag (fieldPage 3) R.DBG_FLD_STAT_RB_DONE && !t.flag (fieldPage 3) R.DBG_FLD_STAT_RB_BUSY) = true := by decide +kernel

/-- Channel 2 of site 4, whose field 3 halts on it and whose tap 1 fires it. -/
def xs : State :=
  let s := ((fh 0).wf (dbgBlk + 0x40) R.DBG_XT_OWN_SITE 4).wf (ownBlk + 12) R.FLD_OWN_SITE 4
  { (s.wr (fieldPage 3 + R.DBG_FLD_TRIG) 0x40000).wr (fieldPage 3 + R.DBG_FLD_TAPOUT) 0x8200 with ttc := 77 }
theorem test_crossTrigger : xs.Allows mg (dbgBlk + R.DBG_XT_PULSE) true ∧ xs.xtOwner 2 = 4 ∧
    after (.dbgXtPulse mg 4) xs (fun t => t.dbg.xt == [(2, 77)] && t.rd (dbgBlk + R.DBG_XT_STAT) == 4 && t.rd64 (dbgBlk + R.DBG_XT_FIRST_LO + 0x40) == 77) = true ∧
    after (.xtTimeCompare 2) ((xs.setF (dbgBlk + 0x40) R.DBG_XT_TCTRL_ARM).wr64 (dbgBlk + 0x40 + R.DBG_XT_TIME_LO) 77) (fun t => t.dbg.xt == [(2, 77)] &&
      !t.flag (dbgBlk + 0x40) R.DBG_XT_TCTRL_ARM) = true ∧
    xs.tapMap (fieldPage 3 + R.DBG_FLD_TAPOUT) 1 = some 2 ∧ xs.fieldInReset 3 = false ∧ xs.fieldHalted 3 = false ∧
    after (.triggerTapOut 3 1) { xs with fab := { xs.fab with design := [(3, { taps := true })] } } (fun t => t.dbg.xt == [(2, 77)]) = true ∧
    after (.xtEventArrive 2) { xs with dbg := { xt := [(1, 5), (2, 77)] } } (fun t => t.dbg.xt == [(1, 5)] && t.dbg.halt == [(3, 2, 2)]) = true ∧
    after (.xtEventArrive 2) { xs.setFrt 3 {} with dbg := { xt := [(1, 5), (2, 77)] } } (fun t => t.fldState 3 == 1 &&
      t.rf (fieldPage 3) R.DBG_FLD_STAT_HALT_SRC == 2 && t.rf (fieldPage 3) R.DBG_FLD_STAT_HALT_CH == 2) = true := by decide +kernel

/-- Channel 8 bound between the function of site 0 and Commons, which runs, with words for Commons. -/
def mx (l : List Word) : State :=
  let s := (up.wr (mbxHub + 32) 0x800000C1).wf mbxHub R.COMMONS_HB_STATE 1
  { s with host := { s.host with mbx := [(8, { toB := l })] } }
/-- A request in the journal of channel 8 from PF0. -/
def rq (g k : Nat) (args : List Word) : CmdReq :=
  { snd := .p, hdr := BitVec.ofNat 32 (g * 2 ^ 24 + k * 2 ^ 16 + 7 * 256 + args.length), args := args, whole := true }
/-- With it in the journal. -/
def jn (s : State) (q : CmdReq) : State := { s with com := { s.com with req := [(8, some q)] } }

theorem test_headerPop : (mx []).cmnSide 8 = some true ∧ (mx []).senderOf ((mx []).cmnPeer 8) = some (.s 0) ∧
    after (.commonsHeaderPop 8) (mx [0x01010502, 3, 4, 5]) (fun t => t.cmnIn 8 true == [5] && t.com.next == 1 &&
      t.cmdReq 8 == some ⟨.s 0, 0x01010502, [3, 4], true, 0, 0, [], none⟩) = true ∧
    after (.commonsHeaderPop 8) (mx [0x01010502, 3]) (fun t => t.cmdReq 8 == some ⟨.s 0, 0x01010502, [3], false, 0, 0, [], none⟩ &&
      after (.commonsLengthTimeout 8) t (fun u => u.cmnOut 8 true == [0x01810501, 5] && u.cmdReq 8 == none)) = true ∧
    after (.commonsHeaderPop 8) (mx [0x010105FF, 3, 4]) (fun t => t.cmnIn 8 true == [] && t.cmnOut 8 true == [0x00800001, 2]) = true ∧
    after (.commonsHeaderPop 8) (mx [0x0D010500]) (fun t => t.cmnOut 8 true == [0x0D810501, 3]) = true ∧
    after (.commonsHeaderPop 8) (mx [0x01810500]) (fun t => t.cmnOut 8 true == [0x01810501, 4]) = true ∧
    after (.commonsHeaderPop 8) (mx [0x01020501, 9]) (fun t => t.cmnOut 8 true == [0x01820501, 5]) = true := by decide +kernel

theorem test_headerMore : after (.commonsHeaderPop 8) (jn (mx [4]) { rq 1 1 [3, 4] with args := [3], whole := false }) (fun t =>
      (t.cmdReq 8).map (fun q => (q.args, q.whole)) == some ([3, 4], true)) = true ∧
    after (.commonsHeaderPop 8) (jn (mx []) { rq 1 1 [] with resp := some [1, 2] }) (fun t => t.cmdReq 8 == none && t.cmnOut 8 true == [1, 2]) = true := by
  decide +kernel

def rs45 : State := { (jn (mx []) { rq 7 1 [] with phase := 1 }).wf mbxHub R.COMMONS_HB_STATE 2 with cores := { core := [(1, { live := [3] })] } }
theorem test_restartComplete : rs45.journals 8 { rq 7 1 [] with phase := 1 } ∧ after (.commonsRestartComplete 9) rs45 (fun t => t.hbState == 1 &&
      t.rf mbxHub R.COMMONS_HB_SEQ == 9 && t.cmdReq 8 == none && t.cmnOut 8 true == [0x07810701, 0x10001] && t.coreState 1 == 1 && (t.core 1).live == []) = true := by
  unfold State.journals; decide +kernel

/-- What channel 8 is answered: STATUS and DETAIL, and result words. -/
def ans (i : Instr) (s : State) : List Word := match exec i s with | .next t => (t.cmnOut 8 true).drop 1 | _ => []
/-- The request runs. -/
def runs (s : State) (g k : Nat) (q : CmdReq) : Bool := !s.deaf && s.hbState == 1 && s.cmdReq 8 == some q && q.group == g && q.cmd == k &&
  q.whole && q.resp.isNone && !s.cmdBlocked 8 q
def from8 (d : Sender) (q : CmdReq) : State := jn (mx []) { q with snd := d }
theorem test_rights : runs (from8 (.s 0) (rq 2 1 [5])) 2 1 { rq 2 1 [5] with snd := .s 0 } = true ∧ ans (.siteCreate 8) (from8 (.s 0) (rq 2 1 [5])) = [7] ∧
    ans (.linkStatus 8) (from8 .g (rq 4 3 [5])) = [7] ∧ ans (.siteTcrit 8) (from8 (.s 0) (rq 2 8 [5])) = [7] ∧
    ans (.linkDown 8) (from8 (.s 0) (rq 4 2 [5])) = [11] ∧ ans (.millAbort 8) (from8 (.s 0) (rq 7 3 [5])) = [11] ∧
    ans (.tallyStatus 8) (from8 .p (rq 6 2 [5])) = [9] ∧ ans (.tallyStatus 8) ((from8 .p (rq 6 2 [5])).wf (siteBlk 5) R.SITE_STAT_STATE 2) = [8] ∧
    ans (.linkDown 8) (((from8 .p (rq 4 2 [5])).wf (siteBlk 3) R.SITE_STAT_STATE 2).wf (linkBlk 5) R.LINK_OWNER_SITE 3) = [8] ∧
    ans (.millAbort 8) (((from8 .p (rq 7 3 [5])).wf (siteBlk 3) R.SITE_STAT_STATE 2).wf (millBlk 5) R.MILL_OWNER_SITE 3) = [8] ∧
    ans (.sysMode 8) (from8 (.s 0) (rq 1 3 [1])) = [7] := by decide +kernel

/-- A link command behind an earlier one on the same link waits. -/
def beh : State := { mx [] with com := { req := [(8, some { rq 4 3 [5] with seq := 2 }), (9, some { rq 4 2 [5] with seq := 1 })] } }
theorem test_blocked : beh.cmdBlocked 8 { rq 4 3 [5] with seq := 2 } = true ∧ after (.linkStatus 8) beh (fun t => decide (t = beh)) = true ∧
    after (.linkDown 9) beh (fun t => t.cmdReq 9 == none) = true := by decide +kernel

/-- Site `n` in a state. -/
def sst (n st : Nat) (s : State) : State := s.wf (siteBlk n) R.SITE_STAT_STATE st
def cm (q : CmdReq) : State := jn (mx []) q
/-- Timing-critical field 0 at 4000 MHz. -/
def hot0 (s : State) : State :=
  (((s.setF (fieldPage 0) R.FCK_TCRIT_TCRIT).wf (fieldPage 0) R.FCK_CTRL_MULT 40).wf (fieldPage 0) R.FCK_DIV_DIV 1).setFrt 0 { configured := true, ckEn := 1 }
theorem test_sys : runs (cm (rq 1 1 [3, 4])) 1 1 (rq 1 1 [3, 4]) = true ∧ ans (.sysPing 8) (cm (rq 1 1 [3, 4])) = [0, 3, 4] ∧
    ans (.sysTime 8) { cm (rq 1 4 []) with ttc := 5, cal := 3000000007 } = [0, 5, 0, 0xC0000007, 0] ∧
    ans (.sysMode 8) (cm (rq 1 3 [3])) = [0x10006] ∧
    after (.sysMode 8) { cm (rq 1 3 [0]) with cfg := { groups := [{ id := 1, kind := 2, site := 0, chan := 0, pass := 3 }] } } (fun t => t.cmdReq 8 == some (rq 1 3 [0])) = true ∧
    ans (.sysMode 8) (hot0 (cm (rq 1 3 [0]))) = [0x100000D] ∧
    after (.sysMode 8) (cm (rq 1 3 [2])) (fun t => t.mode == .harvest && t.start.mode == none) = true := by decide +kernel

theorem test_createDestroy : ans (.siteCreate 8) (cm (rq 2 1 [5])) = [0] ∧ after (.siteCreate 8) (cm (rq 2 1 [5])) (fun t => t.siteState 5 == 1) = true ∧
    ans (.siteCreate 8) (sst 5 1 (cm (rq 2 1 [5]))) = [13] ∧ ans (.siteCreate 8) (cm (rq 2 1 [70])) = [0x10006] ∧
    after (.siteCreate 8) (sst 5 2 (cm (rq 2 1 [5]))) (fun t => t.cmdReq 8 == some (rq 2 1 [5])) = true ∧
    ans (.siteDestroy 8) (cm (rq 2 2 [5])) = [9] ∧
    after (.siteDestroy 8) (sst 5 1 (cm (rq 2 2 [5]))) (fun t => t.siteState 5 == 2 && (t.cmdReq 8).map (·.phase) == some 1) = true := by decide +kernel

/-- Site 5 owns field 3, a fabric-port channel bound to it, and link 9. -/
def own5 (q : CmdReq) : State :=
  let s := ((sst 5 1 (cm q)).wf (ownBlk + 12) R.FLD_OWN_SITE 5).wf (linkBlk 9) R.LINK_OWNER_SITE 5
  s.wr (mbxHub + R.MBX_FPBIND) 0x80000103
theorem test_strip : (own5 (rq 2 2 [5])).fpOwner 0 = 5 ∧ runs (own5 { rq 2 2 [5] with phase := 1 }) 2 2 { rq 2 2 [5] with phase := 1 } = true ∧
    (own5 (rq 2 2 [5])).siteState 5 = 1 ∧ ((own5 (rq 2 2 [5])).takeOne 0 3).fieldOwner 3 = 0x7F ∧
    (((own5 (rq 2 2 [5])).takeOne 0 3).takeOne 6 80).rd (mbxHub + R.MBX_FPBIND) = 0 ∧ ((own5 (rq 2 2 [5])).takeOne 2 9).linkOwner 9 = 0x7F := by
  decide +kernel

theorem test_cmdReset : after (.siteReset 8) (sst 5 1 (cm (rq 2 5 [0x705]))) (fun t => t.siteState 5 == 2 && (t.srt 5).reload &&
      (t.cmdReq 8).map (·.phase) == some 1) = true ∧
    after (.siteReset 8) (sst 5 1 (cm (rq 2 5 [5]))) (fun t => t.siteState 5 == 2 && t.cmdReq 8 == none) = true ∧
    after (.siteReset 8) ((sst 5 1 (cm (rq 2 5 [0x805]))).setF (siteBlk 5) R.SITE_STAT_HELD) (fun t => t.siteState 5 == 1 &&
      !t.flag (siteBlk 5) R.SITE_STAT_HELD && t.cmdReq 8 == none) = true := by decide +kernel

/-- A request of GRANT or REVOKE. -/
def sp (k n t cnt first arg : Nat) : CmdReq := rq 2 k [BitVec.ofNat 32 (n + t * 256 + cnt * 65536), BitVec.ofNat 32 (first + arg * 65536)]
/-- With site 5 LIVE. -/
def s5 (q : CmdReq) : State := sst 5 1 (cm q)
/-- What is answered and whether the state meets a test. -/
def gives (i : Instr) (s : State) (ws : List Word) (f : State → Bool) : Bool := after i s (fun t => (t.cmnOut 8 true).drop 1 == ws && f t)
theorem test_grant : (sp 3 5 2 2 8 0).span = (5, 2, 2, 8, 0) ∧ ((s5 (sp 3 5 2 2 8 0)).spanArg (sp 3 5 2 2 8 0)).all (fun x => !x.1) = true ∧
    ((s5 (sp 3 5 2 2 8 0)).spanDies 2 8 2).all (fun x => !x.1) = true ∧
    gives (.siteGrant 8) (s5 (sp 3 5 2 2 8 0)) [0] (fun t => t.linkOwner 8 == 5 && t.linkOwner 9 == 5 && t.linkOwner 10 == 0x7F) = true ∧
    gives (.siteGrant 8) ((s5 (sp 3 5 2 2 8 0)).wf (linkBlk 9) R.LINK_OWNER_SITE 6) [0x1000A] (fun t => t.linkOwner 8 == 0x7F) = true ∧
    gives (.siteGrant 8) (s5 (sp 3 5 1 1 7 0)) [0] (fun t => t.granOwner 7 == 5 && t.flag (siteBlk 5) R.SITE_STAT_GRANT_CHG) = true ∧
    gives (.siteGrant 8) (s5 (sp 3 5 3 1 700 0)) [0] (fun t => t.resourceOwner 3 700 == 5) = true ∧
    gives (.siteGrant 8) (s5 (sp 3 5 4 1 60 0)) [0] (fun t => t.millOwner 60 == 5) = true ∧
    gives (.siteGrant 8) (s5 (sp 3 5 5 1 3071 0)) [0] (fun t => t.dramOwner 3071 == 5) = true ∧
    gives (.siteGrant 8) ((s5 (sp 3 5 6 1 81 3)).wf (ownBlk + 12) R.FLD_OWN_SITE 5) [0] (fun t => t.fpOwner 1 == 5) = true := by decide +kernel

theorem test_grantField : gives (.siteGrant 8) (s5 (sp 3 5 0 1 3 0)) [0] (fun t => t.fieldOwner 3 == 5 && !(t.frt 3).configured) = true := by decide +kernel

theorem test_revoke : gives (.siteRevoke 8) ((s5 (sp 4 5 2 1 8 0)).wf (linkBlk 8) R.LINK_OWNER_SITE 5) [0] (fun t => t.linkOwner 8 == 0x7F) = true ∧
    gives (.siteRevoke 8) (s5 (sp 4 5 2 1 8 0)) [0xB] (fun t => t.linkOwner 8 == 0x7F) = true ∧
    gives (.siteRevoke 8) ((s5 (sp 4 5 3 1 8 0)).wr (granReg 0 8) 0x85) [0xD] (fun t => t.resourceOwner 3 8 == 5) = true ∧
    gives (.siteRevoke 8) (own5 (sp 4 5 0 1 3 0)) [0] (fun t => t.fieldOwner 3 == 0x7F && t.cfgRec 3 == none) = true := by decide +kernel

theorem test_service : gives (.siteService 8) (own5 (rq 2 6 [0x10032005, 0])) [0] (fun t => t.share 5 == 32 && t.flag (siteBlk 5) R.SITE_RIGHTS_BELL &&
      t.rf (siteBlk 5) R.SITE_RIGHTS_TCRIT_MAX == 16 && t.flag (fieldStop 3) ⟨4, 31, 31⟩ && t.flag (linkBlk 9) R.LINK_OWNER_INJ) = true ∧
    gives (.siteService 8) (own5 (rq 2 6 [0x0000C105, 0])) [0x1000C] (fun t => t.share 5 == 0) = true ∧
    gives (.siteService 8) ((own5 (rq 2 6 [5, 0])).wf (siteBlk 5) R.SITE_RIGHTS_TCRIT_USED 1) [0x3000C] (fun t => t.share 5 == 0) = true ∧
    gives (.siteService 8) ((List.range 17).foldl (fun s i => s.wf (ownBlk + 4 * (i + 4)) R.FLD_OWN_SITE 5) (own5 (rq 2 6 [0x10005, 0x1E])))
      [0x2000C] (fun t => t.share 5 == 0) = true := by decide +kernel

def qry (n : Nat) : CmdReq := rq 2 7 [5, 0, 0, BitVec.ofNat 32 n]
theorem test_query : ((s5 (qry 556)).bufArg (qry 556) 2).all (fun x => !x.1) = true ∧ gives (.siteQuery 8 .ok) (s5 (qry 555)) [0x4000E] (fun _ => true) = true ∧
    gives (.siteQuery 8 .inReset) (s5 (qry 556)) [8] (fun _ => true) = true ∧ gives (.siteQuery 8 .noTarget) (s5 (qry 556)) [0x2000F] (fun _ => true) = true ∧
    ((own5 (qry 556)).queryBytes 5).getD 0 0 = 8 ∧ gives (.siteQuery 8 .ok) (s5 (qry 556)) [0, 1, 556] (fun _ => true) = true := by decide +kernel

def tc (v : Word) (mx : Nat) : State := (own5 (rq 2 8 [v])).wf (siteBlk 5) R.SITE_RIGHTS_TCRIT_MAX mx
theorem test_tcrit : gives (.siteTcrit 8) (tc 0x10305 1) [0, 1] (fun t => t.flag (fieldPage 3) R.FCK_TCRIT_TCRIT) = true ∧
    gives (.siteTcrit 8) (tc 0x10305 0) [0xC] (fun t => !t.flag (fieldPage 3) R.FCK_TCRIT_TCRIT) = true ∧
    gives (.siteTcrit 8) (tc 0x10405 1) [0xB] (fun _ => true) = true ∧ gives (.siteTcrit 8) (tc 0x305 0) [0, 0] (fun _ => true) = true := by decide +kernel

def ld : CmdReq := rq 3 1 [5, 0, 0, 4096]
def rl (m : State) (fi : Option FieldImg) : State := (m.setCfgRec 3 fi 2).wf cfgBlk R.CFG_SCRUB_EN 1
theorem test_conf : ((own5 ld).siteArg ld 5 true false).all (fun x => !x.1) = true ∧ ((own5 ld).bufArg ld 2).all (fun x => !x.1) = true ∧
    after (.confLoad 8) (own5 ld) (fun t => t.cfg.groups == [{ id := 1, kind := 2, site := 5, chan := 8, pass := 1 }] &&
      (t.cmdReq 8).map (·.phase) == some 1) = true ∧
    gives (.confReload 8) (own5 (rq 3 2 [0x305])) [0x11] (fun _ => true) = true ∧
    after (.confReload 8) (rl (own5 (rq 3 2 [0x305])) (some (fi up4))) (fun t => t.cfg.groups.map (·.imgs) == [[(3, fi up4)]] &&
      (t.cmdReq 8).map (·.phase) == some 1) = true ∧
    gives (.confLoad 8) { own5 { ld with phase := 1 } with cfg := { ends := [(8, 0, 0, 4)] } } [0, 4, 0] (fun t => t.cfg.ends == []) = true ∧
    gives (.confReload 8) { own5 { rq 3 2 [0x305] with phase := 1 } with cfg := { ends := [(8, 20, 0, 0)] } } [20] (fun t => t.cfg.ends == []) = true := by
  decide +kernel

/-- Word 9 of block memory 2 of field 1, and line 300 of granary 4. -/
def rmb : CmdReq := rq 3 3 [0, 0x90062]
def rmg : CmdReq := rq 3 3 [1, 0x12C04]
def rme (w : Word) : Nat := fieldPage 1 + R.BM_REMAP + 4 * (4 * 2 + w.toNat)
theorem test_remap : gives (.confRemap 8 true) (cm rmb) [0, 3] (fun t => t.bmRemap 1 2 0 == 0xC0000009 && t.ledger == [⟨0, true, 0x90062⟩]) = true ∧
    gives (.confRemap 8 false) (cm rmb) [20] (fun t => t.bmRemap 1 2 0 == 0 && t.ledger == []) = true ∧
    gives (.confRemap 8 true) ((cm rmb).wr (rme 1) 0x80000009) [13] (fun t => t.ledger == []) = true ∧
    gives (.confRemap 8 true) ((((cm rmb).wr (rme 0) 0x80000001).wr (rme 1) 0x80000002 |>.wr (rme 2) 0x80000003).wr (rme 3) 0x80000004) [12] (fun _ => true) = true ∧
    gives (.confRemap 8 true) (cm rmg) [0, 15] (fun t => t.grRemap 4 0 == 0xC000012C && t.ledger == [⟨1, true, 0x12C04⟩]) = true ∧
    gives (.confLedger 8 .ok) { cm (rq 3 4 [64, 0, 24]) with ledger := [⟨1, true, 7⟩] } [0, 1] (fun t =>
      t.outs.contains (.bufWrite 64 [1, 1, 0, 0, 7, 0, 0, 0])) = true := by decide +kernel

/-- UP of lane 9 with the quad's second PLL at 24.0 Gb/s, in mode LLP. -/
def lu : CmdReq := rq 4 1 [0x00F00809, 0x80050203]
def l5 (q : CmdReq) : State := own5 { q with snd := .s 5 }
theorem test_link : ((l5 lu).linkArg { lu with snd := .s 5 }).all (fun x => !x.1) = true ∧ ({ lu with snd := .s 5 } : CmdReq).eqArg.all (fun x => !x.1) = true ∧
    (l5 lu).fastLanes = 0 ∧ gives (.linkUp 8) (l5 lu) [0, 0x10000000] (fun t => t.laneState 9 == 1 && t.pllN 2 true == 240 && t.pllN 2 false == 320 &&
      t.rd (laneBlk 9 + R.LANE_TXEQ) == 0x50203 && t.rd (laneBlk 9 + R.LANE_CTRL) == 0x90000000) = true ∧
    gives (.linkDown 8) (((l5 (rq 4 2 [9])).wf (laneBlk 9) R.LANE_STAT_STATE 6).setF (laneBlk 9) R.LANE_CTRL_EN) [0] (fun t => t.laneState 9 == 0 &&
      !t.flag (laneBlk 9) R.LANE_CTRL_EN) = true ∧
    gives (.linkStatus 8) ((l5 (rq 4 3 [9])).wr (laneBlk 9 + R.LANE_EYE) 5) [0, 0, 0, 0, 5] (fun _ => true) = true ∧
    gives (.linkEq 8) (l5 (rq 4 4 [9, 0x80050203])) [0] (fun t => t.rd (laneBlk 9 + R.LANE_TXEQ) == 0x50203 && t.flag (laneBlk 9) R.LANE_RXEQ_FREEZE) = true := by
  decide +kernel

theorem test_fcuRoute : gives (.fcuRoute 8) ((l5 (rq 5 1 [9, 0x84A00003])).wf (ownBlk + 4 * 8) R.FLD_OWN_SITE 5) [0, 0x84A00003] (fun t =>
      t.rd (lrBlk 9 + R.LR_CTRL) == 0x84A00003) = true ∧
    gives (.fcuRoute 8) (((l5 (rq 5 1 [9, 0x00A00003])).setF (lrBlk 10) R.LR_CTRL_PORT_EN).wf (lrBlk 10) R.LR_CTRL_PORT_FIELD 1) [13] (fun _ => true) = true := by
  decide +kernel

/-- A window of field 3, which site 5 owns; a granule of DRAM. -/
def wn : Word := 0xC0000100
theorem test_fcuAddr : (own5 (rq 5 2 [])).windowOf (0x1200C0000100) 5 = true ∧
    gives (.fcuAddr 8) (l5 (rq 5 2 [0x209, wn, 0x1200])) [0] (fun t => t.rd64 (lrBlk 9 + R.LR_RX_ADDR_LO) == 0x1200C0000100) = true ∧
    gives (.fcuAddr 8) (l5 (rq 5 2 [0x209, 0, 0x1201])) [0x2000E] (fun _ => true) = true ∧
    gives (.fcuAddr 8) ((l5 (rq 5 2 [0x140609, 0x40100000, 0])).wf (dramHub + 4) R.DRAM_OWN_SITE 5) [0] (fun t =>
      t.rd64 (lrBlk 9 + R.LR_LOG_BASE_LO) == 0x40100000 && t.lrF 9 R.LR_CFG_LOG_SIZE == 20) = true := by decide +kernel

def fg (q : CmdReq) : State := ((l5 q).wr (granReg 0 3) 0x985).wr (granReg 0 4) 0x985
theorem test_fcuClear : (fg (rq 5 3 [9])).heldGrans 9 = [3, 4] ∧ runsOf [3, 4] = [3, 4] ∧
    after (.fcuClear 8) (fg (rq 5 3 [9])) (fun t => (t.fcu 0).clr == some (3, 4, 3, 0) && (t.cmdReq 8).map (·.mem) == some [0, 2]) = true ∧
    gives (.fcuClear 8) (l5 (rq 5 3 [9])) [0, 0] (fun _ => true) = true ∧
    gives (.fcuClear 8) (l5 { rq 5 3 [9] with phase := 1, mem := [0, 2] }) [0, 2] (fun _ => true) = true ∧
    gives (.fcuClear 8) { (l5 { rq 5 3 [9] with phase := 1, mem := [0, 2] }).setF (fcuBlk 0) R.FCU_STAT_CLR_BUSY with now := 1000001 } [16] (fun _ => true) = true ∧
    gives (.fcuLogrst 8) ((l5 (rq 5 4 [9])).wr (lrBlk 9 + R.LR_LOG_RPTR) 48) [0] (fun t => t.rd (lrBlk 9 + R.LR_LOG_RPTR) == 0) = true := by decide +kernel

theorem test_tallyCmd : gives (.tallyConfig 8) ((l5 (rq 6 1 [0x640705, wn, 0x1200])).setF (siteBlk 5) R.SITE_RIGHTS_BELL) [0] (fun t =>
      t.rd (tallyBlk 5 + R.TALLY_CTRL) == 0xE0000064 && t.rd64 (tallyBlk 5 + R.TALLY_FAB_ADDR_LO) == 0x1200C0000100) = true ∧
    gives (.tallyConfig 8) (l5 (rq 6 1 [0x640705, wn, 0x1200])) [7] (fun _ => true) = true ∧
    gives (.tallyStatus 8) ((l5 (rq 6 2 [5])).wr (tallyBlk 5 + R.TALLY_RES_LO) 9) [0, 9, 0, 0, 0] (fun _ => true) = true := by decide +kernel

/-- Engine 7 of site 5 in a state. -/
def m7 (q : CmdReq) (st : Nat) : State := (((l5 q).wf (millBlk 7) R.MILL_OWNER_SITE 5).wf (millBlk 7) R.MILL_STAT_STATE st).wf (dramHub + 4) R.DRAM_OWN_SITE 5
theorem test_millCmd : gives (.millStart 8) (m7 (rq 7 1 [7, 0x40000100, 0]) 0) [0] (fun t => t.millState 7 == 1 && t.rd64 (millBlk 7 + R.MILL_DESC_LO) == 0x40000100) = true ∧
    gives (.millStart 8) (m7 (rq 7 1 [7, 0x40000100, 0]) 2) [13] (fun _ => true) = true ∧
    gives (.millClose 8) (m7 (rq 7 2 [7]) 2) [0] (fun t => (t.millE 7).closed) = true ∧ gives (.millClose 8) (m7 (rq 7 2 [7]) 1) [13] (fun _ => true) = true ∧
    after (.millAbort 8) (m7 (rq 7 3 [7]) 2) (fun t => t.millState 7 == 5 && t.rf (millBlk 7) R.MILL_STAT_ERR == 6 && (t.cmnOut 8 true).length == 3) = true ∧
    after (.millAbort 8) (m7 (rq 7 3 [7]) 0) (fun t => t.millState 7 == 0 && (t.cmnOut 8 true).length == 3) = true ∧
    after (.millStatus 8) (m7 (rq 7 4 [7]) 0) (fun t => t.cmnOut 8 true == [0x07840707, 0, 0, 0, 0, 0, 0, 0]) = true := by decide +kernel

theorem test_dramCmd : gives (.dramPorts 8) (s5 (rq 8 1 [5, 0x1234, 0x02580083])) [0] (fun t => t.rd (dramHub + R.DRAM_PORTMAP + 20) == 0x1234 &&
      t.rf (ddrBlk 11 + 12) R.DDR_PORT_RESV == 8 && t.rf (ddrBlk 0 + 12) R.DDR_PORT_TARGET == 600) = true ∧
    gives (.dramPorts 8) ((s5 (rq 8 1 [5, 0x1234, 0x02580083])).wf (ddrBlk 7 + 16) R.DDR_PORT_RESV 41) [0x7000C] (fun _ => true) = true ∧
    gives (.dramStatus 8) ((s5 (rq 8 2 [])).wf (rankBlk 3 2) R.DDR_RANK_STATE 5) [0, (s5 (rq 8 2 [])).rd (dramHub + R.DRAM_INTLV), 8, 0] (fun _ => true) = true ∧
    gives (.dramPatrol 8) (s5 (rq 8 4 [0x00020107])) [0] (fun t => t.rf (ddrBlk 1) R.DDR_PATROL_PERIOD == 7 && t.rf (ddrBlk 1) R.DDR_PATROL_FIX == 1 &&
      t.rf (ddrBlk 0) R.DDR_PATROL_PERIOD == 24) = true := by decide +kernel

/-- Channel 3 ACTIVE with set point 1 trained. -/
def fq (q : CmdReq) : State := (((s5 q).wf (ddrBlk 3) R.DDR_STAT_STATE 2).setF (fspBlk 3 1) R.DDR_FSP0_TRAINED).wf (fspBlk 3 1) R.DDR_FSP0_RATE 0
theorem test_freqCmd : (fq (rq 8 3 [0x80001])).fspOk 3 1 = true ∧ runs (fq (rq 8 3 [0x80001])) 8 3 (rq 8 3 [0x80001]) = true ∧ (fq (rq 8 3 [0x80001])).ddrState 3 = 2 ∧
    gives (.dramFreq 8) (fq (rq 8 3 [0x80002])) [0x3000D] (fun t => t.flag (ddrBlk 3) R.DDR_STAT_FREQ_REFUSED) = true ∧
    gives (.dramFreq 8) (fq { rq 8 3 [0x80001] with phase := 1, mem := [3, 8] }) [0, 8] (fun _ => true) = true ∧
    after (.dramFreq 8) ((fq { rq 8 3 [0x80001] with phase := 1, mem := [3, 8] }).wf (ddrBlk 3) R.DDR_STAT_STATE 3) (fun t =>
      t.cmdReq 8 == some { rq 8 3 [0x80001] with phase := 1, mem := [3, 8] }) = true := by decide +kernel

/-- Key slot 9 as its tests have it, with a request of site 9's in the journal and the Reeve and the DRNG running. -/
def e9 (s : State) (q : CmdReq) : State :=
  let s := ((s.wr (mbxHub + 32) 0x800000C1).wf mbxHub R.COMMONS_HB_STATE 1).wf (siteBlk 9) R.SITE_STAT_STATE 1
  let s := (s.wf mgmtBlk R.REEVE_STAT_STATE 1).wf secBlk R.SEC_DRNG_STAT_STATE 1
  jn { s with sec := { s.sec with ent := { s.sec.ent with pool := [1, 2, 3] }, drbg := ⟨List.replicate 32 0, List.replicate 16 0, 1⟩ } }
    { q with snd := .s 9 }
theorem test_secCmd : ((e9 en (rq 9 1 [9, 0x10000, 1])).siteArg { rq 9 1 [9] with snd := .s 9 } 9 true false).all (fun x => !x.1) = true ∧
    (e9 en (rq 9 1 [9, 0x10001, 1])).encRule 9 1 1 1 = some 3 ∧ (e9 en (rq 9 1 [9, 0x10000, 1])).encRule 9 0 1 1 = none ∧
    gives (.secEncOn 8) (e9 en (rq 9 1 [9, 0x10001, 1])) [0x3000C] (fun t => t.flag (encBlk 9) R.ENC_STAT_REFUSED && t.encState 9 == 0) = true ∧
    after (.secEncOn 8) (e9 en (rq 9 1 [9, 0x10000, 1])) (fun t => t.encState 9 == 1 && t.encD 9 == 1 && t.sec.ent.pool == []) = true ∧
    gives (.secEncOff 8) (e9 (ea {}) (rq 9 2 [9])) [0] (fun t => t.encState 9 == 0) = true ∧
    after (.secRandom 8) (e9 en (rq 9 3 [2])) (fun t => t.sec.drbg.calls == 2 && (t.cmnOut 8 true).length == 4) = true ∧
    gives (.secRandom 8) (e9 en (rq 9 3 [14])) [0x10006] (fun _ => true) = true := by decide +kernel

def lcq : CmdReq := rq 9 4 [1, 0, 0, 4096]
def la (sg : BitVec 384) : LcAuth := { magic := 0x4C434131, uid := 0, src := 0, dst := 1, provLen := 0, signer := sg, prov := pv0 }
def lq (q : CmdReq) : State := { (cm q).wf mgmtBlk R.REEVE_STAT_STATE 1 with sec := { present := 1, rows := [(0, 77)] } }
theorem test_lifecycleCmd : (lq lcq).lc = 0 ∧ (lq lcq).lcAuthOk (la 77) = true ∧
    gives (.secLifecycle 8 (la 78) .ok) (lq lcq) [18] (fun _ => true) = true ∧
    after (.secLifecycle 8 (la 77) .ok) (lq lcq) (fun t => t.sec.pke == [(2, .lifecycle 1 8 pv0)] && (t.cmdReq 8).map (·.phase) == some 1) = true ∧
    gives (.secLifecycle 8 (la 77) .ok) (lq (rq 9 4 [3, 0, 0, 4096])) [0x10006] (fun _ => true) = true ∧
    gives (.secLifecycle 8 (la 77) .ok) { lq { lcq with phase := 1 } with sec := { ends := [(8, 0, 0)] } } [0, 0] (fun t => t.sec.ends == []) = true ∧
    gives (.secLifecycle 8 (la 77) .ok) { lq { lcq with phase := 1 } with sec := { ends := [(8, 18, 0)] } } [18] (fun t => t.sec.ends == []) = true := by
  decide +kernel

theorem test_monCmd : gives (.monRead 8) ((cm (rq 10 1 [0x105])).wr (monBlk + R.MON_SMP + 24) 9) [0, 0, 9] (fun _ => true) = true ∧
    gives (.monRead 8) (cm (rq 10 1 [0xF05])) [0x10006] (fun _ => true) = true ∧
    gives (.monConfig 8) (cm (rq 10 2 [0xA91])) [0] (fun t => t.rf (monBlk + 4 * 145) R.MON_CH_GAIN == 2 && t.rf (monBlk + 4 * 145) R.MON_CH_OSR == 2) = true ∧
    gives (.monConfig 8) (cm (rq 10 2 [0xA05])) [0x10006] (fun _ => true) = true ∧
    gives (.monPower 8) (((cm (rq 10 3 [])).wr (startBlk + R.PWR_MEAS) 7).wf startBlk R.PWR_CAP_CAP_W 300) [0, 7, 300000, 256] (fun _ => true) = true := by decide +kernel

def pr (n code : Nat) : PRec := ⟨n, 5, 5, code, 0, 0, 0x7F, 1, 0⟩
/-- Records 4 and 5 in the hub ring, 6 staged. -/
def ps (q : CmdReq) : State :=
  let s := (cm q).wr (parishBlk + R.PAR_SEQ_NEW) 6 |>.wr (parishBlk + R.PAR_SEQ_OLD) 4
  { s with par := { staging := [pr 6 9], ring := [(4, some (pr 4 7)), (5, some (pr 5 8))], next := 7, any := true } }
def rd5 (n : Word) : CmdReq := rq 11 1 [4, n, 64, 0, 4096]
theorem test_parishCmd : ((ps (rd5 2)).bufArg (rd5 2) 3).all (fun x => !x.1) = true ∧ ((ps (rd5 2)).heldFrom 4).map (·.seq) = [4, 5, 6] ∧
    gives (.parishRead 8 .ok) (ps (rd5 2)) [0, 2, 6] (fun t => t.outs.contains (.bufWrite 64 (recBytes (pr 4 7) ++ recBytes (pr 5 8)))) = true ∧
    gives (.parishRead 8 .ok) (ps (rd5 9)) [0, 3, 7] (fun _ => true) = true ∧
    after (.parishMark 8) (ps (rq 11 2 [5])) (fun t => t.rd (parishBlk + R.PAR_MARK) == 5 && t.cmdReq 8 == none && (t.par.staging.map (·.code)) == [9, 2]) = true ∧
    gives (.parishMark 8) (ps (rq 11 2 [9])) [17] (fun _ => true) = true ∧
    gives (.parishStatus 8) (ps (rq 11 3 [])) [0, 4, 6, 0] (fun _ => true) = true := by decide +kernel

def sq (q : CmdReq) : State := { (cm q).wf mgmtBlk R.REEVE_STAT_STATE 1 with cores := { slotA := ⟨true, 3, 0, 9⟩, slotB := ⟨true, 2, 0, 8⟩ } }
def up2 : CmdReq := rq 12 2 [1, 0, 0, 4096]
theorem test_fwCmd : gives (.fwVersion 8) (sq (rq 12 1 [])) [0, 0, 3, 2, 9, 0] (fun _ => true) = true ∧
    gives (.fwUpdate 8 ⟨true, 0, 1, 7⟩ .ok true) (sq up2) [0, 4] (fun t => t.cores.slotB == ⟨true, 4, 1, 7⟩ && t.cores.slotA == ⟨true, 3, 0, 9⟩) = true ∧
    gives (.fwUpdate 8 ⟨true, 0, 1, 7⟩ .ok false) (sq up2) [20] (fun t => t.cores.slotB == ⟨false, 2, 0, 8⟩) = true ∧
    gives (.fwUpdate 8 ⟨false, 0, 1, 7⟩ .ok true) (sq up2) [18] (fun t => t.cores.slotB == ⟨true, 2, 0, 8⟩) = true ∧
    gives (.fwUpdate 8 ⟨true, 0, 1, 7⟩ .ok true) (sq (rq 12 2 [0, 0, 0, 4096])) [13] (fun _ => true) = true ∧
    gives (.fwRestart 8) (sq (rq 12 3 [3])) [0] (fun t => t.hbState == 2 && t.rf mgmtBlk R.CMN_RST_STAT_SLOT == 1 && t.cmdReq 8 == none &&
      t.rf mgmtBlk R.CMN_RST_STAT_LAST_CAUSE == 4 && t.rd (mgmtBlk + R.CMN_RESTART_CNT) == 1) = true := by decide +kernel

def pt (lv : BitVec 16) (l : List PatchEnt) : PatchRec := ⟨true, lv, l, [5]⟩
theorem test_fwPatch : patchBad [⟨true, true, 3, 77⟩] = false ∧ gives (.fwPatch 8 (pt 2 [⟨true, true, 3, 77⟩]) .ok) (sq (rq 12 4 [0, 0, 4096])) [0, 1] (fun t =>
      t.rd (mgmtBlk + R.PATCH_ENT) == 0xE300004D && t.rf mgmtBlk R.PATCH_STAT_LEVEL == 2 && tabGet (fun _ => 0) t.cores.pram 0 == 5) = true ∧
    gives (.fwPatch 8 (pt 0 []) .ok) (sq (rq 12 4 [0, 0, 4096])) [18] (fun _ => true) = true := by decide +kernel

/-- A directory entry of a TYPE. -/
def dirE (ty : Nat) : List Byte := BitVec.ofNat 8 ty :: List.replicate 15 0
/-- A copy of the flash directory with SEQ `q` and the areas that the tests' start reads; its CRC is right for SEQ 5. -/
def dirB (q : Nat) : List Byte :=
  let h := toBytes 4 0x44495247 ++ toBytes 4 q ++ [4, 50, 0xEB, 8, 0, 0, 0, 0] ++ [2, 3, 4, 5, 8].flatMap dirE
  h ++ List.replicate (4092 - h.length) 0 ++ toBytes 4 0x13320e8e
/-- What a step finds with nothing amiss. -/
def fnd : StartIn := ⟨some 0x80000001, none, true, true, [5, 6], 7, 8, [], dirB 5, none, [], [], [], [], ⟨true, 2, 0, 9⟩,
  ⟨true, 3, 0, 9⟩, 0x12345678⟩
/-- The areas it has, as step 13 finds them. -/
def slots : CfgSt := { dir := some { seq := 5, bus := 0, addr4 := true, mhz := 50, readOp := 0xEB, dummy := 8, entries := [⟨3, 0, 0, 0⟩, ⟨4, 0, 0, 0⟩] } }

/-- A start whose last step completed is `n`. -/
def stp (n : Nat) : State := State.reset.stepDone n

noncomputable def sstep (x : StartIn) (s : State) (f : State → Bool) : Bool := after (.startStepComplete x) s f

def stops (code arg : Nat) (s t : State) : Bool :=
  !t.start.run && t.rf startBlk R.START_STAT_CODE == code && t.rf startBlk R.START_STAT_ARG == arg && t.stepNo == s.stepNo

theorem test_startOrder : (stp 0).nextStep = 1 ∧ { stp 10 with cfg := { groups := [⟨1, 0, 0, 0, 1, [], [], [], [], 0, 0⟩] } }.nextStep = 12 ∧
    { stp 4 with cfg := { gang := true } }.nextStep = 6 ∧ { stp 7 with cfg := { gang := true } }.nextStep = 5 ∧
    { stp 5 with cfg := { gang := true } }.nextStep = 8 ∧ sstep fnd (stp 7) (fun t => t.stepNo == 8 && t.start.posture == some (stp 7).mode) = true ∧
    sstep fnd { stp 10 with start := { posture := some .market }, cfg := { groups := [⟨1, 0, 0, 0, 1, [], [], [], [], 0, 0⟩] } } (fun t =>
      t.stepNo == 12 && t.start.posture == none) = true := by decide +kernel

theorem test_startFuses : sstep fnd (stp 1) (fun t => t.stepNo == 2 && t.rf dlocBlk R.DBG_SESSION_LEVEL == 3) = true ∧
    (let s := { stp 1 with sec := { lc := [0xFFFFFFFFFF, 0xFFFFFFFFFF, 0xFFFFFFFFFF] } }
     sstep fnd s (fun t => stops 3 5 s t && t.lc == 5)) = true := by decide +kernel

theorem test_startRefs : sstep fnd (stp 2) (fun t => t == stp 2) = true ∧
    sstep fnd ((stp 2).setF clkBlk (refStableF 1)) (fun t => t.stepNo == 3 && t.rf clkBlk R.CLK_ROOT_SEL == 1 && t.ttc == 0) = true ∧
    after .refclkWaitTimeout (stp 2) (fun t => stops 2 0 (stp 2) t) = true := by decide +kernel

theorem test_startSram : sstep fnd { stp 3 with par := { staging := [⟨1, 0, 0, 9, 0, 0, 0x7F, 1, 0⟩] } } (fun t => t.stepNo == 4 && t.par.staging == []) = true := by
  decide +kernel

theorem test_startFlash : sstep fnd ((stp 4).wf bkBlk R.BK_LOG_CNT_USED 1) (fun t => t.stepNo == 5 && t.flag mbxHub R.MBX_LOCK_LOCKED && t.rd (mbxHub + 4) == 6 &&
      t.rd (bkBlk + R.BK_TAMPER1) == 8 && t.rf bkBlk R.BK_LOG_CNT_USED == 0 && t.flag bkBlk R.BK_STAT_LOG_NEW && t.mode == .market &&
      t.rd (startBlk + R.START_CFG) == 0x80000001 && t.pcie.subsys == 0x12345678 && !t.start.loading && t.cfg.dir.isSome) = true ∧
    (dirParse (dirB 5)).isSome = true ∧ dirParse (dirB 4) = none ∧
    (let s := (stp 4).wf secBlk R.SEC_LC_STAT_STATE 2
     sstep { fnd with cfgOk := false } s (fun t => stops 4 0 s t)) = true ∧
    sstep { fnd with patch := some ⟨true, 3, [], []⟩ } (stp 4) (fun t => t.rf mgmtBlk R.PATCH_STAT_LEVEL == 3) = true ∧
    sstep fnd { stp 7 with cfg := { gang := true } } (fun t => t.stepNo == 7) = true := by decide +kernel

theorem test_startDies : (stp 5).nextStep = 6 ∧ (stp 5).start.run = true ∧ fnd.rail = none ∧ sstep { fnd with rail := some 3 } (stp 5) (fun t => stops 1 3 (stp 5) t) = true := by decide +kernel

theorem test_startFill : sstep fnd { stp 6 with mem := { gr := [(0, 1)] }, start := { loading := true } } (fun t => t.stepNo == 7 && t.mem == {} &&
      t.cfg.groups == [{ id := 1, kind := 0, site := 0x7F, chan := 0, pass := 1 }]) = true ∧
    after .gangBootLoad { stp 7 with cfg := { gang := true } } (fun t => t.start.gangDone && t.cfg.groups.length == 1) = true := by decide +kernel

/-- A channel trained at one set point of 3,200 MT/s. -/
def chs (c : Fin 12) (b : BitVec 3) : ChanStart := ⟨c, 0x80000800, [3200, 2400, 1600], 4800, false, b, false, 1⟩

def fch (l : List ChanStart) : StartIn := { fnd with chans := l }

theorem test_startTrain : (let u := (stp 8).trainChan (chs 2 1); u.ddrState 2 == 2 && u.flag (ddrBlk 2) R.DDR_CTRL_EN && u.ddrState 3 == 0) = true ∧
    (let u := (stp 8).trainChan (chs 2 0); u.ddrState 2 == 4 && u.flag (ddrBlk 2) R.DDR_STAT_TRAIN_FAIL) = true ∧
    sstep (fch [chs 0 1, chs 1 0]) (stp 8) (fun t => stops 6 1 (stp 8) t) = true ∧
    (let u := ((List.finRange 12).map (fun c => chs c 1)).foldl (fun s c => s.trainChan c) (stp 8)
     (List.range 12).all (fun c => u.ddrState c == 2)) = true ∧
    (startAdapt [⟨7, 5, 9⟩] { stp 8 with start := { posture := some .fallow } }).rf (laneBlk 7) R.LANE_RXEQ_CTLE = 5 := by
  decide +kernel

theorem test_startIntlv : (let s := (stp 9).trainChan (chs 2 1)
     sstep fnd s (fun t => t.stepNo == 10 && t.dramList == [2] && t.dram.filled == []) &&
     sstep fnd { s with start := { s.start with warm := true, chans := [2] }, dram := { s.dram with filled := [(4, true)] } } (fun t => t.dram.filled == [(4, true)]) &&
     sstep fnd { s with start := { s.start with warm := true, chans := [3] }, dram := { s.dram with filled := [(4, true)] } } (fun t => t.dram.filled == [])) = true := by
  decide +kernel

theorem test_startCommons : sstep fnd { stp 12 with cfg := slots } (fun t => t.stepNo == 13 && t.rf mgmtBlk R.CMN_RST_STAT_SLOT == 1 && t.coreState 3 == 1 && t.hbState == 1 &&
      t.cfg.confDone) = true ∧
    sstep fnd (stp 12) (fun t => stops 7 0 (stp 12) t) = true := by decide +kernel

theorem test_startEnd : (let s := { stp 13 with cfg := { groups := [⟨1, 0, 0, 0, 4, [], [], [], [5], 0, 0⟩] } }
     sstep fnd s (fun t => t.stepNo == 14 && t.flag startBlk R.START_STAT_DONE && !t.start.run && t.cfg.groups == [⟨1, 0, 0, 0, 3, [], [], [], [5], 0, 0⟩])) = true ∧
    (let s := { stp 13 with cfg := { groups := [⟨1, 0, 0, 0, 1, [], [], [], [5], 0, 0⟩] } }
     sstep fnd s (fun t => t == s)) = true := by decide +kernel

theorem test_resetPin : after .resetNFall State.reset (fun t => t.start.pinLow && t.start.ret && !t.start.hold && t.start.cause == 1) = true ∧
    after .resetNFall { State.reset with clk := { State.reset.clk with safe := true } } (fun t => t.start.hold && !t.start.ret && t.diesDown == 0x1FE) = true ∧
    after .resetNRise { State.reset with start := { pinLow := true } } (fun t => t == { State.reset with start := { pinLow := false } }) = true := by decide +kernel

/-- Retention runs, with a line in a write queue. -/
def rtn (l : Bool) (tg : Option Nat) : State :=
  State.setDdr { State.reset with start := { ret := true, pinLow := l, target := tg, cause := 1, boot := 0x80000002 } } 3 { q0 := [(5, {})] }

theorem test_retention : after .retentionDone (rtn true none) (fun t => t.start.hold && !t.start.ret && (t.ddr 3).q0 == []) = true ∧
    after .retentionDone (rtn false (some 4)) (fun t => t.start.hold && t.pwrState == 4 && t.start.cause == 0 && t.start.target == none) = true := by decide +kernel

/-- A hub held in reset, whose next start has this cause. -/
def hld (c : Nat) (warm : Bool) : State :=
  let s := ((State.reset.wr (ownBlk + 8) 4).wf (siteBlk 4) R.SITE_STAT_STATE 2).setIf warm startBlk R.START_CFG_WARM_EN
  let s := (s.wf (encBlk 2) R.ENC_STAT_STATE 1).wr (dramHub + 0x1000) 5
  { s with start := { hold := true, pinLow := true, cause := c, boot := 0x80000002 }, mode := .fallow, mem := { gr := [(0, 1)] }, dram := { filled := [(4, true)] },
           par := { ring := [(1, none)], any := true } }

theorem test_coldStart : after .resetNRise (hld 4 true) (fun t => t.start.run && !t.start.hold && t.rf startBlk R.START_CAUSE_CAUSE == 4 && t.stepNo == 0 &&
      t.rd (startBlk + R.START_CFG) == 0x80000002 && t.mode == .harvest && t.rd (ownBlk + 8) == regReset (ownBlk + 8) && t.dram == {} && t.mem == {} && t.fab == {} &&
      t.llp == {} && t.ring == {} && t.cores == {} && t.gpio == [] && t.site == {} && t.rf startBlk R.START_STAT_CODE == 8 && t.diesDown == 0x1FE && t.ttc == 0) = true ∧
    after .resetNRise (hld 3 false) (fun t => t.flag startBlk R.START_CAUSE_WARM_DENIED && !t.start.warm) = true ∧
    after (.startCmdCold mg 1) State.reset (fun t => t.rf startBlk R.START_CAUSE_CAUSE == 2 && t.outs == [.rsp mg .ok []]) = true ∧
    after (.startCmdWarm mg 2) State.reset (fun t => t.start.ret && t.start.cause == 3 && t.outs == [.rsp mg .ok []]) = true ∧
    after (.startCmdWarm mg 3) State.reset (fun t => !t.start.ret && t.outs == [.rsp mg .ok []]) = true := by decide +kernel

theorem test_warmStart : after .resetNRise (hld 1 true) (fun t => t.start.run && t.start.warm && t.rf startBlk R.START_CAUSE_CAUSE == 1 && t.mode == .fallow &&
      t.rd (ownBlk + 8) == 4 && t.siteState 4 == 1 && t.encState 2 == 1 && t.dramOwner 0 == 5 && t.dram.filled == [(4, true)] && t.mem.gr == [(0, 1)] && t.mem.bm == [] &&
      t.par.ring == [(1, none)] && t.cores == {} && t.ring == {} && t.cfg.groups == [] && t.flag startBlk R.START_STAT_WARM && t.diesDown == 0x1FE && t.ttc == 0) = true := by
  decide +kernel

theorem test_power : after (.powerOn true true 3 0x80000002) (hld 0 true) (fun t => t.start.run && t.cfg == { gang := true, gangId := 3 } && t.mode == .harvest &&
      t.flag bkBlk R.BK_STAT_VBAT_OK && t.rf startBlk R.START_CAUSE_CAUSE == 0) = true ∧
    after .brownOut State.reset (fun t => t.start.hold && t.start.cause == 0 && t.start.railBad && t.diesDown == 0x1FE) = true ∧
    after (.railOutOfRange 3) (State.reset.stepDone 6) (fun t => t.clk.safe && t.start.trip && t.start.cause == 5) = true ∧
    after (.railOutOfRange 2) (State.reset.stepDone 6) (fun t => t.start.railBad && !t.clk.safe) = true := by decide +kernel

/-- A command as the host's physical function gives it, in a state of power. -/
def pw (st : Nat) : State := State.wf { up with start := { up.start with run := false } } startBlk R.PWR_STATE_STATE st

def reports (n code data : Nat) (t : State) : Bool := t.par.reports.length == n && t.par.reports.any (fun x => x.code == code && x.data == data)

theorem test_pwrCmd : (pw 0).gate mg (startBlk + R.PWR_CMD) true = .ok ∧ after (.pwrCmd mg 1) (pw 0) (fun t => t.start.target == some 1) = true ∧
    after (.pwrCmd mg 1) (pw 2) (fun t => t.flag startBlk R.PWR_STAT_STATE_REFUSED && t.start.target == none) = true ∧
    after (.pwrCmd mg 3) ((pw 0).wf (siteBlk 5) R.SITE_STAT_STATE 1) (fun t => t.flag startBlk R.PWR_STAT_STATE_REFUSED) = true ∧
    after (.pwrCmd mg 4) (pw 0) (fun t => t.start.target == some 4 && t.start.ret) = true ∧
    after (.pwrCmd mg 0) (pw 3) (fun t => t.start.target == some 0 && t.start.run && t.stepNo == 5) = true := by decide +kernel

/-- A change of power state under way. -/
def chg (st tg : Nat) : State := State.setFrt { pw st with start := { (pw st).start with target := some tg } } 4 { configured := true, ckEn := 5 }

noncomputable def dn (s : State) (f : State → Bool) : Bool := after .powerStateChangeDone s f

theorem test_powerDone : dn ((chg 0 1).setF (fieldPage 4) R.FCK_STAT_LOCKED) (fun t => t.pwrState == 1 && t.start.target == none && reports 1 0xA4 1 t &&
      !t.flag (fieldPage 4) R.FCK_STAT_LOCKED) = true ∧
    dn (((chg 0 2).setDdr 3 { q0 := [(5, {})] }).wf (laneBlk 7) R.LANE_STAT_STATE 4) (fun t => t.pwrState == 2 && (t.ddr 3).q0 == [] && t.laneState 7 == 0 &&
      reports 1 0xA4 2 t) = true ∧
    dn (chg 1 0) (fun t => t.pwrState == 0 && t.flag (fieldPage 4) R.FCK_STAT_LOCKED && t.rf (fieldPage 4) R.FCK_STAT_CK_ON == 5) = true ∧
    dn (((chg 2 0).setF (laneBlk 7) R.LANE_CTRL_EN)) (fun t => t.laneState 7 == 1 && reports 1 0xA4 0 t) = true ∧
    dn ((chg 3 0).stepDone 12) (fun t => t.pwrState == 0 && !t.start.run && reports 1 0xA4 0 t) = true ∧
    dn ((chg 3 0).stepDone 7) (fun t => t.pwrState == 3) = true := by decide +kernel

theorem test_hibernate : dn ((chg 0 3).wr (fieldPage 4 + R.CFG_FIMG) 7) (fun t => t.pwrState == 3 && t.fab == {} && t.diesDown == 0x1FE &&
      t.rd (fieldPage 4 + R.CFG_FIMG) == regReset (fieldPage 4 + R.CFG_FIMG) && t.encState 3 == 0 && t.dram == {} && reports 1 0xA4 3 t) = true := by decide +kernel

/-- A configured field with a running clock under a cap of 480 W. -/
def capd (n low : Nat) : State :=
  let s := ((State.wf { up with start := { up.start with low := low } } startBlk R.PWR_CAP_CAP_W 480).wf startBlk R.PWR_CAP_S_CAP n).wf (fieldPage 4) R.FCK_STAT_CK_ON 1
  s.setFrt 4 { configured := true, ckEn := 1 }

theorem test_capTick : after (.powerCapTick 480001) (capd 5 0) (fun t => t.rf startBlk R.PWR_CAP_S_CAP == 6 && t.rf (fieldPage 4) R.FCK_STAT_STRETCH == 6) = true ∧
    after (.powerCapTick 470000) (capd 5 9) (fun t => t.rf startBlk R.PWR_CAP_S_CAP == 4 && t.start.low == 0) = true ∧
    after (.powerCapTick 470000) (capd 5 8) (fun t => t.rf startBlk R.PWR_CAP_S_CAP == 5 && t.start.low == 9) = true ∧
    after (.powerCapTick 470400) (capd 5 8) (fun t => t.rf startBlk R.PWR_CAP_S_CAP == 5 && t.start.low == 0) = true ∧
    after (.powerCapTick 480000) (capd 5 8) (fun t => t.rf startBlk R.PWR_CAP_S_CAP == 5 && t.rd (startBlk + R.PWR_MEAS) == 480000) = true ∧
    after .capLimit { capd 32 0 with start := { above := 100 } } (fun t => t.flag startBlk R.PWR_STAT_CAP_LIMIT && t.start.above == 0 && reports 1 0xA2 0 t) = true := by
  decide +kernel

/-- Channel 3 reads a temperature. -/
def tmp (d : Nat) : State := (up.wr (monBlk + R.MON_SMP + 12) (BitVec.ofNat 32 (0x30000 + d * 128)))

theorem test_therm : (tmp 105).junction = (3, 13440) ∧ after .thermWarn (tmp 105) (fun t => t.flag startBlk R.PWR_STAT_THERM_WARN &&
      t.rf startBlk R.PWR_CAP_S_CAP == 32 && reports 1 0xA0 (0x30000 + 13440) t) = true ∧
    after .thermWarn (tmp 104) (fun t => t == tmp 104) = true ∧
    after .thermTrip (tmp 115) (fun t => t.clk.safe && t.start.trip && t.start.cause == 4 && t.par.staging == []) = true ∧
    after .pwrFailFall up (fun t => t.flag startBlk R.PWR_STAT_PWR_FAIL && t.start.pf && reports 1 0xA3 0 t) = true ∧
    after .pwrFailRise { up with start := { pf := true } } (fun t => !t.start.pf) = true := by decide +kernel

/-- Chapter 20's example: a gain of 8 on ANA2, while converter 3 visits ANA1 with one sample to go; ANA1 and ANA2 alone are enabled. -/
def ana (c : Nat) (x : ConvSt) : State :=
  let s := ([144, 145, 146, 147].foldl (fun s n => s.wf (monBlk + 4 * n) R.MON_CH_EN (b2n (n == 145 || n == 146))) up).wf (monBlk + 4 * 146) R.MON_CH_GAIN 3
  s.setConv 3 { x with chan := c }

theorem test_samples : (ana 145 {}).convVisit 3 = some { chan := 146, settle := 4, run := 4, gain := 3, dwell := 1 } ∧
    (ana 146 { gain := 3 }).convVisit 3 = some { chan := 145, settle := 4, run := 4, gain := 0, dwell := 1 } ∧
    after (.sensorSample 3 26214 false) (ana 146 { gain := 3, dwell := 1 }) (fun t => t.rd (monBlk + R.MON_SMP + 4 * 146) == 0x00926666) = true ∧
    after (.sensorSample 3 0x9999 false) (ana 146 { gain := 3, dwell := 1 }) (fun t => t.rd (monBlk + R.MON_SMP + 4 * 146) == 0x80927FFF) = true ∧
    after (.sensorSample 3 5 false) (ana 146 { gain := 3, settle := 2, dwell := 1 }) (fun t => t.rd (monBlk + R.MON_SMP + 4 * 146) == 0x40920005 &&
      (t.conv 3).settle == 1) = true := by decide +kernel

/-- Each of the clocks' commands in a state where it completes. -/
def clkOn : State :=
  let s := ((up.setF clkBlk R.CLK_REF_STAT_A_STABLE).setF clkBlk R.CLK_REF_STAT_B_STABLE).setF clkBlk R.CLK_MON_CFG_EN
  (s.wf clkBlk R.CLK_ROOT_SEL 0).wf clkBlk R.CLK_ROOT_ACTIVE 0

theorem test_clockCompletes : clkOn.clk.dead = false ∧ clkOn.refMonitored 1 = true ∧ clkOn.gate rv (clkBlk + R.CLK_ROOT) true = .ok ∧
    after (.clkRootWrite rv 0x40000000) clkOn (fun t => t.rf clkBlk R.CLK_ROOT_SEL == 1) = true ∧
    after .clockSwitchDone (clkOn.setF clkBlk R.CLK_ROOT_SWITCHING) (fun t => !t.flag clkBlk R.CLK_ROOT_SWITCHING) = true ∧
    after (.clkmonCtrlWrite mg 0x03000001) clkOn (fun t => natBits (t.rd (clkBlk + R.CLKMON_CTRL)).toNat 27 24 == 3) = true := by decide +kernel

theorem test_fifo : after (.sensorSample 3 5 false) (ana 146 { gain := 3, dwell := 1, fifo := [9] }) (fun t => (t.conv 3).fifo == [9, 0x00920005] &&
      t.rf (monBlk + 0x30) R.MON_CONV_LEVEL == 2) = true ∧
    after (.sensorSample 3 5 false) (ana 146 { gain := 3, settle := 2, fifo := List.replicate 256 9 }) (fun t => (t.conv 3).fifo == List.replicate 256 9 &&
      t.rf (monBlk + 0x30) R.MON_CONV_OVF_CNT == 1) = true ∧
    after (.monFifoPop mg 3) (ana 146 { fifo := [9, 8] }) (fun t => (t.conv 3).fifo == [8] && t.outs == [.rsp mg .ok [9]]) = true ∧
    after (.monFifoPop mg 3) (ana 146 {}) (fun t => t.outs == [.rsp mg .ok [0]]) = true := by decide +kernel

/-- Both inputs stable, A selected: the setting of chapter 21's example. -/
def onA : State :=
  let s := ((up.setF clkBlk R.CLK_REF_STAT_A_STABLE).setF clkBlk R.CLK_REF_STAT_B_STABLE).wf clkBlk R.CLK_REF_STAT_B_CLASS 3
  let s := ((s.wf clkBlk R.CLK_REF_STAT_A_CLASS 1).wf clkBlk R.CLK_MON_A_BASE_COUNT 4096).wf clkBlk R.CLK_MON_CFG_DEV 20
  ((s.wf clkBlk R.CLK_ROOT_SEL 0).wf clkBlk R.CLK_ROOT_ACTIVE 0).clrF clkBlk R.CLK_REF_STAT_TTC_FREE
/-- With a site, its VF, a running field of it and a lane up. -/
def onAx : State :=
  let s := ((onA.wf (siteBlk 0) R.SITE_STAT_STATE 1).wf (laneBlk 3) R.LANE_STAT_STATE 6).wf (fieldPage 4) R.FCK_STAT_CK_ON 1
  State.setFrt { s with pcie := { s.pcie with vfEn := true, numVfs := 1 } } 4 { configured := true, ckEn := 1 }

theorem test_judge : refClass 98304 = 1 ∧ after (.refJudgeWindow 0 32768) State.reset (fun t => t.clk.winA == [32768]) = true ∧
    after (.refJudgeWindow 0 32768) { State.reset with clk := { winA := [32769, 32767] } } (fun t => t.flag clkBlk R.CLK_REF_STAT_A_STABLE &&
      t.rf clkBlk R.CLK_REF_STAT_A_CLASS == 1 && t.rf clkBlk R.CLK_MON_A_BASE_COUNT == 4096 && t.clk.winA == [32768, 32769]) = true ∧
    after (.refJudgeWindow 1 32768) { onA with clk := { winB := [32868, 32767] } } (fun t => !t.flag clkBlk R.CLK_REF_STAT_B_STABLE &&
      t.rf clkBlk R.CLK_REF_STAT_B_CLASS == 3) = true := by decide +kernel

noncomputable def fell (nmi : Bool) (c : Instr) : Bool :=
  after c onAx (fun t => t.rf clkBlk R.CLK_ROOT_SEL == 2 && t.flag clkBlk R.CLK_ROOT_SWITCHING && t.rd (clkBlk + R.CLK_REF_STAT) == (if nmi then 0xA08C2400 else 0xA08C8400) &&
    t.outs.contains .reeveNmi == nmi && t.laneState 3 == 7 && t.rf (laneBlk 3) R.LANE_STAT_DOWN_CAUSE == 4 && t.laneState 4 == 0 &&
    t.rf (fieldPage 4) R.FCK_STAT_STRETCH == 6 && t.siteState 0 == 2 && t.rf (siteBlk 0) R.SITE_STAT_CAUSE == 1 && !t.pcie.linkUp && !t.pcie.vfEn &&
    (t.par.reports.head?.map (·.code)) == some 0x40)

theorem test_fallback : onAx.refMonitored 0 = true ∧ fell true (.refLoss 0) = true := by decide +kernel

theorem test_rootToInt : onAx.gate rv (clkBlk + R.CLK_ROOT) true = .ok ∧ fell false (.clkRootWrite rv 0x80000000) = true := by decide +kernel

theorem test_monitor : after (.refLoss 1) onA (fun t => t.flag clkBlk R.CLK_REF_STAT_B_LOSS && !t.flag clkBlk R.CLK_REF_STAT_B_STABLE && reports 1 0x41 0x2C8400 t &&
      t.rf clkBlk R.CLK_ROOT_SEL == 0) = true ∧
    after (.refDevWindow 0 4177) onA (fun t => t == onA.wf clkBlk R.CLK_MON_A_CNT_COUNT 4177) = true ∧
    after (.refDevWindow 0 4178) onA (fun t => t.flag clkBlk R.CLK_REF_STAT_A_DEV && t.rf clkBlk R.CLK_ROOT_SEL == 2 && t.clk.fb) = true := by decide +kernel

theorem test_root : after (.clkRootWrite rv 0x40000000) onA (fun t => t.rd (clkBlk + R.CLK_ROOT) == 0x48000000) = true ∧
    after (.clkRootWrite rv 0xC0000000) onA (fun t => t.flag clkBlk R.CLK_ROOT_SEL_REFUSED && t.rf clkBlk R.CLK_ROOT_SEL == 0) = true ∧
    after (.clkRootWrite rv 0x40000000) (onA.clrF clkBlk R.CLK_REF_STAT_B_STABLE) (fun t => t.flag clkBlk R.CLK_ROOT_SEL_REFUSED) = true ∧
    after (.clkRootWrite rv 0x40000000) (onA.setF clkBlk R.CLK_ROOT_SWITCHING) (fun t => t.flag clkBlk R.CLK_ROOT_SWITCH_IGNORED && t.rf clkBlk R.CLK_ROOT_SEL == 0) = true ∧
    after (.clkRootWrite mg 6) (onA.setF clkBlk R.CLK_ROOT_SWITCH_IGNORED) (fun t => t.rd (clkBlk + R.CLK_ROOT) == 0 && t.outs == [.rsp mg .ok []]) = true := by
  decide +kernel

theorem test_switch : (let s := (onAx.wf clkBlk R.CLK_ROOT_SEL 1).setF clkBlk R.CLK_ROOT_SWITCHING
     after .clockSwitchDone { s with clk := { fb := true } } (fun t => t.rd (clkBlk + R.CLK_ROOT) == 0x50000000 && !t.flag clkBlk R.CLK_REF_STAT_TTC_FREE && !t.clk.fb)) = true ∧
    after .intFail onA (fun t => t.clk.dead && t.flag clkBlk R.CLK_REF_STAT_INT_FAIL && t.outs == [.reeveNmi]) = true ∧
    after .rootStop (onA.setDdr 3 { q0 := [(5, {})] }) (fun t => t.deaf && (t.ddr 3).q0 == []) = true := by decide +kernel

theorem test_gates : after (.clkGateWrite mg 17 0) onA (fun t => t.rd (clkBlk + R.CLK_GATE + 68) == 0) = true ∧
    after (.clkGateWrite mg 17 0x80000000) (onA.wr (clkBlk + R.CLK_GATE + 68) 0) (fun t => t.rd (clkBlk + R.CLK_GATE + 68) == 0x80000000) = true ∧
    after (.clkGateWrite mg 4 0) onA (fun t => t.rd (clkBlk + R.CLK_GSTAT) == 0x401) = true ∧
    after (.clkGateWrite mg 32 0) (onA.wf (laneBlk 3) R.LANE_STAT_STATE 1) (fun t => t.rd (clkBlk + R.CLK_GSTAT) == 0x2001) = true ∧
    after (.clkGateReady 17) (onA.wr (clkBlk + R.CLK_GATE + 68) 0x80000000) (fun t => t.rd (clkBlk + R.CLK_GATE + 68) == 0xC0000000) = true := by decide +kernel

theorem test_clkmon : after (.clkmonCtrlWrite mg 0x84000002) onA (fun t => t.rd (clkBlk + R.CLKMON_CTRL) == 0x84000002) = true ∧
    after (.clkmonCtrlWrite mg 0x84000001) onA (fun t => t.rd (clkBlk + R.CLKMON_CTRL) == 0x40000001) = true ∧
    after (.clkmonCtrlWrite mg 0x0A000001) onA (fun t => t.rd (clkBlk + R.CLKMON_CTRL) == 0x40000001) = true ∧
    after (.ttcSyncMeasure 3) onA (fun t => t.rd (clkBlk + R.TTC_SYNC) == 8) = true := by decide +kernel

/-- The guest port in a state, on option G. -/
def gp (st : Nat) (g : GuestSt) : State := State.wf { up with part := { up.part with optionG := true }, guest := g } guestBlk R.GST_STAT_STATE st
/-- A guest flit with its CRC. -/
def gf (kind m raw : Nat) : BitVec 768 := let x := kind + m * 256 + raw * 2 ^ 16; BitVec.ofNat 768 (x + crc16 x 752 * 2 ^ 752)

theorem test_gstCtrl : ((gp 0 {}).gate mg (guestBlk + R.GST_CTRL) true) = .ok ∧ after (.gstUnfence mg 0x80000000) (gp 0 {}) (fun t => t.gstState == 1) = true ∧
    after (.gstUnfence mg 0x80000000) (gp 2 {}) (fun t => t.gstState == 2 && t.flag guestBlk R.GST_STAT_REFUSED) = true ∧
    after (.gstFence mg 0x60000000) (gp 2 { toGuest := [{ op := 4 }], gone := [{ op := 1, src := 3 }] }) (fun t => t.gstState == 0 && t.guest == {} &&
      t.rd (guestBlk + R.GST_DROP_CNT) == 1 && t.flits == 1 && t.outs == [.rsp mg .ok []]) = true ∧
    after (.gstReset mg 0x20000000) (gp 2 {}) (fun t => t.gstState == 3 && t.outs == [.rsp mg .ok [], .guestTx 4 0]) = true ∧
    after (.gstReset mg 0x20000000) (gp 0 {}) (fun t => t.gstState == 0 && t.outs == [.rsp mg .ok []]) = true := by decide +kernel

theorem test_guestEnds : after (.guestTrainDone 2) (gp 1 {}) (fun t => t.gstState == 2 && t.rf guestBlk R.GST_STAT_RATE == 3) = true ∧
    after .guestTrainTimeout (gp 1 {}) (fun t => t.gstState == 0 && t.flag guestBlk R.GST_STAT_TRAIN_FAIL && (t.par.reports.map (·.code)) == [0xB0]) = true ∧
    after .guestResetTimeout (gp 3 {}) (fun t => t.gstState == 0 && t.flag guestBlk R.GST_STAT_RST_TMO) = true ∧
    after .guestLinkDown (gp 2 {}) (fun t => t.gstState == 0 && (t.par.reports.map (·.sites)) == [0]) = true := by decide +kernel

theorem test_guestFlits : after (.guestFlitReceive 1) (gp 2 {}) (fun t => t.rd (guestBlk + R.GST_CRC_CNT) == 1) = true ∧
    after (.guestFlitReceive (gf 9 0 0)) (gp 2 {}) (fun t => t.rd (guestBlk + R.GST_PROTO_CNT) == 1) = true ∧
    after (.guestFlitReceive (gf 2 0 0x80FF0A)) (gp 2 {}) (fun t => t.guest.limit == [10, 0, 0, 0, 0, 0, 0, 0]) = true ∧
    after (.guestFlitReceive (gf 2 0 0x10000)) (gp 2 { toGuest := [{ op := 4, cls := 1 }] }) (fun t => t.guest.toGuest == [] && t.guest.sent == [0, 0, 1, 0, 0, 0, 0, 0] &&
      t.outs == [.guestTx 1 ({ op := 4, cls := 1 } : Flit).encode]) = true ∧
    after (.guestFlitReceive (gf 5 0 0)) (gp 3 { limit := [1, 0, 0, 0, 0, 0, 0, 0] }) (fun t => t.gstState == 2 && t.guest == {}) = true ∧
    after (.guestFlitReceive (gf 1 0 0)) (gp 3 {}) (fun t => t == gp 3 {}) = true ∧
    after (.guestFlitReceive 1) (gp 1 {}) (fun t => t == gp 1 {}) = true := by decide +kernel

/-- Master 2 with window 0 open for reads of the first GiB of every region. -/
def gw : State := (((gp 2 {}).setF (guestBlk + 8) R.GST_MSTR_EN).setF guestBlk R.GST_WIN_A_EN).setF guestBlk R.GST_WIN_A_R |>.wf guestBlk R.GST_WIN_B_LIMIT 0x3FFFF
/-- A READ of granary 2. -/
def grq : Flit := { addr := 0x100000400000, cls := 1, op := 1, tag := 5, len := 7 }

theorem test_guestRequests : (flitCheck (grq.encode).toNat).isSome = true ∧ gw.ringDst grq.addr 0 = some (granStopNo 2) ∧ guestBad grq = false ∧
    after (.guestFlitReceive (gf 1 2 grq.encode.toNat)) gw (fun t => t.flits == 1 && (t.stopSt jgStop).out.length == 1 && t.outs == []) = true ∧
    after (.guestFlitReceive (gf 1 3 grq.encode.toNat)) gw (fun t => t.flits == 0 && t.rd (guestBlk + R.GST_DENY_CNT) == 1 &&
      (t.guest.toGuest.map (fun f => (f.code, f.rsp, f.tag))) == [(3, true, 5)]) = true := by decide +kernel

theorem test_guestMore : (flitCheck ({ grq with op := 2 } : Flit).encode.toNat).isSome = true ∧ guestBad { grq with op := 2 } = true ∧
    after (.guestFlitReceive (gf 1 2 ({ grq with op := 2 } : Flit).encode.toNat)) gw (fun t => (t.guest.toGuest.map (fun f => (f.code, f.rsp))) == [(1, true)]) = true ∧
    gw.sourceStop 0xC2 0x160000000000 1 = none ∧
    after (.guestFlitReceive (gf 1 2 ({ grq with rsp := true, op := 8, code := 6, dst := 0x400 } : Flit).encode.toNat)) (gp 2 { gone := [{ mid := 0, tag := 5, src := 0x400 }] })
      (fun t => t.flits == 1 && t.guest.gone == [] && (t.ring.wait ++ t.ring.flight).map (fun x => x.flit.code) == [1]) = true := by decide +kernel

theorem test_guestBell : after (.guestFlitReceive (gf 1 2 ({ grq with op := 4, cls := 0, len := 7 } : Flit).encode.toNat))
      (((gw.setF (guestBlk) R.GST_WIN_A_W).setF ((stopRegs jgStop).getD 0) R.RING_BELL_CTRL_EN).wf ((stopRegs jgStop).getD 0) R.RING_BELL_CTRL_DEST 0x3F)
      (fun t => (t.stopSt jgStop).bellInj.length == 1 && t.flits == 0) = true := by decide +kernel

/-- A bank's run state, its controllers on. -/
def bnk (x : BankSt) : State :=
  let a := gpioBlk 1
  (((up.setF a R.I2C_CTRL_EN).setF a R.SPI_CTRL_EN).setF a R.UART_CTRL_EN).setBank 1 x
/-- Bank 1 of site 6: chapter 23's example. -/
def own6 : State := (up.wr (ownBlk + 4 * 26) 6).wf (siteBlk 6) R.SITE_STAT_STATE 1

theorem test_ioPin : own6.bankOwner 1 = 6 ∧ after (.ioPinWrite (vf 6) 1 3 0x12C80801) own6 (fun t => t.rd (gpioBlk 1 + R.IO_PIN + 12) == 0x12C80801 &&
      t.outs == [.rsp (vf 6) .ok []]) = true ∧
    after (.ioPinWrite (vf 6) 1 5 0x02000002) own6 (fun t => t.flag (gpioBlk 1) R.GPIO_STAT_MUX_REFUSED && t.rd (gpioBlk 1 + R.IO_PIN + 20) == regReset (gpioBlk 1 + R.IO_PIN + 20)) = true ∧
    after (.ioPinWrite mg 1 3 0x02001401) up (fun t => t.pinBit 1 R.GPIO_ISTAT 3) = true ∧
    after (.ioPinWrite mg 1 3 0x02001C01) up (fun t => t.rd (gpioBlk 1 + R.IO_PIN + 12) == 0x02000001) = true := by decide +kernel

theorem test_gpioOut : after (.gpioSet mg 1 0x6) (up.wr (gpioBlk 1 + R.GPIO_OUT) 3) (fun t => t.rd (gpioBlk 1 + R.GPIO_OUT) == 7) = true ∧
    after (.gpioClr mg 1 0x6) (up.wr (gpioBlk 1 + R.GPIO_OUT) 3) (fun t => t.rd (gpioBlk 1 + R.GPIO_OUT) == 1) = true ∧
    after (.gpioTgl mg 1 0x6) (up.wr (gpioBlk 1 + R.GPIO_OUT) 3) (fun t => t.rd (gpioBlk 1 + R.GPIO_OUT) == 5) = true := by decide +kernel

/-- Pin 3 interrupts on a falling edge; pin 4 triggers channel 3. -/
def pins : State :=
  (((up.wr (gpioBlk 1 + R.IO_PIN + 12) 0x12C80801).wr (gpioBlk 1 + R.IO_PIN + 16) 0x02000035).wr (gpioBlk 1 + R.GPIO_IN) 0x18).wf (dbgBlk + 0x60) R.DBG_XT_OWN_SITE 0x7F

theorem test_inputs : after (.gpioInputChange 1 3 false) pins (fun t => t.rd (gpioBlk 1 + R.GPIO_ISTAT) == 8 && t.rd (gpioBlk 1 + R.GPIO_IN) == 0x10) = true ∧
    after (.gpioInputChange 1 3 true) pins (fun t => t.rd (gpioBlk 1 + R.GPIO_ISTAT) == 0 && t.rd (gpioBlk 1 + R.GPIO_IN) == 0x18) = true ∧
    after (.trigInEdge 1 4) pins (fun t => t.rd (dbgBlk + R.DBG_XT_STAT) == 8 && t.dbg.xt == [(3, 0)]) = true ∧
    after (.trigInEdge 1 4) (pins.wf (dbgBlk + 0x60) R.DBG_XT_OWN_SITE 5) (fun t => t.dbg.xt == []) = true := by decide +kernel

theorem test_i2c : after (.i2cGo mg 1 0x80510102) ((bnk {}).wr (gpioBlk 1 + R.I2C_TXBUF) 0xBBAA) (fun t => t.flag (gpioBlk 1) R.I2C_STAT_BUSY &&
      t.outs == [.rsp mg .ok [], .i2c 1 0x80510102 [0xAA, 0xBB]]) = true ∧
    after (.i2cGo mg 1 0x80511100) (bnk {}) (fun t => t.flag (gpioBlk 1) R.I2C_STAT_REFUSED) = true ∧
    after (.i2cGo mg 1 0x80510102) ((bnk {}).setF (gpioBlk 1) R.I2C_STAT_BUSY) (fun t => t.outs == [.rsp mg .ok []]) = true ∧
    after (.i2cDone 1 .ok 0 [0x5A]) (bnk { i2c := some 0x80510102 }) (fun t => t.flag (gpioBlk 1) R.I2C_STAT_DONE && t.rf (gpioBlk 1) R.I2C_CNT_COUNT == 3 &&
      t.byteAt (gpioBlk 1 + R.I2C_RXBUF) 0 == 0x5A) = true ∧
    after (.i2cDone 1 .nackData 1 []) (bnk { i2c := some 0x80510102 }) (fun t => t.flag (gpioBlk 1) R.I2C_STAT_NACK_DATA && t.rf (gpioBlk 1) R.I2C_CNT_COUNT == 1) = true ∧
    after (.i2cStretchTimeout 1 2 []) (bnk { i2c := some 0x80510102 }) (fun t => t.flag (gpioBlk 1) R.I2C_STAT_TIMEOUT && t.rf (gpioBlk 1) R.I2C_CNT_COUNT == 2) = true := by
  decide +kernel

theorem test_spi : after (.spiGo mg 1 0xC0000002) ((bnk {}).wr (gpioBlk 1 + R.SPI_BUF) 0xBBAA) (fun t => t.flag (gpioBlk 1) R.SPI_STAT_BUSY &&
      t.outs == [.rsp mg .ok [], .spi 1 [0xAA, 0xBB]] && (t.bank 1).csLow) = true ∧
    after (.spiGo mg 1 0x80000041) (bnk {}) (fun t => t.flag (gpioBlk 1) R.SPI_STAT_REFUSED) = true ∧
    after (.spiDone 1 [1, 2]) ((bnk { spi := some 0xC0000002 }).wr (gpioBlk 1 + R.SPI_BUF) 0xCC0000) (fun t => t.rd (gpioBlk 1 + R.SPI_BUF) == 0xCC0201 &&
      t.flag (gpioBlk 1) R.SPI_STAT_DONE && (t.bank 1).csLow && (t.bank 1).spi == none) = true := by decide +kernel

theorem test_uart : after (.uartTx mg 1 0x41) (bnk {}) (fun t => t.outs == [.rsp mg .ok [], .uartTx 1 0x41] && (t.bank 1).sending == some 0x41) = true ∧
    after (.uartTx mg 1 0x41) (bnk { sending := some 1 }) (fun t => (t.bank 1).tx == [0x41] && t.rf (gpioBlk 1) R.UART_STAT_TX_LEVEL == 1) = true ∧
    after (.uartTx mg 1 0x41) (bnk { sending := some 1, tx := List.replicate 32 7 }) (fun t => t.flag (gpioBlk 1) R.UART_STAT_TX_OVF) = true ∧
    after (.uartTxByteSent 1) (bnk { sending := some 1, tx := [2] }) (fun t => (t.bank 1).sending == some 2 && (t.bank 1).tx == []) = true ∧
    after (.uartTxByteSent 1) ((bnk { sending := some 1, tx := [2], ctsHigh := true }).setF (gpioBlk 1) R.UART_CTRL_FLOW) (fun t => (t.bank 1).sending == none && (t.bank 1).tx == [2]) = true ∧
    after (.uartTxByteSent 1) (bnk { sending := some 1 }) (fun t => (t.bank 1).sending == none) = true ∧
    after (.ctsNChange 1 false) (bnk { tx := [2], ctsHigh := true }) (fun t => (t.bank 1).sending == some 2 && !(t.bank 1).ctsHigh) = true ∧
    after (.ctsNChange 1 true) (bnk {}) (fun t => (t.bank 1).ctsHigh) = true := by decide +kernel

theorem test_uartRx : after (.uartRxByte 1 0x41 true false false) (bnk {}) (fun t => (t.bank 1).rx == [0x341] && t.flag (gpioBlk 1) R.UART_STAT_FRAME_ERR &&
      t.flag (gpioBlk 1) R.UART_STAT_RX_AVAIL) = true ∧
    after (.uartRxByte 1 0x41 false false true) (bnk { rx := List.replicate 32 0 }) (fun t => t.flag (gpioBlk 1) R.UART_STAT_RX_OVF && t.flag (gpioBlk 1) R.UART_STAT_BREAK) = true ∧
    after (.uartRx mg 1) (bnk { rx := [0x341, 5] }) (fun t => t.outs == [.rsp mg .ok [0x341]] && (t.bank 1).rx == [5]) = true ∧
    after (.uartRx mg 1) (bnk {}) (fun t => t.outs == [.rsp mg .ok [0]]) = true := by decide +kernel

/-- The parish block with set 1 of PAR_IN holding an event. -/
def pin1 (l : List PRec) (n : Nat) : State :=
  let b := parishBlk + 0x20
  let s := ((up.wr (b + R.PAR_IN_A) 0xB0010100).wr (b + R.PAR_IN_B) 0x0503).wr (b + R.PAR_IN_D_LO) 9
  { s with cal := 5, par := { staging := l, next := n } }
def prec (q c : Nat) : PRec := ⟨q, 1, 2, c, 0xB001, 1, 6, 3, 9⟩

theorem test_parIn : (pin1 [] 7).gate mg (parishBlk + 0x20 + R.PAR_IN_GO) true = .ok ∧
    after (.parInGo mg 1 0x80000000) (pin1 [] 2048) (fun t => t.par.staging == [⟨2049, 5, 5, 0x100, 0xB001, 3, 5, 1, 9⟩] && t.par.next == 2050 &&
      t.rd (parishBlk + R.PAR_SEQ_NEW) == 2049) = true ∧
    after (.parInGo mg 1 0x80000000) (pin1 [prec 6 0x100] 7) (fun t => t.par.staging == [⟨6, 1, 5, 0x100, 0xB001, 3, 0x7F, 4, 9⟩] && t.par.next == 7) = true ∧
    after (.parInGo mg 1 0x80000000) (pin1 [prec 6 0x101] 7) (fun t => t.par.staging.length == 2) = true ∧
    after (.parInGo mg 1 0x80000000) (pin1 (List.replicate 64 (prec 6 0x101)) 7) (fun t => t.par.staging.length == 64 && t.par.next == 8 &&
      t.flag parishBlk R.PAR_STAT_STAGE_DROP && t.rd (parishBlk + R.PAR_STAGE_DROP_CNT) == 1) = true ∧
    after (.parInGo mg 1 0x7FFFFFFF) (pin1 [] 7) (fun t => t.par == (pin1 [] 7).par) = true := by decide +kernel

/-- A flash area with a newest block at sequence 2048 that uses slots 1 to 3, the second of them torn, and a block at sequence 4096 still held from
a wrap before. -/
def area (l : List PRec) (scanned : Bool) : State :=
  let b (q : Nat) : PRec := ⟨q, 1, 1, 1, locator 14 0, 0, 0x7F, 1, q + 77 * 2 ^ 32⟩
  let f : Tab FlashSlot := [(2048, .held (b 2048)), (2049, .held (prec 2049 5)), (2050, .torn), (2051, .held (prec 2051 6)),
    (4096, .held (b (2 ^ 32 + 4096 - 8388608)))]
  { up with par := { staging := l, flash := f, next := 9, area := true, scanned := scanned } }

theorem test_flush : after (.parishFlush false) (area [prec 2052 5, prec 2053 7] true) (fun t => t.slot 2052 == .held (prec 2052 5) && t.slot 2053 == .held (prec 2053 7) &&
      t.rd (parishBlk + R.PAR_SEQ_FLASH) == 2054 && t.par.staging == []) = true ∧
    after (.parishFlush true) (area [prec 2052 5] true) (fun t => t.slot 2052 == .erased && t.par.staging.length == 1 && t.flag parishBlk R.PAR_STAT_FLASH_ERR) = true ∧
    after (.parishFlush false) (area [prec 2052 5] false) (fun t => t.par.staging.length == 1) = true ∧
    after (.parishFlush false) (pin1 [prec 6 5] 7) (fun t => t.par.staging == []) = true ∧
    after (.parishFlush false) (area [prec 1 5] true) (fun t => t.slot 1 == .held (prec 1 5) && t.slot 2048 == .erased && t.slot 2051 == .erased &&
      (match t.slot 0 with | .held h => h.code == 1 && h.seq == 0 | _ => false) && t.rd (parishBlk + R.PAR_UNREAD_LOST_CNT) == 3 &&
      t.flag parishBlk R.PAR_STAT_UNREAD_LOST) = true := by decide +kernel

theorem test_scan : latestHeader (area [] false).par.flash = some ⟨2048, 1, 1, 1, locator 14 0, 0, 0x7F, 1, 2048 + 77 * 2 ^ 32⟩ ∧
    after .parishScan (area [prec 3 5] false) (fun t => t.rd (parishBlk + R.PAR_MARK) == 77 && t.rd (parishBlk + R.PAR_SEQ_FLASH) == 2052 &&
      t.rd (parishBlk + R.PAR_TORN_CNT) == 1 && t.flag parishBlk R.PAR_STAT_TORN && t.par.scanned && t.par.staging == [prec 2052 5] && t.par.next == 2053) = true ∧
    after .parishScan { up with par := { area := true, next := 9 } } (fun t => t.par.scanned && t.par.next == 0) = true ∧
    after .parishScan up (fun t => t.flag parishBlk R.PAR_STAT_NO_AREA) = true := by decide +kernel

/-- Two reports wait, of links 5 and 4 on T0, with T0's incident open in entry 3, or with none. -/
def wait (n : Nat) (op : Nat) : State :=
  let s := { up with ttc := 9, cal := 4, par := { reports := [⟨locator 6 5, 0x51, locator 6 5, 3, 1, 2 ^ 5⟩, ⟨locator 6 n, 0x51, locator 6 n, 2, 0, 2 ^ 6 + 2 ^ 5⟩] } }
  if op = 0 then s else ((s.wr (incBlk 3 + R.INC_STAT) (BitVec.ofNat 32 (op * 2 ^ 16 + 0x2C4))).wr (incBlk 3 + R.INC_CODE) 0x72).wr (incBlk 3 + R.INC_SITES_LO) 0x20

theorem test_reports : firstReport (wait 4 0).par.reports = some ⟨locator 6 4, 0x51, locator 6 4, 2, 0, 0x60⟩ ∧ (wait 4 0).incMatch (locator 6 4) = none ∧
    (wait 4 0).incFree = some 0 ∧ (wait 4 0x3005).incMatch (locator 6 4) = some 3 ∧ (wait 4 0x3006).incMatch (locator 6 4) = none := by decide +kernel
theorem test_opens : after .fcReport (wait 4 0) (fun t => t.rd (incBlk 0 + R.INC_STAT) == BitVec.ofNat 32 (0x60040000 + 0x1C8) && t.rd (incBlk 0 + R.INC_COUNT) == 1 &&
      t.rd (incBlk 0 + R.INC_CODE) == 0x60040051 && t.rd64 (incBlk 0 + R.INC_SITES_LO) == 0x60 && t.rd64 (incBlk 0 + R.INC_TTC_LO) == 9 &&
      t.flag (siteBlk 5) R.SITE_STAT_INCIDENT && t.rf (siteBlk 6) R.SITE_INCIDENT_EVENT == 0x51 && !t.flag (siteBlk 4) R.SITE_STAT_INCIDENT &&
      t.par.reports.length == 1) = true := by decide +kernel
theorem test_joins : after .fcReport (wait 4 0x3005) (fun t => t.rd (incBlk 3 + R.INC_COUNT) == 1 && t.rf (incBlk 3) R.INC_STAT_SEVERITY == 2 &&
      t.rd64 (incBlk 3 + R.INC_SITES_LO) == 0x60 && !t.flag (siteBlk 5) R.SITE_STAT_INCIDENT && t.rf (siteBlk 6) R.SITE_INCIDENT_EVENT == 0x72 &&
      t.rf (siteBlk 6) R.SITE_INCIDENT_INDEX == 3 && t.par.reports.length == 1) = true := by decide +kernel
/-- Every entry below 63 is valid and closed, not taken; entry 63 open or not. -/
def ifull (op : Bool) : State :=
  let s := (List.range 63).foldl (fun s e => s.wr (incBlk e + R.INC_STAT) 0x80) (wait 4 0)
  if op then s.wr (incBlk 63 + R.INC_STAT) 0xF00000C0 else s
theorem test_overflow : (ifull true).incFree = none ∧ after .fcReport (ifull true) (fun t => t.flag parishBlk R.PAR_STAT_INC_OVF && t.rd (incBlk 63 + R.INC_COUNT) == 1 &&
      t.rd64 (incBlk 63 + R.INC_SITES_LO) == 0x60) = true ∧
    after .fcReport (ifull false) (fun t => t.flag parishBlk R.PAR_STAT_INC_OVF && t.incKey 63 == locator 15 0 && t.incOpen 63) = true := by decide +kernel

/-- An open incident of DIE F0 with 70,000 reports, for site 5 alone. -/
def openInc (l : List PRec) : State :=
  let s := ((wait 4 0x3001).wr (incBlk 3 + R.INC_COUNT) 70000)
  { s with par := { s.par with next := 4, staging := l, inc := [(3, ⟨8, 8, 8⟩)] } }
theorem test_close : after (.incidentClose 3) (openInc []) (fun t => t.par.staging == [⟨4, 8, 8, 0x72, 0x3001, 1, 5, 65535, 0x20⟩] && !t.incOpen 3 &&
      t.flag (incBlk 3) R.INC_STAT_VALID && t.rd (incBlk 3 + R.INC_SEQ) == 4) = true ∧ after (.incidentClose 4) (openInc []) (fun t => t == openInc []) = true := by
  decide +kernel
theorem test_ack : (openInc []).gate mg (parishBlk + R.FC_ACK) true = .ok ∧ after (.fcAck mg 0x203) (openInc []) (fun t => t.flag (incBlk 3) R.INC_STAT_TAKEN &&
      t.incOpen 3) = true ∧ after (.fcAck mg 0x103) (openInc []) (fun t => !t.flag (incBlk 3) R.INC_STAT_TAKEN) = true := by decide +kernel

/-- Cells 0-15 of a cluster count up by carry as chapter 3's counter does (bit n in cell n, MASK = 0x00AA, carry in 1), cell 16 of the next cluster
takes the global set/reset's INIT and is clocked by CKB, falling; MAC 1 accumulates 3 x (-2) and MAC 2 takes its cascade. -/
def fdes : FieldDesign :=
  let c (i : Fin 16) : CellCfg := ⟨0x00AA, true, .lut, false, .always, .none, false, false, false, .q i, .field 0, .field 0, .field 0, .field 0, 0⟩
  let k : ClusterCfg := ⟨⟨0, false⟩, ⟨1, true⟩, .field 0, .field 0, .field 0, .field 0, .field 0, .one, [], [], []⟩
  let t (n : Nat) : List Track := (List.range n).map (fun i => if i < 2 then .longH 2 (Fin.ofNat 16 i) else .longH 2 5)
  let m (x : MacMode) : MacCfg := ⟨⟨0, false⟩, x, false, false, t 27, t 27, t 64, none, none, none, none⟩
  { cells := [(0, c 0), (1, c 1), (2, c 2), (16, ⟨0xFFFF, false, .lut, true, .always, .none, false, false, true, .q 0, .field 0, .field 0, .field 0, .field 0, 0⟩)],
    clusters := [(0, k), (1, k)], tracks := [(.longH 2 0, .ext 5), (.longH 2 1, .ext 6)], macs := [(1, m .acc), (2, m .casc)] }
/-- Field 4 with it, its clocks on, and a count of 3. -/
def fst (gsr : Bool) (step : Nat) : State :=
  let s := ((runF up 4).setFrt 4 { configured := true, gsr := gsr, we := true, io := true, ckEn := 3 }).wf (fieldPage 4) R.FCK_STAT_CK_ON 3
  let s := (s.wf (fieldPage 4) R.FCK_DIV_DIV 15).wf (fieldPage 4 + 4) R.FCK_DIV_DIV 10
  { s with fab := { s.fab with design := [(4, fdes)], q := [(4 * 262144, true), (4 * 262144 + 1, true)], mac := [(257, { p := 7 })] }, dbg := { step := [(4, step)] } }

theorem test_edge : (fdes.cells.map Prod.fst).Nodup ∧ (fdes.macs.map Prod.fst).Nodup ∧ (fst false 0).liveEdges 4 [(0, true), (1, false), (2, true)] = [(0, true), (1, false)] ∧
    after (.activeClockEdge 4 [(0, true)] [5, 6] [] [] [] []) (fst false 0) (fun t => !t.cellQ 4 0 && !t.cellQ 4 1 && t.cellQ 4 2 && !t.cellQ 4 16 &&
      (t.macAt 4 1).p == 16 && (t.macAt 4 2).p == 7 && t.free == (fst false 0).free + 4) = true ∧
    after (.activeClockEdge 4 [(1, false)] [] [] [] [] []) (fst false 3) (fun t => t.cellQ 4 0 && t.cellQ 4 1 && !t.cellQ 4 2 && t.cellQ 4 16 &&
      (t.macAt 4 1).p == 7 && tabGet (fun _ => 0) t.dbg.step 4 == 3) = true ∧
    after (.activeClockEdge 4 [(0, true)] [] [] [] [] []) (fst true 0) (fun t => !t.cellQ 4 0 && t.cellQ 4 16) = true := by decide +kernel
theorem test_edgeStep : (fst false 0).slowClock 4 = 0 ∧ after (.activeClockEdge 4 [(0, true)] [] [] [] [] []) (fst false 3) (fun t => tabGet (fun _ => 0) t.dbg.step 4 == 2) = true ∧
    after (.activeClockEdge 4 [(0, true)] [] [] [] [] []) (fst false 2) (fun t => t.flag (fieldPage 4) R.FCK_STAT_HALTED && t.rf (fieldPage 4) R.FCK_STAT_CK_ON == 0) = true := by
  decide +kernel
theorem test_mac : let v := (fst false 0).fabEnv 4 [5, 6] 0
    (v.macNext ⟨⟨0, false⟩, .mul, true, true, [], [], [], none, none, none, none⟩ { a := 3, b := 2 ^ 27 - 2, prod := 5 } 0) =
      { prod := -6, p := 5 } ∧
    (v.macNext ⟨⟨0, false⟩, .acc, true, false, [], [], [], none, none, none, none⟩ { a := 1, b := 1, p := 0x7FFFFFFFFFFFFFFF } 0).ovf = true ∧
    v.macNext ⟨⟨0, false⟩, .acc, true, false, [], [], [], none, some (.longH 0 0), none, none⟩ { a := 1 } 0 = {} ∧
    v.macNext ⟨⟨0, false⟩, .acc, true, false, [], [], [], some (.longH 3 0), none, none, none⟩ { a := 1 } 0 = { a := 1 } := by decide +kernel

/-- A design whose BM 5 is clocked by clock 0 at both ports, and that takes level 0 of edge 3 from a field-long track which the signal 5 feeds; a
track continues into another, and one is named with a source that cannot feed it. -/
def edes : FieldDesign :=
  { bms := [(5, ⟨true, false, ⟨6, 0, ⟨0, false⟩, false, 0⟩, ⟨6, 0, ⟨1, false⟩, false, 0⟩, 0, 0⟩)],
    tracks := [(.longH (levelPos 4 3 0) 0, .ext 5), (.l4 0 0 3 3, .cont (.longH 3 0)), (.l4 0 1 3 3, .cont (.longH 9 0)), (.longH 3 0, .ext 5)],
    levelOut := [(192, .longH (levelPos 4 3 0) 0)] }
/-- An output is what a block memory's port is given. -/
def ofBm (f b : Nat) (p : Bool) : Output → Bool
  | .bmPins f' b' p' _ => f' == f && b' == b && p' == p
  | _ => false
/-- Field 4 with it. -/
def est : State := { fst false 0 with fab := { (fst false 0).fab with design := [(4, edes)], q := [], mac := [] } }

theorem test_edgePresents : after (.activeClockEdge 4 [(0, true)] [5] [] [] [] []) est (fun t =>
      t.outs.contains (.levelTx 4 3 0 true) && t.outs.any (ofBm 4 5 false) && !t.outs.any (ofBm 4 5 true)) = true ∧
    (est.fabEnv 4 [5] 0).val (.track (.l4 0 0 3 3)) = true ∧ (est.fabEnv 4 [5] 0).val (.track (.l4 0 1 3 3)) = false ∧
    findTrack 4 edes (.l4 0 1 3 3) = none ∧ ((est.wf (fieldPage 4 + 4) R.FCK_DIV_DIV 5).liveEdges 4 [(0, true)]) = [] := by decide +kernel

theorem test_flips : (est.flipCfg 4 [(7, 3)]).fab.upset = [(4 * 139264 + 7, 8)] ∧
    after (.activeClockEdge 4 [] [] [] [] [] [(7, 3), (7, 3)]) est (fun t => t.fab.upset == []) = true := by decide +kernel

end Sys2Proof.Tests
end

/-! PROOF. The code of a stored block memory word (R125). The first part says of every code `eccCols w n` what its columns are, what its check
is and how a wrong check bit reads; the second takes it to the 8-bit columns of a block memory. -/
namespace Sys2Proof.Machine

/-! ### Weights -/

theorem popCount_succ (n x : Nat) : popCount (n + 1) x = popCount n x + (x.testBit n).toNat := by
  rw [popCount, List.range_succ, List.foldl_append, Nat.toNat_testBit, ← Nat.shiftRight_eq_div_pow]
  rfl

/-- A power of two has weight 1 where its bit is counted, which sets the columns of check bits apart from those of data bits. -/
theorem popCount_two_pow (n j : Nat) : popCount n (2 ^ j) = if j < n then 1 else 0 := by
  induction n with
  | zero => rfl
  | succ n ih =>
    rw [popCount_succ, ih, Nat.testBit_two_pow]
    rcases Nat.lt_trichotomy j n with h | h | h
    · rw [if_pos h, if_pos (Nat.lt_succ_of_lt h), decide_eq_false (Nat.ne_of_lt h), Bool.toNat_false]
    · rw [if_neg (Nat.not_lt.mpr (Nat.le_of_eq h.symm)), if_pos (Nat.lt_succ_of_le (Nat.le_of_eq h)), decide_eq_true h, Bool.toNat_true]
    · rw [if_neg (Nat.lt_asymm h), if_neg (Nat.not_lt.mpr (Nat.succ_le_of_lt h)), decide_eq_false (Nat.ne_of_gt h), Bool.toNat_false]

/-! ### Columns -/

/-- The values that a code with `w`-bit columns takes its columns from, in ascending order. -/
def dataColumns (w : Nat) : List Nat := (List.range (2 ^ w)).filter (fun x => decide (popCount w x ∈ [3, 5, 7]))

theorem eccCols_eq_take (w n : Nat) : eccCols w n = (dataColumns w).take n := by
  simp only [eccCols, dataColumns, List.mem_cons, List.not_mem_nil, or_false, Bool.decide_or, Bool.or_assoc]
  rfl

theorem mem_dataColumns {w c : Nat} : c ∈ dataColumns w ↔ c < 2 ^ w ∧ popCount w c ∈ [3, 5, 7] := by
  rw [dataColumns, List.mem_filter, List.mem_range, decide_eq_true_iff]

theorem dataColumns_ascending (w : Nat) : (dataColumns w).Pairwise (· < ·) :=
  List.pairwise_lt_range.filter _

theorem eccCols_ascending (w n : Nat) : (eccCols w n).Pairwise (· < ·) := by
  rw [eccCols_eq_take]
  exact (dataColumns_ascending w).take

theorem weight_of_mem_eccCols {w n c : Nat} (h : c ∈ eccCols w n) : c < 2 ^ w ∧ popCount w c ∈ [3, 5, 7] := by
  rw [eccCols_eq_take] at h
  exact mem_dataColumns.mp (List.mem_of_mem_take h)

/-- The columns are the lowest values of their weights: one left out lies above every column. -/
theorem lt_of_not_mem_eccCols {w n c x : Nat} (hc : c < 2 ^ w) (hw : popCount w c ∈ [3, 5, 7]) (hn : c ∉ eccCols w n)
    (hx : x ∈ eccCols w n) : x < c := by
  rw [eccCols_eq_take] at hn hx
  have hall : c ∈ (dataColumns w).take n ++ (dataColumns w).drop n := by
    rw [List.take_append_drop]
    exact mem_dataColumns.mpr ⟨hc, hw⟩
  have hdrop : c ∈ (dataColumns w).drop n := (List.mem_append.mp hall).resolve_left hn
  have hasc := dataColumns_ascending w
  rw [← List.take_append_drop n (dataColumns w), List.pairwise_append] at hasc
  obtain ⟨-, -, hlt⟩ := hasc
  exact hlt x hx c hdrop

theorem two_pow_not_mem_eccCols {w j : Nat} (n : Nat) (hj : j < w) : 2 ^ j ∉ eccCols w n := by
  intro h
  obtain ⟨-, hw⟩ := weight_of_mem_eccCols h
  rw [popCount_two_pow, if_pos hj] at hw
  exact absurd hw (by decide)

/-! ### The check and its reading -/

/-- The check gathered column by column, from a bit `i` on and onto a value `a`. -/
theorem foldl_cols_eq_xor_eccXor (cols : List Nat) (d i a : Nat) :
    (List.range cols.length).foldl (fun a k => if natBit d (i + k) then a ^^^ cols.getD k 0 else a) a = a ^^^ eccXor cols d i := by
  induction cols generalizing i a with
  | nil => exact (Nat.xor_zero a).symm
  | cons h hs ih =>
    rw [List.length_cons, List.range_succ_eq_map, List.foldl_cons, List.foldl_map, eccXor, ← Nat.xor_assoc]
    simp only [List.getD_cons_zero, List.getD_cons_succ, Nat.add_zero, Nat.succ_eq_add_one, ← Nat.add_assoc, Nat.add_right_comm i _ 1]
    rw [ih]
    split
    · rfl
    · rw [Nat.xor_zero]

theorem eccXor_eq_foldl (cols : List Nat) (d : Nat) :
    eccXor cols d 0 = (List.range cols.length).foldl (fun a i => if natBit d i then a ^^^ cols.getD i 0 else a) 0 := by
  have h := foldl_cols_eq_xor_eccXor cols d 0 0
  simp only [Nat.zero_add, Nat.zero_xor] at h
  exact h.symm

/-- One wrong check bit shows its own column, which is no data bit's, so the data are read as they stand. -/
theorem eccRead_check_bit_wrong {w j : Nat} (n d : Nat) (hj : j < w) :
    eccRead (eccCols w n) w d (eccXor (eccCols w n) d 0 ^^^ 2 ^ j) = ⟨d, 2 ^ j, true, false⟩ := by
  have hpos : 2 ^ j ≠ 0 := Nat.ne_of_gt (Nat.two_pow_pos j)
  have hdata : (eccCols w n).contains (2 ^ j) = false :=
    Bool.eq_false_iff.mpr fun h => two_pow_not_mem_eccCols n hj (List.contains_iff_mem.mp h)
  have hcheck : (List.range w).any (fun k => 2 ^ j == 2 ^ k) = true :=
    List.any_eq_true.mpr ⟨j, List.mem_range.mpr hj, beq_self_eq_true _⟩
  simp only [eccRead, ← Nat.xor_assoc, Nat.xor_self, Nat.zero_xor, hpos, hdata, hcheck, if_false, if_true, Bool.false_eq_true]

/-! ### The 72-bit word -/

theorem codeWord_toNat (d k : Nat) : (codeWord d k).toNat = d % 2 ^ 64 + k % 256 * 2 ^ 64 := by
  rw [codeWord, BitVec.toNat_ofNat]
  omega

theorem codeWord_data (d k : Nat) : natBits (codeWord d k).toNat 63 0 = d % 2 ^ 64 := by
  rw [codeWord_toNat, natBits, Nat.shiftRight_zero]
  omega

theorem codeWord_check (d k : Nat) : natBits (codeWord d k).toNat 71 64 = k % 256 := by
  rw [codeWord_toNat, natBits, Nat.shiftRight_eq_div_pow]
  omega

/-! ### The columns of a block memory -/

theorem length_cols8 : cols8.length = 64 := by decide +kernel

theorem take_eight_cols8 : cols8.take 8 = [0x07, 0x0B, 0x0D, 0x0E, 0x13, 0x15, 0x16, 0x19] := by decide +kernel

theorem cols8_getD {i : Nat} (h : i < 64) : cols8.getD i 0 = cols8[i]'(by rw [length_cols8]; exact h) := by
  rw [List.getD_eq_getElem?_getD, List.getElem?_eq_getElem (by rw [length_cols8]; exact h), Option.getD_some]

theorem cols8_getD_lt {i j : Nat} (hij : i < j) (hj : j < 64) : cols8.getD i 0 < cols8.getD j 0 := by
  rw [cols8_getD (Nat.lt_trans hij hj), cols8_getD hj]
  exact List.pairwise_iff_getElem.mp (eccCols_ascending 8 64) i j _ _ hij

theorem cols8_getD_mem {i : Nat} (h : i < 64) : cols8.getD i 0 ∈ cols8 := by
  rw [cols8_getD h]
  exact List.getElem_mem _

/-- Settles O15: the columns are the first 64 values of weight 3, 5 or 7 in ascending order, the check is gathered over them, and one wrong check
bit shows a column of weight 1, which is none of theirs. -/
theorem blockMemoryCode : Obligations.BlockMemoryCode := by
  refine ⟨length_cols8, fun i j => cols8_getD_lt, fun c => weight_of_mem_eccCols, ?above, take_eight_cols8, ?check,
    fun d k => ⟨codeWord_data d k, codeWord_check d k⟩, fun d j _ => eccRead_check_bit_wrong 64 d⟩
  case above => exact fun c hc hw hn => lt_of_not_mem_eccCols (w := 8) hc hw hn (cols8_getD_mem (by decide))
  case check =>
    intro d
    rw [← length_cols8]
    exact eccXor_eq_foldl cols8 d

end Sys2Proof.Machine

/-! PROOF. The FIFOs of the sensors' converters (R530, R532). A sample is one push and a read of MON_FIFO one pop, so the rules of the push and of
the pop are proved first, for every converter, and the obligation follows from them. -/
namespace Sys2Proof.Machine

/-! ### Converters and counter fields under the named updates -/

@[simp] theorem State.conv_wr (s : State) (a : Nat) (w : Word) (j : Nat) : (s.wr a w).conv j = s.conv j := rfl
@[simp] theorem State.conv_wf (s : State) (b : Nat) (f : Fld) (v j : Nat) : (s.wf b f v).conv j = s.conv j := rfl
@[simp] theorem State.conv_cntF (s : State) (b : Nat) (f : Fld) (n j : Nat) : (s.cntF b f n).conv j = s.conv j := rfl
@[simp] theorem State.conv_emit (s : State) (o : Output) (j : Nat) : (s.emit o).conv j = s.conv j := rfl

/-- At every register, where `State.setConv_rd` speaks of the one numbered as the converter. -/
@[simp] theorem State.rd_setConv (s : State) (k : Nat) (x : ConvSt) (a : Nat) : (s.setConv k x).rd a = s.rd a := rfl
@[simp] theorem State.rf_setConv (s : State) (k : Nat) (x : ConvSt) (b : Nat) (f : Fld) : (s.setConv k x).rf b f = s.rf b f := rfl

/-- A field of a register other than the one written keeps its value. -/
theorem State.rf_wr_ne {a b : Nat} {f : Fld} (s : State) (w : Word) (h : a ≠ b + f.ofs) : (s.wr a w).rf b f = s.rf b f := by
  rw [State.rf, State.rd_wr, if_neg h, State.rf]

/-- A counter field has counted, and stopped at its width's greatest value (R43). -/
theorem State.rf_cntF (s : State) (b : Nat) (f : Fld) (n : Nat) (h : f.hi < 32) :
    (s.cntF b f n).rf b f = satAdd (2 ^ (f.hi + 1 - f.lo) - 1) (s.rf b f) n := by
  rw [State.cntF, State.rf_wf _ _ _ _ h, Nat.mod_eq_of_lt]
  have hpos := Nat.two_pow_pos (f.hi + 1 - f.lo)
  unfold satAdd
  omega

/-- LEVEL reads as written, up to its 255 (R532). -/
theorem State.rf_wf_level (s : State) (b n : Nat) : (s.wf b R.MON_CONV_LEVEL (min 255 n)).rf b R.MON_CONV_LEVEL = min 255 n := by
  rw [State.rf_wf _ _ _ _ (by decide)]
  exact Nat.mod_eq_of_lt (Nat.lt_of_le_of_lt (Nat.min_le_left 255 n) (by decide))

/-- LEVEL and OVF_CNT are apart in MON_CONV (R532). -/
theorem State.rf_ovf_wf_level (s : State) (b v : Nat) :
    (s.wf b R.MON_CONV_LEVEL v).rf b R.MON_CONV_OVF_CNT = s.rf b R.MON_CONV_OVF_CNT :=
  State.rf_wf_apart _ _ _ _ _ _ (by decide) (Or.inr (by decide))

/-! ### The push of a sample -/

/-- A FIFO with room takes the sample behind those it holds. -/
theorem State.convPush_room {x : ConvSt} (s : State) (k : Nat) (w : Word) (h : x.fifo.length < 256) :
    s.convPush k x w = (s.setConv k { x with fifo := x.fifo ++ [w] }).wf (monBlk + 0x10 * k) R.MON_CONV_LEVEL (min 255 (x.fifo.length + 1)) :=
  if_pos h

/-- A full FIFO keeps what it holds, and the sample is counted. -/
theorem State.convPush_full {x : ConvSt} (s : State) (k : Nat) (w : Word) (h : 256 ≤ x.fifo.length) :
    s.convPush k x w = (s.setConv k x).cntF (monBlk + 0x10 * k) R.MON_CONV_OVF_CNT 1 :=
  if_neg (Nat.not_lt.mpr h)

/-- Of the registers a push writes MON_CONV of its converter alone. -/
theorem State.rd_convPush {a : Nat} (s : State) (k : Nat) (x : ConvSt) (w : Word) (h : monBlk + 0x10 * k + R.MON_CONV ≠ a) :
    (s.convPush k x w).rd a = s.rd a := by
  rcases Nat.lt_or_ge x.fifo.length 256 with room | full
  · rw [State.convPush_room s k w room, State.rd_wf_ne _ _ _ _ _ h, State.rd_setConv]
  · rw [State.convPush_full s k w full, State.cntF, State.rd_wf_ne _ _ _ _ _ h, State.rd_setConv]

/-- The converters other than the one pushed to are as they were. -/
theorem State.conv_convPush_ne {j k : Nat} (s : State) (x : ConvSt) (w : Word) (h : j ≠ k) : (s.convPush k x w).conv j = s.conv j := by
  rcases Nat.lt_or_ge x.fifo.length 256 with room | full
  · rw [State.convPush_room s k w room, State.conv_wf, State.conv_setConv, if_neg h.symm]
  · rw [State.convPush_full s k w full, State.conv_cntF, State.conv_setConv, if_neg h.symm]

/-! ### A sample -/

@[simp] theorem State.rd_coolDown (s : State) (a : Nat) : s.coolDown.rd a = s.rd a := by
  unfold State.coolDown
  split <;> rfl

@[simp] theorem State.rf_coolDown (s : State) (b : Nat) (f : Fld) : s.coolDown.rf b f = s.rf b f := by
  rw [State.rf, State.rd_coolDown, State.rf]

@[simp] theorem State.conv_coolDown (s : State) (j : Nat) : s.coolDown.conv j = s.conv j := by
  unfold State.coolDown
  split <;> rfl

theorem State.lt_of_mem_convChans {s : State} {k n : Nat} (h : n ∈ s.convChans k) : n < 148 :=
  List.mem_range.mp (List.mem_filter.mp h).1

/-- The visit on which a converter takes its next sample is on one of the 148 channels, and the FIFO is the converter's own. -/
theorem State.convVisit_some {s : State} {k : Nat} {x : ConvSt} (h : s.convVisit k = some x) : x.chan < 148 ∧ x.fifo = (s.conv k).fifo := by
  unfold State.convVisit at h
  dsimp only at h
  split at h
  · next stay =>
    cases h
    exact ⟨State.lt_of_mem_convChans (List.contains_iff_mem.mp (Bool.and_eq_true_iff.mp stay).1), rfl⟩
  · split at h
    · contradiction
    · next n found =>
      have mem : n ∈ s.convChans k := by
        rcases Option.or_eq_some_iff.mp found with further | ⟨-, wrapped⟩
        · exact List.mem_of_find?_eq_some further
        · exact List.mem_of_head? wrapped
      split at h
      · next same =>
        cases h
        exact ⟨same ▸ State.lt_of_mem_convChans mem, rfl⟩
      · cases h
        exact ⟨State.lt_of_mem_convChans mem, rfl⟩

/-- MON_SMP of a channel is none of the converters' MON_CONV. -/
theorem monConv_ne_monSmp {n : Nat} (k : Nat) (h : n < 148) : monBlk + 0x10 * k + R.MON_CONV ≠ monBlk + R.MON_SMP + 4 * n := by
  simp only [R.MON_CONV, R.MON_SMP]
  omega

/-- A sample is one word, stored in MON_SMP of its channel and pushed into its converter's FIFO, whatever its tag. -/
theorem sensorSample_eq_push {s : State} {k : Nat} {x : ConvSt} (v : Int) (satur : Bool) (h : s.convVisit k = some x) :
    ∃ (w : Word) (y : ConvSt) (u : State), sensorSample k v satur s = (u.convPush k y w).coolDown ∧ y.fifo = (s.conv k).fifo ∧
      (∀ j, u.conv j = s.conv j) ∧ u.rd (monBlk + R.MON_SMP + 4 * x.chan) = w ∧
      u.rf (monBlk + 0x10 * k) R.MON_CONV_OVF_CNT = s.rf (monBlk + 0x10 * k) R.MON_CONV_OVF_CNT := by
  obtain ⟨hchan, hfifo⟩ := State.convVisit_some h
  unfold sensorSample
  rw [h]
  dsimp only
  refine ⟨_, _, _, rfl, ?fifo, fun j => State.conv_wr _ _ _ j, ?smp, ?ovf⟩
  case fifo =>
    rw [← hfifo]
    split <;> rfl
  case smp => rw [State.rd_wr, if_pos rfl]
  case ovf => exact State.rf_wr_ne _ _ (monConv_ne_monSmp k hchan).symm

theorem exec_sensorSample {s : State} (k : Fin 4) (v : BitVec 17) (satur : Bool) (h : s.deaf = false) :
    exec (.sensorSample k v satur) s = .next (sensorSample k.val v.toInt satur s) := by
  show execSensorSample k v satur s = _
  rw [execSensorSample, h, if_neg Bool.false_ne_true]

theorem sensorSample_room {s : State} {k : Nat} {x : ConvSt} (v : Int) (satur : Bool) (h : s.convVisit k = some x)
    (room : (s.conv k).fifo.length < 256) :
    ((sensorSample k v satur s).conv k).fifo = (s.conv k).fifo ++ [(sensorSample k v satur s).rd (monBlk + R.MON_SMP + 4 * x.chan)] ∧
      (sensorSample k v satur s).rf (monBlk + 0x10 * k) R.MON_CONV_OVF_CNT = s.rf (monBlk + 0x10 * k) R.MON_CONV_OVF_CNT ∧
      (sensorSample k v satur s).rf (monBlk + 0x10 * k) R.MON_CONV_LEVEL = min 255 ((s.conv k).fifo.length + 1) ∧
      ∀ j, j ≠ k → (sensorSample k v satur s).conv j = s.conv j := by
  have apart := monConv_ne_monSmp k (State.convVisit_some h).1
  obtain ⟨w, y, u, heq, hy, hconv, hsmp, hovf⟩ := sensorSample_eq_push v satur h
  rw [← hy] at room ⊢
  rw [heq, State.rd_coolDown, State.rd_convPush _ _ _ _ apart, hsmp]
  simp only [State.conv_coolDown, State.rf_coolDown]
  refine ⟨?fifo, ?ovf, ?level, fun j hj => (State.conv_convPush_ne _ _ _ hj).trans (hconv j)⟩ <;> rw [State.convPush_room _ _ _ room]
  case fifo => rw [State.conv_wf, State.conv_setConv, if_pos rfl]
  case ovf => rw [State.rf_ovf_wf_level, State.rf_setConv, hovf]
  case level => rw [State.rf_wf_level]

theorem sensorSample_full {s : State} {k : Nat} {x : ConvSt} (v : Int) (satur : Bool) (h : s.convVisit k = some x)
    (full : 256 ≤ (s.conv k).fifo.length) :
    ((sensorSample k v satur s).conv k).fifo = (s.conv k).fifo ∧
      (sensorSample k v satur s).rf (monBlk + 0x10 * k) R.MON_CONV_OVF_CNT = min 255 (s.rf (monBlk + 0x10 * k) R.MON_CONV_OVF_CNT + 1) ∧
      ∀ j, j ≠ k → (sensorSample k v satur s).conv j = s.conv j := by
  obtain ⟨w, y, u, heq, hy, hconv, -, hovf⟩ := sensorSample_eq_push v satur h
  rw [← hy] at full ⊢
  rw [heq]
  simp only [State.conv_coolDown, State.rf_coolDown]
  refine ⟨?fifo, ?ovf, fun j hj => (State.conv_convPush_ne _ _ _ hj).trans (hconv j)⟩ <;> rw [State.convPush_full _ _ _ full]
  case fifo => rw [State.conv_cntF, State.conv_setConv, if_pos rfl]
  case ovf =>
    rw [State.rf_cntF _ _ _ _ (by decide), State.rf_setConv, hovf]
    exact Nat.min_comm _ _

/-! ### The pop of the oldest sample -/

theorem State.monPop_nil {s : State} {k : Nat} (h : (s.conv k).fifo = []) : s.monPop k = (0, s) := by
  simp only [State.monPop, h]

theorem State.monPop_cons {s : State} {k : Nat} {w : Word} {l : List Word} (h : (s.conv k).fifo = w :: l) :
    s.monPop k = (w, (s.setConv k { s.conv k with fifo := l }).wf (monBlk + 0x10 * k) R.MON_CONV_LEVEL (min 255 l.length)) := by
  simp only [State.monPop, h]

/-- A read of MON_FIFO that is allowed pops, and answers with the word popped. -/
theorem exec_monFifoPop {s : State} {r : Req} {k : Fin 4} (h : s.Allows r (monBlk + R.MON_FIFO + 0x10 * k.val) false) :
    exec (.monFifoPop r k) s = .next ((s.monPop k.val).2.emit (.rsp r .ok [(s.monPop k.val).1])) := by
  show execMonFifoPop r k s = _
  simp only [execMonFifoPop, State.gatedBy_allows _ h, State.answer_ok]

theorem gives_monFifoPop_nil {s : State} {r : Req} {k : Fin 4} (h : s.Allows r (monBlk + R.MON_FIFO + 0x10 * k.val) false)
    (empty : (s.conv k.val).fifo = []) :
    Gives (.monFifoPop r k) s (fun t => t.outs = .rsp r .ok [0] :: s.outs ∧ RegsBut [] s t ∧ Frame [.outs] s t) := by
  refine ⟨_, exec_monFifoPop h, ?_⟩
  rw [State.monPop_nil empty]
  refine ⟨rfl, fun _ _ => rfl, ?_⟩
  exact (State.emit_upd s _).frame _ (by intro p; cases p <;> decide)

theorem gives_monFifoPop_cons {s : State} {r : Req} {k : Fin 4} {w : Word} {l : List Word}
    (h : s.Allows r (monBlk + R.MON_FIFO + 0x10 * k.val) false) (held : (s.conv k.val).fifo = w :: l) :
    Gives (.monFifoPop r k) s (fun t => t.outs = .rsp r .ok [w] :: s.outs ∧ t.conv k.val = { s.conv k.val with fifo := l } ∧
      (∀ j, j ≠ k.val → t.conv j = s.conv j) ∧ t.rf (monBlk + 0x10 * k.val) R.MON_CONV_LEVEL = min 255 l.length ∧
      t.rf (monBlk + 0x10 * k.val) R.MON_CONV_OVF_CNT = s.rf (monBlk + 0x10 * k.val) R.MON_CONV_OVF_CNT ∧
      RegsBut [monBlk + R.MON_CONV + 0x10 * k.val] s t ∧ Frame [.outs, .regs, .start] s t) := by
  refine ⟨_, exec_monFifoPop h, ?_⟩
  rw [State.monPop_cons held]
  refine ⟨?outs, ?conv, fun j hj => ?others, ?level, ?ovf, fun a ha => ?regs, ?frame⟩
  case outs => rw [State.emit_outs, State.wf_outs, State.setConv_outs]
  case conv => rw [State.conv_emit, State.conv_wf, State.conv_setConv, if_pos rfl]
  case others => rw [State.conv_emit, State.conv_wf, State.conv_setConv, if_neg hj.symm]
  case level => rw [State.emit_rf, State.rf_wf_level]
  case ovf => rw [State.emit_rf, State.rf_ovf_wf_level, State.rf_setConv]
  case regs =>
    have apart : monBlk + 0x10 * k.val + R.MON_CONV ≠ a := by
      rw [Nat.add_right_comm]
      exact fun e => ha (List.mem_singleton.mpr e.symm)
    rw [State.emit_rd, State.rd_wf_ne _ _ _ _ _ apart, State.rd_setConv]
  case frame =>
    refine Upd.frame (m := 0x80000300) ?_ _ (by intro p; cases p <;> decide)
    exact .step (State.emit_upd ..) rfl (.step (State.wf_upd ..) rfl ((State.setConv_upd ..).mono rfl))

/-- Settles O55: a sample ends in one push, which stores or counts by the FIFO's length alone, and MON_FIFO takes the FIFO's head. -/
theorem sensorFifos : Obligations.SensorFifos := by
  refine ⟨fun k v satur x s hdeaf hvisit => ⟨fun room => ?_, fun full => ?_⟩,
    fun r k w l s hallows => ⟨gives_monFifoPop_cons hallows, gives_monFifoPop_nil hallows⟩⟩
  · exact ⟨_, exec_sensorSample k v satur hdeaf, sensorSample_room v.toInt satur hvisit room⟩
  · exact ⟨_, exec_sensorSample k v satur hdeaf, sensorSample_full v.toInt satur hvisit full⟩

end Sys2Proof.Machine
